-- ==== Sys2Proof/Word.lean ====
section
/-! DEFINITION. The word types of the manual: bytes, 32-bit and 64-bit words, and the canonical sparse map.
A `Map α` stands for a total function from unit numbers or addresses to `α`: a list of (key, value) pairs with
strictly rising keys that lists no entry equal to the default `d` an unlisted key holds. -/

namespace Sys2Proof

abbrev Byte := BitVec 8
abbrev W16 := BitVec 16
abbrev W32 := BitVec 32
abbrev W64 := BitVec 64

abbrev Map (α : Type) := List (Nat × α)

namespace Map
variable {α : Type}

/-- The value at key `k`; `d` where `k` is not listed. -/
@[irreducible] def get (d : α) : Map α → Nat → α
  | [], _ => d
  | (i, v) :: m, k => if i = k then v else get d m k

/-- The list with the entry of `k` taken out. -/
@[irreducible] def del (m : Map α) (k : Nat) : Map α := m.filter (fun e => e.1 != k)

/-- The list with `k` holding `v`, keys rising. -/
@[irreducible] def ins : Map α → Nat → α → Map α
  | [], k, v => [(k, v)]
  | (i, w) :: m, k, v =>
    if i = k then (k, v) :: m else if k < i then (k, v) :: (i, w) :: m else (i, w) :: ins m k v

/-- Write `v` at `k`: the default is never listed. -/
@[irreducible] def set [DecidableEq α] (d : α) (m : Map α) (k : Nat) (v : α) : Map α :=
  if v = d then del m k else ins m k v

/-- Change the value at `k` by `f`. -/
def upd [DecidableEq α] (d : α) (m : Map α) (k : Nat) (f : α → α) : Map α :=
  set d m k (f (get d m k))

/-- Every listed key is above `k`. -/
def above (k : Nat) : Map α → Bool
  | [] => true
  | (i, _) :: _ => decide (k < i)

/-- The canonical form: strictly rising keys, no entry equal to the default. -/
def wf [DecidableEq α] (d : α) : Map α → Bool
  | [] => true
  | (i, v) :: m => decide (v ≠ d) && above i m && wf d m

end Map

/-- Bits `hi` down to `lo` of a number. -/
def bitsOf (x hi lo : Nat) : Nat := (x >>> lo) % 2 ^ (hi + 1 - lo)

/-- Bit `i` of a number. -/
def bitOf (x i : Nat) : Bool := x.testBit i

/-- The number 1 for true. -/
def b2n (b : Bool) : Nat := if b then 1 else 0

/-- `n` little-endian bytes of a number. -/
def leBytes : Nat → Nat → List Byte
  | 0, _ => []
  | n + 1, x => BitVec.ofNat 8 x :: leBytes n (x / 256)

/-- The number that little-endian bytes hold. -/
def leNat : List Byte → Nat
  | [] => 0
  | b :: bs => b.toNat + 256 * leNat bs

/-- A two's-complement number of `w` bits. -/
def sgnOf (w x : Nat) : Int := if 2 * (x % 2 ^ w) < 2 ^ w then (x % 2 ^ w : Nat) else (x % 2 ^ w : Nat) - (2 ^ w : Nat)

/-- A number of `w` bits from an integer, modulo 2^w. -/
def ofSgn (w : Nat) (x : Int) : Nat := (x % (2 ^ w : Nat)).toNat

/-- Replace the element at index `i`. -/
def setAt {α : Type} (l : List α) (i : Nat) (v : α) : List α := l.set i v

/-- A fold over the numbers 0 to n − 1. -/
def forN {σ : Type} (n : Nat) (s : σ) (f : σ → Nat → σ) : σ := (List.range n).foldl f s

end Sys2Proof
end

