-- ==== Sys2Proof/Syntax.lean ====
section
/-! DEFINITION. The commands the block takes, one constructor per row of spec/opcode_table.json, and their operands.
Unit numbers are bounded by their type: logical cores, clusters, threads, engines, ports, stacks and domains. -/

namespace Sys2Proof

abbrev CoreN := Fin 1536
abbrev Thr := Fin 1024
abbrev Reg := Fin 16
abbrev Eng := Fin 8
abbrev Grp := Fin 64
abbrev Cluster := Fin 96
abbrev Se := Fin 384
/-- R178, R315: micro-sequencer numbers, 0 to 672. -/
abbrev Sq := Fin 673
/-- R229: the drawing units of one cluster. -/
abbrev Unit147 := Fin 147
abbrev Port := Fin 12
abbrev Stack := Fin 16
abbrev Chan := Fin 12
abbrev Die := Fin 4
/-- R500: domain instance minus one. -/
abbrev Dom := Fin 1667

/-- What SECDED finds in the words a command reads (R108, R147, R375, R376). -/
inductive EccRead where
  | clean | corrected | uncorrectable
  deriving DecidableEq, Repr

/-- What SECDED finds in the SRAM words a command reads, by device-local address; a word that is not listed is clean. -/
abbrev Hits := List (Nat × EccRead)

/-- What an HBM4 channel reports (R375). -/
inductive EccKind where
  | corrected | uncorrectable | lost
  deriving DecidableEq, Repr

/-- R115: the fields of an accumulate. -/
structure AccFields where
  eng : Eng
  mode : BitVec 3
  fmtA : BitVec 5
  fmtB : BitVec 5
  widthA : BitVec 4
  widthB : BitVec 4
  run : BitVec 2
  slot : Fin 8
  init : Bool
  len : BitVec 12
  table : Fin 4
  ra : Reg
  rb : Reg
  deriving DecidableEq, Repr

/-- R116: the fields of a drain. -/
structure DrainFields where
  eng : Eng
  slot : Fin 8
  fmtOut : BitVec 5
  widthOut : BitVec 4
  rmode : BitVec 2
  sat : Bool
  add : Bool
  clear : Bool
  ro : Reg
  rd : Reg
  cnt : Fin 64
  deriving DecidableEq, Repr

/-- R116: the fields of a table load. -/
structure TableFields where
  eng : Eng
  slot : Fin 4
  rs : Reg
  cnt : Fin 64
  deriving DecidableEq, Repr

/-- R125: the fields of a vector instruction. -/
structure VecFields where
  fx : BitVec 2
  fy : BitVec 2
  fz : BitVec 2
  rmode : BitVec 2
  sat : Bool
  rx : Reg
  ry : Reg
  rz : Reg
  rw : Reg
  rn : Reg
  deriving DecidableEq, Repr

/-- A move queue: that of a stream engine or that of a core's load unit. -/
inductive Mover where
  | se (s : Se)
  | lu (g : CoreN)
  deriving DecidableEq, Repr

/-- A writer that can wait for a scale publication (R189). -/
inductive Writer where
  | eng (g : CoreN) (e : Eng)
  | cvt (k : Cluster)
  deriving DecidableEq, Repr

/-- Who writes a dictionary object: a session, hub firmware of a member (R440). -/
inductive Conn where
  | session (sid : W32)
  | firmware (dev : BitVec 12)
  deriving DecidableEq, Repr

/-- Where a DAP frame arrives: a DTLS connection of M0 or M1, the local endpoint, or Flisol (R434, R440). -/
inductive DapLink where
  | dtls (conn : Nat)
  | loc
  | peer (src : BitVec 12) (ceiling : BitVec 3)
  deriving DecidableEq, Repr

/-- R430: the header of a DAP request frame. -/
structure DapHdr where
  link : DapLink
  ver : Byte
  flags : Byte
  fstatus : Byte
  seq : W32
  session : W32
  target : W16
  count : W16
  deriving DecidableEq, Repr

/-- R418: an object address. -/
structure ObjAddr where
  idx : W16
  sub : Byte
  inst : W16
  deriving DecidableEq, Repr

/-- R432: a write item; `data` holds LEN bytes. -/
structure WriteItem where
  addr : ObjAddr
  type : Byte
  data : List Byte
  deriving DecidableEq, Repr

/-- A request a DAP frame carries (R431). -/
inductive DapReq where
  | read (items : List ObjAddr)
  | write (items : List WriteItem)
  | dread (a : ObjAddr) (off len : Nat)
  | dwrite (a : ObjAddr) (start fin : Bool) (off total : Nat) (data : List Byte)
  | claim (role : Nat) (force : Bool)
  | subscribe (minsev : Nat) (mask : Nat)
  | keepalive
  | bye
  /-- a frame for another device, with its bytes (R440) -/
  | forward (frame : List Byte)
  deriving DecidableEq, Repr

/-- R341, R342, R348: what the sections of a plan image hold where the manual gives their content but no byte layout
(log entry 10). -/
structure PlanMember where
  dev : Nat
  index : Nat
  capable : Bool
  /-- R501: its keeper, 0xFFFF none -/
  keeper : Nat
  deriving DecidableEq, Repr

structure GateEntry where
  cluster : Nat
  off : Nat
  base : Nat
  inc : Nat
  season : Nat
  rsvd : Nat := 0
  deriving DecidableEq, Repr

/-- R61, R248, R262, R268, R271, R280, R287, R291, R314: what a tensor of the plan is to the step. -/
inductive TensorRole where
  | weight | carry | weightCopy | input | dy | running | gradient | moment | mask | candidate | list | eval | other
  deriving DecidableEq, Repr

/-- R268, R280, R292, R297, R314: the part of the step that an operation belongs to. -/
inductive OpPart where
  | forward | recompute | dataGrad | weightGrad | update | maskWork | eval | other
  deriving DecidableEq, Repr

/-- An operand of an accumulate: its tensor, its frames, the address of the first tile that they hold, and the active list (a
store offset) by which a predicted layer chose its group (R295). -/
structure PlanFeed where
  tsid : Nat
  frames : List Nat
  src : Nat := 0
  trans : Bool := false
  rel : Bool := false
  group : Option (Nat × Nat) := none
  deriving DecidableEq, Repr

/-- The sub-block that a drain writes or adds: tensor, frame, SUB, the number of the tile in its tensor, and whether the drain
completes the frame (R119: PUB). -/
structure PlanTile where
  tsid : Nat
  frame : Nat
  sub : Nat := 0
  tile : Nat := 0
  pub : Bool := false
  deriving DecidableEq, Repr

/-- R342, R347: what an operation of OPGRAPH does. Descriptors are those of the manual, byte for byte; hub-core work declares its
time in ns (R346); the work of a core's other instructions and of a micro-sequencer counts its instructions or cycles. -/
inductive OpWork where
  | hub (ns : Nat)
  | accumulate (g : CoreN) (f : AccFields) (a b : PlanFeed)
  | drain (g : CoreN) (f : DrainFields) (handle : W32) (out : PlanTile) (addend : Option PlanTile)
  | table (g : CoreN) (f : TableFields) (off : Nat)
  | vector (g : CoreN) (vop : Nat) (f : VecFields) (handle : W32) (count : Nat) (reads : List Nat) (writes : List Nat)
  | instructions (g : CoreN) (n : Nat)
  | move (se : Se) (desc : List Byte)
  | byteMove (se : Se) (src dst n : Nat)
  | pass (se : Se) (src dst : Nat × Nat) (drop : Bool)
  | coreMove (g : CoreN) (isStore : Bool) (off frame : Nat) (rel trans : Bool)
  | release (g : CoreN) (frame : Nat)
  | convert (k : Cluster) (desc : List Byte)
  | reduce (k : Cluster) (desc : List Byte)
  | buildTable (k : Cluster) (desc : List Byte)
  | maskTiles (k : Cluster) (desc : List Byte)
  | maskJob (k : Cluster) (op : Nat) (desc : List Byte)
  | predict (k : Cluster) (desc : List Byte)
  | publish (k : Cluster) (tsid : Nat)
  | clearLine (k : Cluster) (tsid : Nat)
  | normCheck (k : Cluster) (entry : Nat)
  | closeHealth (k : Cluster)
  | postHealth (k : Cluster)
  | sequencer (q : Sq) (cycles : Nat)
  deriving DecidableEq, Repr

/-- An operation of OPGRAPH (R342): its resource, season, the kinds of step it belongs to (bit 0 evaluation only, bit 1 mask
update only), its predecessors by index, its deadline in ns, its work, and where it stands in the step: part, layer,
micro-batch, the thread and launch group of its core, and for an accumulate the output tile and sub-block whose sum it takes part
in (R286). The order of the list is the issue order. -/
structure PlanOp where
  resource : Nat
  season : Nat
  kindMask : Nat
  preds : List Nat
  deadline : Option Nat
  work : OpWork
  part : OpPart := .other
  layer : Option Nat := none
  micro : Option Nat := none
  thread : Option Nat := none
  group : Option Nat := none
  sum : Option PlanTile := none
  deriving DecidableEq, Repr

/-- R342, R351: the flags of a layer. -/
structure PlanLayer where
  first : Bool := false
  last : Bool := false
  sensitive : Bool := false
  deriving DecidableEq, Repr

/-- R406, R414: the slots that all members' plans route through an output port in a season, for packets of other devices
(`forwarded`) or of the port's own. -/
structure PlanSlots where
  pos : Nat
  port : Nat
  season : Nat
  forwarded : Bool
  slots : Nat
  deriving DecidableEq, Repr

/-- R345, R239, R414: what this member shares with another: its settings, its stream identities (id, layer, uses), its slot
totals, and the latencies in ps that its ports measured (R406). -/
structure PlanPeer where
  pos : Nat
  fwdShare : Nat
  shape : Nat
  map : List Byte
  streams : List (Nat × Nat × Nat)
  slots : List PlanSlots
  lats : List (Nat × Nat)
  deriving DecidableEq, Repr

/-- R214: the fallback reserve of an ESC tensor that a cluster writes: where it lies. -/
structure PlanReserve where
  cluster : Nat
  tsid : Nat
  base : Nat
  deriving DecidableEq, Repr

/-- A rule that a section breaks, as the check finds it: refusal code, section TYPE, item. -/
structure PlanBreak where
  code : Nat
  section_ : Nat
  item : Nat
  deriving DecidableEq, Repr

/-- A dictionary object that a section loads (R342). -/
structure PlanObject where
  idx : Nat
  sub : Nat
  inst : Nat
  data : List Byte
  deriving DecidableEq, Repr

/-- A core program, loaded into the program store (R103); `defers` are the places of the words whose RUN or SAT the plan leaves
to the device (R117). -/
structure PlanProgram where
  core : Nat
  words : List W64
  defers : List Nat := []
  deriving DecidableEq, Repr

/-- Bytes that hub firmware writes into a cluster store at admission: scale tables, lists, rings (R185, R342). -/
structure PlanBytes where
  addr : Nat
  data : List Byte
  deriving DecidableEq, Repr

structure PlanCarousel where
  cluster : Nat
  members : List Nat
  base : Nat
  share : Nat
  turns : Nat
  se : Nat
  deriving DecidableEq, Repr

/-- R148, R342: a run of tiles a plan places: payloads at 4,096-byte steps, headers at 16-byte steps; its tensor, and the seasons
in which it is live, bit s for season s (R369). -/
structure PlanPlacement where
  payload : Nat
  header : Nat
  count : Nat
  tsid : Option Nat := none
  seasons : Nat := 15
  /-- R148, R248: bytes of a tile; mask tiles have 512 and no header -/
  tile : Nat := 4096
  deriving DecidableEq, Repr

/-- R342: what TENSORS says of a TSID's tensor beyond its record: INTn width, unsigned elements, columns; format, rows, class
(R305), the declared bound K of one that is stored compressed (0 dense), what it is, and its layer. -/
structure PlanTensor where
  tsid : Nat
  width : Nat
  isUnsigned : Bool
  cols : Nat
  fmt : Nat := 0
  rows : Nat := 0
  cls : Nat := 0
  k : Nat := 0
  role : TensorRole := .other
  layer : Nat := 0
  deriving DecidableEq, Repr

/-- R503, R504: a region of an image: where it lies, its bytes, whether it holds tiles. -/
structure HvReg where
  src : Nat
  len : Nat
  tiles : Bool
  deriving DecidableEq, Repr

structure PlanFacts where
  shape : Nat
  members : List PlanMember
  /-- R338: the cluster of each entry of the GATES section -/
  gateClusters : List Nat
  hubCores : List Nat
  evalWork : Bool
  ops : List PlanOp
  objects : List PlanObject
  numbers : List (Nat × Nat × Nat × Nat)
  programs : List PlanProgram
  stores : List PlanBytes
  carousels : List PlanCarousel
  placements : List PlanPlacement
  tensors : List PlanTensor
  scaledCores : List Nat
  layers : List PlanLayer := []
  /-- R291, R297: recompute spans as first and last layer, micro-batches per step, lag -/
  spans : List (Nat × Nat) := []
  micros : Nat := 1
  lag : Nat := 1
  peers : List PlanPeer := []
  slots : List PlanSlots := []
  reserves : List PlanReserve := []
  /-- R222: records (cluster, TSID) of which the plan leaves N, or H, to the device -/
  scaleDefers : List (Nat × Nat × Bool × Bool) := []
  /-- R314: evaluation work runs in every E-th step -/
  evalEvery : Nat := 0
  /-- Harvest regions in the DDR5 tier (R501 to R503): slot A and slot B, keep slot A and B, bytes of one image here and
  of the ward's, LEAN, and the metadata and payload regions in order -/
  hvLocalA : Nat
  hvLocalB : Nat
  hvKeepA : Nat
  hvKeepB : Nat
  hvSize : Nat
  hvWardSize : Nat
  hvLean : Bool
  hvRegs : List HvReg
  /-- R516: where a plan that spreads work over survivors takes its state from: image offset, address, bytes -/
  hvLoads : List (Nat × Nat × Nat)
  deriving DecidableEq, Repr

/-- R514, R517: what a member that has no local image takes from a keeper: the number and step of the image, its plan
image, what that holds, and the bytes of the state at their places. -/
structure HvTaken where
  hnum : Nat
  step : Nat
  image : List Byte
  facts : PlanFacts
  pieces : List PlanBytes
  deriving DecidableEq, Repr


/-- R476, R479: who asks for a domain state: a write to PD_REQUEST, or hub firmware for a wake source. -/
inductive PdSource where
  | object (c : Conn) | thaw | admission | substitution | restore | firmware | peer
  deriving DecidableEq, Repr

/-- R484: a reading: the hottest junction of a compute die or of a hub die in °C, or the input power in W over 1 ms and
over 1 s. -/
inductive SensorReading where
  | junction (die : Die) (c : Int)
  | hub (h : Fin 2) (c : Int)
  | input (ms s : Nat)
  deriving DecidableEq, Repr

/-- R547: what trips the hardware. -/
inductive TripCause where
  | junction | current | voltage | rail | converter
  deriving DecidableEq, Repr
/-- What the analogue and cryptographic work of a Thaw finds (log entry 7): the three PUF reads (R452), the copies of the repair record whose signature and IDKEY are right (R455), the signing
tree cache (R465), the die-to-die edges and their lane repairs (R21), the trained stacks and channels, and the DIMMs of
each channel as count and GiB (R28, R447). -/
structure BootFacts where
  puf : List Bool
  repair : List Bool
  treeOk : Bool
  edgesOk : Bool
  laneRepairs : Nat
  hbm : BitVec 16
  ddr : BitVec 12
  dimms : List (Nat × Nat)
  deriving DecidableEq, Repr
structure CorePos where
  die : Fin 4
  pos : Fin 25
  core : Fin 17
  deriving DecidableEq, Repr
structure ClPos where
  die : Fin 4
  pos : Fin 25
  deriving DecidableEq, Repr
/-- R453: the device-written records: the floor (R459), the index END (R465), the credential store (R469), power-on hours
(R487), the load-delta table (R489), the trip cause (R547), FL_SHAPE and FL_POSITION (R416). -/
inductive FlashRec where
  | floor | index | creds | hours | delta | trip | shape
  deriving DecidableEq, Repr
/-- R364: the arbiters of the package: a cluster-store bank, a bank of core local memory, the RNG refill of a cluster, an
output (N, E, S, W, L0, L1) of a die NoC router on a plane, a cluster's injection into a plane, the compute end of a
die-to-die edge in one direction, an output of a hub crossbar, a channel scheduler, and the two groups of a Flisol output
port (R404). -/
inductive Arb where
  | bank (k : Cluster) (b : Fin 64)
  | localMem (g : CoreN) (b : Fin 32)
  | rng (k : Cluster)
  | noc (die : Die) (plane : Fin 4) (router : Fin 25) (port : Fin 6)
  | inject (k : Cluster) (plane : Fin 4)
  | edge (e : Fin 8) (outward : Bool)
  | hub (h : Fin 2) (port : Fin 5)
  | hbm (h : Stack) (ch : Fin 32)
  | ddr (c : Chan)
  | flisolFwd (p : Port)
  | flisolLoc (p : Port)
  deriving DecidableEq, Repr
/-- R146: a request of a cluster-store port: its port and the engine behind it, its class, the block it covers, 32 to 128 bytes
inside one 128-byte-aligned block, and for a write its bytes. -/
structure PortReq where
  port : Fin 25
  eng : Nat
  cls : Nat
  off : Nat
  len : Nat
  data : Option (List Byte) := none
  deriving DecidableEq, Repr
/-- R387: the PAM4 levels of a codeword as its eight lanes bring them, 340 each. -/
abbrev Levels := List (List (Fin 4))
/-- R396: what a training step found: whether its work succeeded, and at the gate the pre-FEC BER as binary32 and the
uncorrectable codewords. -/
structure TrainRes where
  ok : Bool
  ber : BitVec 32
  uncorr : Nat
  /-- ADAPT (R387): the lanes on which this end, and the far end, request the precoder -/
  precodeHere : BitVec 8 := 0
  precodeThere : BitVec 8 := 0
  /-- ADAPT: the equalisation coefficients that it settled; GATE: the milliseconds over which it measured -/
  coeffs : List Nat := []
  gateMs : Nat := 1000
  deriving DecidableEq, Repr
/-- R391: a packet header; `rsvd` says that a reserved field is not zero. -/
structure PktHdr where
  typ : Byte
  vc : Bool := false
  leg : Bool := false
  tclass : BitVec 3 := 0
  err : Bool := false
  last : Bool := false
  rsvd : Bool := false
  dest : BitVec 12 := 0
  via : BitVec 12 := 0
  src : BitVec 12 := 0
  len : BitVec 16 := 0
  tag : BitVec 16 := 0
  addr : BitVec 43 := 0
  deriving DecidableEq, Repr
/-- R380: the scrubber of an HBM4 or a DDR5 channel. -/
inductive Scrubber where
  | hbm (h : Stack) (ch : Fin 32)
  | ddr (c : Chan)
  deriving DecidableEq, Repr
/-- R14, R141: a unit that fails after the start-up test: an engine of a core, a core by an uncorrectable error in its register
file, program store or scheduler state, a fixed-function engine of a cluster (0 to 11 in the order of chapter 01), the health
monitor of a cluster. -/
inductive FailedUnit where
  | engine (g : CoreN) (e : Eng)
  | coreState (g : CoreN)
  | fixedFunction (k : Cluster) (n : Fin 12)
  | monitor (k : Cluster)
  deriving DecidableEq, Repr
/-- R486: an eye monitor: of an HBM4 channel, or of a lane of a Flisol port. -/
inductive EyeUnit where
  | hbm (h : Stack) (ch : Fin 32)
  | lane (p : Port) (l : Fin 8)
  deriving DecidableEq, Repr

/-- The commands: one constructor per row of spec/opcode_table.json. -/
inductive Instr where
  -- Scalar
  | movi (g : CoreN) (t : Thr) (rd : Reg) (imm : BitVec 32)
  | movhi (g : CoreN) (t : Thr) (rd : Reg) (imm : BitVec 32)
  | add (g : CoreN) (t : Thr) (rd rs1 rs2 : Reg) (imm : BitVec 32)
  | sub (g : CoreN) (t : Thr) (rd rs1 rs2 : Reg) (imm : BitVec 32)
  | andB (g : CoreN) (t : Thr) (rd rs1 rs2 : Reg) (imm : BitVec 32)
  | orB (g : CoreN) (t : Thr) (rd rs1 rs2 : Reg) (imm : BitVec 32)
  | xorB (g : CoreN) (t : Thr) (rd rs1 rs2 : Reg) (imm : BitVec 32)
  | shl (g : CoreN) (t : Thr) (rd rs1 rs2 : Reg) (imm : BitVec 32)
  | shr (g : CoreN) (t : Thr) (rd rs1 rs2 : Reg) (imm : BitVec 32)
  | sra (g : CoreN) (t : Thr) (rd rs1 rs2 : Reg) (imm : BitVec 32)
  | mul (g : CoreN) (t : Thr) (rd rs1 rs2 : Reg) (imm : BitVec 32)
  | ldl (g : CoreN) (t : Thr) (rd rs1 : Reg) (imm : BitVec 32) (ecc : EccRead)
  | stl (g : CoreN) (t : Thr) (rs1 rs2 : Reg) (imm : BitVec 32)
  | ldc (g : CoreN) (t : Thr) (rd rs1 : Reg) (imm : BitVec 32) (ecc : EccRead)
  | stc (g : CoreN) (t : Thr) (rs1 rs2 : Reg) (imm : BitVec 32)
  | tld (g : CoreN) (t : Thr) (rs1 rs2 : Reg) (imm : BitVec 32)
  | tst (g : CoreN) (t : Thr) (rs1 rs2 : Reg) (imm : BitVec 32)
  | frel (g : CoreN) (t : Thr) (rs1 : Reg) (imm : BitVec 32)
  | setstr (g : CoreN) (t : Thr) (rs1 : Reg)
  | rdph (g : CoreN) (t : Thr) (rd : Reg)
  | rdid (g : CoreN) (t : Thr) (rd : Reg)
  -- Control
  | j (g : CoreN) (t : Thr) (imm : BitVec 32)
  | beq (g : CoreN) (t : Thr) (rs1 rs2 : Reg) (imm : BitVec 32)
  | bne (g : CoreN) (t : Thr) (rs1 rs2 : Reg) (imm : BitVec 32)
  | bltu (g : CoreN) (t : Thr) (rs1 rs2 : Reg) (imm : BitVec 32)
  | bgeu (g : CoreN) (t : Thr) (rs1 rs2 : Reg) (imm : BitVec 32)
  | blt (g : CoreN) (t : Thr) (rs1 rs2 : Reg) (imm : BitVec 32)
  | bge (g : CoreN) (t : Thr) (rs1 rs2 : Reg) (imm : BitVec 32)
  | loop (g : CoreN) (t : Thr) (rd : Reg) (imm : BitVec 32)
  | halt (g : CoreN) (t : Thr)
  -- Sync
  | wait (g : CoreN) (t : Thr) (rs1 : Reg) (imm : BitVec 32)
  | sig (g : CoreN) (t : Thr) (imm : BitVec 32)
  | bar (g : CoreN) (t : Thr)
  | fence (g : CoreN) (t : Thr)
  | aadd (g : CoreN) (t : Thr) (rd rs1 rs2 : Reg) (imm : BitVec 32) (hits : Hits)
  | acas (g : CoreN) (t : Thr) (rd rs1 rs2 : Reg) (imm : BitVec 32) (hits : Hits)
  | amax (g : CoreN) (t : Thr) (rd rs1 rs2 : Reg) (imm : BitVec 32) (hits : Hits)
  | watch (g : CoreN) (t : Thr) (rs1 rs2 : Reg) (hits : Hits)
  | waitph (g : CoreN) (t : Thr) (rs1 : Reg)
  | reservedInstruction (g : CoreN) (t : Thr)
  -- Matrix
  | accumulate (g : CoreN) (t : Thr) (f : AccFields)
  | drain (g : CoreN) (t : Thr) (f : DrainFields) (hits : Hits)
  | tableLoad (g : CoreN) (t : Thr) (f : TableFields)
  -- Vector
  | vadd (g : CoreN) (t : Thr) (f : VecFields) (hits : Hits)
  | vsub (g : CoreN) (t : Thr) (f : VecFields) (hits : Hits)
  | vmul (g : CoreN) (t : Thr) (f : VecFields) (hits : Hits)
  | vfma (g : CoreN) (t : Thr) (f : VecFields) (hits : Hits)
  | vmax (g : CoreN) (t : Thr) (f : VecFields) (hits : Hits)
  | vmin (g : CoreN) (t : Thr) (f : VecFields) (hits : Hits)
  | vabs (g : CoreN) (t : Thr) (f : VecFields) (hits : Hits)
  | vexp2 (g : CoreN) (t : Thr) (f : VecFields) (hits : Hits)
  | vlog2 (g : CoreN) (t : Thr) (f : VecFields) (hits : Hits)
  | vrcp (g : CoreN) (t : Thr) (f : VecFields) (hits : Hits)
  | vrsq (g : CoreN) (t : Thr) (f : VecFields) (hits : Hits)
  | vrsum (g : CoreN) (t : Thr) (f : VecFields) (hits : Hits)
  | vrmax (g : CoreN) (t : Thr) (f : VecFields) (hits : Hits)
  | wupd (g : CoreN) (t : Thr) (f : VecFields) (hits : Hits)
  -- CoreEvents
  | queueEntryFreed (g : CoreN) (t : Thr)
  | waitSyncSatisfied (g : CoreN) (t : Thr)
  | fenceComplete (g : CoreN) (t : Thr)
  | barrierRelease (g : CoreN) (grp : Grp)
  | phaseStampReached (g : CoreN)
  | watchWake (g : CoreN) (t : Thr) (hits : Hits)
  | accumulateComplete (g : CoreN) (e : Eng) (hits : Hits)
  | drainComplete (g : CoreN) (e : Eng) (hits : Hits)
  | tableLoadComplete (g : CoreN) (e : Eng) (hits : Hits)
  | scaleLineWritten (k : Cluster) (tsid : BitVec 16) (hits : Hits)
  | scaleWaitLimit (w : Writer)
  | scaleReportFlush (g : CoreN) (e : Eng) (tsid : BitVec 16)
  | workListPoll (g : CoreN) (l : Fin 4) (hits : Hits)
  | launchGroupComplete (g : CoreN) (grp : Grp) (hits : Hits)
  | coreHangLimit (g : CoreN) (t : Thr)
  | frameRelease (g : CoreN) (f : Fin 240)
  -- Stream
  | tmove (se : Se) (ra : Reg) (hits : Hits)
  | bmove (se : Se) (ra rb : Reg) (hits : Hits)
  | qwait (se : Se)
  | pass (se : Se) (ra rb : Reg) (drop : Bool)
  | moverSourceRead (m : Mover) (hits : Hits)
  | tileDeliveryComplete (m : Mover) (hits : Hits)
  | tileRefetchComplete (m : Mover) (hits : Hits)
  | carouselPassExecute (se : Se) (hits : Hits)
  | moveDone (m : Mover)
  -- Seq
  | seqNop (q : Sq)
  | seqMovi (q : Sq) (rd : Reg) (imm : BitVec 18)
  | seqMovhi (q : Sq) (rd : Reg) (imm : BitVec 16)
  | seqAdd (q : Sq) (rd ra rb : Reg) (imm : BitVec 14)
  | seqSub (q : Sq) (rd ra rb : Reg) (imm : BitVec 14)
  | seqAnd (q : Sq) (rd ra rb : Reg) (imm : BitVec 14)
  | seqOr (q : Sq) (rd ra rb : Reg) (imm : BitVec 14)
  | seqXor (q : Sq) (rd ra rb : Reg) (imm : BitVec 14)
  | seqShl (q : Sq) (rd ra rb : Reg) (imm : BitVec 14)
  | seqShr (q : Sq) (rd ra rb : Reg) (imm : BitVec 14)
  | sltu (q : Sq) (rd ra rb : Reg) (imm : BitVec 14)
  | seqLd (q : Sq) (rd ra : Reg) (imm : BitVec 14) (hits : Hits)
  | seqSt (q : Sq) (ra rb : Reg) (imm : BitVec 14)
  | seqAadd (q : Sq) (rd ra rb : Reg) (hits : Hits)
  | seqJ (q : Sq) (imm : BitVec 14)
  | seqBeq (q : Sq) (ra rb : Reg) (imm : BitVec 14)
  | seqBne (q : Sq) (ra rb : Reg) (imm : BitVec 14)
  | seqBltu (q : Sq) (ra rb : Reg) (imm : BitVec 14)
  | waitw (q : Sq) (ra rb : Reg) (imm : BitVec 14) (hits : Hits)
  | seqWaitph (q : Sq) (ra : Reg)
  | seqSig (q : Sq) (ra : Reg) (imm : BitVec 14)
  | seqRdph (q : Sq) (rd : Reg)
  | seqDone (q : Sq)
  | seqFault (q : Sq)
  | seqWaitSatisfied (q : Sq) (hits : Hits)
  | seasonTrigger (q : Sq) (n : Fin 8)
  | stampTrigger (q : Sq) (n : Fin 8)
  | eventTrigger (q : Sq) (n : Fin 8)
  | seqRunStart (q : Sq)
  -- Scale
  | spub (k : Cluster) (rd ra rb : Reg) (hits : Hits)
  | srst (k : Cluster) (ra : Reg) (hits : Hits)
  | converterTake (k : Cluster) (hits : Hits)
  | cvt (k : Cluster) (hits : Hits)
  | axpby (k : Cluster) (hits : Hits)
  | axpbySq (k : Cluster) (hits : Hits)
  | cvtDescriptorDone (k : Cluster)
  | reductionTake (k : Cluster) (hits : Hits)
  | sum (k : Cluster) (hits : Hits)
  | sumsq (k : Cluster) (hits : Hits)
  | maxabs (k : Cluster) (hits : Hits)
  | redDescriptorDone (k : Cluster)
  | tableRingTake (k : Cluster) (hits : Hits)
  | ltbDefault (k : Cluster)
  | ltbCopy (k : Cluster) (hits : Hits)
  | ltbScaled (k : Cluster) (hits : Hits)
  -- Rng
  | maskJob (k : Cluster) (hits : Hits)
  | maskJobDone (k : Cluster)
  | contextPrepared (k : Cluster) (u : Unit147)
  | rngRefillGrant (k : Cluster) (u : Unit147) (row : Fin 16)
  -- Sparse
  | mcapt (k : Cluster) (rd ra : Reg) (hits : Hits)
  | mupd (k : Cluster) (rd ra : Reg) (hits : Hits)
  | mapply (k : Cluster) (rd ra : Reg) (hits : Hits)
  | cpack (k : Cluster) (rd ra : Reg) (hits : Hits)
  | mcheck (k : Cluster) (rd ra : Reg) (hits : Hits)
  | predictorTake (k : Cluster) (hits : Hits)
  | predictorDone (k : Cluster) (hits : Hits)
  -- Health
  | hclose (k : Cluster) (ra : Reg) (hits : Hits)
  | nchk (k : Cluster) (rd ra : Reg) (hits : Hits)
  | hpost (k : Cluster) (ra : Reg) (hits : Hits)
  | hcollect (rd rb : Reg)
  | lchk (rd ra : Reg)
  | risk (rd rb : Reg)
  | healthSummaryArrival (k : Cluster)
  | taintNoticeReceive (step : BitVec 48) (dev : BitVec 12) (cause : BitVec 16)
  -- Cadence
  | gateWordWrite (k : Cluster) (off : BitVec 24) (val : BitVec 32)
  | doneReport
  | doneReceive (step : BitVec 48) (season : Fin 4) (dev : BitVec 12)
  | cadenceWordSend
  | cadenceWordReceive (p : Port) (w : BitVec 128)
  | boundaryReached
  | boundaryRelease
  | boundaryWordReceive (p : Port) (w : BitVec 128)
  | holdLimit
  | cadenceLoss
  | backupTakeover
  | cutOff
  | cadenceInWord (w : BitVec 128) (periodNs : Option Nat)
  | cadenceOutFrame
  -- Admission
  | admPlan (c : Conn) (image : List Byte)
  | check (c : Conn)
  | discard (c : Conn)
  | admissionDone (facts : PlanFacts)
  | verdictReceive (planId : BitVec 64) (code : BitVec 16) (dev : BitVec 12) (fromMaster : Bool)
  | admittedTimeout
  | stop (c : Conn)
  | abort (c : Conn)
  -- Dap
  | hello (h : DapHdr) (gens role : Byte) (name : List Byte)
  | read (h : DapHdr) (items : List ObjAddr)
  | write (h : DapHdr) (items : List WriteItem)
  | dread (h : DapHdr) (a : ObjAddr) (off len : BitVec 32)
  | dwrite (h : DapHdr) (a : ObjAddr) (begin_ end_ : Bool) (off total : BitVec 32) (data : List Byte)
  | claim (h : DapHdr) (role : Byte) (force : Bool)
  | subscribe (h : DapHdr) (minsev : Byte) (classmask : BitVec 16)
  | keepalive (h : DapHdr)
  | bye (h : DapHdr)
  | malformedFrame (h : DapHdr) (op : Byte) (readable : Bool)
  | dtlsHandshake (port : Fin 2) (mac : BitVec 48) (udp : BitVec 16) (src : BitVec 128) (conn : Nat) (ident key : List Byte)
  | sessionTimeout (sid : BitVec 32)
  | heldFrameTimeout (sid seq : BitVec 32)
  | eventFrameSend (sid : BitVec 32)
  | dapForward (h : DapHdr) (frame : List Byte)
  | dapFragmentReceive (p : Port) (target src : BitVec 12) (n : Byte) (first last : Bool) (ceiling : BitVec 3) (body : List Byte)
  | fragmentTimeout (src : BitVec 12)
  | forwardResponseTimeout (sid seq : BitVec 32)
  | objectWrite (c : Conn) (w : WriteItem)
  -- Objects
  | hlthTaintReq (c : Conn) (v : Byte)
  | scaleRecal (c : Conn) (tsid : BitVec 16)
  | hlthLoss (c : Conn) (v : BitVec 64)
  | hlthEvalLoss (c : Conn) (v : BitVec 64)
  | ageReplan (c : Conn) (v : Byte)
  -- Power
  | pdRequestOn (src : PdSource) (d : Dom)
  | pdRequestRetention (src : PdSource) (d : Dom)
  | pdRequestOff (src : PdSource) (d : Dom)
  | offLocked (src : PdSource) (d : Dom)
  | pdRequestApply (d : Dom)
  | domainGood (d : Dom)
  | domainTransitionTimeout (d : Dom)
  | pwrDieTargetMhz (c : Conn) (die : Die) (mhz : BitVec 16)
  | pwrDieFreqMhz (c : Conn) (die : Die) (mhz : BitVec 16)
  | pwrDieVcore (c : Conn) (die : Die) (v : BitVec 16)
  | vcoreSlewStep (die : Die)
  | settleDone (die : Die)
  | thermalSensorRead (r : SensorReading)
  | throttleStep (die : Die)
  | hbmTempReport (h : Stack) (tempC : Int)
  | hardwareTrip (cause : TripCause) (die : Die) (value : Nat)
  | inputUndervoltage (mv : Nat)
  | resetNLow
  | pwrgoodLow
  -- Thaw
  | resetNRise (straps : BitVec 7) (vinMv : Nat) (boot : BootFacts)
  | thawStepLimit (step : Fin 13) (boot : BootFacts) (unfinished : List Nat)
  | thawStepDone (boot : BootFacts)
  | clusterStoreGroup (n : Fin 9)
  | thawWave (w : Fin 18) (railInWindow : Bool)
  | chunkReceive (cp : CorePos) (chunk : List Byte)
  | chunkEnd (cp : CorePos) (chunk : List Byte)
  | chunkRepairRequest (cp : CorePos) (mask : BitVec 64)
  | imageHashDone (cp : CorePos)
  | startUpTestDone (failedCores : List CorePos) (failedClusters : List ClPos)
  | thawReady
  | fwImage (c : Conn) (data : List Byte)
  | fwVerify (c : Conn)
  | fwActivate (c : Conn)
  | fwCommit (c : Conn)
  | attNonce (sid : BitVec 32) (nonce : List Byte)
  | quoteSigned (recordWriteOk : Bool)
  | secCredWrite (c : Conn) (data : List Byte)
  | secCredDelete (c : Conn) (ident : List Byte)
  | flashRecordWrite (r : FlashRec) (data : List Byte) (complete : Bool)
  -- Arb
  | arbPrio (c : Conn) (cls : Fin 7) (v : Byte)
  | arbiterGrant (a : Arb) (reqs : List (Nat × Nat)) (blocks : List PortReq)
  -- Sideband
  | sbStatus
  | sbRecovLen (v : BitVec 32)
  | sbRecovData (v : BitVec 32)
  | sbBegin
  | recoveryCommit
  | recoveryVerifyDone (boot : BootFacts)
  -- Link
  | portTrainingStepDone (p : Port) (res : TrainRes)
  | portTrainingTimeout (p : Port)
  | ident (p : Port) (pos shape : BitVec 12) (rail : Fin 2) (port : BitVec 4) (gen : BitVec 3)
  | lat (p : Port) (stampPs echoPs nowPs : Nat)
  | berWindowCheck (p : Port) (berF32 : BitVec 32) (uncorr : Nat)
  | codewordReceive (p : Port) (seq : Fin 512) (replayed : Bool) (rx : Levels)
  | nakReceive (p : Port) (ack : BitVec 9)
  | credit (p : Port) (freed : List (BitVec 16)) (ctl : List (BitVec 8))
  | rd (p : Port) (h : PktHdr) (hits : Hits)
  | wr (p : Port) (h : PktHdr) (data : List Byte)
  | cpl (p : Port) (h : PktHdr)
  | cpld (p : Port) (h : PktHdr) (data : List Byte)
  | packetForward (p : Port) (h : PktHdr) (data : List Byte)
  | packetStart (p : Port) (fwd loc : Option (Nat × Fin 4))
  | completionTimeout (tag : BitVec 16)
  | downset (pos : BitVec 12) (port : BitVec 4) (down : Bool)
  | pathlat (p : Port) (ns : BitVec 32)
  | doneMessageForward (p : Port) (typ : Byte) (body : BitVec 128)
  -- Mem
  | d2dLaneFail (edge : Fin 8) (spareLeft : Bool)
  | hbmErrorReport (h : Stack) (ch : Fin 32) (kind : EccKind) (addr : BitVec 43)
  | ddrUncorrectable (addr : BitVec 43)
  | ddrChannelLoss (d : Chan)
  | csScrubSlot (k : Cluster) (bank : Fin 64) (ecc : EccRead)
  | hbmScrubRead (h : Stack) (ch : Fin 32) (ecc : EccRead)
  | ddrScrubRead (d : Chan) (ecc : EccRead)
  | scrubWriteBack (u : Scrubber)
  | scrubPassDue (u : Scrubber)
  | hbmCalibration (h : Stack) (ch : Fin 32)
  | zqCalibration (d : Chan)
  | telemetrySnapshot (granted : Bool)
  | wearLevelMove
  -- Age
  | canaryReading (die : Die) (slackPs : Nat) (meanMa minMa maxMa : Nat)
  | ringOscReading (die : Die) (driftPpm : Int)
  | powerOnHour
  | plannerRun (die : Die)
  | marginPlanApply (die : Die)
  -- Harvest
  | hvCommand (c : Conn) (v : Byte)
  | hvRequest (dev : BitVec 16)
  | hvNext (v : BitVec 64)
  | announceAckTimeout
  | harvestStop
  | harvestCopyDone (stopMs : Nat) (hits : Hits)
  | hvCommit (hnum : BitVec 32)
  | exportRegionReceive (region : Nat) (data : List Byte) (tileCrcOk : Bool) (lastRegion : Bool)
  | hvKeepSealed (hnum : BitVec 32)
  | hvRestore (v : BitVec 64) (dev : BitVec 12)
  | restoreLoadDone (crcOk : Bool) (taken : Option HvTaken)
  -- Island
  | islandReset (pufReads : List Bool) (calEn : Bool)
  | adcSample (v amp : Int)
  | pulseEnd
  | islandSelfCheck (adcDevPpm clkDevPpm : Nat)
  | workFrameSend
  | workFrameReceive (frame : List Byte)
  | noworkTimeout
  | recordMoment (hour : Bool)
  | recordSigned (flashOk : Bool)
  | recordRotationSend
  | statusFrameSend
  | islandCheckpoint
  | calibrationSession (flashOk : Bool) (write : Option (List Byte))
  | hubRecordReceive (rec : List Byte) (sigOk : Bool)
  | recordLinkSilent
  -- Late
  | unitFailureDetected (u : FailedUnit)
  | ddrCorrectedError (d : Chan)
  | cadenceInSilence
  | neighbourDetect (p : Port)
  | fwVerifyDone (boot : BootFacts)
  | signingTreeRebuilt
  | eyeMonitorReading (u : EyeUnit) (falling : Bool)
  | statusFrameReceive (frame : List Byte)
  | islandSupplyLoss
  deriving DecidableEq, Repr

end Sys2Proof
end

