-- ==== Sys2Proof/Machine/Crc.lean ====
section
/-! DEFINITION. CRC-32C as R153 gives it: polynomial 0x1EDC6F41 reflected, initial value and final XOR 0xFFFF_FFFF. -/

namespace Sys2Proof.Machine

/-- One bit of the reflected division. -/
def crcBit (c : Nat) : Nat := if c % 2 = 1 then (c / 2) ^^^ 0x82F63B78 else c / 2

def crcByte (c : Nat) (b : Byte) : Nat :=
  let c := c ^^^ b.toNat
  crcBit (crcBit (crcBit (crcBit (crcBit (crcBit (crcBit (crcBit c)))))))

/-- CRC-32C over bytes in address order. -/
def crc32c (bs : List Byte) : Nat := bs.foldl crcByte 0xFFFFFFFF ^^^ 0xFFFFFFFF

/-- Bytes of a list at an offset. -/
def sliceB (l : List Byte) (off n : Nat) : List Byte := (l.drop off).take n

/-- A little-endian field of a byte list. -/
def fieldB (l : List Byte) (off n : Nat) : Nat := leNat (sliceB l off n)

/-- Overwrite bytes of a list at an offset. -/
def overB (l : List Byte) (off : Nat) (bs : List Byte) : List Byte :=
  l.take off ++ bs ++ l.drop (off + bs.length)

/-- A descriptor of `n` bytes whose last four hold the CRC of the rest. -/
def crcTail (l : List Byte) (n : Nat) : Bool := fieldB l (n - 4) 4 == crc32c (l.take (n - 4))

end Sys2Proof.Machine
end

