-- ==== Sys2Proof/Config.lean ====
section
/-! DEFINITION. What an implementation fixes and what the manual leaves open. Every constant without a body is a free
value: nothing can be proved of what it is. -/

namespace Sys2Proof.Config

/-- R126: VEXP2 and VLOG2 within 2 ulp, VRCP and VRSQ within 1 ulp of binary32: fixed functions of their input whose
choice inside that bound the manual leaves open. The argument and the result are binary32 bits; 0 is the value nearest the
exact one, −2 to 2 the offset in ulp. -/
opaque exp2Off : Nat → Int
opaque log2Off : Nat → Int
opaque rcpOff : Nat → Int
opaque rsqOff : Nat → Int

/-- R121, R125: bits [63:32] of RD after RDID, and of RZ after a vector reduction: the manual names only the lower bits. -/
opaque upper32 : Nat → BitVec 32

/-- R126: the leaf order of VRSUM's fixed pairwise tree over 64 elements, which the manual leaves open; where it is no
permutation of 0 to 63 the leaves stand in element order. -/
opaque treeLeaf : Nat → Nat

/-- R316: the code of a negative squared norm, whose logarithm the manual does not give, as a function of its E8M7 bits. -/
opaque negativeNorm : Nat → Int

/-- R436: a session id is non-zero and random: the draw for the n-th free value. -/
opaque sessionId : Nat → BitVec 32

/-- R530: EPOCH of the work-counter collector, drawn at its start. -/
opaque epoch : Nat → BitVec 64

/-- R504: SRC of the manifest's entry for the plan image, which has no device-local address. -/
opaque planRegionSrc : BitVec 64

/-- R458: byte `i` of the SHAKE256 of the primary (0) and the recovery (1) manifest key, which the boot ROM holds. -/
opaque romKeyDigest (keysel i : Nat) : BitVec 8

/-- R464: the identity public key that K_dev gives, byte by byte; the manual leaves K_dev to the silicon (R452). -/
opaque idPubkey : Nat → BitVec 8

/-- R464, R467: byte `i` of the identity signature under an index over a message, after its 5 index bytes. -/
opaque idSignature (index : Nat) (msg : List (BitVec 8)) (i : Nat) : BitVec 8

/-- R464: the production key's signature in the identity endorsement, byte by byte. -/
opaque idEndorsement : Nat → BitVec 8

/-- R486, R488: the factory margin record: V_base of a die and point in µV, and the canaries' sensitivity k in fs per mV, which
the manual leaves to each part. -/
opaque marginBase (die point : Nat) : Nat
opaque canaryK (die point : Nat) : Nat

/-- R538, R533: the SHAKE256 of the island ROM, the island public key, the factory's endorsement signature, and a byte of
the island signature under an index, after its 5 index bytes: fixed by the silicon and the factory. -/
opaque islandRomDigest : Nat → BitVec 8
opaque islandPubkey : Nat → BitVec 8
opaque islandEndorsement : Nat → BitVec 8
opaque islandSignature (index : Nat) (msg : List (BitVec 8)) (i : Nat) : BitVec 8

/-- R533: PREV of the first record since manufacture, which has no previous one. -/
opaque firstPrev : Nat → BitVec 8

/-- R533: VMIN (0), VMAX (1) and PMAX (2) of a record whose interval holds no whole second, by RSEQ. -/
opaque emptyInterval (field rseq : Nat) : BitVec 32

/-- R370: the slots of response packets that wait at a hub die's injection points before a target accepts no further request; the
manual gives the space no size. -/
opaque responseSlots : Nat

end Sys2Proof.Config
end

