-- ==== Sys2Proof/Machine/EventTable.lean ====
section
/-! DEFINITION. The event catalogue (R570 to R578): severity, taint mark and counters of each code. -/

namespace Sys2Proof.Machine

/-- One row of the catalogue; `ctr` names the objects that count the event, at the unit's instance where they are per
unit. The objects of 0x3001 and 0x3005 count positions dropped and groups clamped, where that happens (R266, R272; log
entry 29). -/
structure EvRow where
  code : Nat
  sev : Nat
  taint : Bool
  ctr : List (Nat × Nat)
  deriving DecidableEq, Repr

/-- R570. -/
def events1 : List EvRow :=
  [⟨0x1001, 0, false, []⟩,
   ⟨0x1002, 2, false, [(0x1211, 3)]⟩,
   ⟨0x1003, 1, false, []⟩,
   ⟨0x1004, 1, false, [(0x1211, 1)]⟩,
   ⟨0x1005, 1, false, [(0x1211, 4)]⟩,
   ⟨0x1006, 2, true, []⟩,
   ⟨0x1007, 1, false, []⟩,
   ⟨0x1008, 1, false, [(0x1211, 5)]⟩,
   ⟨0x1011, 1, false, [(0x1121, 2)]⟩]

/-- R571. -/
def events2 : List EvRow :=
  [⟨0x2010, 1, true, [(0x1902, 1)]⟩,
   ⟨0x2012, 2, true, [(0x1902, 2)]⟩,
   ⟨0x2020, 1, true, [(0x1903, 5)]⟩,
   ⟨0x2021, 2, true, [(0x1903, 6)]⟩,
   ⟨0x2022, 2, true, [(0x1903, 7)]⟩,
   ⟨0x2023, 2, true, [(0x1903, 8)]⟩,
   ⟨0x2100, 1, false, [(0x1911, 2)]⟩,
   ⟨0x2101, 1, false, []⟩,
   ⟨0x2102, 1, true, [(0x1911, 5)]⟩,
   ⟨0x2103, 2, true, [(0x1911, 8)]⟩,
   ⟨0x2104, 1, true, [(0x1911, 6)]⟩,
   ⟨0x2105, 1, false, [(0x1911, 9)]⟩,
   ⟨0x2106, 2, true, [(0x1911, 7)]⟩,
   ⟨0x2107, 2, true, [(0x1911, 9)]⟩,
   ⟨0x2110, 1, true, [(0x1B01, 1)]⟩,
   ⟨0x2111, 2, true, [(0x1B01, 2)]⟩,
   ⟨0x2112, 2, true, [(0x1B01, 3)]⟩,
   ⟨0x2113, 2, true, [(0x1B01, 4)]⟩,
   ⟨0x2114, 2, true, [(0x1911, 10)]⟩,
   ⟨0x2115, 2, true, [(0x1911, 11)]⟩,
   ⟨0x2200, 2, true, []⟩,
   ⟨0x2201, 1, false, [(0x140A, 1)]⟩,
   ⟨0x2202, 1, false, [(0x140A, 2)]⟩,
   ⟨0x2203, 1, false, [(0x140A, 3)]⟩,
   ⟨0x2204, 1, false, [(0x140A, 4)]⟩,
   ⟨0x2205, 1, false, [(0x140A, 5)]⟩,
   ⟨0x2206, 2, true, [(0x140A, 6)]⟩,
   ⟨0x2207, 0, false, [(0x1401, 4)]⟩]

/-- R572. -/
def events3 : List EvRow :=
  [⟨0x3001, 2, true, []⟩,
   ⟨0x3002, 2, true, [(0x1A01, 2)]⟩,
   ⟨0x3003, 2, true, [(0x1A01, 3)]⟩,
   ⟨0x3004, 2, true, [(0x1A01, 6)]⟩,
   ⟨0x3005, 1, false, []⟩,
   ⟨0x3006, 2, true, [(0x1A01, 8)]⟩]

/-- R573. -/
def events4 : List EvRow :=
  [⟨0x4001, 2, true, [(0x1841, 2)]⟩,
   ⟨0x4002, 0, false, [(0x1801, 1), (0x70A0, 2)]⟩,
   ⟨0x4003, 2, true, [(0x1801, 2), (0x70A0, 3)]⟩,
   ⟨0x4004, 0, false, [(0x1801, 3), (0x70A1, 4)]⟩,
   ⟨0x4005, 2, true, [(0x1801, 4), (0x70A1, 5)]⟩,
   ⟨0x4006, 2, true, [(0x1801, 5)]⟩,
   ⟨0x4007, 3, false, [(0x1801, 6)]⟩,
   ⟨0x4008, 2, true, []⟩,
   ⟨0x4009, 0, false, [(0x1010, 10)]⟩,
   ⟨0x400A, 3, false, []⟩,
   ⟨0x400B, 2, true, [(0x1121, 1)]⟩,
   ⟨0x400D, 0, false, [(0x1121, 5)]⟩,
   ⟨0x400E, 2, true, [(0x1121, 6)]⟩,
   ⟨0x4010, 0, false, [(0x1841, 3)]⟩,
   ⟨0x4011, 2, true, [(0x1841, 4)]⟩,
   ⟨0x4012, 1, false, [(0x1801, 7)]⟩,
   ⟨0x4013, 1, false, []⟩,
   ⟨0x4014, 2, true, [(0x1F00, 3)]⟩]

/-- R574. -/
def events5 : List EvRow :=
  [⟨0x5001, 0, false, [(0x1702, 1)]⟩,
   ⟨0x5002, 1, false, [(0x70B0, 7), (0x1702, 2)]⟩,
   ⟨0x5003, 2, false, [(0x1702, 3)]⟩,
   ⟨0x5004, 1, false, [(0x1702, 4)]⟩,
   ⟨0x5005, 0, false, [(0x70B0, 6), (0x1702, 5)]⟩,
   ⟨0x5006, 2, false, [(0x1702, 6)]⟩,
   ⟨0x5007, 0, false, [(0x1702, 7)]⟩,
   ⟨0x5008, 2, true, [(0x1702, 8)]⟩,
   ⟨0x5009, 2, true, [(0x1702, 9)]⟩,
   ⟨0x500A, 2, false, [(0x1702, 10)]⟩,
   ⟨0x500B, 2, false, [(0x1702, 11)]⟩]

/-- R575. -/
def events6 : List EvRow :=
  [⟨0x6001, 1, false, [(0x1604, 1)]⟩,
   ⟨0x6002, 2, false, [(0x1604, 2)]⟩,
   ⟨0x6003, 1, false, [(0x1604, 3)]⟩,
   ⟨0x6004, 1, false, [(0x1604, 4)]⟩,
   ⟨0x6005, 1, false, [(0x1604, 5)]⟩,
   ⟨0x6006, 2, false, [(0x1604, 6)]⟩,
   ⟨0x6007, 1, false, [(0x1604, 7)]⟩,
   ⟨0x6008, 1, false, [(0x1604, 8)]⟩,
   ⟨0x6009, 0, false, [(0x1604, 9)]⟩,
   ⟨0x600A, 1, false, [(0x1604, 10)]⟩,
   ⟨0x600B, 1, false, [(0x1604, 11)]⟩,
   ⟨0x600C, 2, false, [(0x1604, 12)]⟩,
   ⟨0x600D, 1, false, [(0x1604, 13)]⟩,
   ⟨0x600E, 1, false, [(0x1604, 14)]⟩,
   ⟨0x600F, 3, false, [(0x1605, 2)]⟩]

/-- R576. -/
def events7 : List EvRow :=
  [⟨0x7001, 3, false, []⟩,
   ⟨0x7002, 1, false, [(0x1D00, 6)]⟩,
   ⟨0x7003, 3, false, []⟩,
   ⟨0x7004, 3, false, []⟩,
   ⟨0x7005, 2, false, []⟩,
   ⟨0x7006, 2, false, []⟩,
   ⟨0x7007, 1, false, [(0x1D04, 4)]⟩,
   ⟨0x7008, 2, false, [(0x1D04, 4)]⟩,
   ⟨0x7009, 1, false, []⟩,
   ⟨0x700A, 0, false, []⟩,
   ⟨0x700B, 2, false, []⟩,
   ⟨0x700C, 1, false, []⟩,
   ⟨0x700D, 1, false, []⟩,
   ⟨0x700E, 0, false, []⟩,
   ⟨0x700F, 2, false, []⟩,
   ⟨0x7020, 2, true, [(0x1121, 3)]⟩,
   ⟨0x7021, 2, true, [(0x1121, 3)]⟩,
   ⟨0x7022, 2, true, [(0x1121, 4)]⟩,
   ⟨0x7023, 2, true, [(0x1841, 5)]⟩,
   ⟨0x7024, 1, false, [(0x1841, 6)]⟩,
   ⟨0x7040, 1, false, [(0x1002, 3)]⟩,
   ⟨0x7041, 1, false, [(0x1002, 4)]⟩,
   ⟨0x7042, 0, false, []⟩,
   ⟨0x7043, 1, false, [(0x1002, 2)]⟩]

/-- R577. -/
def events8 : List EvRow :=
  [⟨0x8001, 0, false, []⟩,
   ⟨0x8002, 0, false, [(0x1500, 8)]⟩,
   ⟨0x8003, 1, false, []⟩,
   ⟨0x8004, 0, false, []⟩,
   ⟨0x8005, 2, false, []⟩,
   ⟨0x8006, 1, true, []⟩,
   ⟨0x8007, 0, false, [(0x1500, 9)]⟩,
   ⟨0x8008, 2, false, []⟩,
   ⟨0x8010, 2, true, [(0x1121, 7)]⟩,
   ⟨0x8011, 2, true, []⟩,
   ⟨0x8012, 0, false, []⟩,
   ⟨0x8013, 1, false, []⟩,
   ⟨0x8015, 0, false, []⟩,
   ⟨0x8016, 1, false, []⟩]

/-- R578. -/
def events9 : List EvRow :=
  [⟨0x9001, 1, false, [(0x8002, 5)]⟩,
   ⟨0x9002, 2, false, [(0x8002, 4)]⟩,
   ⟨0x9003, 2, false, []⟩,
   ⟨0x9004, 1, false, []⟩,
   ⟨0x9005, 1, false, []⟩,
   ⟨0x9006, 0, false, []⟩]

/-- Every event of classes 1 to 9. -/
def evRows : List EvRow := events1 ++ events2 ++ events3 ++ events4 ++ events5 ++ events6 ++ events7 ++ events8 ++ events9

/-- R565: the catalogue row of a code; a refusal of class 0xA is a WARN that taints nothing and counts in ADM_REFUSED
(R579). A code that is not listed is never raised. -/
@[irreducible] def evRow (code : Nat) : EvRow :=
  if code / 4096 = 10 then ⟨code, 1, false, [(0x1303, 2)]⟩
  else match evRows.find? (fun r => r.code == code) with
    | some r => r
    | none => ⟨code, 0, false, []⟩

end Sys2Proof.Machine
end

