-- ==== Sys2Proof/Machine/Objects.lean ====
section
/-! DEFINITION. The objects of the dictionary (R35, R70, R100, R143, R177, R222, R243, R278, R304, R326, R357, R382,
R416, R445, R472, R499, R521, R540, R564): index, sub-indices, type, access class, default and the range a write must lie
in. A default of 0 stands where the manual gives none ("set at ...", "—"): log entries 2, 13 and R581. -/

namespace Sys2Proof.Machine

/-- R421: the types on the wire. -/
inductive OTy where
  | u8 | u16 | u32 | u64 | i8 | i16 | i32 | i64 | f32 | e8m7 | bool | str | dom
  deriving DecidableEq, Repr

/-- R422: the access classes. -/
inductive Acc where
  | ro | rw | wo | rws | rp
  deriving DecidableEq, Repr

/-- One row of an object table: sub-indices `lo` to `hi` share everything; `rng` lists the accepted intervals of the raw
value, the empty list accepting any. -/
structure ObjRow where
  idx : Nat
  lo : Nat
  hi : Nat
  ty : OTy
  acc : Acc
  dflt : Nat
  rng : List (Nat × Nat)
  deriving DecidableEq, Repr

/-- 01_five_levels.md, R35. -/
def objs01a : List ObjRow :=
  [⟨0x1010, 1, 1, .u8, .ro, 4, []⟩,
   ⟨0x1010, 2, 2, .u8, .ro, 0x60, []⟩,
   ⟨0x1010, 3, 3, .u16, .ro, 0x600, []⟩,
   ⟨0x1010, 4, 4, .u8, .ro, 0x60, []⟩,
   ⟨0x1010, 5, 5, .u16, .ro, 0x600, []⟩,
   ⟨0x1010, 6, 6, .u8, .ro, 0, []⟩,
   ⟨0x1010, 7, 7, .u8, .ro, 0, []⟩,
   ⟨0x1010, 8, 8, .u32, .ro, 0, []⟩,
   ⟨0x1010, 9, 9, .u16, .ro, 0, []⟩,
   ⟨0x1010, 10, 10, .u32, .ro, 0, []⟩,
   ⟨0x7000, 1, 1, .u8, .ro, 0, []⟩,
   ⟨0x7000, 2, 2, .u8, .ro, 0, []⟩,
   ⟨0x7000, 3, 3, .u8, .ro, 0, []⟩,
   ⟨0x7001, 1, 1, .u8, .ro, 0, []⟩,
   ⟨0x7001, 2, 2, .u8, .ro, 0, []⟩,
   ⟨0x7001, 3, 3, .u8, .ro, 0, []⟩,
   ⟨0x7002, 1, 1, .u8, .ro, 0, []⟩,
   ⟨0x7002, 2, 2, .u8, .ro, 0, []⟩]

/-- 02_number_formats.md, R70. -/
def objs02a : List ObjRow :=
  [⟨0x1900, 1, 1, .u8, .ro, 1, []⟩,
   ⟨0x1900, 2, 2, .u32, .ro, 0x3fe, []⟩,
   ⟨0x1900, 3, 3, .u8, .ro, 0xff, []⟩,
   ⟨0x1900, 4, 4, .u32, .ro, 0x7e, []⟩,
   ⟨0x1901, 1, 1, .u8, .ro, 0xc, []⟩,
   ⟨0x1901, 2, 2, .bool, .rws, 1, []⟩,
   ⟨0x1902, 1, 1, .u64, .ro, 0, []⟩,
   ⟨0x1902, 2, 2, .u64, .ro, 0, []⟩,
   ⟨0x1902, 3, 3, .u64, .ro, 0, []⟩,
   ⟨0x4901, 1, 1, .u8, .rws, 0xc, [(8, 16)]⟩,
   ⟨0x4901, 2, 2, .bool, .rws, 1, []⟩]

/-- 03_matrix_engine.md, R100. -/
def objs03a : List ObjRow :=
  [⟨0x1903, 1, 1, .u8, .ro, 0x20, []⟩,
   ⟨0x1903, 2, 2, .u8, .ro, 8, []⟩,
   ⟨0x1903, 3, 3, .u8, .ro, 8, []⟩,
   ⟨0x1903, 4, 4, .i8, .ro, 0xf8, []⟩,
   ⟨0x1903, 5, 5, .u64, .ro, 0, []⟩,
   ⟨0x1903, 6, 6, .u64, .ro, 0, []⟩,
   ⟨0x1903, 7, 7, .u64, .ro, 0, []⟩,
   ⟨0x1903, 8, 8, .u64, .ro, 0, []⟩,
   ⟨0x4903, 1, 1, .u8, .rws, 0x20, [(16, 16), (32, 32), (64, 64)]⟩,
   ⟨0x7010, 1, 1, .u64, .ro, 0, []⟩,
   ⟨0x7010, 2, 2, .u64, .ro, 0, []⟩,
   ⟨0x7010, 3, 3, .u64, .ro, 0, []⟩,
   ⟨0x7010, 4, 4, .u64, .ro, 0, []⟩]

/-- 04_cores_threads_work_lists.md, R143. -/
def objs04a : List ObjRow :=
  [⟨0x1120, 1, 1, .u16, .ro, 0x400, []⟩,
   ⟨0x1120, 2, 2, .u16, .ro, 0x2000, []⟩,
   ⟨0x1120, 3, 3, .u8, .ro, 0x40, []⟩,
   ⟨0x1120, 4, 4, .u8, .ro, 0xf0, []⟩,
   ⟨0x1120, 5, 5, .u8, .ro, 4, []⟩,
   ⟨0x1120, 6, 6, .u16, .ro, 0x100, []⟩,
   ⟨0x1121, 1, 1, .u64, .ro, 0, []⟩,
   ⟨0x1121, 2, 2, .u64, .ro, 0, []⟩,
   ⟨0x1121, 3, 3, .u64, .ro, 0, []⟩,
   ⟨0x1121, 4, 4, .u64, .ro, 0, []⟩,
   ⟨0x1121, 5, 5, .u64, .ro, 0, []⟩,
   ⟨0x1121, 6, 6, .u64, .ro, 0, []⟩,
   ⟨0x1121, 7, 7, .u32, .ro, 0, []⟩,
   ⟨0x4120, 6, 6, .u16, .rws, 0x100, [(16, 65535)]⟩,
   ⟨0x7020, 1, 1, .u16, .ro, 0, []⟩,
   ⟨0x7020, 2, 2, .u64, .ro, 0, []⟩,
   ⟨0x7020, 3, 3, .u64, .ro, 0, []⟩,
   ⟨0x7020, 4, 4, .u32, .ro, 0, []⟩,
   ⟨0x7020, 5, 5, .u64, .ro, 0, []⟩,
   ⟨0x7021, 1, 4, .u32, .ro, 0xffffffff, []⟩]

/-- 05_cluster_store_and_streaming.md, R177. -/
def objs05a : List ObjRow :=
  [⟨0x1840, 1, 1, .u8, .ro, 0x40, []⟩,
   ⟨0x1840, 2, 2, .u8, .ro, 0x19, []⟩,
   ⟨0x1840, 3, 3, .u8, .ro, 4, []⟩,
   ⟨0x1840, 4, 4, .u16, .ro, 0x100, []⟩,
   ⟨0x1841, 1, 1, .u64, .ro, 0, []⟩,
   ⟨0x1841, 2, 2, .u64, .ro, 0, []⟩,
   ⟨0x1841, 3, 3, .u64, .ro, 0, []⟩,
   ⟨0x1841, 4, 4, .u64, .ro, 0, []⟩,
   ⟨0x1841, 5, 5, .u64, .ro, 0, []⟩,
   ⟨0x1841, 6, 6, .u64, .ro, 0, []⟩,
   ⟨0x1841, 7, 7, .u64, .ro, 0, []⟩,
   ⟨0x7030, 1, 12, .u64, .ro, 0, []⟩,
   ⟨0x7040, 1, 1, .dom, .rws, 0, []⟩,
   ⟨0x7040, 2, 2, .dom, .rws, 0, []⟩,
   ⟨0x7040, 3, 3, .u8, .ro, 0, []⟩,
   ⟨0x7040, 4, 4, .u8, .ro, 0, []⟩]

/-- 06_conversion_and_scaling.md, R222. -/
def objs06a : List ObjRow :=
  [⟨0x1910, 1, 1, .bool, .ro, 0, []⟩,
   ⟨0x1910, 2, 2, .u8, .ro, 4, []⟩,
   ⟨0x1910, 3, 3, .u8, .ro, 1, []⟩,
   ⟨0x1910, 4, 4, .u16, .ro, 0x40, []⟩,
   ⟨0x1910, 5, 5, .u8, .ro, 4, []⟩,
   ⟨0x1911, 1, 1, .u64, .ro, 0, []⟩,
   ⟨0x1911, 2, 2, .u64, .ro, 0, []⟩,
   ⟨0x1911, 3, 3, .u64, .ro, 0, []⟩,
   ⟨0x1911, 4, 4, .u64, .ro, 0, []⟩,
   ⟨0x1911, 5, 5, .u64, .ro, 0, []⟩,
   ⟨0x1911, 6, 6, .u64, .ro, 0, []⟩,
   ⟨0x1911, 7, 7, .u64, .ro, 0, []⟩,
   ⟨0x1911, 8, 8, .u64, .ro, 0, []⟩,
   ⟨0x1911, 9, 9, .u64, .ro, 0, []⟩,
   ⟨0x1911, 10, 10, .u64, .ro, 0, []⟩,
   ⟨0x1911, 11, 11, .u64, .ro, 0, []⟩,
   ⟨0x1912, 1, 1, .u16, .wo, 0, []⟩,
   ⟨0x1913, 1, 8, .u64, .ro, 0, []⟩,
   ⟨0x4910, 1, 1, .bool, .rws, 0, []⟩,
   ⟨0x4910, 2, 2, .u8, .rws, 4, [(1, 16)]⟩,
   ⟨0x4910, 3, 3, .u8, .rws, 1, [(0, 3)]⟩,
   ⟨0x4910, 4, 4, .u16, .rws, 0x40, [(16, 1024)]⟩,
   ⟨0x4910, 5, 5, .u8, .rws, 4, [(2, 8)]⟩,
   ⟨0x7050, 1, 1, .u32, .ro, 0, []⟩,
   ⟨0x7050, 2, 2, .u16, .ro, 0, []⟩,
   ⟨0x7050, 3, 3, .u32, .ro, 0xffffffff, []⟩,
   ⟨0x7050, 4, 4, .u64, .ro, 0, []⟩,
   ⟨0x7050, 5, 5, .u64, .ro, 0, []⟩,
   ⟨0x7050, 6, 6, .u64, .ro, 0, []⟩,
   ⟨0x7050, 7, 7, .u32, .ro, 0xffffffff, []⟩,
   ⟨0x7050, 8, 8, .u64, .ro, 0, []⟩,
   ⟨0x7050, 9, 9, .u32, .ro, 0xffffffff, []⟩,
   ⟨0x7050, 10, 10, .u64, .ro, 0, []⟩]

/-- 07_random_bits.md, R243. -/
def objs07a : List ObjRow :=
  [⟨0x1B00, 1, 1, .dom, .rws, 0, []⟩,
   ⟨0x1B00, 2, 2, .u16, .ro, 0, []⟩,
   ⟨0x1B00, 3, 3, .u32, .ro, 0x6a5c93e1, []⟩,
   ⟨0x1B00, 4, 4, .u16, .ro, 0x100, []⟩,
   ⟨0x1B01, 1, 1, .u64, .ro, 0, []⟩,
   ⟨0x1B01, 2, 2, .u64, .ro, 0, []⟩,
   ⟨0x1B01, 3, 3, .u64, .ro, 0, []⟩,
   ⟨0x1B01, 4, 4, .u64, .ro, 0, []⟩,
   ⟨0x7060, 1, 1, .dom, .rws, 0, []⟩,
   ⟨0x7060, 2, 2, .u64, .ro, 0, []⟩,
   ⟨0x7060, 3, 3, .u64, .ro, 0, []⟩,
   ⟨0x7060, 4, 4, .u64, .ro, 0, []⟩,
   ⟨0x7060, 5, 5, .u32, .ro, 0xffffffff, []⟩]

/-- 08_sparse_training.md, R278. -/
def objs08a : List ObjRow :=
  [⟨0x1A00, 1, 1, .u8, .ro, 0xe, []⟩,
   ⟨0x1A00, 2, 2, .u8, .ro, 0x10, []⟩,
   ⟨0x1A00, 3, 3, .u16, .ro, 0x100, []⟩,
   ⟨0x1A00, 4, 4, .u16, .ro, 0x400, []⟩,
   ⟨0x1A01, 1, 1, .u64, .ro, 0, []⟩,
   ⟨0x1A01, 2, 2, .u64, .ro, 0, []⟩,
   ⟨0x1A01, 3, 3, .u64, .ro, 0, []⟩,
   ⟨0x1A01, 4, 4, .u64, .ro, 0, []⟩,
   ⟨0x1A01, 5, 5, .u64, .ro, 0, []⟩,
   ⟨0x1A01, 6, 6, .u64, .ro, 0, []⟩,
   ⟨0x1A01, 7, 7, .u64, .ro, 0, []⟩,
   ⟨0x1A01, 8, 8, .u64, .ro, 0, []⟩,
   ⟨0x1A01, 9, 9, .u64, .ro, 0, []⟩,
   ⟨0x1A01, 10, 10, .u64, .ro, 0, []⟩,
   ⟨0x1A01, 11, 11, .u64, .ro, 0, []⟩,
   ⟨0x1A01, 12, 12, .u64, .ro, 0, []⟩,
   ⟨0x7070, 1, 1, .u32, .ro, 0xffffffff, []⟩,
   ⟨0x7070, 2, 2, .u64, .ro, 0, []⟩,
   ⟨0x7070, 3, 3, .u64, .ro, 0, []⟩,
   ⟨0x7070, 4, 4, .u64, .ro, 0, []⟩,
   ⟨0x7070, 5, 5, .u64, .ro, 0, []⟩]

/-- 09_backward_paths.md, R304. -/
def objs09a : List ObjRow :=
  [⟨0x1920, 1, 1, .u16, .ro, 0, []⟩,
   ⟨0x1920, 2, 2, .u16, .ro, 0, []⟩,
   ⟨0x1920, 3, 3, .u16, .ro, 0, []⟩,
   ⟨0x1920, 4, 4, .u64, .ro, 0, []⟩,
   ⟨0x1920, 5, 5, .u32, .ro, 0, []⟩,
   ⟨0x1920, 6, 6, .u64, .ro, 0, []⟩,
   ⟨0x1921, 1, 1, .u64, .ro, 0, []⟩,
   ⟨0x1921, 2, 2, .u64, .ro, 0, []⟩]

/-- 10_numeric_health.md, R326. -/
def objs10a : List ObjRow :=
  [⟨0x1400, 1, 1, .u16, .ro, 0, []⟩,
   ⟨0x1400, 2, 2, .u16, .ro, 0x9c40, []⟩,
   ⟨0x1400, 3, 3, .u8, .ro, 5, []⟩,
   ⟨0x1400, 4, 4, .u8, .ro, 0, []⟩,
   ⟨0x1400, 5, 5, .u8, .ro, 2, []⟩,
   ⟨0x1400, 6, 6, .bool, .ro, 0, []⟩,
   ⟨0x1401, 1, 1, .bool, .ro, 0, []⟩,
   ⟨0x1401, 2, 2, .u16, .ro, 0, []⟩,
   ⟨0x1401, 3, 3, .u64, .ro, 0, []⟩,
   ⟨0x1401, 4, 4, .u64, .ro, 0, []⟩,
   ⟨0x1401, 5, 5, .u64, .ro, 0, []⟩,
   ⟨0x1401, 6, 6, .u8, .wo, 0, [(1, 1)]⟩,
   ⟨0x1402, 1, 1, .u16, .ro, 0x2000, []⟩,
   ⟨0x1402, 2, 2, .u16, .ro, 0x40, []⟩,
   ⟨0x1402, 3, 3, .u16, .ro, 4, []⟩,
   ⟨0x1402, 4, 4, .u16, .ro, 0x10, []⟩,
   ⟨0x1402, 5, 5, .u16, .ro, 0x800, []⟩,
   ⟨0x1402, 6, 6, .u16, .ro, 1, []⟩,
   ⟨0x1402, 7, 7, .u16, .ro, 0x800, []⟩,
   ⟨0x1402, 8, 8, .u16, .ro, 0x2ee0, []⟩,
   ⟨0x1402, 9, 10, .u16, .ro, 0x1000, []⟩,
   ⟨0x1402, 11, 11, .u16, .ro, 8, []⟩,
   ⟨0x1402, 12, 12, .u16, .ro, 4, []⟩,
   ⟨0x1402, 13, 13, .u16, .ro, 0x1000, []⟩,
   ⟨0x1402, 14, 14, .u16, .ro, 0x400, []⟩,
   ⟨0x1402, 15, 16, .u16, .ro, 0, []⟩,
   ⟨0x1403, 1, 1, .u16, .ro, 0xffff, []⟩,
   ⟨0x1403, 2, 2, .u16, .ro, 0x4000, []⟩,
   ⟨0x1403, 3, 4, .u16, .ro, 0x2000, []⟩,
   ⟨0x1403, 5, 5, .u16, .ro, 0x4000, []⟩,
   ⟨0x1403, 6, 6, .u16, .ro, 0x800, []⟩,
   ⟨0x1403, 7, 7, .u16, .ro, 0x4000, []⟩,
   ⟨0x1403, 8, 8, .u16, .ro, 0x2ee0, []⟩,
   ⟨0x1403, 9, 9, .u16, .ro, 0x1000, []⟩,
   ⟨0x1403, 10, 10, .u16, .ro, 0x4000, []⟩,
   ⟨0x1403, 11, 12, .u16, .ro, 0x1000, []⟩,
   ⟨0x1403, 13, 13, .u16, .ro, 0x4000, []⟩,
   ⟨0x1403, 14, 14, .u16, .ro, 0x1000, []⟩,
   ⟨0x1403, 15, 16, .u16, .ro, 0, []⟩,
   ⟨0x1404, 1, 1, .u64, .wo, 0, []⟩]

/-- 10_numeric_health.md, R326. -/
def objs10b : List ObjRow :=
  [⟨0x1404, 2, 2, .u64, .wo, 0, []⟩,
   ⟨0x1404, 3, 3, .u64, .ro, 0, []⟩,
   ⟨0x1405, 1, 1, .u8, .ro, 4, []⟩,
   ⟨0x1405, 2, 2, .f32, .ro, 0x40c00000, []⟩,
   ⟨0x1405, 3, 3, .u16, .ro, 0x40, []⟩,
   ⟨0x1405, 4, 4, .u8, .ro, 8, []⟩,
   ⟨0x1406, 1, 7, .u64, .ro, 0, []⟩,
   ⟨0x1407, 1, 7, .u64, .ro, 0, []⟩,
   ⟨0x1408, 1, 7, .u64, .ro, 0, []⟩,
   ⟨0x1409, 1, 7, .u64, .ro, 0, []⟩,
   ⟨0x140A, 1, 6, .u64, .ro, 0, []⟩,
   ⟨0x140A, 7, 7, .u64, .ro, 0, []⟩,
   ⟨0x4400, 2, 2, .u16, .rws, 0x9c40, [(1, 65535)]⟩,
   ⟨0x4400, 3, 3, .u8, .rws, 5, [(1, 15)]⟩,
   ⟨0x4400, 4, 4, .u8, .rws, 0, [(0, 1)]⟩,
   ⟨0x4400, 5, 5, .u8, .rws, 2, [(0, 8)]⟩,
   ⟨0x4402, 1, 1, .u16, .rws, 0x2000, []⟩,
   ⟨0x4402, 2, 2, .u16, .rws, 0x40, []⟩,
   ⟨0x4402, 3, 3, .u16, .rws, 4, []⟩,
   ⟨0x4402, 4, 4, .u16, .rws, 0x10, []⟩,
   ⟨0x4402, 5, 5, .u16, .rws, 0x800, []⟩,
   ⟨0x4402, 6, 6, .u16, .rws, 1, []⟩,
   ⟨0x4402, 7, 7, .u16, .rws, 0x800, []⟩,
   ⟨0x4402, 8, 8, .u16, .rws, 0x2ee0, []⟩,
   ⟨0x4402, 9, 10, .u16, .rws, 0x1000, []⟩,
   ⟨0x4402, 11, 11, .u16, .rws, 8, []⟩,
   ⟨0x4402, 12, 12, .u16, .rws, 4, []⟩,
   ⟨0x4402, 13, 13, .u16, .rws, 0x1000, []⟩,
   ⟨0x4402, 14, 14, .u16, .rws, 0x400, []⟩,
   ⟨0x4402, 15, 16, .u16, .rws, 0, [(0, 0)]⟩,
   ⟨0x4403, 1, 1, .u16, .rws, 0xffff, []⟩,
   ⟨0x4403, 2, 2, .u16, .rws, 0x4000, []⟩,
   ⟨0x4403, 3, 4, .u16, .rws, 0x2000, []⟩,
   ⟨0x4403, 5, 5, .u16, .rws, 0x4000, []⟩,
   ⟨0x4403, 6, 6, .u16, .rws, 0x800, []⟩,
   ⟨0x4403, 7, 7, .u16, .rws, 0x4000, []⟩,
   ⟨0x4403, 8, 8, .u16, .rws, 0x2ee0, []⟩,
   ⟨0x4403, 9, 9, .u16, .rws, 0x1000, []⟩,
   ⟨0x4403, 10, 10, .u16, .rws, 0x4000, []⟩,
   ⟨0x4403, 11, 12, .u16, .rws, 0x1000, []⟩]

/-- 10_numeric_health.md, R326. -/
def objs10c : List ObjRow :=
  [⟨0x4403, 13, 13, .u16, .rws, 0x4000, []⟩,
   ⟨0x4403, 14, 14, .u16, .rws, 0x1000, []⟩,
   ⟨0x4403, 15, 16, .u16, .rws, 0, [(0, 0)]⟩,
   ⟨0x4405, 1, 1, .u8, .rws, 4, [(1, 10)]⟩,
   ⟨0x4405, 2, 2, .f32, .rws, 0x40c00000, [(1065353216, 1115684864)]⟩,
   ⟨0x4405, 3, 3, .u16, .rws, 0x40, [(1, 65535)]⟩,
   ⟨0x4405, 4, 4, .u8, .rws, 8, [(2, 255)]⟩,
   ⟨0x7080, 1, 1, .dom, .rws, 0, []⟩,
   ⟨0x7080, 2, 2, .u32, .ro, 0xffffffff, []⟩,
   ⟨0x7080, 3, 3, .u16, .ro, 0, []⟩,
   ⟨0x7080, 4, 4, .u64, .ro, 0, []⟩]

/-- 11_cadence_and_admission.md, R357. -/
def objs11a : List ObjRow :=
  [⟨0x1200, 1, 1, .u8, .ro, 3, []⟩,
   ⟨0x1200, 2, 2, .u8, .rws, 2, [(0, 0), (2, 2)]⟩,
   ⟨0x1200, 3, 3, .u16, .ro, 0, []⟩,
   ⟨0x1200, 4, 4, .u64, .ro, 0, []⟩,
   ⟨0x1200, 5, 5, .bool, .ro, 0, []⟩,
   ⟨0x1200, 6, 6, .u64, .ro, 0, []⟩,
   ⟨0x1201, 1, 1, .u64, .ro, 0, []⟩,
   ⟨0x1201, 2, 2, .u32, .ro, 0, []⟩,
   ⟨0x1201, 3, 3, .u8, .ro, 0, []⟩,
   ⟨0x1201, 4, 4, .bool, .ro, 0, []⟩,
   ⟨0x1210, 1, 3, .u32, .ro, 0, []⟩,
   ⟨0x1210, 4, 4, .u32, .ro, 0, []⟩,
   ⟨0x1211, 1, 1, .u64, .ro, 0, []⟩,
   ⟨0x1211, 2, 2, .u64, .ro, 0, []⟩,
   ⟨0x1211, 3, 3, .u64, .ro, 0, []⟩,
   ⟨0x1211, 4, 4, .u64, .ro, 0, []⟩,
   ⟨0x1211, 5, 5, .u64, .ro, 0, []⟩,
   ⟨0x1212, 1, 1, .u32, .ro, 0x3e8, []⟩,
   ⟨0x1212, 2, 2, .u32, .ro, 0x2710, []⟩,
   ⟨0x4212, 1, 1, .u32, .rws, 0x3e8, [(100, 100000)]⟩,
   ⟨0x4212, 2, 2, .u32, .rws, 0x2710, [(100, 600000)]⟩,
   ⟨0x1300, 1, 1, .dom, .rws, 0, []⟩,
   ⟨0x1300, 2, 2, .u8, .wo, 0, [(1, 2)]⟩,
   ⟨0x1300, 3, 3, .u8, .ro, 0, []⟩,
   ⟨0x1300, 4, 4, .u16, .ro, 0, []⟩,
   ⟨0x1300, 5, 5, .dom, .ro, 0, []⟩,
   ⟨0x1300, 6, 6, .dom, .ro, 0, []⟩,
   ⟨0x1301, 1, 2, .u8, .ro, 6, []⟩,
   ⟨0x1301, 3, 3, .u8, .ro, 5, []⟩,
   ⟨0x1301, 4, 4, .u8, .ro, 2, []⟩,
   ⟨0x1301, 5, 5, .u16, .ro, 0x64, []⟩,
   ⟨0x4301, 1, 2, .u8, .rws, 6, [(1, 8)]⟩,
   ⟨0x4301, 3, 3, .u8, .rws, 5, [(1, 8)]⟩,
   ⟨0x4301, 4, 4, .u8, .rws, 2, [(1, 8)]⟩,
   ⟨0x4301, 5, 5, .u16, .rws, 0x64, [(20, 10000)]⟩,
   ⟨0x1302, 1, 4, .u64, .ro, 0, []⟩,
   ⟨0x1302, 5, 5, .u16, .ro, 0, []⟩,
   ⟨0x1303, 1, 1, .u64, .ro, 0, []⟩,
   ⟨0x1303, 2, 2, .u64, .ro, 0, []⟩,
   ⟨0x7090, 1, 1, .u8, .ro, 0, []⟩]

/-- 12_arbitration_and_memory_tiers.md, R382. -/
def objs12a : List ObjRow :=
  [⟨0x1F00, 1, 1, .u8, .ro, 8, []⟩,
   ⟨0x1F00, 2, 2, .u8, .ro, 8, []⟩,
   ⟨0x1F00, 3, 3, .u64, .ro, 0, []⟩,
   ⟨0x1F01, 1, 1, .u8, .ro, 4, []⟩,
   ⟨0x1F01, 2, 2, .u8, .ro, 5, []⟩,
   ⟨0x1F01, 3, 3, .u8, .ro, 3, []⟩,
   ⟨0x1F01, 4, 4, .u8, .ro, 4, []⟩,
   ⟨0x1F01, 5, 5, .u8, .ro, 1, []⟩,
   ⟨0x1F01, 6, 6, .u8, .ro, 2, []⟩,
   ⟨0x1F01, 7, 7, .u8, .ro, 1, []⟩,
   ⟨0x4F00, 1, 1, .u8, .rws, 8, [(2, 64)]⟩,
   ⟨0x4F01, 1, 1, .u8, .rw, 4, [(0, 7)]⟩,
   ⟨0x4F01, 2, 2, .u8, .rw, 5, [(0, 7)]⟩,
   ⟨0x4F01, 3, 3, .u8, .rw, 3, [(0, 7)]⟩,
   ⟨0x4F01, 4, 4, .u8, .rw, 4, [(0, 7)]⟩,
   ⟨0x4F01, 5, 5, .u8, .rw, 1, [(0, 7)]⟩,
   ⟨0x4F01, 6, 6, .u8, .rw, 2, [(0, 7)]⟩,
   ⟨0x4F01, 7, 7, .u8, .rw, 1, [(0, 7)]⟩,
   ⟨0x1800, 1, 1, .u32, .ro, 0x600, []⟩,
   ⟨0x1800, 2, 2, .u16, .ro, 0x200, []⟩,
   ⟨0x1800, 3, 3, .u8, .ro, 0, []⟩,
   ⟨0x1800, 4, 4, .u16, .ro, 0x1000, []⟩,
   ⟨0x1801, 1, 6, .u64, .ro, 0, []⟩,
   ⟨0x1801, 7, 7, .u64, .ro, 0, []⟩,
   ⟨0x1802, 1, 1, .u16, .ro, 0x18, []⟩,
   ⟨0x1802, 2, 2, .u16, .ro, 0x18, []⟩,
   ⟨0x1802, 3, 3, .u32, .ro, 0x7728, []⟩,
   ⟨0x4802, 1, 1, .u16, .rws, 0x18, [(1, 168)]⟩,
   ⟨0x4802, 2, 2, .u16, .rws, 0x18, [(1, 168)]⟩,
   ⟨0x70A0, 1, 1, .u8, .ro, 0, []⟩,
   ⟨0x70A0, 2, 2, .u64, .ro, 0, []⟩,
   ⟨0x70A0, 3, 3, .u64, .ro, 0, []⟩,
   ⟨0x70A0, 4, 4, .i8, .ro, 0, []⟩,
   ⟨0x70A1, 1, 1, .u8, .ro, 0, []⟩,
   ⟨0x70A1, 2, 2, .u8, .ro, 0, []⟩,
   ⟨0x70A1, 3, 3, .u16, .ro, 0, []⟩,
   ⟨0x70A1, 4, 4, .u64, .ro, 0, []⟩,
   ⟨0x70A1, 5, 5, .u64, .ro, 0, []⟩]

/-- 13_flisol_links.md, R416. -/
def objs13a : List ObjRow :=
  [⟨0x1700, 1, 1, .u16, .rws, 0, []⟩,
   ⟨0x1700, 2, 2, .u16, .rws, 0, []⟩,
   ⟨0x1700, 3, 3, .u8, .ro, 8, []⟩,
   ⟨0x1700, 4, 4, .u32, .ro, 0x7d0, []⟩,
   ⟨0x1700, 5, 5, .u16, .ro, 0x64, []⟩,
   ⟨0x1700, 6, 6, .u16, .ro, 0, []⟩,
   ⟨0x1700, 7, 7, .u8, .ro, 0xff, []⟩,
   ⟨0x1700, 8, 8, .u32, .ro, 0, []⟩,
   ⟨0x1700, 9, 9, .u8, .ro, 0, []⟩,
   ⟨0x1701, 1, 1, .dom, .rws, 0, []⟩,
   ⟨0x1701, 2, 2, .dom, .ro, 0, []⟩,
   ⟨0x1701, 3, 3, .dom, .ro, 0, []⟩,
   ⟨0x1702, 1, 11, .u64, .ro, 0, []⟩,
   ⟨0x1702, 12, 12, .u64, .ro, 0, []⟩,
   ⟨0x4700, 3, 3, .u8, .rws, 8, [(4, 12)]⟩,
   ⟨0x4700, 4, 4, .u32, .rws, 0x7d0, [(100, 100000)]⟩,
   ⟨0x4700, 5, 5, .u16, .rws, 0x64, [(50, 1000)]⟩,
   ⟨0x70B0, 1, 1, .u8, .ro, 0, []⟩,
   ⟨0x70B0, 2, 2, .u16, .ro, 0xffff, []⟩,
   ⟨0x70B0, 3, 3, .u16, .ro, 0, []⟩,
   ⟨0x70B0, 4, 4, .f32, .ro, 0, []⟩,
   ⟨0x70B0, 5, 5, .u64, .ro, 0, []⟩,
   ⟨0x70B0, 6, 6, .u64, .ro, 0, []⟩,
   ⟨0x70B0, 7, 7, .u32, .ro, 0, []⟩,
   ⟨0x70B0, 8, 8, .u64, .ro, 0, []⟩,
   ⟨0x70B0, 9, 9, .u64, .ro, 0, []⟩]

/-- 14_object_dictionary.md, R445. -/
def objs14a : List ObjRow :=
  [⟨0x1000, 1, 1, .str, .ro, 0, []⟩,
   ⟨0x1000, 2, 2, .str, .ro, 0, []⟩,
   ⟨0x1000, 3, 3, .str, .ro, 0, []⟩,
   ⟨0x1000, 4, 4, .str, .ro, 0, []⟩,
   ⟨0x1000, 5, 5, .u8, .ro, 1, []⟩,
   ⟨0x1000, 6, 6, .u8, .ro, 1, []⟩,
   ⟨0x1001, 1, 1, .u64, .ro, 0, []⟩,
   ⟨0x1001, 2, 2, .dom, .rws, 0, []⟩,
   ⟨0x1001, 3, 3, .u8, .rws, 2, [(0, 2)]⟩,
   ⟨0x1001, 4, 4, .u8, .rws, 2, [(1, 3)]⟩,
   ⟨0x1001, 5, 5, .u8, .rws, 1, [(1, 3)]⟩,
   ⟨0x1001, 6, 6, .u8, .ro, 0, []⟩,
   ⟨0x1001, 7, 7, .u32, .ro, 0, []⟩,
   ⟨0x1001, 8, 8, .u16, .rws, 0x3c, [(5, 3600)]⟩,
   ⟨0x1002, 1, 1, .u64, .ro, 0, []⟩,
   ⟨0x1002, 2, 2, .u64, .ro, 0, []⟩,
   ⟨0x1002, 3, 3, .u64, .ro, 0, []⟩,
   ⟨0x1002, 4, 4, .u64, .ro, 0, []⟩,
   ⟨0x1002, 5, 5, .u64, .ro, 0, []⟩,
   ⟨0x1100, 1, 1, .u8, .ro, 0, []⟩,
   ⟨0x1100, 2, 2, .u8, .wo, 0, [(1, 2)]⟩,
   ⟨0x1100, 3, 3, .u64, .rw, 0xffffffffffff, []⟩,
   ⟨0x1100, 4, 4, .u16, .ro, 0, []⟩,
   ⟨0x1E00, 1, 1, .dom, .ro, 0, []⟩,
   ⟨0x1E00, 2, 2, .u32, .ro, 1, []⟩,
   ⟨0x1E00, 3, 3, .u64, .ro, 0, []⟩,
   ⟨0x1E00, 4, 7, .u64, .ro, 0, []⟩,
   ⟨0x1E01, 1, 10, .u64, .ro, 0, []⟩]

/-- 15_thaw_firmware_identity.md, R472. -/
def objs15a : List ObjRow :=
  [⟨0x1D00, 1, 1, .u8, .ro, 0, []⟩,
   ⟨0x1D00, 2, 2, .str, .ro, 0, []⟩,
   ⟨0x1D00, 3, 3, .u32, .ro, 0, []⟩,
   ⟨0x1D00, 4, 4, .u32, .ro, 0, []⟩,
   ⟨0x1D00, 5, 5, .dom, .ro, 0, []⟩,
   ⟨0x1D00, 6, 6, .u32, .ro, 0, []⟩,
   ⟨0x1D01, 1, 1, .dom, .rws, 0, []⟩,
   ⟨0x1D01, 2, 2, .u8, .wo, 0, [(1, 3)]⟩,
   ⟨0x1D01, 3, 3, .u8, .ro, 0, []⟩,
   ⟨0x1D02, 1, 1, .dom, .ro, 0, []⟩,
   ⟨0x1D02, 2, 2, .dom, .ro, 0, []⟩,
   ⟨0x1D02, 3, 3, .dom, .wo, 0, []⟩,
   ⟨0x1D02, 4, 4, .dom, .ro, 0, []⟩,
   ⟨0x1D02, 5, 5, .u8, .ro, 0, []⟩,
   ⟨0x1D02, 6, 6, .u64, .ro, 0, []⟩,
   ⟨0x1D02, 7, 7, .u64, .ro, 0, []⟩,
   ⟨0x1D03, 1, 1, .dom, .wo, 0, []⟩,
   ⟨0x1D03, 2, 2, .str, .wo, 0, []⟩,
   ⟨0x1D03, 3, 3, .dom, .rp, 0, []⟩,
   ⟨0x1D04, 1, 1, .u32, .ro, 0, []⟩,
   ⟨0x1D04, 2, 2, .u8, .ro, 1, []⟩,
   ⟨0x1D04, 3, 3, .u64, .ro, 0, []⟩,
   ⟨0x1D04, 4, 4, .u32, .ro, 0, []⟩,
   ⟨0x1D04, 5, 5, .dom, .ro, 0, []⟩]

/-- 16_power_ageing_background.md, R499. -/
def objs16a : List ObjRow :=
  [⟨0x1600, 1, 1, .u32, .ro, 0, []⟩,
   ⟨0x1600, 2, 2, .u16, .ro, 0xaf0, []⟩,
   ⟨0x1600, 3, 3, .i8, .ro, 0, []⟩,
   ⟨0x1600, 4, 4, .u8, .ro, 0, []⟩,
   ⟨0x1600, 5, 5, .i8, .ro, 0x64, []⟩,
   ⟨0x1601, 1, 4, .u16, .rw, 0x44c, []⟩,
   ⟨0x1602, 1, 4, .u16, .ro, 0x44c, []⟩,
   ⟨0x1602, 5, 8, .u16, .ro, 0x1c20, []⟩,
   ⟨0x1603, 1, 4, .u16, .ro, 0x44c, []⟩,
   ⟨0x1604, 1, 14, .u64, .ro, 0, []⟩,
   ⟨0x4600, 2, 2, .u16, .rws, 0xaf0, [(1000, 2800)]⟩,
   ⟨0x4600, 5, 5, .i8, .rws, 0x64, [(85, 100)]⟩,
   ⟨0x4602, 1, 4, .u16, .rw, 0x44c, []⟩,
   ⟨0x4602, 5, 8, .u16, .rw, 0x1c20, [(6200, 8500)]⟩,
   ⟨0x1C00, 1, 1, .u32, .ro, 0, []⟩,
   ⟨0x1C00, 2, 2, .u32, .ro, 0, []⟩,
   ⟨0x1C00, 3, 3, .u16, .ro, 0x3e8, []⟩,
   ⟨0x1C00, 4, 4, .u8, .wo, 0, [(1, 1)]⟩,
   ⟨0x1C00, 5, 5, .u8, .ro, 0xf, []⟩,
   ⟨0x1C00, 6, 6, .u8, .ro, 0x14, []⟩,
   ⟨0x1C01, 1, 1, .u16, .ro, 0x64, []⟩,
   ⟨0x1C01, 2, 2, .u64, .ro, 0, []⟩,
   ⟨0x1C01, 3, 3, .u64, .ro, 0, []⟩,
   ⟨0x1C01, 4, 4, .u32, .ro, 0, []⟩,
   ⟨0x1C01, 5, 5, .u64, .ro, 0, []⟩,
   ⟨0x4C00, 3, 3, .u16, .rws, 0x3e8, [(100, 1000)]⟩,
   ⟨0x4C00, 5, 5, .u8, .rws, 0xf, [(10, 50)]⟩,
   ⟨0x4C01, 1, 1, .u16, .rws, 0x64, [(10, 10000)]⟩,
   ⟨0x70C0, 1, 1, .u8, .ro, 2, []⟩,
   ⟨0x70C0, 2, 2, .u8, .rw, 0, [(0, 3)]⟩,
   ⟨0x70C0, 3, 3, .u8, .ro, 0, []⟩,
   ⟨0x70C0, 4, 4, .u32, .ro, 0, []⟩,
   ⟨0x70C0, 5, 5, .u64, .ro, 0, []⟩,
   ⟨0x70C0, 6, 6, .u64, .ro, 0, []⟩,
   ⟨0x70C1, 1, 1, .dom, .ro, 0, []⟩,
   ⟨0x70C1, 2, 2, .i16, .ro, 0, []⟩,
   ⟨0x70C1, 3, 3, .i16, .ro, 0, []⟩,
   ⟨0x70C1, 4, 4, .u8, .ro, 0, []⟩,
   ⟨0x70C1, 5, 5, .u16, .ro, 0, []⟩,
   ⟨0x70C1, 6, 6, .i32, .ro, 0, []⟩]

/-- 16_power_ageing_background.md, R499. -/
def objs16b : List ObjRow :=
  [⟨0x70C1, 7, 7, .dom, .ro, 0, []⟩]

/-- 17_harvest_and_survival.md, R521. -/
def objs17a : List ObjRow :=
  [⟨0x1500, 1, 1, .u32, .ro, 0, []⟩,
   ⟨0x1500, 2, 2, .u64, .ro, 0, []⟩,
   ⟨0x1500, 3, 3, .u8, .ro, 0xff, []⟩,
   ⟨0x1500, 4, 4, .u32, .ro, 0, []⟩,
   ⟨0x1500, 5, 5, .u32, .ro, 0, []⟩,
   ⟨0x1500, 6, 6, .bool, .ro, 0, []⟩,
   ⟨0x1500, 7, 7, .u16, .ro, 0x3e8, []⟩,
   ⟨0x1500, 8, 8, .u64, .ro, 0, []⟩,
   ⟨0x1500, 9, 9, .u64, .ro, 0, []⟩,
   ⟨0x1501, 1, 1, .u8, .wo, 0, [(1, 1)]⟩,
   ⟨0x1501, 2, 2, .u32, .ro, 0, []⟩,
   ⟨0x4501, 2, 2, .u32, .rws, 0, [(0, 0), (2, 16777215)]⟩,
   ⟨0x1502, 1, 1, .u16, .wo, 0, []⟩,
   ⟨0x1502, 2, 2, .u64, .rw, 0, []⟩,
   ⟨0x1502, 3, 3, .u32, .wo, 0, []⟩,
   ⟨0x1502, 4, 4, .u32, .wo, 0, []⟩,
   ⟨0x1502, 5, 5, .u64, .rw, 0, []⟩]

/-- 18_metrology_island.md, R540. -/
def objs18a : List ObjRow :=
  [⟨0x8000, 1, 1, .str, .ro, 0, []⟩,
   ⟨0x8000, 2, 2, .dom, .ro, 0, []⟩,
   ⟨0x8000, 3, 3, .dom, .ro, 0, []⟩,
   ⟨0x8000, 4, 4, .dom, .ro, 0, []⟩,
   ⟨0x8000, 5, 5, .u16, .ro, 0x32, []⟩,
   ⟨0x8000, 6, 6, .u32, .ro, 0x2710, []⟩,
   ⟨0x8001, 1, 1, .u64, .ro, 0, []⟩,
   ⟨0x8001, 2, 2, .u32, .ro, 0, []⟩,
   ⟨0x8001, 3, 3, .u32, .ro, 0, []⟩,
   ⟨0x8001, 4, 4, .u32, .ro, 0, []⟩,
   ⟨0x8001, 5, 5, .u16, .ro, 0, []⟩,
   ⟨0x8001, 6, 6, .u32, .ro, 0, []⟩,
   ⟨0x8001, 7, 7, .u32, .ro, 0, []⟩,
   ⟨0x8001, 8, 8, .u32, .ro, 0, []⟩,
   ⟨0x8002, 1, 1, .dom, .ro, 0, []⟩,
   ⟨0x8002, 2, 2, .u32, .ro, 0, []⟩,
   ⟨0x8002, 3, 3, .u64, .ro, 0, []⟩,
   ⟨0x8002, 4, 4, .u64, .ro, 0, []⟩,
   ⟨0x8002, 5, 5, .u64, .ro, 0, []⟩]

/-- 19_package_and_electrical.md, R564. -/
def objs19a : List ObjRow :=
  [⟨0x1605, 1, 1, .u8, .ro, 0, []⟩,
   ⟨0x1605, 2, 2, .u32, .ro, 0, []⟩,
   ⟨0x1605, 3, 3, .u8, .ro, 0, []⟩,
   ⟨0x1605, 4, 4, .u32, .ro, 0, []⟩]

/-- Every object of the dictionary. -/
def objRows : List ObjRow :=
  objs01a ++ objs02a ++ objs03a ++ objs04a ++ objs05a ++ objs06a ++ objs07a ++ objs08a ++ objs09a ++ objs10a ++ objs10b ++ objs10c ++ objs11a ++ objs12a ++ objs13a ++ objs14a ++ objs15a ++ objs16a ++ objs16b ++ objs17a ++ objs18a ++ objs19a

/-- R418: the row that defines a sub-index of an index. -/
@[irreducible] def objRow (idx sub : Nat) : Option ObjRow :=
  objRows.find? (fun r => r.idx == idx && decide (r.lo ≤ sub) && decide (sub ≤ r.hi))

/-- R418: the highest sub-index defined at an index, none where the index has no object. -/
@[irreducible] def maxSub (idx : Nat) : Option Nat :=
  match objRows.filter (fun r => r.idx == idx) with
  | [] => none
  | rs => some (rs.foldl (fun m r => max m r.hi) 0)

/-- The number of instances of a per-unit array, counted from 1; 0 for a device-wide index (R36, R101, R144, R178, R223,
R244, R279, R327, R358, R383, R417, R500). -/
def objInsts (idx : Nat) : Nat :=
  match idx with
  | 0x7000 => 96
  | 0x7001 => 1536
  | 0x7002 => 4
  | 0x7010 | 0x7020 | 0x7021 | 0x7030 => 1536
  | 0x7040 => 673
  | 0x7050 | 0x7060 | 0x7070 | 0x7080 | 0x7090 => 96
  | 0x70A0 => 16
  | 0x70A1 => 12
  | 0x70B0 => 12
  | 0x70C0 => 1667
  | 0x70C1 => 4
  | _ => 0

/-- R418: whether an instance is valid at an index. -/
def instOk (idx inst : Nat) : Bool :=
  if objInsts idx = 0 then inst == 0 else decide (1 ≤ inst) && decide (inst ≤ objInsts idx)

/-- The key of an object instance in the dictionary's maps. -/
def okey (idx sub inst : Nat) : Nat := idx * 16777216 + sub * 65536 + inst

/-- R419, R426: an expert index shares the value of the basic index 0x3000 below it. -/
def homeIdx (idx : Nat) : Nat := if 0x4000 ≤ idx && idx < 0x5000 then idx - 0x3000 else idx

/-- R422: a basic object with an expert mirror. -/
def hasMirror (idx sub : Nat) : Bool :=
  decide (0x1000 ≤ idx) && decide (idx < 0x2000) && (objRow (idx + 0x3000) sub).isSome

/-- The default of an object instance. -/
@[irreducible] def objDefault (idx sub inst : Nat) : Nat :=
  -- R500, R34: PD_MGMT is always on
  if idx = 0x70C0 ∧ sub = 1 ∧ inst = 1667 then 0
  else match objRow (homeIdx idx) sub with
    | some r => r.dflt
    | none => 0

/-- R421: the bytes of a scalar type; a DOMAIN reads as its length in four bytes. -/
def tyBytes : OTy → Nat
  | .u8 | .i8 | .bool => 1
  | .u16 | .i16 | .e8m7 => 2
  | .u32 | .i32 | .f32 | .dom => 4
  | .u64 | .i64 => 8
  | .str => 64

/-- R421: the type codes. -/
def tyCode : OTy → Nat
  | .u8 => 1 | .u16 => 2 | .u32 => 3 | .u64 => 4
  | .i8 => 5 | .i16 => 6 | .i32 => 7 | .i64 => 8
  | .f32 => 9 | .e8m7 => 0x0A | .bool => 0x0B | .str => 0x0C | .dom => 0x0D

/-- A scalar object's value lies in its range; BOOL takes 0 or 1 and F32 no NaN (R421). -/
def inRange (r : ObjRow) (v : Nat) : Bool :=
  (r.rng.isEmpty || r.rng.any (fun p => decide (p.1 ≤ v) && decide (v ≤ p.2)))
    && (r.ty != .bool || decide (v ≤ 1))
    && (r.ty != .f32 || !(decide (v % 2 ^ 31 > 0x7F800000)))

/-- The bytes of a text in ASCII. -/
def ascii (s : String) : List Byte := s.toList.map (fun c => BitVec.ofNat 8 c.toNat)

/-- R464: the factory's endorsement of the identity key. -/
def idEndorsement : List Byte :=
  List.replicate 16 0 ++ (ascii "AZ1-96H-48V" ++ List.replicate 5 0) ++ (ascii "A1" ++ List.replicate 2 0) ++
  (List.range 68).map Config.idPubkey ++ (List.range 5605).map Config.idEndorsement

/-- R538: the factory's endorsement of the island key: the serials, FWDIGEST, the accuracy class, the key, the signature. -/
def islandEndorsement : List Byte :=
  List.replicate 32 0 ++ (List.range 32).map Config.islandRomDigest ++ leBytes 2 50 ++
  (List.range 68).map Config.islandPubkey ++ (List.range 5605).map Config.islandEndorsement

/-- The default bytes of STR and DOMAIN objects: identity strings, zero blocks, the identity number map (R413), what the factory
and the island ROM fix (R464, R538; log entry 13). -/
@[irreducible] def domDefault (idx sub : Nat) : List Byte :=
  if idx = 0x1000 ∧ sub = 1 then ascii "AZ1-96H-48V"
  else if idx = 0x1000 ∧ sub = 2 then ascii "A1"
  else if idx = 0x1000 ∧ sub = 3 then ascii "Orontask"
  else if idx = 0x1001 ∧ sub = 2 then List.replicate 96 0
  else if idx = 0x7040 ∧ sub = 2 then List.replicate 64 0
  else if idx = 0x1B00 ∧ sub = 1 then List.replicate 32 0
  else if idx = 0x1300 ∧ sub = 5 then List.replicate 32 0
  else if idx = 0x1300 ∧ sub = 6 then List.replicate 16 0
  else if idx = 0x1701 ∧ sub = 1 then (List.range 4096).flatMap (leBytes 2)
  else if idx = 0x70C1 ∧ sub = 7 then List.replicate 56 0
  else if idx = 0x70C1 ∧ sub = 1 then (List.replicate 12 7200).flatMap (leBytes 2)
  else if idx = 0x1D02 ∧ sub = 2 then idEndorsement
  else if idx = 0x8000 ∧ sub = 2 then (List.range 32).map Config.islandRomDigest
  else if idx = 0x8000 ∧ sub = 3 then (List.range 68).map Config.islandPubkey
  else if idx = 0x8000 ∧ sub = 4 then islandEndorsement
  else []

end Sys2Proof.Machine
end

