-- ==== Sys2Proof/Machine/Num.lean ====
section
/-! DEFINITION. Number formats (02_number_formats.md): stored formats, their exact values, and every rounding
(R55 to R60). A value is exact: a sign, a magnitude m × 2^e, an infinity or a NaN. -/

namespace Sys2Proof.Machine

/-- An exact value: the internal form of R52 without its bounds. -/
inductive Num where
  | fin (neg : Bool) (m : Nat) (e : Int)
  | inf (neg : Bool)
  | nan
  deriving DecidableEq, Repr

/-- A dyadic number n × 2^e, the exact sums of R64, R76 and R85. -/
structure Dy where
  n : Int
  e : Int
  deriving DecidableEq, Repr

/-- 2^k of a non-negative exponent, 1 otherwise. -/
def pow2 (k : Int) : Nat := 2 ^ k.toNat

namespace Dy
/-- The integer that stands for `a` in units of 2^e, exact when e ≤ a.e. -/
def at' (a : Dy) (e : Int) : Int := a.n * pow2 (a.e - e)
/-- The whole units of 2^e in `a`, rounded toward −∞ where `a` is no multiple. -/
def units (a : Dy) (e : Int) : Int := if e ≤ a.e then a.at' e else a.n / (pow2 (e - a.e) : Nat)
def add (a b : Dy) : Dy := let e := min a.e b.e; ⟨a.at' e + b.at' e, e⟩
def neg (a : Dy) : Dy := ⟨-a.n, a.e⟩
def sub (a b : Dy) : Dy := a.add b.neg
def mul (a b : Dy) : Dy := ⟨a.n * b.n, a.e + b.e⟩
def zero : Dy := ⟨0, 0⟩
def ofInt (n : Int) : Dy := ⟨n, 0⟩
def lt (a b : Dy) : Bool := decide ((a.sub b).n < 0)
def le (a b : Dy) : Bool := decide ((a.sub b).n ≤ 0)
def abs (a : Dy) : Dy := ⟨a.n.natAbs, a.e⟩
def scale (a : Dy) (k : Int) : Dy := ⟨a.n, a.e + k⟩
def max' (a b : Dy) : Dy := if a.lt b then b else a
end Dy

namespace Num
def zero : Num := .fin false 0 0
def isFin : Num → Bool
  | .fin .. => true
  | _ => false
def isNan : Num → Bool
  | .nan => true
  | _ => false
def isInf : Num → Bool
  | .inf _ => true
  | _ => false
/-- The dyadic value of a finite number, 0 for a non-finite one. -/
def dy : Num → Dy
  | .fin s m e => ⟨if s then -(m : Int) else m, e⟩
  | _ => Dy.zero
/-- A dyadic number as a value; a zero is +0 (R55). -/
def ofDy (d : Dy) : Num := .fin (decide (d.n < 0)) d.n.natAbs d.e
def neg : Num → Num
  | .fin s m e => .fin (!s) m e
  | .inf s => .inf (!s)
  | .nan => .nan
/-- R54: the product of two internal-form operands. -/
def mul : Num → Num → Num
  | .fin s m e, .fin t n f => .fin (s != t) (m * n) (e + f)
  | .nan, _ => .nan
  | _, .nan => .nan
  | .inf s, .inf t => .inf (s != t)
  | .inf s, .fin t n _ => if n = 0 then .nan else .inf (s != t)
  | .fin s m _, .inf t => if m = 0 then .nan else .inf (s != t)
/-- Multiply by 2^k. -/
def scale (v : Num) (k : Int) : Num :=
  match v with
  | .fin s m e => .fin s m (e + k)
  | v => v
/-- The sum of two values; a zero sum of two negative zeros keeps its sign, every other zero sum is +0 (RNE). -/
def add : Num → Num → Num
  | .fin s m e, .fin t n f =>
    let d := (Num.fin s m e).dy.add (Num.fin t n f).dy
    if d.n = 0 then .fin (s && t) 0 0 else ofDy d
  | .nan, _ => .nan
  | _, .nan => .nan
  | .inf s, .inf t => if s = t then .inf s else .nan
  | .inf s, .fin .. => .inf s
  | .fin .., .inf t => .inf t
end Num

/-! ### Stored formats -/

/-- R37: the format codes. -/
def fmtE4M3 : Nat := 0x01
def fmtE5M2 : Nat := 0x02
def fmtE8M7 : Nat := 0x03
def fmtE5M10 : Nat := 0x04
def fmtE2M1 : Nat := 0x05
def fmtINT : Nat := 0x06
def fmtLOG8 : Nat := 0x07
def fmtPAIR16 : Nat := 0x08
def fmtE8M0 : Nat := 0x09

/-- The layout of a floating format (R39): bits of E and M, the exponent of the smallest subnormal, the largest
finite value maxM × 2^maxE, whether the all-ones exponent holds an infinity and NaNs, the canonical NaN (R40). -/
structure FloatFmt where
  eb : Nat
  mb : Nat
  emin : Int
  maxM : Nat
  maxE : Int
  ieee : Bool
  nanBits : Option Nat
  deriving DecidableEq, Repr

def ffE4M3 : FloatFmt := ⟨4, 3, -9, 14, 5, false, some 0x7F⟩
def ffE5M2 : FloatFmt := ⟨5, 2, -16, 7, 13, true, some 0x7E⟩
def ffE8M7 : FloatFmt := ⟨8, 7, -133, 255, 120, true, some 0x7FC0⟩
def ffE5M10 : FloatFmt := ⟨5, 10, -24, 2047, 5, true, some 0x7E00⟩
def ffE2M1 : FloatFmt := ⟨2, 1, -1, 3, 1, false, none⟩
/-- binary32, the vector unit's 32-bit arithmetic. -/
def ffF32 : FloatFmt := ⟨8, 23, -149, 2 ^ 24 - 1, 104, true, some 0x7FC00000⟩

def floatFmt (fmt : Nat) : Option FloatFmt :=
  match fmt with
  | 0x01 => some ffE4M3
  | 0x02 => some ffE5M2
  | 0x03 => some ffE8M7
  | 0x04 => some ffE5M10
  | 0x05 => some ffE2M1
  | _ => none

/-- R37, R43: the container bits of one element. -/
def fmtBits (fmt width : Nat) : Nat :=
  match fmt with
  | 0x01 | 0x02 | 0x07 | 0x09 => 8
  | 0x03 | 0x04 => 16
  | 0x05 => 4
  | 0x06 => if width ≤ 1 then 1 else if width = 2 then 2 else if width ≤ 4 then 4 else 8
  | 0x08 => 32
  | _ => 0

/-- R39, R53: the value of the stored bits of a floating format. -/
def decodeFF (f : FloatFmt) (x : Nat) : Num :=
  let s := bitOf x (f.eb + f.mb)
  let E := bitsOf x (f.eb + f.mb - 1) f.mb
  let M := bitsOf x (f.mb - 1) 0
  if f.ieee && E == 2 ^ f.eb - 1 then (if M = 0 then .inf s else .nan)
  else if !f.ieee && f.nanBits.isSome && E == 2 ^ f.eb - 1 && M == 2 ^ f.mb - 1 then .nan
  else if E = 0 then .fin s M f.emin
  else .fin s (2 ^ f.mb + M) (f.emin + E - 1)

/-- R41: the integer an INTn element holds. -/
def intVal (width : Nat) (signed : Bool) (x : Nat) : Int :=
  if signed then sgnOf width x else (x % 2 ^ width : Nat)

/-- R42, R53: the value of a stored element of formats 0x01 to 0x06; `z` is an enabled zero point. -/
def decodeElem (fmt width : Nat) (signed : Bool) (z : Option Int) (x : Nat) : Num :=
  match floatFmt fmt with
  | some f => decodeFF f x
  | none =>
    if fmt = fmtINT then
      let v := intVal width signed x - z.getD 0
      .fin (decide (v < 0)) v.natAbs 0
    else .nan

/-- R47: the value of a PAIR16 word, the exact sum hi + lo. -/
def decodePair (x : Nat) : Num :=
  (decodeFF ffE8M7 (x >>> 16)).add (decodeFF ffE8M7 (x % 65536))

/-- ⌊2^(j/8) × 2^(8k)⌋-style integer roots: ⌊√x⌋ by bits, `n` bits of result. -/
def isqrtAux (x : Nat) : Nat → Nat → Nat
  | 0, r => r
  | n + 1, r => let c := r + 2 ^ n; isqrtAux x n (if c * c ≤ x then c else r)

def isqrt (x : Nat) : Nat := isqrtAux x (x.log2 / 2 + 1) 0

/-- ⌊2^(k/8) × 2^p⌋ for k ≥ −8p. -/
def root8 (k : Int) (p : Nat) : Nat := isqrt (isqrt (isqrt (pow2 (k + 8 * p))))

/-! ### Rounding -/

/-- RMODE of R55. -/
inductive RMode where
  | rne | sr | rtz
  deriving DecidableEq, Repr

/-- The mode an RMODE code names; 0b11 is reserved and refused at admission (R55), read here as RNE. -/
def rmodeOf (c : Nat) : RMode := if c % 4 = 1 then .sr else if c % 4 = 2 then .rtz else .rne

/-- A rounding target: a stored format with its INTn width and signedness, and SAT. -/
structure Target where
  fmt : Nat
  width : Nat
  signed : Bool
  sat : Bool
  deriving DecidableEq, Repr

/-- What one rounding gives: the stored bits, whether the value overflowed its target (R59), and whether a NaN was
written into a format without NaN (R60, event 0x2010). -/
structure Rounded where
  bits : Nat
  exceeds : Bool
  nanLost : Bool
  deriving DecidableEq, Repr

/-- The exponent of the spacing of a floating format's values at the magnitude m × 2^e (m > 0). -/
def ulpExp (f : FloatFmt) (m : Nat) (e : Int) : Int := max f.emin ((m.log2 : Int) + e - f.mb)

/-- Rounding the magnitude m × 2^e to a whole number of units of 2^u, to nearest, ties to even. -/
def rneUnits (m : Nat) (e u : Int) : Nat :=
  if u ≤ e then m * pow2 (e - u)
  else
    let d := pow2 (u - e)
    let q := m / d
    let r := m % d
    if 2 * r > d || (2 * r == d && q % 2 == 1) then q + 1 else q

/-- The same, truncated. -/
def rtzUnits (m : Nat) (e u : Int) : Nat :=
  if u ≤ e then m * pow2 (e - u) else m / pow2 (u - e)

/-- ⌊f × 2^r⌋ for the discarded part f of m × 2^e in units of 2^u (R56). -/
def discarded (m : Nat) (e u : Int) (r : Nat) : Nat :=
  if u ≤ e then 0 else (m % pow2 (u - e)) * 2 ^ r / pow2 (u - e)

/-- Whether m × 2^e is a whole number of units of 2^u. -/
def isExact (m : Nat) (e u : Int) : Bool := decide (u ≤ e) || m % pow2 (u - e) == 0

/-- The largest magnitude of the target for a value of sign `neg`, as m × 2^e (R39, R59). -/
def maxMag (t : Target) (neg : Bool) : Nat × Int :=
  match floatFmt t.fmt with
  | some f => (f.maxM, f.maxE)
  | none =>
    if t.fmt = fmtINT then
      (if neg then (if t.signed then 2 ^ (t.width - 1) else 0)
       else if t.signed then 2 ^ (t.width - 1) - 1 else 2 ^ t.width - 1, 0)
    else (1, 0)

/-- m × 2^e ≤ n × 2^f. -/
def magLe (m : Nat) (e : Int) (n : Nat) (f : Int) : Bool :=
  decide (m * pow2 (e - min e f) ≤ n * pow2 (f - min e f))

/-- The spacing exponent used for the magnitude m × 2^e of target `t`. -/
def unitExp (t : Target) (m : Nat) (e : Int) : Int :=
  match floatFmt t.fmt with
  | some f => ulpExp f m e
  | none => 0

/-- R60, R40: a non-finite value in the target. -/
def roundNonfinite (t : Target) (v : Num) : Rounded :=
  match v, floatFmt t.fmt with
  | .nan, some f =>
    match f.nanBits with
    | some b => ⟨b, false, false⟩
    | none => ⟨0, false, true⟩
  | .nan, none => if t.fmt = fmtLOG8 then ⟨0x80, false, false⟩ else ⟨0, false, true⟩
  | .inf s, some f =>
    if f.ieee then ⟨b2n s * 2 ^ (f.eb + f.mb) + (2 ^ f.eb - 1) * 2 ^ f.mb, false, false⟩
    else ⟨b2n s * 2 ^ (f.eb + f.mb) + (((f.maxE - f.emin).toNat) * 2 ^ f.mb + f.maxM), true, false⟩
  | .inf s, none =>
    if t.fmt = fmtLOG8 then ⟨b2n s * 128 + 127, true, false⟩
    else
      let (m, _) := maxMag t s
      ⟨if s then ofSgn t.width (-(m : Int)) else m, true, false⟩
  | .fin .., _ => ⟨0, false, false⟩

/-- The stored bits of q units of 2^u with sign `s`, saturated or made infinite by R59 where it exceeds the range. -/
def saturateOr (t : Target) (s : Bool) (q : Nat) (u : Int) : Rounded :=
  let (mm, me) := maxMag t s
  match floatFmt t.fmt with
  | some f =>
    if magLe q u mm me then ⟨b2n s * 2 ^ (f.eb + f.mb) + (if q = 0 then 0 else (u - f.emin).toNat * 2 ^ f.mb + q), false, false⟩
    else if f.ieee && !t.sat then ⟨b2n s * 2 ^ (f.eb + f.mb) + (2 ^ f.eb - 1) * 2 ^ f.mb, true, false⟩
    else ⟨b2n s * 2 ^ (f.eb + f.mb) + ((f.maxE - f.emin).toNat * 2 ^ f.mb + f.maxM), true, false⟩
  | none =>
    let exceeds := !magLe q u mm me
    let k := if exceeds then mm else q
    ⟨if s then ofSgn t.width (-(k : Int)) else k, exceeds, false⟩

/-- Whether the rounding of this value under SR draws bits (R56, R58). -/
def srDrawsFin (t : Target) (s : Bool) (m : Nat) (e : Int) : Bool :=
  if m = 0 then false
  else if t.fmt = fmtLOG8 then
    let L8 := ((m ^ 8).log2 : Int) + 8 * e
    -- a = v(L) exactly, or a ≥ 1: no bits (R45)
    !(decide (0 ≤ L8) || (decide (-126 ≤ L8) && m ^ 8 == 2 ^ ((m ^ 8).log2)))
  else
    let (mm, me) := maxMag t s
    let (cm, ce) := if magLe m e mm me then (m, e) else (mm, me)
    let u := if cm = 0 then 0 else unitExp t cm ce
    !isExact m e u && !magLe mm me (rtzUnits m e u) u

def srDraws (t : Target) (v : Num) : Bool :=
  match v with
  | .fin s m e => srDrawsFin t s m e
  | _ => false

/-- R45: rounding a magnitude m × 2^e into LOG8. The comparisons a ≥ v(L) are made on eighth and sixteenth powers,
which are exact; the discarded part under SR is exact because f × 2^r is never a whole number other than 0. -/
def roundLog8 (rm : RMode) (r u : Nat) (s : Bool) (m : Nat) (e : Int) : Rounded :=
  let enc (L : Nat) : Nat := if L = 0 then 0 else b2n s * 128 + L
  let L8 : Int := ((m ^ 8).log2 : Int) + 8 * e + 127
  if m = 0 then ⟨0, false, false⟩
  else if !magLe m e 1 0 then ⟨enc 127, true, false⟩
  else
    match rm with
    | .rne =>
      if 1 ≤ L8 then ⟨enc ((((m ^ 16).log2 : Int) + 16 * e + 255) / 2).toNat, false, false⟩
      -- 0 < a < v(1): L = 1 when a > 2^-16.75, that is a^4 > 2^-67
      else ⟨enc (if magLe (m ^ 4) (4 * e) 1 (-67) then 0 else 1), false, false⟩
    | .rtz => ⟨enc (if 1 ≤ L8 then L8.toNat else 0), false, false⟩
    | .sr =>
      let L : Nat := if 1 ≤ L8 then L8.toNat else 0
      if L = 127 || (1 ≤ L && m ^ 8 == 2 ^ ((m ^ 8).log2)) then ⟨enc L, false, false⟩
      else
        let p := 1024
        let v := if L = 0 then 0 else root8 ((L : Int) - 127) p
        let v' := root8 ((L : Int) - 126) p
        let a := if 0 ≤ e + p then m * pow2 (e + p) else m / pow2 (-(e + p))
        let t := (a - v) * 2 ^ r / (v' - v)
        ⟨enc (if t + u ≥ 2 ^ r then L + 1 else L), false, false⟩

/-- R55 to R60: one rounding of an exact value into the target; `u` are the r bits an SR lane drew. -/
def roundTo (t : Target) (rm : RMode) (r u : Nat) (v : Num) : Rounded :=
  match v with
  | .fin s m e =>
    if t.fmt = fmtLOG8 then roundLog8 rm r u s m e
    else if m = 0 then saturateOr t s 0 (unitExp t 1 0)
    else
      let ue := unitExp t m e
      match rm with
      | .rne => saturateOr t s (rneUnits m e ue) ue
      | .rtz => saturateOr t s (rtzUnits m e ue) ue
      | .sr =>
        if srDrawsFin t s m e then
          let q := rtzUnits m e ue
          saturateOr t s (if discarded m e ue r + u ≥ 2 ^ r then q + 1 else q) ue
        else saturateOr t s (rneUnits m e ue) ue
  | v => roundNonfinite t v

/-- RNE into a floating layout with infinities, the 32-bit arithmetic of the vector unit. -/
def roundFF (f : FloatFmt) (v : Num) : Nat :=
  match v with
  | .nan => f.nanBits.getD 0
  | .inf s => b2n s * 2 ^ (f.eb + f.mb) + (2 ^ f.eb - 1) * 2 ^ f.mb
  | .fin s m e =>
    let sg := b2n s * 2 ^ (f.eb + f.mb)
    if m = 0 then sg
    else
      let u := ulpExp f m e
      let q := rneUnits m e u
      if magLe q u f.maxM f.maxE then sg + ((u - f.emin).toNat * 2 ^ f.mb + q)
      else sg + (2 ^ f.eb - 1) * 2 ^ f.mb

/-- binary32 of an exact value, and back. -/
def toF32 (v : Num) : Nat := roundFF ffF32 v
def f32 (x : Nat) : Num := decodeFF ffF32 x
/-- A value rounded once into binary32. -/
def r32 (v : Num) : Num := f32 (toF32 v)
def toE8M7 (v : Num) : Nat := roundFF ffE8M7 v
def e8m7 (x : Nat) : Num := decodeFF ffE8M7 x

/-- R47: the PAIR16 word of an exact value, SAT = 0 for hi. -/
def toPair16 (v : Num) : Nat :=
  let hi := toE8M7 v
  match e8m7 hi with
  | .fin s m e => if m = 0 then hi * 65536 else hi * 65536 + toE8M7 (v.add (Num.fin s m e).neg)
  | _ => hi * 65536

/-- Every value of a format-0x01-to-0x08 element with its INTn attributes; LOG8 is not dyadic and is read as a code. -/
def decodeAny (fmt width : Nat) (signed : Bool) (z : Option Int) (x : Nat) : Num :=
  if fmt = fmtPAIR16 then decodePair x else decodeElem fmt width signed z x

/-! ### Packing (R43) -/

/-- Element `i` of a packed body, given the element container's bits (1, 2, 4, 8, 16 or 32). -/
def elemAt (body : List Byte) (bits i : Nat) : Nat :=
  if bits < 8 then
    let per := 8 / bits
    ((body.getD (i / per) 0).toNat >>> (bits * (i % per))) % 2 ^ bits
  else leNat ((body.drop (i * (bits / 8))).take (bits / 8))

/-- The bytes of elements packed least significant bits first. -/
def packSmall (bits : Nat) : Nat → List Nat → List Byte
  | 0, _ => []
  | _, [] => []
  | n + 1, xs =>
    let per := 8 / bits
    BitVec.ofNat 8 ((xs.take per).foldr (fun x acc => x % 2 ^ bits + 2 ^ bits * acc) 0) :: packSmall bits n (xs.drop per)

def packElems (bits : Nat) (xs : List Nat) : List Byte :=
  if bits < 8 then packSmall bits xs.length xs else xs.flatMap (leBytes (bits / 8))

/-- R62: the value of the carry, c × ulp(w)/128. -/
def ulpE8M7 (w : Nat) : Int := max (bitsOf w 14 7) 1 - 134

/-- R63: the weight and carry after an update `delta`, in 32-bit arithmetic; `u` are the drawn bits. The third part says
that the carry was clamped. -/
def storeWeightTarget (w c : Nat) (delta : Num) : Num :=
  let cv : Num := Num.ofDy ⟨sgnOf 8 c, ulpE8M7 w - 7⟩
  r32 ((r32 ((e8m7 w).add cv)).add delta)

def stateTarget : Target := ⟨fmtE8M7, 0, false, true⟩

/-- R63: the carry after the weight `wn` was written for target `tv`, and whether it was clamped. -/
def carryOf (tv : Num) (wn : Nat) : Nat × Bool :=
  match e8m7 wn with
  | .fin s m e =>
    match r32 (tv.add (Num.fin s m e).neg) with
    | .fin rs rm re =>
      let k := rneUnits rm (re + 7) (ulpE8M7 wn)
      let c : Int := if rs then -(k : Int) else k
      let cc := max (-128) (min 127 c)
      (ofSgn 8 cc, decide (cc ≠ c))
    | _ => (0, false)
  | _ => (0, false)

def storeWeight (w c : Nat) (delta : Num) (r u : Nat) : Nat × Nat × Bool :=
  let t := storeWeightTarget w c delta
  let wn := (roundTo stateTarget .sr r u t).bits
  (wn, carryOf t wn)

end Sys2Proof.Machine
end

