-- ==== Sys2Proof/Machine/State.lean ====
section
/-! DEFINITION. The state of the block, as plain data: everything 00 to 20 of the manual give it, and the queue of the
commands that wait. Sparse arrays are maps in canonical form (Word.lean); an unlisted key holds the default. -/

namespace Sys2Proof.Machine

/-- How a command can stop the block. No meaning of this model stops: the manual gives every command an effect, and a
command that does not apply in the present state changes nothing (log entry 5). -/
inductive Fault where
  /-- Raised by no command; a stop of this kind would be safe. -/
  | none
  deriving DecidableEq, Repr

/-- Why a command has no meaning. -/
inductive Refusal where
  /-- Raised by an arm of `exec` that has no meaning yet; safe. -/
  | notModelled (mnemonic : String)
  deriving DecidableEq, Repr

/-- Wall time since the Thaw began (R439, R447) and the counter behind the free values (log entry 3). -/
structure TimeS where
  nowNs : Nat := 0
  free : Nat := 0
  deriving DecidableEq, Repr

/-! ### Events (R439, R566, R567) -/

/-- R439: one record of the event log; `read` says that a session has received it. -/
structure EvRec where
  code : Nat := 0
  sev : Nat := 0
  flags : Nat := 0
  seq : Nat := 0
  timeUs : Nat := 0
  step : Nat := 0
  phase : Nat := 0
  uarr : Nat := 0
  uinst : Nat := 0
  arg0 : Nat := 0
  arg1 : Nat := 0
  read : Bool := false
  deriving DecidableEq, Repr

structure EvtS where
  /-- record s at key s mod 4096 -/
  log : Map EvRec := []
  /-- events of Thaw steps 1 and 2, kept by the boot ROM (R448), oldest first -/
  early : List EvRec := []
  /-- raises of each code, which EVENT triggers follow (R172) -/
  raised : Map Nat := []
  /-- occurrences of each code in the step (R569) -/
  occ : Map Nat := []
  occStep : Nat := 0
  /-- suppression of R567: key to step + 1 of the last raise, or to time + 1 in ns -/
  once : Map Nat := []
  last : Map Nat := []
  deriving DecidableEq, Repr

/-- The object dictionary: scalar values, STR and DOMAIN values, values in force since the last admission (R71, R426). -/
@[ext]
structure DictS where
  num : Map Nat := []
  dom : Map (List Byte) := []
  force : Map Nat := []
  deriving DecidableEq, Repr

/-! ### Cores (chapter 04) -/

/-- Which full queue a thread in WAIT_QUEUE waits for (R110). -/
inductive QWait where
  | eng (e : Nat)
  | move
  | watch
  deriving DecidableEq, Repr

/-- R110: the thread states, with what each waits for. -/
inductive ThState where
  | free | ready
  | waitSync (sc : Nat) (target : W32)
  | waitQueue (q : QWait)
  | waitMem
  | waitBar
  | waitPhase (stamp : W32)
  | waitWatch (off : Nat) (val : W64)
  | faulted
  deriving DecidableEq, Repr

/-- R109: a thread context. -/
structure Thread where
  pc : BitVec 13 := 0
  st : ThState := .free
  handle : W32 := 0
  group : Nat := 0
  regs : Map W64 := []
  /-- wall time at which it entered its present state (R141) -/
  sinceNs : Nat := 0
  deriving DecidableEq, Repr

/-- R105: the states of a frame. -/
inductive FrameSt where
  | empty | opened | full
  deriving DecidableEq, Repr

/-- R105, R154, R158, R162, R165, R215: what a frame carries beside its bytes. -/
structure Frame where
  st : FrameSt := .empty
  reads : Nat := 0
  release : Bool := false
  poison : Bool := false
  fill : Bool := false
  cause : Nat := 0
  carousel : Bool := false
  /-- side units held: `none` the outlier words, `some s` the fallback slot of sub-block s -/
  units : List (Nat × Option Nat) := []
  /-- outlier words in the side unit (R215) -/
  words : Nat := 0
  deriving DecidableEq, Repr

/-- R77: one cell of an accumulator slot. The sum counts units of 2^-48 (forward) or 2^-157 (E8M7 block form). -/
structure Cell where
  sum : Int := 0
  nan : Bool := false
  pinf : Bool := false
  ninf : Bool := false
  ovf : Bool := false
  ovfNeg : Bool := false
  deriving DecidableEq, Repr

/-- R83, R85: what the engine takes from an operand's tensor-scale record. -/
structure OpScale where
  tsid : Nat := 0xFFFF
  s : Nat := 0x3F80
  f : Nat := 127
  deriving DecidableEq, Repr

/-- R76, R77, R85: an accumulator slot. -/
structure Slot where
  valid : Bool := false
  block : Bool := false
  cells : List Cell := []
  a : OpScale := {}
  b : OpScale := {}
  ovfRaised : Bool := false
  deriving DecidableEq, Repr

/-- R183: a published line as its readers take it. -/
structure Line where
  ok : Bool := false
  s : Nat := 0
  q : Nat := 0
  f : Nat := 127
  zp : Nat := 0
  fmt : Nat := 0
  flags : Nat := 0
  pstep : Nat := 0
  home : Nat := 0
  n : Nat := 0
  h : Nat := 0
  win : Nat := 0
  bsa : Nat := 0
  esa : Nat := 0
  satlim : Nat := 0
  deriving DecidableEq, Repr

/-- R112: an entry of an engine queue. The descriptors and the stream handle are taken at issue; a drain's output line is
fetched when it is queued (R188); `since` is the wall time in ns, plus 1, since which it waits for its output scale, and `late`
says that this wait reached the limit (R189). -/
inductive EngOp where
  | acc (f : AccFields) (a b : W64) (handle : W32)
  | drain (f : DrainFields) (o add : W64) (handle : W32) (line : Line) (since : Nat) (late : Bool)
  | table (f : TableFields) (off : W64)
  deriving DecidableEq, Repr

/-- R157, R165, R171: what a move-queue entry does. -/
inductive MoveKind where
  | tiles | bytes | pass (drop : Bool)
  deriving DecidableEq, Repr

/-- A tile read and not yet delivered: payload, header, whether it is the refetch, whether the read reached something. -/
structure InFlight where
  k : Nat := 0
  payload : List Byte := []
  header : List Byte := []
  refetch : Bool := false
  /-- TAGs of the remote requests of this tile that are not yet answered (R393) -/
  await : List Nat := []
  /-- only the first payload beat has been asked for, the others follow when it is here (R252) -/
  more : Bool := false
  /-- a remote access of this tile ended with error status (R392, R393) -/
  err : Bool := false
  deriving DecidableEq, Repr

/-- An entry of a move queue (R112, R157, R158): tiles `issued` and `done`, those in flight, the issuing thread. -/
structure MoveEnt where
  kind : MoveKind := .tiles
  src : Nat := 0
  srch : Nat := 0
  dst : Nat := 0
  dsth : Nat := 0
  sstride : Nat := 0
  dstride : Nat := 0
  count : Nat := 1
  dring : Nat := 1
  scnt : Nat := 0
  score : Nat := 0
  rel : Bool := false
  trans : Bool := false
  thread : Option Nat := none
  issued : Nat := 0
  done : Nat := 0
  flight : List InFlight := []
  /-- bytes of a byte move (R171) -/
  nbytes : Nat := 0
  /-- remote writes not yet acknowledged (R392) -/
  wr : Nat := 0
  /-- a TLD or TST whose address does not reach the store (R121, R31); a TST -/
  miss : Bool := false
  outward : Bool := false
  /-- a remote write ended with error status (R392, R393) -/
  err : Bool := false
  deriving DecidableEq, Repr

/-- R137: a live launch group. -/
structure Group where
  live : Bool := false
  header : Nat := 0
  recOff : Nat := 0
  seq : Nat := 0
  threads : List Nat := []
  deadline : Nat := 0
  doneCnt : Nat := 0
  faulted : Bool := false
  /-- R141: the position from which the hang limit counts, and the wall time in ns at which it is reached -/
  basePos : Nat := 0
  baseNs : Int := 0
  deriving DecidableEq, Repr

/-- R191: an entry of a drain unit's report buffer. -/
structure Report where
  tsid : Nat := 0
  smax : Nat := 0
  sats : Nat := 0
  deriving DecidableEq, Repr

/-- R102: a core. -/
structure CoreS where
  thr : Map Thread := []
  /-- R111: the scheduler's pointer -/
  ptr : Nat := 0
  prog : Map W64 := []
  sync : Map W32 := []
  frames : Map Frame := []
  engq : Map (List EngOp) := []
  slots : Map Slot := []
  tabs : Map (List Nat) := []
  moveq : List MoveEnt := []
  /-- watch entries: thread, store offset (R131) -/
  watch : List (Nat × Nat) := []
  groups : Map Group := []
  /-- R135: stamps at which the dispatcher polls a list again, lists whose poll stopped for lack of threads or groups, lists to
  poll because a group completed since, and at the last poll the TAIL and the season (4 × step + season), plus 1, and how
  often TAIL had been written -/
  armed : Map (Option W32) := []
  lack : Map Bool := []
  again : Map Bool := []
  tailWrites : Map Nat := []
  tailSeen : Map Nat := []
  slotSeen : Map Nat := []
  /-- R100: intervals of engine clk in which an engine took operands, and when each engine's operand path is free -/
  busy : List (Nat × Nat) := []
  opFree : Map Nat := []
  bankErr : Map Nat := []
  reports : Map (List Report) := []
  failed : Bool := false
  scaled : Bool := false
  deriving DecidableEq, Repr

/-! ### Random bits (chapter 07) -/

/-- R225, R235: a lane: automaton state, ready bits (first taken lowest) and how many. -/
structure Lane where
  x : W32 := 1
  ready : Nat := 0
  n : Nat := 0
  deriving DecidableEq, Repr

/-- R229, R241: a context of one handle; bits delivered and ones counted in the running 65,536. -/
structure Ctx where
  handle : W32
  /-- step index with which the seeds were derived (R226) -/
  step : Nat
  lanes : List Lane
  /-- the lane states with which it was opened, from which a SIGN stream is read by index (R205, R232) -/
  start : List W32 := []
  bits : Nat := 0
  ones : Nat := 0
  deriving DecidableEq, Repr

structure UnitCtx where
  cur : Option Ctx := none
  shadow : Option Ctx := none
  deriving DecidableEq, Repr

/-! ### Clusters (chapters 05 to 08, 10) -/

/-- The descriptor a ring engine is working on: its ring and store offset, and whether its work has been carried out. -/
structure Job where
  ring : Nat
  off : Nat
  desc : List Byte := []
  worked : Bool := false
  /-- the list a predictor descriptor computed (R271) -/
  list : List Byte := []
  /-- set when the output scale wait reached its limit, and since when the wait lasts, wall time in ns plus 1 (R189) -/
  late : Bool := false
  since : Nat := 0
  /-- fallback sub-blocks written (R202) -/
  falls : Nat := 0
  deriving DecidableEq, Repr

/-- R164: a carousel of the plan. -/
structure Carousel where
  members : List Nat
  base : Nat
  share : Nat
  turns : Nat
  se : Nat
  deriving DecidableEq, Repr

structure ClusS where
  cvt : Option Job := none
  cvtNext : Nat := 0
  red : Option Job := none
  redNext : Nat := 0
  ltb : Option Job := none
  mjob : Option Job := none
  pred : Option Job := none
  /-- P1, P2 and PCRC of the parameters the predictor holds (R274) -/
  predBuf : Option (Nat × Nat × Nat) := none
  predMem : List Byte := []
  /-- step counters: key 4 × class + (0 NAN, 1 INF, 2 OVF, 3 SAT) (R306) -/
  cnt : Map Nat := []
  clamps : Nat := 0
  storms : Nat := 0
  predover : Nat := 0
  /-- R263: regrowth candidates that MUPD rejected -/
  rejected : Nat := 0
  jumps : Nat := 0
  retry : Nat := 0
  corrected : Nat := 0
  carousels : List Carousel := []
  ctx : Map UnitCtx := []
  /-- openings of each handle in step `opensStep` (R240) -/
  opens : Map Nat := []
  opensStep : Nat := 0
  /-- R154, R69: the tiles, by payload and header offset, that the engine's work has read once and found bad -/
  reread : List (Nat × Nat) := []
  deriving DecidableEq, Repr

/-! ### Micro-sequencers (R168, R173) -/

/-- What a micro-sequencer is doing. -/
inductive SqState where
  | idle | running
  | waitWord (off : Nat) (rb : W32)
  | waitPhase (stamp : W32)
  | waitQueue
  /-- an operation that waits for room in the move queue reissues -/
  | waitRoom
  deriving DecidableEq, Repr

structure SqS where
  regs : Map W32 := []
  pc : BitVec 8 := 0
  st : SqState := .idle
  /-- pending trigger entries -/
  pend : BitVec 8 := 0
  /-- step + 1 in which a SEASON or STAMP entry last fired -/
  fired : Map Nat := []
  /-- raises of its event that an EVENT entry has already followed -/
  seen : Map Nat := []
  deriving DecidableEq, Repr

/-! ### Numeric health (chapter 10) -/

/-- R323: a loss detector; `mu` and `d` are binary32. -/
structure Det where
  mu : Nat := 0
  d : Nat := 0
  n : Nat := 0
  run : Nat := 0
  deriving DecidableEq, Repr

structure HealthS where
  /-- the device monitor's 64 KiB health store -/
  store : Map Byte := []
  det0 : Det := {}
  det1 : Det := {}
  /-- loss written for a step: step [31:0] and binary32 -/
  loss : Option (Nat × Nat) := none
  evalLoss : Option (Nat × Nat) := none
  /-- steps whose flag is set in the records: step to cause + 1 -/
  tainted : Map Nat := []
  /-- headers of the tiles written with TAINT in the present step (R311) -/
  taintedHdrs : List Nat := []
  /-- tainted steps not yet counted by RISK (R319, R320) -/
  uncounted : Nat := 0
  /-- summaries arrived: cluster to step[31:0] + 1 -/
  arrived : Map Nat := []
  /-- summaries sent and not yet arrived: cluster to its bytes -/
  posted : Map (List Byte) := []
  lres0 : Nat := 0
  lres1 : Nat := 0
  /-- summaries that arrived since the last RISK; inputs of those a later summary has replaced in the store (R319) -/
  fresh : Map Bool := []
  carry : List Nat := []
  /-- the device counters of inputs 11 to 13 as the last RISK found them (R320) -/
  hbmSeen : Nat := 0
  ddrSeen : Nat := 0
  d2dSeen : Nat := 0
  retrainSeen : Nat := 0
  overSeen : Nat := 0
  /-- restores requested per step index (R312) -/
  restores : Map Nat := []
  deriving DecidableEq, Repr

/-! ### Cadence and admission (chapter 11) -/

structure CadS where
  step : Nat := 0
  /-- PH:SPH, 24 bits -/
  phase : Nat := 0
  /-- remainder of the local counter, in ns × 2^24 / PERIOD units -/
  frac : Nat := 0
  /-- the counter stands at the last sph before a boundary, or no plan runs -/
  stopped : Bool := true
  stopNs : Nat := 0
  /-- the counter, ahead of the master by more than 1 ph, stands until this wall time in ns (R332) -/
  ahead : Option Nat := none
  /-- offset still to be slewed, in units of `frac` (R332) -/
  slew : Int := 0
  /-- event 0x1004 raised for the withheld boundary, and the start of its hold (R339) -/
  held : Bool := false
  holdNs : Option Nat := none
  /-- last accepted position and when -/
  lastPos : Option (Nat × Nat) := none
  lastNs : Nat := 0
  lossRaised : Bool := false
  former : Option Nat := none
  locked : Bool := false
  /-- DONE received by the master: step, season, device -/
  done : List (Nat × Nat × Nat) := []
  /-- the last DONE this device sent: step, season -/
  sent : Option (Nat × Nat) := none
  gates : List GateEntry := []
  pairOn : Bool := false
  pairGood : Nat := 0
  pairNs : Nat := 0
  pairPos : Option (Nat × Nat) := none
  /-- the pair's step period while it is followed, 0 for the admitted one (R334), and the lag in sph that holds have left (R334) -/
  pairPeriod : Nat := 0
  pairLag : Int := 0
  outq : List Nat := []
  lost : List Nat := []
  members : List Nat := []
  s0 : Nat := 0
  cutOff : Bool := false
  /-- the step a STOP lets end (R428) -/
  stopStep : Option Nat := none
  deriving DecidableEq, Repr

/-- The header and the CADENCE and BUDGETS sections of a plan image (R341, R342). -/
structure PlanHdr where
  member : Nat := 0
  s0 : Nat := 0
  period : Nat := 0
  clkFloor : Nat := 0
  b1 : Nat := 0
  b2 : Nat := 0
  b3 : Nat := 0
  hstamp : Nat := 0
  master : Nat := 0
  backup : Nat := 0xFFFF
  guard : Nat := 0
  maskStep : Nat := 0
  budgets : List Nat := []
  deriving DecidableEq, Repr

structure AdmS where
  plan : Option PlanHdr := none
  facts : Option PlanFacts := none
  /-- verdicts the master holds: device, code (0 admitted) -/
  verdicts : List (Nat × Nat) := []
  withdrawn : Option Nat := none
  admittedNs : Nat := 0
  /-- S0 that a restore puts in place of the header's (R345, R514) -/
  restoreS0 : Option Nat := none
  /-- `RNG_DEVICE_SEED` as the last admission took it (R243) -/
  seed : List Byte := List.replicate 32 0
  deriving DecidableEq, Repr

/-! ### Management (chapter 14) -/

/-- R430: a response; `body` holds its items. -/
structure DapResp where
  op : Nat
  fstatus : Nat
  seq : Nat
  session : Nat
  target : Nat
  count : Nat
  body : List Byte
  deriving DecidableEq, Repr

/-- R435: what a session stages. `base` is the object's change count at BEGIN. -/
structure Staging where
  idx : Nat
  sub : Nat
  inst : Nat
  total : Nat
  data : List Byte
  base : Nat
  deriving DecidableEq, Repr

/-- R434: a frame held for its turn. -/
structure HeldFrame where
  hdr : DapHdr
  req : DapReq
  ns : Nat
  deriving DecidableEq, Repr

/-- R439: a subscription: MINSEV, CLASSMASK, SEQ of the next EVENT frame and of the next record to look at, frames sent in
the second `secStart`. -/
structure Subscr where
  minsev : Nat
  mask : Nat
  frameSeq : Nat := 1
  recSeq : Nat := 1
  secStart : Nat := 0
  sent : Nat := 0
  deriving DecidableEq, Repr

/-- R423, R434 to R440, R466: an open session. -/
structure Session where
  sid : Nat
  link : DapLink
  /-- a proxy session's source session id -/
  src : Option (Nat × Nat) := none
  ceil : Nat
  /-- the role with which it holds the lease, 1 without it (R437) -/
  role : Nat := 1
  /-- the identity that authenticated the DTLS connection (R469) -/
  ident : List Byte := []
  next : Nat := 1
  cache : List (Nat × DapResp) := []
  heldF : List HeldFrame := []
  staging : Option Staging := none
  sub : Option Subscr := none
  lastNs : Nat := 0
  nonce : Option (List Byte) := none
  quote : List Byte := []
  deriving DecidableEq, Repr

/-- R440: fragments of a forwarded frame: source, next fragment number, bytes so far, start. -/
structure FragBuf where
  src : Nat
  next : Nat
  ceiling : Nat
  data : List Byte
  ns : Nat
  deriving DecidableEq, Repr

structure MgmtS where
  sessions : List Session := []
  /-- DTLS connections: number, low 64 bits of the source address, role and identity of the credential (R429, R469) -/
  conns : List (Nat × Nat × Nat × List Byte) := []
  frags : List FragBuf := []
  /-- frames forwarded and not answered: session, SEQ, OP, TARGET, time -/
  fwd : List (Nat × Nat × Nat × Nat × Nat) := []
  /-- handshake failures: source address and time; addresses ignored until a time (R429) -/
  fails : List (Nat × Nat) := []
  ignored : List (Nat × Nat) := []
  /-- changes made to each DOMAIN object, for R435 -/
  changes : Map Nat := []
  deriving DecidableEq, Repr

/-! ### Survival (chapter 17) -/

/-- R503, R504: what is known of an image in a slot; its bytes lie in the DDR5 tier. The detectors and the risk estimate of
the device monitor are the part of the metadata that has no device-local address. -/
structure Image where
  hnum : Nat
  step : Nat
  isSealed : Bool := false
  committed : Bool := false
  det0 : Det := {}
  det1 : Det := {}
  risk : Nat := 0
  /-- what the sections of the plan image in it hold (log entry 10) -/
  plan : Option PlanFacts := none
  deriving DecidableEq, Repr

/-- R508: a Harvest under way: its slot (0 A, 1 B), its step and number. -/
structure HvRun where
  slot : Nat
  step : Nat
  hnum : Nat
  copied : Bool := false
  deriving DecidableEq, Repr

/-- R512: an export that arrives at the keeper: the keep slot, its number, the regions that came well, and how often the
present one was asked for again. -/
structure HvKeep where
  slot : Nat
  hnum : Nat
  got : List Nat := []
  retries : Nat := 0
  deriving DecidableEq, Repr

/-- R513, R514: a restore under way: its point and cause, and the load failures so far. -/
structure HvRestore where
  point : Nat
  cause : Nat
  failures : Nat := 0
  deriving DecidableEq, Repr

structure HvS where
  /-- failed units not yet substituted: true for a cluster, logical number (R515) -/
  failed : List (Bool × Nat) := []
  /-- a commanded request waits for its Harvest (R505, R507) -/
  commanded : Bool := false
  /-- what the local slots and the keep slots hold (R501) -/
  slotA : Option Image := none
  slotB : Option Image := none
  keepA : Option Image := none
  keepB : Option Image := none
  run : Option HvRun := none
  keep : Option HvKeep := none
  /-- the newest committed image is not yet sealed at the keeper (R507, R512), the position it is exported to and the position of
  the ward at that time (R517) -/
  exporting : Bool := false
  keptAt : Option Nat := none
  wardAt : Option Nat := none
  restore : Option HvRestore := none
  /-- the master: the target it announced (R506) -/
  announced : Option Nat := none
  /-- members declared lost and not yet replaced (R340, R517), and the positions they stood at -/
  lostSeen : List Nat := []
  deadPos : List Nat := []
  deriving DecidableEq, Repr

/-! ### Links (chapter 13) -/

/-- R393: what an outstanding request brings back: bytes of a tile, its payload or its header, or the acknowledgement of a
write; the mover that waits, how many of `total` bytes are still to come, and where it went. -/
structure Req where
  mover : Mover
  isWrite : Bool
  isHdr : Bool
  total : Nat
  left : Nat
  pos : Nat := 0
  addr : Nat := 0
  /-- the time at which it was sent, in ns -/
  sent : Nat := 0
  deriving DecidableEq, Repr

/-- R399: a packet of another device that waits for its output port, with the input port and the class whose buffer holds it. -/
structure Transit where
  hdr : PktHdr
  data : List Byte
  inPort : Nat
  cls : Nat
  deriving DecidableEq, Repr

/-- R389, R394 to R398, R405: a port. -/
structure PortS where
  /-- training step under way, 1 to 7, and the attempt, from 1; 0 none -/
  step : Nat := 0
  attempt : Nat := 0
  /-- when the step in progress began, in ns (R396) -/
  stepNs : Nat := 0
  /-- sequence numbers modulo 512: the next codeword to send, the next expected, the first not acknowledged -/
  txNext : Nat := 0
  rxNext : Nat := 0
  unacked : Nat := 0
  /-- a codeword was uncorrectable: everything is discarded until it comes again -/
  nak : Bool := false
  /-- the codeword last accepted came again after a retrain: CADENCE and LAT in it are out of date -/
  stale : Bool := false
  /-- R389: the slots of the codeword that is being filled: KIND and 128 bytes -/
  slots : List (Nat × List Byte) := []
  /-- R394: the messages of the last 256 data codewords sent, the newest last; a NAK leaves with the next codeword -/
  kept : List Nat := []
  nakDue : Bool := false
  /-- R387, R388: codeword positions sent since the port came up, modulo 4,096, and the last PAM4 level sent on each lane -/
  txPos : Nat := 0
  txLevels : List Nat := []
  /-- R395, R404: packets that wait for this output port, oldest first: of this device, of other devices -/
  loc : List (PktHdr × List Byte) := []
  fwd : List Transit := []
  /-- R395: the slots that this port's receive buffers hold by class and VC, and the buffer of the last packet begun -/
  rxUsed : Map Nat := []
  rxCls : Nat := 0
  /-- R396: the equalisation coefficients that a run-time retrain starts from -/
  coeffs : List Nat := []
  /-- credits held by class and VC (REQ VC0, REQ VC1, RSP VC0, RSP VC1), and control credits (link, up, down) -/
  cred : Map Nat := []
  ctl : Map Nat := []
  balance : Int := 0
  latN : Nat := 0
  latPs : Option Nat := none
  /-- IDENT came and passed its check (R396 step 4) -/
  identOk : Bool := false
  /-- R387: the lanes that are precoded, and the last PAM4 level received on each -/
  precoded : BitVec 8 := 0
  levels : List Nat := []
  /-- R388: codeword positions received since the port came up, modulo 4,096 -/
  rxPos : Nat := 0
  /-- R407: messages that wait for a control slot, TYPE and body; slots since the last control slot that packets took -/
  ctlq : List (Nat × BitVec 128) := []
  ctlGap : Nat := 15
  deriving DecidableEq, Repr

structure LinkS where
  tags : Map (Option Req) := []
  ports : Map PortS := []
  /-- FL_SHAPE and FL_POSITION in force since the Thaw, and the number map in force, `none` the identity (R386, R416) -/
  shapeNow : Nat := 0
  posNow : Nat := 0
  mapNow : Option (List Byte) := none
  /-- routes that DOWNSET changed are to be installed at the next boundary (R411) -/
  routesPend : Bool := false
  /-- packets of detours that lie in the bounce buffers of this device, oldest first (R402) -/
  bounce : List (PktHdr × List Byte) := []
  /-- R407: how many of the messages sent have found their place among those that wait for a control slot -/
  placed : Nat := 0
  deriving DecidableEq, Repr

/-! ### Power, ageing and background work (chapter 16) -/

/-- R473, R474, R478: a domain between states: where it comes from, where it goes and for which wake source; the request
that waits, with its source. -/
structure DomS where
  from_ : Nat := 2
  target : Nat := 2
  source : Nat := 0
  /-- when the transition in progress began, in ns (R474) -/
  since : Nat := 0
  waiting : Option (Nat × Nat) := none
  deriving DecidableEq, Repr

/-- R481, R482: where the clock and voltage sequence of a die stands; the goal in MHz. -/
inductive DvSeq where
  | idle
  | up (goal : Nat)
  | settle (goal : Nat)
  | down (goal : Nat)
  deriving DecidableEq, Repr

structure PwrS where
  dom : Map DomS := []
  /-- R143: engine clk of each die since the Thaw; for each core that is on, where its idle clk count from, plus 1; the idle clk
  of a core counted before -/
  clk : Map Nat := []
  idleFrom : Map Nat := []
  idleSum : Map Nat := []
  seq : Map DvSeq := []
  /-- the point that a protection holds a die to, 0 none -/
  cap : Map Nat := []
  /-- last junction readings plus 1,000: compute dies 0 to 3, hub dies 4 and 5; 0 before the first -/
  tj : Map Nat := []
  episode : Map Bool := []
  hot : Map Bool := []
  /-- the input condition of R484 since when, and whether it has lasted 10 ms -/
  exceeds : Option Nat := none
  overFloor : Bool := false
  /-- the input power lies 5 % below the limit -/
  inputLow : Bool := true
  hbmT : Map Nat := []
  hbmThr : Map Bool := []
  vinMv : Nat := 0
  /-- pins (R547, R550, R551, R558): TRIP_N asserted, PWRGOOD, RESET_N -/
  trip : Bool := false
  pwrgood : Bool := false
  resetn : Bool := false
  deriving DecidableEq, Repr

/-- R487: a Vmin reading in µV with its power-on hour. -/
structure Vmin where
  uv : Int
  hour : Nat
  deriving DecidableEq, Repr

structure AgeS where
  /-- readings of a die, point and load class, newest first, back to 1,000 hours (key 64 × die + 4 × point + class) -/
  readings : Map (List Vmin) := []
  /-- load deltas in µV and their updates (key 2 × die + class) -/
  delta : Map Int := []
  updates : Map Nat := []
  /-- the plan that waits for its moment (R491) -/
  next : Map (List Nat) := []
  /-- the least canary slack of a die in the present hour, plus 1 -/
  canaryHour : Map Nat := []
  /-- dies for which the planner is to run (R490) -/
  due : Map Bool := []
  deriving DecidableEq, Repr

/-- R359, R13: a requester: the class of its pending request and its age; behind a shared port, the engine that presented
it, the engines that wait for their turn with their classes, and whose turn comes next. -/
structure ArbIn where
  cls : Option Nat := none
  age : Nat := 0
  eng : Nat := 0
  waits : List (Nat × Nat) := []
  turn : Nat := 0
  deriving DecidableEq, Repr

/-- R360: an arbiter: grants since the last oldest grant, and its requesters by port. -/
structure ArbS where
  count : Nat := 0
  inputs : Map ArbIn := []
  deriving DecidableEq, Repr

/-- R146: the part of a port request that one bank serves: the bank, the offset and length of its bytes within a 32-byte granule,
and for a write the bytes. -/
structure Granule where
  bank : Nat
  off : Nat := 0
  len : Nat := 0
  data : Option (List Byte) := none
  deriving DecidableEq, Repr

/-- R13, R146: a port of a cluster store: the engine whose request it presents, its class, the granules that are not granted yet,
and what the granted ones have read, by offset; the requests that wait for their turn, each with engine, class and granules; whose
turn comes next. -/
structure StorePortS where
  cur : Option (Nat × Nat × List Granule) := none
  got : Map (List Byte) := []
  waits : List (Nat × Nat × List Granule) := []
  turn : Nat := 0
  deriving DecidableEq, Repr

structure BgS where
  /-- scrubbers (HBM4 channel 32 × stack + channel, DDR5 channel 512 + number): reads made in the pass under way, and the
  corrected read that waits to be written back with its address -/
  scrubAt : Map Nat := []
  writeBack : Map (Option (Nat × List Byte)) := []
  /-- R375, R379: bursts that a memory reported uncorrectable: address and bytes -/
  poor : List (Nat × Nat) := []
  /-- wall time + 1 of the last calibration of a channel, and whether its deferral was reported (R493) -/
  cal : Map Nat := []
  calLate : Map Bool := []
  /-- wall times of the uncorrectable bursts of a DDR5 channel in the last second (R379) -/
  bursts : Map (List Nat) := []
  /-- background grants of an arbiter in the season that `slot` names (4 × step + season), and whether one of them reached
  its quota there (R493) -/
  grants : Map Nat := []
  slot : Nat := 0
  deferred : Bool := false
  arbs : Map ArbS := []
  /-- store ports, by 32 × cluster + port -/
  storePorts : Map StorePortS := []
  /-- telemetry: counters of the last snapshot, and the ring of deltas, newest first (R496) -/
  telPrev : Map Nat := []
  telRing : List (Map Nat) := []
  deriving DecidableEq, Repr

/-! ### Thaw, flash, firmware and identity (chapter 15), sideband (R558, R559) -/

/-- R453: a copy of a device-written record; `ok` says that its tag passes. The factory leaves valid empty copies. -/
structure FlashCopy where
  ctr : Nat := 0
  ok : Bool := true
  data : List Byte := []
  deriving DecidableEq, Repr

structure FlashRecS where
  a : FlashCopy := {}
  b : FlashCopy := {}
  deriving DecidableEq, Repr

/-- R454: the repair record that the model's factory writes: position 24 of each die and position 16 of each cluster are
hidden, all of them spares (DESIGN CHOICE, log entry 13). -/
def factoryRepair : List Byte :=
  leBytes 4 0x52505A41 ++ leBytes 4 1 ++ List.replicate 56 0 ++ List.replicate 4 24 ++ List.replicate 4 0 ++
  (List.replicate 100 (leBytes 2 16)).flatten ++ List.replicate 2820 0

/-- R453, R454, R457, R495: the package flash; the factory leaves the firmware slots empty (log entry 13). -/
structure FlashS where
  /-- device-written records by kind -/
  recs : Map FlashRecS := []
  slot0 : List Byte := []
  slot1 : List Byte := []
  preferred : Nat := 0
  /-- both copies of the repair record -/
  repairA : List Byte := factoryRepair
  repairB : List Byte := factoryRepair
  fallbacks : Nat := 0
  /-- erase counts of the 4,096 blocks, the next block of the rotation, and the step + 1 of the last move (R495) -/
  erase : Map Nat := []
  nextBlk : Nat := 0
  movedStep : Nat := 0
  deriving DecidableEq, Repr

/-- R462, R463: what a core at a physical position has received of the control image; once released the chunks are its
control store. -/
structure ImgS where
  chunks : Map (List Byte) := []
  bitmap : Nat := 0
  count : Nat := 0
  digest : List Byte := []
  /-- requests made for each chunk, END under key 64 -/
  asked : Map Nat := []
  wholeAsked : Bool := false
  released : Bool := false
  deriving DecidableEq, Repr

structure ThawS where
  /-- a Thaw is under way or done -/
  began : Bool := false
  /-- when the step in progress, step 3 (from which the limit of step 12 counts) and step 6 began, in ns (R447) -/
  stepNs : Nat := 0
  fwNs : Nat := 0
  memNs : Nat := 0
  straps : Nat := 0
  /-- the Thaw restarted from a recovery: CFG_RECOVERY and CFG_ALT_SLOT count as 0 (R559) -/
  recovered : Bool := false
  romRecovery : Bool := false
  /-- the slot that failed first (R559), and the recovery image as it comes -/
  firstBad : Nat := 0
  recLen : Nat := 0
  recData : List Byte := []
  recState : Nat := 0
  /-- slots that count as invalid for this Thaw (R457) -/
  badSlots : List Nat := []
  /-- step 6 runs alongside others (R447) -/
  memPending : Bool := false
  /-- the accepted repair record -/
  repair : List Byte := []
  /-- the next wave of step 8, and whether the rail delays it (R450, R451) -/
  wave : Nat := 0
  delayed : Bool := false
  /-- bit n: cluster-store group n has started; when the last group or wave of this step started, in ns plus 1 (R450) -/
  groups : Nat := 0
  startNs : Nat := 0
  /-- spare positions that are up: clusters 25 × die + p, cores 17 × cluster + position -/
  clUp : List Nat := []
  coUp : List Nat := []
  /-- positions held off or failed -/
  clBad : List Nat := []
  coBad : List Nat := []
  /-- spares that passed and wait (R456) -/
  spareCl : List Nat := []
  spareCo : List Nat := []
  img : Map ImgS := []
  deriving DecidableEq, Repr

/-- R465, R466: sessions that wait for the signature of their quote, oldest first, and when the nonces of the last second
came; a VERIFY of the staged slot under way (R460). -/
structure AttS where
  queue : List Nat := []
  times : List Nat := []
  verifying : Bool := false
  deriving DecidableEq, Repr

/-! ### The metrology island (chapter 18) -/

/-- R530, R533: what the island has measured and received since manufacture: the energy register in µWh, the five work
totals, steps and missed frames, and the last valid work frame, from which differences are counted. -/
structure IslFig where
  energy : Nat := 0
  work : Map Nat := []
  clean : Nat := 0
  tainted : Nat := 0
  linkGap : Nat := 0
  frame : Option (List Byte) := none
  deriving DecidableEq, Repr

/-- R522 to R539: the island. -/
structure IslS where
  /-- the island flash: the checkpoint, RSEQ, BOOTS, SEAL, CALID, the index up to which blocks are reserved, the body hash and
  ENERGY of the previous record, the last 64 records (oldest first), the calibration record -/
  ck : IslFig := {}
  rseq : Nat := 0
  boots : Nat := 0
  sealN : Nat := 0
  calid : Nat := 0
  resv : Nat := 0
  prev : Option (List Byte) := none
  prevEnergy : Nat := 0
  records : List (List Byte) := []
  cal : List Byte := []
  /-- STEP of the last record with KIND bit STEP -/
  lastStepRec : Option Nat := none
  /-- the sample at which the last valid work frame came (R531), and the second of the last HOUR record (R532) -/
  workAt : Nat := 0
  hourAt : Nat := 0
  /-- the supply was lost, or the reset asserted, since the last record -/
  lost : Bool := false
  /-- running; ISL_CAL_EN as the last reset found it; no key (R538); no index could be reserved (R539) -/
  on : Bool := false
  calEn : Bool := false
  noKey : Bool := false
  noSign : Bool := false
  fig : IslFig := {}
  /-- the accumulator below 1 µWh in J × 2^-40 / 2500, and samples since the reset -/
  acc : Int := 0
  sample : Nat := 0
  /-- the sums of the present second, in 2^-14 V, 2^-14 A and J × 2^-40 -/
  vSum : Int := 0
  iSum : Int := 0
  pSum : Int := 0
  /-- the last whole second's means in mV, mA and W -/
  meanV : Nat := 0
  meanI : Nat := 0
  meanP : Nat := 0
  /-- the interval since the last record: whole seconds in it, least and greatest mean voltage (0.01 V), greatest power (W) -/
  secs : Nat := 0
  vMin : Nat := 0
  vMax : Nat := 0
  pMax : Nat := 0
  exceeds : Bool := false
  vrange : Bool := false
  pulseOver : Bool := false
  noWork : Bool := false
  selfTest : Bool := false
  /-- METRO_PULSE held low; the sample at which the last pulse ended, plus 1; pulses queued -/
  pulseLow : Bool := false
  pulseEnd : Nat := 0
  pulseQ : Nat := 0
  /-- the next signature index of the reserved block -/
  idx : Nat := 0
  badFrames : Nat := 0
  /-- KIND bits whose record is not yet written, and records not yet signed: island second and body -/
  moment : Nat := 0
  unsigned : List (Nat × List Byte) := []
  rot : Nat := 0
  deriving DecidableEq, Repr

/-- R530: the work-counter collector. -/
structure WorkS where
  epoch : Option (BitVec 32) := none
  seq : Nat := 0
  /-- products of the device by mode -/
  products : Map Nat := []
  /-- R135: how often a TAIL word of an attached list was written, by address -/
  tails : Map Nat := []
  clean : Nat := 0
  tainted : Nat := 0
  deriving DecidableEq, Repr

/-- R535, R540: what hub firmware keeps of the island: records by slot, SEAL of the newest record, whether the last status frame
had SELFTEST, when a record last came, and when silence is to be reported. -/
structure MetS where
  records : Map (List Byte) := []
  lastSeal : Option Nat := none
  selfTest : Bool := false
  recNs : Nat := 0
  silentNs : Nat := 2000000000
  deriving DecidableEq, Repr

/-! ### What the block sends -/

/-- Messages, frames and pulses the block has sent, newest first. -/
inductive OutMsg where
  /-- DONE(step, season) to the master (R338) -/
  | done (step season dev : Nat)
  /-- a cadence word on every port but `except` (R331) -/
  | cadWord (w : Nat) (except : Option Nat)
  /-- a taint notice (R308) -/
  | taint (step dev cause : Nat)
  /-- VERDICT: code and device (R345, R408) -/
  | verdict (code dev : Nat) (toMaster : Bool)
  | dapResp (link : DapLink) (r : DapResp)
  /-- a frame or response sent to another device as fragments (R440) -/
  | dapFrag (target : Nat) (ceiling : Nat) (frame : List Byte)
  | eventFrame (sid seq : Nat) (more : Bool) (recs : List EvRec)
  /-- the device reports itself lost to its torus (R21, R427) -/
  | reportLost
  /-- the device reports itself cut off (R335) -/
  | reportCutOff
  /-- members declared lost by the master (R340) -/
  | membersLost (devs : List Nat)
  /-- a packet injected at a port: header and data (R390, R391) -/
  | packet (port : Nat) (h : PktHdr) (data : List Byte)
  /-- hub firmware writes an object of a member, in a frame of role FIRMWARE (R440, R505) -/
  | fwWrite (target idx sub inst v : Nat)
  /-- the answer to a write that reaches an object outside a frame: object and status (R433) -/
  | answer (idx sub inst status : Nat)
  /-- DOWNSET: a port of a position down or up again (R411) -/
  | downset (pos port : Nat) (down : Bool)
  /-- a cadence frame on CADENCE_OUT (R557) -/
  | cadOut (w : Nat)
  /-- a Harvest engine begins to stream its part of the committed image to the keeper: engine, first port, number (R33, R512) -/
  | exportImage (engine port keeper hnum : Nat)
  /-- an image region that the keeper asks for again (R512) -/
  | regionAgain (ward region : Nat)
  /-- the new number map for every member (R413, R517) -/
  | numberMap (map : List Byte)
  /-- a chunk of the core control image for the core at a physical position (R462, R463) -/
  | chunk (core : Nat) (data : List Byte)
  /-- a core asks its hub die for chunks (R462) -/
  | chunkRequest (core mask : Nat)
  /-- a grant: the arbiter's number, the port and the engine behind it (R360, R13) -/
  | granted (arb port eng : Nat)
  /-- R146: a request of a cluster-store port is complete: its last bank has granted it -/
  | portDone (cluster port eng : Nat) (data : List Byte)
  /-- a message of the control channel on a port: TYPE and body (R408) -/
  | control (port typ : Nat) (body : BitVec 128)
  /-- R407: a control slot on a port, 128 bytes -/
  | controlSlot (port : Nat) (bytes : List Byte)
  /-- credits returned to the far end: class and VC 0 to 3 with slots (R395), routes 4 to 6 with messages (R410) -/
  | creditReturn (port vc slots : Nat)
  /-- R387, R388: a codeword position on a port: the PAM4 levels of its eight lanes -/
  | codeword (port : Nat) (lanes : List (List Nat))
  /-- NAK = 1 with the ACK of the last good codeword (R394) -/
  | nak (port ack : Nat)
  /-- codewords resent from a sequence number on (R394, R398) -/
  | replay (port seq : Nat)
  /-- a work frame on the work link (R530) -/
  | workFrame (f : List Byte)
  /-- a signed record on the record link, sent so many times (R534) -/
  | islandRecord (r : List Byte) (times : Nat)
  | statusFrame (f : List Byte)
  /-- METRO_PULSE goes low for 20 ms (R528) -/
  | pulse
  /-- the value of a register read on the sideband (R558) -/
  | sbWord (v : Nat)
  deriving DecidableEq, Repr

/-- Everything the manual gives the block. -/
@[ext]
structure Device where
  time : TimeS := {}
  mem : Map Byte := []
  dict : DictS := {}
  evt : EvtS := {}
  cores : Map CoreS := []
  clus : Map ClusS := []
  movq : Map (List MoveEnt) := []
  seqs : Map SqS := []
  health : HealthS := {}
  cad : CadS := {}
  adm : AdmS := {}
  mgmt : MgmtS := {}
  /-- ALERT of SB_STATUS (R566) -/
  alert : Bool := false
  out : List OutMsg := []
  hv : HvS := {}
  link : LinkS := {}
  pwr : PwrS := {}
  age : AgeS := {}
  bg : BgS := {}
  flash : FlashS := {}
  thaw : ThawS := {}
  att : AttS := {}
  isl : IslS := {}
  work : WorkS := {}
  met : MetS := {}
  /-- TSIDs of SCALE_RECAL writes that wait for Winter (R196) -/
  recal : List Nat := []
  deriving DecidableEq, Repr

/-- The block and the commands that wait for it, first in first out. -/
structure State where
  pending : List Instr := []
  dev : Device := {}
  deriving DecidableEq, Repr

/-- The block right after reset: power applied, the Thaw not begun (R447, R551), nothing pending. -/
def State.reset : State := {}

end Sys2Proof.Machine
end

