-- ==== Sys2Proof/Machine/Ops.lean ====
section
/-! DEFINITION. The named operations over the state: dictionary values, events and taint, memory, cores, clusters. -/

namespace Sys2Proof.Machine

/-- The outcome of a command. -/
abbrev Out := Host.Outcome State Fault Refusal

/-- Every meaning is a change of the device; the queue of waiting commands is not its concern. -/
def State.run (s : State) (f : Device → Device) : Out := .next { s with dev := f s.dev }

/-- The members of a list, each once, in the order of their first occurrence. -/
def dedupNat (l : List Nat) : List Nat := l.foldl (fun acc x => if acc.contains x then acc else acc ++ [x]) []

namespace Device

/-! ### Dictionary values -/

/-- The value of a scalar object instance; an expert index reads its basic mirror's value (R426). -/
@[irreducible] def num (d : Device) (idx sub : Nat) (inst : Nat := 0) : Nat :=
  Map.get (objDefault idx sub inst) d.dict.num (okey (homeIdx idx) sub inst)

/-- Store a scalar object's value. -/
@[irreducible] def setNum (d : Device) (idx sub inst v : Nat) : Device :=
  { d with dict := { d.dict with
      num := Map.set (objDefault idx sub inst) d.dict.num (okey (homeIdx idx) sub inst) v } }

/-- Add to a counter object, modulo its width. -/
@[irreducible] def addNum (d : Device) (idx sub inst k : Nat) : Device :=
  let w := match objRow (homeIdx idx) sub with
    | some r => 8 * tyBytes r.ty
    | none => 64
  d.setNum idx sub inst ((d.num idx sub inst + k) % 2 ^ w)

/-- R71, R426: the value in force since the last admission. -/
def force (d : Device) (idx sub : Nat) : Nat :=
  Map.get (objDefault idx sub 0) d.dict.force (okey (homeIdx idx) sub 0)

/-- The bytes of a STR or DOMAIN object. -/
def domOf (d : Device) (idx sub : Nat) (inst : Nat := 0) : List Byte :=
  Map.get (domDefault idx sub) d.dict.dom (okey idx sub inst)

def setDom (d : Device) (idx sub inst : Nat) (v : List Byte) : Device :=
  { d with dict := { d.dict with dom := Map.set (domDefault idx sub) d.dict.dom (okey idx sub inst) v } }

/-- RUN_STATE of R427 and ADM_STATE of R343. -/
def runState (d : Device) : Nat := d.num 0x1100 1
def admState (d : Device) : Nat := d.num 0x1300 3
/-- RUNNING or STOPPING with S0 released: a plan is being carried out (R343, R427). -/
def planRuns (d : Device) : Bool := (d.runState == 2 || d.runState == 3) && d.admState == 4
/-- R425: the device is stopped. -/
def isStopped (d : Device) : Bool :=
  d.runState == 1 && (d.admState == 0 || d.admState == 1 || d.admState == 5)

/-- Own device number (R386). -/
def devNo (d : Device) : Nat := d.num 0x1010 9

/-! ### Position -/

/-- R129: the cadence stamp. -/
def stamp (d : Device) : W32 := BitVec.ofNat 32 (d.cad.step % 256 * 16777216 + d.cad.phase)

/-- R336: the season of a position in the step. -/
def seasonAt (d : Device) (ph : Nat) : Nat :=
  if ph < d.num 0x1210 1 then 0 else if ph < d.num 0x1210 2 then 1 else if ph < d.num 0x1210 3 then 2 else 3

def season (d : Device) : Nat := match d.adm.plan with
  | some _ => d.seasonAt d.cad.phase
  | none => 0

/-- Put a message among those sent. -/
def send (d : Device) (m : OutMsg) : Device := { d with out := m :: d.out }

end Device

/-- R129: a stamp is reached when the signed 32-bit difference from the current stamp is not negative. -/
def stampReached (now s : W32) : Bool := !(now - s).msb

namespace Device

/-! ### Events (R439, R566 to R569) -/

/-- Add a record to the log: record s lies at key s mod 4096; overwriting one that nobody has read sets FLAGS bit 0. -/
def logRec (d : Device) (r : EvRec) : Device :=
  let s := d.num 0x1E00 2
  let old := Map.get ({} : EvRec) d.evt.log (s % 4096)
  let lostRec := old.seq != 0 && !old.read
  let r := { r with seq := s, flags := b2n lostRec }
  let d := { d with evt := { d.evt with log := Map.set ({} : EvRec) d.evt.log (s % 4096) r } }
  let d := d.addNum 0x1E00 2 0 1
  if lostRec then d.addNum 0x1E00 3 0 1 else d

/-- R569: occurrences of a code in the current step, this one included. -/
def occurrences (d : Device) (code : Nat) : Nat × Map Nat :=
  let m := if d.evt.occStep = d.cad.step then d.evt.occ else []
  let n := Map.get 0 m code + 1
  (n, Map.set 0 m code n)

/-- R566: a FATAL event: RUN_LAST_FATAL takes the first one, and the device is LOST; 0x7004 leaves RUN_STATE. -/
def noteFatal (d : Device) (code : Nat) : Device :=
  let d := if d.num 0x1100 4 = 0 then d.setNum 0x1100 4 0 code else d
  if code = 0x7004 then d else d.setNum 0x1100 1 0 4

/-- R566: what raising an event does, its taint apart. Events of Thaw steps 1 and 2 wait in the boot ROM (R448); 0x7004
never enters the log. -/
def raiseRaw (d : Device) (code ua ui a0 a1 : Nat) : Device :=
  let row := evRow code
  let oc := d.occurrences code
  let n := oc.1
  let d := { d with evt := { d.evt with
    occ := oc.2, occStep := d.cad.step, raised := Map.upd 0 d.evt.raised code (· + 1) } }
  let d := d.addNum 0x1E00 (4 + row.sev) 0 1
  let d := d.addNum 0x1E01 (code / 4096) 0 1
  let cls := code / 4096
  let arg0 := if cls = 1 then d.cad.step % 2 ^ 48 + d.season * 2 ^ 48 else a0
  let arg1 := if 2 ≤ cls && cls ≤ 4 then a1 % 2 ^ 48 + min n 65535 * 2 ^ 48 else a1
  let r : EvRec := { code := code, sev := row.sev, timeUs := d.time.nowNs / 1000, step := d.cad.step,
                     phase := d.cad.phase, uarr := ua, uinst := ui, arg0 := arg0, arg1 := arg1 }
  let d := if code = 0x7004 then d
    else if d.num 0x1D04 2 < 3 then { d with evt := { d.evt with early := d.evt.early ++ [r] } }
    else d.logRec r
  let d := if 2 ≤ row.sev then { d with alert := true } else d
  if row.sev = 3 then d.noteFatal code else d

/-- Add 1 to the event's own counters; per-unit counters count at the unit's instance. -/
def countEvent (d : Device) (code ui : Nat) : Device :=
  (evRow code).ctr.foldl (fun d c => d.addNum c.1 c.2 (if objInsts c.1 = 0 then 0 else ui) 1) d

/-- R308: set the step's taint flag; the first cause is recorded, raises 0x2207 and sends the notice. -/
def taint (d : Device) (cause : Nat) : Device :=
  if d.num 0x1401 1 = 1 then d
  else
    let d := d.setNum 0x1401 1 0 1
    let d := d.setNum 0x1401 2 0 cause
    let d := d.setNum 0x1401 3 0 d.cad.step
    let d := { d with health := { d.health with
      tainted := Map.set 0 d.health.tainted d.cad.step (cause + 1), uncounted := d.health.uncounted + 1 } }
    let d := (d.countEvent 0x2207 0).raiseRaw 0x2207 0 0 cause 0
    d.send (.taint d.cad.step d.devNo cause)

/-- Raise an event: its own counters, R566, and the taint where the catalogue marks T. `ua`, `ui` name the unit. -/
def raise (d : Device) (code : Nat) (ua : Nat := 0) (ui : Nat := 0) (a0 : Nat := 0) (a1 : Nat := 0) : Device :=
  let d := (d.countEvent code ui).raiseRaw code ua ui a0 a1
  if (evRow code).taint then d.taint code else d

/-- R567: raise at most once under a key in a step; every occurrence is counted and taints. -/
def raiseOnce (d : Device) (code key : Nat) (ua : Nat := 0) (ui : Nat := 0) (a0 : Nat := 0) (a1 : Nat := 0) : Device :=
  let k := code * 2 ^ 40 + key
  if Map.get 0 d.evt.once k = d.cad.step + 1 then
    let d := d.countEvent code ui
    let d := { d with evt := { d.evt with occ := (d.occurrences code).2, occStep := d.cad.step } }
    if (evRow code).taint then d.taint code else d
  else
    let d := { d with evt := { d.evt with once := Map.set 0 d.evt.once k (d.cad.step + 1) } }
    d.raise code ua ui a0 a1

/-- R567: raise at most once per `ns` under a key; every occurrence is counted. -/
def raiseEvery (d : Device) (ns code key : Nat) (ua : Nat := 0) (ui : Nat := 0) (a0 : Nat := 0) (a1 : Nat := 0) : Device :=
  let k := code * 2 ^ 140 + key
  let l := Map.get 0 d.evt.last k
  if l != 0 && decide (d.time.nowNs + 1 < l + ns) then
    let d := d.countEvent code ui
    { d with evt := { d.evt with occ := (d.occurrences code).2, occStep := d.cad.step } }
  else
    let d := { d with evt := { d.evt with last := Map.set 0 d.evt.last k (d.time.nowNs + 1) } }
    d.raise code ua ui a0 a1

/-- R569: ARG1 of a class-8 event: the step and the device named. -/
def survArg (d : Device) (dev : Nat) : Nat := d.cad.step + dev * 2 ^ 48

/-- R505, R513: hub firmware writes an object at the master. -/
def toMaster (d : Device) (sub v : Nat) : Device := d.send (.fwWrite (d.num 0x1200 3) 0x1502 sub 0 v)

/-- R513: a member asks the master for a restore, naming the cause. -/
def askRestore (d : Device) (cause : Nat) : Device := d.toMaster 5 (cause * 2 ^ 32)

/-! ### Memory (R25 to R31) -/

/-- What a device-local address reaches. -/
inductive Region where
  | hbm (stack : Nat)
  | store (cluster off : Nat)
  | localMem (core off : Nat)
  | ddr (off : Nat)
  | nothing
  deriving DecidableEq, Repr

def sramBase : Nat := 0x18000000000
def localBase : Nat := 0x18100000000
def ddrBase : Nat := 0x20000000000

/-- R377: the DDR5 channel of an address of the tier. -/
def ddrChan (a : Nat) : Nat := (a - ddrBase) / 4096 % 12

/-- R379: the address lies on a channel lost during the run. -/
def ddrLost (d : Device) (a : Nat) : Bool := decide (ddrBase ≤ a) && d.num 0x70A1 1 (ddrChan a + 1) == 2

/-- R25 to R28: the device-local address map; a lost channel reaches nothing (R379). -/
def region (d : Device) (a : Nat) : Region :=
  if a < sramBase then .hbm (a / 0x1800000000)
  else if a < sramBase + 96 * 0x1000000 then .store ((a - sramBase) / 0x1000000) ((a - sramBase) % 0x1000000)
  else if localBase ≤ a && a < localBase + 1536 * 0x100000 then
    .localMem ((a - localBase) / 0x100000) ((a - localBase) % 0x100000)
  else if ddrBase ≤ a && a < ddrBase + d.num 0x1010 8 * 2 ^ 30 && a < 2 ^ 43 && !d.ddrLost a then .ddr (a - ddrBase)
  else .nothing

/-- R27: the address of an offset of a cluster store, and of a core's local memory. -/
def storeAddr (k off : Nat) : Nat := sramBase + k * 0x1000000 + off
def localAddr (g off : Nat) : Nat := localBase + g * 0x100000 + off

def byteAt (d : Device) (a : Nat) : Byte := Map.get 0 d.mem a

/-- `n` bytes from address `a`. -/
def bytes (d : Device) (a : Nat) : Nat → List Byte
  | 0 => []
  | n + 1 => d.byteAt a :: bytes d (a + 1) n

/-- A little-endian number of `n` bytes. -/
def load (d : Device) (a n : Nat) : Nat := leNat (d.bytes a n)

/-- Write bytes from address `a` on. -/
def memWrite : Map Byte → Nat → List Byte → Map Byte
  | m, _, [] => m
  | m, a, b :: bs => memWrite (Map.set 0 m a b) (a + 1) bs

def put (d : Device) (a : Nat) (bs : List Byte) : Device := { d with mem := memWrite d.mem a bs }

/-- Only the bytes at addresses of `p` keep their content. -/
def keepMem (d : Device) (p : Nat → Bool) : Device := { d with mem := d.mem.filter (fun e => p e.1) }

/-- Store the low `n` bytes of `v`. -/
def store (d : Device) (a n v : Nat) : Device := d.put a (leBytes n v)

/-- R135: the TAIL words of the work lists that are attached to cores. -/
def tailWords (d : Device) : List Nat :=
  (d.dict.num.filter (fun e => e.1 / 16777216 == 0x7021 && e.2 != 0xFFFFFFFF)).map
    (fun e => storeAddr ((e.1 % 65536 - 1) / 16) e.2)

/-- R135: a write of `n` bytes at `a` is counted for every TAIL word that it meets. -/
def tailHit (d : Device) (a n : Nat) : Device :=
  { d with work := { d.work with
    tails := (dedupNat (d.tailWords.filter (fun w => decide (w < a + n) && decide (a < w + 4)))).foldl
      (fun m w => Map.upd 0 m w (· + 1)) d.work.tails } }

/-- A write into memory by a core, a micro-sequencer, a mover, a hub core, a Harvest engine or a peer. -/
def putW (d : Device) (a : Nat) (bs : List Byte) : Device := (d.put a bs).tailHit a bs.length
def storeW (d : Device) (a n v : Nat) : Device := d.putW a (leBytes n v)

/-- R31: an access that reaches nothing: event 0x4008 with the requester and the address, the step tainted; a lost DDR5
channel raises no event for each access (R379). -/
def reachNothing (d : Device) (ua ui a port : Nat) : Device :=
  if d.ddrLost a then d.taint 0x4008 else d.raise 0x4008 ua ui a port

/-- R29: an access of `n` bytes crosses a 4 KiB boundary. -/
def crosses (a n : Nat) : Bool := decide (a % 4096 + n > 4096)

/-! ### Cores and clusters -/

def core (d : Device) (g : Nat) : CoreS := Map.get {} d.cores g
def setCore (d : Device) (g : Nat) (c : CoreS) : Device := { d with cores := Map.set {} d.cores g c }
def modCore (d : Device) (g : Nat) (f : CoreS → CoreS) : Device := d.setCore g (f (d.core g))

def clu (d : Device) (k : Nat) : ClusS := Map.get {} d.clus k
def setClu (d : Device) (k : Nat) (c : ClusS) : Device := { d with clus := Map.set {} d.clus k c }
def modClu (d : Device) (k : Nat) (f : ClusS → ClusS) : Device := d.setClu k (f (d.clu k))

def sq (d : Device) (q : Nat) : SqS := Map.get {} d.seqs q
def setSq (d : Device) (q : Nat) (c : SqS) : Device := { d with seqs := Map.set {} d.seqs q c }

def moves (d : Device) (se : Nat) : List MoveEnt := Map.get [] d.movq se
def setMoves (d : Device) (se : Nat) (l : List MoveEnt) : Device := { d with movq := Map.set [] d.movq se l }

/-- The cluster of a core and its local number (R23). -/
def clusterOf (g : Nat) : Nat := g / 16

/-- R128: add to a sync counter of a core; SC0 is never incremented. -/
def addSync (d : Device) (g sc k : Nat) : Device :=
  if sc % 64 = 0 then d
  else d.modCore g (fun c => { c with
    sync := Map.upd 0 c.sync (sc % 64) (fun v => v + BitVec.ofNat 32 k) })

/-- Add 1 to SC[sc] of each local core of cluster `k` whose bit in `mask` is set. -/
def addSyncs (d : Device) (k mask sc n : Nat) : Device :=
  forN 16 d (fun d i => if bitOf mask i then d.addSync (16 * k + i) sc n else d)

/-- R161: add to a stall counter of a core, modulo 2^48. -/
def addStall (d : Device) (g cause n : Nat) : Device :=
  if n = 0 then d
  else d.setNum 0x7030 (cause + 1) (g + 1) ((d.num 0x7030 (cause + 1) (g + 1) + n) % 2 ^ 48)

/-- The free counter after a draw. -/
def drawFree (d : Device) : Nat × Device := (d.time.free, { d with time := { d.time with free := d.time.free + 1 } })

end Device

/-- An offset range that lies in the store. -/
def offOk (off n : Nat) : Bool := decide (off + n ≤ 0x1000000)

/-- R29, R31: one access of `n` bytes at an offset of the store that is carried out. -/
def accessOk (off n : Nat) : Bool := offOk off n && !Device.crosses off n

/-! ### The passing of time (log entry 4) -/

/-- R329: a position as one number of sph. -/
def Device.absPos (d : Device) : Nat := d.cad.step * 2 ^ 24 + d.cad.phase

/-- R329: the signed difference of two positions, in sph: 48-bit steps, 24-bit phases. -/
def posDiff (s p t q : Nat) : Int :=
  let x : Nat := s + (2 ^ 48 - t % 2 ^ 48)
  sgnOf 48 x * (2 : Int) ^ 24 + ((p : Int) - (q : Int))

/-- R329: how far (S0, 0:0) lies ahead of the position. -/
def Device.untilS0 (d : Device) : Int := posDiff d.cad.s0 0 d.cad.step d.cad.phase

/-- R333, R344: the position at which the counter stops by itself: the last sph before the boundary that ends the present
season, or before (S0, 0:0) while S0 is awaited. -/
def Device.lastBefore (d : Device) : Nat :=
  if d.admState = 3 then d.absPos + (d.untilS0 - 1).toNat
  else
    let p := d.cad.phase
    let b := if p < d.num 0x1210 1 then d.num 0x1210 1 else if p < d.num 0x1210 2 then d.num 0x1210 2
      else if p < d.num 0x1210 3 then d.num 0x1210 3 else 2 ^ 24
    d.cad.step * 2 ^ 24 + b - 1

/-- The counter stands at a position from now on. -/
def Device.standAt (d : Device) (p : Nat) : Device :=
  { d with cad := { d.cad with
    step := p / 2 ^ 24 % 2 ^ 48, phase := p % 2 ^ 24, frac := 0, slew := 0, stopped := true, stopNs := d.time.nowNs } }

/-- R111: a core has a READY thread. -/
def CoreS.hasReady (c : CoreS) : Bool := c.thr.any (fun e => e.2.st == .ready)

/-- R143: the engine clk of one microsecond: each die counts its MHz, and a core that is on counts them as idle unless it has a
READY thread. -/
def Device.runClk (d : Device) : Device :=
  let f (die : Nat) : Nat := d.num 0x1602 (die + 1)
  let clk := forN 4 d.pwr.clk (fun m i => Map.upd 0 m i (· + f i))
  let idle := d.cores.foldl (fun m e =>
    if e.2.hasReady && Map.get 0 m e.1 != 0 then Map.upd 0 m e.1 (· + f (e.1 / 384)) else m) d.pwr.idleFrom
  { d with pwr := { d.pwr with clk := clk, idleFrom := idle } }

/-- R143: the engine clk of core `g`'s die, and the idle clk of a core. -/
def Device.coreClk (d : Device) (g : Nat) : Nat := Map.get 0 d.pwr.clk (g / 384)
def Device.idleClk (d : Device) (g : Nat) : Nat :=
  let i := Map.get 0 d.pwr.idleFrom g
  Map.get 0 d.pwr.idleSum g + (if i = 0 then 0 else d.coreClk g + 1 - i)

/-- A core's domain comes on, or leaves on: its idle clk count, or stand. -/
def Device.idleBegin (d : Device) (g : Nat) : Device :=
  if Map.get 0 d.pwr.idleFrom g ≠ 0 then d
  else { d with pwr := { d.pwr with idleFrom := Map.set 0 d.pwr.idleFrom g (d.coreClk g + 1) } }
def Device.idleEnd (d : Device) (g : Nat) : Device :=
  { d with pwr := { d.pwr with idleSum := Map.set 0 d.pwr.idleSum g (d.idleClk g), idleFrom := Map.set 0 d.pwr.idleFrom g 0 } }

/-- R161: the stamp of the boundary that a hold withholds. -/
def Device.heldStamp (d : Device) : W32 :=
  BitVec.ofNat 32 ((d.lastBefore + 1) / 2 ^ 24 % 256 * 16777216 + (d.lastBefore + 1) % 2 ^ 24)

/-- R161: a core whose idle engines count cause 9 during a hold: its threads wait on a phase, or are all FREE while its
dispatcher waits on a NOT_BEFORE stamp at or beyond the withheld boundary. -/
def CoreS.heldIdle (c : CoreS) (bound : W32) : Bool :=
  let waits (e : Nat × Thread) : Bool := match e.2.st with | .waitPhase _ => true | _ => false
  c.thr.all (fun e => waits e || e.2.st == .free) &&
  (c.thr.any waits || c.armed.any (fun e => match e.2 with | some st => stampReached st bound | none => false))

/-- R161: the engine clk of one microsecond of a hold, for each engine that holds no accepted operation. -/
def Device.holdStalls (d : Device) : Device :=
  if !d.cad.held then d
  else d.cores.foldl (fun d e =>
    if e.2.heldIdle d.heldStamp then
      d.addStall e.1 9 (d.num 0x1602 (e.1 / 384 + 1) * (8 - (e.2.engq.filter (fun q => !q.2.isEmpty)).length))
    else d) d

/-- One microsecond with nothing commanded: wall time and the engine clk rise, a hold counts its stalls and, while a plan's cadence runs, the local
counter advances at the period in force, slewed by at most 2^-10 (R332), and stops at the last sph before a boundary (R333). -/
def Device.tick (d : Device) : Device :=
  let d := { d with time := { d.time with nowNs := d.time.nowNs + 1000 } }.runClk.holdStalls
  let period := if d.cad.pairPeriod = 0 then d.num 0x1200 4 else d.cad.pairPeriod
  match d.cad.ahead with
  | some t => if t ≤ d.time.nowNs then { d with cad := { d.cad with ahead := none } } else d
  | none =>
    if d.cad.stopped || period = 0 then d
    else
      let sl : Int := max (-(1000 * 2 ^ 14)) (min (1000 * 2 ^ 14) d.cad.slew)
      let acc := (((d.cad.frac + 1000 * 2 ^ 24 : Nat) : Int) + sl).toNat
      let p := d.absPos + acc / period
      if d.lastBefore ≤ p then d.standAt d.lastBefore
      else { d with cad := { d.cad with
        step := p / 2 ^ 24 % 2 ^ 48, phase := p % 2 ^ 24, frac := acc % period, slew := d.cad.slew - sl } }

end Sys2Proof.Machine
end

