-- ==== Sys2Proof/Machine/Operands.lean ====
section
/-! DEFINITION. Operand forms: thread registers, tile headers and payloads (R148 to R152, R249 to R255), published lines
(R183), operand and output descriptors (R118, R119), the values a frame feeds to an engine (R83, R179, R215). -/

namespace Sys2Proof.Machine

/-! ### Thread registers -/

/-- R109: s0 reads as 0 and ignores writes. -/
def Thread.reg (t : Thread) (r : Reg) : W64 := if r.val = 0 then 0 else Map.get 0 t.regs r.val
def Thread.setReg (t : Thread) (r : Reg) (v : W64) : Thread :=
  if r.val = 0 then t else { t with regs := Map.set 0 t.regs r.val v }

def CoreS.thread (c : CoreS) (t : Nat) : Thread := Map.get {} c.thr t
def CoreS.setThread (c : CoreS) (t : Nat) (x : Thread) : CoreS := { c with thr := Map.set {} c.thr t x }
def CoreS.frame (c : CoreS) (f : Nat) : Frame := Map.get {} c.frames f
def CoreS.setFrame (c : CoreS) (f : Nat) (x : Frame) : CoreS := { c with frames := Map.set {} c.frames f x }
def CoreS.slot (c : CoreS) (e s : Nat) : Slot := Map.get {} c.slots (8 * e + s)
def CoreS.setSlot (c : CoreS) (e s : Nat) (x : Slot) : CoreS := { c with slots := Map.set {} c.slots (8 * e + s) x }
def CoreS.queue (c : CoreS) (e : Nat) : List EngOp := Map.get [] c.engq e
def CoreS.setQueue (c : CoreS) (e : Nat) (q : List EngOp) : CoreS := { c with engq := Map.set [] c.engq e q }

/-- R95: the default linearisation table. -/
def defaultTable : List Nat := [2048, 2233, 2435, 2656, 2896, 3158, 3444, 3756]
def CoreS.table (c : CoreS) (e t : Nat) : List Nat := Map.get defaultTable c.tabs (4 * e + t)
def CoreS.setTable (c : CoreS) (e t : Nat) (x : List Nat) : CoreS :=
  { c with tabs := Map.set defaultTable c.tabs (4 * e + t) x }

namespace Device
def thread (d : Device) (g t : Nat) : Thread := (d.core g).thread t
def setThread (d : Device) (g t : Nat) (x : Thread) : Device := d.modCore g (fun c => c.setThread t x)
def frame (d : Device) (g f : Nat) : Frame := (d.core g).frame f
def setFrame (d : Device) (g f : Nat) (x : Frame) : Device := d.modCore g (fun c => c.setFrame f x)
end Device

/-- Insertion into a list sorted by a comparison, keeping equals in order. -/
def insertBy {α : Type} (le : α → α → Bool) (x : α) : List α → List α
  | [] => [x]
  | y :: ys => if le y x then y :: insertBy le x ys else x :: y :: ys

def sortBy {α : Type} (le : α → α → Bool) (l : List α) : List α := l.foldl (fun acc x => insertBy le x acc) []

/-- Pieces of `n` elements. -/
def chunk {α : Type} (n : Nat) : Nat → List α → List (List α)
  | 0, _ => []
  | k + 1, l => if l.isEmpty then [] else l.take n :: chunk n k (l.drop n)

/-! ### Tile headers (R151) -/

structure Hdr where
  bsi : Nat := 0xFFFFFFFF
  tsid : Nat := 0
  ocnt : Nat := 0
  fmt : Nat := 0
  width : Nat := 0
  signA : Bool := false
  signB : Bool := false
  comp : Bool := false
  k : Nat := 0
  taint : Bool := false
  fallback : Bool := false
  deriving DecidableEq, Repr

def parseHdr (bs : List Byte) : Hdr :=
  let x := leNat bs
  { bsi := bitsOf x 95 64, tsid := bitsOf x 63 48, ocnt := bitsOf x 47 38, fmt := bitsOf x 31 27, width := bitsOf x 26 23,
    signA := bitOf x 22, signB := bitOf x 21, comp := bitOf x 20, k := bitsOf x 19 18, taint := bitOf x 17,
    fallback := bitOf x 16 }

/-- The 12 header bytes below the CRC. -/
def hdrBytes (h : Hdr) : List Byte :=
  leBytes 12 (h.bsi % 2 ^ 32 * 2 ^ 64 + h.tsid % 2 ^ 16 * 2 ^ 48 + h.ocnt % 2 ^ 10 * 2 ^ 38 + h.fmt % 32 * 2 ^ 27
    + h.width % 16 * 2 ^ 23 + b2n h.signA * 2 ^ 22 + b2n h.signB * 2 ^ 21 + b2n h.comp * 2 ^ 20 + h.k % 4 * 2 ^ 18
    + b2n h.taint * 2 ^ 17 + b2n h.fallback * 2 ^ 16)

/-- R153: the CRC of a tile. -/
def tileCrc (payload hdr : List Byte) : Nat := crc32c (payload ++ hdr.take 12 ++ [0, 0, 0, 0])

/-- A header with its CRC over a payload. -/
def sealHdr (payload : List Byte) (h : Hdr) : List Byte :=
  let b := hdrBytes h
  b ++ leBytes 4 (tileCrc payload b)

def crcOk (payload hdr : List Byte) : Bool := fieldB hdr 12 4 == tileCrc payload hdr

/-- R37, R38: a format code and width that decode. -/
def fmtOk (fmt width : Nat) : Bool :=
  decide (1 ≤ fmt) && decide (fmt ≤ 9) && (fmt != fmtINT || (decide (1 ≤ width) && decide (width ≤ 8)))

/-- R247: the 4-, 8- and 16-bit formats that have a compressed layout. -/
def compFmt (fmt width : Nat) : Bool :=
  fmt == fmtE4M3 || fmt == fmtE5M2 || fmt == fmtE8M7 || fmt == fmtE5M10 || fmt == fmtE2M1 || fmt == fmtLOG8
    || (fmt == fmtINT && decide (3 ≤ width) && decide (width ≤ 8))

/-- R69, R152: a header no consumer can read. -/
def unreadable (h : Hdr) : Bool :=
  !fmtOk h.fmt h.width || (h.comp && (h.k == 0 || !compFmt h.fmt h.width))

/-- R151: the bound that the K field names. -/
def kOf (k : Nat) : Nat := if k = 1 then 2 else if k = 2 then 4 else if k = 3 then 8 else 16

/-! ### Geometry (R149, R150) -/

/-- Sub-blocks per sub-block row, and per tile, of a container of `cb` bits. -/
def subCols (cb : Nat) : Nat := 32 / cb
def subCount (cb : Nat) : Nat := 4 * subCols cb
/-- Elements per tile: 64 rows. -/
def tileElems (cb : Nat) : Nat := 64 * (16 * subCols cb)

/-- The 256 raw elements of a dense sub-block, in index order 16i + j. -/
def denseSub (payload : List Byte) (cb s : Nat) : List Nat :=
  let body := sliceB payload (s * (32 * cb)) (32 * cb)
  (List.range 256).map (elemAt body cb)

/-! ### Compressed payloads (R249 to R255) -/

/-- A sub-block record: counts of the 16 columns, the row of each entry, its raw value. -/
structure CompRec where
  cnt : List Nat
  rows : List Nat
  vals : List Nat
  len : Nat
  deriving DecidableEq, Repr

def compRec (p : List Byte) (cb off : Nat) : CompRec :=
  let w := fieldB p off 8
  let cnt := (List.range 16).map (fun j => bitsOf w (4 * j + 3) (4 * j))
  let nnz := cnt.sum
  let ib := (nnz + 1) / 2
  let vb := (nnz * cb + 7) / 8
  let idx := sliceB p (off + 8) ib
  let val := sliceB p (off + 8 + ib) vb
  { cnt := cnt,
    rows := (List.range nnz).map (fun k => ((idx.getD (k / 2) 0).toNat >>> (4 * (k % 2))) % 16),
    vals := (List.range nnz).map (elemAt val cb),
    len := (8 + ib + vb + 3) / 4 * 4 }

/-- Entries (column, row, value) of a record, column by column. -/
def compEntriesAux : List Nat → Nat → List Nat → List Nat → List (Nat × Nat × Nat)
  | [], _, _, _ => []
  | n :: cs, j, rows, vals =>
    ((rows.take n).zip (vals.take n)).map (fun e => (j, e.1, e.2))
      ++ compEntriesAux cs (j + 1) (rows.drop n) (vals.drop n)

def compEntries (r : CompRec) : List (Nat × Nat × Nat) := compEntriesAux r.cnt 0 r.rows r.vals

/-- The directory: TOTAL, VROWS, and for each sub-block its offset and whether that offset is bad (R253). -/
def compTotal (p : List Byte) : Nat := fieldB p 2 2
def compVrows (p : List Byte) : Nat := fieldB p 0 1
def totalOk (p : List Byte) : Bool := decide (80 ≤ compTotal p) && decide (compTotal p ≤ 4096)
def vrowsOk (v : Nat) : Bool := v == 16 || v == 32 || v == 48 || v == 64

/-- R252: what a mover reads of a payload on its way into a frame: of a compressed one only the beats that hold TOTAL, the bytes it
does not read as zero. -/
def seenPayload (p hb : List Byte) : List Byte :=
  if (parseHdr hb).comp && totalOk p then
    let n := (compTotal p + 127) / 128 * 128
    p.take n ++ List.replicate (p.length - n) 0
  else p

/-- R252: the bytes of the payload beats that a mover reads for a frame, as the header and the first beat give them. -/
def beatBytes (p hb : List Byte) : Nat :=
  if (parseHdr hb).comp && totalOk p then (compTotal p + 127) / 128 * 128 else 4096

/-- R252: what leaves a frame: zeros beyond TOTAL of a compressed payload. -/
def leftPayload (p hb : List Byte) : List Byte :=
  if (parseHdr hb).comp && totalOk p then p.take (compTotal p) ++ List.replicate (p.length - compTotal p) 0 else p

/-- Offsets with their verdict: (offset, bad). A bad offset does not move the end that the next one must clear. -/
def compOffsAux (p : List Byte) (cb lim : Nat) : Nat → Nat → Nat → List (Nat × Bool)
  | 0, _, _ => []
  | n + 1, s, prevEnd =>
    let o := fieldB p (0x10 + 2 * s) 2
    if o = 0 then (0, false) :: compOffsAux p cb lim n (s + 1) prevEnd
    else
      let e := o + (compRec p cb o).len
      let bad := decide (o < 0x50) || o % 4 != 0 || decide (o < prevEnd) || decide (lim < e)
      (o, bad) :: compOffsAux p cb lim n (s + 1) (if bad then prevEnd else e)

def compOffs (p : List Byte) (cb : Nat) : List (Nat × Bool) :=
  compOffsAux p cb (if totalOk p then compTotal p else 4096) (subCount cb) 0 0x50

def ascending : List Nat → Bool
  | a :: b :: r => decide (a < b) && ascending (b :: r)
  | _ => true

/-- R253: what the structure check finds. -/
inductive CompCheck where
  | good | overfull | indexRange
  deriving DecidableEq, Repr

/-- Rows of the entries of column `j`. -/
def colRows (es : List (Nat × Nat × Nat)) (j : Nat) : List Nat :=
  (es.filter (fun e => e.1 == j)).map (fun e => e.2.1)

/-- R253 for one sub-block: (index out of range, over-full). -/
def compSubCheck (p : List Byte) (cb k s : Nat) (o : Nat × Bool) : Bool × Bool :=
  if o.1 = 0 then (false, false)
  else if o.2 then (true, false)
  else
    let r := compRec p cb o.1
    let es := compEntries r
    let base := 16 * (s / subCols cb)
    let bad := decide (compVrows p ≤ base)
      || es.any (fun e => decide (compVrows p ≤ base + e.2.1))
      || (List.range 16).any (fun j => !ascending (colRows es j))
    let exceeds := r.cnt.any (fun n => decide (k < n))
      || (List.range 16).any (fun i => decide (k < (es.filter (fun e => e.2.1 == i)).length))
    (bad, exceeds)

/-- The verdicts of all sub-blocks. -/
def compSubChecks (p : List Byte) (cb k : Nat) : List (Bool × Bool) :=
  ((compOffs p cb).zipIdx).map (fun os => compSubCheck p cb k os.2 os.1)

def compCheck (p : List Byte) (cb k : Nat) : CompCheck :=
  let cs := compSubChecks p cb k
  let dirBad := !totalOk p || !vrowsOk (compVrows p)
    || (sliceB p 1 1 ++ sliceB p 4 12).any (· != 0)
    || (sliceB p (0x10 + 2 * subCount cb) (64 - 2 * subCount cb)).any (· != 0)
    || (p.drop (compTotal p)).any (· != 0)
  if dirBad || cs.any (·.1) then .indexRange
  else if cs.any (·.2) then .overfull
  else .good

/-- The first sub-block that fails (R255). -/
def compFirstBad (p : List Byte) (cb k : Nat) : Nat :=
  (compSubChecks p cb k).findIdx (fun c => c.1 || c.2)

/-- Entries kept by the expansion of one column: ascending order, rows inside. -/
def keepAscending (lim : Nat) : Option Nat → List (Nat × Nat) → List (Nat × Nat)
  | _, [] => []
  | last, (i, v) :: r =>
    if decide (lim ≤ i) || (match last with | some l => decide (i ≤ l) | none => false) then keepAscending lim last r
    else (i, v) :: keepAscending lim (some i) r

/-- R255: the dense form of one sub-block of a compressed payload. -/
def expandSub (p : List Byte) (cb s : Nat) : List Nat :=
  let o := (compOffs p cb).getD s (0, false)
  let vr := if vrowsOk (compVrows p) then compVrows p else 64
  let base := 16 * (s / subCols cb)
  if o.1 = 0 || o.2 || decide (vr ≤ base) then List.replicate 256 0
  else
    let es := compEntries (compRec p cb o.1)
    (List.range 16).foldl (fun acc j =>
      let col := (es.filter (fun e => e.1 == j)).map (fun e => e.2)
      (keepAscending (vr - base) none col).foldl (fun acc e => acc.set (16 * e.1 + j) e.2) acc)
      (List.replicate 256 0)

/-- The whole dense payload of a compressed tile. -/
def expandTile (p : List Byte) (cb : Nat) : List Byte :=
  (List.range (subCount cb)).flatMap (fun s => packElems cb (expandSub p cb s))

/-- The raw elements of a sub-block of a tile, dense or compressed. -/
def tileSub (h : Hdr) (p : List Byte) (s : Nat) : List Nat :=
  let cb := fmtBits h.fmt h.width
  if h.comp then expandSub p cb s else denseSub p cb s

/-- Active positions of a sub-block: those a compressed record lists, every position of a dense one. -/
def subEntries (p : List Byte) (cb s : Nat) : Nat :=
  let o := (compOffs p cb).getD s (0, false)
  if o.1 = 0 || o.2 then 0 else (compRec p cb o.1).cnt.sum

/-! ### Published lines (R183, R185) -/

/-- A published line from its 64 bytes; `ok` says that its CRC holds. -/
def parseLine (b : List Byte) : Line :=
  { ok := crcTail b 64, s := fieldB b 0 2, q := fieldB b 2 2, f := fieldB b 4 1, zp := fieldB b 5 1,
    fmt := fieldB b 6 1 % 32, flags := fieldB b 7 1, pstep := fieldB b 8 2, home := fieldB b 0xA 1, n := fieldB b 0xB 1,
    h := fieldB b 0xC 1, win := fieldB b 0xD 1, bsa := fieldB b 0x10 8, esa := fieldB b 0x18 8,
    satlim := fieldB b 0x20 4 }

namespace Line
def zpen (l : Line) : Bool := bitOf l.flags 0
def blocked (l : Line) : Bool := bitOf l.flags 1
def baxis (l : Line) : Bool := bitOf l.flags 2
def esc (l : Line) : Bool := bitOf l.flags 3
def policy (l : Line) : Nat := bitsOf l.flags 5 4
def live (l : Line) : Bool := bitOf l.flags 6
end Line

namespace Device
/-- R182: the store offset of the published line of a TSID in cluster `k`, and of its local line. -/
def lineOff (d : Device) (k tsid : Nat) : Nat := d.num 0x7050 1 (k + 1) + 128 * tsid
/-- The published line of a TSID in cluster `k`; a TSID beyond the table has none. -/
def line (d : Device) (k tsid : Nat) : Line :=
  if tsid < d.num 0x7050 2 (k + 1) then parseLine (d.bytes (storeAddr k (d.lineOff k tsid)) 64) else {}
end Device

/-- The scale of an operand: S and F of its line; 1 and 127 without one (R83). -/
def scaleOf (tsid : Nat) (l : Line) : OpScale :=
  if l.ok then { tsid := tsid, s := l.s, f := l.f } else { tsid := tsid }

/-! ### Descriptors in registers (R118, R119) -/

structure OpDesc where
  frame : Nat
  start : Nat
  band : Nat
  trans : Bool
  rel : Bool
  fstep : Nat
  deriving DecidableEq, Repr

def opDesc (x : W64) : OpDesc :=
  let n := x.toNat
  { frame := bitsOf n 7 0, start := bitsOf n 12 8, band := bitsOf n 19 15, trans := bitOf n 20, rel := bitOf n 21,
    fstep := bitsOf n 31 24 }

structure OutDesc where
  frame : Nat
  sub : Nat
  pub : Bool
  tsid : Nat
  deriving DecidableEq, Repr

def outDesc (x : W64) : OutDesc :=
  let n := x.toNat
  { frame := bitsOf n 7 0, sub := bitsOf n 14 8, pub := bitOf n 15, tsid := bitsOf n 31 16 }

/-! ### Frames (R104 to R106) -/

/-- Offsets of a frame's payload and header, of its code slot and of a side unit (R104, R186). -/
def frameOff (f : Nat) : Nat := 4096 * f
def hdrOff (f : Nat) : Nat := 0xF0000 + 16 * f
def codeOff (f : Nat) : Nat := 0xF1000 + 128 * f
def unitOff (u : Nat) : Nat := 0xF8800 + 512 * u

namespace Device

/-- A frame becomes EMPTY: its poison flag clears and its side units return to the pool. -/
def emptyFrame (d : Device) (g f : Nat) : Device := d.setFrame g f {}

/-- R106, R165: request the release of a frame: it takes effect when its last read has ended; a carousel frame stays FULL
until a PASS has read it. The release of a frame that is not FULL does nothing (DESIGN CHOICE, log entry 84: the manual gives it no
effect). -/
def releaseFrame (d : Device) (g f : Nat) : Device :=
  let x := d.frame g f
  if x.st != .full then d
  else if x.reads = 0 && !x.carousel then d.emptyFrame g f
  else d.setFrame g f { x with release := true }

/-- The end of one read on a frame. -/
def endRead (d : Device) (g f : Nat) : Device :=
  let x := { d.frame g f with reads := (d.frame g f).reads - 1 }
  if x.reads = 0 && x.release && !x.carousel then d.emptyFrame g f else d.setFrame g f x

end Device

/-! ### What a frame feeds (R83, R118, R120, R215) -/

/-- An element at a cell: its value before block scaling, its block shift, and its raw LOG8 code. -/
structure Elem where
  v : Num := Num.zero
  delta : Nat := 0
  code : Nat := 0
  deriving DecidableEq, Repr

/-- R180: the block number of element (i, j) of sub-block `s` in a tile with `nC` sub-blocks per row. -/
def blockNo (baxis : Bool) (nC s i j : Nat) : Nat :=
  let row := 16 * (s / nC) + i
  let col := 16 * (s % nC) + j
  if baxis then col * 2 + row / 32 else row * (16 * nC / 32) + col / 32

/-- Transposing a list of 256 elements of a sub-block (R127). -/
def transpose16 {α : Type} (x : α) (l : List α) : List α :=
  (List.range 256).map (fun n => l.getD (16 * (n % 16) + n / 16) x)

/-- The packed outlier words of a side unit (R215): index, SUB, value. -/
def unitWords (b : List Byte) : List (Nat × Nat × Nat) :=
  (List.range 128).map (fun k =>
    let w := fieldB b (4 * k) 4
    (w % 256, bitsOf w 14 8, w >>> 16))

namespace Device

/-- The elements of sub-block `s` of a FULL frame that is not poisoned, with block shifts and escapes (R83, R215). -/
def frameElems (d : Device) (g f : Nat) (h : Hdr) (l : Line) (s : Nat) : List Elem :=
  let p := d.bytes (localAddr g (frameOff f)) 4096
  let cb := fmtBits h.fmt h.width
  let raw := tileSub h p s
  let z := if h.fmt = fmtINT && l.ok && l.zpen then some (intVal h.width h.signB l.zp) else none
  let scaled := h.bsi != 0xFFFFFFFF
  let nib (b : Nat) : Nat := ((d.byteAt (localAddr g (codeOff f + b / 2))).toNat >>> (4 * (b % 2))) % 8
  let fr := d.frame g f
  let outl : List (Nat × Nat × Nat) :=
    match fr.units.find? (fun u => u.2.isNone) with
    | some u => (unitWords (d.bytes (localAddr g (unitOff u.1)) 512)).take fr.words
    | none => []
  let fb : Option (List Byte) :=
    (fr.units.find? (fun u => u.2 == some s)).map (fun u => d.bytes (localAddr g (unitOff u.1)) 512)
  raw.zipIdx.map (fun ri =>
    let i := ri.2 / 16
    let j := ri.2 % 16
    let delta := if scaled then nib (blockNo l.baxis (subCols cb) s i j) else if l.ok then 127 - l.f else 0
    match fb with
    | some b => { v := decodeFF ffE5M10 (elemAt b 16 ri.2), delta := delta, code := 0 }
    | none =>
      match outl.find? (fun w => w.2.1 == s && w.1 == ri.2) with
      | some w => { v := e8m7 w.2.2, delta := 127 - l.f, code := 0 }
      | none =>
        { v := if h.fmt = fmtLOG8 then Num.zero else decodeElem h.fmt h.width h.signA z ri.1,
          delta := delta, code := ri.1 })

end Device

end Sys2Proof.Machine
end

