-- ==== Sys2Proof/Machine/Route.lean ====
section
/-! DEFINITION. Addresses and routes: global addresses (R30 to R32), the torus (R385, R386), routes and virtual channels
(R399 to R401), the requests and writes that leave the device (R391 to R393). -/

namespace Sys2Proof.Machine

/-! ### The torus -/

/-- R385: the size of dimension `i` (0 x, 1 y, 2 z) in an FL_SHAPE value, and a coordinate of a position. -/
def dimSize (shape i : Nat) : Nat := bitsOf shape (4 * i + 3) (4 * i) + 1
def coord (pos i : Nat) : Nat := bitsOf pos (4 * i + 3) (4 * i)
def setCoord (pos i c : Nat) : Nat := pos - coord pos i * 16 ^ i + c * 16 ^ i

/-- R384: the port of a direction on a rail. -/
def portOf (rail dim : Nat) (plus : Bool) : Nat := 6 * rail + 2 * dim + b2n (!plus)
def portDim (p : Nat) : Nat := p % 6 / 2
def portPlus (p : Nat) : Bool := p % 2 == 0
def portRail (p : Nat) : Nat := p / 6

/-- R385: a port whose dimension has more than one position. -/
def portUsed (shape p : Nat) : Bool := decide (1 < dimSize shape (portDim p))

/-- A position that lies in the shape. -/
def posValid (shape pos : Nat) : Bool :=
  decide (pos < 4096) && (List.range 3).all (fun i => decide (coord pos i < dimSize shape i))

/-- R399: the first dimension to correct, and whether in the + direction. -/
def nextDir (shape s t : Nat) : Option (Nat × Bool) :=
  ((List.range 3).find? (fun i => coord s i != coord t i)).map (fun i =>
    let n := dimSize shape i
    let f := (coord t i + n - coord s i % n) % n
    (i, decide (f ≤ n - f)))

/-- The port at the far end: the opposite direction on the same rail. -/
def portOpp (p : Nat) : Nat := if p % 2 = 0 then p + 1 else p - 1

/-- R385: the position one hop away in a direction. -/
def neighbour (shape pos dim : Nat) (plus : Bool) : Nat :=
  let n := dimSize shape dim
  setCoord pos dim ((coord pos dim + (if plus then 1 else n - 1)) % n)

/-- R400: whether the hop from `pos` crosses the dateline of its dimension. -/
def dateline (shape pos dim : Nat) (plus : Bool) : Bool :=
  if plus then coord pos dim == dimSize shape dim - 1 else coord pos dim == 0

/-- The hops of the R399 route from `s` to `t`: (position, dimension, direction), at most `fuel` of them. -/
def routeHops (shape : Nat) : Nat → Nat → Nat → List (Nat × Nat × Bool)
  | 0, _, _ => []
  | n + 1, s, t =>
    match nextDir shape s t with
    | none => []
    | some (i, plus) => (s, i, plus) :: routeHops shape n (neighbour shape s i plus) t

/-- A route has at most 8 hops in each of three dimensions. -/
def hopsOf (shape s t : Nat) : List (Nat × Nat × Bool) := routeHops shape 24 s t

/-! ### Packets (R390, R391, R395) -/

/-- R390: the slots of a packet. -/
def packetSlots (h : PktHdr) : Nat :=
  let n := if h.typ.toNat = 1 ∨ h.typ.toNat = 3 then h.len.toNat else 0
  1 + (n - 96 + 127) / 128

/-- R395: the buffer of a packet: REQ or RSP, VC0 or VC1. -/
def packetCls (h : PktHdr) : Nat := (if h.typ.toNat < 2 then 0 else 2) + b2n h.vc

/-- R391: the 32 bytes of a header, reserved fields zero. -/
def packetBytes (h : PktHdr) : List Byte :=
  let flags := b2n h.vc + 2 * b2n h.leg + 4 * h.tclass.toNat + 32 * b2n h.err + 64 * b2n h.last
  [h.typ, BitVec.ofNat 8 flags] ++ leBytes 2 h.dest.toNat ++ leBytes 2 h.via.toNat ++ leBytes 2 h.src.toNat ++
  leBytes 2 h.len.toNat ++ leBytes 2 h.tag.toNat ++ leBytes 4 0 ++ leBytes 8 h.addr.toNat ++ leBytes 8 0

/-- R391: the header that 32 bytes hold. -/
def parsePacket (b : List Byte) : PktHdr :=
  let f := fieldB b 1 1
  let w (o : Nat) : Nat := fieldB b o 2
  { typ := BitVec.ofNat 8 (fieldB b 0 1), vc := bitOf f 0, leg := bitOf f 1, tclass := BitVec.ofNat 3 (f / 4), err := bitOf f 5,
    last := bitOf f 6, dest := BitVec.ofNat 12 (w 2), via := BitVec.ofNat 12 (w 4), src := BitVec.ofNat 12 (w 6),
    len := BitVec.ofNat 16 (w 8), tag := BitVec.ofNat 16 (w 10), addr := BitVec.ofNat 43 (fieldB b 0x10 8),
    rsvd := bitOf f 7 || decide (4096 ≤ w 2) || decide (4096 ≤ w 4) || decide (4096 ≤ w 6) || fieldB b 0xC 4 != 0 ||
      decide (2 ^ 43 ≤ fieldB b 0x10 8) || fieldB b 0x18 8 != 0 }

/-- R390: the slots of a packet, KIND 1 for the header with the first 96 bytes of data, KIND 2 for 128 bytes each. -/
def slotsOf (h : PktHdr) (data : List Byte) : List (Nat × List Byte) :=
  let pad (b : List Byte) : List Byte := b ++ List.replicate (128 - b.length) 0
  (1, pad (packetBytes h ++ data.take 96)) :: (chunk 128 4 (data.drop 96)).map (fun b => (2, pad b))

namespace Device

/-- R416: the shape and the position in force since the Thaw. -/
def shape (d : Device) : Nat := d.link.shapeNow % 4096
def position (d : Device) : Nat := d.link.posNow % 4096

/-- R386, R416: the position of a device number by the map in force, 0xFFFF where the map names none. -/
def mapPos (d : Device) (dev : Nat) : Nat :=
  match d.link.mapNow with
  | none => if dev < 4096 then dev else 0xFFFF
  | some m => if 2 * dev + 2 ≤ m.length then fieldB m (2 * dev) 2 else 0xFFFF

/-- R401, R411: the route entry of a destination position: mode, unreachable, via. -/
def routeMode (d : Device) (pos : Nat) : Nat × Bool × Nat :=
  let e := fieldB (d.domOf 0x1701 3) (4 * pos) 4
  (e % 4, bitOf e 2, bitsOf e 27 16)

/-! ### Global addresses -/

/-- What an address of a mover names. -/
inductive Reach where
  | here (a : Nat)
  | remote (pos a : Nat)
  | noMember
  | bad
  deriving DecidableEq, Repr

/-- R31, R32: the resolution of a 64-bit address. -/
def resolve (d : Device) (a : Nat) : Reach :=
  let low := a % 2 ^ 43
  let dev := bitsOf a 54 43
  if bitOf a 55 then
    if dev = d.devNo then .here low
    else
      let p := d.mapPos dev
      if p = 0xFFFF || !posValid d.shape p then .noMember else .remote p low
  else if dev ≠ 0 then .bad else .here low

/-- R30: what a stream engine of cluster `k` may reach in its own device; no access crosses 4 KiB (R29). -/
def seReach (d : Device) (k a n : Nat) : Bool :=
  !crosses a n && (match d.region a with
    | .nothing => false
    | .localMem g _ => g / 16 == k
    | _ => true)

/-- R30: what a peer may reach here. -/
def peerReach (d : Device) (a n : Nat) : Bool :=
  !crosses a n && (match d.region a with
    | .nothing => false
    | .localMem _ _ => false
    | _ => true)

/-- R11, R30: a core is stopped while none of its threads is at work: every one is FREE or FAULTED, whatever its engine and move
queues still hold (DESIGN CHOICE, log entry 80: the manual does not say when a core is stopped). -/
def coreStopped (d : Device) (g : Nat) : Bool :=
  (d.core g).thr.all (fun e => e.2.st == .free || e.2.st == .faulted)

/-- R30: what a hub core or a Harvest engine may reach: the local memory of a stopped core, to read only, and all else that is
mapped. -/
def hubReach (d : Device) (a n : Nat) (isWrite : Bool) : Bool :=
  !crosses a n && (match d.region a with
    | .nothing => false
    | .localMem g _ => !isWrite && d.coreStopped g
    | _ => true)

/-- R375, R379: an access touches a burst that was reported uncorrectable and still reads as the zeros it returned (the model's choice
of how long that lasts, log entry 26). -/
def poorIn (d : Device) (a n : Nat) : Bool :=
  d.bg.poor.any (fun x => decide (x.1 < a + n) && decide (a < x.1 + x.2) && (d.bytes x.1 x.2).all (· == 0))

/-! ### Packets that leave -/

def port (d : Device) (p : Nat) : PortS := Map.get {} d.link.ports p
def modPort (d : Device) (p : Nat) (f : PortS → PortS) : Device :=
  { d with link := { d.link with ports := Map.upd {} d.link.ports p f } }

/-- R395: the buffer of a consumed packet is free again, and its slots are credits of the far end. -/
def freeSlots (d : Device) (p cls n : Nat) : Device :=
  (d.modPort p (fun x => { x with rxUsed := Map.set 0 x.rxUsed cls (Map.get 0 x.rxUsed cls - n) })).send (.creditReturn p cls n)
def freed (d : Device) (p : Nat) (h : PktHdr) : Device := d.freeSlots p (packetCls h) (packetSlots h)

/-- R398: no packet leaves by a port that is down: those that wait there are lost, and the buffers that hold them are free. -/
def dropPackets (d : Device) (p : Nat) : Device :=
  let ts := (d.port p).fwd
  ts.foldl (fun d t => d.freeSlots t.inPort t.cls (packetSlots t.hdr)) (d.modPort p (fun x => { x with loc := [], fwd := [] }))

/-- A packet can wait at a port: it is up, or it retrains (R398). -/
def takesPackets (d : Device) (p : Nat) : Bool := d.num 0x70B0 1 (p + 1) == 2 || d.num 0x70B0 1 (p + 1) == 3

/-- R400, R401: a packet enters the torus toward its destination, or toward VIA on the first leg of a detour. An unreachable
destination gets nothing (R412). A packet that takes no detour carries its destination as VIA (log entry 24). It waits at its
injection point until PACKET_START finds credits for it (R395); at a port that is down it is lost. -/
def inject (d : Device) (h : PktHdr) (data : List Byte) (rail : Option Nat) : Device :=
  let r := d.routeMode h.dest.toNat
  if r.2.1 then d
  else
    let detour := r.1 = 3
    let rl := if detour || r.1 = 1 then 0 else if r.1 = 2 then 1 else rail.getD (b2n (bitOf h.addr.toNat 12))
    let tgt := if detour then r.2.2 else h.dest.toNat
    match nextDir d.shape d.position tgt with
    | none => d
    | some (i, plus) =>
      let h := { h with vc := dateline d.shape d.position i plus, leg := false,
                        via := if detour then BitVec.ofNat 12 r.2.2 else h.dest }
      let o := portOf rl i plus
      if d.takesPackets o then d.modPort o (fun x => { x with loc := x.loc ++ [(h, data)] }) else d

/-- The lowest TAG that no request holds (R393). -/
def newTag (d : Device) : Nat :=
  ((List.range 65536).find? (fun t => (Map.get none d.link.tags t).isNone)).getD 0

/-- A request to another member, its TAG held until the last completion. Its traffic is work of the plan, class 0 of R363. The space
for the response (R370) is the place of the tile among those in flight, taken before the request is made. -/
def request (d : Device) (pos a : Nat) (r : Req) (data : List Byte) : Device :=
  let t := d.newTag
  let h : PktHdr := { typ := if r.isWrite then 1 else 0, dest := BitVec.ofNat 12 pos, src := BitVec.ofNat 12 d.position,
                      len := BitVec.ofNat 16 (if r.isWrite then data.length else r.left), tag := BitVec.ofNat 16 t,
                      addr := BitVec.ofNat 43 a }
  let d := { d with link := { d.link with tags := Map.set none d.link.tags t (some { r with pos := pos, addr := a, sent := d.time.nowNs }) } }
  d.inject h data none

/-- R162, R395: a request toward a remote source finds no credit at its first-hop port. -/
def creditShort (d : Device) (r : Reach) : Bool :=
  match r with
  | .remote pos a =>
    let m := d.routeMode pos
    let rl := if m.1 = 3 || m.1 = 1 then 0 else if m.1 = 2 then 1 else b2n (bitOf a 12)
    match nextDir d.shape d.position (if m.1 = 3 then m.2.2 else pos) with
    | none => false
    | some (i, plus) =>
      let x : PortS := Map.get {} d.link.ports (portOf rl i plus)
      Map.get 0 x.cred (b2n (dateline d.shape d.position i plus)) == 0
  | _ => false

end Device

end Sys2Proof.Machine
end

