-- ==== Sys2Proof/Machine/Fec.lean ====
section
/-! DEFINITION. A Flisol codeword on its lanes (R387 to R389): PAM4 levels, Gray mapping, the precoder, the placement of symbols, the
RS(544,514) code, the message. What the manual takes from IEEE 802.3 is log entry 42. -/

namespace Sys2Proof.Machine

/-! ### GF(2^10) -/

/-- A product by x, modulo x^10 + x^3 + 1. -/
def gfDouble (a : Nat) : Nat := if a < 512 then 2 * a else Nat.xor (2 * a) 0x409

/-- A product: `n` bits of `b`, the lowest first. -/
def gfMulBits : Nat → Nat → Nat → Nat
  | 0, _, _ => 0
  | n + 1, a, b => Nat.xor (if b % 2 = 1 then a else 0) (gfMulBits n (gfDouble a) (b / 2))

def gfMul (a b : Nat) : Nat := if a = 0 ∨ b = 0 then 0 else gfMulBits 10 a b

/-- α^n, with α = x. -/
def gfAlpha (n : Nat) : Nat := forN (n % 1023) 1 (fun a _ => gfDouble a)

/-- a^-1 = a^1022, by squaring: 1022 = 2 + 4 + … + 512. -/
def gfInv (a : Nat) : Nat :=
  (forN 9 (1, gfMul a a) (fun s _ => (gfMul s.1 s.2, gfMul s.2 s.2))).1

/-- The value of a polynomial, the coefficient of the highest power first. -/
def gfEval (cs : List Nat) (x : Nat) : Nat := cs.foldl (fun s c => Nat.xor (gfMul s x) c) 0

/-! ### RS(544,514) -/

/-- R388: 30 check symbols; the generator's roots are α^0 to α^29. -/
def rsChecks : Nat := 30

/-- The syndromes of a received word, symbol 0 at the highest power. -/
def rsSyndromes (r : List Nat) : List Nat := (List.range rsChecks).map (fun j => gfEval r (gfAlpha j))

/-- Addition of polynomials, lowest power first, the second times c x^m. -/
def gfAddShift (a b : List Nat) (c m : Nat) : List Nat :=
  (List.range (max a.length (b.length + m))).map (fun i =>
    Nat.xor (a.getD i 0) (if i < m then 0 else gfMul c (b.getD (i - m) 0)))

/-- Where the search for the error locator stands: locator, the one before its last change, length, steps since, discrepancy
then. -/
structure RsSearch where
  loc : List Nat
  prev : List Nat
  len : Nat
  gap : Nat
  old : Nat

/-- The shortest locator that explains the syndromes. -/
def rsLocator (s : List Nat) : RsSearch :=
  forN rsChecks { loc := [1], prev := [1], len := 0, gap := 1, old := 1 } (fun x n =>
    let d := (List.range (x.len + 1)).foldl (fun a i => Nat.xor a (gfMul (x.loc.getD i 0) (if i ≤ n then s.getD (n - i) 0 else 0))) 0
    if d = 0 then { x with gap := x.gap + 1 }
    else
      let loc := gfAddShift x.loc x.prev (gfMul d (gfInv x.old)) x.gap
      if 2 * x.len ≤ n then { loc := loc, prev := x.loc, len := n + 1 - x.len, gap := 1, old := d }
      else { x with loc := loc, gap := x.gap + 1 })

/-- The powers at which the locator says that symbols of an `n`-symbol word are wrong. -/
def rsErrors (n : Nat) (loc : List Nat) : List Nat :=
  (List.range n).filter (fun p => gfEval loc.reverse (gfAlpha (1023 - p)) = 0)

/-- The error at power `p`. -/
def rsError (s loc : List Nat) (p : Nat) : Nat :=
  let xi := gfAlpha (1023 - p)
  let om := (List.range rsChecks).map (fun k =>
    (List.range (k + 1)).foldl (fun a i => Nat.xor a (gfMul (loc.getD i 0) (s.getD (k - i) 0))) 0)
  let der := (List.range loc.length).map (fun i => if i % 2 = 0 then loc.getD (i + 1) 0 else 0)
  gfMul (gfAlpha p) (gfMul (gfEval om.reverse xi) (gfInv (gfEval der.reverse xi)))

/-- R388: the codeword nearest to a received word, with the number of wrong symbols, where that is at most 15. -/
def rsDecode (r : List Nat) : Option (List Nat × Nat) :=
  let s := rsSyndromes r
  if s.all (· == 0) then some (r, 0)
  else
    let x := rsLocator s
    let es := rsErrors r.length x.loc
    if 15 < x.len ∨ es.length ≠ x.len then none
    else
      let c := es.foldl (fun c p =>
        let i := r.length - 1 - p
        c.set i (Nat.xor (c.getD i 0) (rsError s x.loc p))) r
      if (rsSyndromes c).all (· == 0) then some (c, es.length) else none

/-- The generator polynomial without its leading 1, highest power first. -/
def rsGenerator : List Nat :=
  (forN rsChecks [1] (fun g j => (List.range (g.length + 1)).map (fun i =>
    Nat.xor (g.getD i 0) (if i = 0 then 0 else gfMul (gfAlpha j) (g.getD (i - 1) 0))))).tail

/-- R388: the codeword of a message: the message, then the remainder of its division by the generator. -/
def rsEncode (m : List Nat) : List Nat :=
  let g := rsGenerator
  m ++ m.foldl (fun rem c =>
    let f := Nat.xor c (rem.headD 0)
    (List.range rsChecks).map (fun i => Nat.xor (rem.getD (i + 1) 0) (gfMul f (g.getD i 0)))) (List.replicate rsChecks 0)

/-! ### Lanes (R387, R388) -/

/-- R387: the two bits of a PAM4 level, the first one first: Gray, 0 1 2 3 for 00 01 11 10. -/
def grayBits (l : Nat) : Nat × Nat := (l / 2 % 2, Nat.xor (l / 2 % 2) (l % 2))
def grayLevel (a b : Nat) : Nat := 2 * a + Nat.xor a b

/-- R387: the 1/(1 + D) mod 4 precoder of the sender, and its inverse at the receiver, each from the level before. -/
def precode (prev : Nat) (ls : List Nat) : List Nat :=
  (ls.foldl (fun (acc : List Nat × Nat) l => let p := (l + 4 - acc.2) % 4; (acc.1 ++ [p], p)) ([], prev)).1
def unprecode (prev : Nat) (ls : List Nat) : List Nat := ((prev :: ls).zip ls).map (fun x => (x.1 + x.2) % 4)

/-- The 10-bit symbol of five levels, its lowest bit first. -/
def levelsSymbol (ls : List Nat) : Nat :=
  (ls.zipIdx.map (fun x => let b := grayBits x.1; (b.1 + 2 * b.2) * 4 ^ x.2)).sum

def symbolLevels (s : Nat) : List Nat := (List.range 5).map (fun i => grayLevel (s / 4 ^ i % 2) (s / (2 * 4 ^ i) % 2))

/-- The symbols of one lane. -/
def laneSymbols (ls : List Nat) : List Nat := (List.range 68).map (fun i => levelsSymbol ((ls.drop (5 * i)).take 5))

/-- R388: symbol k of a codeword travels on lane k mod 8. -/
def fromLanes (lanes : List (List Nat)) : List Nat := (List.range 544).map (fun k => (lanes.getD (k % 8) []).getD (k / 8) 0)
def toLanes (ss : List Nat) : List (List Nat) :=
  (List.range 8).map (fun l => (List.range 68).map (fun i => ss.getD (8 * i + l) 0))

/-- R388: the symbol that a lane repeats in an alignment codeword: its number, and the rail above it. -/
def alignSymbol (rail lane : Nat) : Nat := lane + 8 * rail

/-- R388: every 4,096th codeword position carries an alignment codeword. -/
def alignPosition (n : Nat) : Bool := n % 4096 == 4095

/-! ### The message (R389) -/

/-- The 5,140 bits of a message from its symbols, bits [10k+9:10k] in symbol k. -/
def messageOf (ss : List Nat) : Nat := ((ss.take 514).zipIdx.map (fun x => x.1 * 2 ^ (10 * x.2))).sum

/-- R389: KIND of a slot, NAK, ACK, a slot's 128 bytes. -/
def msgKind (m s : Nat) : Nat := bitsOf m (5131 + 2 * s) (5130 + 2 * s)
def msgNak (m : Nat) : Bool := bitOf m 5129
def msgAck (m : Nat) : Nat := bitsOf m 5128 5120
def msgSlot (m s : Nat) : List Byte := leBytes 128 (bitsOf m (1024 * s + 1023) (1024 * s))

/-- R389: the message of up to five slots, idle behind them, and its symbols. -/
def messageBits (nak : Bool) (ack : Nat) (slots : List (Nat × List Byte)) : Nat :=
  (slots.zipIdx.map (fun x => leNat x.1.2 * 2 ^ (1024 * x.2) + x.1.1 * 2 ^ (5130 + 2 * x.2))).sum + ack % 512 * 2 ^ 5120 +
    b2n nak * 2 ^ 5129
def messageSymbols (m : Nat) : List Nat := (List.range 514).map (fun k => m / 2 ^ (10 * k) % 1024)

/-- R388: the symbols of an alignment codeword. -/
def alignSymbols (rail : Nat) : List Nat := (List.range 544).map (fun k => alignSymbol rail (k % 8))

/-- R387, R388: the levels of a codeword's symbols on the lanes. -/
def sendLanes (pre : BitVec 8) (last : List Nat) (ss : List Nat) : List (List Nat) :=
  (toLanes ss).zipIdx.map (fun x =>
    let ls := x.1.flatMap symbolLevels
    if pre.getLsbD x.2 then precode (last.getD x.2 0) ls else ls)

/-- R387, R388: a codeword as its lanes bring it, 340 levels on each of 8, to its symbols; `pre` names the lanes that are precoded,
`last` the level before on each lane. -/
def receiveLanes (pre : BitVec 8) (last : List Nat) (rx : Levels) : List Nat :=
  fromLanes (rx.zipIdx.map (fun x =>
    let ls := x.1.map (·.val)
    laneSymbols (if pre.getLsbD x.2 then unprecode (last.getD x.2 0) ls else ls)))

/-- The last level on each lane. -/
def lastLevels (rx : Levels) : List Nat := rx.map (fun l => (l.getLast?.map (·.val)).getD 0)

end Sys2Proof.Machine
end

