-- ==== Sys2Proof/Machine/Tree.lean ====
section
/-! DEFINITION. The down-set, the cadence tree and the routes it leaves (R409, R411). -/

namespace Sys2Proof.Machine

namespace Device

/-- FL_DOWNSET: entries of 16 bits, position and port. -/
def downEntries (d : Device) : List Nat :=
  let m := d.domOf 0x1701 2
  (List.range (m.length / 2)).map (fun i => fieldB m (2 * i) 2)

end Device

/-- A port of a position, or the far end of its link, is in the down-set. -/
def linkDown (shape : Nat) (down : List Nat) (pos port : Nat) : Bool :=
  down.contains (pos + 4096 * port) ||
  down.contains (neighbour shape pos (portDim port) (portPlus port) + 4096 * portOpp port)

/-- R411: no link of the R399 route from `a` to `b` on a rail is down. -/
def routeClear (shape : Nat) (down : List Nat) (a b rail : Nat) : Bool :=
  (hopsOf shape a b).all (fun h => !linkDown shape down h.1 (portOf rail h.2.1 h.2.2))

/-- Every position of a shape, in position-number order. -/
def positions (shape : Nat) : List Nat := (List.range 4096).filter (posValid shape)

/-- R411: the FL_ROUTES entry of a destination: mode in [1:0], UNREACHABLE in [2], VIA in [27:16]. -/
def routeEntry (shape : Nat) (down : List Nat) (src dst : Nat) : Nat :=
  let ok0 := routeClear shape down src dst 0
  let ok1 := routeClear shape down src dst 1
  if ok0 && ok1 then 0
  else if ok0 then 1
  else if ok1 then 2
  else
    let good := (positions shape).filter (fun v =>
      routeClear shape down src v 0 && routeClear shape down v dst 1)
    let far (v : Nat) : Nat := (hopsOf shape src v).length
    match good with
    | [] => 4
    | v :: vs => 3 + 65536 * vs.foldl (fun b x => if far x < far b then x else b) v

/-- FL_ROUTES for a down-set; with nothing down every mode is 0. -/
def routeTable (shape : Nat) (down : List Nat) (src : Nat) : List Byte :=
  if down.isEmpty then List.replicate 16384 0
  else (List.range 4096).flatMap (fun p => leBytes 4 (if posValid shape p then routeEntry shape down src p else 0))

/-- Hop counts from a position over links that are up: key position, value hops + 1. -/
def spread (shape : Nat) (down : List Nat) : Nat → List Nat → Map Nat → Map Nat
  | 0, _, m => m
  | n + 1, front, m =>
    let hops := front.flatMap (fun p => (List.range 12).filterMap (fun o =>
      if linkDown shape down p o then none else some (p, neighbour shape p (portDim o) (portPlus o))))
    let r := hops.foldl (fun (acc : Map Nat × List Nat) h =>
      if Map.get 0 acc.1 h.2 = 0 then (Map.set 0 acc.1 h.2 (Map.get 0 m h.1 + 1), h.2 :: acc.2) else acc) (m, [])
    match r.2 with
    | [] => r.1
    | f => spread shape down n f r.1

/-- Hops + 1 of every position that a root reaches. -/
def hopMap (shape : Nat) (down : List Nat) (root : Nat) : Map Nat := spread shape down 4096 [root] [(root, 1)]

/-- R409: the parent port of a position `me` toward the master's position `mp`: among the ports that are up and lead one hop nearer by
the hop counts `m`, the one on the master's route, else its twin, else the lowest. -/
def parentFrom (shape : Nat) (down : List Nat) (up : Nat → Bool) (m : Map Nat) (mp me : Nat) : Option Nat :=
  let here := Map.get 0 m me
  let cand := (List.range 12).filter (fun p =>
    up p && !linkDown shape down me p && Map.get 0 m (neighbour shape me (portDim p) (portPlus p)) + 1 == here)
  let want := (hopsOf shape mp me).getLast?.map (fun h => portOf 0 h.2.1 (!h.2.2))
  match want with
  | some w => if cand.contains w then some w else if cand.contains (w + 6) then some (w + 6) else cand.head?
  | none => cand.head?

namespace Device

/-- R396: a port that is up. -/
def portUp (d : Device) (p : Nat) : Bool := d.num 0x70B0 1 (p + 1) == 2

/-- R409: the parent port toward a master, none at the master or where it cannot be reached. -/
def parentToward (d : Device) (master : Nat) : Option Nat :=
  let mp := d.mapPos master
  let me := d.position
  if me = mp || !posValid d.shape mp then none
  else parentFrom d.shape d.downEntries d.portUp (hopMap d.shape d.downEntries mp) mp me

/-- R409: PATHLAT to the members one level below; only a child takes it, from its parent port. -/
def sendPathlat (d : Device) (ns : Nat) : Device :=
  forN 12 d (fun d p => if d.portUp p && p != d.num 0x1700 7 then d.send (.control p 7 (BitVec.ofNat 128 ns)) else d)

/-- R409: FL_PARENT_PORT and FL_TREE_DEPTH for the current master, whose own path latency is 0. -/
def recomputeTree (d : Device) : Device :=
  let master := d.num 0x1200 3
  let d := d.setNum 0x1700 7 0 ((d.parentToward master).getD 0xFF)
  let depth := Map.get 0 (hopMap d.shape d.downEntries (d.mapPos master)) d.position
  let d := d.setNum 0x1700 9 0 (depth - 1)
  if d.mapPos master = d.position then (d.setNum 0x1700 8 0 0).sendPathlat 0 else d

/-- R411 step 3: routes that a DOWNSET changed are installed at a boundary release. -/
def installRoutes (d : Device) : Device :=
  if d.link.routesPend then
    let d := d.setDom 0x1701 3 0 (routeTable d.shape d.downEntries d.position)
    { d with link := { d.link with routesPend := false } }
  else d

/-- Link ends that enter or leave the down-set; the tree at once, the routes at the next release (R411). -/
def markLinks (d : Device) (entries : List Nat) (down : Bool) : Device :=
  let old := d.downEntries
  let new := if down then old ++ (dedupNat entries).filter (fun e => !old.contains e)
    else old.filter (fun e => !entries.contains e)
  let d := d.setDom 0x1701 2 0 (new.flatMap (leBytes 2))
  ({ d with link := { d.link with routesPend := true } }).recomputeTree

/-- R411: every link of a lost member's position. -/
def loseMember (d : Device) (dev : Nat) : Device :=
  let p := d.mapPos dev
  if p < 4096 then d.markLinks ((List.range 12).map (fun o => p + 4096 * o)) true else d

end Device

end Sys2Proof.Machine
end

