-- ==== Sys2Proof/Machine/Access.lean ====
section
/-! DEFINITION. Who may write what (R418 to R426, R433, R440): the status of a write before the object's own rule. -/

namespace Sys2Proof.Machine

/-- R433: the status codes. -/
def stOK : Nat := 0
def stAbsent : Nat := 1
def stDenied : Nat := 2
def stReadOnly : Nat := 3
def stWriteOnly : Nat := 4
def stNotStopped : Nat := 5
def stState : Nat := 6
def stRange : Nat := 7
def stType : Nat := 8
def stLocked : Nat := 9
def stBusy : Nat := 10
def stAborted : Nat := 11
def stMalformed : Nat := 12
def stVersion : Nat := 13
def stNoSession : Nat := 14
def stUnreachable : Nat := 15
def stTooLarge : Nat := 16

namespace Device

def session (d : Device) (sid : Nat) : Option Session := d.mgmt.sessions.find? (fun s => s.sid == sid)

/-- Replace an open session. -/
def setSession (d : Device) (x : Session) : Device :=
  { d with mgmt := { d.mgmt with sessions := d.mgmt.sessions.map (fun s => if s.sid = x.sid then x else s) } }

/-- R424: the session that holds the lease, 0 none. -/
def lease (d : Device) : Nat := d.num 0x1001 7

end Device

/-- R440: what firmware of a member may write: the number map and the objects of 0x1502. -/
def firmwareObject (idx sub : Nat) : Bool := (idx == 0x1701 && sub == 1) || idx == 0x1502

namespace Device

/-- R422 to R425: role, access class, lease and run state. 0 where they permit the write. -/
def classStatus (d : Device) (c : Conn) (r : ObjRow) (idx sub : Nat) : Nat :=
  if r.acc = .ro || r.acc = .rp || hasMirror idx sub then stReadOnly
  else match c with
    | .firmware dev =>
      if firmwareObject idx sub && decide (d.mapPos dev.toNat < 4096) then stOK else stDenied
    | .session sid =>
      match d.session sid.toNat with
      | none => stNoSession
      | some s =>
        if idx = 0x1502 || decide (s.ceil < (if 0x4000 ≤ idx ∧ idx < 0x5000 then 3 else 2)) then stDenied
        else if d.lease ≠ sid.toNat then stDenied
        else if r.acc = .rws && !d.isStopped then (if d.admState = 2 then stState else stNotStopped)
        else stOK

/-- The status of a write before the object's own rule: address, class, role, lease, run state (log entry 16). -/
def accessStatus (d : Device) (c : Conn) (idx sub inst : Nat) : Nat :=
  if 0x9000 ≤ idx ∧ idx < 0xA000 then stLocked
  else if 0x8000 ≤ idx ∧ idx < 0x9000 then stReadOnly
  else match maxSub idx with
    | none => stAbsent
    | some _ =>
      if !instOk idx inst then stAbsent
      else if sub = 0 then stReadOnly
      else match objRow idx sub with
        | none => stAbsent
        | some r => d.classStatus c r idx sub

/-- The status of a scalar write with a type code and its bytes. -/
def writeStatus (d : Device) (c : Conn) (idx sub inst type : Nat) (data : List Byte) : Nat :=
  let s := d.accessStatus c idx sub inst
  if s ≠ stOK then s
  else match objRow idx sub with
    | none => stAbsent
    | some r =>
      if type ≠ tyCode r.ty || r.ty = .dom || (if r.ty = .str then decide (64 < data.length) else data.length ≠ tyBytes r.ty)
      then stType
      else if r.ty ≠ .str && !inRange r (leNat data) then stRange
      else stOK

/-- The status of a scalar write whose value has the object's type. -/
def valueStatus (d : Device) (c : Conn) (idx sub inst v : Nat) : Nat :=
  match objRow idx sub with
  | none => d.accessStatus c idx sub inst
  | some r => d.writeStatus c idx sub inst (tyCode r.ty) (leBytes (tyBytes r.ty) v)

/-- What a hook answers: the device afterwards and the status. -/
def answer (r : Device × Nat) (idx sub inst : Nat) : Device := r.1.send (.answer idx sub inst r.2)

/-- A write that the access rules pass runs its hook; the answer goes out (R433). -/
def viaObject (d : Device) (c : Conn) (idx sub inst v : Nat) (hook : Device → Device × Nat) : Device :=
  let s := d.valueStatus c idx sub inst v
  answer (if s = stOK then hook d else (d, s)) idx sub inst

/-- A write of a DOMAIN or STR object outside a frame: access rules, then the object's own rule; the answer goes out. -/
def viaDomain (d : Device) (c : Conn) (idx sub : Nat) (hook : Device → Device × Nat) : Device :=
  let s := d.accessStatus c idx sub 0
  answer (if s = stOK then hook d else (d, s)) idx sub 0

/-- R435: a DOMAIN object has changed. -/
def touched (d : Device) (idx sub : Nat) (inst : Nat := 0) : Device :=
  { d with mgmt := { d.mgmt with changes := Map.upd 0 d.mgmt.changes (okey idx sub inst) (· + 1) } }

end Device

end Sys2Proof.Machine
end

