-- ==== Sys2Proof/Machine/Flags.lean ====
section
/-! DEFINITION. Numeric flags: what every write counts (R305 to R307, R195), NaNs lost (R60), and the reports of written
maxima (R191). -/

namespace Sys2Proof.Machine

/-- R305: the class of a write: the class map's byte of its TSID, VECTOR beyond the map or without a TSID. -/
def Device.classOf (d : Device) (k : Nat) (tsid : Option Nat) : Nat :=
  match tsid with
  | none => 6
  | some t => match (d.domOf 0x7080 1 (k + 1))[t]? with
    | some b => b.toNat % 8
    | none => 6

/-- Add to a step counter of a cluster, saturating at 2^32 − 1 (R306). Kinds: 0 NAN, 1 INF, 2 OVF, 3 SAT. -/
def Device.count (d : Device) (k cls kind n : Nat) : Device :=
  if n = 0 then d
  else d.modClu k (fun c => { c with cnt := Map.upd 0 c.cnt (4 * cls + kind) (fun v => min (v + n) (2 ^ 32 - 1)) })

/-- R307: a NAN or INF count outside EVAL raises 0x2200 once per class, cluster and step. -/
def Device.countNonfinite (d : Device) (k cls kind n : Nat) : Device :=
  if n = 0 then d
  else
    let d := d.count k cls kind n
    if cls = 5 then d else d.raiseOnce 0x2200 (k * 8 + cls) 0x7080 (k + 1) 0 cls

/-- What the writing of values into a target adds up to. -/
structure Tally where
  nan : Nat := 0
  inf : Nat := 0
  ovf : Nat := 0
  sat : Nat := 0
  lostNan : Nat := 0
  /-- largest finite |v| written, as E8M7 magnitude bits rounded up (R184, R191) -/
  smax : Nat := 0
  deriving DecidableEq, Repr

/-- A magnitude m × 2^e as E8M7 bits rounded up, at most the largest finite value (R184). -/
def e8m7Up (m : Nat) (e : Int) : Nat :=
  if m = 0 then 0
  else
    let u := ulpExp ffE8M7 m e
    let q := if isExact m e u then rtzUnits m e u else rtzUnits m e u + 1
    if magLe q u 255 120 then (u + 133).toNat * 128 + q else 0x7F7F

/-- One written element: its value before conversion, whether it drained from an overflowed slot, what was written. INF counts what is
presented as an infinity, and an overflowed element that is written as one; a finite value that only rounds to infinity counts nowhere. -/
def Tally.add (t : Tally) (tg : Target) (v : Num) (ovf : Bool) (r : Rounded) : Tally :=
  let asInf := r.exceeds && !v.isInf &&
    (match floatFmt tg.fmt with | some f => f.ieee && !tg.sat | none => false)
  { t with
    nan := t.nan + b2n v.isNan
    inf := t.inf + b2n (v.isInf || (ovf && asInf))
    ovf := t.ovf + b2n ovf
    sat := t.sat + b2n (r.exceeds && !asInf)
    lostNan := t.lostNan + b2n r.nanLost }

/-- R191: the value reported for the maximum, taken before Q is applied. -/
def Tally.report (t : Tally) (v : Num) : Tally :=
  match v with
  | .fin _ m e => { t with smax := max t.smax (e8m7Up m e) }
  | _ => t

/-- Enter a tally of class `cls` into cluster `k`: the step counters, lost NaNs, saturations. -/
def Device.tally (d : Device) (k cls : Nat) (t : Tally) (ua ui a0 : Nat) : Device :=
  let d := forN t.lostNan d (fun d _ => d.raise 0x2010 ua ui a0 0)
  let d := d.count k cls 2 t.ovf
  let d := d.count k cls 3 t.sat
  let d := d.countNonfinite k cls 0 t.nan
  let d := d.countNonfinite k cls 1 t.inf
  d.addNum 0x1911 1 0 t.sat

/-- R184, R191: an atomic maximum on SMAX and an atomic add on SATCNT of a TSID's local line. -/
def Device.reportLine (d : Device) (k tsid smax sats : Nat) : Device :=
  if tsid < d.num 0x7050 2 (k + 1) then
    let a := storeAddr k (d.lineOff k tsid + 64)
    let d := d.store a 4 (max (d.load a 4) smax)
    d.store (a + 4) 4 ((d.load (a + 4) 4 + sats) % 2 ^ 32)
  else d

/-- R311: an input tile, with its header at `a`, that an earlier step tainted is counted; one written in this step is not (log
entry 18). -/
def Device.taintedRead (d : Device) (h : Hdr) (a : Nat) : Device :=
  if h.taint && !d.health.taintedHdrs.contains a then d.addNum 0x1401 5 0 1 else d

/-- R311: a tile has been written whose header lies at `a`; `now` says that its TAINT was set in this step. -/
def Device.noteTaint (d : Device) (a : Nat) (now : Bool) : Device :=
  if d.health.taintedHdrs.contains a = now then d
  else { d with health := { d.health with
    taintedHdrs := if now then a :: d.health.taintedHdrs else d.health.taintedHdrs.filter (· != a) } }

/-- A tile is copied: its header at `b` is as old as that at `a`. -/
def Device.copyTaint (d : Device) (a b : Nat) : Device := d.noteTaint b (d.health.taintedHdrs.contains a)

end Sys2Proof.Machine
end

