-- ==== Sys2Proof/Machine/CoreOps.lean ====
section
/-! DEFINITION. The operations that core instructions share: issue, the program counter, faults of threads and cores,
local-memory and cluster-store access. -/

namespace Sys2Proof.Machine

/-- The 64-bit value of a sign-extended immediate. -/
def sext32 (imm : BitVec 32) : W64 := imm.signExtend 64

namespace Device

/-- R103, R137: a thread becomes FAULTED: counted, and its group carries the fault. -/
def faultThread (d : Device) (g t code : Nat) : Device :=
  let d := d.raise code 0x7020 (g + 1)
  let d := d.addNum 0x7020 4 (g + 1) 1
  d.modCore g (fun c =>
    let x := c.thread t
    let c := c.setThread t { x with st := .faulted }
    { c with groups := Map.upd {} c.groups x.group (fun y => if y.live then { y with faulted := true } else y) })

/-- The next instruction; beyond 8191 the thread faults with 0x7021 (R140). -/
def advance (d : Device) (g t : Nat) : Device :=
  let x := d.thread g t
  if x.pc = 8191 then d.faultThread g t 0x7021
  else d.setThread g t { x with pc := x.pc + 1 }

/-- R111: how far a thread number lies at or after the scheduler's pointer. -/
def schedDist (ptr t : Nat) : Nat := (t + 1024 - ptr % 1024) % 1024

/-- R111: the scheduler's pick: the READY thread with the lowest number at or after its pointer. -/
def picks (d : Device) (g t : Nat) : Bool :=
  let c := d.core g
  (c.thread t).st == .ready &&
  c.thr.all (fun e => e.2.st != .ready || decide (schedDist c.ptr t ≤ schedDist c.ptr e.1))

/-- R111: the scheduler's pick issues one instruction, counted in CORE_ISSUED, and the pointer moves past it; another thread
issues nothing. -/
def issue (d : Device) (g t : Nat) (f : Device → Thread → Device) : Device :=
  if d.picks g t then
    f ((d.modCore g (fun c => { c with ptr := (t + 1) % 1024 })).addNum 0x7020 2 (g + 1) 1) (d.thread g t)
  else d

/-- An instruction that writes one register and goes on. -/
def writeReg (d : Device) (g t : Nat) (rd : Reg) (v : W64) : Device :=
  (d.setThread g t ((d.thread g t).setReg rd v)).advance g t

/-- R141, R515: what a failed core loses; the event and the request for a restore follow. -/
def failCore (d : Device) (g : Nat) : Device :=
  if (d.core g).failed then d
  else
    let d := d.modCore g (fun c => { c with
      thr := [], slots := [], engq := [], moveq := [], watch := [], groups := [], armed := [], lack := [], again := [],
      failed := true })
    let d := { d with hv := { d.hv with failed := d.hv.failed ++ [(false, g)] } }
    (d.raise 0x8010 0x7020 (g + 1) 0 (d.survArg d.devNo)).askRestore 0x8010

/-- R108: what SECDED finds in a word of local memory read by core `g`. -/
def localEcc (d : Device) (g off : Nat) (ecc : EccRead) : Device :=
  match ecc with
  | .clean => d
  | .corrected =>
    let d := d.raise 0x400D 0x7020 (g + 1) (localAddr g off) 0
    d.modClu (clusterOf g) (fun c => { c with corrected := c.corrected + 1 })
  | .uncorrectable =>
    let bank := off / 64 % 32
    let d := d.raise 0x400E 0x7020 (g + 1) (localAddr g off) 0
    let n := Map.get 0 (d.core g).bankErr bank + 1
    let d := d.modCore g (fun c => { c with bankErr := Map.set 0 c.bankErr bank n })
    if 2 ≤ n then d.failCore g else d

/-- R147: what SECDED finds in a word of cluster store `k`. -/
def storeEcc (d : Device) (k off : Nat) (ecc : EccRead) : Device :=
  match ecc with
  | .clean => d
  | .corrected =>
    let d := d.raise 0x4010 0x7080 (k + 1) (storeAddr k off) 0
    d.modClu k (fun c => { c with corrected := c.corrected + 1 })
  | .uncorrectable => d.raise 0x4011 0x7080 (k + 1) (storeAddr k off) 0

/-- R108, R147: what SECDED finds in the 64-bit word at an SRAM address. A corrected word is good again; an uncorrectable one reads
as zero from then on until it is written. -/
def sramHit (d : Device) (a : Nat) (ecc : EccRead) : Device :=
  let zeroed (d : Device) : Device := if ecc = .uncorrectable then d.store (a / 8 * 8) 8 0 else d
  match d.region a with
  | .localMem g off => (zeroed d).localEcc g off ecc
  | .store k off => (zeroed d).storeEcc k off ecc
  | _ => d

/-- What SECDED finds in the words a command reads, in their order. -/
def sramHits (d : Device) (hits : Hits) : Device := hits.foldl (fun d h => d.sramHit h.1 h.2) d

/-- R30, R31: an access of core `g` past its cluster's store: event 0x4008 with the core, the device-local address and the
store port. -/
def storeMiss (d : Device) (g off : Nat) : Device :=
  d.raise 0x4008 0x7020 (g + 1) (storeAddr (clusterOf g) off) (g % 16)

/-- R140: a bad descriptor: event 0x7022, the operation not performed. -/
def badDesc (d : Device) (g : Nat) : Device := d.raise 0x7022 0x7020 (g + 1)

/-- The header address of a tile payload that the admitted plan places (R148, R342). -/
def headerOf (d : Device) (a : Nat) : Option Nat :=
  match d.adm.facts with
  | none => none
  | some f =>
    match f.placements.find? (fun p => p.tile == 4096 && decide (p.payload ≤ a) && decide (a < p.payload + 4096 * p.count)
        && (a - p.payload) % 4096 == 0) with
    | some p => some (p.header + 16 * ((a - p.payload) / 4096))
    | none => none

/-- A thread waits for a full queue and will issue the same instruction again (R112). -/
def waitQueue (d : Device) (g t : Nat) (q : QWait) : Device :=
  d.setThread g t { d.thread g t with st := .waitQueue q, sinceNs := d.time.nowNs }

/-- The reports of a drain unit go out (R191). -/
def flushReports (d : Device) (g e : Nat) : Device :=
  let rs := Map.get [] (d.core g).reports e
  let d := rs.foldl (fun d r => d.reportLine (clusterOf g) r.tsid r.smax r.sats) d
  d.modCore g (fun c => { c with reports := Map.set [] c.reports e [] })

/-- R191: at a season boundary every drain unit's reports go out. -/
def flushAllReports (d : Device) : Device :=
  d.cores.foldl (fun d c => c.2.reports.foldl (fun d r => d.flushReports c.1 r.1) d) d

end Device

/-- A command whose reads of SRAM SECDED checks: what it finds comes first, then the command's own effect on the words as they
then read. -/
def State.runHits (s : State) (hits : Hits) (f : Device → Device) : Out := s.run (fun d => f (d.sramHits hits))

/-- The same for a core instruction: one that its scheduler does not pick reads nothing. -/
def State.issueHits (s : State) (g t : Nat) (hits : Hits) (f : Device → Device) : Out :=
  s.run (fun d => f (if d.picks g t then d.sramHits hits else d))

end Sys2Proof.Machine
end

