-- ==== Sys2Proof/Machine/Noc.lean ====
section
/-! DEFINITION. The ways through the package: cluster-store ports (R12, R13), NoC planes (R16), where blocks attach (R17), the
die-to-die edges and the routes between dies (R19, R20), XY routing and virtual channels (R371), hub dies (R33). -/

namespace Sys2Proof.Machine

/-! ### Cluster-store ports (R12, R13) -/

/-- The units of a cluster that ask the store's banks. -/
inductive StoreUnit where
  | core (n : Fin 16)
  | se (n : Fin 4)
  | converter | rotation | reduction | mask | predictor | tracker | rngBank | tableBuilder | monitor
  deriving DecidableEq, Repr

/-- R12: the port of a unit; R13: its place in the rotation behind that port. -/
def storePort : StoreUnit → Nat × Nat
  | .core n => (n, 0)
  | .se n => (16 + n, 0)
  | .converter => (20, 0)
  | .rotation => (21, 0)
  | .reduction => (22, 0)
  | .mask => (23, 0)
  | .predictor => (23, 1)
  | .tracker => (24, 0)
  | .rngBank => (24, 1)
  | .tableBuilder => (24, 2)
  | .monitor => (24, 3)

/-- R13: how many engines take turns behind a store port. -/
def storeTurns (port : Nat) : Nat := if port = 23 then 2 else if port = 24 then 4 else 1

/-! ### Dies, edges, attachments (R17, R19, R20) -/

/-- The dies of the package: compute dies 0 to 3, hub dies 0 and 1. -/
inductive DieId where
  | compute (d : Die)
  | hub (h : Fin 2)
  deriving DecidableEq, Repr

/-- R19: the ends of an edge. -/
def edgeEnds : Fin 8 → DieId × DieId
  | 0 => (.hub 0, .compute 0)
  | 1 => (.hub 0, .compute 1)
  | 2 => (.hub 1, .compute 2)
  | 3 => (.hub 1, .compute 3)
  | 4 => (.compute 0, .compute 1)
  | 5 => (.compute 2, .compute 3)
  | 6 => (.compute 0, .compute 2)
  | 7 => (.compute 1, .compute 3)

/-- The die at the other end of an edge, for a die at one of its ends. -/
def edgeFar (e : Fin 8) (a : DieId) : DieId := if (edgeEnds e).1 = a then (edgeEnds e).2 else (edgeEnds e).1

/-- R20: the edges that traffic from one die to another takes, in order. -/
def dieRoute : DieId → DieId → List (Fin 8)
  | .compute a, .compute b =>
    if a = b then []
    else match a.val, b.val with
      | 0, 1 => [4] | 1, 0 => [4] | 2, 3 => [5] | 3, 2 => [5]
      | 0, 2 => [6] | 2, 0 => [6] | 1, 3 => [7] | 3, 1 => [7]
      | 0, _ => [4, 7] | 3, _ => [5, 6] | 1, _ => [4, 6] | _, _ => [5, 7]
  | .hub h, .compute d =>
    if h = 0 then (match d.val with | 0 => [0] | 1 => [1] | 2 => [0, 6] | _ => [1, 7])
    else (match d.val with | 0 => [2, 6] | 1 => [3, 7] | 2 => [2] | _ => [3])
  | .compute d, .hub h =>
    if h = 0 then (match d.val with | 0 => [0] | 1 => [1] | 2 => [6, 0] | _ => [7, 1])
    else (match d.val with | 0 => [6, 2] | 1 => [7, 3] | 2 => [2] | _ => [3])
  | .hub a, .hub b => if a = b then [] else if a = 0 then [0, 6, 2] else [3, 7, 1]

/-- The outputs of a router: N, E, S, W, and the local L0 (cluster) and L1 (HBM4 PHY). -/
def portN : Fin 6 := 0
def portE : Fin 6 := 1
def portS : Fin 6 := 2
def portW : Fin 6 := 3
def portL0 : Fin 6 := 4
def portL1 : Fin 6 := 5

/-- R17: the router of a stack's PHY, in the frame of its die. -/
def phyRouter (h : Stack) : Fin 25 :=
  match h.val % 4 with
  | 0 => 0
  | 1 => 5
  | 2 => 15
  | _ => 20

/-- R17: the side on which an edge meets a compute die: E0 to E3 at adapter N, E4 and E5 at E, E6 and E7 at S. -/
def edgeSide (e : Fin 8) : Fin 6 := if e.val < 4 then portN else if e.val < 6 then portE else portS

/-- R17: the three routers of an adapter. -/
def adapterRouters (side : Fin 6) : List (Fin 25) :=
  if side = portN then [1, 2, 3] else if side = portE then [9, 14, 19] else [21, 22, 23]

/-- The router of an adapter that a packet from or for router `r` uses: the one in its own column, or row at adapter E, as far
as the three reach (DESIGN CHOICE, log entry 31). -/
def adapterAt (side : Fin 6) (r : Fin 25) : Fin 25 :=
  let x := if side = portE then r.val / 5 else r.val % 5
  (adapterRouters side).getD (max 1 (min 3 x) - 1) 0

/-! ### XY routes on a die (R371) -/

/-- R371: the router outputs from router `a` to router `b` in the die's own frame, X first and then Y. -/
def xyHops (a b : Nat) : List (Nat × Nat) :=
  let r := a / 5
  let c := a % 5
  let r' := b / 5
  let c' := b % 5
  (if c ≤ c' then (List.range (c' - c)).map (fun i => (5 * r + c + i, 1))
   else (List.range (c - c')).map (fun i => (5 * r + (c - i), 3))) ++
  (if r ≤ r' then (List.range (r' - r)).map (fun i => (5 * (r + i) + c', 2))
   else (List.range (r - r')).map (fun i => (5 * (r - i) + c', 0)))

/-- One passage of an arbiter by a packet: the arbiter and the requester it is there: at a router output the input it comes by
(numbered as the outputs), class and VC; the plane, class and VC at an edge; the input and class at a hub crossbar. -/
abbrev Hop := Arb × Nat

/-- R364: the requester of a router output: the five other inputs, in order, by class and VC. -/
def nocReq (out inp : Nat) (rsp : Bool) (vc : Nat) : Nat := 4 * (if inp < out then inp else inp - 1) + 2 * b2n rsp + vc

/-- The input at which what leaves a neighbour by output `o` arrives. -/
def facing (o : Nat) : Nat := (o + 2) % 4

/-- The hops on one die's plane: in at input `inp` of router `a`, out by output `out` of router `b`. -/
def dieHops (die : Die) (pl : Fin 4) (rsp : Bool) (vc : Nat) (a b : Fin 25) (inp : Nat) (out : Fin 6) : List Hop :=
  let hs := xyHops a b ++ [(b.val, out.val)]
  let ins := inp :: hs.map (fun h => facing h.2)
  (hs.zip ins).map (fun h => (Arb.noc die pl (Fin.ofNat 25 h.1.1) (Fin.ofNat 6 h.1.2), nocReq h.1.2 h.2 rsp vc))

/-! ### Whole paths -/

/-- Where a request starts or ends: a cluster at a position, a stack's PHY, a hub die. -/
inductive NocEnd where
  | cluster (d : Die) (p : Fin 25)
  | phy (h : Stack)
  | hub (h : Fin 2)
  deriving DecidableEq, Repr

namespace NocEnd

def die : NocEnd → DieId
  | .cluster d _ => .compute d
  | .phy h => .compute (Fin.ofNat 4 (h.val / 4))
  | .hub h => .hub h

/-- The router of an end, and the local output that leads to it; a hub die has neither. -/
def router : NocEnd → Fin 25
  | .cluster _ p => p
  | .phy h => phyRouter h
  | .hub _ => 0

def localPort : NocEnd → Fin 6
  | .phy _ => portL1
  | _ => portL0

end NocEnd

/-- R33, R364: the hub crossbar output of an edge: the hub die's lower-numbered edge is output 0. Outputs 2 to 4 lead to the
hub-core complex, the Harvest engine and the Flisol router. -/
def hubPort (e : Fin 8) : Fin 5 := Fin.ofNat 5 (e.val % 2)

/-- From compute die `d` at router `a`, come by input `inp`, over the edges that are left, to the end. VC1 from the first edge
on (R371). -/
def pathFrom (pl : Fin 4) (rsp : Bool) (t : NocEnd) : List (Fin 8) → DieId → Fin 25 → Nat → Nat → List Hop
  | [], .compute d, a, inp, vc => dieHops d pl rsp vc a t.router inp t.localPort
  | [], .hub _, _, _, _ => []
  | e :: es, .compute d, a, inp, vc =>
    let side := edgeSide e
    let b := adapterAt side a
    let out := decide ((edgeEnds e).1 = .compute d)
    dieHops d pl rsp vc a b inp side ++ [(Arb.edge e out, 4 * pl.val + 2 * b2n rsp + vc)] ++
      pathFrom pl rsp t es (edgeFar e (.compute d)) b side.val 1
  | e :: es, .hub h, _, inp, _ =>
    let b := adapterAt (edgeSide e) t.router
    [(Arb.hub h (hubPort e), 2 * inp + b2n rsp), (Arb.edge e true, 4 * pl.val + 2 * b2n rsp + 1)] ++
      pathFrom pl rsp t es (edgeFar e (.hub h)) b portN.val 1

/-- R371, R20: the arbiters that a packet passes from one end to another on a plane; `inp` is the hub crossbar input of one
that starts on a hub die. -/
def nocPath (pl : Fin 4) (rsp : Bool) (s t : NocEnd) (inp : Nat := 2) : List Hop :=
  match s with
  | .hub _ => pathFrom pl rsp t (dieRoute s.die t.die) s.die 0 inp 0
  | _ => pathFrom pl rsp t (dieRoute s.die t.die) s.die s.router s.localPort.val 0

/-- R16: the plane of a request: the tile index modulo 4 toward a cluster store, else the stream engine's number. -/
def planeOf (toStore : Bool) (se a : Nat) : Fin 4 := Fin.ofNat 4 (if toStore then a / 4096 else se)

/-- The number of an arbiter. -/
def arbKey : Arb → Nat
  | .bank k b => 64 * k.val + b.val
  | .localMem g b => 1 * 2 ^ 20 + 32 * g.val + b.val
  | .rng k => 2 * 2 ^ 20 + k.val
  | .noc die pl r o => 3 * 2 ^ 20 + ((die.val * 4 + pl.val) * 25 + r.val) * 6 + o.val
  | .inject k pl => 4 * 2 ^ 20 + 4 * k.val + pl.val
  | .edge e o => 5 * 2 ^ 20 + 2 * e.val + b2n o
  | .hub h o => 6 * 2 ^ 20 + 5 * h.val + o.val
  | .hbm h ch => 7 * 2 ^ 20 + 32 * h.val + ch.val
  | .ddr c => 8 * 2 ^ 20 + c.val
  | .flisolFwd p => 9 * 2 ^ 20 + p.val
  | .flisolLoc p => 10 * 2 ^ 20 + p.val

/-- R364, R404: the requesters wired to an arbiter. -/
def arbR : Arb → Nat
  | .bank .. => 25
  | .localMem .. => 12
  | .rng _ => 147
  | .noc .. => 20
  | .inject .. => 4
  | .edge .. => 16
  | .hub .. => 10
  | .hbm .. => 6
  | .ddr _ => 7
  | .flisolFwd p => if portRail p = 0 then 20 else 22
  | .flisolLoc _ => 2

/-- R33: the hub die of a DDR5 channel, of a Flisol port and of a hub core. -/
def ddrHub (c : Nat) : Fin 2 := Fin.ofNat 2 (c / 6)
def portHub (p : Nat) : Fin 2 := Fin.ofNat 2 (p / 6)
def hubCoreDie (n : Nat) : Fin 2 := Fin.ofNat 2 (n / 16)

namespace Device

def arb (d : Device) (key : Nat) : ArbS := Map.get {} d.bg.arbs key
def setArb (d : Device) (key : Nat) (x : ArbS) : Device := { d with bg := { d.bg with arbs := Map.set {} d.bg.arbs key x } }

/-- A request waits at an arbiter: of engine `eng` behind its port. -/
def arbWaits (d : Device) (h : Hop) (eng : Nat := 0) : Bool :=
  let x := Map.get {} (d.arb (arbKey h.1)).inputs h.2
  (x.cls.isSome && x.eng == eng) || x.waits.any (fun w => w.1 == eng)

/-- R8, R24: where a logical cluster sits. -/
def clusterEnd (d : Device) (k : Nat) : NocEnd := .cluster (Fin.ofNat 4 (k / 24)) (Fin.ofNat 25 (d.num 0x7000 1 (k + 1)))

/-- R16, R373, R377: the end at which an address of this device lies, and the arbiter that serves it: a bank behind the port of
the stream engine of the plane, a channel scheduler; no hop where it reaches nothing. -/
def addrEnd (d : Device) (a : Nat) : Option NocEnd :=
  match d.region a with
  | .store k _ => some (d.clusterEnd k)
  | .hbm h => some (.phy (Fin.ofNat 16 h))
  | .ddr _ => some (.hub (ddrHub (ddrChan a)))
  | _ => none

/-- The last arbiter of a request to an address, and the requester it is there; `inp` is the crossbar input of a hub die. -/
def addrArb (d : Device) (pl : Fin 4) (inp a : Nat) : Option Hop :=
  match d.region a with
  | .store k off => some (Arb.bank (Fin.ofNat 96 k) (Fin.ofNat 64 (off / 32)), 16 + pl.val)
  | .hbm h => some (Arb.hbm (Fin.ofNat 16 h) (Fin.ofNat 32 (a % 0x1800000000 / 256)), pl.val)
  | .ddr _ => some (Arb.ddr (Fin.ofNat 12 (ddrChan a)), inp)
  | _ => none

/-- R156: a stream engine's request to an address: nothing but its own port for the own store, else injection, the way there
and the arbiter at its end. -/
def requestPath (d : Device) (se a : Nat) : List Hop :=
  let k := se / 4
  match d.region a with
  | .localMem g off => [(Arb.localMem (Fin.ofNat 1536 g) (Fin.ofNat 32 (off / 64)), 10)]
  | .store k' off => if k' = k then [(Arb.bank (Fin.ofNat 96 k) (Fin.ofNat 64 (off / 32)), 16 + se % 4)]
    else
      let pl := planeOf true se a
      (Arb.inject (Fin.ofNat 96 k) pl, se % 4) :: nocPath pl false (d.clusterEnd k) (d.clusterEnd k') ++
        (d.addrArb pl 0 a).toList
  | .nothing => []
  | _ =>
    let pl := planeOf false se a
    match d.addrEnd a with
    | some t =>
      let inp := ((dieRoute (d.clusterEnd k).die t.die).getLastD 0).val % 2
      (Arb.inject (Fin.ofNat 96 k) pl, se % 4) :: nocPath pl false (d.clusterEnd k) t ++ (d.addrArb pl inp a).toList
    | none => []

/-- R16: the response comes back on the plane of its request. -/
def responsePath (d : Device) (se a : Nat) : List Hop :=
  let k := se / 4
  match d.region a with
  | .store k' _ => if k' = k then [] else nocPath (planeOf true se a) true (d.clusterEnd k') (d.clusterEnd k)
  | .localMem .. => []
  | _ => match d.addrEnd a with
    | some t => nocPath (planeOf false se a) true t (d.clusterEnd k) 0
    | none => []

/-- R401: the rail of a request to position `pos`. -/
def railTo (d : Device) (pos a : Nat) : Nat :=
  let m := (d.routeMode pos).1
  if m = 1 ∨ m = 3 then 0 else if m = 2 then 1 else b2n (bitOf a 12)

/-- R33, R156: a stream engine's request to another device: injection, the way to the hub die of the rail's ports, the crossbar output
to its Flisol router. -/
def farPath (d : Device) (se pos a : Nat) : List Hop :=
  let h := portHub (6 * d.railTo pos a)
  let pl := planeOf false (se % 4) a
  let home := d.clusterEnd (se / 4)
  (Arb.inject (Fin.ofNat 96 (se / 4)) pl, se % 4) :: nocPath pl false home (.hub h) ++
    [(Arb.hub h 4, 2 * (((dieRoute home.die (.hub h)).getLastD 0).val % 2))]

end Device

end Sys2Proof.Machine
end

