-- ==== Sys2Proof/Machine/Masks.lean ====
section
/-! DEFINITION. The domains in which the requesters of arbiters lie, and the mask of R361 where one of them leaves on. -/

namespace Sys2Proof.Machine

/-! ### Domain instances (R500) -/

def pdCl (k : Nat) : Nat := 1 + k
def pdCo (g : Nat) : Nat := 97 + g
def pdH (h : Nat) : Nat := 1633 + h
def pdP (p : Nat) : Nat := 1649 + p
def pdD (i : Nat) : Nat := 1661 + i
def pdF (die : Nat) : Nat := 1663 + die
def pdMgmt : Nat := 1667

/-- R33: an edge's adapters lie in the domain of a compute die: of the one at its end that sends, and at a hub edge of its only
compute die. -/
def edgeDomain (e : Fin 8) (outward : Bool) : Nat :=
  match edgeEnds e with
  | (.hub _, .compute d) => pdF d
  | (.compute a, .compute b) => pdF (if outward then a else b)
  | (.compute a, .hub _) => pdF a
  | (.hub _, .hub _) => pdF 0

/-- R33, R364: the domain of an input of a hub crossbar, or of a DDR5 channel behind it: the hub die's two edges lie in domains of
compute dies; the hub dies themselves are always on. -/
def hubInput (h i : Nat) : List Nat := if i < 2 then [pdF (2 * h + i)] else []

/-- The domains that a requester needs on: its own, and for a Flisol output that of the port. R404: requester 4 q and on of FORWARDED is the
q-th other port of the rail; the bounce buffers lie on the hub die. -/
def arbDomains (a : Arb) (port : Nat) : List Nat :=
  match a with
  | .bank k _ => [if port < 16 then pdCo (16 * k + port) else pdCl k]
  | .localMem g _ => [if port = 10 then pdCl (g / 16) else pdCo g]
  | .rng k => [if port < 128 then pdCo (16 * k + port / 8) else if port < 144 then pdCo (16 * k + port - 128) else pdCl k]
  | .noc die _ _ _ => [pdF die]
  | .inject k _ => [pdCl k]
  | .edge e o => [edgeDomain e o]
  | .hub h _ => hubInput h (port / 2)
  | .hbm h _ => [if port < 4 then pdF (h / 4) else pdH h]
  | .ddr c => if port < 5 then hubInput (ddrHub c) port else [pdD (c / 6)]
  | .flisolFwd p =>
    let others := ((List.range 6).map (fun i => 6 * portRail p + i)).filter (· != p.val)
    pdP p :: (if port < 20 then [pdP (others.getD (port / 4) p)] else [])
  | .flisolLoc p => [pdP p]

/-- The arbiter of a number. -/
def arbOfKey (key : Nat) : Arb :=
  let r := key % 2 ^ 20
  match key / 2 ^ 20 with
  | 0 => .bank (Fin.ofNat 96 (r / 64)) (Fin.ofNat 64 r)
  | 1 => .localMem (Fin.ofNat 1536 (r / 32)) (Fin.ofNat 32 r)
  | 2 => .rng (Fin.ofNat 96 r)
  | 3 => .noc (Fin.ofNat 4 (r / 600)) (Fin.ofNat 4 (r / 150)) (Fin.ofNat 25 (r / 6)) (Fin.ofNat 6 r)
  | 4 => .inject (Fin.ofNat 96 (r / 4)) (Fin.ofNat 4 r)
  | 5 => .edge (Fin.ofNat 8 (r / 2)) (r % 2 == 1)
  | 6 => .hub (Fin.ofNat 2 (r / 5)) (Fin.ofNat 5 r)
  | 7 => .hbm (Fin.ofNat 16 (r / 32)) (Fin.ofNat 32 r)
  | 8 => .ddr (Fin.ofNat 12 r)
  | 9 => .flisolFwd (Fin.ofNat 12 r)
  | _ => .flisolLoc (Fin.ofNat 12 r)

/-- R361: a domain leaves on: whatever its requesters have pending is discarded, at their arbiters and behind the ports of a store. -/
def Device.dropRequests (d : Device) (i : Nat) : Device :=
  let drop (key : Nat) (s : ArbS) : ArbS := { s with inputs := s.inputs.filter (fun e => !(arbDomains (arbOfKey key) e.1).contains i) }
  { d with bg := { d.bg with
      arbs := d.bg.arbs.foldl (fun m e => Map.set {} m e.1 (drop e.1 e.2)) d.bg.arbs
      storePorts := d.bg.storePorts.filter (fun e => !(arbDomains (.bank (Fin.ofNat 96 (e.1 / 32)) 0) (e.1 % 32)).contains i) } }

end Sys2Proof.Machine
end

