-- ==== Sys2Proof/Machine/SeqOps.lean ====
section
/-! DEFINITION. The operations that micro-sequencer instructions share (R168, R170, R173, R174). -/

namespace Sys2Proof.Machine

/-- R168: a0 reads as 0 and ignores writes. -/
def SqS.reg (x : SqS) (r : Reg) : W32 := if r.val = 0 then 0 else Map.get 0 x.regs r.val
def SqS.setReg (x : SqS) (r : Reg) (v : W32) : SqS := if r.val = 0 then x else { x with regs := Map.set 0 x.regs r.val v }

/-- R178, R315: the number of a micro-sequencer. -/
def trackerSq (k : Nat) : Nat := 384 + k
def maskSq (k : Nat) : Nat := 480 + k
def monitorSq (k : Nat) : Nat := 576 + k
def deviceSq : Nat := 672

/-- R178, R315: the cluster whose store an instance works on; the device monitor has a store of its own. -/
def sqCluster (q : Nat) : Nat := if q < 384 then q / 4 else if q < 480 then q - 384 else if q < 576 then q - 480 else q - 576

namespace Device

/-- Wait in a state at the present instruction. -/
def seqWait (d : Device) (q : Nat) (st : SqState) : Device := d.setSq q { d.sq q with st := st }

/-- R175: the program counter stands on a word of the instance's image. A monitor without an image of its own runs the default
program (R319), whose words the manual does not give: its operations come as commands (log entry 68). -/
def seqInside (d : Device) (q : Nat) : Bool :=
  let n := (d.domOf 0x7040 1 (q + 1)).length
  decide (4 * (d.sq q).pc.toNat < n) || (decide (576 ≤ q) && n == 0)

/-- R168: a running instance issues; any other does nothing. A word beyond the image reads as DONE (R175). -/
def seqIssue (d : Device) (q : Nat) (f : Device → SqS → Device) : Device :=
  match (d.sq q).st with
  | .running => if d.seqInside q then f d (d.sq q) else d.seqWait q .idle
  | _ => d

/-- A micro-sequencer instruction whose reads SECDED checks: an instance that does not issue reads nothing. -/
def seqHits (d : Device) (q : Nat) (hits : Hits) : Device :=
  if (d.sq q).st == .running && d.seqInside q then d.sramHits hits else d

/-- The next instruction; the 8-bit counter wraps. -/
def seqNext (d : Device) (q : Nat) : Device := d.setSq q { d.sq q with pc := (d.sq q).pc + 1 }

/-- Write one register and go on. -/
def seqWrite (d : Device) (q : Nat) (rd : Reg) (v : W32) : Device := (d.setSq q ((d.sq q).setReg rd v)).seqNext q

/-- R174: event 0x7023, the run stopped at that instruction, its pending entries cleared. -/
def seqFault (d : Device) (q : Nat) : Device :=
  (d.setSq q { d.sq q with st := .idle, pend := 0 }).raise 0x7023 0x7040 (q + 1)

/-- R172, R173: a trigger entry fires; one that is already pending raises 0x7024. -/
def fireEntry (d : Device) (q n : Nat) : Device :=
  let x := d.sq q
  if x.pend.getLsbD n then d.raise 0x7024 0x7040 (q + 1)
  else d.setSq q { x with pend := x.pend ||| BitVec.ofNat 8 (2 ^ n) }

/-- R319: the default program of a monitor starts at word 0, a cluster's with Winter, the device's at the health stamp. -/
def defaultTrigger (d : Device) (q n : Nat) : Nat × Nat × Nat :=
  if n ≠ 0 then (0, 0, 0) else if q = deviceSq then (2, 0, d.num 0x1210 4) else (1, 0, 3)

/-- R172: KIND, ENTRY and ARG of a trigger entry. A monitor without a program and a table of its own has those of R319. -/
def trigger (d : Device) (q n : Nat) : Nat × Nat × Nat :=
  let t := d.domOf 0x7040 2 (q + 1)
  if 576 ≤ q && (d.domOf 0x7040 1 (q + 1)).isEmpty && t.all (· == 0) then d.defaultTrigger q n
  else (fieldB t (8 * n) 1, fieldB t (8 * n + 1) 1, fieldB t (8 * n + 4) 4)

/-- R168, R175: a program or trigger table has been loaded: a program leaves its instance idle with registers of 0, and EVENT
entries follow what is raised from now on. -/
def seqLoaded (d : Device) (q : Nat) (program : Bool) : Device :=
  let seen := (List.range 8).foldl (fun m n => Map.set 0 m n (Map.get 0 d.evt.raised ((d.trigger q n).2.2 % 65536))) ([] : Map Nat)
  d.setSq q { (if program then {} else d.sq q) with seen := seen }

end Device

end Sys2Proof.Machine
end

