-- ==== Sys2Proof/Machine/Stream.lean ====
section
/-! DEFINITION. Movers (chapter 05): the moves of stream engines and of cores' load units, the check of a tile on its way
into a frame (R153 to R155, R253 to R255), scales and escapes (R187, R215), carousel passes (R165). -/

namespace Sys2Proof.Machine

/-! ### Move queues -/

def moverCluster : Mover → Nat
  | .se s => s / 4
  | .lu g => g / 16

/-- Unit array and instance that an event of the mover records, and its cluster-store port (R12). -/
def moverUnit : Mover → Nat × Nat × Nat
  | .se s => (0x7040, s + 1, 16 + s % 4)
  | .lu g => (0x7020, g + 1, g % 16)

namespace Device

def mq (d : Device) : Mover → List MoveEnt
  | .se s => d.moves s
  | .lu g => (d.core g).moveq

def setMq (d : Device) (m : Mover) (q : List MoveEnt) : Device :=
  match m with
  | .se s => d.setMoves s q
  | .lu g => d.modCore g (fun c => { c with moveq := q })

/-- Change entry `i` of a move queue. -/
def modEnt (d : Device) (m : Mover) (i : Nat) (f : MoveEnt → MoveEnt) : Device :=
  let q := d.mq m
  d.setMq m (q.set i (f (q.getD i {})))

/-- R31 at a mover. -/
def moverMiss (d : Device) (m : Mover) (a : Nat) : Device :=
  let u := moverUnit m
  d.reachNothing u.1 u.2.1 a u.2.2

/-- R104, R157: the core and frame that an address in a core-local-memory window names. -/
def frameOfAddr (d : Device) (k a : Nat) : Option (Nat × Nat) :=
  match d.resolve a with
  | .here low =>
    match d.region low with
    | .localMem g off => if g / 16 = k && off % 4096 = 0 && off / 4096 < 240 then some (g, off / 4096) else none
    | _ => none
  | _ => none

/-- The source and destination frames of tile `j` of an entry (R157); the side of a TLD or TST that does not reach the store is no
frame, whatever its address (R31). -/
def srcFrame (d : Device) (m : Mover) (e : MoveEnt) (j : Nat) : Option (Nat × Nat) :=
  if e.miss && !e.outward then none else d.frameOfAddr (moverCluster m) (e.src + j * e.sstride)
def dstFrame (d : Device) (m : Mover) (e : MoveEnt) (j : Nat) : Option (Nat × Nat) :=
  if e.miss && e.outward then none
  else (d.frameOfAddr (moverCluster m) e.dst).map (fun gf => (gf.1, (gf.2 + (if e.dring = 0 then 0 else j % e.dring)) % 240))

/-! ### Reading -/

/-- Read `n` bytes for tile `j`: the bytes when they are here, zeros where the access reaches nothing (R31, R32), a request
when they lie at a peer; the TAGs of the requests sent. -/
def fetch (d : Device) (m : Mover) (a n : Nat) (isHdr : Bool) : Device × List Byte × List Nat :=
  match d.resolve a with
  | .here low =>
    if d.seReach (moverCluster m) low n then (d, d.bytes low n, [])
    else (d.moverMiss m low, List.replicate n 0, [])
  | .remote p low =>
    if crosses low n then (d.moverMiss m low, List.replicate n 0, [])
    else (d.request p low { mover := m, isWrite := false, isHdr := isHdr, total := n, left := n } [], [], [d.newTag])
  | .noMember =>
    let u := moverUnit m
    (d.raise 0x5008 u.1 u.2.1 0xF a, List.replicate n 0, [])
  | .bad => (d.moverMiss m a, List.replicate n 0, [])

/-- R252: how much of a payload a mover asks for at first: for a frame the beats that hold it, as far as header and directory lie here;
the first beat of a payload at a peer; all of it for any other destination. -/
def firstBytes (d : Device) (m : Mover) (e : MoveEnt) (j : Nat) : Nat :=
  match d.dstFrame m e j, d.resolve (e.src + j * e.sstride), d.resolve (e.srch + 16 * j * e.sstride / 4096) with
  | none, _, _ => 4096
  | some _, .remote .., _ => 128
  | some _, .here a, .here h => beatBytes (d.bytes a 128) (d.bytes h 16)
  | some _, _, _ => 4096

/-- A payload to its 4,096 bytes: what was not read is zero (R252). -/
def padTile (p : List Byte) : List Byte := p ++ List.replicate (4096 - p.length) 0

/-- R252: header and first beat are here: the beats that hold the rest are asked for; the payload is whole once none is missing. -/
def askRest (d : Device) (m : Mover) (e : MoveEnt) (fl : InFlight) : Device × InFlight :=
  if !fl.await.isEmpty then (d, fl)
  else if fl.more then
    let n := beatBytes fl.payload fl.header - fl.payload.length
    if n = 0 then (d, { fl with payload := padTile fl.payload, more := false })
    else
      let x := d.fetch m (e.src + fl.k * e.sstride + fl.payload.length) n false
      let p := fl.payload ++ x.2.1
      (x.1, { fl with payload := if x.2.2.isEmpty then padTile p else p, await := x.2.2, more := false })
  else (d, { fl with payload := match e.kind with | .tiles => padTile fl.payload | _ => fl.payload })

/-- Read tile `j` of an entry with its header (R157), the header first (R252); a byte move reads its bytes. -/
def readTile (d : Device) (m : Mover) (e : MoveEnt) (j : Nat) (refetch : Bool) : Device × InFlight :=
  match e.kind with
  | .bytes =>
    let x := d.fetch m e.src e.nbytes false
    (x.1, { k := j, payload := x.2.1, refetch := refetch, await := x.2.2 })
  | _ =>
    match d.srcFrame m e j with
    | some (g, f) =>
      let hb := d.bytes (localAddr g (hdrOff f)) 16
      (d, { k := j, payload := leftPayload (d.bytes (localAddr g (frameOff f)) 4096) hb, header := hb, refetch := refetch })
    | none =>
      if e.miss then
        (d.moverMiss m e.src,
          { k := j, payload := List.replicate 4096 0, header := List.replicate 16 0, refetch := refetch })
      else
        let n := d.firstBytes m e j
        let y := d.fetch m (e.srch + 16 * j * e.sstride / 4096) 16 true
        let x := y.1.fetch m (e.src + j * e.sstride) n false
        (x.1, { k := j, payload := if x.2.2.isEmpty then padTile x.2.1 else x.2.1, header := y.2.1, refetch := refetch,
                await := y.2.2 ++ x.2.2, more := !x.2.2.isEmpty && n != 4096 })

/-! ### Writing -/

/-- Pieces of at most 512 bytes (R391). -/
def pieces : Nat → List Byte → List (List Byte)
  | 0, _ => []
  | n + 1, b => if b.isEmpty then [] else b.take 512 :: pieces n (b.drop 512)

/-- Write bytes that are not a frame: here, or as WR packets to a peer; the number of writes to be acknowledged. -/
def emit (d : Device) (m : Mover) (a : Nat) (bs : List Byte) (isHdr : Bool) : Device × Nat :=
  match d.resolve a with
  | .here low =>
    if d.seReach (moverCluster m) low bs.length then (d.putW low bs, 0) else (d.moverMiss m low, 0)
  | .remote p low =>
    if crosses low bs.length then (d.moverMiss m low, 0)
    else
      let ps := pieces 8 bs
      (ps.zipIdx.foldl (fun d x =>
        d.request p (low + 512 * x.2) { mover := m, isWrite := true, isHdr := isHdr, total := 1, left := 1 } x.1) d,
       ps.length)
  | .noMember =>
    let u := moverUnit m
    (d.raise 0x5008 u.1 u.2.1 0xF a, 0)
  | .bad => (d.moverMiss m a, 0)

end Device

/-! ### Checks (R153, R69, R253) -/

inductive TileFail where
  | crc | header | overfull | indexRange
  deriving DecidableEq, Repr

/-- The first check that a payload and its header fail. -/
def tileCheck (p hb : List Byte) : Option TileFail :=
  let h := parseHdr hb
  if !crcOk p hb then some .crc
  else if unreadable h then some .header
  else if h.comp then
    match compCheck p (fmtBits h.fmt h.width) (kOf h.k) with
    | .good => none
    | .overfull => some .overfull
    | .indexRange => some .indexRange
  else none

/-- A payload whose sub-blocks are transposed (R121, R127). -/
def transposeTile (h : Hdr) (p : List Byte) : List Byte :=
  let cb := fmtBits h.fmt h.width
  (List.range (subCount cb)).flatMap (fun s => packElems cb (transpose16 0 (tileSub h p s)))

/-! ### Escapes (R213, R215) -/

inductive EscEntry where
  | none
  | outliers (ws : List Nat)
  | fallback (a : Nat)
  | bad
  deriving DecidableEq, Repr

/-- The entry of one sub-block: 16 bytes. -/
def escEntry (b : List Byte) : EscEntry :=
  let ws := (List.range 4).map (fun i => fieldB b (4 * i) 4)
  if ws.all (· == 0) && b.all (· == 0) then .none
  else if ws.headD 0 = 0x8000 then .fallback (fieldB b 8 8)
  else if ws.all (fun w => w == 0 || bitsOf w 15 8 == 1) then .outliers (ws.filter (· != 0))
  else .bad

namespace Device

/-- Side units of a core that no frame holds (R186, R215). -/
def freeUnits (d : Device) (g : Nat) : List Nat :=
  let used := (d.core g).frames.flatMap (fun kv => kv.2.units.map (·.1))
  (List.range 32).filter (fun u => !used.contains u)

/-- Bytes of the own device on a mover's side path; zeros with event 0x4008 where it reaches nothing. -/
def sideBytes (d : Device) (m : Mover) (a n : Nat) : Device × List Byte :=
  let x := d.fetch m a n false
  (x.1, if x.2.1.isEmpty then List.replicate n 0 else x.2.1)

/-- R187: the code slot of a block-scaled tile: δ = Eb − F of each block, clamped into 0 to 7 with event 0x2023. -/
def writeCodes (d : Device) (m : Mover) (g f : Nat) (h : Hdr) (l : Line) : Device :=
  let nb := tileElems (fmtBits h.fmt h.width) / 32
  let x := if l.ok then d.sideBytes m (l.bsa + h.bsi) nb else (d, [])
  let ds : List Int := if l.ok then x.2.map (fun b => (b.toNat : Int) - l.f) else List.replicate nb 0
  let d := x.1.put (localAddr g (codeOff f)) (packElems 4 (ds.map (fun z => (max 0 (min 7 z)).toNat)))
  if ds.any (fun z => decide (z < 0) || decide (7 < z)) then d.raise 0x2023 0x7020 (g + 1) (localAddr g (frameOff f)) 0
  else d

/-- R215: the escapes of a tile go into side units; none while too few units are free. Answers the units and the number of
outlier words. -/
def writeEscapes (d : Device) (m : Mover) (g f : Nat) (h : Hdr) (l : Line) : Option (Device × List (Nat × Option Nat) × Nat) :=
  let cb := fmtBits h.fmt h.width
  let n := subCount cb
  let t := h.bsi / (tileElems cb / 32)
  let x := d.sideBytes m (l.esa + 16 * n * t) (16 * n)
  let es := (List.range n).map (fun s => escEntry (sliceB x.2 (16 * s) 16))
  let words := es.zipIdx.flatMap (fun e => match e.1 with
    | .outliers ws => ws.map (fun w => w % 256 + e.2 * 256 + (w >>> 16) * 65536)
    | _ => [])
  let falls := es.zipIdx.filterMap (fun e => match e.1 with
    | .fallback a => some (e.2, a)
    | _ => none)
  let need := (if words.isEmpty then 0 else 1) + falls.length
  let free := x.1.freeUnits g
  if free.length < need then none
  else
    let d := if es.any (· == .bad) then x.1.raise 0x2107 0x7020 (g + 1) (localAddr g (frameOff f)) h.tsid else x.1
    let ow := if words.isEmpty then [] else [(free.headD 0, (none : Option Nat))]
    let d := if words.isEmpty then d
      else d.put (localAddr g (unitOff (free.headD 0))) ((words.flatMap (leBytes 4) ++ List.replicate 512 0).take 512)
    let fu := (free.drop ow.length).zip falls
    let d := fu.foldl (fun d y =>
      let z := d.sideBytes m y.2.2 512
      z.1.put (localAddr g (unitOff y.1)) z.2) d
    some (d, ow ++ fu.map (fun y => (y.1, some y.2.1)), words.length)

/-- What reaches a frame of core `g`: bytes, code slot, escapes; the frame becomes FULL. A poisoned frame reads as zeros
without block scales (R154); none while side units are missing. -/
def fillFrame (d : Device) (m : Mover) (g f : Nat) (p hb : List Byte) (poison : Bool) : Option Device :=
  let h := parseHdr hb
  let d := (d.put (localAddr g (frameOff f)) p).put (localAddr g (hdrOff f)) hb
  let fr := d.frame g f
  let full : Frame := { st := .full, poison := poison, carousel := fr.carousel }
  if poison || h.bsi = 0xFFFFFFFF then some (d.setFrame g f full)
  else
    let l := d.line (moverCluster m) h.tsid
    let d := if l.ok then d else d.raise 0x2107 0x7020 (g + 1) (localAddr g (frameOff f)) h.tsid
    let d := d.writeCodes m g f h l
    if l.ok && l.esc then
      match d.writeEscapes m g f h l with
      | some (d, us, n) => some (d.setFrame g f { full with units := us, words := n })
      | none => none
    else some (d.setFrame g f full)

/-- Where the header of tile `k` of an entry lies: a frame's is implicit (R104, R157). -/
def srcHeader (d : Device) (m : Mover) (e : MoveEnt) (k : Nat) : Nat :=
  match d.srcFrame m e k with
  | some (g, f) => localAddr g (hdrOff f)
  | none => e.srch + 16 * k * e.sstride / 4096

/-- R254: a delivered tile with its outcome written into its frame. A transposed compressed tile is stored dense under a new CRC
(DESIGN CHOICE, log entry 84: R127 gives no header for it). -/
def settleTile (d : Device) (m : Mover) (e : MoveEnt) (fl : InFlight) (g f : Nat) : Option Device :=
  let u := moverUnit m
  let h := parseHdr fl.header
  let src := e.src + fl.k * e.sstride
  let turn (h : Hdr) (p : List Byte) : List Byte × List Byte :=
    if e.trans then
      let p' := transposeTile h p
      (p', sealHdr p' { h with comp := false })
    else (p, sealHdr p h)
  match tileCheck fl.payload fl.header with
  | none =>
    if e.trans then
      let x := turn h fl.payload
      d.fillFrame m g f x.1 x.2 false
    else d.fillFrame m g f fl.payload fl.header false
  | some .crc =>
    (d.fillFrame m g f fl.payload fl.header true).map (fun d =>
      d.raise 0x4001 u.1 u.2.1 src (d.srcHeader m e fl.k))
  | some .header =>
    (d.fillFrame m g f fl.payload fl.header true).map (fun d => d.raise 0x2012 u.1 u.2.1 src (h.fmt + h.width * 256))
  | some c =>
    let cb := fmtBits h.fmt h.width
    let h' := { h with comp := false }
    let x := turn h' (expandTile fl.payload cb)
    (d.fillFrame m g f x.1 x.2 false).map (fun d =>
      d.raise (if c = .indexRange then 0x3003 else 0x3002) u.1 u.2.1 src (compFirstBad fl.payload cb (kOf h.k)))

/-- The end of one tile of the head entry: the read on a source frame, the sync counters, the next delivery. -/
def endTile (d : Device) (m : Mover) (e : MoveEnt) (j : Nat) (wr : Nat) : Device :=
  let d := match e.kind, d.srcFrame m e j with
    | .tiles, some (g, f) =>
      let d := if e.rel then d.releaseFrame g f else d
      d.endRead g f
    | _, _ => d
  let d := d.addSyncs (moverCluster m) e.score e.scnt 1
  d.modEnt m 0 (fun e => { e with done := e.done + 1, flight := e.flight.drop 1, wr := e.wr + wr })

/-- The last beat of the head tile arrived, first or refetched. -/
def deliver (d : Device) (m : Mover) (refetch : Bool) : Device :=
  match d.mq m with
  | [] => d
  | e :: _ =>
    match e.flight with
    | [] => d
    | fl :: _ =>
      if fl.refetch != refetch || !fl.await.isEmpty then d
      else match e.kind with
        | .bytes =>
          let x := d.emit m e.dst fl.payload false
          x.1.endTile m e fl.k x.2
        | .pass _ => d
        | .tiles =>
          match d.dstFrame m e fl.k with
          | none =>
            if e.miss then (d.moverMiss m e.dst).endTile m e fl.k 0
            else
              let x := d.emit m (e.dst + fl.k * e.dstride) fl.payload false
              let y := x.1.emit m (e.dsth + 16 * fl.k * e.dstride / 4096) fl.header true
              (y.1.copyTaint (d.srcHeader m e fl.k) (e.dsth + 16 * fl.k * e.dstride / 4096)).endTile m e fl.k (x.2 + y.2)
          | some (g, f) =>
            let fl := { fl with payload := seenPayload fl.payload fl.header }
            match tileCheck fl.payload fl.header, refetch with
            | some c, false =>
              -- R69, R154, R254: one refetch
              let x := d.readTile m e fl.k true
              let d := x.1.modEnt m 0 (fun e => { e with flight := x.2 :: e.flight.drop 1 })
              let d := d.setFrame g f { d.frame g f with cause := 1 }
              let d := match c with
                | .crc => d.addNum 0x1841 1 0 1
                | .header => d
                | _ => d.addNum 0x1A01 4 0 1
              d.modClu (moverCluster m) (fun c => { c with retry := c.retry + 1 })
            | _, _ =>
              match d.settleTile m e fl g f with
              | some d => (d.copyTaint (d.srcHeader m e fl.k) (localAddr g (hdrOff f))).endTile m e fl.k 0
              | none => d.setFrame g f { d.frame g f with cause := 3 }

end Device

/-! ### Cause tags (R162) -/

namespace Device

/-- The mover and the tile that fill frame `f` of core `g`, next or already. -/
def fillOf (d : Device) (g f : Nat) : Option (Mover × MoveEnt × Nat) :=
  let k := clusterOf g
  let ms := Mover.lu (Fin.ofNat 1536 g) :: (List.range 4).map (fun m => Mover.se (Fin.ofNat 384 (4 * k + m)))
  let ents := ms.flatMap (fun m => (d.mq m).map (fun e => (m, e)))
  (ents.flatMap (fun me => (List.range (min me.2.dring (me.2.count - me.2.done))).map (fun i => (me.1, me.2, me.2.done + i)))).find?
    (fun x => (match x.2.1.kind with | .tiles => true | _ => false) && d.dstFrame x.1 x.2.1 x.2.2 == some (g, f))

/-- R202, R209: the DONE words of a cluster's converter and reduction rings. -/
def doneWords (d : Device) (k : Nat) : List Nat :=
  [d.num 0x7050 3 (k + 1), d.num 0x7050 7 (k + 1)].flatMap (fun h =>
    if h = 0xFFFFFFFF then [] else (List.range 4).map (fun r => h + 64 * r + 0x24))

/-- R162 (2): the mover's program waits for a descriptor's DONE. -/
def waitsDone (d : Device) : Mover → Bool
  | .se s => match (d.sq s).st with
    | .waitWord off _ => (d.doneWords (s / 4)).contains off
    | _ => false
  | .lu _ => false

/-- R162 (4): the mover waits at an arbiter on the way to `n` bytes at an address, or back: a bank of the store that holds them, NoC,
the scheduler of each channel over which they spread (R373, R377), the way to another device's rail. -/
def waitsArb (d : Device) (m : Mover) (a n : Nat) : Bool :=
  let bank (k port : Nat) : Bool := (List.range 64).any (fun b => d.arbWaits (Arb.bank (Fin.ofNat 96 k) (Fin.ofNat 64 b), port))
  match m, d.resolve a with
  | .lu g, _ => bank (g / 16) (g % 16)
  | .se s, .here low =>
    ((List.range ((n + 255) / 256)).flatMap (fun i => d.requestPath s (low + 256 * i)) ++ d.responsePath s low).any
      (fun h => d.arbWaits h (match h.1 with | .localMem .. => s % 4 | _ => 0)) ||
    (match d.region low with
     | .store k _ => bank k (16 + (if k = s / 4 then s.val % 4 else (planeOf true s low).val))
     | _ => false)
  | .se s, .remote pos low => (d.farPath s pos low).any d.arbWaits
  | _, _ => false

/-- The mover waits at an arbiter for tile `j` of a move or for its header. -/
def waitsTile (d : Device) (m : Mover) (e : MoveEnt) (j : Nat) : Bool :=
  d.waitsArb m (e.src + j * e.sstride) 4096 || d.waitsArb m (e.srch + 16 * j * e.sstride / 4096) 16

/-- R162: the mover waits at a bank arbiter of the local memory it writes. -/
def waitsLocal (d : Device) (m : Mover) (g : Nat) : Bool :=
  (List.range 32).any (fun b => match m with
    | .lu _ => d.arbWaits (Arb.localMem (Fin.ofNat 1536 g) (Fin.ofNat 32 b), 9)
    | .se s => d.arbWaits (Arb.localMem (Fin.ofNat 1536 g) (Fin.ofNat 32 b), 10) (s % 4))

/-- R162: the cause tag of a frame. The tags of refetches and of missing side units are noted where they arise. -/
def frameTag (d : Device) (g f : Nat) : Nat :=
  let x := d.frame g f
  match d.fillOf g f with
  | none => if x.carousel then 10 else 0
  | some (m, e, j) =>
    let src := e.src + j * e.sstride
    let waiting := (e.flight.find? (fun fl => fl.k == j)).map (fun fl => !fl.await.isEmpty)
    if x.fill && x.cause == 1 then 1
    else if d.waitsDone m then 2
    else if waiting.getD (e.done < e.count) && d.creditShort (d.resolve src) then 8
    else if (x.fill && x.cause == 3) || d.waitsTile m e j || d.waitsLocal m g then 3
    else 0

end Device

/-! ### Stream-engine instructions (R157, R165, R171) -/

/-- R158: a move queue of 4 entries; with it full the operation waits. -/
def queueSe (d : Device) (se : Nat) (e : MoveEnt) : Device :=
  if 4 ≤ (d.moves se).length then d.seqWait se .waitRoom
  else (d.setMoves se (d.moves se ++ [e])).seqNext se

/-- R157: the move that a descriptor names.  DESIGN CHOICE (log entry 45), where the manual is silent: a sync counter
number of 64 or more is taken mod 64, a COUNT of 0 completes at once, a ring of 0 frames counts as a ring of one
frame, a COUNT above 4,096 or a DRING above 240 is carried out as it stands, a descriptor that is not 64-byte aligned is read as it
stands, bits of RSVD and FLAGS are ignored. -/
def moveDesc (b : List Byte) : MoveEnt :=
  { kind := .tiles, src := fieldB b 0 8, srch := fieldB b 8 8, dst := fieldB b 0x10 8, dsth := fieldB b 0x18 8,
    sstride := fieldB b 0x20 4, dstride := fieldB b 0x24 4, count := fieldB b 0x28 2, dring := fieldB b 0x2A 1,
    scnt := fieldB b 0x2B 1 % 64, score := fieldB b 0x2C 2, rel := fieldB b 0x2E 1 % 2 == 1 }

/-- A read of the own store by a stream engine; zeros with event 0x4008 where it reaches nothing. -/
def seRead (d : Device) (se off n : Nat) : Device × List Byte :=
  let a := Device.storeAddr (se / 4) off
  if 0x1000000 < off + n || Device.crosses a n then (d.moverMiss (.se (Fin.ofNat 384 se)) a, List.replicate n 0)
  else (d, d.bytes a n)

def execTmove (se : Se) (ra : Reg) (hits : Hits) (s : State) : Out :=
  s.run (fun d => (d.seqHits se hits).seqIssue se (fun d x =>
    let r := seRead d se (x.reg ra).toNat 64
    queueSe r.1 se (moveDesc r.2)))

/-- R171: RB bytes, a multiple of 64 and at most 4,096; another length is not performed (R31). -/
def execBmove (se : Se) (ra rb : Reg) (hits : Hits) (s : State) : Out :=
  s.run (fun d => (d.seqHits se hits).seqIssue se (fun d x =>
    let off := (x.reg ra).toNat
    let n := (x.reg rb).toNat
    let r := seRead d se off 16
    if n % 64 ≠ 0 || 4096 < n then (r.1.moverMiss (.se se) (fieldB r.2 0 8)).seqNext se
    else queueSe r.1 se { kind := .bytes, src := fieldB r.2 0 8, dst := fieldB r.2 8 8, nbytes := n }))

def execQwait (se : Se) (s : State) : Out :=
  s.run (fun d => d.seqIssue se (fun d _ =>
    if (d.moves se).isEmpty then d.seqNext se else d.seqWait se .waitQueue))

/-- The core and frame that a register of PASS names: [3:0] and [15:8]. -/
def passCore (k : Nat) (v : W32) : Nat := 16 * k + v.toNat % 16
def passFrame (v : W32) : Nat := bitsOf v.toNat 15 8

def execPass (se : Se) (ra rb : Reg) (drop : Bool) (s : State) : Out :=
  s.run (fun d => d.seqIssue se (fun d x =>
    let k := se.val / 4
    let at' (v : W32) : Nat := Device.localAddr (passCore k v) (frameOff (passFrame v))
    queueSe d se { kind := .pass drop, src := at' (x.reg ra), dst := at' (x.reg rb),
                   srch := Device.localAddr (passCore k (x.reg ra)) (hdrOff (passFrame (x.reg ra))) }))

/-! ### What movers do -/

/-- R158: the next source read of the first entry that still has one to issue, once its frames allow. -/
def sourceRead (d : Device) (m : Mover) : Device :=
  let q := d.mq m
  match q.findIdx? (fun e => decide (e.issued < e.count)) with
  | none => d
  | some i =>
    let e := q.getD i {}
    let j := e.issued
    match e.kind with
    | .pass _ => d
    | .bytes =>
      let x := d.readTile m e j false
      x.1.modEnt m i (fun e => { e with issued := 1, flight := [x.2] })
    | .tiles =>
      let dstOk := match d.dstFrame m e j with
        | some (g, f) => (d.frame g f).st == .empty && !(d.frame g f).fill
        | none => true
      let srcOk := match d.srcFrame m e j with
        | some (g, f) => (d.frame g f).st == .full
        | none => true
      if !dstOk || !srcOk then d
      else
        let d := match d.dstFrame m e j with
          | some (g, f) => d.setFrame g f { d.frame g f with fill := true, cause := 0 }
          | none => d
        let d := match d.srcFrame m e j with
          | some (g, f) => d.setFrame g f { d.frame g f with reads := (d.frame g f).reads + 1 }
          | none => d
        let x := d.readTile m e j false
        x.1.modEnt m i (fun e => { e with issued := e.issued + 1, flight := e.flight ++ [x.2] })

def execMoverSourceRead (m : Mover) (hits : Hits) (s : State) : Out := s.runHits hits (fun d => sourceRead d m)

def execTileDeliveryComplete (m : Mover) (hits : Hits) (s : State) : Out := s.runHits hits (fun d => d.deliver m false)

def execTileRefetchComplete (m : Mover) (hits : Hits) (s : State) : Out := s.runHits hits (fun d => d.deliver m true)

/-- R165, R153: the tile of a pass reaches its destination frame. A tile that fails its check is read again, once (R154, R69); a
poisoned one passes its poison on. -/
def passTile (d : Device) (se : Se) (e : MoveEnt) (g f g' f' : Nat) (fin : Device → Device) : Device :=
  let k := se.val / 4
  let x := d.frame g f
  let y := d.frame g' f'
  let hb := d.bytes (Device.localAddr g (hdrOff f)) 16
  let p := leftPayload (d.bytes (Device.localAddr g (frameOff f)) 4096) hb
  let fl : InFlight := { payload := p, header := hb }
  let check := if x.poison then none else tileCheck p hb
  match check, e.flight with
  | some c, [] =>
    let d := d.modEnt (.se se) 0 (fun e => { e with flight := [{ fl with refetch := true }] })
    let d := d.setFrame g' f' { y with fill := true, cause := 1 }
    let d := match c with
      | .crc => d.addNum 0x1841 1 0 1
      | .header => d
      | _ => d.addNum 0x1A01 4 0 1
    d.modClu k (fun c => { c with retry := c.retry + 1 })
  | _, _ =>
    match (if x.poison then d.fillFrame (.se se) g' f' p hb true else d.settleTile (.se se) e fl g' f') with
    | none => d.setFrame g' f' { y with fill := true, cause := 3 }
    | some d => fin ((d.copyTaint (Device.localAddr g (hdrOff f)) (Device.localAddr g' (hdrOff f'))).setFrame g f { carousel := x.carousel })

/-- R165, R166: the pass at the head of the queue, once the source's release has taken effect and, without DROP, the destination
is EMPTY. A failed member passes nothing. -/
def carouselPass (d : Device) (se : Se) : Device :=
  match d.moves se with
  | e :: _ =>
    match e.kind with
    | .pass drop =>
      if e.done != 0 then d
      else
        let k := se.val / 4
        match d.frameOfAddr k e.src, d.frameOfAddr k e.dst with
        | some (g, f), some (g', f') =>
          let x := d.frame g f
          let y := d.frame g' f'
          let fin (d : Device) : Device :=
            (d.modEnt (.se se) 0 (fun e => { e with issued := 1, done := 1, flight := [] })).addNum 0x1841 7 0 1
          if (d.core g).failed || x.st != .full || !x.release || x.reads != 0 then d
          else if drop then fin (d.setFrame g f {})
          else if y.st != .empty || (y.fill && e.flight.isEmpty && y.cause != 3) then d
          else passTile d se e g f g' f' fin
        | _, _ => (d.moverMiss (.se se) e.src).modEnt (.se se) 0 (fun e => { e with issued := 1, done := 1 })
    | _ => d
  | [] => d

def execCarouselPassExecute (se : Se) (hits : Hits) (s : State) : Out := s.runHits hits (fun d => carouselPass d se)

/-- R157: the head entry is complete: every tile delivered and every remote write acknowledged. -/
def execMoveDone (m : Mover) (s : State) : Out :=
  s.run (fun d => match d.mq m with
    | e :: q => if e.count ≤ e.done && e.flight.isEmpty && e.wr == 0 then d.setMq m q else d
    | [] => d)

end Sys2Proof.Machine
end

