-- ==== Sys2Proof/Machine/PlanUses.lean ====
section
/-! DEFINITION. What an admitted plan uses (R412, R414, R476): the bytes of its placements, the members its transfers name, its
stacks, DDR5 domains and ports. -/

namespace Sys2Proof.Machine

/-! ### Placements and members -/

/-- R148, R248: the bytes of a placement's tiles, and those of the headers, where its tiles have them. -/
def placeBytes (p : PlanPlacement) : Nat × Nat := (p.payload, p.tile * p.count)
def placeHdrs (p : PlanPlacement) : List (Nat × Nat) := if p.tile = 4096 then [(p.header, 16 * p.count)] else []

/-- R501: the keeper of a member. -/
def keeperIn (f : PlanFacts) (dev : Nat) : Option Nat :=
  match f.members.find? (fun m => m.dev == dev) with
  | some m => if m.keeper = 0xFFFF then none else some m.keeper
  | none => none

/-- R476: a placement holds bytes of a stack, of the tier's channels on a hub die. -/
def planStack (f : PlanFacts) (h : Nat) : Bool :=
  f.placements.any (fun p => (placeBytes p :: placeHdrs p).any (fun r =>
    decide (r.1 < (h + 1) * 0x1800000000) && decide (h * 0x1800000000 < r.1 + r.2)))
def planDdr (f : PlanFacts) (i : Nat) : Bool :=
  f.placements.any (fun p => (placeBytes p :: placeHdrs p).any (fun r => (List.range 13).any (fun k =>
    let a := if k = 0 then r.1 else (r.1 / 4096 + k) * 4096
    decide (a < r.1 + r.2) && decide (Device.ddrBase ≤ a) && Device.ddrChan a / 6 == i)))

namespace Device

/-! ### Transfers over the torus -/

/-- R32: the device number that an address names, where that is another member's. -/
def farDev (d : Device) (a : Nat) : Option Nat :=
  if bitOf a 55 && bitsOf a 54 43 != d.devNo then some (bitsOf a 54 43) else none

/-- The addresses that an operation of OPGRAPH moves between; where one end is a frame of its cluster, its header lies there. -/
def opEnds (d : Device) (o : PlanOp) : List Nat :=
  match o.work with
  | .move se b =>
    let e := moveDesc b
    (List.range e.count).flatMap (fun j =>
      (if (d.srcFrame (.se se) e j).isSome then [] else [e.src + j * e.sstride, e.srch + 16 * j * e.sstride / 4096]) ++
      (if (d.dstFrame (.se se) e j).isSome then [] else [e.dst + j * e.dstride, e.dsth + 16 * j * e.dstride / 4096]))
  | .byteMove _ s t _ => [s, t]
  | _ => []

/-- R412, R414: the members that the plan's link transfers name; an export to the keeper is one (R512). -/
def planDevs (d : Device) (f : PlanFacts) : List Nat :=
  dedupNat (f.ops.flatMap (fun o => (d.opEnds o).filterMap d.farDev) ++ (keeperIn f d.devNo).toList)

/-- The position of a device number: by the map in force, before the plan runs by the map that its first release puts in force. -/
def planPos (d : Device) (n : Nat) : Nat :=
  if d.runState = 2 ∨ d.runState = 3 then d.mapPos n else fieldB (d.domOf 0x1701 1) (2 * n) 2

/-! ### Ports (R401, R402, R409) -/

/-- The rails by which packets of a route mode leave. -/
def modeRails (m : Nat) : List Nat :=
  match m with
  | 1 => [0]
  | 2 => [1]
  | 3 => [0]
  | _ => [0, 1]

/-- R401, R402: the ports by which packets to a position leave, and by which its completions come: on the rail of the request where
that position's own mode is 0, else by its mode. -/
def routePorts (d : Device) (t : Nat) : List Nat :=
  let m := d.routeMode t
  let e := routeEntry d.shape d.downEntries t d.position
  let out := (nextDir d.shape d.position (if m.1 = 3 then m.2.2 else t)).toList.flatMap (fun x =>
    (modeRails m.1).map (fun r => portOf r x.1 x.2))
  let rails := if e % 4 = 0 then (if m.1 = 3 then [1] else modeRails m.1) else if e % 4 = 3 then [1] else modeRails (e % 4)
  let back := (hopsOf d.shape (if e % 4 = 3 then bitsOf e 27 16 else t) d.position).getLast?.toList.flatMap (fun h =>
    rails.map (fun r => portOf r h.2.1 (!h.2.2)))
  if m.2.1 then [] else out ++ back

/-- R409: this member's ports on the cadence tree: its parent port, and those whose neighbour has its parent port here. -/
def treePorts (d : Device) : List Nat :=
  let down := d.downEntries
  let mp := d.mapPos (d.num 0x1200 3)
  let m := hopMap d.shape down mp
  (List.range 12).filter (fun p =>
    let q := neighbour d.shape d.position (portDim p) (portPlus p)
    p == d.num 0x1700 7 || (d.portUp p && !linkDown d.shape down d.position p && q != d.position &&
      parentFrom d.shape down (fun _ => true) m mp q == some (portOpp p)))

/-- R476: the ports that a plan uses: on its routes to and from the members that its transfers name, those through which its SLOTS
section routes packets, and those of the cadence tree. -/
def planPorts (d : Device) (f : PlanFacts) : List Nat :=
  (d.planDevs f).flatMap (fun n => d.routePorts (d.planPos n)) ++
  (f.slots.filter (fun x => x.pos == d.position && x.slots != 0)).map (·.port) ++ d.treePorts

end Device

end Sys2Proof.Machine
end

