-- ==== Sys2Proof/Machine/PdOps.lean ====
section
/-! DEFINITION. Power domains (R473 to R479, R500): dependencies, requests, transitions and what each state keeps. -/

namespace Sys2Proof.Machine

/-! ### Instances (R500) -/

/-- R500: what kind of unit a domain instance is. -/
inductive DomKind where
  | cluster (k : Nat)
  | core (g : Nat)
  | stack (h : Nat)
  | port (p : Nat)
  | ddr (i : Nat)
  | fabric (die : Nat)
  | mgmt
  deriving DecidableEq, Repr

def domKind (i : Nat) : DomKind :=
  if i ≤ 96 then .cluster (i - 1) else if i ≤ 1632 then .core (i - 97) else if i ≤ 1648 then .stack (i - 1633)
  else if i ≤ 1660 then .port (i - 1649) else if i ≤ 1662 then .ddr (i - 1661) else if i ≤ 1666 then .fabric (i - 1663)
  else .mgmt

/-- R475: the domain that must be on for this one to be on (or, for a core, in retention). -/
def pdParent (i : Nat) : Option Nat :=
  match domKind i with
  | .core g => some (pdCl (g / 16))
  | .cluster k => some (pdF (k / 24))
  | .stack h => some (pdF (h / 4))
  | _ => none

/-- R475: the domains that depend on this one. -/
def pdChildren (i : Nat) : List Nat :=
  match domKind i with
  | .cluster k => (List.range 16).map (fun l => pdCo (16 * k + l))
  | .fabric die => (List.range 24).map (fun c => pdCl (24 * die + c)) ++ (List.range 4).map (fun h => pdH (4 * die + h))
  | _ => []

namespace Device

/-- PD_STATE: 0 on, 1 retention, 2 off, 3 in transition. -/
def pdState (d : Device) (i : Nat) : Nat := d.num 0x70C0 1 i
def pdS (d : Device) (i : Nat) : DomS := Map.get {} d.pwr.dom i
def setPd (d : Device) (i : Nat) (x : DomS) : Device := { d with pwr := { d.pwr with dom := Map.set {} d.pwr.dom i x } }

/-- R476: whether the admitted plan uses a domain: those of units in service, stacks and DDR5 domains that hold a placement, ports
of its routes and of the cadence tree, and the fabric. -/
def usesDomain (d : Device) (i : Nat) : Bool :=
  match d.adm.facts with
  | none => false
  | some f => match domKind i with
    | .cluster k => d.num 0x7000 2 (k + 1) != 2
    | .core g => d.num 0x7001 2 (g + 1) != 2
    | .fabric _ => true
    | .stack h => planStack f h
    | .ddr j => planDdr f j
    | .port p => (d.planPorts f).contains p
    | .mgmt => false

/-- R141: threads outside FREE, or engine or move queues that are not empty. -/
def coreBusy (d : Device) (g : Nat) : Bool :=
  let c := d.core g
  c.thr.any (fun t => t.2.st != .free) || !c.engq.isEmpty || !c.moveq.isEmpty

/-- R475: lowering this domain would leave a dependent one where it may not be. -/
def breaksChild (d : Device) (i st : Nat) : Bool :=
  match domKind i with
  | .cluster _ => (pdChildren i).any (fun j => d.pdState j != 2)
  | .fabric _ => (pdChildren i).any (fun j =>
      if st = 1 then d.pdState j == 0 || d.pdState j == 3 else d.pdState j != 2)
  | _ => false

/-- R18, R24, R385: the domain is held off: that of a unit out of service, of a core of a cluster out of service, or of an unused
port. -/
def heldOff (d : Device) (i : Nat) : Bool :=
  match domKind i with
  | .core g => d.num 0x7001 2 (g + 1) == 2
  | .cluster k => d.num 0x7000 2 (k + 1) == 2
  | .port p => !portUsed d.shape p
  | _ => false

/-- R476: a request the power controller refuses; `st` is 0 on, 1 retention, 2 off. One that would raise a domain that is held off
is refused in the same way (DESIGN CHOICE, log entry 82). -/
def pdRefused (d : Device) (i st : Nat) : Bool :=
  (st != 2 && d.heldOff i) || st != 0 && (match domKind i with
    | .mgmt => true
    | .core g => d.coreBusy g
    | .cluster k => (List.range 4).any (fun n => !(d.moves (4 * k + n)).isEmpty)
    | _ => false) ||
  (st != 0 && (d.runState == 2 || d.runState == 3) && d.usesDomain i) ||
  (st != 0 && d.breaksChild i st)

/-- R143: idle clk count while a core's domain is on. -/
def idleOn (d : Device) (i : Nat) (on : Bool) : Device :=
  match domKind i with
  | .core g => if on then d.idleBegin g else d.idleEnd g
  | _ => d

/-- PD_STATE as it is set without a transition. -/
def pdPut (d : Device) (i st : Nat) : Device :=
  ((if st = 0 then d else d.dropRequests i).idleOn i (st == 0)).setNum 0x70C0 1 i st

/-- R474: the limits of a domain in ns: from retention to on, from off to on, from on to retention or off. A port from off runs the
Thaw steps of R396, the sum of whose limits is taken (DEDUCED, log entry 63). -/
def pdLimits (i : Nat) : Nat × Nat × Nat :=
  match domKind i with
  | .core _ => (2000, 20000, 2000)
  | .cluster _ => (5000, 60000, 5000)
  | .stack _ => (10000, 2000000000, 10000)
  | .port _ => (200000000, 1213000000, 1000000)
  | .ddr _ => (20000, 1000000000, 20000)
  | .fabric _ => (10000, 100000, 10000)
  | .mgmt => (0, 0, 0)

/-- R474, R451: how long the transition of a domain may take. From off to retention it passes through on; while the Thaw runs the
domain of a cluster or a core has 20 µs. -/
def pdLimitNs (d : Device) (i : Nat) : Nat :=
  let x := d.pdS i
  let l := pdLimits i
  let thaw := d.runState == 0 && (match domKind i with
    | .core _ => true
    | .cluster _ => true
    | _ => false)
  if thaw then 20000
  else if x.target = 0 then (if x.from_ = 2 then l.2.1 else l.1)
  else if x.from_ = 2 then l.2.1 + l.2.2 else l.2.2

/-- R474: the transition of a domain has reached its limit. -/
def pdLate (d : Device) (i : Nat) : Bool :=
  d.pdState i == 3 && decide ((d.pdS i).since + d.pdLimitNs i ≤ d.time.nowNs)

/-- A transition begins. -/
def pdBegin (d : Device) (i st src : Nat) : Device :=
  let d := (d.dropRequests i).idleOn i false
  let x := d.pdS i
  (d.setPd i { x with from_ := d.pdState i, target := st, source := src, since := d.time.nowNs, waiting := none }).setNum 0x70C0 1 i 3

/-- Ask for a state of a domain whose parent chain is already up, or which needs none. -/
def pdStart (d : Device) (i st src : Nat) : Device :=
  if d.pdState i = 3 then d.setPd i { d.pdS i with waiting := some (st, src) }
  else if d.pdState i = st then d
  else d.pdBegin i st src

/-- R475: raise the parents first, with wake source DEPENDENCY (5); the domain waits for them. -/
def pdRaise (d : Device) : Nat → Nat → Nat → Nat → Device
  | 0, i, st, src => d.pdStart i st src
  | n + 1, i, st, src =>
    match pdParent i with
    | none => d.pdStart i st src
    | some p =>
      if d.pdState p = 0 || (st = 2 || (st = 1 && d.pdState i = 0)) then d.pdStart i st src
      else (d.pdRaise n p 0 5).setPd i { d.pdS i with waiting := some (st, src) }

/-- R476 to R478: a request with the value of PD_REQUEST, checked when it arrives. -/
def pdRequest (d : Device) (i v src : Nat) : Device × Nat :=
  let st := if v = 3 then 2 else v
  if d.pdRefused i st then (d.raise 0x6001 0x70C0 i (i + v * 2 ^ 16) 0, stState)
  else ((d.setNum 0x70C0 2 i v).pdRaise 2 i st src, stOK)

/-- R478: the waiting request of a domain that is no longer in transition; it waits on while its parent comes up. -/
def pdApplyWaiting (d : Device) (i : Nat) : Device :=
  match (d.pdS i).waiting with
  | none => d
  | some (st, src) =>
    if d.pdState i = 3 then d
    else if d.pdRefused i st then (d.setPd i { d.pdS i with waiting := none }).raise 0x6001 0x70C0 i (i + st * 2 ^ 16) 0
    else match pdParent i with
      | none => (d.setPd i { d.pdS i with waiting := none }).pdStart i st src
      | some p =>
        if d.pdState p = 3 && (st = 0 || d.pdState i = 2) then d
        else (d.setPd i { d.pdS i with waiting := none }).pdRaise 2 i st src

/-! ### What a state loses (R473) -/

/-- The bytes of an address window read as after reset. -/
def clearMem (d : Device) (lo hi : Nat) : Device :=
  d.keepMem (fun a => decide (a < lo) || decide (hi ≤ a))

/-- R473: retention loses the working state of a unit. -/
def loseRetention (d : Device) (i : Nat) : Device :=
  match domKind i with
  | .core g => d.modCore g (fun c => { c with slots := [], thr := [], watch := [], engq := [], tabs := [], ptr := 0 })
  | .cluster k =>
    let d := d.modClu k (fun c => { c with ctx := [] })
    let d := forN 4 d (fun d n => d.setMoves (4 * k + n) [])
    [4 * k + 0, 4 * k + 1, 4 * k + 2, 4 * k + 3, 384 + k, 480 + k, 576 + k].foldl
      (fun d q => d.setSq q { d.sq q with pend := 0 }) d
  | .port p => { d with link := { d.link with ports := Map.upd {} d.link.ports p (fun x =>
      { x with txNext := 0, rxNext := 0, unacked := 0, nak := false, cred := [], ctl := [], slots := [], kept := [],
               nakDue := false, rxUsed := [] }) } }
  | _ => d

/-- R473, R474: off loses all content; memory reads as after reset once the domain is back (log entry 1). -/
def loseAll (d : Device) (i : Nat) : Device :=
  match domKind i with
  | .core g => (d.setCore g { failed := (d.core g).failed }).clearMem (localAddr g 0) (localAddr g 0 + 0x100000)
  | .cluster k =>
    let d := (d.setClu k {}).clearMem (storeAddr k 0) (storeAddr k 0 + 0x1000000)
    let d := forN 4 d (fun d n => d.setMoves (4 * k + n) [])
    [4 * k + 0, 4 * k + 1, 4 * k + 2, 4 * k + 3, 384 + k, 480 + k, 576 + k].foldl (fun d q =>
      ((d.setSq q {}).setDom 0x7040 1 (q + 1) []).setDom 0x7040 2 (q + 1) (List.replicate 64 0)) d
  | .stack h => d.clearMem (h * 0x1800000000) ((h + 1) * 0x1800000000)
  | .port p => let d := d.dropPackets p; { d with link := { d.link with ports := Map.set {} d.link.ports p {} } }
  | .ddr i => d.keepMem (fun a => decide (a < ddrBase) || ddrChan a / 6 != i)
  | _ => d

/-- R479: the record of a move to on. -/
def recordWake (d : Device) (i src : Nat) : Device :=
  ((d.setNum 0x70C0 3 i src).setNum 0x70C0 4 i d.stamp.toNat).setNum 0x70C0 5 i (d.time.nowNs / 1000)

/-- R474: the domain reports domain-good in the state it was moving to. While a trip is in force its converters are off and it can
only be off (R547). -/
def pdGood (d : Device) (i : Nat) : Device :=
  let x := d.pdS i
  if d.pdState i ≠ 3 || (d.pwr.trip && x.target != 2) then d
  else
    let d := (d.setNum 0x70C0 1 i x.target).addNum 0x70C0 6 i 1
    let d := if x.target = 2 then d.loseAll i else if x.target = 1 && x.from_ = 0 then d.loseRetention i else d
    let d := if x.target = 0 then d.idleOn i true else d
    if x.target = 0 || (x.target = 1 && x.from_ = 2) then d.recordWake i x.source else d

/-! ### Units that a run loses (R379, R474, R515) -/

/-- R14, R166, R515: a cluster fails: the event and the request for a restore. -/
def failCluster (d : Device) (k : Nat) : Device :=
  if d.hv.failed.contains (true, k) then d
  else
    let d := { d with hv := { d.hv with failed := d.hv.failed ++ [(true, k)] } }
    (d.raise 0x8011 0x7080 (k + 1) 0 (d.survArg d.devNo)).askRestore 0x8011

/-- R379, R515: a DDR5 channel lost during a run; the member reports itself lost. -/
def loseDdr (d : Device) (c : Nat) : Device :=
  if d.num 0x70A1 1 (c + 1) = 2 then d
  else
    let d := (d.setNum 0x70A1 1 (c + 1) 2).setNum 0x1800 3 0 2
    let d := d.keepMem (fun a => decide (a < ddrBase))
    (d.raise 0x4006 0x70A1 (c + 1) 0 0).send .reportLost

/-- R397, R411: a port is marked down: both ends' entry, the tree and the routes. -/
def portDown (d : Device) (p : Nat) : Device :=
  let d := (d.setNum 0x70B0 1 (p + 1) 0).setNum 0x1700 6 0 (d.num 0x1700 6 &&& (0xFFFF - 2 ^ p))
  let e := d.position + 4096 * p
  if d.downEntries.contains e then d else (d.markLinks [e] true).send (.downset d.position p true)

/-- R474: a transition beyond its limit leaves the domain off, with event 0x6002; a used domain's unit is lost. -/
def pdTimeout (d : Device) (i : Nat) : Device :=
  if d.pdState i ≠ 3 then d
  else
    let used := d.planRuns && d.usesDomain i
    let d := ((d.setNum 0x70C0 1 i 2).loseAll i).raise 0x6002 0x70C0 i (i + (d.pdS i).target * 2 ^ 16) 0
    if !used then d
    else match domKind i with
      | .core g => d.failCore g
      | .cluster k => d.failCluster k
      | .port p => (d.raise 0x5003 0x70B0 (p + 1) p (d.num 0x70B0 4 (p + 1))).portDown p
      | .ddr j => forN 6 d (fun d n => d.loseDdr (6 * j + n))
      | .stack _ => d.send .reportLost
      | .fabric _ => d.send .reportLost
      | .mgmt => d

end Device

end Sys2Proof.Machine
end

