-- ==== Sys2Proof/Machine/LinkOps.lean ====
section
/-! DEFINITION. Ports: which are in use, how they train, and when they are up (R384 to R386, R395 to R398, R470). -/

namespace Sys2Proof.Machine

/-- R395: the slots of each class and VC that a port may send when it comes up. -/
def fullCredits : Map Nat := [(0, 640), (1, 640), (2, 640), (3, 640)]

/-- R410: messages of each route (link, up, down) that a port may send when it comes up. -/
def fullControl : Map Nat := [(0, 64), (1, 64), (2, 64)]

namespace Device

/-! ### Codewords that leave (R387 to R389, R394) -/

/-- R387, R388: the symbols of a codeword position leave on the lanes. -/
def sendSymbols (d : Device) (p : Nat) (ss : List Nat) : Device :=
  let ls := sendLanes (d.port p).precoded (d.port p).txLevels ss
  (d.modPort p (fun x => { x with txPos := (x.txPos + 1) % 4096, txLevels := ls.map (fun l => l.getLastD 0) })).send (.codeword p ls)

/-- R388: a data codeword of a message, behind the alignment codeword where one is due. -/
def sendCodeword (d : Device) (p m : Nat) : Device :=
  let d := if alignPosition (d.port p).txPos then d.sendSymbols p (alignSymbols (portRail p)) else d
  d.sendSymbols p (rsEncode (messageSymbols m))

/-- R394: 256 codewords are not acknowledged. -/
def windowFull (x : PortS) : Bool := decide (256 ≤ (x.txNext + 512 - x.unacked) % 512)

/-- R389: the message that leaves next: the slots that wait, NAK where one is due, ACK of the last codeword accepted. -/
def nextMessage (x : PortS) (slots : List (Nat × List Byte)) : Nat := messageBits x.nakDue ((x.rxNext + 511) % 512) slots

/-- R389, R394: the codeword that is being filled leaves, idle slots behind those it has, and is kept for a replay. -/
def closeWord (d : Device) (p : Nat) : Device :=
  let m := nextMessage (d.port p) ((d.port p).slots.take 5)
  (d.modPort p (fun x => { x with
    slots := x.slots.drop 5, nakDue := false, txNext := (x.txNext + 1) % 512,
    kept := (x.kept ++ [m]).drop (x.kept.length - 255) })).sendCodeword p m

/-- Slots leave by a port, five to a codeword. -/
def pushSlots (d : Device) (p : Nat) (ss : List (Nat × List Byte)) : Device :=
  let d := d.modPort p (fun x => { x with slots := x.slots ++ ss })
  forN ((d.port p).slots.length / 5) d (fun d _ => d.closeWord p)

/-- A codeword that takes no number: idle slots while 256 codewords are unacknowledged (R394), the messages of a port that trains
(DESIGN CHOICE, log entry 88). -/
def unnumbered (d : Device) (p : Nat) (ss : List (Nat × List Byte)) : Device :=
  let m := nextMessage (d.port p) ss
  (d.modPort p (fun x => { x with nakDue := false })).sendCodeword p m

/-- R389: a codeword position with no packet ready. -/
def idleWord (d : Device) (p : Nat) : Device :=
  if !d.portUp p then d else if windowFull (d.port p) then d.unnumbered p [] else d.closeWord p

/-- R394, R398: the codewords kept from a sequence number on are sent again. -/
def replayFrom (d : Device) (p n : Nat) : Device :=
  let x := d.port p
  let count := (x.txNext + 512 - n) % 512
  let d := if count ≤ x.kept.length then (x.kept.drop (x.kept.length - count)).foldl (fun d m => d.sendCodeword p m) d else d
  d.send (.replay p n)

/-! ### Training -/

/-- R411: a parent port that leaves the up state gives way to its rail-1 twin, if that is up. -/
def moveParent (d : Device) (p : Nat) : Device :=
  if d.num 0x1700 7 = p ∧ p < 6 ∧ d.portUp (p + 6) ∧ ¬ linkDown d.shape d.downEntries d.position (p + 6)
  then d.setNum 0x1700 7 0 (p + 6) else d

/-- R396: the first attempt: from DETECT at the Thaw (state 1), from ADAPT in a run-time retrain (state 3). -/
def trainStart (d : Device) (p : Nat) (retrain : Bool) : Device :=
  let d := (d.setNum 0x70B0 1 (p + 1) (if retrain then 3 else 1)).moveParent p
  d.modPort p (fun x => { x with
    step := if retrain then 2 else 1, attempt := 1, stepNs := d.time.nowNs, latN := 0, latPs := none, identOk := false,
    coeffs := if retrain then x.coeffs else [] })

/-- R397: marked down: no training, its unacknowledged codewords lost, and the packets that wait there (R398). -/
def portLost (d : Device) (p : Nat) : Device :=
  ((d.modPort p (fun x => { x with
    step := 0, attempt := 0, unacked := x.txNext, nak := false, nakDue := false, slots := [], kept := [], ctlq := [] })).dropPackets
      p).portDown p

/-- R397: the IDENT or latency check fails: no further attempt. -/
def trainMiswired (d : Device) (p : Nat) : Device :=
  ((d.raise 0x5006 0x70B0 (p + 1) p).portLost p).setNum 0x70B0 1 (p + 1) 5

/-- R397: an attempt fails; the fourth marks the port down. -/
def trainFail (d : Device) (p : Nat) : Device :=
  let d := d.raise 0x5004 0x70B0 (p + 1) p
  let x := d.port p
  if 4 ≤ x.attempt then (d.raise 0x5003 0x70B0 (p + 1) p (d.num 0x70B0 4 (p + 1))).portLost p
  else
    let first := if d.num 0x70B0 1 (p + 1) = 3 then 2 else 1
    let now := d.time.nowNs
    d.modPort p (fun x => { x with step := first, attempt := x.attempt + 1, stepNs := now, latN := 0, latPs := none, identOk := false })

/-- R396 step 7: credits set to the buffer sizes, sequences from 0, event 0x5001; a port that was down leaves the down-set
(R411). After a run-time retrain the transmitter replays what was not acknowledged (R398). -/
def trainUp (d : Device) (p : Nat) : Device :=
  let retrain := d.num 0x70B0 1 (p + 1) = 3
  let d := (d.setNum 0x70B0 1 (p + 1) 2).setNum 0x1700 6 0 (d.num 0x1700 6 ||| 2 ^ p)
  if retrain then
    let first := (d.port p).unacked % 512
    (d.modPort p (fun x => { x with
      step := 0, attempt := 0, nak := false, rxPos := 0, levels := [], txPos := 0, txLevels := [] })).replayFrom p first
  else
    let d := d.modPort p (fun x => { x with
      step := 0, attempt := 0, rxPos := 0, txNext := 0, rxNext := 0, unacked := 0, nak := false, stale := false, slots := [],
      levels := [], txPos := 0, txLevels := [], kept := [], nakDue := false, rxUsed := [], rxCls := 0,
      cred := fullCredits, ctl := fullControl, balance := 0 })
    let d := d.raise 0x5001 0x70B0 (p + 1) p
    let e := d.position + 4096 * p
    if d.downEntries.contains e then (d.markLinks [e] false).send (.downset d.position p false) else d

end Device

end Sys2Proof.Machine
end

