-- ==== Sys2Proof/Machine/ControlSlot.lean ====
section
/-! DEFINITION. The control channel of a port (R407, R408, R410): the messages that what the device sends becomes on its ports, the
slots that carry them. A slot boundary comes with PACKET_START, where a packet is ready, and with the passing of time, where
none is (log entry 43). -/

namespace Sys2Proof.Machine

/-- R408: the place of a TYPE in the table, by which messages are placed. -/
def controlRank (ty : Nat) : Nat :=
  match ty with
  | 5 => 0 | 1 => 1 | 9 => 2 | 0xA => 3 | 2 => 4 | 3 => 5 | 4 => 6 | 6 => 7 | 7 => 8 | _ => 9

/-- R407: a control slot of up to seven messages. -/
def controlSlotBytes (ms : List (Nat × BitVec 128)) : List Byte :=
  let ms := (ms ++ List.replicate 7 (0, 0)).take 7
  [0] ++ ms.map (fun m => BitVec.ofNat 8 m.1) ++ ms.flatMap (fun m => leBytes 16 m.2.toNat) ++ List.replicate 8 0

/-- R408: the body of a CREDIT message that returns `n` of class and VC, or route, `v`. -/
def creditBody (v n : Nat) : Nat := if v < 4 then n * 2 ^ (16 * v) else n * 2 ^ (64 + 8 * (v - 4))

/-- R408: the fragments of a DAP frame, ten bytes each. -/
def dapBodies (target src ceiling : Nat) (frame : List Byte) : List Nat :=
  let ps := chunk 10 frame.length frame
  ps.zipIdx.map (fun x => target % 4096 + src % 4096 * 2 ^ 12 + x.2 % 256 * 2 ^ 24 + b2n (x.2 == 0) * 2 ^ 32 +
    b2n (x.2 + 1 == ps.length) * 2 ^ 33 + ceiling % 8 * 2 ^ 34 + leNat x.1 * 2 ^ 48)

namespace Device

/-- R409: whether this device is the root of the cadence tree. -/
def atRoot (d : Device) : Bool := d.mapPos (d.num 0x1200 3) == d.position

/-- R408: the port toward the master, and the ports on which a down message goes on. -/
def upPorts (d : Device) : List Nat := if d.portUp (d.num 0x1700 7) then [d.num 0x1700 7] else []
def downPorts (d : Device) : List Nat := (List.range 12).filter (fun p => d.portUp p && p != d.num 0x1700 7)

/-- What a message becomes on the control channel: port, TYPE, body. One that climbs the tree turns into a down message at its
root. -/
def controls (d : Device) (m : OutMsg) : List (Nat × Nat × BitVec 128) :=
  let post (ps : List Nat) (ty body : Nat) : List (Nat × Nat × BitVec 128) := ps.map (fun p => (p, ty, BitVec.ofNat 128 body))
  let tree (ty body : Nat) := post (if d.atRoot then d.downPorts else d.upPorts) ty body
  match m with
  | .done step season dev => if d.atRoot then [] else post d.upPorts 2 (step + season * 2 ^ 48 + dev * 2 ^ 52)
  | .cadWord w x => post ((List.range 12).filter (fun p => d.portUp p && some p != x)) 1 w
  | .taint step dev cause => tree 3 (step + dev * 2 ^ 48 + cause * 2 ^ 64)
  | .verdict code dev toMaster =>
    if toMaster && d.atRoot then []
    else post (if toMaster then d.upPorts else d.downPorts) 4
      (fieldB (d.domOf 0x1300 6) 0 8 + code * 2 ^ 64 + dev * 2 ^ 80)
  | .downset pos port down => tree 6 (pos + port * 2 ^ 12 + b2n down * 2 ^ 16)
  | .dapFrag target ceiling frame =>
    (dapBodies target d.devNo ceiling frame).flatMap (fun b => tree 8 b)
  | .control p ty body => [(p, ty, body)]
  | .creditReturn p v n => [(p, 5, BitVec.ofNat 128 (creditBody v n))]
  | _ => []

/-- A message waits at a port. CREDIT messages that wait together are one. -/
def enqueue (x : PortS) (ty : Nat) (body : BitVec 128) : PortS :=
  if ty = 5 ∧ x.ctlq.any (fun m => m.1 == 5) then
    { x with ctlq := x.ctlq.map (fun m => if m.1 = 5 then (5, m.2 + body) else m) }
  else { x with ctlq := x.ctlq ++ [(ty, body)] }

/-- The messages sent since the last slot boundary take their places at the ports that are up or train. -/
def placeMessages (d : Device) : Device :=
  let ms := ((d.out.take (d.out.length - d.link.placed)).reverse).flatMap d.controls
  let d := ms.foldl (fun d m => if d.portUp m.1 || (d.port m.1).step != 0 then d.modPort m.1 (fun x => enqueue x m.2.1 m.2.2) else d) d
  { d with link := { d.link with placed := d.out.length } }

/-- R407: one control slot leaves by a port: the first seven messages in the order of the table. A transmitter with 256 codewords
unacknowledged sends none (R394). -/
def controlSlot (d : Device) (p : Nat) : Device :=
  let x := d.port p
  let ms := sortBy (fun a b => decide (controlRank a.1 ≤ controlRank b.1)) x.ctlq
  let b := controlSlotBytes (ms.take 7)
  if ms.isEmpty || (d.portUp p && windowFull x) then d
  else
    let d := (d.modPort p (fun x => { x with ctlq := ms.drop 7, ctlGap := 0 })).send (.controlSlot p b)
    if d.portUp p then d.pushSlots p [(3, b)] else d.unnumbered p [(3, b)]

/-- R407: a slot boundary at which a packet is ready: a control slot, if 15 other slots have gone since the last one. -/
def busyBoundary (d : Device) (p : Nat) : Device :=
  let d := d.placeMessages
  if 15 ≤ (d.port p).ctlGap then d.controlSlot p else d

/-- R389, R407: the slot boundaries of a microsecond with no packet ready: everything that waits leaves, seven messages a slot, and
idle slots fill the last codeword (one such codeword stands for the microsecond's; log entry 88). -/
def idleBoundaries (d : Device) : Device :=
  let d := d.placeMessages
  forN 12 d (fun d p =>
    let d := forN ((d.port p).ctlq.length / 7 + 1) d (fun d _ => d.controlSlot p)
    let d := d.idleWord p
    if (d.port p).ctlGap = 15 then d else d.modPort p (fun x => { x with ctlGap := 15 }))

end Device

/-- What a step does with an empty queue: a microsecond passes. -/
def State.idle (s : State) : State := { s with dev := s.dev.tick.idleBoundaries }

end Sys2Proof.Machine
end

