-- ==== Sys2Proof/Machine/FlashOps.lean ====
section
/-! DEFINITION. The package flash (R453, R495), and what a reset leaves (R551). -/

namespace Sys2Proof.Machine

/-- The number of a record. -/
def recKey : FlashRec → Nat
  | .floor => 0 | .index => 1 | .creds => 2 | .hours => 3 | .delta => 4 | .trip => 5 | .shape => 6

/-- R453: the valid copy with the higher counter. -/
def FlashRecS.read (r : FlashRecS) : Option (List Byte) :=
  if r.a.ok && (!r.b.ok || decide (r.b.ctr ≤ r.a.ctr)) then some r.a.data
  else if r.b.ok then some r.b.data else none

/-- R453: the copy with the lower counter is overwritten and takes the higher counter plus 1; a write that does not complete
leaves that copy invalid. -/
def FlashRecS.write (r : FlashRecS) (data : List Byte) (complete : Bool) : FlashRecS :=
  let ca := if r.a.ok then r.a.ctr else 0
  let cb := if r.b.ok then r.b.ctr else 0
  let c : FlashCopy := { ctr := max ca cb + 1, ok := complete, data := data }
  if ca ≤ cb then { r with a := c } else { r with b := c }

/-! ### Physical positions by the repair record (R22, R23, R454): clusters 25 × die + p, cores 17 × cluster + position -/

namespace Thaw

/-- The hidden cluster of a die, and whether it is defective. -/
def hidCl (rep : List Byte) (die : Nat) : Nat := fieldB rep (0x40 + die) 1
def hidClBad (rep : List Byte) (die : Nat) : Bool := fieldB rep (0x44 + die) 1 == 1
/-- The hidden core of a physical cluster, and whether it is defective. -/
def hidCo (rep : List Byte) (c : Nat) : Nat := fieldB rep (0x48 + 2 * c) 2 % 32
def hidCoBad (rep : List Byte) (c : Nat) : Bool := bitOf (fieldB rep (0x48 + 2 * c) 2) 5

/-- R23: the position of a logical cluster while no test has excluded anything. -/
def provCluster (rep : List Byte) (k : Nat) : Nat :=
  let l := k % 24
  25 * (k / 24) + (if l < hidCl rep (k / 24) then l else l + 1)

/-- R23: likewise of a logical core. -/
def provCore (rep : List Byte) (g : Nat) : Nat :=
  let c := provCluster rep (g / 16)
  let l := g % 16
  17 * c + (if l < hidCo rep c then l else l + 1)

end Thaw

namespace Device

def flashRec (d : Device) (r : FlashRec) : Option (List Byte) := (Map.get {} d.flash.recs (recKey r)).read

/-- The number a record holds, 0 where no copy is valid. -/
def flashNum (d : Device) (r : FlashRec) : Nat := leNat ((d.flashRec r).getD [])

/-- R495: a block is erased once more; a block at 9,000 cycles raises 0x600E. -/
def eraseBlock (d : Device) (b : Nat) : Device :=
  let n := Map.get 0 d.flash.erase b + 1
  let d := { d with flash := { d.flash with erase := Map.set 0 d.flash.erase b n } }
  let d := if d.num 0x1C01 4 < n then d.setNum 0x1C01 4 0 n else d
  if n = 9000 then d.raise 0x600E 0 0 0 n else d

/-- R453, R495: a record is written into the next free block of the rotation. -/
def writeRec (d : Device) (r : FlashRec) (data : List Byte) (complete : Bool) : Device :=
  let d := { d with flash := { d.flash with
    recs := Map.upd {} d.flash.recs (recKey r) (fun x => x.write data complete),
    nextBlk := (d.flash.nextBlk + 1) % 4096 } }
  d.eraseBlock ((d.flash.nextBlk + 4095) % 4096)

/-- R551: all state but the package flash is lost; the island stands on its own supply and keeps its state (R523). -/
def wipe (d : Device) : Device :=
  { ({} : Device) with
    flash := d.flash, isl := d.isl, out := d.out, link := { placed := d.out.length }, time := { free := d.time.free } }

/-- Every domain but PD_MGMT off (R547): the units lose their content. -/
def domainsOff (d : Device) : Device :=
  let d := forN 1666 d (fun d i => (d.setNum 0x70C0 1 (i + 1) 2).setPd (i + 1) {})
  { d with
    mem := [], cores := [], clus := [], movq := [], seqs := [], link := { d.link with ports := [] },
    bg := { d.bg with arbs := [], storePorts := [] } }

end Device

def execFlashRecordWrite (r : FlashRec) (data : List Byte) (complete : Bool) (s : State) : Out :=
  s.run (fun d => d.writeRec r data complete)

end Sys2Proof.Machine
end

