-- ==== Sys2Proof/Machine/Power.lean ====
section
/-! DEFINITION. Power (chapter 16, R547 to R551): domain requests, clock and voltage of a die, protections, trips, resets. -/

namespace Sys2Proof.Machine

/-! ### Domains -/

/-- R479: the wake source of a request. -/
def wakeCode : PdSource → Nat
  | .thaw => 0 | .object _ => 1 | .admission => 2 | .substitution => 3 | .restore => 4 | .firmware => 6 | .peer => 7

/-- R476: a request, through the dictionary where a session writes PD_REQUEST. -/
def pdCommand (d : Device) (src : PdSource) (i v : Nat) : Device :=
  match src with
  | .object c => d.viaObject c 0x70C0 2 i v (fun d => d.pdRequest i v 1)
  | src => (d.pdRequest i v (wakeCode src)).1

def execPdRequestOn (src : PdSource) (d : Dom) (s : State) : Out := s.run (fun x => pdCommand x src (d + 1) 0)
def execPdRequestRetention (src : PdSource) (d : Dom) (s : State) : Out := s.run (fun x => pdCommand x src (d + 1) 1)
def execPdRequestOff (src : PdSource) (d : Dom) (s : State) : Out := s.run (fun x => pdCommand x src (d + 1) 2)
/-- R477: OFF_LOCKED. -/
def execOffLocked (src : PdSource) (d : Dom) (s : State) : Out := s.run (fun x => pdCommand x src (d + 1) 3)
def execPdRequestApply (d : Dom) (s : State) : Out := s.run (fun x => x.pdApplyWaiting (d + 1))
def execDomainGood (d : Dom) (s : State) : Out := s.run (fun x => x.pdGood (d + 1))

/-- R451, R474: a transition beyond its limit: while the Thaw runs the unit is held off; afterwards R474. -/
def execDomainTransitionTimeout (d : Dom) (s : State) : Out :=
  s.run (fun x =>
    let i := d.val + 1
    if !x.pdLate i then x
    else if x.runState = 0 then
        let x := (x.setNum 0x70C0 1 i 2).loseAll i
        match domKind i with
        | .cluster k => { x with thaw := { x.thaw with clBad := x.thaw.clBad ++ [Thaw.provCluster x.thaw.repair k] } }
        | .core g => { x with thaw := { x.thaw with coBad := x.thaw.coBad ++ [Thaw.provCore x.thaw.repair g] } }
        | _ => x.raise 0x6002 0x70C0 i (i + (x.pdS i).target * 2 ^ 16) 0
    else x.pdTimeout i)

/-- R479: a neighbour's DETECT wakes a port domain in retention, with wake source PEER. -/
def execNeighbourDetect (p : Port) (s : State) : Out :=
  s.run (fun d => if d.pdState (pdP p) = 1 then (d.pdRequest (pdP p) 0 7).1 else d)

/-! ### Clock and voltage (R480 to R483) -/

namespace Device

def freq (d : Device) (die : Nat) : Nat := d.num 0x1602 (die + 1)
def vcore (d : Device) (die : Nat) : Nat := d.num 0x1602 (die + 5)
def clkFloor (d : Device) : Nat := d.num 0x1302 5

/-- R480: V_plan(d, f) in 0.1 mV. -/
def vplan (d : Device) (die f : Nat) : Nat := fieldB (d.domOf 0x70C1 1 (die + 1)) (2 * ((f - 550) / 50)) 2

def dvSeq (d : Device) (die : Nat) : DvSeq := Map.get .idle d.pwr.seq die
def setDvSeq (d : Device) (die : Nat) (x : DvSeq) : Device :=
  { d with pwr := { d.pwr with seq := Map.set .idle d.pwr.seq die x } }

/-- The point the controller goes to: the target, held by a protection (R484) and by fmax (R491). -/
def dvGoal (d : Device) (die : Nat) : Nat :=
  let t := min (d.num 0x1601 (die + 1)) (d.num 0x1603 (die + 1))
  let c := Map.get 0 d.pwr.cap die
  if c = 0 then t else min t c

/-- R484, PWR_THROTTLE: [0] thermal, [1] power, [2] below floor, [3] HBM4. -/
def refreshThrottle (d : Device) : Device :=
  let any (f : Nat → Bool) : Bool := (List.range 4).any f
  let t := any (fun i => Map.get false d.pwr.episode i)
  let b := any (fun i => decide (d.freq i < d.clkFloor))
  let h := (List.range 16).any (fun i => Map.get false d.pwr.hbmThr i)
  d.setNum 0x1600 4 0 (b2n t + 2 * b2n d.pwr.exceeds.isSome + 4 * b2n b + 8 * b2n h)

def setFreq (d : Device) (die f : Nat) : Device := (d.setNum 0x1602 (die + 1) 0 f).refreshThrottle

/-- R481: a sequence toward the goal starts from the present clock and voltage. -/
def dvStart (d : Device) (die : Nat) : Device :=
  let goal := d.dvGoal die
  if goal < d.freq die then
    let d := d.setFreq die goal
    d.setDvSeq die (if d.vplan die goal < d.vcore die then .down goal else .idle)
  else if d.vcore die < d.vplan die goal then d.setDvSeq die (.up goal)
  else if d.freq die < goal then d.setDvSeq die (.settle goal)
  else d.setDvSeq die (if d.vplan die goal < d.vcore die then .down goal else .idle)

/-- A new goal while a sequence runs takes effect at its next step (R482). -/
def dvKick (d : Device) (die : Nat) : Device :=
  match d.dvSeq die with
  | .idle => d.dvStart die
  | _ => d

end Device

/-- R480: the twelve points. -/
def isPoint (mhz : Nat) : Bool := decide (550 ≤ mhz) && decide (mhz ≤ 1100) && mhz % 50 == 0

/-- R569: ARG0 of an event about a die and a point. -/
def pointArg (die mhz : Nat) : Nat := die + 1 + (mhz - 550) / 50 * 2 ^ 16

/-- R483: a point below the floor of the running plan. -/
def belowFloor (d : Device) (mhz : Nat) : Bool := (d.runState == 2 || d.runState == 3) && decide (mhz < d.clkFloor)

def targetHook (die mhz : Nat) (d : Device) : Device × Nat :=
  if !isPoint mhz then (d, stRange)
  else if belowFloor d mhz then (d.raise 0x6004 0x70C1 (die + 1) (pointArg die mhz) 0, stRange)
  else ((d.setNum 0x1601 (die + 1) 0 mhz).dvKick die, stOK)

def execPwrDieTargetMhz (c : Conn) (die : Die) (mhz : BitVec 16) (s : State) : Out :=
  s.run (fun d => d.viaObject c 0x1601 (die + 1) 0 mhz.toNat (targetHook die mhz.toNat))

/-- R481, R482: a direct write ends the sequence under way; the target takes the value of f_d. -/
def endSequence (d : Device) (die : Nat) : Device :=
  (d.setDvSeq die .idle).setNum 0x1601 (die + 1) 0 (d.freq die)

def freqHook (die mhz : Nat) (d : Device) : Device × Nat :=
  if !isPoint mhz then (d, stRange)
  else if belowFloor d mhz then (d.raise 0x6004 0x70C1 (die + 1) (pointArg die mhz) 0, stRange)
  else if d.vcore die < d.vplan die mhz then (d.raise 0x6003 0x70C1 (die + 1) (pointArg die mhz) (d.vcore die), stState)
  else (endSequence (d.setFreq die mhz) die, stOK)

def execPwrDieFreqMhz (c : Conn) (die : Die) (mhz : BitVec 16) (s : State) : Out :=
  s.run (fun d => d.viaObject c 0x4602 (die + 1) 0 mhz.toNat (freqHook die mhz.toNat))

def vcoreHook (die v : Nat) (d : Device) : Device × Nat :=
  if v % 25 ≠ 0 then (d, stRange)
  else if v < d.vplan die (d.freq die) then (d.raise 0x6003 0x70C1 (die + 1) (pointArg die (d.freq die)) v, stState)
  else (endSequence (d.setNum 0x1602 (die + 5) 0 v) die, stOK)

def execPwrDieVcore (c : Conn) (die : Die) (v : BitVec 16) (s : State) : Out :=
  s.run (fun d => d.viaObject c 0x4602 (die + 5) 0 v.toNat (vcoreHook die v.toNat))

/-- One step of 2.5 mV; a goal written meanwhile starts its own sequence instead (R482). -/
def execVcoreSlewStep (die : Die) (s : State) : Out :=
  s.run (fun d =>
    let v := d.vcore die
    match d.dvSeq die with
    | .up goal =>
      if d.dvGoal die ≠ goal then d.dvStart die
      else
        let d := d.setNum 0x1602 (die + 5) 0 (v + 25)
        if d.vplan die goal ≤ v + 25 then d.setDvSeq die (if d.freq die = goal then .idle else .settle goal) else d
    | .down goal =>
      if d.dvGoal die ≠ goal then d.dvStart die
      else if v ≤ d.vplan die goal then d.setDvSeq die .idle
      else
        let d := d.setNum 0x1602 (die + 5) 0 (v - 25)
        if v - 25 ≤ d.vplan die goal then d.setDvSeq die .idle else d
    | _ => d)

/-- R481: after 1 µs the clock switches; a target written during the wait starts its sequence from there (R482). -/
def execSettleDone (die : Die) (s : State) : Out :=
  s.run (fun d => match d.dvSeq die with
    | .settle goal =>
      if d.vcore die < d.vplan die goal then d.setDvSeq die (.up goal)
      else ((d.setFreq die goal).setDvSeq die .idle).dvStart die
    | _ => d)

/-! ### Thermal and power protection (R484, R485) -/

namespace Device

/-- The hottest junction that concerns a compute die, plus 1,000; 0 before any reading. -/
def dieJunction (d : Device) (die : Nat) : Nat := max (Map.get 0 d.pwr.tj die) (Map.get 0 d.pwr.tj (4 + die / 2))

/-- The throttle threshold in force, plus 1,000. -/
def tThrottle (d : Device) : Nat := (sgnOf 8 (d.force 0x1600 5) + 1000).toNat

/-- Episodes of one die after a reading: 0x6005 once per episode, 0x6006 at 105 °C. -/
def thermalDie (d : Device) (die : Nat) : Device :=
  let j := d.dieJunction die
  let t := d.tThrottle
  let ep := Map.get false d.pwr.episode die
  let hot := Map.get false d.pwr.hot die
  let setEp (d : Device) (e h : Bool) : Device := { d with pwr := { d.pwr with
    episode := Map.set false d.pwr.episode die e, hot := Map.set false d.pwr.hot die h } }
  let d' := setEp d (if t ≤ j then true else if j ≤ t - 5 then false else ep) (decide (1105 ≤ j))
  let d' := if t ≤ j && !ep then d'.raise 0x6005 0x70C1 (die + 1) (die + 1) (ofSgn 48 ((j : Int) - 1000)) else d'
  if 1105 ≤ j && !hot then d'.raise 0x6006 0x70C1 (die + 1) (die + 1 + b2n (decide (d.freq die ≤ d.clkFloor)) * 2 ^ 24) (ofSgn 48 ((j : Int) - 1000)) else d'

/-- PWR_TJ_MAX_C: the hottest junction of the last readings. -/
def refreshTj (d : Device) : Device :=
  let m := (List.range 6).foldl (fun m i => max m (Map.get 0 d.pwr.tj i)) 0
  d.setNum 0x1600 3 0 (ofSgn 8 ((m : Int) - 1000))

/-- R484: an input reading. -/
def inputReading (d : Device) (ms sec : Nat) : Device :=
  let lim := d.force 0x1600 2
  let d := d.setNum 0x1600 1 0 sec
  if ms > 3300 || sec > lim then
    match d.pwr.exceeds with
    | none => ({ d with pwr := { d.pwr with exceeds := some d.time.nowNs, inputLow := false } }).raise 0x6008 0 0 0 sec
    | some t =>
      if t + 10000000 ≤ d.time.nowNs && !d.pwr.overFloor then
        ({ d with pwr := { d.pwr with overFloor := true } }).raise 0x6008 0 0 (2 ^ 24) sec
      else d
  else
    { d with pwr := { d.pwr with
      exceeds := none, overFloor := false, inputLow := decide (20 * sec ≤ 19 * lim) && decide (20 * ms ≤ 19 * 3300) } }

end Device

def execThermalSensorRead (r : SensorReading) (s : State) : Out :=
  s.run (fun d => match r with
    | .junction die c =>
      let d := { d with pwr := { d.pwr with tj := Map.set 0 d.pwr.tj die (c + 1000).toNat } }
      (d.refreshTj.thermalDie die).refreshThrottle
    | .hub h c =>
      let d := { d with pwr := { d.pwr with tj := Map.set 0 d.pwr.tj (4 + h) (c + 1000).toNat } }
      ((d.refreshTj.thermalDie (2 * h)).thermalDie (2 * h + 1)).refreshThrottle
    | .input ms sec => (d.inputReading ms sec).refreshThrottle)

/-- R484, each 1 ms: 50 MHz down while a condition persists, not below its floor; 50 MHz toward the target once it is past. -/
def execThrottleStep (die : Die) (s : State) : Out :=
  s.run (fun d =>
    let j := d.dieJunction die
    let t := d.tThrottle
    let exceeds := d.pwr.exceeds.isSome
    let setCap (d : Device) (c : Nat) : Device := ({ d with pwr := { d.pwr with cap := Map.set 0 d.pwr.cap die c } }).dvKick die
    if t ≤ j || exceeds then
      let floor := if 1105 ≤ j || d.pwr.overFloor then 550 else max 550 d.clkFloor
      if floor < d.freq die then setCap d (max floor (d.freq die - 50)) else d
    else if j ≤ t - 5 && d.pwr.inputLow then
      let c := Map.get 0 d.pwr.cap die
      if c = 0 then d
      else if d.num 0x1601 (die + 1) ≤ c + 50 then setCap d 0 else setCap d (c + 50)
    else d)

/-- R485. -/
def execHbmTempReport (h : Stack) (tempC : Int) (s : State) : Out :=
  s.run (fun d =>
    let thr := Map.get false d.pwr.hbmThr h
    let d := d.setNum 0x70A0 4 (h + 1) (ofSgn 8 tempC)
    let d := { d with pwr := { d.pwr with hbmT := Map.set 0 d.pwr.hbmT h (tempC + 1000).toNat } }
    let set (d : Device) (b : Bool) : Device :=
      ({ d with pwr := { d.pwr with hbmThr := Map.set false d.pwr.hbmThr h b } }).refreshThrottle
    if 95 < tempC then
      (if thr then d else (set d true).raise 0x6007 0x70A0 (h + 1) (pdH h) (ofSgn 48 tempC))
    else if tempC ≤ 90 then set d false
    else d)

/-! ### Trips, undervoltage, resets (R547 to R551) -/

def tripBit : TripCause → Nat
  | .junction => 0 | .current => 1 | .voltage => 2 | .rail => 3 | .converter => 4

/-- R547: the value lies where the hardware trips: °C of a junction, mA, mV, 0.1 mV of a core rail. -/
def tripReached (cause : TripCause) (v : Nat) : Bool :=
  match cause with
  | .junction => decide (115 ≤ v)
  | .current => decide (95000 ≤ v)
  | .voltage => decide (62000 ≤ v)
  | .rail => decide (v < 5500) || decide (9000 < v)
  | .converter => true

/-- R547: converters off, TRIP_N low, LOST, the cause kept in the flash, and 0x600F, which counts in PWR_TRIPS (R575). -/
def execHardwareTrip (cause : TripCause) (die : Die) (value : Nat) (s : State) : Out :=
  s.run (fun d =>
    if d.pwr.trip || !tripReached cause value then d
    else
      let c := 2 ^ tripBit cause
      let v := match cause with
        | .converter => 0
        | _ => value
      let d := ({ d.domainsOff with pwr := { d.domainsOff.pwr with trip := true } })
      let d := d.setNum 0x1605 1 0 c
      let d := d.writeRec .trip (leBytes 1 c ++ leBytes 4 ((d.num 0x1605 2 + 1) % 2 ^ 32)) true
      let ua := match cause with
        | .junction => 0x70C1
        | .rail => 0x70C1
        | _ => 0
      ({ d.raise 0x600F ua (if ua = 0 then 0 else die + 1) (if ua = 0 then 0 else die + 1) v with alert := true }).send .reportLost)

/-- R548: below 38 V everything is off and nothing is written, until a Thaw. -/
def execInputUndervoltage (mv : Nat) (s : State) : Out :=
  s.run (fun d => if mv < 38000 then { d.wipe with pwr := { pwrgood := d.pwr.pwrgood, resetn := d.pwr.resetn, vinMv := mv } }
    else d)

/-- R551: RESET_N low: all state but the flash is lost, TRIP_N is released. -/
def execResetNLow (s : State) : Out :=
  s.run (fun d => { d.wipe with pwr := { pwrgood := d.pwr.pwrgood, resetn := false, vinMv := d.pwr.vinMv } })

/-- R551: PWRGOOD low: every converter off. -/
def execPwrgoodLow (s : State) : Out :=
  s.run (fun d => { d.wipe with pwr := { pwrgood := false, resetn := d.pwr.resetn, vinMv := d.pwr.vinMv } })

end Sys2Proof.Machine
end

