-- ==== Sys2Proof/Machine/AgeOps.lean ====
section
/-! DEFINITION. Ageing (R486 to R491): readings, load deltas, the margin planner, and how its plan is applied. -/

namespace Sys2Proof.Machine

/-- R487: 0 IDLE, 1 PARTIAL, 2 FULL, by the VCORE current in mA. -/
def loadClass (ma : Nat) : Nat := if ma < 120000 then 0 else if ma < 420000 then 1 else 2

/-- The newest reading of the hour, and what lies back to the reading of 1,000 hours earlier (R487). -/
def pushVmin (l : List Vmin) (r : Vmin) : List Vmin :=
  let l := match l with
    | x :: xs => if x.hour = r.hour then xs else l
    | [] => []
  let young := l.filter (fun x => decide (r.hour < x.hour + 1000))
  let old := l.filter (fun x => !decide (r.hour < x.hour + 1000))
  r :: young ++ old.take 1

namespace Device

def hours (d : Device) : Nat := d.num 0x1C00 1

def readings (d : Device) (die pt cls : Nat) : List Vmin := Map.get [] d.age.readings (64 * die + 4 * pt + cls)
/-- The latest reading of a class at a point. -/
def reading (d : Device) (die pt cls : Nat) : Option Vmin := (d.readings die pt cls).head?

/-- R489: the delta of a load class in µV, and whether it is valid. -/
def ageDelta (d : Device) (die cls : Nat) : Int := Map.get 0 d.age.delta (2 * die + cls)
def deltaValid (d : Device) (die cls : Nat) : Bool := decide (4 ≤ Map.get 0 d.age.updates (2 * die + cls))

/-- R488, `drift` of the pseudocode, in µV, within the load class of the reading used (log entry 25). -/
def ageDrift (d : Device) (die pt cls : Nat) : Int :=
  match d.reading die pt cls, (d.readings die pt cls).find? (fun r => decide (r.hour + 1000 ≤ d.hours)) with
  | some r, some old => max 1000 (r.uv - old.uv)
  | _, _ => 5000

/-- R489: Δ ← Δ + (new − Δ) / 4 where both readings were taken within the same 24 hours. -/
def updateDelta (d : Device) (die pt cls : Nat) : Device :=
  match d.reading die pt 2, d.reading die pt cls with
  | some f, some r =>
    if f.hour < r.hour + 24 && r.hour < f.hour + 24 then
      let old := d.ageDelta die cls
      let key := 2 * die + cls
      { d with age := { d.age with
          delta := Map.set 0 d.age.delta key (old + ((f.uv - r.uv) - old) / 4),
          updates := Map.upd 0 d.age.updates key (· + 1) } }
    else d
  | _, _ => d

/-- R499: the objects of a die's load-delta table. -/
def showDelta (d : Device) (die : Nat) : Device :=
  let d := d.setNum 0x70C1 2 (die + 1) (ofSgn 16 (d.ageDelta die 0 / 100))
  let d := d.setNum 0x70C1 3 (die + 1) (ofSgn 16 (d.ageDelta die 1 / 100))
  d.setNum 0x70C1 4 (die + 1) (b2n (d.deltaValid die 0) + 2 * b2n (d.deltaValid die 1))

/-- R489: the load-delta table as a device-written record. -/
def deltaBytes (d : Device) : List Byte :=
  (List.range 8).flatMap (fun i => leBytes 4 (ofSgn 32 (Map.get 0 d.age.delta i)) ++ leBytes 4 (Map.get 0 d.age.updates i))

/-- The table as the flash holds it, at the Thaw. -/
def loadAge (d : Device) : Device :=
  let b := (d.flashRec .delta).getD []
  let d := d.setNum 0x1C00 1 0 (d.flashNum .hours)
  let d := d.setNum 0x1C01 4 0 (d.flash.erase.foldl (fun m e => max m e.2) 0)
  let d := forN (b.length / 8) d (fun d i => { d with age := { d.age with
    delta := Map.set 0 d.age.delta i (sgnOf 32 (fieldB b (8 * i) 4)),
    updates := Map.set 0 d.age.updates i (fieldB b (8 * i + 4) 4) } })
  forN 4 d showDelta

/-- R488: a point's voltage in 0.1 mV, and the reading that could not be used. -/
def planPoint (d : Device) (die pt : Nat) : Nat × Option Vmin :=
  let g : Int := 1000 * d.force 0x1C00 5
  let fresh (r : Vmin) : Bool := decide (d.hours ≤ r.hour + 1000)
  let part := match d.reading die pt 1 with
    | some r => some (r, 1)
    | none => (d.reading die pt 0).map (fun r => (r, 0))
  let factory : Int := Config.marginBase die pt + 1000 * d.num 0x1C00 6
  let volts (v : Int) : Nat := max 6200 ((v.toNat + 2499) / 2500 * 25)
  let rest : Nat × Option Vmin := match part with
    | some (r, cls) =>
      if fresh r && d.deltaValid die cls then (volts (r.uv + d.ageDelta die cls + g + d.ageDrift die pt cls), none)
      else (volts factory, some r)
    | none => (volts factory, none)
  match d.reading die pt 2 with
  | some f => if fresh f then (volts (f.uv + g + d.ageDrift die pt 2), none) else rest
  | none => rest

/-- R488: the planner for one die. -/
def planDie (d : Device) (die : Nat) : Device :=
  let d := forN 12 d (fun d pt => (d.updateDelta die pt 0).updateDelta die pt 1)
  let d := (d.showDelta die).writeRec .delta d.deltaBytes true
  let plan := (List.range 12).map (fun pt => d.planPoint die pt)
  let d := forN 12 d (fun d pt => match (plan.getD pt (0, none)).2 with
    | some r => d.raise 0x600A 0x70C1 (die + 1) (pointArg die (550 + 50 * pt)) (ofSgn 48 (r.uv / 100))
    | none => d)
  let d := d.setNum 0x1C00 2 0 d.hours
  { d with age := { d.age with
      next := Map.set [] d.age.next die (plan.map (·.1)), due := Map.set false d.age.due die false } }

/-- V_plan of a die at the twelve points. -/
def vplans (d : Device) (die : Nat) : List Nat := (List.range 12).map (fun pt => d.vplan die (550 + 50 * pt))
def setVplans (d : Device) (die : Nat) (l : List Nat) : Device :=
  d.setDom 0x70C1 1 (die + 1) (l.flatMap (leBytes 2))

/-- R488: the highest point whose V_plan is at most 850 mV, 0 none. -/
def fmaxOf (l : List Nat) : Nat :=
  (List.range 12).foldl (fun m pt => if l.getD pt 0 ≤ 8500 then 550 + 50 * pt else m) 0

/-- R491: fmax of a die from the V_plan in force: a fall lowers the target, below 1,100 MHz it is reported, at 0 the device
is LOST. -/
def applyFmax (d : Device) (die : Nat) : Device :=
  let old := d.num 0x1603 (die + 1)
  let f := fmaxOf (d.vplans die)
  let d := d.setNum 0x1603 (die + 1) 0 f
  let d := if f < old && f < 1100 then d.raise 0x600C 0x70C1 (die + 1) (die + 1) 0 else d
  if f = 0 then (d.setNum 0x1100 1 0 4).send .reportLost
  else if f < d.num 0x1601 (die + 1) then d.setNum 0x1601 (die + 1) 0 f else d

/-- R491: a new plan of a die takes effect: with `full`, all of it; else only what rises. -/
def applyMargin (d : Device) (die : Nat) (full : Bool) : Device :=
  match Map.get [] d.age.next die with
  | [] => d
  | new =>
    let old := d.vplans die
    let now := if full then new else List.zipWith max old new
    if !full && now = old then d
    else
      let d := d.setVplans die now
      let d := { d with age := { d.age with next := Map.set [] d.age.next die (if now = new then [] else new) } }
      let d := (d.raise 0x6009 0x70C1 (die + 1) (die + 1) 0).applyFmax die
      if d.num 0x1603 (die + 1) = 0 then d else d.dvKick die

/-- R490: a canary below 10 ps: V_plan rises by 10 mV at every point at once. -/
def bumpVplan (d : Device) (die : Nat) : Device :=
  (d.setVplans die ((d.vplans die).map (fun v => min (v + 100) 65535))).dvKick die

/-- R490: the planner is to run for a die. -/
def planDue (d : Device) (die : Nat) : Device := { d with age := { d.age with due := Map.set false d.age.due die true } }

end Device

end Sys2Proof.Machine
end

