-- ==== Sys2Proof/Machine/Shake.lean ====
section
/-! DEFINITION. SHAKE256, which R226, R353 and chapter 15 name without defining it: the extendable-output function of
FIPS 202. PRESUMED (log entry 8). -/

namespace Sys2Proof.Machine

/-- A lane of 64 bits turned left by `n` places, `n` taken modulo 64. -/
def turn64 (v n : Nat) : Nat := (v * 2 ^ (n % 64)) % 2 ^ 64 + v / 2 ^ (64 - n % 64) % 2 ^ 64

/-- Step theta: every lane takes in the parity of the column before it and, turned by 1, of the column after it. The state is
its 25 lanes, those of one row of five next to each other. -/
def theta (st : List Nat) : List Nat :=
  let parity := (List.range 5).map (fun col => (List.range 5).foldl (fun p row => p ^^^ st.getD (5 * row + col) 0) 0)
  st.zipIdx.map (fun l =>
    l.1 ^^^ parity.getD ((l.2 + 4) % 5) 0 ^^^ turn64 (parity.getD ((l.2 + 1) % 5) 0) 1)

/-- Where step pi sends lane number `i`. -/
def piTarget (i : Nat) : Nat := i / 5 + 5 * ((2 * i + 3 * (i / 5)) % 5)

/-- Steps rho and pi together, as one walk from lane 1 along pi: the k-th lane met is turned by the k-th triangular number. -/
def rhoPi (st : List Nat) : List Nat :=
  ((List.range 24).foldl (fun (w : Nat × List Nat) k =>
    (piTarget w.1, w.2.set (piTarget w.1) (turn64 (st.getD w.1 0) ((k + 1) * (k + 2) / 2)))) (1, st)).2

/-- Step chi: within a row, a lane takes in the second lane after it where the lane after it is 0. -/
def chi (st : List Nat) : List Nat :=
  st.zipIdx.map (fun l =>
    let at' (k : Nat) : Nat := st.getD (l.2 / 5 * 5 + (l.2 + k) % 5) 0
    l.1 ^^^ (at' 2 - (at' 1 &&& at' 2)))

/-- The shift register behind step iota: one bit leaves, x^8 + x^6 + x^5 + x^4 + 1 feeds back. -/
def iotaNext (r : Nat) : Nat := if 128 ≤ r then (2 * r) ^^^ 0x171 else 2 * r

/-- The constant of a round whose register is `r`, and the register of the next: seven bits go to places 2^j - 1. -/
def iotaConst (r : Nat) : Nat × Nat :=
  (List.range 7).foldl (fun (x : Nat × Nat) j => (x.1 + x.2 % 2 * 2 ^ (2 ^ j - 1), iotaNext x.2)) (0, r)

/-- The permutation: 24 rounds, the register of step iota carried from one to the next. -/
def keccakF (st : List Nat) : List Nat :=
  ((List.range 24).foldl (fun (w : List Nat × Nat) _ =>
    let c := iotaConst w.2
    let t := chi (rhoPi (theta w.1))
    (t.set 0 (t.headD 0 ^^^ c.1), c.2)) (st, 1)).1

/-- The rate of SHAKE256 in bytes. -/
def rate256 : Nat := 136

/-- Take in the blocks of a padded message, one permutation after each. -/
def takeBlocks : Nat → List Nat → List Byte → List Nat
  | 0, st, _ => st
  | n + 1, st, m =>
    let blk := m.take rate256
    takeBlocks n (keccakF (st.zipIdx.map (fun l => l.1 ^^^ leNat ((blk.drop (8 * l.2)).take 8)))) (m.drop rate256)

/-- Give out blocks, one permutation between two. -/
def giveBlocks : Nat → List Nat → List Byte
  | 0, _ => []
  | n + 1, st => (st.take 17).flatMap (leBytes 8) ++ giveBlocks n (keccakF st)

/-- SHAKE256 of a message, `n` output bytes: the message, the bits 1111 and padding from 1 to 1 up to whole blocks. -/
def shake256 (msg : List Byte) (n : Nat) : List Byte :=
  let gap := rate256 - 1 - msg.length % rate256
  let tail : List Byte := if gap = 0 then [0x9F] else 0x1F :: (List.replicate (gap - 1) 0 ++ [0x80])
  (giveBlocks (n / rate256 + 1) (takeBlocks (msg.length / rate256 + 1) (List.replicate 25 0) (msg ++ tail))).take n

end Sys2Proof.Machine
end

