-- ==== Sys2Proof/Machine/RngOps.lean ====
section
/-! DEFINITION. The RNG bank (R224 to R232, R240, R241): generator, seeds, contexts, draws. -/

namespace Sys2Proof.Machine

/-- R224: one bit of a step: rule 150 where the mask bit is 1, rule 30 where it is 0. -/
def caCell (mask x : W32) (c : Nat) : Bool :=
  let l := x.getLsbD (c + 1)
  let m := x.getLsbD c
  let r := decide (0 < c) && x.getLsbD (c - 1)
  if mask.getLsbD c then l ^^ m ^^ r else l ^^ (m || r)

/-- R224: one step of the automaton; a zero state is replaced by 1. -/
def caStep (mask x : W32) : W32 :=
  let y := (List.range 32).foldl (fun (y : Nat) c => y + b2n (caCell mask x c) * 2 ^ c) 0
  if y = 0 then 1 else BitVec.ofNat 32 y

/-- R225: bit j of the word is cell 2j + 1 of the new state. -/
def laneWord (x : W32) : Nat :=
  (List.range 16).foldl (fun y j => y + b2n (x.getLsbD (2 * j + 1)) * 2 ^ j) 0

def ruleMask : W32 := 0x6A5C93E1

/-- R235: one word more in a lane. -/
def Lane.refill (l : Lane) : Lane :=
  let x := caStep ruleMask l.x
  { x := x, ready := l.ready + laneWord x * 2 ^ l.n, n := l.n + 16 }

/-- R232: the next r bits, the first taken as the least significant. -/
def Lane.take (l : Lane) (r : Nat) : Nat × Lane :=
  (l.ready % 2 ^ r, { l with ready := l.ready / 2 ^ r, n := l.n - r })

/-- Take r ≤ 16 bits, refilling first where fewer are ready. -/
def Lane.draw (l : Lane) (r : Nat) : Nat × Lane := (if l.n < r then l.refill else l).take r

/-- R226: the message from which the lane seeds are derived. -/
def seedMsg (seed : List Byte) (member sid step layer : Nat) : List Byte :=
  [0x01] ++ seed ++ leBytes 2 member ++ leBytes 2 sid ++ leBytes 6 step ++ leBytes 2 layer

/-- R226: the 256 lane seeds, a seed of 0 replaced by 1. -/
def laneSeeds (seed : List Byte) (member sid step layer : Nat) : List W32 :=
  let out := shake256 (seedMsg seed member sid step layer) 1024
  (List.range 256).map (fun l =>
    let v := fieldB out (4 * l) 4
    if v = 0 then 1 else BitVec.ofNat 32 v)

/-- R228: an entry of a stream table. -/
structure StreamEnt where
  kind : Nat
  uses : Nat
  p : Nat
  deriving DecidableEq, Repr

/-- R227, R228: the entry of a handle in a table of `n` entries. -/
def findStream (tab : List Byte) (handle : W32) : Nat → Nat → Option StreamEnt
  | 0, _ => none
  | n + 1, i =>
    if fieldB tab (16 * i) 2 = handle.toNat / 65536 && fieldB tab (16 * i + 2) 2 = handle.toNat % 65536 then
      some { kind := fieldB tab (16 * i + 4) 1, uses := fieldB tab (16 * i + 5) 1, p := fieldB tab (16 * i + 8) 4 }
    else findStream tab handle n (i + 1)

/-- R227: a handle with stream id 0 names no stream. -/
def noStream (handle : W32) : Bool := handle.toNat / 65536 == 0

/-- R241: count delivered bits; answers the context and how many windows of 65,536 broke the balance. -/
def Ctx.deliver (c : Ctx) : Nat → Nat → Ctx × Nat
  | 0, _ => (c, 0)
  | n + 1, v =>
    let ones := c.ones + v % 2
    if c.bits + 1 = 65536 then
      let bad := decide (ones + 1024 < 32768) || decide (32768 + 1024 < ones)
      let x := deliver { c with bits := 0, ones := 0 } n (v / 2)
      (x.1, x.2 + b2n bad)
    else deliver { c with bits := c.bits + 1, ones := ones } n (v / 2)

/-- A running draw: the context, bits delivered and balance faults so far. -/
structure Drawing where
  ctx : Ctx
  bits : Nat := 0
  faults : Nat := 0
  deriving DecidableEq, Repr

/-- R231, R232: r bits of lane λ. -/
def Drawing.take (w : Drawing) (lane r : Nat) : Nat × Drawing :=
  let l := w.ctx.lanes.getD lane {}
  let x := l.draw r
  let c := { w.ctx with lanes := w.ctx.lanes.set lane x.2 }
  let y := c.deliver r x.1
  (x.1, { ctx := y.1, bits := w.bits + r, faults := w.faults + y.2 })

namespace Device

/-- R228: the entry of a handle in the stream table of cluster `k`. -/
def stream (d : Device) (k : Nat) (handle : W32) : Option StreamEnt :=
  if noStream handle then none
  else
    let tab := d.domOf 0x7060 1 (k + 1)
    findStream tab handle (tab.length / 16) 0

def unitCtx (d : Device) (k u : Nat) : UnitCtx := Map.get {} (d.clu k).ctx u
def setUnitCtx (d : Device) (k u : Nat) (x : UnitCtx) : Device :=
  d.modClu k (fun c => { c with ctx := Map.set {} c.ctx u x })

/-- R226: the context of a handle with the seeds of the present step; the device seed is that of the last admission (R243). -/
def deriveCtx (d : Device) (handle : W32) : Ctx :=
  let seeds := laneSeeds d.adm.seed (d.num 0x1B00 2) (handle.toNat / 65536) d.cad.step (handle.toNat % 65536)
  { handle := handle, step := d.cad.step, lanes := seeds.map (fun x => { x := x }), start := seeds }

/-- R229, R240: a context of `handle` becomes current in unit `u`; the opening is counted, and one beyond USES raises
0x2110. The seeds are those of the step in which the stream is opened. -/
def openCtx (d : Device) (k u : Nat) (handle : W32) (e : StreamEnt) : Device :=
  let x := d.unitCtx k u
  let c := match x.shadow with
    | some c => if c.handle = handle ∧ c.step = d.cad.step then c else d.deriveCtx handle
    | none => d.deriveCtx handle
  let d := d.setUnitCtx k u { cur := some c, shadow := none }
  let opens := if (d.clu k).opensStep = d.cad.step then (d.clu k).opens else []
  let n := Map.get 0 opens handle.toNat + 1
  let d := d.modClu k (fun cl => { cl with opens := Map.set 0 opens handle.toNat n, opensStep := d.cad.step })
  let d := d.addNum 0x7060 4 (k + 1) 1
  if e.uses < n then d.raise 0x2110 0x7060 (k + 1) 0 handle.toNat else d

/-- The unit's current context under `handle`, opened where it is not; none where the handle is absent from the table, with
event 0x2111 (R240). -/
def currentCtx (d : Device) (k u : Nat) (handle : W32) : Device × Option Ctx :=
  match d.stream k handle with
  | none => (d.raise 0x2111 0x7060 (k + 1) 0 handle.toNat, none)
  | some e =>
    match (d.unitCtx k u).cur with
    | some c =>
      if c.handle = handle then (d, some c)
      else
        let d := d.openCtx k u handle e
        (d, (d.unitCtx k u).cur)
    | none =>
      let d := d.openCtx k u handle e
      (d, (d.unitCtx k u).cur)

/-- The context of a handle in unit `u`: current, or prepared as the shadow. -/
def ctxOf (d : Device) (k u : Nat) (handle : W32) : Option Ctx :=
  let x := d.unitCtx k u
  let own (c : Option Ctx) : Option Ctx := match c with | some c => if c.handle = handle then some c else none | none => none
  match own x.cur with
  | some c => some c
  | none => own x.shadow

/-- R237: the context of `handle` is current in unit `u` or prepared, or the table has no such handle (R240). -/
def ctxReady (d : Device) (k u : Nat) (handle : W32) : Bool := (d.stream k handle).isNone || (d.ctxOf k u handle).isSome

/-- R237: a draw of `r` bits for each element can begin: the context is there, and each lane that draws holds them ready. What the
operation draws after that comes from its refills (log entry 23). -/
def bitsReady (d : Device) (k u : Nat) (handle : W32) (r : Nat) (draws : Nat → Bool) : Bool :=
  (d.stream k handle).isNone || (match d.ctxOf k u handle with
    | some c => (List.range 256).all (fun i => !draws i || decide (r ≤ (c.lanes.getD i {}).n))
    | none => false)

/-- R237: one fabric cycle in which a drawing unit waits for bits. -/
def starve (d : Device) (k : Nat) : Device := d.addNum 0x7060 3 (k + 1) 1

/-- R229, R237: an operation is held for its bits; at its first draw a prepared shadow becomes current, to be refilled. -/
def holdDraw (d : Device) (k u : Nat) (handle : W32) : Device :=
  let d := d.starve k
  if (d.ctxOf k u handle).isSome then (d.currentCtx k u handle).1 else d

/-- R230: every context is lost; the openings are made again. -/
def loseContexts (d : Device) : Device := { d with clus := d.clus.map (fun e => (e.1, { e.2 with ctx := [] })) }

/-- R240: the openings of the step are counted anew: a restore has gone back to an earlier step index. -/
def forgetOpens (d : Device) : Device := { d with clus := d.clus.map (fun e => (e.1, { e.2 with opens := [] })) }

/-- Put back the context after its draws: bits delivered, balance faults with event 0x2112, its handle and drawing unit (R241); R569
gives the unit no place in DETAIL: it stands in ARG1 [47:32] (DESIGN CHOICE, log entry 70). -/
def endDraw (d : Device) (k u : Nat) (w : Drawing) : Device :=
  let d := d.setUnitCtx k u { d.unitCtx k u with cur := some w.ctx }
  let d := d.addNum 0x7060 2 (k + 1) w.bits
  forN w.faults d (fun d _ => d.raise 0x2112 0x7060 (k + 1) 0 (w.ctx.handle.toNat + u * 2 ^ 32))

end Device

/-- R55 to R58, R231: round a list of values, element `i` drawing from lane `lane i`, in order, lanes refilled as they run
short. Without a stream the rounding is RNE: R138 for handle 0 (raised by the caller), R240 for an absent handle. -/
def Device.srRound (d : Device) (k u : Nat) (handle : W32) (tg : Target) (rm : RMode) (r : Nat) (lane : Nat → Nat)
    (vs : List Num) : Device × List Rounded :=
  let plain (m : RMode) : List Rounded := vs.map (roundTo tg m r 0)
  if rm != .sr then (d, plain rm)
  else if noStream handle || !vs.any (srDraws tg) then (d, plain .rne)
  else
    match d.currentCtx k u handle with
    | (d, none) => (d, plain .rne)
    | (d, some c) =>
      let w := vs.zipIdx.foldl (fun (acc : List Rounded × Drawing) x =>
        if srDraws tg x.1 then
          let y := acc.2.take (lane x.2) r
          (acc.1 ++ [roundTo tg .sr r y.1 x.1], y.2)
        else (acc.1 ++ [roundTo tg .rne r 0 x.1], acc.2)) ([], { ctx := c })
      (d.endDraw k u w.2, w.1)

/-- R232: bit k of a SIGN stream: bit ⌊k/256⌋ of lane k mod 256, read by index. -/
def laneBit : W32 → Nat → Bool
  | x, i => laneWordAt x (i / 16) |>.testBit (i % 16)
where
  laneWordAt : W32 → Nat → Nat
  | x, 0 => laneWord (caStep ruleMask x)
  | x, n + 1 => laneWordAt (caStep ruleMask x) n

/-- R229: the drawing unit numbers of an engine and of a vector unit of local core `l`. -/
def engUnit (l e : Nat) : Nat := 8 * l + e
def vecUnit (l : Nat) : Nat := 128 + l
def cvtUnit : Nat := 144
def rotUnit : Nat := 145
def maskUnit : Nat := 146

end Sys2Proof.Machine
end

