-- ==== Sys2Proof/Machine/Matrix.lean ====
section
/-! DEFINITION. The matrix engine (chapter 03): issue of accumulates, drains and table loads, and their completion. Accumulates
leave an engine's queue in order, and so do drains and table loads; one overtakes another kind where they use different slots
(R78). An operation whose operands are not there stays in the queue and counts its stall cause. -/

namespace Sys2Proof.Machine

namespace Device

/-- R161: the cause counted for a wait on a frame: its cause tag. -/
def frameStall (d : Device) (g f : Nat) : Device := d.addStall g (d.frameTag g f) 1

/-- Take operation `i` off an engine's queue; the drain unit's reports go out when the queue empties (R191). -/
def popEng (d : Device) (g e i : Nat) : Device :=
  let q := ((d.core g).queue e).eraseIdx i
  let d := d.modCore g (fun c => c.setQueue e q)
  if q.isEmpty then d.flushReports g e else d

/-- R191: a four-entry buffer keyed by TSID; the oldest entry is displaced (log entry 21). -/
def bufferReport (d : Device) (g e : Nat) (r : Report) : Device :=
  let rs := Map.get [] (d.core g).reports e
  let put (rs : List Report) : Device := d.modCore g (fun c => { c with reports := Map.set [] c.reports e rs })
  if rs.any (fun x => x.tsid == r.tsid) then
    put (rs.map (fun x => if x.tsid = r.tsid then { x with smax := max x.smax r.smax, sats := x.sats + r.sats } else x))
  else if rs.length < 4 then put (rs ++ [r])
  else
    let o := rs.headD {}
    (put (rs.drop 1 ++ [r])).reportLine (clusterOf g) o.tsid o.smax o.sats

end Device

/-! ### Issue -/

/-- R37, R38: a format code or width that is reserved. -/
def reservedFmt (fmt width : Nat) : Bool :=
  decide (0x0A ≤ fmt) || (fmt == fmtINT && (width == 0 || decide (9 ≤ width)))

/-- R112: an operation joins its engine's queue of 8; a full queue makes the thread wait and issue again. -/
def queueEng (d : Device) (g t e : Nat) (op : EngOp) : Device :=
  let q := (d.core g).queue e
  if 8 ≤ q.length then d.waitQueue g t (.eng e)
  else (d.modCore g (fun c => c.setQueue e (q ++ [op]))).advance g t

/-- The element container an instruction's format names; a format without one is walked as 8 bits. -/
def contBits (fmt width : Nat) : Nat := let b := fmtBits fmt width; if b = 0 then 8 else b

/-- R118, R150: sub-blocks along the walk, and bands, of operand A (`isA`) or B under TRANS. -/
def walkLen (isA trans : Bool) (cb : Nat) : Nat := if isA != trans then subCols cb else 4
def bandCount (isA trans : Bool) (cb : Nat) : Nat := if isA != trans then 4 else subCols cb

/-- R140: an operand descriptor beyond its tile. -/
def opDescBad (isA : Bool) (cb : Nat) (o : OpDesc) : Bool :=
  decide (240 ≤ o.frame) || decide (bandCount isA o.trans cb ≤ o.band) || decide (walkLen isA o.trans cb ≤ o.start)

def execAccumulate (g : CoreN) (t : Thr) (f : AccFields) (s : State) : Out :=
  s.run (fun d => d.issue g t (fun d x =>
    let fa := f.fmtA.toNat
    let fb := f.fmtB.toNat
    if 4 ≤ f.mode.toNat || reservedFmt fa f.widthA.toNat || reservedFmt fb f.widthB.toNat then d.faultThread g t 0x7020
    else if opDescBad true (contBits fa f.widthA.toNat) (opDesc (x.reg f.ra))
        || opDescBad false (contBits fb f.widthB.toNat) (opDesc (x.reg f.rb)) then (d.badDesc g).advance g t
    else queueEng d g t f.eng (.acc f (x.reg f.ra) (x.reg f.rb) x.handle)))

/-- The output line is fetched when the drain is queued (R188). An addend's SUB is held against its tile when the drain reads it. -/
def execDrain (g : CoreN) (t : Thr) (f : DrainFields) (hits : Hits) (s : State) : Out :=
  s.issueHits g t hits (fun d => d.issue g t (fun d x =>
    let fo := f.fmtOut.toNat
    let o := outDesc (x.reg f.ro)
    let a := outDesc (x.reg f.rd)
    if reservedFmt fo f.widthOut.toNat || fo == 0 || 8 ≤ fo || f.rmode.toNat == 3 then d.faultThread g t 0x7020
    else if 240 ≤ o.frame || subCount (contBits fo f.widthOut.toNat) ≤ o.sub || (f.add && 240 ≤ a.frame) then
      (d.badDesc g).advance g t
    else queueEng d g t f.eng
      (.drain f (x.reg f.ro) (x.reg f.rd) x.handle (d.line (Device.clusterOf g) o.tsid) 0 false)))

/-- R116: a table load. An offset that is not 16-byte aligned raises event 0x7022 and is not performed (DESIGN CHOICE, log entry 32:
R140 names local offsets only); one beyond the store is queued and reads zeros (R31). -/
def execTableLoad (g : CoreN) (t : Thr) (f : TableFields) (s : State) : Out :=
  s.run (fun d => d.issue g t (fun d x =>
    let off := (x.reg f.rs).toNat
    if off % 16 ≠ 0 then (d.badDesc g).advance g t
    else queueEng d g t f.eng (.table f (x.reg f.rs))))

/-! ### Operands -/

/-- R50: the format pairs a mode accepts. -/
def modeAccepts (mode fmt : Nat) : Bool :=
  match mode with
  | 0 => decide (1 ≤ fmt) && decide (fmt ≤ 6)
  | 3 => fmt == fmtLOG8
  | _ => fmt == fmtINT

/-- The frames and walk positions of `n` sub-blocks (R118). -/
def walk (o : OpDesc) (len : Nat) : Nat → Nat → Nat → List (Nat × Nat)
  | 0, _, _ => []
  | n + 1, f, p =>
    (f, p) :: (if p + 1 < len then walk o len n f (p + 1) else walk o len n ((f + o.fstep) % 240) 0)

/-- An operand as a cell sees it: per sub-block its 256 elements (A[i][k] or B[k][j]), and what the rates need. -/
structure Feed where
  subs : List (List Elem)
  hdrs : List (Option Hdr)
  entries : List Nat
  frames : List Nat
  tsid : Nat
  line : Line
  bad : List (Nat × Hdr)
  deriving DecidableEq, Repr

namespace Device

/-- What one visit to a frame feeds: the header it is read under, none where it is read as zeros (R69, R120, R154). -/
def feedHdr (d : Device) (g f fmt width mode : Nat) : Hdr × Bool :=
  let h := parseHdr (d.bytes (localAddr g (hdrOff f)) 16)
  (h, !unreadable h && h.fmt == fmt && (fmt != fmtINT || h.width == width) && modeAccepts mode fmt)

/-- What an operand descriptor feeds. The TSID, and with it the scales, of an operand is that of its first frame's header, poisoned or
unreadable as the frame may be (DESIGN CHOICE, log entry 83: R69 and R154 name none). -/
def gather (d : Device) (g : Nat) (isA : Bool) (o : OpDesc) (fmt width mode len : Nat) : Feed :=
  let cb := contBits fmt width
  let steps := walk o (walkLen isA o.trans cb) len o.frame o.start
  let nC := subCols cb
  let h0 := d.feedHdr g o.frame fmt width mode
  let l := d.line (clusterOf g) h0.1.tsid
  let zeros : List Elem := List.replicate 256 {}
  -- R50, R91: bit-plane mode takes no operand with a zero point
  let noZp := mode != 2 || !l.ok || !l.zpen
  let visit (fp : Nat × Nat) : List Elem × Option Hdr × Nat :=
    let fr := d.frame g fp.1
    let h := d.feedHdr g fp.1 fmt width mode
    if fr.poison || !h.2 || !noZp then (zeros, none, 256)
    else
      let s := if isA != o.trans then o.band * nC + fp.2 else fp.2 * nC + o.band
      let es := d.frameElems g fp.1 h.1 l s
      let es := if o.trans then transpose16 {} es else es
      let p := d.bytes (localAddr g (frameOff fp.1)) 4096
      (es, some h.1, if h.1.comp then subEntries p cb s else 256)
  let vs := steps.map visit
  let frames := dedupNat (steps.map (·.1))
  { subs := vs.map (·.1), hdrs := vs.map (·.2.1), entries := vs.map (·.2.2), frames := frames, tsid := h0.1.tsid,
    line := l,
    bad := frames.filterMap (fun f =>
      let h := d.feedHdr g f fmt width mode
      if !(d.frame g f).poison && !(h.2 && noZp) then some (f, h.1) else none) }

end Device

/-! ### Sums (R79 to R83, R91 to R93) -/

/-- The product of two elements with their block shifts; log mode by R93. -/
def elemMul (mode : Nat) (tab : List Nat) (a b : Elem) : Num :=
  if mode = 3 then
    if a.code = 0x80 || b.code = 0x80 then .nan
    else if a.code = 0 || b.code = 0 then Num.zero
    else
      let x : Int := (a.code % 128 : Nat) + (b.code % 128 : Nat) - 254
      let q := x / 8
      let f := (x % 8).toNat
      .fin ((decide (128 ≤ a.code)) != decide (128 ≤ b.code)) (tab.getD f 0) (q - 11 + a.delta + b.delta)
  else (a.v.mul b.v).scale (a.delta + b.delta)

/-- R81: the run sum of the narrow adder. -/
def floatRun (ps : List Num) : Dy :=
  let nz := ps.filterMap (fun p => match p with
    | .fin s m e => if m = 0 then none else some (s, m, e)
    | _ => none)
  match nz with
  | [] => Dy.zero
  | p0 :: _ =>
    let top (p : Bool × Nat × Int) : Int := (p.2.1.log2 : Int) + p.2.2
    let a := nz.foldl (fun m p => max m (top p)) (top p0)
    let gr := a - 23
    let sum := nz.foldl (fun (acc : Int) p =>
      let q : Int := rtzUnits p.2.1 p.2.2 gr
      if p.1 then acc - q else acc + q) 0
    ⟨sum, gr⟩

/-- R82: an exact run sum. -/
def exactRun (ps : List Num) : Dy := ps.foldl (fun acc p => acc.add p.dy) Dy.zero

/-- The exponent of a slot's least significant bit, and the number of magnitude bits before its sign bit (R76). -/
def lsbExp (block : Bool) : Int := if block then -157 else -48
def signBit (block : Bool) : Nat := if block then 319 else 95

/-- R79: a promotion: once OVF is set further promotions are discarded. -/
def Cell.promote (c : Cell) (block : Bool) (r : Dy) : Cell :=
  if c.ovf then c
  else
    let sum := c.sum + r.units (lsbExp block)
    if 2 ^ signBit block ≤ sum.natAbs then { c with sum := sum, ovf := true, ovfNeg := decide (sum < 0) }
    else { c with sum := sum }

/-- R77: the tags a product sets. -/
def Cell.tags (c : Cell) (p : Num) : Cell :=
  match p with
  | .nan => { c with nan := true }
  | .inf s => if s then { c with ninf := true } else { c with pinf := true }
  | .fin .. => c

/-- Run length in positions of each mode (R74, R80, R82). -/
def runLen (mode run : Nat) : Nat :=
  match mode with
  | 0 => match run with | 0 => 16 | 1 => 32 | 2 => 64 | _ => 1
  | 2 => 512
  | _ => 32

/-- One cell over the whole segment: `ps` are its products in order of position. -/
def Cell.accumulate (c : Cell) (block : Bool) (mode run : Nat) (ps : List Num) : Cell :=
  let c := ps.foldl Cell.tags c
  let rs := chunk (runLen mode run) ps.length ps
  rs.foldl (fun c r => c.promote block (if mode = 0 && run != 3 then floatRun r else exactRun r)) c

/-- The products of cell (i, j) over all sub-blocks. -/
def cellProducts (mode : Nat) (tab : List Nat) (a b : List (List Elem)) (i j : Nat) : List Num :=
  (a.zip b).flatMap (fun ab =>
    (List.range 16).map (fun k => elemMul mode tab (ab.1.getD (16 * i + k) {}) (ab.2.getD (16 * k + j) {})))

/-- R76: the bound of an operand. -/
def bound (fmt width : Nat) (h : Hdr) (l : Line) : Dy :=
  let scaled := h.bsi != 0xFFFFFFFF || (l.ok && l.blocked)
  let base : Dy := match floatFmt fmt with
    | some f => ⟨f.maxM, f.maxE⟩
    | none =>
      if fmt = fmtINT then
        if l.ok && l.zpen then
          (if h.signA = h.signB then ⟨2 ^ width - 1, 0⟩ else ⟨3 * 2 ^ (width - 1) - 1, 0⟩)
        else if h.signA then ⟨2 ^ (width - 1), 0⟩ else ⟨2 ^ width - 1, 0⟩
      else ⟨1, 0⟩
  let b := if scaled then base.scale 7 else base
  if l.ok && l.esc then b.max' ⟨65280, 7⟩ else b

/-- R76: the form of the slot an accumulate opens. -/
def isBlock (fa fb : Nat) (ba bb : Dy) : Bool :=
  fa == fmtE8M7 || fb == fmtE8M7 || !((ba.mul bb).lt ⟨1, 39⟩)

/-! ### Rates (R84, R89, R90, R92) -/

/-- R89: intake clk of a sub-block of operand B. -/
def subClk (mode : Nat) (h : Option Hdr) : Nat :=
  match h with
  | some h => if (mode = 0 || mode = 1) && h.comp then (if h.k = 3 then 8 else 4) else 16
  | none => 16

/-- R84: a run takes at least 8 clk of intake; `l` sub-blocks, or windows in bit-plane mode, make a run. -/
def stretched (l : Nat) (cs : List Nat) : Nat :=
  ((chunk l cs.length cs).map (fun r => max 8 r.sum)).sum

/-- R90: the clk that the declared K of a sub-block would have taken. -/
def declaredClk (mode : Nat) (h : Option Hdr) : Nat :=
  match h with
  | some x => if (mode = 0 || mode = 1) && x.k != 0 then (if x.k = 3 then 8 else 4) else subClk mode h
  | none => subClk mode h

/-- R90: clk spent beyond the declared K on tiles that the plan declared sparse and that are processed dense; `l` sub-blocks
make a run (R84). -/
def denseExcess (mode l : Nat) (hs : List (Option Hdr)) : Nat :=
  stretched l (hs.map (subClk mode)) - stretched l (hs.map (declaredClk mode))

/-- Whether bit-plane `p` of a width-w integer is 1. -/
def planeBit (w : Nat) (v : Num) (p : Nat) : Bool :=
  (ofSgn w v.dy.n).testBit p

/-- R92: non-zero planes of 64 elements. -/
def nzPlanes (w : Nat) (vs : List Num) : Nat :=
  ((List.range w).filter (fun p => vs.any (fun v => planeBit w v p))).length

/-- R92: for one window of four sub-blocks: clk, stall-cause-4 clk, plane pairs skipped. -/
def windowCost (wa wb : Nat) (a b : List (List Elem)) : Nat × Nat × Nat :=
  let rowA (i : Nat) := a.flatMap (fun s => (List.range 16).map (fun k => (s.getD (16 * i + k) {}).v))
  let colB (j : Nat) := b.flatMap (fun s => (List.range 16).map (fun k => (s.getD (16 * k + j) {}).v))
  let na := (List.range 16).map (fun i => nzPlanes wa (rowA i))
  let nb := (List.range 16).map (fun j => nzPlanes wb (colB j))
  let t := max 1 (na.foldl max 0 * nb.foldl max 0)
  let pairs := na.sum * nb.sum
  (t, t - (pairs + 255) / 256, 256 * (wa * wb) - pairs)

/-! ### Completion of an accumulate -/

namespace Device

/-- A TSID inside the scale table whose line fails its CRC is unpublished (R185). -/
def unpublished (d : Device) (k tsid : Nat) : Bool :=
  decide (tsid < d.num 0x7050 2 (k + 1)) && !(d.line k tsid).ok

/-- R69 at a core's engines: each frame whose header its consumer cannot read is fetched again, which reads the same frame, and
raises 0x2012. -/
def badHeaders (d : Device) (g : Nat) (bad : List (Nat × Hdr)) : Device :=
  bad.foldl (fun d b =>
    (d.modClu (clusterOf g) (fun c => { c with retry := c.retry + 1 })).raise 0x2012 0x7020 (g + 1)
      (localAddr g (frameOff b.1)) (b.2.fmt + b.2.width * 256)) d

/-- Add the interval [a, b) to disjoint intervals: how much of it was not covered, and the intervals after. -/
def unionAdd (l : List (Nat × Nat)) (a b : Nat) : Nat × List (Nat × Nat) :=
  let touch := l.filter (fun i => decide (i.1 ≤ b) && decide (a ≤ i.2))
  let lo := touch.foldl (fun m i => min m i.1) a
  let hi := touch.foldl (fun m i => max m i.2) b
  (b - a - (touch.map (fun i => min b i.2 - max a i.1)).sum,
   (lo, hi) :: l.filter (fun i => !(decide (i.1 ≤ b) && decide (a ≤ i.2))))

/-- R100: engine `e` took operands for `n` clk up to now, or once its operand path was free: MX_BUSY_CLK counts the clk in which
no other engine of the core took any (log entry 33). -/
def takeOperands (d : Device) (g e n : Nat) : Device :=
  let c := d.core g
  let s := max (Map.get 0 c.opFree e) (d.coreClk g - n)
  let u := unionAdd (c.busy.filter (fun i => decide (d.coreClk g < i.2 + 2 ^ 20))) s (s + n)
  let d := d.modCore g (fun c => { c with busy := u.2, opFree := Map.set 0 c.opFree e (s + n) })
  d.addNum 0x7010 2 (g + 1) u.1

/-- The counters of an accumulate (R90, R92, R100), a refused CONT's too: its operands are taken and its products formed before
they are discarded (DESIGN CHOICE, log entry 34). -/
def accCounters (d : Device) (g e : Nat) (f : AccFields) (a b : Feed) : Device :=
  let mode := f.mode.toNat
  let ref := mode = 0 && f.run.toNat = 3
  let len := f.len.toNat
  let wins := (chunk 4 len a.subs).zip (chunk 4 len b.subs)
  let costs := wins.map (fun w => windowCost f.widthA.toNat f.widthB.toNat w.1 w.2)
  let clk := if ref then 128 * len
    else if mode = 2 then stretched (runLen mode 0 / 64) (costs.map (·.1))
    else stretched (runLen mode f.run.toNat / 16) (b.hdrs.map (subClk mode))
  let products := if mode = 2 || mode = 3 || ref then 4096 * len else 16 * b.entries.sum
  let d := d.addNum 0x7010 1 (g + 1) products
  let d := { d with work := { d.work with products := Map.upd 0 d.work.products (if ref then 4 else mode) (· + products) } }
  let d := d.takeOperands g e clk
  let d := if mode = 2 then d.addNum 0x7010 3 (g + 1) (costs.map (·.2.2)).sum else d
  let d := if ref then d.addNum 0x7010 4 (g + 1) (16 * len) else d
  let d := if mode = 2 then d.addStall g 4 (costs.map (·.2.1)).sum else d
  if ref then d else d.addStall g 5 (denseExcess mode (runLen mode f.run.toNat / 16) b.hdrs)

/-- The slot after an accumulate: opened (INIT ZERO) or continued; none where a CONT is wrong (R99). -/
def accSlot (d : Device) (g : Nat) (f : AccFields) (a b : Feed) (block : Bool) : Option Slot :=
  let old := (d.core g).slot f.eng f.slot
  if f.init then
    if old.valid && old.block == block && old.a.tsid == a.tsid && old.b.tsid == b.tsid then some old else none
  else some { valid := true, block := block, cells := List.replicate 256 {},
              a := scaleOf a.tsid a.line, b := scaleOf b.tsid b.line }

/-- Slots s + 1 to s + 3 become part of an E8M7 block form opened at s (R76). -/
def claimBlock (d : Device) (g e s : Nat) : Device :=
  forN 3 d (fun d i => d.modCore g (fun c => c.setSlot e (s + 1 + i) {}))

/-- Whether the slot an accumulate opens has the E8M7 block form (R76). -/
def accBlock (f : AccFields) (a b : Feed) : Bool :=
  isBlock f.fmtA.toNat f.fmtB.toNat (bound f.fmtA.toNat f.widthA.toNat ((a.hdrs.filterMap id).headD {}) a.line)
    (bound f.fmtB.toNat f.widthB.toNat ((b.hdrs.filterMap id).headD {}) b.line)

/-- The 256 cells after an accumulate on a slot: cell (i, j) takes the products of row i of A and column j of B (R78). -/
def accCells (d : Device) (g e : Nat) (f : AccFields) (a b : Feed) (block : Bool) (sl : Slot) : List Cell :=
  let tab := (d.core g).table e f.table
  (List.range 256).map (fun n =>
    (sl.cells.getD n {}).accumulate block f.mode.toNat f.run.toNat
      (cellProducts f.mode.toNat tab a.subs b.subs (n / 16) (n % 16)))

/-- The slots of a form that begins at slot `s` (R76). -/
def formSlots (block : Bool) (s : Nat) : List Nat := if block then [s, s + 1, s + 2, s + 3] else [s]

/-- R78: an earlier drain of the queue still has to read one of these slots. -/
def drainAhead (d : Device) (g e : Nat) (earlier : List EngOp) (ss : List Nat) : Bool :=
  earlier.any (fun op => match op with
    | .drain f .. => (formSlots ((d.core g).slot e f.slot).block f.slot).any (fun s => ss.contains s)
    | _ => false)

/-- R96: an earlier table load of the queue has not finished. -/
def tableAhead (earlier : List EngOp) (f : AccFields) : Bool :=
  f.mode.toNat == 3 && earlier.any (fun op => match op with
    | .table t _ => t.slot == f.table
    | _ => false)

/-- Accumulate `i` of an engine's queue, the first one in it. What the manual leaves open (DESIGN CHOICE, log entry 83): event
0x2020 carries the accumulator slot in ARG1, and a LEN of 0 runs over no positions. A wait behind an earlier drain of the slot
counts cause 0 (R161). -/
def runAcc (d : Device) (g e i : Nat) (f : AccFields) (da db : OpDesc) : Device :=
  let mode := f.mode.toNat
  let earlier := ((d.core g).queue e).take i
  let a := d.gather g true da f.fmtA.toNat f.widthA.toNat mode f.len.toNat
  let b := d.gather g false db f.fmtB.toNat f.widthB.toNat mode f.len.toNat
  match (a.frames ++ b.frames).find? (fun fr => (d.frame g fr).st != .full) with
  | some fr => d.frameStall g fr
  | none =>
    if d.unpublished (clusterOf g) a.tsid || d.unpublished (clusterOf g) b.tsid || tableAhead earlier f then d.addStall g 0 1
    else if d.drainAhead g e earlier (formSlots (accBlock f a b) f.slot) then d.addStall g 0 1
    else
      let d := d.badHeaders g (a.bad ++ b.bad)
      let d := (dedupNat (a.frames ++ b.frames)).foldl (fun d fr => d.taintedRead (parseHdr (d.bytes (localAddr g (hdrOff fr)) 16)) (localAddr g (hdrOff fr))) d
      let block := accBlock f a b
      let d := match d.accSlot g f a b block with
        | none => d.raise 0x2022 0x7010 (g + 1) 0 f.slot
        | some sl =>
          let cells := d.accCells g e f a b block sl
          let ov := cells.any (·.ovf)
          let d := if !f.init && block then d.claimBlock g e f.slot else d
          let d := d.modCore g (fun c => c.setSlot e f.slot { sl with cells := cells, ovfRaised := sl.ovfRaised || ov })
          if ov && !sl.ovfRaised then d.raise 0x2020 0x7010 (g + 1) 0 f.slot else d
      let d := d.accCounters g e f a b
      let d := if da.rel then a.frames.foldl (fun d fr => d.releaseFrame g fr) d else d
      let d := if db.rel then b.frames.foldl (fun d fr => d.releaseFrame g fr) d else d
      d.popEng g e i

end Device

/-- The first operation of a kind in an engine's queue, with its place. -/
def firstOp (q : List EngOp) (p : EngOp → Bool) : Option (Nat × EngOp) :=
  match q.findIdx? p with
  | some i => (q[i]?).map (fun op => (i, op))
  | none => none

def EngOp.isAcc : EngOp → Bool
  | .acc .. => true
  | _ => false
def EngOp.isDrain : EngOp → Bool
  | .drain .. => true
  | _ => false
def EngOp.isTable : EngOp → Bool
  | .table .. => true
  | _ => false

/-- The first accumulate of an engine's queue runs once all its frames are FULL and no earlier drain reads its slots (R78,
R106). -/
def execAccumulateComplete (g : CoreN) (e : Eng) (hits : Hits) (s : State) : Out :=
  s.runHits hits (fun d =>
    match firstOp ((d.core g).queue e) EngOp.isAcc with
    | some (i, .acc f a b _) => d.runAcc g e i f (opDesc a) (opDesc b)
    | _ => d)

/-! ### Completion of a drain (R79, R84 to R86, R188, R189) -/

/-- R79: the first matching row decides; the exact sum carries both operand scales (R85). -/
def slotValue (sl : Slot) (c : Cell) : Num :=
  if c.nan || (c.pinf && c.ninf) then .nan
  else if c.pinf then .inf false
  else if c.ninf then .inf true
  else if c.ovf then .fin c.ovfNeg 1 4096
  else
    let sum : Dy := ⟨c.sum, lsbExp sl.block⟩
    Num.ofDy ((sum.mul ((e8m7 sl.a.s).dy.mul (e8m7 sl.b.s).dy)).scale ((sl.a.f : Int) + sl.b.f - 254))

/-- A cell whose value is special takes no addend (R85). -/
def Cell.special (c : Cell) : Bool := c.nan || c.pinf || c.ninf || c.ovf

/-- R85, R179: the value of an addend element with its scales. -/
def addendValue (l : Line) (e : Elem) : Num :=
  let s : Nat := if l.ok then l.s else 0x3F80
  let f : Int := if l.ok then l.f else 127
  ((e.v.scale e.delta).mul (e8m7 s)).scale (f - 127)

namespace Device

/-- R342: an INTn tensor that TENSORS declares unsigned; signed otherwise (log entry 22). -/
def tensorUnsigned (d : Device) (tsid : Nat) : Bool :=
  match d.adm.facts with
  | some f => f.tensors.any (fun t => t.tsid == tsid && t.isUnsigned)
  | none => false

/-- The header of a drain's addend tile. -/
def addHdr (d : Device) (g : Nat) (add : OutDesc) : Hdr := parseHdr (d.bytes (localAddr g (hdrOff add.frame)) 16)

/-- R69, R85: an addend's header that the drain can read. -/
def addOk (h : Hdr) : Bool := !unreadable h && decide (1 ≤ h.fmt) && decide (h.fmt ≤ 6)

/-- The 256 values a drain presents before Q, in element order. -/
def drainValues (d : Device) (g : Nat) (sl : Slot) (f : DrainFields) (add : OutDesc) : List Num :=
  let h := d.addHdr g add
  let okAdd := f.add && !(d.frame g add.frame).poison && addOk h
  let l := d.line (clusterOf g) h.tsid
  let ad := if okAdd then d.frameElems g add.frame h l add.sub else []
  (List.range 256).map (fun n =>
    let c := sl.cells.getD n {}
    let v := slotValue sl c
    if c.special || !f.add then v
    else (match ad[n]? with
      | some e => v.add (addendValue l e)
      | none => v))

/-- The rounding of a drain: RNE where SR has no usable stream (R138, R240). Answers the stored elements, the tally and the
device after the draws; none while bits are missing. -/
def drainRound (d : Device) (g e : Nat) (f : DrainFields) (tg : Target) (handle : W32) (vs qs : List Num) (cells : List Cell) :
    Device × Option (List Nat × Tally) :=
  let k := clusterOf g
  let u := engUnit (g % 16) e
  let r := d.force 0x1901 1
  let rm := rmodeOf f.rmode.toNat
  let finish (rm : RMode) (bits : List Nat) : List Nat × Tally :=
    ((qs.zip vs).zipIdx).foldl (fun (acc : List Nat × Tally) x =>
      let o := roundTo tg rm r (bits.getD x.2 0) x.1.1
      (acc.1 ++ [o.bits],
       (acc.2.add tg x.1.1 (decide ((cells.getD x.2 {}).ovf)) o).report x.1.2)) ([], {})
  let draws := qs.map (srDraws tg)
  if rm != .sr then (d, some (finish rm []))
  else if noStream handle then
    (d.raise 0x7022 0x7020 (g + 1), some (finish .rne []))
  else if !draws.any id then (d, some (finish .rne []))
  else
    match d.stream k handle with
    | none => (d.raise 0x2111 0x7060 (k + 1) 0 handle.toNat, some (finish .rne []))
    | some se =>
      let cur := (d.unitCtx k u).cur
      let isCur := match cur with | some c => c.handle == handle | none => false
      let prepared := match (d.unitCtx k u).shadow with | some c => c.handle == handle | none => false
      if !isCur && !prepared then ((d.starve k).addStall g 6 1, none)
      else
        let d := if isCur then d else d.openCtx k u handle se
        match (d.unitCtx k u).cur with
        | none => (d, none)
        | some c =>
          let short := draws.zipIdx.any (fun x => x.1 && decide ((c.lanes.getD x.2 {}).n < r))
          if short then ((d.starve k).addStall g 6 1, none)
          else
            let w := draws.zipIdx.foldl (fun (acc : List Nat × Drawing) x =>
              if x.1 then
                let y := acc.2.take x.2 r
                (acc.1 ++ [y.1], y.2)
              else (acc.1 ++ [0], acc.2)) ([], { ctx := c })
            (d.endDraw k u w.2, some (finish .sr w.1))

/-- The drain waits for its output scale (R189): a live line of another step, or a line that fails its CRC. -/
def lineWaits (d : Device) (k tsid : Nat) (l : Line) : Bool :=
  decide (tsid < d.num 0x7050 2 (k + 1)) && (!l.ok || (l.live && l.pstep != d.cad.step % 65536))

/-- R78: an earlier accumulate of the queue may add into the slots of a drain: its form is known once its frames are FULL; before
that, slot 0 or 4 may take the block form. -/
def accAhead (d : Device) (g : Nat) (earlier : List EngOp) (ss : List Nat) : Bool :=
  earlier.any (fun op => match op with
    | .acc f da db _ =>
      let a := d.gather g true (opDesc da) f.fmtA.toNat f.widthA.toNat f.mode.toNat f.len.toNat
      let b := d.gather g false (opDesc db) f.fmtB.toNat f.widthB.toNat f.mode.toNat f.len.toNat
      let known := (a.frames ++ b.frames).all (fun fr => (d.frame g fr).st == .full)
      (formSlots (if known then accBlock f a b else f.slot.val % 4 == 0) f.slot).any (fun s => ss.contains s)
    | _ => false)

/-- R140: an addend descriptor whose SUB lies beyond its tile. -/
def addendBad (d : Device) (g : Nat) (add : OutDesc) : Bool :=
  let h := d.addHdr g add
  !(d.frame g add.frame).poison && addOk h && decide (subCount (contBits h.fmt h.width) ≤ add.sub)

/-- R69: the header of an addend that the drain cannot read; its elements are zeros. -/
def badAddend (d : Device) (g : Nat) (add : OutDesc) : Device :=
  let h := d.addHdr g add
  if (d.frame g add.frame).poison || addOk h then d else d.badHeaders g [(add.frame, h)]

/-- R161, R237: a drain under SR waits for its context, whatever else it waits for. -/
def waitsBits (d : Device) (g e : Nat) (f : DrainFields) (handle : W32) : Bool :=
  rmodeOf f.rmode.toNat == .sr && !noStream handle && !d.ctxReady (clusterOf g) (engUnit (g % 16) e) handle

/-- R189: when a drain first found its output line not published: wall time in ns plus 1. -/
def noteSince (d : Device) (g e i since : Nat) : Device :=
  if since ≠ 0 then d
  else d.modCore g (fun c =>
    match (c.queue e)[i]? with
    | some (.drain f o a h l _ late) => c.setQueue e ((c.queue e).set i (.drain f o a h l (d.time.nowNs + 1) late))
    | _ => c)

/-- What a drain presents: its target, the 256 values before Q and with Q. A slot that is not valid drains as an exact sum of
zero (R99). -/
def drainSlot (d : Device) (g e s : Nat) : Slot :=
  let sl := (d.core g).slot e s
  if sl.valid then sl else { sl with cells := List.replicate 256 {}, block := false }
def drainTarget (d : Device) (f : DrainFields) (o : OutDesc) : Target :=
  { fmt := f.fmtOut.toNat, width := f.widthOut.toNat, signed := !d.tensorUnsigned o.tsid, sat := f.sat }
def drainScaled (vs : List Num) (l : Line) : List Num :=
  let q := e8m7 (if l.ok then l.q else 0x3F80)
  vs.map (fun v => match v with | .fin .. => v.mul q | v => v)

/-- The rounded elements of a drain go out: the sub-block, its tally and report, the header under PUB. -/
def writeDrain (d : Device) (g e i : Nat) (f : DrainFields) (o add : OutDesc) (es : List Nat) (tl : Tally) : Device :=
  let k := clusterOf g
  let fr := d.frame g o.frame
  let tg := d.drainTarget f o
  let cb := contBits tg.fmt tg.width
  let d := if ((d.core g).slot e f.slot).valid then d else d.raise 0x2022 0x7010 (g + 1) 0 f.slot
  let d := if f.add then (d.badAddend g add).taintedRead (d.addHdr g add) (localAddr g (hdrOff add.frame)) else d
  let d := d.put (localAddr g (frameOff o.frame + o.sub * (32 * cb))) (packElems cb es)
  let d := d.tally k (d.classOf k (some o.tsid)) tl 0x7010 (g + 1) (localAddr g (frameOff o.frame))
  let d := d.bufferReport g e { tsid := o.tsid, smax := tl.smax, sats := tl.sat }
  let d :=
    if o.pub then
      let p := d.bytes (localAddr g (frameOff o.frame)) 4096
      let h : Hdr := { tsid := o.tsid, fmt := tg.fmt, width := if tg.fmt = fmtINT then tg.width else 0,
                       signA := tg.fmt == fmtINT && tg.signed, taint := d.num 0x1401 1 == 1 }
      ((d.put (localAddr g (hdrOff o.frame)) (sealHdr p h)).noteTaint (localAddr g (hdrOff o.frame)) h.taint).setFrame g o.frame { fr with st := .full }
    else d.setFrame g o.frame { fr with st := .opened }
  let d := if f.clear then d.modCore g (fun c => c.setSlot e f.slot {}) else d
  (d.addSync g f.cnt 1).popEng g e i

/-- Drain `i` of an engine's queue, the first one in it. What it waits for counts by R161: its own causes 7 and 6 first, then
the tags of the frames. -/
def runDrain (d : Device) (g e i : Nat) (f : DrainFields) (o add : OutDesc) (handle : W32) (l : Line) (since : Nat) (late : Bool) :
    Device :=
  let k := clusterOf g
  let fr := d.frame g o.frame
  let addHere := !f.add || (d.frame g add.frame).st == .full
  if d.accAhead g (((d.core g).queue e).take i) (formSlots ((d.core g).slot e f.slot).block f.slot) then d
  else if d.lineWaits k o.tsid l && !late then (d.noteSince g e i since).addStall g 7 1
  else if !addHere then
    if d.waitsBits g e f handle then (d.starve k).addStall g 6 1 else d.frameStall g add.frame
  else if f.add && d.addendBad g add then (d.badDesc g).popEng g e i
  else if f.add && d.unpublished k (d.addHdr g add).tsid then d.addStall g 0 1
  else
    let sl := d.drainSlot g e f.slot
    let vs := d.drainValues g sl f add
    match d.drainRound g e f (d.drainTarget f o) handle vs (drainScaled vs l) sl.cells with
    | (d, none) => d
    | (d', some (es, tl)) =>
      if fr.st = .full || fr.fill then d.frameStall g o.frame
      else d'.writeDrain g e i f o add es tl

end Device

/-- The first drain of an engine's queue writes its sub-block once nothing it waits for is missing. -/
def execDrainComplete (g : CoreN) (e : Eng) (hits : Hits) (s : State) : Out :=
  s.runHits hits (fun d =>
    match firstOp ((d.core g).queue e) EngOp.isDrain with
    | some (i, .drain f o a h l since late) => d.runDrain g e i f (outDesc o) (outDesc a) h l since late
    | _ => d)

/-! ### Completion of a table load (R95, R96) -/

/-- R94: |t / (2,048 × 2^(f/8)) − 1| ≤ 2^-8, compared as eighth powers: (255/256)^8 ≤ (t/2048)^8 / 2^f ≤ (257/256)^8. -/
def tableEntryOk (t f : Nat) : Bool :=
  decide (2048 ≤ t) && decide (t ≤ 4095)
    && decide (2 ^ (88 + f) * 255 ^ 8 ≤ (256 * t) ^ 8) && decide ((256 * t) ^ 8 ≤ 2 ^ (88 + f) * 257 ^ 8)

/-- The eight entries of a 16-byte record. -/
def tableEntries (b : List Byte) : List Nat := (List.range 8).map (fun f => fieldB b (2 * f) 2 % 4096)

def tableOk (ts : List Nat) : Bool := ts.zipIdx.all (fun x => tableEntryOk x.1 x.2)

/-- Table load `i` of an engine's queue, the first one in it; it waits for earlier log accumulates that use its table slot, with
cause 0 (R161). A record beyond the store reads as zeros (R31). -/
def runTable (d : Device) (g e i : Nat) (f : TableFields) (off : Nat) : Device :=
  if (((d.core g).queue e).take i).any (fun op => match op with
      | .acc x .. => x.mode.toNat == 3 && x.table == f.slot
      | _ => false) then d.addStall g 0 1
  else
  let k := Device.clusterOf g
  let miss := decide (0x1000000 ≤ off)
  let ts := tableEntries (if miss then List.replicate 16 0 else d.bytes (Device.storeAddr k off) 16)
  let d := if miss then d.storeMiss g off else d
  let d :=
    if tableOk ts then d.modCore g (fun c => c.setTable e f.slot ts)
    else (d.modCore g (fun c => c.setTable e f.slot defaultTable)).raise 0x2021 0x7010 (g + 1) (Device.storeAddr k off) f.slot
  (d.addSync g f.cnt 1).popEng g e i

def execTableLoadComplete (g : CoreN) (e : Eng) (hits : Hits) (s : State) : Out :=
  s.runHits hits (fun d =>
    match firstOp ((d.core g).queue e) EngOp.isTable with
    | some (i, .table f off) => runTable d g e i f off.toNat
    | _ => d)

end Sys2Proof.Machine
end

