-- ==== Sys2Proof/Machine/Sequencer.lean ====
section
/-! DEFINITION. Micro-sequencers (R168 to R175): common operations, waits, triggers, runs. -/

namespace Sys2Proof.Machine

/-- Unit and cluster-store port of an instance (R12): trackers and monitors on port 24, mask engines on port 23. -/
def sqPort (q : Nat) : Nat := if q < 384 then 16 + q % 4 else if 480 ≤ q && q < 576 then 23 else 24

/-- R317: the device monitor works on its own store of 64 KiB, every other instance on its cluster's store (R27). -/
def sqLimit (q : Nat) : Nat := if q = deviceSq then 0x10000 else 0x1000000

namespace Device

/-- Read `n` bytes of the instance's store. -/
def seqBytes (d : Device) (q off n : Nat) : List Byte :=
  if q = deviceSq then (List.range n).map (fun i => Map.get 0 d.health.store (off + i))
  else d.bytes (storeAddr (sqCluster q) off) n

/-- Write bytes to the instance's store. -/
def seqPut (d : Device) (q off : Nat) (bs : List Byte) : Device :=
  if q = deviceSq then { d with health := { d.health with store := memWrite d.health.store off bs } }
  else d.putW (storeAddr (sqCluster q) off) bs

/-- The address that event 0x4008 records: device-local, but for the device monitor's own store. -/
def seqAddr (q off : Nat) : Nat := if q = deviceSq then off else storeAddr (sqCluster q) off

def seqMiss (d : Device) (q off : Nat) : Device := d.reachNothing 0x7040 (q + 1) (seqAddr q off) (sqPort q)

/-- R29, R31: a word beyond the store, or across a 4 KiB boundary, is not accessed. -/
def seqBad (q off : Nat) : Bool := decide (sqLimit q < off + 4) || crosses off 4

/-- The 32-bit word at an offset; one that is not accessed reads as 0 (R31). -/
def seqWord (d : Device) (q off : Nat) : W32 :=
  if seqBad q off then 0 else BitVec.ofNat 32 (leNat (d.seqBytes q off 4))

/-- The word with event 0x4008 where it is not accessed. -/
def seqRead (d : Device) (q off : Nat) : Device × W32 :=
  (if seqBad q off then d.seqMiss q off else d, d.seqWord q off)

def seqStore (d : Device) (q off : Nat) (v : W32) : Device :=
  if seqBad q off then d.seqMiss q off else d.seqPut q off (leBytes 4 v.toNat)

end Device

/-- RB + IMM. -/
def seqOp2 (x : SqS) (rb : Reg) (imm : BitVec 14) : W32 := x.reg rb + imm.signExtend 32

/-- RD = RA op (RB + IMM). -/
def seqAlu (d : Device) (q : Nat) (rd ra rb : Reg) (imm : BitVec 14) (op : W32 → W32 → W32) : Device :=
  d.seqIssue q (fun d x => d.seqWrite q rd (op (x.reg ra) (seqOp2 x rb imm)))

def execSeqNop (q : Sq) (s : State) : Out := s.run (fun d => d.seqIssue q (fun d _ => d.seqNext q))

def execSeqMovi (q : Sq) (rd : Reg) (imm : BitVec 18) (s : State) : Out :=
  s.run (fun d => d.seqIssue q (fun d _ => d.seqWrite q rd (imm.signExtend 32)))

/-- RD[31:16] = IMM; RD[15:0] kept. -/
def execSeqMovhi (q : Sq) (rd : Reg) (imm : BitVec 16) (s : State) : Out :=
  s.run (fun d => d.seqIssue q (fun d x => d.seqWrite q rd (imm ++ (x.reg rd).setWidth 16)))

def execSeqAdd (q : Sq) (rd ra rb : Reg) (imm : BitVec 14) (s : State) : Out :=
  s.run (fun d => seqAlu d q rd ra rb imm (· + ·))

def execSeqSub (q : Sq) (rd ra rb : Reg) (imm : BitVec 14) (s : State) : Out :=
  s.run (fun d => seqAlu d q rd ra rb imm (· - ·))

def execSeqAnd (q : Sq) (rd ra rb : Reg) (imm : BitVec 14) (s : State) : Out :=
  s.run (fun d => seqAlu d q rd ra rb imm (· &&& ·))

def execSeqOr (q : Sq) (rd ra rb : Reg) (imm : BitVec 14) (s : State) : Out :=
  s.run (fun d => seqAlu d q rd ra rb imm (· ||| ·))

def execSeqXor (q : Sq) (rd ra rb : Reg) (imm : BitVec 14) (s : State) : Out :=
  s.run (fun d => seqAlu d q rd ra rb imm (· ^^^ ·))

/-- The shift amount is bits [4:0]. -/
def execSeqShl (q : Sq) (rd ra rb : Reg) (imm : BitVec 14) (s : State) : Out :=
  s.run (fun d => seqAlu d q rd ra rb imm (fun a b => a <<< (b.toNat % 32)))

def execSeqShr (q : Sq) (rd ra rb : Reg) (imm : BitVec 14) (s : State) : Out :=
  s.run (fun d => seqAlu d q rd ra rb imm (fun a b => a >>> (b.toNat % 32)))

def execSltu (q : Sq) (rd ra rb : Reg) (imm : BitVec 14) (s : State) : Out :=
  s.run (fun d => seqAlu d q rd ra rb imm (fun a b => if a.ult b then 1 else 0))

/-- RA + IMM, the offset of LD and ST. -/
def seqOff (x : SqS) (ra : Reg) (imm : BitVec 14) : Nat := (x.reg ra + imm.signExtend 32).toNat

/-- A misaligned LD or ST faults the run (R174). -/
def execSeqLd (q : Sq) (rd ra : Reg) (imm : BitVec 14) (hits : Hits) (s : State) : Out :=
  s.run (fun d => (d.seqHits q hits).seqIssue q (fun d x =>
    let off := seqOff x ra imm
    if off % 4 ≠ 0 then d.seqFault q
    else
      let r := d.seqRead q off
      r.1.seqWrite q rd r.2))

def execSeqSt (q : Sq) (ra rb : Reg) (imm : BitVec 14) (s : State) : Out :=
  s.run (fun d => d.seqIssue q (fun d x =>
    let off := seqOff x ra imm
    if off % 4 ≠ 0 then d.seqFault q
    else (d.seqStore q off (x.reg rb)).seqNext q))

/-- RD = old; the word at offset RA becomes old + RB. -/
def execSeqAadd (q : Sq) (rd ra rb : Reg) (hits : Hits) (s : State) : Out :=
  s.run (fun d => (d.seqHits q hits).seqIssue q (fun d x =>
    let off := (x.reg ra).toNat
    let r := d.seqRead q off
    let d := if Device.seqBad q off then r.1 else r.1.seqStore q off (r.2 + x.reg rb)
    d.seqWrite q rd r.2))

/-- PC = IMM[7:0]. -/
def seqJump (d : Device) (q : Nat) (imm : BitVec 14) : Device := d.setSq q { d.sq q with pc := imm.setWidth 8 }

def seqBranch (d : Device) (q : Nat) (ra rb : Reg) (imm : BitVec 14) (cmp : W32 → W32 → Bool) : Device :=
  d.seqIssue q (fun d x => if cmp (x.reg ra) (x.reg rb) then seqJump d q imm else d.seqNext q)

def execSeqJ (q : Sq) (imm : BitVec 14) (s : State) : Out := s.run (fun d => d.seqIssue q (fun d _ => seqJump d q imm))

def execSeqBeq (q : Sq) (ra rb : Reg) (imm : BitVec 14) (s : State) : Out :=
  s.run (fun d => seqBranch d q ra rb imm (fun a b => a == b))

def execSeqBne (q : Sq) (ra rb : Reg) (imm : BitVec 14) (s : State) : Out :=
  s.run (fun d => seqBranch d q ra rb imm (fun a b => a != b))

def execSeqBltu (q : Sq) (ra rb : Reg) (imm : BitVec 14) (s : State) : Out :=
  s.run (fun d => seqBranch d q ra rb imm (fun a b => a.ult b))

/-- R170: the word minus RB, as a signed 32-bit difference, is not negative. -/
def wordReached (d : Device) (q off : Nat) (rb : W32) : Bool := !(d.seqWord q off - rb).msb

def execWaitw (q : Sq) (ra rb : Reg) (_imm : BitVec 14) (hits : Hits) (s : State) : Out :=
  s.run (fun d => (d.seqHits q hits).seqIssue q (fun d x =>
    let off := (x.reg ra).toNat
    let r := d.seqRead q off
    if wordReached d q off (x.reg rb) then r.1.seqNext q else r.1.seqWait q (.waitWord off (x.reg rb))))

def execSeqWaitph (q : Sq) (ra : Reg) (s : State) : Out :=
  s.run (fun d => d.seqIssue q (fun d x =>
    if stampReached d.stamp (x.reg ra) then d.seqNext q else d.seqWait q (.waitPhase (x.reg ra))))

/-- Add IMM[13:6] to SC[IMM[5:0]] of each local core whose bit in RA[15:0] is set; the device monitor has no local core. -/
def execSeqSig (q : Sq) (ra : Reg) (imm : BitVec 14) (s : State) : Out :=
  s.run (fun d => d.seqIssue q (fun d x =>
    let d := if q.val = deviceSq then d
      else d.addSyncs (sqCluster q) ((x.reg ra).toNat % 65536) (imm.toNat % 64) (imm.toNat / 64)
    d.seqNext q))

def execSeqRdph (q : Sq) (rd : Reg) (s : State) : Out :=
  s.run (fun d => d.seqIssue q (fun d _ => d.seqWrite q rd d.stamp))

def execSeqDone (q : Sq) (s : State) : Out := s.run (fun d => d.seqIssue q (fun d _ => d.seqWait q .idle))

/-- A reserved or undefined operation (R174). -/
def execSeqFault (q : Sq) (s : State) : Out := s.run (fun d => d.seqIssue q (fun d _ => d.seqFault q))

/-- What an instance waits on has arrived. -/
def execSeqWaitSatisfied (q : Sq) (hits : Hits) (s : State) : Out :=
  s.runHits hits (fun d => match (d.sq q).st with
    | .waitWord off rb => if wordReached d q off rb then (d.seqWait q .running).seqNext q else d
    | .waitPhase st => if stampReached d.stamp st then (d.seqWait q .running).seqNext q else d
    | .waitQueue => if (d.moves q).isEmpty then (d.seqWait q .running).seqNext q else d
    | .waitRoom => if (d.moves q).length < 4 then d.seqWait q .running else d
    | _ => d)

/-! ### Triggers (R172, R173) -/

namespace Device

/-- A SEASON or STAMP entry fires at most once in a step. -/
def fireOnce (d : Device) (q n : Nat) : Device :=
  if Map.get 0 (d.sq q).fired n = d.cad.step + 1 then d
  else (d.setSq q { d.sq q with fired := Map.set 0 (d.sq q).fired n (d.cad.step + 1) }).fireEntry q n

/-- Every SEASON entry of the season that has begun. -/
def fireSeason (d : Device) : Device :=
  forN 673 d (fun d q => forN 8 d (fun d n =>
    let t := d.trigger q n
    if t.1 = 1 && t.2.2 % 4 = d.season then d.fireOnce q n else d))

end Device

def execSeasonTrigger (q : Sq) (n : Fin 8) (s : State) : Out :=
  s.run (fun d =>
    let t := d.trigger q n
    if t.1 = 1 && t.2.2 % 4 = d.season && d.planRuns then d.fireOnce q n else d)

def execStampTrigger (q : Sq) (n : Fin 8) (s : State) : Out :=
  s.run (fun d =>
    let t := d.trigger q n
    if t.1 = 2 && t.2.2 % 2 ^ 24 ≤ d.cad.phase && d.planRuns then d.fireOnce q n else d)

/-- An EVENT entry fires for each raise since it was loaded, one at a time. -/
def execEventTrigger (q : Sq) (n : Fin 8) (s : State) : Out :=
  s.run (fun d =>
    let t := d.trigger q n
    let r := Map.get 0 d.evt.raised (t.2.2 % 65536)
    if t.1 = 3 && Map.get 0 (d.sq q).seen n.val < r then
      (d.setSq q { d.sq q with seen := Map.upd 0 (d.sq q).seen n.val (· + 1) }).fireEntry q n
    else d)

/-- R173: an idle instance starts at its lowest pending entry: a1 its number, a2 the stamp. -/
def execSeqRunStart (q : Sq) (s : State) : Out :=
  s.run (fun d =>
    let x := d.sq q
    match x.st, (List.range 8).find? (fun n => x.pend.getLsbD n) with
    | .idle, some n =>
      let t := d.trigger q n
      let y := (x.setReg 1 (BitVec.ofNat 32 n)).setReg 2 d.stamp
      d.setSq q { y with pend := x.pend &&& ~~~(BitVec.ofNat 8 (2 ^ n)), pc := BitVec.ofNat 8 t.2.1, st := .running }
    | _, _ => d)

end Sys2Proof.Machine
end

