-- ==== Sys2Proof/Machine/CadOps.lean ====
section
/-! DEFINITION. The cadence word, the position and its boundaries (R328 to R340). -/

namespace Sys2Proof.Machine

/-- R328: the fields of a cadence word; `ok` says that its CRC passes. -/
structure CadWord where
  ok : Bool
  ver : Nat
  master : Nat
  hold : Bool
  bnd : Bool
  step : Nat
  phase : Nat

def parseWord (w : Nat) : CadWord :=
  { ok := bitsOf w 127 96 == crc32c (leBytes 12 w), ver := bitsOf w 95 92, master := bitsOf w 91 80, hold := bitOf w 79,
    bnd := bitOf w 76, step := bitsOf w 71 24, phase := bitsOf w 23 0 }

/-- A word from its fields, VER 1. -/
def cadWordOf (master : Nat) (hold : Bool) (season : Nat) (bnd : Bool) (step phase : Nat) : Nat :=
  let v := 2 ^ 92 + master % 4096 * 2 ^ 80 + b2n hold * 2 ^ 79 + season % 4 * 2 ^ 77 + b2n bnd * 2 ^ 76 +
    step % 2 ^ 48 * 2 ^ 24 + phase % 2 ^ 24
  v + crc32c (leBytes 12 v) * 2 ^ 96

namespace Device

def isMaster (d : Device) : Bool := d.num 0x1200 1 == 1

/-- A plan is admitted and the device has not stopped or been lost. -/
def inPlan (d : Device) : Bool := (d.runState == 2 || d.runState == 3) && (d.admState == 3 || d.admState == 4)

/-- R331, R557: the master's word on every port, and on CADENCE_OUT, where a later word takes the place of one that waits
unless that one has BND = 1. -/
def sendWord (d : Device) (bnd : Bool) : Device :=
  let w := cadWordOf d.devNo d.cad.held d.season bnd d.cad.step d.cad.phase
  ({ d with cad := { d.cad with outq := d.cad.outq.filter (fun x => bitOf x 76) ++ [w] } }).send (.cadWord w none)

/-- R335, R344: since when no word has been accepted, in the run or since ADMITTED. -/
def heardNs (d : Device) : Nat := max d.cad.lastNs d.adm.admittedNs

/-- The limits of R334, R335 and R340 in ns, as the last admission took them. -/
def lossNs (d : Device) : Nat := d.force 0x1212 1 * 1000
def holdLimitNs (d : Device) : Nat := d.force 0x1212 2 * 1000000

/-- R141: positions beyond a boundary that was held for `ns` are reached that much later. -/
def shiftBases (d : Device) (ns : Nat) : Device :=
  let b := d.absPos + 1
  { d with cores := d.cores.map (fun e => (e.1, { e.2 with groups := e.2.groups.map (fun y =>
      (y.1, if b < y.2.basePos then { y.2 with baseNs := y.2.baseNs + ns } else y.2)) })) }

/-- R339: the wall time of a hold is added up when it ends. -/
def finishHold (d : Device) : Device :=
  match d.cad.holdNs with
  | some t => ({ d.shiftBases (d.time.nowNs - t) with cad := { d.cad with held := false, holdNs := none } }).addNum 0x1211 2 0 (d.time.nowNs - t)
  | none => { d with cad := { d.cad with held := false } }

/-- R339: a boundary is withheld: event 0x1004 once. -/
def startHold (d : Device) : Device :=
  if d.cad.held then d
  else ({ d with cad := { d.cad with held := true, holdNs := some d.time.nowNs } }).raise 0x1004 0 0 0 0xFFF

/-- R427, R428: STOPPED, the plan LOADED, the counter at rest; a hold under way ends with the run (R339). -/
def haltRun (d : Device) : Device :=
  let d := (d.finishHold.setNum 0x1300 3 0 1).setNum 0x1200 1 0 3
  let d := if d.runState = 4 then d else d.setNum 0x1100 1 0 1
  { d with
    adm := { d.adm with verdicts := [], withdrawn := none },
    cad := { d.cad with
      stopped := true, stopNs := d.time.nowNs, held := false, holdNs := none, ahead := none, slew := 0,
      stopStep := none, sent := none, done := [], pairPeriod := 0, lossRaised := false, cutOff := false } }

/-- R172: STAMP entries whose ARG lies above `lo` and at most at `hi` fire, in position order. -/
def fireStamps (d : Device) (lo : Int) (hi : Nat) : Device :=
  let due := (List.range 673).flatMap (fun q => (List.range 8).filterMap (fun n =>
    let t := d.trigger q n
    let a : Nat := t.2.2 % 2 ^ 24
    if t.1 = 2 && decide (lo < (a : Int)) && decide (a ≤ hi) then some (a, q, n) else none))
  (sortBy (fun x y => decide (x.1 ≤ y.1)) due).foldl (fun d x => d.fireOnce x.2.1 x.2.2) d

/-- R514: the release of (n_H + 1, 0:0) completes a restore. -/
def restoreDone (d : Device) : Device :=
  match d.hv.restore with
  | some r =>
    let d := { d with hv := { d.hv with restore := none } }
    if d.isMaster then d.raise 0x8007 0 0 r.point (d.survArg d.devNo) else d
  | none => d

/-- R196: WIN = N in the home line of one CAL record. -/
def recalLine (d : Device) (k t : Nat) : Device :=
  let l := d.line k t
  if l.ok && l.home == k && l.policy == 1 then
    let a := storeAddr k (d.lineOff k t)
    let d := d.store (a + 0xD) 1 l.n
    d.store (a + 0x3C) 4 (crc32c (d.bytes a 0x3C))
  else d

/-- R196: at a Winter, the records that SCALE_RECAL named since the last one; 0xFFFF names every CAL record. -/
def recalibrate (d : Device) : Device :=
  match d.recal with
  | [] => d
  | l =>
    let d := forN 96 d (fun d k =>
      if l.contains 0xFFFF then forN (d.num 0x7050 2 (k + 1)) d (fun d t => d.recalLine k t)
      else l.foldl (fun d t => d.recalLine k t) d)
    { d with recal := [] }

/-- R530: a step of the plan that has ended, clean or tainted. -/
def countStep (d : Device) (ended : Nat) : Device :=
  if Map.get 0 d.health.tainted ended = 0 then { d with work := { d.work with clean := d.work.clean + 1 } }
  else { d with work := { d.work with tainted := d.work.tainted + 1 } }

/-- R340, R412, R513: members declared lost; their links enter the down-set and a restore is asked for. -/
def declareLost (d : Device) (ms : List Nat) (cause : Nat) : Device :=
  if ms.isEmpty then d
  else
    let d := { d with cad := { d.cad with lost := d.cad.lost ++ ms },
                      hv := { d.hv with lostSeen := d.hv.lostSeen ++ ms, deadPos := d.hv.deadPos ++ ms.map d.mapPos } }
    let d := ms.foldl (fun d m => d.loseMember m) d
    (d.send (.membersLost ms)).askRestore cause

/-- R412: the members that the plan's transfers name and no route reaches. -/
def cutMembers (d : Device) : List Nat :=
  match d.adm.facts with
  | some f => (d.planDevs f).filter (fun n =>
      let p := d.mapPos n
      decide (p < 4096) && p != d.position && (d.routeMode p).2.1 && !d.cad.lost.contains n)
  | none => []

/-- R411 step 3, R412: the routes that a DOWNSET changed are installed; a member of the plan that they no longer reach goes to
the survival path as a lost member. -/
def newRoutes (d : Device) : Device :=
  let old := d.cutMembers
  let d := d.installRoutes
  let cut := if d.inPlan then d.cutMembers.filter (fun n => !old.contains n) else []
  let d := cut.foldl (fun d n => d.raise 0x500A 0 0 (0xF + d.mapPos n * 2 ^ 16)) d
  if d.isMaster then d.declareLost cut 0x500A
  else if cut.isEmpty then d else d.askRestore 0x500A

/-- R308, R309: a step opens with the taint flag that a notice has set for it, and then with that cause; tiles written before it are of
an earlier step (R311). -/
def openTaint (d : Device) (step : Nat) : Device :=
  let c := Map.get 0 d.health.tainted step
  let d := { d with health := { d.health with taintedHdrs := [] } }
  if c = 0 then d.setNum 0x1401 1 0 0 else ((d.setNum 0x1401 1 0 1).setNum 0x1401 2 0 (c - 1)).setNum 0x1401 3 0 step

/-- R191, R333, R343, R411, R428: the position becomes the boundary `p`; the season that starts there begins. -/
def enterBoundary (d : Device) (p : Nat) : Device :=
  let d := d.finishHold.flushAllReports
  let step := p / 2 ^ 24 % 2 ^ 48
  let ph := p % 2 ^ 24
  let d := if ph = 0 && d.admState = 4 then d.countStep d.cad.step else d
  let d := { d with cad := { d.cad with
    step := step, phase := ph, frac := 0, slew := 0, stopped := false, ahead := none, sent := none,
    done := d.cad.done.filter (fun x => x.1 == step && x.2.1 == d.seasonAt ph) } }
  let d := d.newRoutes
  let d := if d.seasonAt ph = 3 then d.recalibrate else d
  let d := if ph = 0 then d.openTaint step else d
  let d := if d.admState = 3 && step == d.cad.s0 && ph == 0 then
      let d := { d with link := { d.link with mapNow := some (d.domOf 0x1701 1) },
                        adm := { d.adm with restoreS0 := none, verdicts := [], withdrawn := none } }
      ((d.recomputeTree).setNum 0x1300 3 0 4).restoreDone
    else d
  match d.cad.stopStep with
  | some n =>
    if ph = 0 && step == (n + 1) % 2 ^ 48 && d.runState == 3 then d.haltRun
    else d.fireSeason.fireStamps ((ph : Int) - 1) ph
  | none => d.fireSeason.fireStamps ((ph : Int) - 1) ph

/-- R338: members of the plan whose DONE for the present season has not arrived. -/
def missingDone (d : Device) : List Nat :=
  d.cad.members.filter (fun m => !d.cad.done.contains (d.cad.step, d.season, m))

/-- R345, R344: every other member admitted, none withdrew. -/
def allAdmitted (d : Device) : Bool :=
  (d.cad.members.filter (fun m => m != d.devNo)).all (fun m => d.adm.verdicts.contains (m, 0)) && d.adm.withdrawn.isNone

/-- R477: every domain that the plan uses is on. -/
def domainsUp (d : Device) : Bool :=
  (List.range 1667).all (fun i => !d.usesDomain (i + 1) || d.pdState (i + 1) == 0)

/-- R511: after a Harvest Winter the master writes HV_COMMIT at every member: the number, or 0 after a taint notice. -/
def decideHarvest (d : Device) (ended : Nat) : Device :=
  match d.hv.run with
  | some r =>
    if r.step = ended && r.copied then
      let v := if Map.get 0 d.health.tainted ended = 0 then r.hnum else 0
      d.cad.members.foldl (fun d m => d.send (.fwWrite m 0x1502 3 0 v)) d
    else d
  | none => d

/-- R339, R345: the master releases the boundary it stands at once every DONE, or every verdict for S0, has arrived. -/
def tryRelease (d : Device) : Device :=
  if !(d.isMaster && d.inPlan && d.cad.stopped) || d.absPos ≠ d.lastBefore then d
  else
    let ok := if d.admState = 3 then d.allAdmitted && d.domainsUp && decide (0 < d.untilS0)
      else d.missingDone.isEmpty
    if !ok then d
    else
      let ended := d.cad.step
      let d := d.enterBoundary (d.absPos + 1)
      let d := d.sendWord true
      if d.cad.phase = 0 then d.decideHarvest ended else d

end Device

end Sys2Proof.Machine
end

