-- ==== Sys2Proof/Machine/Encoding.lean ====
section
/-! DEFINITION. Instruction words: of cores, 64 bits (R113 to R126), and of micro-sequencers, 32 bits (R169 to R171, R192,
R262 to R266, R317), as the program stores hold them. -/

namespace Sys2Proof.Machine

/-! ### Fields -/

/-- `n` bits of a word from bit `lo` on. -/
def fld (w lo n : Nat) : Nat := w / 2 ^ lo % 2 ^ n

def fldReg (w lo : Nat) : Reg := Fin.ofNat 16 (fld w lo 4)

/-! ### Core instructions (R113 to R126) -/

/-- R114: a control, sync or move word. -/
def encOp (cls op rd rs1 rs2 imm : Nat) : W64 :=
  BitVec.ofNat 64 (cls * 2 ^ 61 + op * 2 ^ 55 + rd * 2 ^ 51 + rs1 * 2 ^ 47 + rs2 * 2 ^ 43 + imm)

/-- R115. -/
def encAcc (f : AccFields) : W64 :=
  BitVec.ofNat 64 (4 * 2 ^ 61 + f.eng.val * 2 ^ 55 + f.mode.toNat * 2 ^ 52 + f.fmtA.toNat * 2 ^ 47 + f.fmtB.toNat * 2 ^ 42 +
    f.widthA.toNat * 2 ^ 38 + f.widthB.toNat * 2 ^ 34 + f.run.toNat * 2 ^ 32 + f.slot.val * 2 ^ 29 + f.init.toNat * 2 ^ 28 +
    f.len.toNat * 2 ^ 16 + f.table.val * 2 ^ 14 + f.ra.val * 2 ^ 10 + f.rb.val * 2 ^ 6)

def decAcc (w : Nat) : AccFields :=
  { eng := Fin.ofNat 8 (fld w 55 3), mode := BitVec.ofNat 3 (fld w 52 3), fmtA := BitVec.ofNat 5 (fld w 47 5),
    fmtB := BitVec.ofNat 5 (fld w 42 5), widthA := BitVec.ofNat 4 (fld w 38 4), widthB := BitVec.ofNat 4 (fld w 34 4),
    run := BitVec.ofNat 2 (fld w 32 2), slot := Fin.ofNat 8 (fld w 29 3), init := fld w 28 1 == 1,
    len := BitVec.ofNat 12 (fld w 16 12), table := Fin.ofNat 4 (fld w 14 2), ra := fldReg w 10, rb := fldReg w 6 }

/-- R116: a drain. -/
def encDrain (f : DrainFields) : W64 :=
  BitVec.ofNat 64 (4 * 2 ^ 61 + 1 * 2 ^ 58 + f.eng.val * 2 ^ 55 + f.slot.val * 2 ^ 52 + f.fmtOut.toNat * 2 ^ 47 +
    f.widthOut.toNat * 2 ^ 43 + f.rmode.toNat * 2 ^ 41 + f.sat.toNat * 2 ^ 40 + f.add.toNat * 2 ^ 39 +
    f.clear.toNat * 2 ^ 38 + f.ro.val * 2 ^ 34 + f.rd.val * 2 ^ 30 + f.cnt.val * 2 ^ 24)

def decDrain (w : Nat) : DrainFields :=
  { eng := Fin.ofNat 8 (fld w 55 3), slot := Fin.ofNat 8 (fld w 52 3), fmtOut := BitVec.ofNat 5 (fld w 47 5),
    widthOut := BitVec.ofNat 4 (fld w 43 4), rmode := BitVec.ofNat 2 (fld w 41 2), sat := fld w 40 1 == 1,
    add := fld w 39 1 == 1, clear := fld w 38 1 == 1, ro := fldReg w 34, rd := fldReg w 30, cnt := Fin.ofNat 64 (fld w 24 6) }

/-- R116: a table load: its slot in [54:53], its register in [51:48]. -/
def encTable (f : TableFields) : W64 :=
  BitVec.ofNat 64 (4 * 2 ^ 61 + 2 * 2 ^ 58 + f.eng.val * 2 ^ 55 + f.slot.val * 2 ^ 53 + f.rs.val * 2 ^ 48 + f.cnt.val * 2 ^ 24)

def decTable (w : Nat) : TableFields :=
  { eng := Fin.ofNat 8 (fld w 55 3), slot := Fin.ofNat 4 (fld w 53 2), rs := fldReg w 48, cnt := Fin.ofNat 64 (fld w 24 6) }

/-- R125. -/
def encVec (vop : Nat) (f : VecFields) : W64 :=
  BitVec.ofNat 64 (3 * 2 ^ 61 + vop * 2 ^ 55 + f.fx.toNat * 2 ^ 53 + f.fy.toNat * 2 ^ 51 + f.fz.toNat * 2 ^ 49 +
    f.rmode.toNat * 2 ^ 47 + f.sat.toNat * 2 ^ 46 + f.rx.val * 2 ^ 42 + f.ry.val * 2 ^ 38 + f.rz.val * 2 ^ 34 +
    f.rw.val * 2 ^ 30 + f.rn.val * 2 ^ 26)

def decVec (w : Nat) : VecFields :=
  { fx := BitVec.ofNat 2 (fld w 53 2), fy := BitVec.ofNat 2 (fld w 51 2), fz := BitVec.ofNat 2 (fld w 49 2),
    rmode := BitVec.ofNat 2 (fld w 47 2), sat := fld w 46 1 == 1, rx := fldReg w 42, ry := fldReg w 38, rz := fldReg w 34,
    rw := fldReg w 30, rn := fldReg w 26 }

/-- The word of a core instruction; none of the other commands has one. -/
def encodeCore : Instr → Option W64
  | .j _ _ imm => some (encOp 0 0 0 0 0 imm.toNat)
  | .beq _ _ a b imm => some (encOp 0 1 0 a b imm.toNat)
  | .bne _ _ a b imm => some (encOp 0 2 0 a b imm.toNat)
  | .bltu _ _ a b imm => some (encOp 0 3 0 a b imm.toNat)
  | .bgeu _ _ a b imm => some (encOp 0 4 0 a b imm.toNat)
  | .blt _ _ a b imm => some (encOp 0 5 0 a b imm.toNat)
  | .bge _ _ a b imm => some (encOp 0 6 0 a b imm.toNat)
  | .loop _ _ rd imm => some (encOp 0 7 rd 0 0 imm.toNat)
  | .halt _ _ => some (encOp 0 8 0 0 0 0)
  | .wait _ _ a imm => some (encOp 1 0 0 a 0 imm.toNat)
  | .sig _ _ imm => some (encOp 1 1 0 0 0 imm.toNat)
  | .bar _ _ => some (encOp 1 2 0 0 0 0)
  | .fence _ _ => some (encOp 1 3 0 0 0 0)
  | .aadd _ _ rd a b imm _ => some (encOp 1 4 rd a b imm.toNat)
  | .acas _ _ rd a b imm _ => some (encOp 1 5 rd a b imm.toNat)
  | .amax _ _ rd a b imm _ => some (encOp 1 6 rd a b imm.toNat)
  | .watch _ _ a b _ => some (encOp 1 7 0 a b 0)
  | .waitph _ _ a => some (encOp 1 8 0 a 0 0)
  | .movi _ _ rd imm => some (encOp 2 0 rd 0 0 imm.toNat)
  | .movhi _ _ rd imm => some (encOp 2 1 rd 0 0 imm.toNat)
  | .add _ _ rd a b imm => some (encOp 2 2 rd a b imm.toNat)
  | .sub _ _ rd a b imm => some (encOp 2 3 rd a b imm.toNat)
  | .andB _ _ rd a b imm => some (encOp 2 4 rd a b imm.toNat)
  | .orB _ _ rd a b imm => some (encOp 2 5 rd a b imm.toNat)
  | .xorB _ _ rd a b imm => some (encOp 2 6 rd a b imm.toNat)
  | .shl _ _ rd a b imm => some (encOp 2 7 rd a b imm.toNat)
  | .shr _ _ rd a b imm => some (encOp 2 8 rd a b imm.toNat)
  | .sra _ _ rd a b imm => some (encOp 2 9 rd a b imm.toNat)
  | .mul _ _ rd a b imm => some (encOp 2 0x0A rd a b imm.toNat)
  | .ldl _ _ rd a imm _ => some (encOp 2 0x0B rd a 0 imm.toNat)
  | .stl _ _ a b imm => some (encOp 2 0x0C 0 a b imm.toNat)
  | .ldc _ _ rd a imm _ => some (encOp 2 0x0D rd a 0 imm.toNat)
  | .stc _ _ a b imm => some (encOp 2 0x0E 0 a b imm.toNat)
  | .tld _ _ a b imm => some (encOp 2 0x0F 0 a b imm.toNat)
  | .tst _ _ a b imm => some (encOp 2 0x10 0 a b imm.toNat)
  | .frel _ _ a imm => some (encOp 2 0x11 0 a 0 imm.toNat)
  | .setstr _ _ a => some (encOp 2 0x12 0 a 0 0)
  | .rdph _ _ rd => some (encOp 2 0x13 rd 0 0 0)
  | .rdid _ _ rd => some (encOp 2 0x14 rd 0 0 0)
  | .vadd _ _ f _ => some (encVec 0 f)
  | .vsub _ _ f _ => some (encVec 1 f)
  | .vmul _ _ f _ => some (encVec 2 f)
  | .vfma _ _ f _ => some (encVec 3 f)
  | .vmax _ _ f _ => some (encVec 4 f)
  | .vmin _ _ f _ => some (encVec 5 f)
  | .vabs _ _ f _ => some (encVec 6 f)
  | .vexp2 _ _ f _ => some (encVec 8 f)
  | .vlog2 _ _ f _ => some (encVec 9 f)
  | .vrcp _ _ f _ => some (encVec 0x0A f)
  | .vrsq _ _ f _ => some (encVec 0x0B f)
  | .vrsum _ _ f _ => some (encVec 0x0C f)
  | .vrmax _ _ f _ => some (encVec 0x0D f)
  | .wupd _ _ f _ => some (encVec 0x0E f)
  | .accumulate _ _ f => some (encAcc f)
  | .drain _ _ f _ => some (encDrain f)
  | .tableLoad _ _ f => some (encTable f)
  | _ => none

/-- R122. -/
def decControl (g : CoreN) (t : Thr) (op : Nat) (rd a b : Reg) (imm : BitVec 32) : Instr :=
  match op with
  | 0 => .j g t imm
  | 1 => .beq g t a b imm
  | 2 => .bne g t a b imm
  | 3 => .bltu g t a b imm
  | 4 => .bgeu g t a b imm
  | 5 => .blt g t a b imm
  | 6 => .bge g t a b imm
  | 7 => .loop g t rd imm
  | 8 => .halt g t
  | _ => .reservedInstruction g t

/-- R123. -/
def decSync (g : CoreN) (t : Thr) (hits : Hits) (op : Nat) (rd a b : Reg) (imm : BitVec 32) : Instr :=
  match op with
  | 0 => .wait g t a imm
  | 1 => .sig g t imm
  | 2 => .bar g t
  | 3 => .fence g t
  | 4 => .aadd g t rd a b imm hits
  | 5 => .acas g t rd a b imm hits
  | 6 => .amax g t rd a b imm hits
  | 7 => .watch g t a b hits
  | 8 => .waitph g t a
  | _ => .reservedInstruction g t

/-- R121; a load comes with what SECDED finds in its words. -/
def decMove (g : CoreN) (t : Thr) (ecc : EccRead) (op : Nat) (rd a b : Reg) (imm : BitVec 32) : Instr :=
  match op with
  | 0 => .movi g t rd imm
  | 1 => .movhi g t rd imm
  | 2 => .add g t rd a b imm
  | 3 => .sub g t rd a b imm
  | 4 => .andB g t rd a b imm
  | 5 => .orB g t rd a b imm
  | 6 => .xorB g t rd a b imm
  | 7 => .shl g t rd a b imm
  | 8 => .shr g t rd a b imm
  | 9 => .sra g t rd a b imm
  | 0x0A => .mul g t rd a b imm
  | 0x0B => .ldl g t rd a imm ecc
  | 0x0C => .stl g t a b imm
  | 0x0D => .ldc g t rd a imm ecc
  | 0x0E => .stc g t a b imm
  | 0x0F => .tld g t a b imm
  | 0x10 => .tst g t a b imm
  | 0x11 => .frel g t a imm
  | 0x12 => .setstr g t a
  | 0x13 => .rdph g t rd
  | 0x14 => .rdid g t rd
  | _ => .reservedInstruction g t

/-- R126. -/
def decVector (g : CoreN) (t : Thr) (hits : Hits) (vop : Nat) (f : VecFields) : Instr :=
  match vop with
  | 0 => .vadd g t f hits
  | 1 => .vsub g t f hits
  | 2 => .vmul g t f hits
  | 3 => .vfma g t f hits
  | 4 => .vmax g t f hits
  | 5 => .vmin g t f hits
  | 6 => .vabs g t f hits
  | 8 => .vexp2 g t f hits
  | 9 => .vlog2 g t f hits
  | 0x0A => .vrcp g t f hits
  | 0x0B => .vrsq g t f hits
  | 0x0C => .vrsum g t f hits
  | 0x0D => .vrmax g t f hits
  | 0x0E => .wupd g t f hits
  | _ => .reservedInstruction g t

/-- R113, R124: what a word of core `g`'s program store says to thread `t`; a reserved code is the reserved instruction. -/
def decodeCore (g : CoreN) (t : Thr) (ecc : EccRead) (hits : Hits) (word : W64) : Instr :=
  let w := word.toNat
  let op := fld w 55 6
  let rd := fldReg w 51
  let a := fldReg w 47
  let b := fldReg w 43
  let imm := BitVec.ofNat 32 (fld w 0 32)
  match fld w 61 3 with
  | 0 => decControl g t op rd a b imm
  | 1 => decSync g t hits op rd a b imm
  | 2 => decMove g t ecc op rd a b imm
  | 3 => decVector g t hits op (decVec w)
  | 4 =>
    match fld w 58 3 with
    | 0 => .accumulate g t (decAcc w)
    | 1 => .drain g t (decDrain w) hits
    | 2 => .tableLoad g t (decTable w)
    | _ => .reservedInstruction g t
  | _ => .reservedInstruction g t

/-- R114 to R116, R125: the RSVD fields of a word are zero. The RO and RD bits of a table load, of which R116 says no more than
that a drain uses them, count as RSVD there (DESIGN CHOICE, log entry 32). -/
def rsvdZero (word : W64) : Bool :=
  let w := word.toNat
  match fld w 61 3 with
  | 0 => fld w 32 11 == 0
  | 1 => fld w 32 11 == 0
  | 2 => fld w 32 11 == 0
  | 3 => fld w 0 26 == 0
  | 4 =>
    match fld w 58 3 with
    | 0 => fld w 0 6 == 0
    | 1 => fld w 0 24 == 0
    | 2 => fld w 0 24 == 0 && fld w 30 18 == 0 && fld w 52 1 == 0
    | _ => true
  | _ => true

/-- R142, 0xA038: a reserved code, a RSVD field that is not zero, a WUPD with RMODE other than 0b00 or 0b01. An FZ of 0b11 in a
WUPD, which writes no output in FZ, is accepted (DESIGN CHOICE, log entry 38). -/
def coreWordBad (word : W64) : Bool :=
  !rsvdZero word ||
  (match decodeCore 0 0 .clean [] word with
    | .reservedInstruction _ _ => true
    | .drain _ _ f _ => f.fmtOut.toNat == 8 || f.fmtOut.toNat == 9
    | .vrsum _ _ f _ => f.fz.toNat == 2
    | .vrmax _ _ f _ => f.fz.toNat == 2
    | .wupd _ _ f _ => f.fz.toNat == 2 || decide (2 ≤ f.rmode.toNat)
    | .vadd _ _ f _ => decide (2 ≤ f.fz.toNat)
    | .vsub _ _ f _ => decide (2 ≤ f.fz.toNat)
    | .vmul _ _ f _ => decide (2 ≤ f.fz.toNat)
    | .vfma _ _ f _ => decide (2 ≤ f.fz.toNat)
    | .vmax _ _ f _ => decide (2 ≤ f.fz.toNat)
    | .vmin _ _ f _ => decide (2 ≤ f.fz.toNat)
    | .vabs _ _ f _ => decide (2 ≤ f.fz.toNat)
    | .vexp2 _ _ f _ => decide (2 ≤ f.fz.toNat)
    | .vlog2 _ _ f _ => decide (2 ≤ f.fz.toNat)
    | .vrcp _ _ f _ => decide (2 ≤ f.fz.toNat)
    | .vrsq _ _ f _ => decide (2 ≤ f.fz.toNat)
    | _ => false)

/-! ### Micro-sequencer instructions (R169 to R171) -/

/-- R169: OP, RD, RA, RB and 14 bits of immediate. -/
def encSq (op rd ra rb imm : Nat) : W32 := BitVec.ofNat 32 (op * 2 ^ 26 + rd * 2 ^ 22 + ra * 2 ^ 18 + rb * 2 ^ 14 + imm)

/-- R178, R315: the kinds of instance: stream engine, scale tracker, mask engine, cluster and device health monitor. -/
inductive SqKind where
  | stream (s : Se)
  | tracker (k : Cluster)
  | mask (k : Cluster)
  | monitor (k : Cluster)
  | device
  deriving DecidableEq, Repr

def sqKind (q : Sq) : SqKind :=
  if h : q.val < 384 then .stream ⟨q.val, h⟩
  else if q.val < 480 then .tracker (Fin.ofNat 96 (q.val - 384))
  else if q.val < 576 then .mask (Fin.ofNat 96 (q.val - 480))
  else if q.val < 672 then .monitor (Fin.ofNat 96 (q.val - 576))
  else .device

/-- The word of a micro-sequencer instruction; none of the other commands has one. -/
def encodeSeq : Instr → Option W32
  | .seqNop _ => some (encSq 0 0 0 0 0)
  | .seqMovi _ rd imm => some (encSq 1 rd 0 0 imm.toNat)
  | .seqMovhi _ rd imm => some (encSq 2 rd 0 0 imm.toNat)
  | .seqAdd _ rd a b imm => some (encSq 3 rd a b imm.toNat)
  | .seqSub _ rd a b imm => some (encSq 4 rd a b imm.toNat)
  | .seqAnd _ rd a b imm => some (encSq 5 rd a b imm.toNat)
  | .seqOr _ rd a b imm => some (encSq 6 rd a b imm.toNat)
  | .seqXor _ rd a b imm => some (encSq 7 rd a b imm.toNat)
  | .seqShl _ rd a b imm => some (encSq 8 rd a b imm.toNat)
  | .seqShr _ rd a b imm => some (encSq 9 rd a b imm.toNat)
  | .sltu _ rd a b imm => some (encSq 0x0A rd a b imm.toNat)
  | .seqLd _ rd a imm _ => some (encSq 0x0B rd a 0 imm.toNat)
  | .seqSt _ a b imm => some (encSq 0x0C 0 a b imm.toNat)
  | .seqAadd _ rd a b _ => some (encSq 0x0D rd a b 0)
  | .seqJ _ imm => some (encSq 0x0E 0 0 0 imm.toNat)
  | .seqBeq _ a b imm => some (encSq 0x0F 0 a b imm.toNat)
  | .seqBne _ a b imm => some (encSq 0x10 0 a b imm.toNat)
  | .seqBltu _ a b imm => some (encSq 0x11 0 a b imm.toNat)
  | .waitw _ a b imm _ => some (encSq 0x12 0 a b imm.toNat)
  | .seqWaitph _ a => some (encSq 0x13 0 a 0 0)
  | .seqSig _ a imm => some (encSq 0x14 0 a 0 imm.toNat)
  | .seqRdph _ rd => some (encSq 0x15 rd 0 0 0)
  | .seqDone _ => some (encSq 0x17 0 0 0 0)
  | .tmove _ a _ => some (encSq 0x20 0 a 0 0)
  | .bmove _ a b _ => some (encSq 0x21 0 a b 0)
  | .qwait _ => some (encSq 0x22 0 0 0 0)
  | .pass _ a b drop => some (encSq 0x23 0 a b drop.toNat)
  | .spub _ rd a b _ => some (encSq 0x20 rd a b 0)
  | .srst _ a _ => some (encSq 0x21 0 a 0 0)
  | .mcapt _ rd a _ => some (encSq 0x20 rd a 0 0)
  | .mupd _ rd a _ => some (encSq 0x21 rd a 0 0)
  | .mapply _ rd a _ => some (encSq 0x22 rd a 0 0)
  | .cpack _ rd a _ => some (encSq 0x23 rd a 0 0)
  | .mcheck _ rd a _ => some (encSq 0x24 rd a 0 0)
  | .hclose _ a _ => some (encSq 0x20 0 a 0 0)
  | .nchk _ rd a _ => some (encSq 0x21 rd a 0 0)
  | .hpost _ a _ => some (encSq 0x22 0 a 0 0)
  | .hcollect rd b => some (encSq 0x23 rd 0 b 0)
  | .lchk rd a => some (encSq 0x24 rd a 0 0)
  | .risk rd b => some (encSq 0x25 rd 0 b 0)
  | _ => none

/-- R171, R192, R262 to R266, R317: the operations of one kind of instance; those of another kind are the fault of R174. -/
def decKind (q : Sq) (hits : Hits) (op : Nat) (rd a b : Reg) (imm : Nat) : Instr :=
  match sqKind q, op with
  | .stream s, 0x20 => .tmove s a hits
  | .stream s, 0x21 => .bmove s a b hits
  | .stream s, 0x22 => .qwait s
  | .stream s, 0x23 => .pass s a b (fld imm 0 1 == 1)
  | .tracker k, 0x20 => .spub k rd a b hits
  | .tracker k, 0x21 => .srst k a hits
  | .mask k, 0x20 => .mcapt k rd a hits
  | .mask k, 0x21 => .mupd k rd a hits
  | .mask k, 0x22 => .mapply k rd a hits
  | .mask k, 0x23 => .cpack k rd a hits
  | .mask k, 0x24 => .mcheck k rd a hits
  | .monitor k, 0x20 => .hclose k a hits
  | .monitor k, 0x21 => .nchk k rd a hits
  | .monitor k, 0x22 => .hpost k a hits
  | .device, 0x23 => .hcollect rd b
  | .device, 0x24 => .lchk rd a
  | .device, 0x25 => .risk rd b
  | _, _ => .seqFault q

/-- R169, R170: what a word of a micro-sequencer's program says; a reserved OP is the fault of R174. -/
def decodeSeq (q : Sq) (hits : Hits) (word : W32) : Instr :=
  let w := word.toNat
  let rd := fldReg w 22
  let a := fldReg w 18
  let b := fldReg w 14
  let imm := BitVec.ofNat 14 (fld w 0 14)
  match fld w 26 6 with
  | 0 => .seqNop q
  | 1 => .seqMovi q rd (BitVec.ofNat 18 (fld w 0 18))
  | 2 => .seqMovhi q rd (BitVec.ofNat 16 (fld w 0 16))
  | 3 => .seqAdd q rd a b imm
  | 4 => .seqSub q rd a b imm
  | 5 => .seqAnd q rd a b imm
  | 6 => .seqOr q rd a b imm
  | 7 => .seqXor q rd a b imm
  | 8 => .seqShl q rd a b imm
  | 9 => .seqShr q rd a b imm
  | 0x0A => .sltu q rd a b imm
  | 0x0B => .seqLd q rd a imm hits
  | 0x0C => .seqSt q a b imm
  | 0x0D => .seqAadd q rd a b hits
  | 0x0E => .seqJ q imm
  | 0x0F => .seqBeq q a b imm
  | 0x10 => .seqBne q a b imm
  | 0x11 => .seqBltu q a b imm
  | 0x12 => .waitw q a b imm hits
  | 0x13 => .seqWaitph q a
  | 0x14 => .seqSig q a imm
  | 0x15 => .seqRdph q rd
  | 0x17 => .seqDone q
  | op => decKind q hits op rd a b imm.toNat

/-- R176, 0xA03D: a reserved or undefined operation, or a branch beyond an image of `n` words. -/
def seqWordBad (q : Sq) (n : Nat) (word : W32) : Bool :=
  match decodeSeq q [] word with
  | .seqFault _ => true
  | .seqJ _ imm => decide (n ≤ imm.toNat % 256)
  | .seqBeq _ _ _ imm => decide (n ≤ imm.toNat % 256)
  | .seqBne _ _ _ imm => decide (n ≤ imm.toNat % 256)
  | .seqBltu _ _ _ imm => decide (n ≤ imm.toNat % 256)
  | _ => false

end Sys2Proof.Machine
end

