-- ==== Sys2Proof/Machine/PlanRules.lean ====
section
/-! DEFINITION. What the check finds in the programs and tables of a plan (R51, R142, R176, R220, R239, R324): the rules whose
matter has a layout of the manual. The files Check*.lean hold those of the sections without one (log entry 10). -/

namespace Sys2Proof.Machine

/-- A rule that a section breaks: code, section TYPE, item. -/
def brk (code sec item : Nat) : PlanBreak := { code := code, section_ := sec, item := item }

/-- One break for each item that fails a test. -/
def breaksOf {α : Type} (l : List α) (code sec : Nat) (bad : α → Bool) : List PlanBreak :=
  l.zipIdx.filterMap (fun x => if bad x.1 then some (brk code sec x.2) else none)

/-- R37, R38: a format code or width that is reserved; with `isRead`, 0x00 too (R51). -/
def fmtBad (fmt width : Nat) (isRead : Bool) : Bool :=
  decide (0x0A ≤ fmt) || (isRead && fmt == 0) || (fmt == fmtINT && (width == 0 || decide (9 ≤ width)))

/-- R51, R55, 0xA031: a reserved FMT, WIDTH or RMODE in a core program. -/
def wordFmtBad (w : W64) : Bool :=
  match decodeCore 0 0 .clean [] w with
  | .accumulate _ _ f => fmtBad f.fmtA.toNat f.widthA.toNat true || fmtBad f.fmtB.toNat f.widthB.toNat true
  | .drain _ _ f _ => fmtBad f.fmtOut.toNat f.widthOut.toNat true || f.rmode.toNat == 3
  | .vadd _ _ f _ => f.rmode.toNat == 3
  | .vsub _ _ f _ => f.rmode.toNat == 3
  | .vmul _ _ f _ => f.rmode.toNat == 3
  | .vfma _ _ f _ => f.rmode.toNat == 3
  | .vmax _ _ f _ => f.rmode.toNat == 3
  | .vmin _ _ f _ => f.rmode.toNat == 3
  | .vabs _ _ f _ => f.rmode.toNat == 3
  | .vexp2 _ _ f _ => f.rmode.toNat == 3
  | .vlog2 _ _ f _ => f.rmode.toNat == 3
  | .vrcp _ _ f _ => f.rmode.toNat == 3
  | .vrsq _ _ f _ => f.rmode.toNat == 3
  | .vrsum _ _ f _ => f.rmode.toNat == 3
  | .vrmax _ _ f _ => f.rmode.toNat == 3
  | .wupd _ _ f _ => f.rmode.toNat == 3
  | _ => false

/-- R75, 0xA036: an accumulate word with a reserved MODE, a RUN outside float mode, a LEN of bit-plane mode that is no multiple
of 4 (an odd window, R91), or a TABLE outside log mode. -/
def accWordBad (f : AccFields) : Bool :=
  decide (4 ≤ f.mode.toNat) || (f.mode.toNat != 0 && f.run.toNat != 0) ||
  (f.mode.toNat == 2 && f.len.toNat % 4 != 0) || (f.mode.toNat != 3 && f.table.val != 0)

def wordModeBad (w : W64) : Bool :=
  match decodeCore 0 0 .clean [] w with
  | .accumulate _ _ f => accWordBad f
  | _ => false

/-- R51, R75, R142: core programs. -/
def programBreaks (f : PlanFacts) : List PlanBreak :=
  breaksOf f.programs 0xA031 9 (fun p => p.words.any wordFmtBad) ++
  breaksOf f.programs 0xA036 9 (fun p => p.words.any wordModeBad) ++
  breaksOf f.programs 0xA038 9 (fun p => p.words.any coreWordBad)

/-- R172: a trigger entry with a reserved KIND or field. -/
def triggersBad (t : List Byte) : Bool :=
  (List.range 8).any (fun n => decide (3 < fieldB t (8 * n) 1) || fieldB t (8 * n + 2) 2 != 0)

/-- R175, R176: a micro-sequencer program or trigger table. -/
def sequencerBad (o : PlanObject) : Bool :=
  if o.idx = 0x7040 ∧ 1 ≤ o.inst ∧ o.inst ≤ 673 then
    if o.sub = 1 then
      let n := o.data.length / 4
      o.data.length % 4 != 0 || decide (256 < n) ||
      (List.range n).any (fun i => seqWordBad (Fin.ofNat 673 (o.inst - 1)) n (BitVec.ofNat 32 (fieldB o.data (4 * i) 4)))
    else o.sub == 2 && triggersBad o.data
  else false

/-- R164, 0xA03C. -/
def carouselBad (c : PlanCarousel) : Bool :=
  c.members.length < 2 || 16 < c.members.length || c.share < 1 || 64 < c.share || c.turns < 1 ||
  c.members.any (fun m => decide (16 ≤ m)) || !decide c.members.Nodup || 240 ≤ c.base + c.share

/-- Two carousels whose frames meet in a member. -/
def carouselsMeet (a b : PlanCarousel) : Bool :=
  a.cluster == b.cluster && a.members.any (fun m => b.members.contains m) &&
  decide (a.base ≤ b.base + b.share) && decide (b.base ≤ a.base + a.share)

def carouselBreaks (f : PlanFacts) : List PlanBreak :=
  let l := f.carousels.zipIdx
  l.filterMap (fun x =>
    if carouselBad x.1 || l.any (fun y => decide (y.2 < x.2) && carouselsMeet y.1 x.1) then some (brk 0xA03C 9 x.2) else none)

/-- R228, R239, 0xA045: a stream-table entry. -/
def streamBad (b : List Byte) : Bool :=
  fieldB b 0 2 == 0 || decide (2 < fieldB b 4 1) || fieldB b 5 1 == 0 || fieldB b 6 2 != 0 ||
  decide (65536 < fieldB b 8 4) || fieldB b 0xC 4 != 0

def streamsBad (o : PlanObject) : Bool :=
  o.idx == 0x7060 && o.sub == 1 &&
  (o.data.length % 16 != 0 || decide (65536 < o.data.length) ||
    (List.range (o.data.length / 16)).any (fun i => streamBad (sliceB o.data (16 * i) 16)))

/-- R305, R324, 0xA04E: a class-map byte above 5. -/
def classMapBad (o : PlanObject) : Bool := o.idx == 0x7080 && o.sub == 1 && o.data.any (fun b => decide (5 < b.toNat))

/-- The bytes that the plan's tables put into the cluster stores. -/
def planMem (f : PlanFacts) : Map Byte := f.stores.foldl (fun m b => Device.memWrite m b.addr b.data) []

def planBytes (m : Map Byte) (a n : Nat) : List Byte := (List.range n).map (fun i => Map.get 0 m (a + i))

/-- The number that a plan sets for an object. -/
def planNum (f : PlanFacts) (idx sub inst : Nat) : Option Nat :=
  (f.numbers.find? (fun n => n.1 == idx && n.2.1 == sub && n.2.2.1 == inst)).map (fun n => n.2.2.2)

/-- R132, 0xA03B: CAP a power of two in 16 to 4,096, BASE aligned, the ring inside the store. -/
def listBad (h : List Byte) : Bool :=
  let base := fieldB h 4 4
  let cap := fieldB h 8 2
  !([16, 32, 64, 128, 256, 512, 1024, 2048, 4096].contains cap) || base % 64 != 0 || decide (0x1000000 < base + 64 * cap)

def listBreaks (f : PlanFacts) (m : Map Byte) : List PlanBreak :=
  f.numbers.zipIdx.filterMap (fun x =>
    let n := x.1
    if n.1 = 0x7021 ∧ 1 ≤ n.2.2.1 ∧ n.2.2.2 ≠ 0xFFFFFFFF then
      let off := n.2.2.2
      let bad := off % 64 != 0 || decide (0x1000000 < off + 128) ||
        listBad (planBytes m (Device.storeAddr ((n.2.2.1 - 1) / 16) off) 128)
      if bad then some (brk 0xA03B 10 x.2) else none
    else none)

/-- R183, R220, 0xA03F: a record; `track` says that SCALE_TRACK_ENABLE is set. -/
def recordBad (b : List Byte) (track : Bool) : Bool :=
  let fl := fieldB b 7 1
  let s := fieldB b 0 2
  let n := fieldB b 0xB 1
  let policy := bitsOf fl 5 4
  bitOf fl 7 || policy == 3 || n == 0 || decide (16 < n) || decide (3 < fieldB b 0xC 1) ||
  fieldB b 4 1 != (if bitOf fl 1 then 120 else 127) || (policy == 2 && !track) ||
  (policy == 0 && (s == 0 || decide (0x7F80 ≤ s)))

def scaleBreaks (f : PlanFacts) (m : Map Byte) (track : Bool) : List PlanBreak :=
  (List.range 96).flatMap (fun k =>
    match planNum f 0x7050 1 (k + 1), planNum f 0x7050 2 (k + 1) with
    | some base, some n =>
      (List.range n).filterMap (fun t =>
        if recordBad (planBytes m (Device.storeAddr k (base + 128 * t)) 64) track then some (brk 0xA03F 12 t) else none)
    | _, _ => [])

/-- R315, R324, 0xA04E: a watch entry with a reserved KIND or field, or NH outside 2 to 8. -/
def watchBad (b : List Byte) : Bool :=
  decide (1 < fieldB b 4 1) || decide (fieldB b 5 1 < 2) || decide (8 < fieldB b 5 1) || decide (1 < fieldB b 0x1A 1) ||
  fieldB b 0x1B 1 != 0

def watchBreaks (f : PlanFacts) (m : Map Byte) : List PlanBreak :=
  (List.range 96).flatMap (fun k =>
    match planNum f 0x7080 2 (k + 1), planNum f 0x7080 3 (k + 1) with
    | some base, some n =>
      if base = 0xFFFFFFFF then []
      else (List.range n).filterMap (fun t =>
        if base % 32 != 0 || watchBad (planBytes m (Device.storeAddr k (base + 32 * t)) 32) then some (brk 0xA04E 12 t) else none)
    | _, _ => [])

/-- Everything that the model finds itself. -/
def tableBreaks (f : PlanFacts) (track : Bool) : List PlanBreak :=
  let m := planMem f
  programBreaks f ++ breaksOf f.objects 0xA03D 9 sequencerBad ++ carouselBreaks f ++ breaksOf f.objects 0xA045 7 streamsBad ++
  breaksOf f.objects 0xA04E 12 classMapBad ++ listBreaks f m ++ scaleBreaks f m track ++ watchBreaks f m

end Sys2Proof.Machine
end

