-- ==== Sys2Proof/Machine/Rings.lean ====
section
/-! DEFINITION. What the fixed-function engines of a cluster share: descriptor rings (R197), reading and writing tiles of
the own store (R153, R154, R69, R152), the values of a tensor's elements (R179, R213). -/

namespace Sys2Proof.Machine

/-! ### Rings (R197) -/

structure RingHdr where
  tail : Nat
  base : Nat
  cap : Nat
  done : Nat
  deriving DecidableEq, Repr

/-- The CRC of a descriptor of `n` bytes stands in its last four bytes. -/
def descCrcOk (b : List Byte) (n : Nat) : Bool := crcTail b n

namespace Device

def ringHdr (d : Device) (k h : Nat) : RingHdr :=
  let a := storeAddr k h
  { tail := d.load a 4, base := d.load (a + 4) 4, cap := d.load (a + 8) 2, done := d.load (a + 0x24) 4 }

/-- The ring, of `n` rings from `first` on in turn, that has something published. -/
def ringNext (d : Device) (k h0 n first : Nat) : Option Nat :=
  ((List.range n).map (fun i => (first + i) % n)).find? (fun r =>
    let h := d.ringHdr k (h0 + 64 * r)
    accessOk (h0 + 64 * r) 64 && h.done != h.tail)

/-- R30, R31: an access of a fixed-function engine of cluster `k`, behind a port of its store, that is not performed. -/
def ownMiss (d : Device) (k port a : Nat) : Device := d.reachNothing 0x7050 (k + 1) a port

/-- R30: `n` bytes at a device-local address that lie in the own store. -/
def inOwn (k a n : Nat) : Bool := decide (storeAddr k 0 ≤ a) && decide (a + n ≤ storeAddr k 0 + 0x1000000)

/-- R30, R31: bytes at a device-local address that lies in the own store; zeros with event 0x4008 elsewhere. -/
def ownBytes (d : Device) (k port a n : Nat) : Device × List Byte :=
  if n = 0 then (d, [])
  else if inOwn k a n then (d, d.bytes a n)
  else (d.ownMiss k port a, List.replicate n 0)

/-- R30, R31: bytes written at a device-local address that lies in the own store; elsewhere they are discarded with event 0x4008. -/
def ownPut (d : Device) (k port a : Nat) (bs : List Byte) : Device :=
  if inOwn k a bs.length then d.put a bs else d.ownMiss k port a

/-- The ring that `ringNext` finds, with event 0x4008 for every header that the engine looks at and that is not accessed: it reads
as zeros, with nothing published (R31). -/
def ringLook (d : Device) (k h0 n first port : Nat) : Device × Option Nat :=
  ((List.range n).map (fun i => (first + i) % n)).foldl (fun (acc : Device × Option Nat) r =>
    if acc.2.isSome then acc
    else if accessOk (h0 + 64 * r) 64 then
      (acc.1, if (d.ringHdr k (h0 + 64 * r)).done != (d.ringHdr k (h0 + 64 * r)).tail then some r else none)
    else (acc.1.ownMiss k port (storeAddr k (h0 + 64 * r)), none)) (d, none)

/-- The descriptor of `size` bytes that a ring's engine takes next. -/
def ringJob (d : Device) (k h0 r size : Nat) : Job :=
  let h := d.ringHdr k (h0 + 64 * r)
  let off := h.base + h.done % h.cap * size
  { ring := r, off := off, desc := if accessOk off size then d.bytes (storeAddr k off) size else List.replicate size 0 }

/-- The next ring and the descriptor taken from it; one that is not accessed reads as zeros, with event 0x4008 (R31). -/
def ringTake (d : Device) (k h0 n first size port : Nat) : Device × Option (Nat × Job) :=
  match d.ringLook k h0 n first port with
  | (d, none) => (d, none)
  | (d, some r) =>
    let j := d.ringJob k h0 r size
    (if accessOk j.off size then d else d.ownMiss k port (storeAddr k j.off), some (r, j))

/-- A descriptor is completed or refused: DONE of its ring and the named sync counters. -/
def ringDone (d : Device) (k h0 r cnt cores : Nat) : Device :=
  let a := storeAddr k (h0 + 64 * r + 0x24)
  (d.store a 4 ((d.load a 4 + 1) % 2 ^ 32)).addSyncs k cores (cnt % 64) 1

/-- DONE of the ring from which a job was taken. -/
def ringSeq (d : Device) (k h0 r : Nat) : Nat := (d.ringHdr k (h0 + 64 * r)).done

end Device

/-! ### Tiles of the own store -/

/-- The columns of a tile whose containers have `cb` bits. -/
def tileCols (cb : Nat) : Nat := 16 * subCols cb

/-- Place of element (row, column) in blocked order (R150). -/
def blockedAt (cb r c : Nat) : Nat := ((r / 16) * subCols cb + c / 16) * 256 + 16 * (r % 16) + c % 16

/-- Blocks of 32 elements in a tile (R180). -/
def tileBlocks (cb : Nat) : Nat := tileElems cb / 32

namespace Device

/-- What a read of a tile finds. -/
inductive TileRead where
  | good (h : Hdr) (p : List Byte)
  | badCrc (h : Hdr)
  | badHdr (h : Hdr)
  deriving DecidableEq, Repr

/-- R153, R155, R69: one read of a tile of the own store; `ok` are the headers that the consumer accepts. -/
def readOnce (d : Device) (k : Nat) (ok : Hdr → Bool) (p h : Nat) : TileRead :=
  let pl := d.bytes (storeAddr k p) 4096
  let hb := d.bytes (storeAddr k h) 16
  let hd := parseHdr hb
  if !crcOk pl hb then .badCrc hd else if unreadable hd || !ok hd then .badHdr hd else .good hd pl

/-- R154, R69: the first read of each tile (payload, header) that an engine's work names. Where one fails, it is noted and
counted, and the work waits for its second read; none where every tile passed or has been read again. -/
def firstReads (d : Device) (k : Nat) (ok : Hdr → Bool) (tiles : List (Nat × Nat)) : Option Device :=
  let bad := tiles.filter (fun t => !(d.clu k).reread.contains t &&
    (match d.readOnce k ok t.1 t.2 with | .good _ _ => false | _ => true))
  if bad.isEmpty then none
  else some (bad.foldl (fun d t =>
    let d := match d.readOnce k ok t.1 t.2 with
      | .badCrc _ => d.addNum 0x1841 1 0 1
      | _ => d
    d.modClu k (fun c => { c with retry := c.retry + 1, reread := c.reread ++ [t] })) d)

/-- The work is done: its second reads are forgotten. -/
def endReads (d : Device) (k : Nat) (tiles : List (Nat × Nat)) : Device :=
  d.modClu k (fun c => { c with reread := c.reread.filter (fun t => !tiles.contains t) })

/-- R154, R69: a fixed-function engine of cluster `k` takes a tile of its store, on the second read where the first failed: one
that fails raises event 0x4001 or 0x2012 and is processed as zeros. -/
def engTile (d : Device) (k : Nat) (ok : Hdr → Bool) (p h ua : Nat) : Device × Option (Hdr × List Byte) :=
  match d.readOnce k ok p h with
  | .good hd pl => (d.taintedRead hd (storeAddr k h), some (hd, pl))
  | .badCrc hd => ((d.taintedRead hd (storeAddr k h)).raise 0x4001 ua (k + 1) (storeAddr k p) (storeAddr k h), none)
  | .badHdr hd => ((d.taintedRead hd (storeAddr k h)).raise 0x2012 ua (k + 1) (storeAddr k p) (hd.fmt + hd.width * 256), none)

/-- Write a tile with its header, TAINT by R152 and CRC by R153. -/
def engPut (d : Device) (k p h : Nat) (payload : List Byte) (hd : Hdr) : Device :=
  let hd := { hd with taint := d.num 0x1401 1 == 1 }
  ((d.put (storeAddr k p) payload).put (storeAddr k h) (sealHdr payload hd)).noteTaint (storeAddr k h) hd.taint

end Device

/-! ### Values (R179) -/

/-- R44: the value of a LOG8 code as the converter reads it: rounded once into binary32 (log entry 15). -/
def log8Num (x : Nat) : Num :=
  let s := decide (128 ≤ x)
  let L := x % 128
  if L = 0 then (if s then .nan else Num.zero)
  else
    let k : Int := (L : Int) - 127
    if k % 8 = 0 then .fin s 1 (k / 8)
    else r32 (.fin s (2 * root8 k 64 + 1) (-65))

/-- A stored element's decoded value, its zero point subtracted; `pair32` says that the reader rounds the sum of a PAIR16 into
binary32 (R47, R125). -/
def decVal (pair32 : Bool) (h : Hdr) (l : Line) (x : Nat) : Num :=
  if h.fmt = fmtLOG8 then log8Num x
  else if h.fmt = fmtPAIR16 then (if pair32 then r32 (decodePair x) else decodePair x)
  else decodeElem h.fmt h.width h.signA (if h.fmt = fmtINT && l.ok && l.zpen then some (intVal h.width h.signB l.zp) else none) x

/-- Escapes of a tile: outlier values (place in blocked order, E8M7), fallback sub-blocks (SUB, slot address). -/
structure Escapes where
  outs : List (Nat × Nat) := []
  falls : List (Nat × Nat) := []
  deriving DecidableEq, Repr

/-- R213: the escape record of a tile of `n` sub-blocks; reserved entries count as no escape. -/
def parseEscapes (b : List Byte) (n : Nat) : Escapes :=
  let sub (s : Nat) : List Nat := (List.range 4).map (fun i => fieldB b (16 * s + 4 * i) 4)
  { outs := (List.range n).flatMap (fun s =>
      if (sub s).headD 0 = 0x8000 then []
      else (sub s).filterMap (fun w => if bitsOf w 15 8 = 1 then some (256 * s + w % 256, w >>> 16) else none)),
    falls := (List.range n).filterMap (fun s =>
      if (sub s).headD 0 = 0x8000 then some (s, fieldB b (16 * s + 8) 8) else none) }

namespace Device

/-- R46, R179: a value under a block code; code 255 is NaN. -/
def byCode (v : Num) (eb : Nat) : Num := if eb = 255 then .nan else v.scale ((eb : Int) - 127)

/-- R213: the fallback sub-blocks of a tile, by SUB, as the engine behind a port reads them. -/
def readFalls (d : Device) (k port : Nat) (esc : Escapes) : Device × List (Nat × List Byte) :=
  esc.falls.foldl (fun acc f =>
    let x := acc.1.ownBytes k port f.2 512
    (x.1, acc.2 ++ [(f.1, x.2)])) (d, [])

/-- R179: dec × 2^(Eb − 127) of every element of a tile, in blocked order; `codes` are the block codes, read when the
header carries a BSI, `falls` the fallback sub-blocks. The tensor scale is not applied. -/
def tileValues (pair32 : Bool) (h : Hdr) (p : List Byte) (l : Line) (codes : List Byte) (outs : List (Nat × Nat))
    (falls : List (Nat × List Byte)) : List Num :=
  let cb := fmtBits h.fmt h.width
  let nC := subCols cb
  (List.range (subCount cb)).flatMap (fun s =>
    let raw := tileSub h p s
    let fb := (falls.find? (fun x => x.1 == s)).map (·.2)
    raw.zipIdx.map (fun ri =>
      let eb : Nat := if h.bsi = 0xFFFFFFFF then 127
        else (codes.getD (blockNo l.baxis nC s (ri.2 / 16) (ri.2 % 16)) 127).toNat
      match fb with
      | some b => byCode (decodeFF ffE5M10 (elemAt b 16 ri.2)) eb
      | none =>
        match outs.find? (fun o => o.1 == 256 * s + ri.2) with
        | some o => e8m7 o.2
        | none => byCode (decVal pair32 h l ri.1) eb))

end Device

end Sys2Proof.Machine
end

