-- ==== Sys2Proof/Machine/Sparse.lean ====
section
/-! DEFINITION. The mask engine (R245 to R251, R260 to R266) and the predictor engine (R269 to R274). -/

namespace Sys2Proof.Machine

/-! ### Mask job descriptors (R260) -/

structure MaskJobDesc where
  src : Nat
  srch : Nat
  dst : Nat
  dsth : Nat
  mask : Nat
  cand : Nat
  count : Nat
  kc : Nat
  vrows : Nat
  rho : Nat
  t : Nat
  deriving DecidableEq, Repr

def parseMaskJob (b : List Byte) : MaskJobDesc :=
  let f := fieldB b
  { src := f 0 4, srch := f 4 4, dst := f 8 4, dsth := f 0xC 4, mask := f 0x10 4, cand := f 0x14 4, count := f 0x18 2,
    kc := f 0x1A 1 % 4, vrows := f 0x1B 1, rho := f 0x1C 2, t := f 0x1E 1 }

/-- R261: the operations of the mask engine. -/
inductive MaskOp where
  | capt | upd | apply | pack | check
  deriving DecidableEq, Repr

/-- R260: the number of data tiles that pair with `n` mask tiles. -/
def dataTiles (cb n : Nat) : Nat := 4 * n / subCols cb

/-- R260, R248: the mask tile and the sub-block of its region that pair with sub-block `s` of data tile `t`. -/
def maskPlace (cb t s : Nat) : Nat × Nat :=
  let nC := subCols cb
  let r := s / nC
  let c := t * nC + s % nC
  (c / 4, 4 * r + c % 4)

/-- R245: every row and every column of a sub-block holds at most `k` active positions. -/
def maskLegal (k : Nat) (bits : List Bool) : Bool :=
  (List.range 16).all (fun i =>
    decide (((List.range 16).filter (fun j => bits.getD (16 * i + j) false)).length ≤ k)
      && decide (((List.range 16).filter (fun j => bits.getD (16 * j + i) false)).length ≤ k))

/-- E8M7 magnitude bits truncated toward zero (R262). -/
def e8m7Down (m : Nat) (e : Int) : Nat :=
  if m = 0 then 0
  else
    let u := ulpExp ffE8M7 m e
    let q := rtzUnits m e u
    if magLe q u 255 120 then (u + 133).toNat * 128 + q else 0x7F7F

/-- What legalising and regrowing one sub-block did: positions dropped, regrown, and candidates rejected. -/
structure UpdRes where
  new : List Nat := []
  rows : List Nat := List.replicate 16 0
  cols : List Nat := List.replicate 16 0
  illegal : Nat := 0
  regrown : Nat := 0
  rejected : Nat := 0
  deriving DecidableEq, Repr

/-- Take position `p` where its row and its column have room. -/
def UpdRes.place (x : UpdRes) (k p : Nat) : Option UpdRes :=
  let i := p / 16
  let j := p % 16
  if x.rows.getD i 0 < k && x.cols.getD j 0 < k then
    some { x with new := x.new ++ [p], rows := x.rows.set i (x.rows.getD i 0 + 1), cols := x.cols.set j (x.cols.getD j 0 + 1) }
  else none

/-- R263: the new positions of a sub-block, with what was dropped, regrown and rejected; positions pruned; what was left short. -/
def mupdSub (act : List Nat) (wk : Nat → Nat) (cand : List Nat) (rho t k : Nat) : UpdRes × Nat × Nat :=
  let p := rho * act.length / 65536
  let low := sortBy (fun a b => decide (wk a < wk b) || (wk a == wk b && decide (a ≤ b))) act
  let pruned := low.take p
  let high := sortBy (fun a b => decide (wk b < wk a) || (wk a == wk b && decide (a ≤ b))) act
  let x := (high.filter (fun a => !pruned.contains a)).foldl (fun (x : UpdRes) a => match x.place k a with
    | some y => y
    | none => { x with illegal := x.illegal + 1 }) {}
  let g := min (t - x.new.length) 16
  let y := cand.foldl (fun (s : UpdRes × Nat) a =>
    if s.2 = 0 then s
    else match (if pruned.contains a then none else s.1.place k a) with
      | some y => ({ y with regrown := y.regrown + 1 }, s.2 - 1)
      | none => ({ s.1 with rejected := s.1.rejected + 1 }, s.2)) (x, g)
  (y.1, pruned.length, y.2)

/-- R250: the record of a sub-block whose entries are the active positions. -/
def packRecord (cb : Nat) (bits : List Bool) (vals : List Nat) : List Byte :=
  let col (j : Nat) : List Nat := (List.range 16).filter (fun i => bits.getD (16 * i + j) false)
  let cnt := (List.range 16).foldl (fun acc j => acc + (col j).length * 16 ^ j) 0
  let es := (List.range 16).flatMap (fun j => (col j).map (fun i => (i, vals.getD (16 * i + j) 0)))
  if es.isEmpty then []
  else
    let b := leBytes 8 cnt ++ packElems 4 (es.map (·.1)) ++ packElems cb (es.map (·.2))
    b ++ List.replicate ((4 - b.length % 4) % 4) 0

/-- R249: a compressed payload from its records in SUB order; its TOTAL. -/
def packTile (vrows : Nat) (recs : List (List Byte)) : List Byte × Nat :=
  let offs := recs.foldl (fun (a : List Nat × Nat) r => (a.1 ++ [if r.isEmpty then 0 else a.2], a.2 + r.length)) ([], 0x50)
  let dir := leBytes 1 vrows ++ [0] ++ leBytes 2 offs.2 ++ List.replicate 12 0
    ++ (offs.1.flatMap (leBytes 2) ++ List.replicate 64 0).take 64
  (((dir ++ recs.flatten) ++ List.replicate 4096 0).take (max 4096 offs.2), offs.2)

namespace Device

/-- The 256 mask bits of sub-block `s` of mask tile `t` at MASK. -/
def maskBits (d : Device) (k mask t s : Nat) : List Bool :=
  let b := d.bytes (storeAddr k (mask + 512 * t + 32 * s)) 32
  (List.range 256).map (fun i => bitOf (b.getD (i / 8) 0).toNat (i % 8))

def putMask (d : Device) (k mask t s : Nat) (new : List Nat) : Device :=
  d.put (storeAddr k (mask + 512 * t + 32 * s))
    (packElems 1 ((List.range 256).map (fun i => b2n (new.contains i))))

/-- R261: the format an operation takes. -/
def maskFmtOk (op : MaskOp) (h : Hdr) : Bool :=
  match op with
  | .capt => h.fmt == fmtE5M2
  | .upd => h.fmt == fmtE8M7
  | .apply => compFmt h.fmt h.width
  | .pack => compFmt h.fmt h.width
  | .check => true

def maskHdr (d : Device) (k h : Nat) : Hdr := parseHdr (d.bytes (storeAddr k h) 16)

/-- R260: a mask job field that is reserved or out of range. -/
def maskFieldBad (c : MaskJobDesc) : Bool :=
  c.count == 0 || decide (4096 < c.count) || c.kc == 0 || !vrowsOk c.vrows || decide (16 * kOf c.kc < c.t)

/-- R30, R261: a mask job on data of `cb` bits names an address outside the store. -/
def maskReachBad (c : MaskJobDesc) (op : MaskOp) (cb : Nat) : Bool :=
  let n := dataTiles cb c.count
  !offOk c.mask (512 * c.count) ||
    (op != .check && (!offOk c.src (4096 * n) || !offOk c.srch (16 * n))) ||
    ((op == .apply || op == .pack) && (!offOk c.dst (4096 * n) || !offOk c.dsth (16 * n))) ||
    ((op == .capt || op == .upd) && !offOk c.cand (1024 * c.count))

/-- R261: headers that do not match the operation, an odd COUNT on 4-bit data, an ESC tensor under CPACK. -/
def maskSrcBad (d : Device) (k : Nat) (c : MaskJobDesc) (op : MaskOp) (cb : Nat) : Bool :=
  let h := d.maskHdr k c.srch
  op != .check && (!maskFmtOk op h || h.comp || (cb == 4 && c.count % 2 == 1) ||
    (List.range (dataTiles cb c.count)).any (fun t => let x := d.maskHdr k (c.srch + 16 * t)
      x.comp || !maskFmtOk op x || fmtBits x.fmt x.width != cb) ||
    (op == .pack && (d.line k h.tsid).ok && (d.line k h.tsid).esc))

/-- The container bits of a mask job's data. -/
def maskBitsOf (d : Device) (k : Nat) (c : MaskJobDesc) (op : MaskOp) : Nat :=
  let h := d.maskHdr k c.srch
  if op = .check then 8 else fmtBits h.fmt h.width

/-- R261: what the mask engine refuses. -/
def maskJobBad (d : Device) (k off : Nat) (op : MaskOp) : Bool :=
  let b := d.bytes (storeAddr k off) 64
  let c := parseMaskJob b
  let cb := d.maskBitsOf k c op
  !offOk off 64 || off % 64 != 0 || !descCrcOk b 64 || maskFieldBad c || maskReachBad c op cb || d.maskSrcBad k c op cb
    || (op == .capt && !(d.line k (d.maskHdr k c.srch).tsid).ok)

/-- R266: event 0x3001 once per job. -/
def maskIllegal (d : Device) (k mask : Nat) : Device := d.raise 0x3001 0x7070 (k + 1) (storeAddr k mask) 0

/-- Whether any mask sub-block of the job breaks the bound. -/
def anyIllegal (d : Device) (k : Nat) (c : MaskJobDesc) : Bool :=
  (List.range c.count).any (fun t => (List.range 16).any (fun s => !maskLegal (kOf c.kc) (d.maskBits k c.mask t s)))

/-- A data tile of the job with its header: zeros where it does not read (R154, R69). -/
def maskData (d : Device) (k : Nat) (c : MaskJobDesc) (t : Nat) : Device × Hdr × List Byte :=
  match d.engTile k (fun _ => true) (c.src + 4096 * t) (c.srch + 16 * t) 0x7070 with
  | (d, some (h, p)) => (d, h, p)
  | (d, none) => (d, d.maskHdr k (c.srch + 16 * t), List.replicate 4096 0)

/-- MCAPT (R262). -/
def mcapt (d : Device) (k : Nat) (c : MaskJobDesc) : Device :=
  forN c.count d (fun d t =>
    let r := d.maskData k c t
    let h := r.2.1
    let l := r.1.line k h.tsid
    let codes := if h.bsi = 0xFFFFFFFF then [] else r.1.bytes (l.bsa + h.bsi) 128
    forN 16 r.1 (fun d s =>
      let bits := d.maskBits k c.mask t s
      let raw := denseSub r.2.2 8 s
      let keys := (List.range 256).filterMap (fun i =>
        if bits.getD i false then none
        else
          let eb : Nat := if h.bsi = 0xFFFFFFFF then 127 else (codes.getD (blockNo l.baxis 4 s (i / 16) (i % 16)) 127).toNat
          match decodeFF ffE5M2 (raw.getD i 0) with
          | .fin _ m e => if eb = 255 then none else (let key := e8m7Down m (e + eb - 127); if key = 0 then none else some (i, key))
          | _ => none)
      let best := (sortBy (fun a b => decide (b.2 ≤ a.2)) keys).take 16
      let ws := best.flatMap (fun x => leBytes 4 (x.1 + x.2 * 65536))
      d.put (storeAddr k (c.cand + 1024 * t + 64 * s)) ((ws ++ List.replicate 64 0).take 64)))

/-- MUPD (R263, R266). -/
def mupd (d : Device) (k : Nat) (c : MaskJobDesc) : Device :=
  let d := if d.anyIllegal k c then d.maskIllegal k c.mask else d
  forN (2 * c.count) d (fun d t =>
    let r := d.maskData k c t
    forN 8 r.1 (fun d s =>
      let mp := maskPlace 16 t s
      let bits := d.maskBits k c.mask mp.1 mp.2
      let raw := denseSub r.2.2 16 s
      let act := (List.range 256).filter (fun i => bits.getD i false)
      let wk (i : Nat) : Nat := let w := raw.getD i 0 % 32768; if 0x7F80 ≤ w then 0 else w
      let cb := d.bytes (storeAddr k (c.cand + 1024 * mp.1 + 64 * mp.2)) 64
      let cand := (List.range 16).filterMap (fun i =>
        let w := fieldB cb (4 * i) 4
        if w / 65536 = 0 then none else some (w % 256))
      let u := mupdSub act wk cand c.rho c.t (kOf c.kc)
      let d := d.putMask k c.mask mp.1 mp.2 u.1.new
      let d := d.addNum 0x1A01 5 0 u.1.illegal
      let d := d.addNum 0x1A01 9 0 u.2.1
      let d := d.addNum 0x1A01 10 0 u.1.regrown
      let d := d.modClu k (fun x => { x with rejected := x.rejected + u.1.rejected })
      d.addNum 0x1A01 11 0 u.2.2))

/-- The mask bits of every sub-block of data tile `t`, and its raw elements, those at inactive positions set to +0. -/
def maskedTile (d : Device) (k : Nat) (c : MaskJobDesc) (cb t : Nat) (p : List Byte) : List (List Bool × List Nat) × Nat :=
  let subs := (List.range (subCount cb)).map (fun s =>
    let mp := maskPlace cb t s
    (d.maskBits k c.mask mp.1 mp.2, denseSub p cb s))
  (subs.map (fun x => (x.1, x.2.zipIdx.map (fun vi => if x.1.getD vi.2 false then vi.1 else 0))),
   (subs.map (fun x => (x.2.zipIdx.filter (fun vi => vi.1 != 0 && !x.1.getD vi.2 false)).length)).sum)

/-- MAPPLY (R264). -/
def mapply (d : Device) (k : Nat) (c : MaskJobDesc) : Device :=
  let h0 := d.maskHdr k c.srch
  let cb := fmtBits h0.fmt h0.width
  forN (dataTiles cb c.count) d (fun d t =>
    let r := d.maskData k c t
    let m := r.1.maskedTile k c cb t r.2.2
    let d := r.1.addNum 0x1A01 12 0 m.2
    d.engPut k (c.dst + 4096 * t) (c.dsth + 16 * t) (m.1.flatMap (fun x => packElems cb x.2)) r.2.1)

/-- CPACK (R265, R266). -/
def cpack (d : Device) (k : Nat) (c : MaskJobDesc) : Device :=
  let h0 := d.maskHdr k c.srch
  let cb := fmtBits h0.fmt h0.width
  let d := if d.anyIllegal k c then d.maskIllegal k c.mask else d
  forN (dataTiles cb c.count) d (fun d t =>
    let r := d.maskData k c t
    let m := r.1.maskedTile k c cb t r.2.2
    let d := r.1.addNum 0x1A01 12 0 m.2
    let legal := m.1.all (fun x => maskLegal (kOf c.kc) x.1)
    let x := packTile c.vrows (m.1.map (fun x => packRecord cb x.1 x.2))
    let fits := decide (x.2 ≤ 4096)
    let h : Hdr := { r.2.1 with ocnt := 0, k := c.kc, fallback := false }
    if legal && fits then d.engPut k (c.dst + 4096 * t) (c.dsth + 16 * t) x.1 { h with comp := true }
    else
      let d := if legal then d.addNum 0x1A01 1 0 1 else d
      d.engPut k (c.dst + 4096 * t) (c.dsth + 16 * t) (m.1.flatMap (fun x => packElems cb x.2)) { h with comp := false })

def mcheck (d : Device) (k : Nat) (c : MaskJobDesc) : Device :=
  if d.anyIllegal k c then d.maskIllegal k c.mask else d

/-- The data tiles that an operation reads, as payload and header offsets. -/
def maskTiles (op : MaskOp) (c : MaskJobDesc) (cb : Nat) : List (Nat × Nat) :=
  if op = .check then [] else (List.range (dataTiles cb c.count)).map (fun t => (c.src + 4096 * t, c.srch + 16 * t))

/-- R261: one operation of the mask engine: RD = 0 done, 1 refused. A tile that fails its first read is read again (R154): the
instruction goes on with the second reads. -/
def maskOp (d : Device) (k : Nat) (rd ra : Reg) (op : MaskOp) (f : Device → MaskJobDesc → Device) : Device :=
  d.seqIssue (maskSq k) (fun d x =>
    let off := (x.reg ra).toNat
    if d.maskJobBad k off op then
      (d.raise 0x3004 0x7070 (k + 1) (storeAddr k off) 0).seqWrite (maskSq k) rd 1
    else
      let c := parseMaskJob (d.bytes (storeAddr k off) 64)
      let h := d.maskHdr k c.srch
      let ts := maskTiles op c (fmtBits h.fmt h.width)
      match d.firstReads k (fun _ => true) ts with
      | some d => d
      | none => (((f d c).endReads k ts).addNum 0x7070 5 (k + 1) 1).seqWrite (maskSq k) rd 0)

end Device

def execMcapt (k : Cluster) (rd ra : Reg) (hits : Hits) (s : State) : Out :=
  s.run (fun d => (d.seqHits (maskSq k) hits).maskOp k rd ra .capt (fun d c => d.mcapt k c))

def execMupd (k : Cluster) (rd ra : Reg) (hits : Hits) (s : State) : Out :=
  s.run (fun d => (d.seqHits (maskSq k) hits).maskOp k rd ra .upd (fun d c => d.mupd k c))

def execMapply (k : Cluster) (rd ra : Reg) (hits : Hits) (s : State) : Out :=
  s.run (fun d => (d.seqHits (maskSq k) hits).maskOp k rd ra .apply (fun d c => d.mapply k c))

def execCpack (k : Cluster) (rd ra : Reg) (hits : Hits) (s : State) : Out :=
  s.run (fun d => (d.seqHits (maskSq k) hits).maskOp k rd ra .pack (fun d c => d.cpack k c))

def execMcheck (k : Cluster) (rd ra : Reg) (hits : Hits) (s : State) : Out :=
  s.run (fun d => (d.seqHits (maskSq k) hits).maskOp k rd ra .check (fun d c => d.mcheck k c))

/-! ### The predictor -/

structure PredDesc where
  seq : Nat
  rank : Nat
  sh : Nat
  g : Nat
  gmax : Nat
  mt : Nat
  dt : Nat
  cnt : Nat
  cores : Nat
  theta : Int
  x : Nat
  xh : Nat
  p1 : Nat
  p2 : Nat
  pcrc : Nat
  out : Nat
  deriving DecidableEq, Repr

def parsePred (b : List Byte) : PredDesc :=
  let f := fieldB b
  { seq := f 0 4, rank := 8 * 2 ^ (f 4 1 % 4), sh := f 5 1, g := f 6 2, gmax := f 8 2, mt := f 0xA 2, dt := f 0xC 2,
    cnt := f 0xE 1, cores := f 0x10 2, theta := sgnOf 32 (f 0x14 4), x := f 0x18 4, xh := f 0x1C 4, p1 := f 0x20 4,
    p2 := f 0x24 4, pcrc := f 0x28 4, out := f 0x2C 4 }

/-- Bytes of P1 and of P2. -/
def p1Bytes (c : PredDesc) : Nat := 64 * c.dt * c.rank / 2
def p2Bytes (c : PredDesc) : Nat := (c.rank * c.g + 1) / 2

/-- R269, R273: a predictor field that is reserved or out of range, an address outside the store. -/
def predFieldBad (b : List Byte) : Bool :=
  let c := parsePred b
  fieldB b 4 1 == 0 || decide (3 < fieldB b 4 1) || decide (31 < c.sh) || c.g == 0
    || decide (4096 < c.g) || c.gmax == 0 || decide (c.g < c.gmax) || c.mt == 0 || decide (64 < c.mt) || c.dt == 0
    || decide (256 < c.dt) || decide (63 < c.cnt) || (sliceB b 0xF 1 ++ sliceB b 0x12 2 ++ sliceB b 0x30 76).any (· != 0)
    || decide (262144 < p1Bytes c + p2Bytes c) || c.out % 64 != 0 || !offOk c.out (0x10 + 2 * c.gmax)
    || !offOk c.x (4096 * (c.mt * c.dt)) || !offOk c.xh (16 * (c.mt * c.dt)) || !offOk c.p1 (p1Bytes c)
    || !offOk c.p2 (p2Bytes c)

/-- R273 apart from PCRC. -/
def predBad (seq : Nat) (b : List Byte) : Bool := (parsePred b).seq != seq || !descCrcOk b 128 || predFieldBad b

/-- A signed INT4 element. -/
def nib (b : List Byte) (i : Nat) : Int := sgnOf 4 (((b.getD (i / 2) 0).toNat >>> (4 * (i % 2))) % 16)

/-- R270: the scores of one row. -/
def rowScores (c : PredDesc) (par : List Byte) (x : List Int) : List Int :=
  let p2 := par.drop (p1Bytes c)
  let h := (List.range c.rank).map (fun q =>
    let v := (x.zipIdx.map (fun xi => xi.1 * nib par (xi.2 * c.rank + q))).sum
    max 0 (min (v / (2 ^ c.sh : Nat)) 127))
  (List.range c.g).map (fun g => (h.zipIdx.map (fun hq => hq.1 * nib p2 (hq.2 * c.g + g))).sum)

/-- R270: active groups in ascending order, and how many were not kept. -/
def activeGroups (c : PredDesc) (smax : List Int) : List Nat × Nat :=
  let act := (List.range c.g).filter (fun g => decide (c.theta < smax.getD g 0))
  let nover := act.length - c.gmax
  if nover = 0 then (act, 0)
  else
    let best := (sortBy (fun a b => decide (smax.getD b 0 < smax.getD a 0) || (smax.getD a 0 == smax.getD b 0 && decide (a ≤ b)))
      act).take c.gmax
    (act.filter (fun g => best.contains g), nover)

/-- R271: the bytes of an active list. -/
def listBytes (seq nover status : Nat) (act : List Nat) : List Byte :=
  leBytes 4 seq ++ leBytes 2 act.length ++ leBytes 2 nover ++ leBytes 1 status ++ List.replicate 7 0 ++ act.flatMap (leBytes 2)

namespace Device

/-- R270: the predictor reads dense signed INT8. -/
def predReads (h : Hdr) : Bool := h.fmt == fmtINT && h.width == 8 && h.signA && !h.comp

/-- Input tile (u, v): the integer codes in blocked order; zeros where it does not read or is not signed INT8. -/
def predTile (d : Device) (k : Nat) (c : PredDesc) (t : Nat) : Device × List Int :=
  match d.engTile k predReads (c.x + 4096 * t) (c.xh + 16 * t) 0x7070 with
  | (d, none) => (d, List.replicate 4096 0)
  | (d, some (_, p)) => (d, p.map (fun b => sgnOf 8 b.toNat))

/-- The input tiles of a descriptor. -/
def predTiles (c : PredDesc) : List (Nat × Nat) := (List.range (c.mt * c.dt)).map (fun t => (c.x + 4096 * t, c.xh + 16 * t))

/-- R270: the greatest score of each group over the micro-batch. -/
def predScores (d : Device) (k : Nat) (c : PredDesc) (par : List Byte) : Device × List Int :=
  forN c.mt ((d, List.replicate c.g (-2147483648)) : Device × List Int) (fun acc u =>
    let ts := forN c.dt ((acc.1, []) : Device × List (List Int)) (fun a v =>
      let r := a.1.predTile k c (u * c.dt + v)
      (r.1, a.2 ++ [r.2]))
    (ts.1, forN 64 acc.2 (fun sm row =>
      let x := ts.2.flatMap (fun t => (List.range 64).map (fun col => t.getD (blockedAt 8 row col) 0))
      (sm.zip (rowScores c par x)).map (fun p => max p.1 p.2))))

/-- R273: the default list.  The next descriptor loads P1 and P2 again (R274: the buffer is not the refused one's). -/
def predRefuse (d : Device) (k : Nat) (j : Job) (c : PredDesc) : Device :=
  let d := d.raise 0x3006 0x7070 (k + 1) (storeAddr k j.off) c.seq
  d.modClu k (fun x => { x with
    predBuf := none
    pred := some { j with worked := true, list := listBytes c.seq 0 1 (List.range c.gmax) } })

def predRun (d : Device) (k : Nat) (j : Job) (c : PredDesc) : Device :=
  let reuse := (d.clu k).predBuf == some (c.p1, c.p2, c.pcrc)
  let par := if reuse then (d.clu k).predMem
    else d.bytes (storeAddr k c.p1) (p1Bytes c) ++ d.bytes (storeAddr k c.p2) (p2Bytes c)
  if !reuse && crc32c par != c.pcrc then d.predRefuse k j c
  else match d.firstReads k predReads (predTiles c) with
  | some d => d
  | none =>
    let d := d.endReads k (predTiles c)
    let d := d.modClu k (fun x => { x with predBuf := some (c.p1, c.p2, c.pcrc), predMem := par })
    let d := if reuse then d else d.addNum 0x7070 4 (k + 1) ((par.length + 127) / 128)
    let r := d.predScores k c par
    let a := activeGroups c r.2
    let d := r.1
    let d := if a.2 = 0 then d
      else ((d.raise 0x3005 0x7070 (k + 1) (storeAddr k j.off) a.2).addNum 0x1A01 7 0 a.2).modClu k
        (fun x => { x with predover := x.predover + a.2 })
    d.modClu k (fun x => { x with pred := some { j with worked := true, list := listBytes c.seq a.2 0 a.1 } })

end Device

def execPredictorTake (k : Cluster) (hits : Hits) (s : State) : Out :=
  s.runHits hits (fun d =>
    let h0 := d.num 0x7070 1 (k + 1)
    if h0 = 0xFFFFFFFF || (d.clu k).pred.isSome then d
    else match d.ringTake k h0 1 0 128 23 with
      | (d, none) => d
      | (d, some (r, j)) =>
        let c := parsePred j.desc
        if predBad (d.ringSeq k h0 r) j.desc then d.predRefuse k j c else d.predRun k j c)

/-- R274: fabric cycles of a descriptor apart from its parameter load L, which `predRun` counts. -/
def predCycles (c : PredDesc) : Nat :=
  64 + max ((64 * c.mt * (64 * c.dt) * c.rank + 64 * c.mt * c.rank * c.g + 1023) / 1024) (33 * c.mt * c.dt)

/-- R271, R273: the list is written before DONE changes; a list that would lie outside the store is not written. -/
def execPredictorDone (k : Cluster) (hits : Hits) (s : State) : Out :=
  s.runHits hits (fun d => match (d.clu k).pred with
    | some j =>
      let c := parsePred j.desc
      let d := if offOk c.out j.list.length then d.put (Device.storeAddr k c.out) j.list else d
      let d := d.ringDone k (d.num 0x7070 1 (k + 1)) j.ring c.cnt c.cores
      let d := d.addNum 0x7070 2 (k + 1) 1
      let d := d.addNum 0x7070 3 (k + 1) (fieldB j.list 4 2)
      let d := d.addNum 0x7070 4 (k + 1) (predCycles c)
      d.modClu k (fun x => { x with pred := none })
    | none => d)

end Sys2Proof.Machine
end

