-- ==== Sys2Proof/Machine/PlanGraph.lean ====
section
/-! DEFINITION. The graph of a plan's operations (R342, R348): order, who reads and writes what, how much can be live at once; the
device as the plan would set it. -/

namespace Sys2Proof.Machine

/-- Two byte ranges (start, length) share a byte. -/
def rangesMeet (a b : Nat × Nat) : Bool := decide (a.1 < b.1 + b.2) && decide (b.1 < a.1 + a.2)

/-- The place of the last operation before `i` that passes a test. -/
def lastBefore (ops : List PlanOp) (i : Nat) (t : PlanOp → Bool) : List Nat :=
  (((ops.take i).zipIdx.filter (fun x => t x.1)).map (·.2)).getLast?.toList

/-- The predecessors of an operation: those listed, and the previous operation on its resource (R348). -/
def opPreds (ops : List PlanOp) (i : Nat) (o : PlanOp) : List Nat :=
  o.preds ++ lastBefore ops i (fun p => p.resource == o.resource)

/-- A topological order of a graph given by its predecessors, lowest index first; shorter than the graph where that has a
cycle. -/
def topoOrder (preds : Nat → List Nat) : Nat → List Nat → List Nat → List Nat
  | 0, _, done => done
  | n + 1, todo, done =>
    match todo.find? (fun i => (preds i).all (fun p => done.contains p)) with
    | some i => topoOrder preds n (todo.erase i) (done ++ [i])
    | none => done

/-- R348, 0xA007: the graph with its resource edges has a cycle, or names an operation that is not there. -/
def cyclic (ops : List PlanOp) : Bool :=
  let preds (i : Nat) : List Nat := match ops[i]? with
    | some o => opPreds ops i o
    | none => []
  (topoOrder preds ops.length (List.range ops.length) []).length != ops.length

/-- The kinds of step that a plan declares, in the order of R348: bit 0 evaluation, bit 1 mask update. -/
def planKinds (h : PlanHdr) (f : PlanFacts) : List Nat :=
  [0] ++ (if f.evalWork then [1] else []) ++ (if h.maskStep = 0 then [] else [2]) ++
    (if f.evalWork && h.maskStep ≠ 0 then [3] else [])

/-- An operation takes part in a kind of step. -/
def ofKind (o : PlanOp) (kind : Nat) : Bool := o.kindMask &&& (3 - kind) == 0

/-- The operations of a kind of step in a season, by index. -/
def kindOps (f : PlanFacts) (kind s : Nat) : List Nat :=
  (f.ops.zipIdx.filter (fun x => x.1.season == s && ofKind x.1 kind)).map (·.2)

/-! ### Order -/

/-- What stands before each operation in one kind of step: through listed predecessors and the issue order of a thread
(`listed`), and through the resources too (`full`). -/
structure PlanOrder where
  sel : List Nat
  full : Map (List Nat)
  listed : Map (List Nat)

/-- Ancestors by index, along a topological order. -/
def ancestors (preds : Nat → List Nat) (order : List Nat) : Map (List Nat) :=
  order.foldl (fun m i => Map.set [] m i (dedupNat (preds i ++ (preds i).flatMap (Map.get [] m)))) []

/-- The core whose instruction an operation is. -/
def workCore : OpWork → Option Nat
  | .accumulate g .. => some g
  | .drain g .. => some g
  | .table g .. => some g
  | .vector g .. => some g
  | .instructions g _ => some g
  | .coreMove g .. => some g
  | .release g _ => some g
  | _ => none

/-- Two operations are instructions of one thread. -/
def sameThread (a b : PlanOp) : Bool := a.thread.isSome && a.thread == b.thread && workCore a.work == workCore b.work

/-- The order in one kind of step. -/
def planOrder (f : PlanFacts) (kind : Nat) : PlanOrder :=
  let sel := (f.ops.zipIdx.filter (fun x => ofKind x.1 kind)).map (·.2)
  let ops := f.ops
  let pick (i : Nat) (res : Bool) : List Nat := match ops[i]? with
    | some o => (o.preds ++ lastBefore ops i (fun p => ofKind p kind && (sameThread p o || (res && p.resource == o.resource)))).filter
        (fun p => sel.contains p)
    | none => []
  let order := topoOrder (fun i => pick i true) sel.length sel []
  { sel := sel, full := ancestors (fun i => pick i true) order, listed := ancestors (fun i => pick i false) order }

/-- A plan with its orders, one for each kind of step. -/
structure PlanView where
  d : Device
  f : PlanFacts
  orders : List PlanOrder

namespace PlanView

def ops (v : PlanView) : List (PlanOp × Nat) := v.f.ops.zipIdx

def op? (v : PlanView) (i : Nat) : Option PlanOp := v.f.ops[i]?

def season (v : PlanView) (i : Nat) : Nat := ((v.op? i).map (·.season)).getD 4

/-- Operation `i` ends before `j` starts in every kind of step that has both. -/
def before (v : PlanView) (i j : Nat) (listed : Bool := false) : Bool :=
  decide (v.season i < v.season j) ||
  (v.season i == v.season j && v.orders.all (fun o =>
    !(o.sel.contains i && o.sel.contains j) || (Map.get [] (if listed then o.listed else o.full) j).contains i))

/-- One kind of step has both operations. -/
def together (v : PlanView) (i j : Nat) : Bool := v.orders.any (fun o => o.sel.contains i && o.sel.contains j)

/-- Two operations of one season may run at once. -/
def atOnce (v : PlanView) (i j : Nat) : Bool :=
  i != j && v.together i j && v.season i == v.season j && !v.before i j && !v.before j i

/-- What TENSORS says of a TSID. -/
def tensor (v : PlanView) (tsid : Nat) : Option PlanTensor := v.f.tensors.find? (fun t => t.tsid == tsid)

def role (v : PlanView) (tsid : Nat) : TensorRole := ((v.tensor tsid).map (·.role)).getD .other

/-- A break for every operation that fails a test. -/
def breaks (v : PlanView) (code sec : Nat) (bad : PlanOp → Nat → Bool) : List PlanBreak :=
  v.ops.filterMap (fun x => if bad x.1 x.2 then some (brk code sec x.2) else none)

end PlanView

/-- R151: the code of a declared bound K. -/
def kCode (k : Nat) : Nat := if k = 2 then 1 else if k = 4 then 2 else if k = 8 then 3 else 0

/-- R148: the headers of a placement in a cluster store as TENSORS and the tensor's record foretell them. -/
def Device.placeHeaders (d : Device) (f : PlanFacts) (p : PlanPlacement) : Device :=
  match d.region p.payload, p.tsid.bind (fun t => f.tensors.find? (fun x => x.tsid == t)) with
  | .store k _, some t =>
    let h : Hdr :=
      { bsi := if (d.line k t.tsid).blocked then 0 else 0xFFFFFFFF, tsid := t.tsid, fmt := t.fmt, width := t.width,
        signA := !t.isUnsigned, comp := t.k != 0, k := kCode t.k }
    if p.tile = 4096 then forN p.count d (fun d i => d.put (p.header + 16 * i) (hdrBytes h)) else d
  | _, _ => d

/-- R581: the key of an object that a plan's sections set at admission: lists, scale tables, rings, the watch table. -/
def setAtAdmission (key : Nat) : Bool :=
  let ix := key / 16777216
  let sub := key / 65536 % 256
  ix == 0x7021 || (ix == 0x7050 && [1, 2, 3, 7, 9].contains sub) || (ix == 0x7060 && sub == 5) || (ix == 0x7070 && sub == 1) ||
    (ix == 0x7080 && (sub == 2 || sub == 3))

/-- The device with the tables, objects and settings of a plan, as the check sees them: nothing of an earlier plan's. -/
def Device.planned (d : Device) (f : PlanFacts) : Device :=
  let d := { d with dict := { d.dict with num := d.dict.num.filter (fun e => !setAtAdmission e.1) } }
  let d := f.objects.foldl (fun d o => d.setDom o.idx o.sub o.inst o.data) d
  let d := f.numbers.foldl (fun d n => d.setNum n.1 n.2.1 n.2.2.1 n.2.2.2) d
  let d := f.stores.foldl (fun d b => d.put b.addr b.data) d
  let d := f.placements.foldl (fun d p => d.placeHeaders f p) d
  { d with adm := { d.adm with facts := some f } }

def planView (d : Device) (h : PlanHdr) (f : PlanFacts) : PlanView :=
  { d := d.planned f, f := f, orders := (planKinds h f).map (planOrder f) }

/-- The placement that holds a payload address of this device. -/
def placementAt (f : PlanFacts) (a : Nat) : Option PlanPlacement :=
  f.placements.find? (fun p => decide (p.payload ≤ a) && decide (a < p.payload + p.tile * p.count))

/-- The tensor whose tiles lie at a payload address. -/
def PlanView.tensorAt (v : PlanView) (a : Nat) : Option PlanTensor := ((placementAt v.f a).bind (·.tsid)).bind v.tensor

/-! ### The most that can be live at once -/

/-- A step of bipartite matching: whether left node `u` finds a partner, the right nodes seen, the pairs (right, left). -/
def augment (adj : Nat → List Nat) : Nat → Nat → List Nat → List (Nat × Nat) → Bool × List Nat × List (Nat × Nat)
  | 0, _, seen, m => (false, seen, m)
  | n + 1, u, seen, m =>
    (adj u).foldl (fun (acc : Bool × List Nat × List (Nat × Nat)) w =>
      if acc.1 || acc.2.1.contains w then acc
      else
        let seen := w :: acc.2.1
        match acc.2.2.find? (fun p => p.1 == w) with
        | none => (true, seen, (w, u) :: acc.2.2)
        | some p =>
          let r := augment adj n p.2 seen acc.2.2
          if r.1 then (true, r.2.1, (w, u) :: r.2.2.filter (fun q => q.1 != w)) else (false, r.2.1, r.2.2)) (false, seen, m)

/-- The most of `n` things that no two are in order `lt`: `n` less a largest matching of the order. -/
def mostAtOnce (n : Nat) (lt : Nat → Nat → Bool) : Nat :=
  let adj (u : Nat) : List Nat := (List.range n).filter (lt u)
  n - ((List.range n).foldl (fun m u => (augment adj (n + 1) u [] m).2.2) []).length

namespace PlanView

/-- The operations of each thread, or launch group, that the plan gives a core. -/
def owners (v : PlanView) (g : Nat) (who : PlanOp → Option Nat) : List (List Nat) :=
  let os := v.ops.filter (fun x => workCore x.1.work == some g)
  (dedupNat (os.filterMap (fun x => who x.1))).map (fun t => (os.filter (fun x => who x.1 == some t)).map (·.2))

/-- R111, R142: the most threads, or groups, of a core that can be live at once: those no two of which are wholly in order. -/
def liveAtOnce (v : PlanView) (g : Nat) (who : PlanOp → Option Nat) : Nat :=
  let ts := v.owners g who
  mostAtOnce ts.length (fun a b => (ts.getD a []).all (fun i => (ts.getD b []).all (fun j => v.before i j)))

end PlanView

/-! ### Frames -/

/-- R157: the tile move of a descriptor's operation, the frames it reads and the frames it fills, as (core, frame). -/
def moveReads (d : Device) (se : Se) (b : List Byte) : List (Nat × Nat) :=
  let e := moveDesc b
  (List.range e.count).filterMap (Device.srcFrame d (.se se) e)

def moveFills (d : Device) (se : Se) (b : List Byte) : List (Nat × Nat) :=
  let e := moveDesc b
  (List.range e.count).filterMap (Device.dstFrame d (.se se) e)

/-- The frames that an operation reads, as (core, frame). -/
def workReads (d : Device) : OpWork → List (Nat × Nat)
  | .accumulate g _ a b => (a.frames ++ b.frames).map (fun x => (g.val, x))
  | .drain g _ _ _ add => add.toList.map (fun t => (g.val, t.frame))
  | .vector g _ _ _ _ rs _ => rs.map (fun x => (g.val, x))
  | .move se b => moveReads d se b
  | .coreMove g st _ fr _ _ => if st then [(g.val, fr)] else []
  | .pass _ s _ _ => [s]
  | _ => []

/-- The frames into which an operation brings new tiles; a drain with PUB completes its frame's (R105). -/
def workFills (d : Device) : OpWork → List (Nat × Nat)
  | .move se b => moveFills d se b
  | .coreMove g st _ fr _ _ => if st then [] else [(g.val, fr)]
  | .drain g _ _ t _ => if t.pub then [(g.val, t.frame)] else []
  | .pass _ _ t drop => if drop then [] else [t]
  | _ => []

/-- The frames that an operation releases: FREL, REL of an operand (R118), of a TST (R121), of a move (R157). -/
def workReleases (d : Device) : OpWork → List (Nat × Nat)
  | .release g fr => [(g.val, fr)]
  | .coreMove g st _ fr rel _ => if st && rel then [(g.val, fr)] else []
  | .move se b => if (moveDesc b).rel then moveReads d se b else []
  | .accumulate g _ a b => ((if a.rel then a.frames else []) ++ (if b.rel then b.frames else [])).map (fun x => (g.val, x))
  | _ => []

end Sys2Proof.Machine
end

