-- ==== Sys2Proof/Machine/Vector.lean ====
section
/-! DEFINITION. The vector unit (R125, R126) and WUPD (R63): sources, binary32 arithmetic, output rounding. An operation
is carried out at issue; all its sources are read before any of its results is written. -/

namespace Sys2Proof.Machine

/-! ### Sources -/

/-- Bytes of an element of a source code (R125): PAIR16 has 4, the others 2. -/
def srcSize (c : Nat) : Nat := if c = 2 then 4 else 2

/-- R140: a source or result that begins misaligned or runs beyond 1 MiB. -/
def spanBad (off size n : Nat) : Bool := off % size != 0 || decide (0x100000 < off + size * n)

/-- A broadcast source has no span. -/
def srcBad (c off n : Nat) : Bool := c != 3 && spanBad off (srcSize c) n

/-- The value of a source element: E8M7, E5M10, or hi + lo rounded once into binary32. -/
def srcVal (c x : Nat) : Num :=
  match c with
  | 0 => e8m7 x
  | 1 => decodeFF ffE5M10 x
  | _ => r32 (decodePair x)

/-- `n` elements of a source. -/
def srcVals (d : Device) (g c : Nat) (v : W64) (n : Nat) : List Num :=
  if c = 3 then List.replicate n (f32 (v.toNat % 2 ^ 32))
  else
    let b := d.bytes (Device.localAddr g v.toNat) (srcSize c * n)
    (List.range n).map (fun i => srcVal c (elemAt b (8 * srcSize c) i))

/-! ### Arithmetic -/

/-- IEEE 754 maximum: NaN is kept, +0 above −0. -/
def vMax (x y : Num) : Num :=
  match x, y with
  | .nan, _ => .nan
  | _, .nan => .nan
  | .inf false, _ => .inf false
  | .inf true, y => y
  | x, .inf s => if s then x else .inf s
  | .fin s m e, .fin t n f =>
    let df := ((Num.fin s m e).dy.sub (Num.fin t n f).dy).n
    if df < 0 then .fin t n f else if 0 < df then .fin s m e
    else if s then .fin t n f else .fin s m e

def vMin (x y : Num) : Num := (vMax x.neg y.neg).neg

def vAbs : Num → Num
  | .fin _ m e => .fin false m e
  | .inf _ => .inf false
  | .nan => .nan

/-- binary32 magnitude bits within `ulp` units in the last place of the value q × 2^e (q + 1 above it where not `exact`):
`off` chooses among them. Beyond the range the result is infinite. -/
def nearF32 (ulp : Nat) (q : Nat) (e : Int) (exact : Bool) (off : Int) : Nat :=
  let u := ulpExp ffF32 q e
  let n := rtzUnits q e u
  let b : Nat := if q = 0 then 0 else (u - ffF32.emin).toNat * 2 ^ 23 + n
  let ex := exact && isExact q e u
  let lo : Int := if ex then -(ulp : Int) else 1 - (ulp : Int)
  let r := (b : Int) + max lo (min ulp off)
  if 0x7F800000 ≤ b then 0x7F800000 else min r.toNat 0x7F800000

/-- 2^(f / 2^p) for 0 ≤ f < 2^p as a whole number of 2^-100, rounded down at each of the p square roots. -/
def exp2Frac : Nat → Nat → Nat → Nat
  | 0, _, acc => acc
  | p + 1, f, acc =>
    -- from the lowest bit of the fraction up: acc ← √(acc × 2^bit)
    exp2Frac p (f / 2) (isqrt ((if f % 2 = 1 then 2 * acc else acc) * 2 ^ 100))

/-- R126: 2^x; fractions below 2^-64 add nothing at this precision. -/
def vExp2 (x : Num) : Num :=
  match x with
  | .nan => .nan
  | .inf s => if s then .fin false 0 0 else .inf false
  | .fin s m e =>
    if m = 0 then f32 (nearF32 2 1 0 true (Config.exp2Off (toF32 x)))
    else
      let fx := (Num.fin s m e).dy.units (-64)
      let whole := fx / 2 ^ 64
      if 1024 ≤ whole then .inf false
      else if whole < -1024 then f32 (nearF32 2 0 0 false (Config.exp2Off (toF32 x)))
      else
        let fr := (fx % 2 ^ 64).toNat
        let exact := fr == 0 && isExact m e (-64)
        f32 (nearF32 2 (exp2Frac 64 fr (2 ^ 100)) (whole - 100) exact (Config.exp2Off (toF32 x)))

/-- `p` fraction bits of log2 of a mantissa in [1, 2), held in units of 2^-160, by repeated squaring. -/
def log2Frac : Nat → Nat → Nat → Nat
  | 0, _, acc => acc
  | p + 1, y, acc =>
    let z := y * y / 2 ^ 160
    if 2 ^ 161 ≤ z then log2Frac p (z / 2) (2 * acc + 1) else log2Frac p z (2 * acc)

/-- R126: log2 x. -/
def vLog2 (x : Num) : Num :=
  match x with
  | .nan => .nan
  | .inf s => if s then .nan else .inf false
  | .fin s m e =>
    if m = 0 then .inf true
    else if s then .nan
    else
      let k := m.log2
      let whole : Int := k + e
      let fr := log2Frac 100 (m * 2 ^ (160 - k)) 0
      let v : Int := whole * 2 ^ 100 + fr
      let exact := m == 2 ^ k
      let q := if v < 0 && !exact then v.natAbs - 1 else v.natAbs
      let b := nearF32 2 q (-100) exact (Config.log2Off (toF32 x))
      f32 (b + b2n (decide (v < 0)) * 2 ^ 31)

/-- R126: 1/x. -/
def vRcp (x : Num) : Num :=
  match x with
  | .nan => .nan
  | .inf s => .fin s 0 0
  | .fin s m e =>
    if m = 0 then .inf s
    else
      let q := 2 ^ (m.log2 + 80) / m
      let b := nearF32 1 q (-((m.log2 : Int) + 80) - e) (2 ^ (m.log2 + 80) % m == 0) (Config.rcpOff (toF32 x))
      f32 (b + b2n s * 2 ^ 31)

/-- R126: 1/√x. -/
def vRsq (x : Num) : Num :=
  match x with
  | .nan => .nan
  | .inf s => if s then .nan else .fin false 0 0
  | .fin s m e =>
    if m = 0 then .inf s
    else if s then .nan
    else
      let h := (-e) / 2
      let p : Nat := m.log2 + 160
      let w := 2 ^ (2 * p) * (if e % 2 = 0 then 1 else 2)
      -- 1/√(m × 2^e) = √(w / m) × 2^-p × 2^h, with an odd e taken as 2h = −e − 1
      let r := isqrt (w / m)
      f32 (nearF32 1 r (h - (p : Int)) (w % m == 0 && r * r == w / m) (Config.rsqOff (toF32 x)))

/-! ### Output -/

def outTarget (fz : Nat) (sat : Bool) : Target := ⟨if fz = 1 then fmtE5M10 else fmtE8M7, 0, false, sat⟩

/-- Round results once, store them from local offset `off`, count them (R125, R305, R306). -/
def vecWrite (d : Device) (g cls : Nat) (handle : W32) (tg : Target) (rm : RMode) (off : Nat) (vs : List Num) : Device :=
  let k := Device.clusterOf g
  let d := if rm = .sr && noStream handle then d.raise 0x7022 0x7020 (g + 1) else d
  let x := d.srRound k (vecUnit (g % 16)) handle tg rm (d.force 0x1901 1) (fun i => i % 256) vs
  let d := x.1.put (Device.localAddr g off) (packElems 16 (x.2.map (·.bits)))
  let tl := (vs.zip x.2).foldl (fun (t : Tally) vr => t.add tg vr.1 false vr.2) {}
  d.tally k cls tl 0x7020 (g + 1) (Device.localAddr g off)

/-- R124, R125: reserved codes of an element-wise operation: FZ 0b10, FZ 0b11 outside reductions, RMODE 0b11. -/
def vecReserved (f : VecFields) : Bool := 2 ≤ f.fz.toNat || f.rmode.toNat == 3

/-- R237: an instruction whose elements draw bits is held while its context is not prepared, or a lane that draws is short of bits. -/
def vecHeld (d : Device) (g : Nat) (handle : W32) (tg : Target) (rm : RMode) (vs : List Num) : Bool :=
  rm == .sr && !noStream handle && vs.any (srDraws tg) &&
    !d.bitsReady (Device.clusterOf g) (vecUnit (g % 16)) handle (d.force 0x1901 1)
      (fun i => vs.zipIdx.any (fun x => x.2 % 256 == i && srDraws tg x.1))

/-- R140, R125: descriptors that an element-wise operation cannot carry out. A count that is not a multiple of 64 is one of them
(DESIGN CHOICE, log entry 38). -/
def vecBad (f : VecFields) (ny nw : Bool) (x : Thread) : Bool :=
  let n := (x.reg f.rn).toNat
  n % 64 != 0 || spanBad (x.reg f.rz).toNat 2 n || srcBad f.fx.toNat (x.reg f.rx).toNat n
    || (ny && srcBad f.fy.toNat (x.reg f.ry).toNat n) || (nw && srcBad f.fy.toNat (x.reg f.rw).toNat n)

/-- The results of an element-wise operation before their rounding. -/
def vecVals (d : Device) (g : Nat) (f : VecFields) (ny nw : Bool) (op : Num → Num → Num → Num) (x : Thread) : List Num :=
  let n := (x.reg f.rn).toNat
  let xs := srcVals d g f.fx.toNat (x.reg f.rx) n
  let ys := if ny then srcVals d g f.fy.toNat (x.reg f.ry) n else xs
  let ws := if nw then srcVals d g f.fy.toNat (x.reg f.rw) n else xs
  (xs.zip (ys.zip ws)).map (fun p => op p.1 p.2.1 p.2.2)

/-- An element-wise operation on x, y and w; `ny`, `nw` say which sources it reads. -/
def vecOp (d : Device) (g t : Nat) (f : VecFields) (ny nw : Bool) (op : Num → Num → Num → Num) : Device :=
  let tg := outTarget f.fz.toNat f.sat
  let rm := rmodeOf f.rmode.toNat
  let y := d.thread g t
  if d.picks g t && !vecReserved f && !vecBad f ny nw y && vecHeld d g y.handle tg rm (vecVals d g f ny nw op y) then
    d.holdDraw (Device.clusterOf g) (vecUnit (g % 16)) y.handle
  else
    d.issue g t (fun d x =>
      if vecReserved f then d.faultThread g t 0x7020
      else if vecBad f ny nw x then (d.badDesc g).advance g t
      else (vecWrite d g 6 x.handle tg rm (x.reg f.rz).toNat (vecVals d g f ny nw op x)).advance g t)

def execVadd (g : CoreN) (t : Thr) (f : VecFields) (hits : Hits) (s : State) : Out :=
  s.issueHits g t hits (fun d => vecOp d g t f true false (fun x y _ => r32 (x.add y)))

def execVsub (g : CoreN) (t : Thr) (f : VecFields) (hits : Hits) (s : State) : Out :=
  s.issueHits g t hits (fun d => vecOp d g t f true false (fun x y _ => r32 (x.add y.neg)))

def execVmul (g : CoreN) (t : Thr) (f : VecFields) (hits : Hits) (s : State) : Out :=
  s.issueHits g t hits (fun d => vecOp d g t f true false (fun x y _ => r32 (x.mul y)))

/-- One rounding of x × y + w. -/
def execVfma (g : CoreN) (t : Thr) (f : VecFields) (hits : Hits) (s : State) : Out :=
  s.issueHits g t hits (fun d => vecOp d g t f true true (fun x y w => r32 ((x.mul y).add w)))

def execVmax (g : CoreN) (t : Thr) (f : VecFields) (hits : Hits) (s : State) : Out :=
  s.issueHits g t hits (fun d => vecOp d g t f true false (fun x y _ => vMax x y))

def execVmin (g : CoreN) (t : Thr) (f : VecFields) (hits : Hits) (s : State) : Out :=
  s.issueHits g t hits (fun d => vecOp d g t f true false (fun x y _ => vMin x y))

def execVabs (g : CoreN) (t : Thr) (f : VecFields) (hits : Hits) (s : State) : Out :=
  s.issueHits g t hits (fun d => vecOp d g t f false false (fun x _ _ => vAbs x))

def execVexp2 (g : CoreN) (t : Thr) (f : VecFields) (hits : Hits) (s : State) : Out :=
  s.issueHits g t hits (fun d => vecOp d g t f false false (fun x _ _ => vExp2 x))

def execVlog2 (g : CoreN) (t : Thr) (f : VecFields) (hits : Hits) (s : State) : Out :=
  s.issueHits g t hits (fun d => vecOp d g t f false false (fun x _ _ => vLog2 x))

def execVrcp (g : CoreN) (t : Thr) (f : VecFields) (hits : Hits) (s : State) : Out :=
  s.issueHits g t hits (fun d => vecOp d g t f false false (fun x _ _ => vRcp x))

def execVrsq (g : CoreN) (t : Thr) (f : VecFields) (hits : Hits) (s : State) : Out :=
  s.issueHits g t hits (fun d => vecOp d g t f false false (fun x _ _ => vRsq x))

/-! ### Reductions -/

/-- The leaves of the pairwise tree. -/
def treeOrder : List Nat :=
  let l := (List.range 64).map Config.treeLeaf
  if (List.range 64).all (fun i => l.contains i) then l else List.range 64

/-- One level of the tree: sums of neighbours, each rounded into binary32. -/
def pairLevel : List Num → List Num
  | a :: b :: r => r32 (a.add b) :: pairLevel r
  | l => l

/-- The sum of a group of 64 by the tree. -/
def groupSum (g : List Num) : Num :=
  let l := treeOrder.map (fun i => g.getD i Num.zero)
  (forN 6 l (fun l _ => pairLevel l)).headD Num.zero

/-- R126: group sums added in element order. -/
def vrsum (xs : List Num) : Num :=
  match ((List.range (xs.length / 64)).map (fun i => groupSum ((xs.drop (64 * i)).take 64))) with
  | [] => Num.zero
  | s :: ss => ss.foldl (fun a b => r32 (a.add b)) s

/-- R126: max |x|, 0 over no element. -/
def vrmax (xs : List Num) : Num := xs.foldl (fun a x => vMax a (vAbs x)) Num.zero

/-- A reduction: RZ[31:0] takes the binary32 result; RZ[63:32] is free (log entry 20). It writes register RZ under FZ 0b00 and 0b01
as under 0b11 (DESIGN CHOICE, log entry 38). -/
def vecReduce (d : Device) (g t : Nat) (f : VecFields) (op : List Num → Num) : Device :=
  d.issue g t (fun d x =>
    let n := (x.reg f.rn).toNat
    if f.fz.toNat == 2 || f.rmode.toNat == 3 then d.faultThread g t 0x7020
    else if n % 64 ≠ 0 || srcBad f.fx.toNat (x.reg f.rx).toNat n then (d.badDesc g).advance g t
    else
      let r := toF32 (op (srcVals d g f.fx.toNat (x.reg f.rx) n))
      let fr := d.drawFree
      fr.2.writeReg g t f.rz (Config.upper32 fr.1 ++ BitVec.ofNat 32 r))

def execVrsum (g : CoreN) (t : Thr) (f : VecFields) (hits : Hits) (s : State) : Out :=
  s.issueHits g t hits (fun d => vecReduce d g t f vrsum)

def execVrmax (g : CoreN) (t : Thr) (f : VecFields) (hits : Hits) (s : State) : Out :=
  s.issueHits g t hits (fun d => vecReduce d g t f vrmax)

/-! ### WUPD (R62, R63) -/

/-- R124, R126: codes that a WUPD reserves. At run time RMODE 0b10 faults like 0b11 (DESIGN CHOICE, log entry 38). -/
def wupdReserved (f : VecFields) : Bool := decide (2 ≤ f.rmode.toNat) || f.fz.toNat == 2

def wupdBad (f : VecFields) (x : Thread) : Bool :=
  let n := (x.reg f.rn).toNat
  n % 64 != 0 || spanBad (x.reg f.rx).toNat 2 n || spanBad (x.reg f.ry).toNat 1 n || srcBad f.fy.toNat (x.reg f.rz).toNat n

/-- R62: the exact weights to be stored: the weight and its carry with the update. -/
def wupdVals (d : Device) (g : Nat) (f : VecFields) (x : Thread) : List Num :=
  let n := (x.reg f.rn).toNat
  let wb := d.bytes (Device.localAddr g (x.reg f.rx).toNat) (2 * n)
  let cb := d.bytes (Device.localAddr g (x.reg f.ry).toNat) n
  (srcVals d g f.fy.toNat (x.reg f.rz) n).zipIdx.map (fun di => storeWeightTarget (elemAt wb 16 di.2) (elemAt cb 8 di.2) di.1)

/-- The weights rounded and stored with their new carries. -/
def wupdWrite (d : Device) (g : Nat) (f : VecFields) (x : Thread) : Device :=
  let k := Device.clusterOf g
  let rm := rmodeOf f.rmode.toNat
  let wo := (x.reg f.rx).toNat
  let ts := wupdVals d g f x
  let d := if rm = .sr && noStream x.handle then d.raise 0x7022 0x7020 (g + 1) else d
  let y := d.srRound k (vecUnit (g % 16)) x.handle stateTarget rm (d.force 0x1901 1) (fun i => i % 256) ts
  let ws := y.2.map (·.bits)
  let cs := (ts.zip ws).map (fun p => carryOf p.1 p.2)
  let d := y.1.put (Device.localAddr g wo) (packElems 16 ws)
  let d := d.put (Device.localAddr g (x.reg f.ry).toNat) (packElems 8 (cs.map (·.1)))
  let d := d.addNum 0x1902 3 0 (cs.filter (·.2)).length
  let tl := (ts.zip y.2).foldl (fun (a : Tally) vr => a.add stateTarget vr.1 false vr.2) {}
  let d := (d.addNum 0x1921 1 0 (x.reg f.rn).toNat).addNum 0x1921 2 0 (tl.nan + tl.inf)
  d.tally k 4 tl 0x7020 (g + 1) (Device.localAddr g wo)

def wupdOp (d : Device) (g t : Nat) (f : VecFields) : Device :=
  let y := d.thread g t
  if d.picks g t && !wupdReserved f && !wupdBad f y &&
      vecHeld d g y.handle stateTarget (rmodeOf f.rmode.toNat) (wupdVals d g f y) then
    d.holdDraw (Device.clusterOf g) (vecUnit (g % 16)) y.handle
  else
    d.issue g t (fun d x =>
      if wupdReserved f then d.faultThread g t 0x7020
      else if wupdBad f x then (d.badDesc g).advance g t
      else (wupdWrite d g f x).advance g t)

def execWupd (g : CoreN) (t : Thr) (f : VecFields) (hits : Hits) (s : State) : Out := s.issueHits g t hits (fun d => wupdOp d g t f)

end Sys2Proof.Machine
end

