-- ==== Sys2Proof/Machine/Scale.lean ====
section
/-! DEFINITION. Scale trackers (R190 to R194), converters with rotation (R197 to R206, R216, R219), reduction engines (R207
to R210) and log-table builders (R211, R212). -/

namespace Sys2Proof.Machine

/-! ### Scale trackers -/

/-- R342: what TENSORS declares of a TSID's tensor. -/
def Device.tensor (d : Device) (tsid : Nat) : Option PlanTensor :=
  match d.adm.facts with
  | some f => f.tensors.find? (fun t => t.tsid == tsid)
  | none => none

/-- R192: the base-2 exponent of a format's largest finite value. -/
def fmtTop (fmt width : Nat) (isUnsigned : Bool) : Int :=
  match fmt with
  | 0x01 => 8
  | 0x02 => 15
  | 0x03 => 127
  | 0x04 => 15
  | 0x05 => 2
  | 0x06 => if isUnsigned then (width : Int) - 1 else max ((width : Int) - 2) 0
  | _ => 0

/-- ⌈log2⌉ of a positive E8M7 magnitude. -/
def ceilLog2 (bits : Nat) : Int :=
  match e8m7 bits with
  | .fin _ m e => (if m = 2 ^ m.log2 then (m.log2 : Int) else (m.log2 : Int) + 1) + e
  | _ => 0

namespace Device

/-- R192: read a word and clear it. -/
def takeZero (d : Device) (a : Nat) : Nat × Device := (d.load a 4, d.store a 4 0)

/-- A word of a gather slot; one that is not accessed reads as 0, with event 0x4008 (R30, R31). -/
def takeSlot (d : Device) (k off : Nat) : Nat × Device :=
  if accessOk off 4 then d.takeZero (storeAddr k off) else (0, d.ownMiss k 24 (storeAddr k off))

/-- SMAX and SATCNT of the home line and of the gather slots, each taken and cleared. -/
def takeMaxima (d : Device) (k loc : Nat) : Nat × Nat × Device :=
  let a := storeAddr k loc
  let g := d.load (a + 0x14) 4
  let m := d.takeZero a
  let s := m.2.takeZero (a + 4)
  forN (bitsOf g 30 24) (m.1, s.1, s.2) (fun acc i =>
    let b := g % 2 ^ 24 + 64 * i
    let m := acc.2.2.takeSlot k b
    let s := m.2.takeSlot k (b + 4)
    (max acc.1 m.1, acc.2.1 + s.1, s.2))

/-- R192: SPUB of TSID `t` with step `step`, on a line that is readable and at home. -/
def publish (d : Device) (k t step : Nat) (l : Line) : Device :=
  let off := d.lineOff k t
  let a := storeAddr k off
  let x := d.takeMaxima k (off + 64)
  let m := x.1
  let sat := x.2.1
  let d := x.2.2
  let hist := leBytes 2 m ++ d.bytes (a + 64 + 0x20) 30
  let d := d.put (a + 64 + 0x20) hist
  let d := if l.satlim < sat then d.raise 0x2100 0x7050 (k + 1) a (t + sat * 65536) else d
  let moving := l.policy = 2 || (l.policy = 1 && 0 < l.win)
  let mn := ((List.range (min l.n 16)).map (fun i => fieldB hist (2 * i) 2)).foldl max 0
  let w := match d.tensor t with
    | some x => (x.width, x.isUnsigned)
    | none => (8, false)
  let e := ceilLog2 mn + l.h - fmtTop l.fmt w.1 w.2
  let ec := max (-126) (min 126 e)
  let d := if moving && 0 < mn && e != ec then d.raise 0x2105 0x7050 (k + 1) a t else d
  let win := if moving && l.policy = 1 then l.win - 1 else l.win
  let live := l.policy = 2 || (l.policy = 1 && 0 < win)
  let d := if moving && 0 < mn then
      (d.store a 2 ((ec + 127).toNat * 128)).store (a + 2) 2 ((127 - ec).toNat * 128)
    else d
  let d := d.store (a + 7) 1 (l.flags - b2n l.live * 64 + b2n live * 64)
  let d := d.store (a + 8) 2 ((step + 1) % 65536)
  let d := d.store (a + 0xD) 1 win
  d.store (a + 0x3C) 4 (crc32c (d.bytes a 0x3C))

end Device

/-- RD = 0 done, 1 not home, 2 line unreadable and left unchanged. -/
def execSpub (k : Cluster) (rd ra rb : Reg) (hits : Hits) (s : State) : Out :=
  s.run (fun d => (d.seqHits (trackerSq k) hits).seqIssue (trackerSq k) (fun d x =>
    let t := (x.reg ra).toNat % 65536
    let l := d.line k t
    if !l.ok then d.seqWrite (trackerSq k) rd 2
    else if l.home ≠ k.val then d.seqWrite (trackerSq k) rd 1
    else (d.publish k t (x.reg rb).toNat l).seqWrite (trackerSq k) rd 0))

def execSrst (k : Cluster) (ra : Reg) (hits : Hits) (s : State) : Out :=
  s.run (fun d => (d.seqHits (trackerSq k) hits).seqIssue (trackerSq k) (fun d x =>
    let t := (x.reg ra).toNat % 65536
    let d := if t < d.num 0x7050 2 (k + 1) then d.store (Device.storeAddr k (d.lineOff k t + 64)) 8 0 else d
    d.seqNext (trackerSq k)))

/-! ### Converter descriptors (R198) -/

structure CvtDesc where
  seq : Nat
  op : Nat
  fmto : Nat
  widtho : Nat
  rmode : Nat
  sat : Bool
  first : Bool
  rot : Nat
  raxis : Bool
  inv : Bool
  cnt : Nat
  cores : Nat
  units : Nat
  ur : Nat
  uc : Nat
  x : Nat
  y : Nat
  z : Nat
  xh : Nat
  yh : Nat
  zh : Nat
  alpha : Nat
  beta : Nat
  ztsid : Nat
  rstream : W32
  sstream : W32
  wmap : Nat
  xb : Nat
  yb : Nat
  zb : Nat
  xe : Nat
  ye : Nat
  ze : Nat
  zbsi : Nat
  deriving DecidableEq, Repr

def parseCvt (b : List Byte) : CvtDesc :=
  let f := fieldB b
  { seq := f 0 4, op := f 4 1, fmto := f 5 1 % 32, widtho := f 6 1 % 16, rmode := f 7 1 % 4, sat := bitOf (f 7 1) 2,
    first := bitOf (f 7 1) 3, rot := f 8 1 % 4, raxis := bitOf (f 8 1) 2, inv := bitOf (f 8 1) 3, cnt := f 9 1,
    cores := f 0xA 2, units := f 0xC 2, ur := f 0xE 1, uc := f 0xF 1, x := f 0x10 4, y := f 0x14 4, z := f 0x18 4,
    xh := f 0x1C 4, yh := f 0x20 4, zh := f 0x24 4, alpha := f 0x28 4, beta := f 0x2C 4, ztsid := f 0x30 2,
    rstream := BitVec.ofNat 32 (f 0x34 4), sstream := BitVec.ofNat 32 (f 0x38 4), wmap := f 0x3C 4, xb := f 0x40 4,
    yb := f 0x44 4, zb := f 0x48 4, xe := f 0x4C 4, ye := f 0x50 4, ze := f 0x54 4, zbsi := f 0x58 4 }

/-- A tile of a unit: its number in the operand, its first row and column in the unit, its container bits. -/
structure TileAt where
  t : Nat
  row : Nat
  col : Nat
  cb : Nat
  deriving DecidableEq, Repr

/-- R199: the tiles of a unit of `rows` × `cols` elements in tile-row-major order, from tile `t` on, each with its own container
`cb t` (R218). -/
def tilesFrom (rows cols : Nat) (cb : Nat → Nat) : Nat → Nat → Nat → Nat → List TileAt
  | 0, _, _, _ => []
  | n + 1, t, row, col =>
    if rows ≤ row then []
    else
      let e := col + tileCols (cb t)
      { t := t, row := row, col := col, cb := cb t } ::
        (if cols ≤ e then tilesFrom rows cols cb n (t + 1) (row + 64) 0 else tilesFrom rows cols cb n (t + 1) row e)

/-- The tiles of one unit of a descriptor; a tile has at least 16 columns. -/
def unitTiles (c : CvtDesc) (cb : Nat → Nat) (t : Nat) : List TileAt :=
  tilesFrom (64 * c.ur) (64 * c.uc) cb (4 * c.ur * c.uc) t 0 0

/-- The tiles of all units of an operand, unit by unit. -/
def operandTiles (c : CvtDesc) (cb : Nat → Nat) : List (List TileAt) :=
  (forN c.units (([], 0) : List (List TileAt) × Nat) (fun acc _ =>
    let u := unitTiles c cb acc.2
    (acc.1 ++ [u], acc.2 + u.length))).1

/-- R199: blocks, and sub-blocks, of the tiles before tile `t` of an operand whose tiles have containers `cb`: where its codes and its
escape record stand among those staged. -/
def blocksBefore (cb : Nat → Nat) (t : Nat) : Nat := ((List.range t).map (fun i => tileBlocks (cb i))).sum
def subsBefore (cb : Nat → Nat) (t : Nat) : Nat := ((List.range t).map (fun i => subCount (cb i))).sum

namespace Device

/-- The INTn width of output tile `t`: WIDTHO, or its WMAP byte (R218). -/
def cvtWidth (d : Device) (k : Nat) (c : CvtDesc) (t : Nat) : Nat :=
  if c.fmto ≠ fmtINT then 0
  else if c.widtho ≠ 0 then c.widtho
  else d.load (storeAddr k (c.wmap + t)) 1 % 16

/-- Container bits of output tile `t`, and of tile `t` of an input, whose header gives its format. -/
def cvtOutBits (d : Device) (k : Nat) (c : CvtDesc) (t : Nat) : Nat := contBits c.fmto (d.cvtWidth k c t)
def cvtInHdr (d : Device) (k h t : Nat) : Hdr := parseHdr (d.bytes (storeAddr k (h + 16 * t)) 16)
def cvtInBits (d : Device) (k h t : Nat) : Nat :=
  let hd := d.cvtInHdr k h t
  contBits hd.fmt hd.width

/-- The tiles of the output and of an input. -/
def cvtOut (d : Device) (k : Nat) (c : CvtDesc) : List (List TileAt) := operandTiles c (d.cvtOutBits k c)
def cvtIn (d : Device) (k : Nat) (c : CvtDesc) (h : Nat) : List (List TileAt) := operandTiles c (d.cvtInBits k h)

/-- R203: an input's payloads, headers, and the staged codes and escapes that its tiles call for, lie in the store. -/
def cvtInOk (d : Device) (k : Nat) (c : CvtDesc) (p h codes escs : Nat) : Bool :=
  let ts := (d.cvtIn k c h).flatten
  offOk p (4096 * ts.length) && offOk h (16 * ts.length) && ts.all (fun t =>
    let hd := d.cvtInHdr k h t.t
    let l := d.line k hd.tsid
    (hd.bsi == 0xFFFFFFFF || offOk (codes + blocksBefore (d.cvtInBits k h) t.t) (tileBlocks t.cb)) &&
    (!(l.ok && l.esc) || offOk (escs + 16 * subsBefore (d.cvtInBits k h) t.t) (16 * subCount t.cb)))

/-- R198, R203: reserved codes and fields out of range. -/
def cvtCodeBad (c : CvtDesc) : Bool :=
  decide (2 < c.op) || c.fmto == 0 || decide (7 < c.fmto) || (c.fmto == fmtINT && decide (8 < c.widtho)) || c.rmode == 3 || c.units == 0
    || c.ur == 0 || decide (4 < c.ur) || c.uc == 0 || decide (8 < c.uc)
    || (c.fmto == fmtINT && c.widtho == 0 && c.wmap == 0xFFFFFFFF)

/-- R30, R203: addresses outside the store. -/
def cvtReachBad (d : Device) (k : Nat) (c : CvtDesc) : Bool :=
  let ots := (d.cvtOut k c).flatten
  let zt := ots.length
  let l := d.line k c.ztsid
  (c.fmto == fmtINT && c.widtho == 0 && !offOk c.wmap zt)
    || !offOk c.z (4096 * zt) || !offOk c.zh (16 * zt) || !d.cvtInOk k c c.x c.xh c.xb c.xe
    || (c.op != 0 && !d.cvtInOk k c c.y c.yh c.yb c.ye)
    || (l.ok && l.blocked && !offOk c.zb ((ots.map (fun t => tileBlocks t.cb)).sum))
    || (l.ok && l.esc && !offOk c.ze ((ots.map (fun t => 16 * subCount t.cb)).sum))

/-- R203: what the converter refuses. -/
def cvtBad (d : Device) (k seq : Nat) (b : List Byte) : Bool :=
  let c := parseCvt b
  c.seq != seq || !descCrcOk b 128 || cvtCodeBad c || d.cvtReachBad k c

/-! ### Inputs -/

/-- R46, R200: the formats that the converter reads. -/
def cvtReads (h : Hdr) : Bool := decide (h.fmt ≤ 8)

/-- Tile `t` of an input: its values with the tensor scale (R179), zeros where it does not read. -/
def cvtTile (d : Device) (k p h codes escs t cb : Nat) : Device × List Num :=
  let r := d.engTile k cvtReads (p + 4096 * t) (h + 16 * t) 0x7050
  match r with
  | (d, none) => (d, List.replicate (tileElems cb) Num.zero)
  | (d, some (hd, pl)) =>
    let l := d.line k hd.tsid
    let cbt := fmtBits hd.fmt hd.width
    let cs := d.bytes (storeAddr k (codes + blocksBefore (d.cvtInBits k h) t)) (tileBlocks cbt)
    let n := subCount cbt
    let esc : Escapes := if l.ok && l.esc then parseEscapes (d.bytes (storeAddr k (escs + 16 * subsBefore (d.cvtInBits k h) t)) (16 * n)) n else {}
    let sc := e8m7 (if l.ok then l.s else 0x3F80)
    let fs := d.readFalls k 20 esc
    (fs.1, (tileValues true hd pl l cs esc.outs fs.2).map (fun v => match v with | .fin .. => v.mul sc | v => v))

/-- The tile of a unit that holds an element. -/
def tileHolds (row col : Nat) (t : TileAt) : Bool :=
  decide (t.row ≤ row) && decide (row < t.row + 64) && decide (t.col ≤ col) && decide (col < t.col + tileCols t.cb)

/-- The unit of an input with tiles `ts` as rows × columns, in row order, each value rounded once into binary32 where it is not
exact. -/
def readUnit (d : Device) (k : Nat) (c : CvtDesc) (p h codes escs : Nat) (ts : List TileAt) : Device × List Num :=
  let r := ts.foldl (fun (acc : Device × List (TileAt × List Num)) t =>
    let x := acc.1.cvtTile k p h codes escs t.t t.cb
    (x.1, acc.2 ++ [(t, x.2)])) (d, [])
  let cols := 64 * c.uc
  (r.1, (List.range (64 * c.ur * cols)).map (fun i =>
    let row := i / cols
    let col := i % cols
    match r.2.find? (fun x => tileHolds row col x.1) with
    | some x => r32 (x.2.getD (blockedAt x.1.cb (row - x.1.row) (col - x.1.col)) Num.zero)
    | none => Num.zero))

end Device

/-- R200. -/
def cvtOp (op : Nat) (alpha beta : Num) (x y : Num) : Num :=
  match op with
  | 0 => x
  | 1 => r32 ((alpha.mul x).add (r32 (beta.mul y)))
  | _ => r32 ((alpha.mul x).add (r32 ((r32 (beta.mul y)).mul y)))

/-! ### Rotation (R204, R205) -/

/-- One butterfly stage over a vector. -/
def butterfly (s : Nat) (v : List Num) : List Num :=
  v.zipIdx.map (fun xi =>
    if bitOf xi.2 s then r32 ((v.getD (xi.2 - 2 ^ s) Num.zero).add xi.1.neg)
    else r32 (xi.1.add (v.getD (xi.2 + 2 ^ s) Num.zero)))

/-- n^(-1/2) H D u, or n^(-1/2) D H v with INV; `sg` are the signs of the vector's positions, n = 2^(2b). -/
def rotateVec (b : Nat) (inv : Bool) (sg : List Bool) (v : List Num) : List Num :=
  let signs (v : List Num) : List Num := (v.zip sg).map (fun x => if x.2 then x.1.neg else x.1)
  let v := if inv then v else signs v
  let v := forN (2 * b) v (fun v s => butterfly s v)
  let v := if inv then signs v else v
  v.map (fun x => x.scale (-(b : Int)))

/-- log2 of n^(1/2) for the ROT codes 16, 64 and 256. -/
def rotHalf (rot : Nat) : Nat := rot + 1

/-- Rotate every vector of a unit (row order, `cols` columns) whose first position along the reduction axis is `k0`. -/
def rotateUnit (c : CvtDesc) (sign : Nat → Bool) (k0 : Nat) (v : List Num) : List Num :=
  let b := rotHalf c.rot
  let n := 4 ^ b
  let cols := 64 * c.uc
  let rows := 64 * c.ur
  let vec (r q : Nat) : List Num :=
    rotateVec b c.inv ((List.range n).map (fun i => sign ((k0 + q * n + i) % 65536)))
      ((List.range n).map (fun i => v.getD (if c.raxis then (q * n + i) * cols + r else r * cols + q * n + i) Num.zero))
  let lines := if c.raxis then cols else rows
  let per := (if c.raxis then rows else cols) / n
  let vs := (List.range lines).map (fun r => (List.range per).map (fun q => vec r q))
  v.zipIdx.map (fun xi =>
    let row := xi.2 / cols
    let col := xi.2 % cols
    let r := if c.raxis then col else row
    let p := if c.raxis then row else col
    ((vs.getD r []).getD (p / n) []).getD (p % n) xi.1)

/-! ### Output (R201) -/

/-- The magnitude of a finite value compared with a bound. -/
def magAbove (v : Num) (m : Nat) (e : Int) : Bool :=
  match v with
  | .fin _ n f => !magLe n f m e
  | _ => false

/-- The larger of two magnitudes in 2^e form; an infinity lies above every finite value, and a NaN is passed over. -/
def magMax (a : Nat × Int) (v : Num) : Nat × Int :=
  match v with
  | .fin _ n f => if magLe a.1 a.2 n f then (n, f) else a
  | .inf _ => (1, 4096)
  | .nan => a

/-- Places of the four largest among `big` (place, magnitude), ties to the lower place. -/
def largest4 (big : List (Nat × (Nat × Int))) : List Nat :=
  let pick (l : List (Nat × (Nat × Int))) : Option (Nat × (Nat × Int)) :=
    l.foldl (fun (b : Option (Nat × (Nat × Int))) x => match b with
      | none => some x
      | some y => if magLe x.2.1 x.2.2 y.2.1 y.2.2 then b else some x) none
  (forN 4 (([], big) : List Nat × List (Nat × (Nat × Int))) (fun acc _ => match pick acc.2 with
    | none => acc
    | some x => (acc.1 ++ [x.1], acc.2.filter (fun y => y.1 != x.1)))).1

/-- R201: an outlier's E8M7 value: RNE, magnitude at most 65,280. -/
def outlierBits (v : Num) : Nat :=
  let b := toE8M7 v
  if 0x477F < b % 32768 then b / 32768 * 32768 + 0x477F else b

/-- What encoding a tile keeps track of. -/
structure Enc where
  y : List Num
  entries : List (List Byte) := []
  falls : List (Nat × Nat) := []
  outs : Nat := 0
  deriving DecidableEq, Repr

namespace Device

/-- R216: one clamped sub-block of TSID `t` written by cluster `k`; FALLBACK_CLAMPS counts it, by event 0x2102 where that is
raised. -/
def clampSub (d : Device) (k t loc : Nat) (storm : Bool) : Device :=
  let a := storeAddr k (loc + 8)
  let d := d.store a 4 ((d.load a 4 + 1) % 2 ^ 32)
  let d := d.modClu k (fun c => { c with clamps := c.clamps + 1 })
  if storm then
    let d := d.addNum 0x1911 5 0 1
    let fresh := Map.get 0 d.evt.once (0x2104 * 2 ^ 40 + (k * 65536 + t)) != d.cad.step + 1
    let d := if fresh then d.modClu k (fun c => { c with storms := c.storms + 1 }) else d
    d.raiseOnce 0x2104 (k * 65536 + t) 0x7050 (k + 1) (storeAddr k loc) t
  else d.raise 0x2102 0x7050 (k + 1) (storeAddr k loc) t

/-- One sub-block of an ESC tile: fallback, outliers or clamp. -/
def escSub (d : Device) (k t loc mm : Nat) (me : Int) (x : Enc) (s : Nat) : Device × Enc :=
  let zero : List Byte := List.replicate 16 0
  let big := (List.range 256).filterMap (fun i => match x.y.getD (256 * s + i) Num.zero with
    | .fin g m e => if magAbove (.fin g m e) mm me then some (i, (m, e)) else none
    | _ => none)
  let rused := d.load (storeAddr k (loc + 0xC)) 4
  let rcap := d.load (storeAddr k (loc + 0x10)) 4
  if 4 < big.length && x.falls.length < 2 && rused < rcap then
    let slot := d.load (storeAddr k (loc + 0x18)) 8 + 512 * rused
    let d := d.store (storeAddr k (loc + 0xC)) 4 (rused + 1)
    let d := d.addNum 0x1911 4 0 1
    -- R216: once when RUSED first reaches three quarters of RCAP
    let d := if 3 * rcap ≤ 4 * (rused + 1) && 4 * rused < 3 * rcap then
        d.raiseOnce 0x2101 (k * 65536 + t) 0x7050 (k + 1) (storeAddr k loc) t
      else d
    (d, { x with falls := x.falls ++ [(s, slot)], entries := x.entries ++ [leBytes 4 0x8000 ++ leBytes 4 0 ++ leBytes 8 slot] })
  else if big.isEmpty then (d, { x with entries := x.entries ++ [zero] })
  else
    let keep := largest4 big
    let ws := keep.map (fun i => leBytes 4 (i + 0x100 + outlierBits (x.y.getD (256 * s + i) Num.zero) * 65536))
    let y := keep.foldl (fun (y : List Num) i => y.set (256 * s + i) Num.zero) x.y
    let d := d.addNum 0x1911 3 0 keep.length
    let d := if 4 < big.length then d.clampSub k t loc (decide (rcap ≤ rused)) else d
    (d, { x with y := y, outs := x.outs + keep.length, entries := x.entries ++ [(ws.flatten ++ zero).take 16] })

/-- R201: Eb of each block: F, raised while the block's largest magnitude does not fit, at most F + 7. -/
def blockEb (f mm : Nat) (me : Int) (m : Nat × Int) : Nat :=
  let fits (i : Nat) : Bool := magLe m.1 (m.2 + 127 - ((f + i : Nat) : Int)) mm me
  f + ((List.range 8).find? fits).getD 7

/-- R219: the narrowest width at which no element of the tile saturates under the descriptor's rounding; an infinity saturates
at every width (R60). Under SR, whose bits another width would not have drawn, the nearest value decides (log entry 36). -/
def widthAdvice (isUnsigned : Bool) (rm : RMode) (vs : List Num) : Option Nat :=
  ((List.range 8).map (· + 1)).find? (fun w =>
    vs.all (fun v => !v.isInf &&
      !(roundTo ⟨fmtINT, w, !isUnsigned, true⟩ (if rm = .sr then .rne else rm) 0 0 v).exceeds))

/-- R201: encode the values `r` of output tile `t` (blocked order) and write it. A zero point has the signedness of the elements
(DESIGN CHOICE, log entry 37). -/
def encodeTile (d : Device) (k : Nat) (c : CvtDesc) (l : Line) (t : Nat) (r : List Num) : Device × Tally :=
  let width := d.cvtWidth k c t
  let cb := contBits c.fmto width
  let n := subCount cb
  let uns := match d.tensor c.ztsid with
    | some x => x.isUnsigned
    | none => false
  let tg : Target := { fmt := c.fmto, width := width, signed := !uns, sat := c.sat }
  let q := e8m7 l.q
  let mx := maxMag tg false
  let loc := d.lineOff k c.ztsid + 64
  let y := r.map (fun v => match v with | .fin .. => v.mul q | v => v)
  let e0 : Enc := { y := y }
  let x := if l.esc then forN n (d, e0) (fun acc s => acc.1.escSub k c.ztsid loc mx.1 mx.2 acc.2 s) else (d, e0)
  let d := x.1
  let enc := x.2
  let isFall (i : Nat) : Bool := enc.falls.any (fun f => f.1 == i / 256)
  let nC := subCols cb
  let bOf (i : Nat) : Nat := blockNo l.baxis nC (i / 256) (i % 256 / 16) (i % 16)
  let maxima : List (Nat × Int) := enc.y.zipIdx.foldl (fun (ms : List (Nat × Int)) vi =>
    if isFall vi.2 then ms else ms.modify (bOf vi.2) (fun a => magMax a vi.1)) (List.replicate (tileBlocks cb) (0, 0))
  let ebs : List Nat := if l.blocked then maxima.map (fun m => blockEb l.f mx.1 mx.2 m) else List.replicate (tileBlocks cb) 127
  let zp : Num := if c.fmto = fmtINT && l.zpen then Num.ofDy (Dy.ofInt (intVal width (!uns) l.zp)) else Num.zero
  let sh (vi : Num × Nat) : Num :=
    let v := match vi.1 with
      | .fin .. => vi.1.scale (127 - (ebs.getD (bOf vi.2) 127 : Int))
      | v => v
    if c.fmto = fmtINT && l.zpen && !isFall vi.2 then v.add zp else v
  let vs := enc.y.zipIdx.map sh
  let rm := rmodeOf c.rmode
  let rb := d.force 0x1901 1
  let subs := forN n ((d, [], {}) : Device × List (List Nat) × Tally) (fun acc s =>
    let xs := (vs.drop (256 * s)).take 256
    let fall := enc.falls.find? (fun f => f.1 == s)
    let tgs : Target := if fall.isSome then { fmt := fmtE5M10, width := 0, signed := false, sat := c.sat } else tg
    let o := acc.1.srRound k cvtUnit c.rstream tgs rm rb (fun i => i) xs
    let tl := (xs.zip o.2).foldl (fun (a : Tally) p => a.add tgs p.1 false p.2) acc.2.2
    let d := match fall with
      | some f => o.1.ownPut k 20 f.2 (packElems 16 (o.2.map (·.bits)))
      | none => o.1
    (d, acc.2.1 ++ [if fall.isSome then List.replicate 256 0 else o.2.map (·.bits)], tl))
  let tl := r.foldl (fun (a : Tally) v => a.report v) subs.2.2
  let d := subs.1
  let pl := subs.2.1.flatMap (packElems cb)
  let blk := blocksBefore (d.cvtOutBits k c) t
  let h : Hdr := { bsi := if l.blocked then (c.zbsi + blk) % 2 ^ 32 else 0xFFFFFFFF, tsid := c.ztsid,
                   ocnt := enc.outs, fmt := c.fmto, width := width, signA := c.fmto == fmtINT && !uns,
                   signB := c.fmto == fmtINT && l.zpen && !uns, fallback := !enc.falls.isEmpty }
  let d := d.engPut k (c.z + 4096 * t) (c.zh + 16 * t) pl h
  let d := if l.blocked then d.put (storeAddr k (c.zb + blk)) (ebs.map (BitVec.ofNat 8)) else d
  let d := if l.esc then d.put (storeAddr k (c.ze + 16 * subsBefore (d.cvtOutBits k c) t)) enc.entries.flatten else d
  let d := if c.fmto = fmtINT then
      (match widthAdvice uns rm (vs.zipIdx.filterMap (fun vi => if isFall vi.2 then none else some vi.1)) with
        | some w => d.addNum 0x1913 w 0 1
        | none => d)
    else d
  (d, tl)

/-- R201: the output tiles `ts` of a unit, taken from its values in row order. -/
def encodeUnit (d : Device) (k : Nat) (c : CvtDesc) (l : Line) (ts : List TileAt) (r : List Num) (tl : Tally) : Device × Tally :=
  let cols := 64 * c.uc
  ts.foldl (fun (acc : Device × Tally) t =>
    let vs := (List.range (tileElems t.cb)).map (fun j =>
      let s := j / 256
      let row := t.row + 16 * (s / subCols t.cb) + j % 256 / 16
      let col := t.col + 16 * (s % subCols t.cb) + j % 16
      if cols ≤ col then Num.zero else r.getD (row * cols + col) Num.zero)
    let o := acc.1.encodeTile k c l t.t vs
    let a := acc.2
    let b := o.2
    (o.1, { nan := a.nan + b.nan, inf := a.inf + b.inf, ovf := a.ovf + b.ovf, sat := a.sat + b.sat,
            lostNan := a.lostNan + b.lostNan, smax := max a.smax b.smax })) (d, tl)

/-- R205: the signs of a rotation; +1 everywhere where the handle names no entry (R240). -/
def rotSigns (d : Device) (k : Nat) (handle : W32) : Device × (Nat → Bool) :=
  match d.currentCtx k rotUnit handle with
  | (d, some c) => (d, fun i => laneBit (c.start.getD (i % 256) 1) (i / 256))
  | (d, none) => (d, fun _ => false)

/-- The first position along the reduction axis of unit `u` (log entry 23): units stand in rows across the tensor's columns. -/
def unitOrigin (d : Device) (c : CvtDesc) (u : Nat) : Nat :=
  let upr := match d.tensor c.ztsid with
    | some t => max 1 (t.cols / (64 * c.uc))
    | none => c.units
  if c.raxis then u / upr * (64 * c.ur) else u % upr * (64 * c.uc)

/-- R205, R241: the sign bits of a unit's positions along the reduction axis, delivered once for the unit (DESIGN CHOICE, log
entry 23). -/
def signsGiven (d : Device) (k : Nat) (c : CvtDesc) (sign : Nat → Bool) (k0 : Nat) : Device :=
  match d.ctxOf k rotUnit c.sstream with
  | some x =>
    let n := 64 * (if c.raxis then c.ur else c.uc)
    let y := x.deliver n (((List.range n).map (fun i => b2n (sign ((k0 + i) % 65536)) * 2 ^ i)).sum)
    d.endDraw k rotUnit { ctx := y.1, bits := n, faults := y.2 }
  | none => d

/-- R200 to R206: all units of a descriptor. -/
def convert (d : Device) (k : Nat) (c : CvtDesc) (l : Line) : Device :=
  let loc := d.lineOff k c.ztsid + 64
  let inTab := decide (c.ztsid < d.num 0x7050 2 (k + 1))
  let d := if c.first && inTab then (d.store (storeAddr k (loc + 8)) 4 0).store (storeAddr k (loc + 0xC)) 4 0 else d
  let sg := if c.rot = 0 then (d, fun _ => false) else d.rotSigns k c.sstream
  let d := if rmodeOf c.rmode = .sr && noStream c.rstream then sg.1.raise 0x7022 0x7050 (k + 1) else sg.1
  let xs := d.cvtIn k c c.xh
  let ys := d.cvtIn k c c.yh
  let zs := d.cvtOut k c
  let r := forN c.units ((d, {}) : Device × Tally) (fun acc u =>
    let x := acc.1.readUnit k c c.x c.xh c.xb c.xe (xs.getD u [])
    let y := if c.op = 0 then (x.1, []) else x.1.readUnit k c c.y c.yh c.yb c.ye (ys.getD u [])
    let vs := x.2.zipIdx.map (fun v => cvtOp c.op (f32 c.alpha) (f32 c.beta) v.1 (y.2.getD v.2 Num.zero))
    let vs := if c.rot = 0 then vs else rotateUnit c sg.2 (d.unitOrigin c u) vs
    let dv := if c.rot = 0 then y.1 else y.1.signsGiven k c sg.2 (d.unitOrigin c u)
    dv.encodeUnit k c l (zs.getD u []) vs acc.2)
  let d := r.1.tally k (r.1.classOf k (some c.ztsid)) r.2 0x7050 (k + 1) (storeAddr k c.z)
  let d := d.reportLine k c.ztsid r.2.smax r.2.sat
  if c.rot = 0 then d else d.addNum 0x7050 6 (k + 1) (c.units * (64 * c.ur) * (64 * c.uc) / 4 ^ rotHalf c.rot)

end Device

/-- The head of the rings in turn; a descriptor that breaks R203 is refused at once. -/
def execConverterTake (k : Cluster) (hits : Hits) (s : State) : Out :=
  s.runHits hits (fun d =>
    let h0 := d.num 0x7050 3 (k + 1)
    if h0 = 0xFFFFFFFF || (d.clu k).cvt.isSome then d
    else match d.ringTake k h0 4 (d.clu k).cvtNext 128 20 with
      | (d, none) => d
      | (d, some (r, j)) =>
        let d := d.modClu k (fun c => { c with cvtNext := (r + 1) % 4 })
        if d.cvtBad k (d.ringSeq k h0 r) j.desc then
          (d.ringDone k h0 r (fieldB j.desc 9 1) (fieldB j.desc 0xA 2)).raise 0x2103 0x7050 (k + 1)
            (Device.storeAddr k j.off) (fieldB j.desc 0 4)
        else d.modClu k (fun c => { c with cvt := some j }))

/-- R185: the line of one of an input's tiles cannot be used yet; `h` is its first header. -/
def Device.inputWaits (d : Device) (k h n : Nat) : Bool :=
  (List.range n).any (fun t => d.unpublished k (parseHdr (d.bytes (Device.storeAddr k (h + 16 * t)) 16)).tsid)

/-- The tiles of an input as payload and header offsets. -/
def tileOffs (p h n : Nat) : List (Nat × Nat) := (List.range n).map (fun t => (p + 4096 * t, h + 16 * t))

/-- R189: a converter descriptor begins to wait for its output line. -/
def cvtWaits (d : Device) (k : Nat) (j : Job) : Device :=
  if j.since = 0 then d.modClu k (fun x => { x with cvt := some { j with since := d.time.nowNs + 1 } }) else d

/-- The taken descriptor, when its OP is `op`, is carried out, once its lines are published (R185, R189), its random bits prepared
(R237) and its input tiles read, twice where need be (R154). -/
def cvtRun (d : Device) (k op : Nat) : Device :=
  match (d.clu k).cvt with
  | none => d
  | some j =>
    let c := parseCvt j.desc
    let l := d.line k c.ztsid
    let nx := (d.cvtIn k c c.xh).flatten.length
    let ny := if c.op = 0 then 0 else (d.cvtIn k c c.yh).flatten.length
    if j.worked || c.op ≠ op then d
    else if d.lineWaits k c.ztsid l && !j.late then cvtWaits d k j
    else if d.inputWaits k c.xh nx || d.inputWaits k c.yh ny then d
    else if rmodeOf c.rmode == .sr && !noStream c.rstream && !d.bitsReady k cvtUnit c.rstream (d.force 0x1901 1) (fun _ => true) then
      d.holdDraw k cvtUnit c.rstream
    else if c.rot != 0 && !noStream c.sstream && !d.ctxReady k rotUnit c.sstream then d.starve k
    else
      let ts := tileOffs c.x c.xh nx ++ tileOffs c.y c.yh ny
      match d.firstReads k Device.cvtReads ts with
      | some d => d
      | none =>
        let l := if l.ok then l else { s := 0x3F80, q := 0x3F80 }
        let e := d.convert k c l
        let falls := (e.num 0x1911 4 + 2 ^ 64 - d.num 0x1911 4) % 2 ^ 64
        (e.endReads k ts).modClu k (fun x => { x with cvt := some { j with worked := true, falls := falls } })

def execCvt (k : Cluster) (hits : Hits) (s : State) : Out := s.runHits hits (fun d => cvtRun d k 0)

def execAxpby (k : Cluster) (hits : Hits) (s : State) : Out := s.runHits hits (fun d => cvtRun d k 1)

def execAxpbySq (k : Cluster) (hits : Hits) (s : State) : Out := s.runHits hits (fun d => cvtRun d k 2)

/-- R202, R206: fabric cycles of a descriptor; a tile of 4,096 bytes takes 32 beats of 128 bytes, the codes of a unit E/32
bytes, a fallback sub-block 4 cycles. -/
def cvtCycles (d : Device) (k : Nat) (c : CvtDesc) (blocked : Bool) (falls : Nat) : Nat :=
  let e := 64 * c.ur * (64 * c.uc)
  let beats (u : List (List TileAt)) : Nat := 32 * (u.getD 0 []).length
  let bin := beats (d.cvtIn k c c.xh) + (if c.op = 0 then 0 else beats (d.cvtIn k c c.yh))
  let bout := beats (d.cvtOut k c) + (if blocked then (e / 32 + 127) / 128 else 0)
  48 + c.units * max (e / 64) (max bin bout) + 4 * falls + (if c.rot = 0 then 0 else 3 * (2 * rotHalf c.rot) + 8)

def execCvtDescriptorDone (k : Cluster) (s : State) : Out :=
  s.run (fun d => match (d.clu k).cvt with
    | some j =>
      if !j.worked then d
      else
        let c := parseCvt j.desc
        let d := d.ringDone k (d.num 0x7050 3 (k + 1)) j.ring c.cnt c.cores
        let d := d.addNum 0x7050 4 (k + 1) 1
        let d := d.addNum 0x7050 5 (k + 1) (cvtCycles d k c (d.line k c.ztsid).blocked j.falls)
        d.modClu k (fun x => { x with cvt := none })
    | none => d)

end Sys2Proof.Machine
end

