-- ==== Sys2Proof/Machine/Reduce.lean ====
section
/-! DEFINITION. Reduction engines (R207 to R210) and log-table builders (R211, R212). -/

namespace Sys2Proof.Machine

/-! ### Reduction descriptors (R207) -/

structure RedDesc where
  seq : Nat
  op : Nat
  fmto : Nat
  nin : Nat
  rmode : Nat
  sat : Bool
  cnt : Nat
  cores : Nat
  tiles : Nat
  ztsid : Nat
  xs : List Nat
  xhs : List Nat
  z : Nat
  zh : Nat
  deriving DecidableEq, Repr

def parseRed (b : List Byte) : RedDesc :=
  let f := fieldB b
  { seq := f 0 4, op := f 4 1, fmto := f 5 1 % 32, nin := f 6 1, rmode := f 7 1 % 4, sat := bitOf (f 7 1) 2, cnt := f 8 1,
    cores := f 0xA 2, tiles := f 0xC 2, ztsid := f 0xE 2, xs := (List.range 8).map (fun i => f (0x10 + 4 * i) 4),
    xhs := (List.range 8).map (fun i => f (0x30 + 4 * i) 4), z := f 0x50 4, zh := f 0x54 4 }

/-- A format that the reduction engine reads: 0x01 to 0x05, 0x08. -/
def redFmt (fmt : Nat) : Bool := (decide (1 ≤ fmt) && decide (fmt ≤ 5)) || fmt == fmtPAIR16

namespace Device

/-- The format of an input, from its first header. -/
def redHdr (d : Device) (k h : Nat) : Hdr := parseHdr (d.bytes (storeAddr k h) 16)

/-- Elements per input tile, and output tiles of a SUM: the elements follow one another in dense order. -/
def redElems (d : Device) (k : Nat) (c : RedDesc) : Nat :=
  let h := d.redHdr k (c.xhs.getD 0 0)
  tileElems (contBits h.fmt h.width)
def redOutTiles (d : Device) (k : Nat) (c : RedDesc) : Nat :=
  let eo := tileElems (contBits c.fmto 0)
  (c.tiles * d.redElems k c + eo - 1) / eo

/-- R207: tile `t` of input `i` is compressed, of another format, or not like the first input. Tensor scales are compared where
both lines are published (R185). -/
def redTileBad (d : Device) (k : Nat) (c : RedDesc) (i t : Nat) : Bool :=
  let h0 := d.redHdr k (c.xhs.getD 0 0)
  let sOf (l : Line) : Nat := if l.ok then l.s else 0x3F80
  let h := d.redHdr k (c.xhs.getD i 0 + 16 * t)
  h.comp || !redFmt h.fmt || contBits h.fmt h.width != contBits h0.fmt h0.width ||
    (!d.unpublished k h.tsid && !d.unpublished k h0.tsid && sOf (d.line k h.tsid) != sOf (d.line k h0.tsid))

/-- R210: headers that a descriptor may not name; a tile that fails its CRC says nothing. -/
def redHdrBad (d : Device) (k : Nat) (c : RedDesc) : Bool :=
  (List.range c.nin).any (fun i => (List.range c.tiles).any (fun t =>
    crcOk (d.bytes (storeAddr k (c.xs.getD i 0 + 4096 * t)) 4096) (d.bytes (storeAddr k (c.xhs.getD i 0 + 16 * t)) 16) &&
      d.redTileBad k c i t))

/-- R207: reserved codes and fields out of range. -/
def redCodeBad (c : RedDesc) : Bool :=
  decide (2 < c.op)
    || (c.op == 0 && (!(c.fmto == fmtE8M7 || c.fmto == fmtPAIR16) || c.nin == 0 || decide (8 < c.nin)))
    || (c.op == 1 && (c.fmto != fmtPAIR16 || c.nin != 1)) || (c.op == 2 && (c.fmto != fmtE8M7 || c.nin != 1))
    || (c.op == 0 && c.fmto == fmtE8M7 && (c.rmode == 1 || c.rmode == 3)) || c.tiles == 0
    || (c.op != 0 && c.z % 4 != 0)

/-- R30, R210: addresses outside the store. -/
def redReachBad (d : Device) (k : Nat) (c : RedDesc) : Bool :=
  !(if c.op = 0 then offOk c.z (4096 * d.redOutTiles k c) && offOk c.zh (16 * d.redOutTiles k c) else offOk c.z 4)
    || (List.range c.nin).any (fun i => !offOk (c.xs.getD i 0) (4096 * c.tiles) || !offOk (c.xhs.getD i 0) (16 * c.tiles))

/-- R210: what the reduction engine refuses. -/
def redBad (d : Device) (k seq : Nat) (b : List Byte) : Bool :=
  let c := parseRed b
  c.seq != seq || !descCrcOk b 128 || redCodeBad c || d.redReachBad k c || d.redHdrBad k c

/-- Tile `t` of input `i`: dec × 2^(Eb − 127), escapes included; zeros where it does not read. -/
def redTile (d : Device) (k : Nat) (c : RedDesc) (i t : Nat) : Device × List Num :=
  match d.engTile k (fun h => redFmt h.fmt) (c.xs.getD i 0 + 4096 * t) (c.xhs.getD i 0 + 16 * t) 0x7050 with
  | (d, none) => (d, List.replicate (d.redElems k c) Num.zero)
  | (d, some (h, p)) =>
    let l := d.line k h.tsid
    let cb := fmtBits h.fmt h.width
    let n := subCount cb
    let x := if h.bsi = 0xFFFFFFFF then (d, []) else d.ownBytes k 22 (l.bsa + h.bsi) (tileBlocks cb)
    let y := if l.ok && l.esc && h.bsi != 0xFFFFFFFF then x.1.ownBytes k 22 (l.esa + 16 * n * (h.bsi / tileBlocks cb)) (16 * n)
      else (x.1, [])
    let esc := if y.2.isEmpty then {} else parseEscapes y.2 n
    let z := y.1.readFalls k 22 esc
    (z.1, tileValues false h p l x.2 esc.outs z.2)

/-- Every element of input `i`, in dense order. -/
def redInput (d : Device) (k : Nat) (c : RedDesc) (i : Nat) : Device × List Num :=
  forN c.tiles ((d, []) : Device × List Num) (fun acc t =>
    let r := acc.1.redTile k c i t
    (r.1, acc.2 ++ r.2))

/-- S_in, the scale of the inputs, and the class under which their non-finite values count. -/
def redScale (d : Device) (k : Nat) (c : RedDesc) : Num × Nat :=
  let h := d.redHdr k (c.xhs.getD 0 0)
  let l := d.line k h.tsid
  (e8m7 (if l.ok then l.s else 0x3F80), d.classOf k (some h.tsid))

/-- s / S for a power of two S; by the inverse Q of the line otherwise. -/
def divScale (v : Num) (l : Line) : Num :=
  match v with
  | .fin .. =>
    (match e8m7 l.s with
      | .fin _ m e => if m = 2 ^ m.log2 then v.scale (-((m.log2 : Int) + e)) else v.mul (e8m7 l.q)
      | _ => v)
  | v => v

/-- SUM (R208): exact over the inputs, scaled exactly, rounded once. -/
def redSum (d : Device) (k : Nat) (c : RedDesc) : Device :=
  let r := forN c.nin ((d, []) : Device × List (List Num)) (fun acc i =>
    let x := acc.1.redInput k c i
    (x.1, acc.2 ++ [x.2]))
  let d := r.1
  let sc := (d.redScale k c).1
  let lz := if c.ztsid = 0xFFFF then ({ s := 0x3F80, q := 0x3F80 } : Line) else d.line k c.ztsid
  let n := c.tiles * d.redElems k c
  let us := (List.range n).map (fun e =>
    let s := r.2.foldl (fun (a : Num) x => a.add (x.getD e Num.zero)) Num.zero
    match s with | .fin .. => s.mul sc | v => v)
  let vs := us.map (fun v => divScale v lz)
  let tg : Target := { fmt := fmtE8M7, width := 0, signed := false, sat := c.sat }
  let pair := c.fmto = fmtPAIR16
  let os : List (Num × Rounded) := vs.map (fun v =>
    if pair then
      let w := toPair16 v
      (v, { bits := w, exceeds := v.isFin && !(e8m7 (w / 65536)).isFin, nanLost := false })
    else (v, roundTo tg (rmodeOf c.rmode) 0 0 v))
  let tl := os.foldl (fun (a : Tally) x => a.add { tg with sat := tg.sat && !pair } x.1 false x.2) {}
  let tl := us.foldl (fun (a : Tally) v => a.report v) tl
  let cb := contBits c.fmto 0
  let eo := tileElems cb
  let d := forN (d.redOutTiles k c) d (fun d t =>
    let es := ((os.drop (eo * t)).take eo).map (·.2.bits)
    let pl := (packElems cb es ++ List.replicate 4096 0).take 4096
    d.engPut k (c.z + 4096 * t) (c.zh + 16 * t) pl { tsid := c.ztsid, fmt := c.fmto })
  (d.tally k (d.classOf k (some c.ztsid)) tl 0x7050 (k + 1) (storeAddr k c.z)).reportLine k c.ztsid tl.smax tl.sat

/-- SUMSQ and MAXABS leave non-finite values out and count them (R208). -/
def redFinite (d : Device) (k : Nat) (c : RedDesc) : Device × List Num :=
  let x := d.redInput k c 0
  let cls := (x.1.redScale k c).2
  let d := x.1.countNonfinite k cls 0 (x.2.filter (·.isNan)).length
  (d.countNonfinite k cls 1 (x.2.filter (·.isInf)).length, x.2.filter (·.isFin))

def redSumsq (d : Device) (k : Nat) (c : RedDesc) : Device :=
  let x := d.redFinite k c
  let sc := (x.1.redScale k c).1
  let s := x.2.foldl (fun (a : Dy) v => a.add (v.dy.mul v.dy)) Dy.zero
  let w := toPair16 (((Num.ofDy s).mul sc).mul sc)
  let d := x.1.store (storeAddr k c.z) 4 w
  -- R47, R305: the writer has no output tensor
  if (e8m7 (w / 65536)).isFin then d else d.countNonfinite k (d.classOf k none) 1 1

def redMaxabs (d : Device) (k : Nat) (c : RedDesc) : Device :=
  let x := d.redFinite k c
  let sc := (x.1.redScale k c).1
  let m := x.2.foldl (fun (a : Num) v => vMax a (vAbs v)) Num.zero
  let w := match m.mul sc with
    | .fin _ m e => e8m7Up m e
    | _ => 0
  x.1.store (storeAddr k c.z) 4 w

end Device

def execReductionTake (k : Cluster) (hits : Hits) (s : State) : Out :=
  s.runHits hits (fun d =>
    let h0 := d.num 0x7050 7 (k + 1)
    if h0 = 0xFFFFFFFF || (d.clu k).red.isSome then d
    else match d.ringTake k h0 4 (d.clu k).redNext 128 22 with
      | (d, none) => d
      | (d, some (r, j)) =>
        let d := d.modClu k (fun c => { c with redNext := (r + 1) % 4 })
        if d.redBad k (d.ringSeq k h0 r) j.desc then
          (d.ringDone k h0 r (fieldB j.desc 8 1) (fieldB j.desc 0xA 2)).raise 0x2114 0x7050 (k + 1)
            (Device.storeAddr k j.off) (fieldB j.desc 0 4)
        else d.modClu k (fun c => { c with red := some j }))

/-- The taken descriptor, when its OP is `op`; an unpublished input line makes it wait (R185), and its input tiles are read, twice
where need be (R154). -/
def redRun (d : Device) (k op : Nat) (f : Device → RedDesc → Device) : Device :=
  match (d.clu k).red with
  | none => d
  | some j =>
    let c := parseRed j.desc
    if j.worked || c.op ≠ op || (List.range c.nin).any (fun i => d.inputWaits k (c.xhs.getD i 0) c.tiles) then d
    else
      let ts := (List.range c.nin).flatMap (fun i => tileOffs (c.xs.getD i 0) (c.xhs.getD i 0) c.tiles)
      match d.firstReads k (fun h => redFmt h.fmt) ts with
      | some d => d
      | none => ((f d c).endReads k ts).modClu k (fun x => { x with red := some { j with worked := true } })

def execSum (k : Cluster) (hits : Hits) (s : State) : Out := s.runHits hits (fun d => redRun d k 0 (fun d c => d.redSum k c))

def execSumsq (k : Cluster) (hits : Hits) (s : State) : Out := s.runHits hits (fun d => redRun d k 1 (fun d c => d.redSumsq k c))

def execMaxabs (k : Cluster) (hits : Hits) (s : State) : Out := s.runHits hits (fun d => redRun d k 2 (fun d c => d.redMaxabs k c))

def execRedDescriptorDone (k : Cluster) (s : State) : Out :=
  s.run (fun d => match (d.clu k).red with
    | some j =>
      if !j.worked then d
      else
        let c := parseRed j.desc
        let d := d.ringDone k (d.num 0x7050 7 (k + 1)) j.ring c.cnt c.cores
        (d.addNum 0x7050 8 (k + 1) 1).modClu k (fun x => { x with red := none })
    | none => d)

/-! ### The log-table builder -/

structure LtbDesc where
  seq : Nat
  op : Nat
  cnt : Nat
  cores : Nat
  src : Nat
  c : Nat
  dst : Nat
  deriving DecidableEq, Repr

def parseLtb (b : List Byte) : LtbDesc :=
  let f := fieldB b
  { seq := f 0 4, op := f 4 1, cnt := f 5 1, cores := f 6 2, src := f 8 4, c := f 0xC 2, dst := f 0x10 4 }

/-- The 16-byte record of eight entries (R95). -/
def tableRecord (ts : List Nat) : List Byte := ts.flatMap (leBytes 2)

/-- 2^(f/8) as a fixed 24-bit constant, in units of 2^-23, to nearest (log entry 24). -/
def ltbConst (f : Nat) : Nat := (root8 f 40 + 2 ^ 16) / 2 ^ 17

/-- R211: round(2048 × 2^(f/8) × (1 + c × 2^-16)), ties away from zero. -/
def scaledTable (c : Nat) : List Nat :=
  (List.range 8).map (fun f => (2048 * ltbConst f * (65536 + c) + 2 ^ 38) / 2 ^ 39)

/-- R212: reserved codes, C above 240, addresses outside the store. -/
def ltbFieldBad (c : LtbDesc) : Bool :=
  decide (2 < c.op) || decide (240 < c.c) || !offOk c.dst 16 || (c.op == 1 && !offOk c.src 16)

/-- R94, R212: a COPY whose source record is no table. -/
def ltbCopyBad (d : Device) (k : Nat) (c : LtbDesc) : Bool :=
  c.op == 1 && !tableOk (tableEntries (d.bytes (Device.storeAddr k c.src) 16))

def ltbBad (d : Device) (k seq : Nat) (b : List Byte) : Bool :=
  let c := parseLtb b
  c.seq != seq || !descCrcOk b 32 || ltbFieldBad c || ltbCopyBad d k c

def execTableRingTake (k : Cluster) (hits : Hits) (s : State) : Out :=
  s.runHits hits (fun d =>
    let h0 := d.num 0x7050 9 (k + 1)
    if h0 = 0xFFFFFFFF || (d.clu k).ltb.isSome then d
    else match d.ringTake k h0 1 0 32 24 with
      | (d, none) => d
      | (d, some (r, j)) =>
        let c := parseLtb j.desc
        if ltbBad d k (d.ringSeq k h0 r) j.desc then
          let d := if offOk c.dst 16 then
              (d.put (Device.storeAddr k c.dst) (tableRecord defaultTable)).addNum 0x7050 10 (k + 1) 1
            else d
          (d.ringDone k h0 r c.cnt c.cores).raise 0x2115 0x7050 (k + 1) (Device.storeAddr k j.off) c.seq
        else d.modClu k (fun x => { x with ltb := some j }))

/-- The taken descriptor, when its OP is `op`: the record is written and the descriptor completes. -/
def ltbRun (d : Device) (k op : Nat) (table : Device → LtbDesc → List Nat) : Device :=
  match (d.clu k).ltb with
  | none => d
  | some j =>
    let c := parseLtb j.desc
    if c.op ≠ op then d
    else
      let d := d.put (Device.storeAddr k c.dst) (tableRecord (table d c))
      let d := d.ringDone k (d.num 0x7050 9 (k + 1)) j.ring c.cnt c.cores
      (d.addNum 0x7050 10 (k + 1) 1).modClu k (fun x => { x with ltb := none })

def execLtbDefault (k : Cluster) (s : State) : Out := s.run (fun d => ltbRun d k 0 (fun _ _ => defaultTable))

def execLtbCopy (k : Cluster) (hits : Hits) (s : State) : Out :=
  s.runHits hits (fun d => ltbRun d k 1 (fun d c => tableEntries (d.bytes (Device.storeAddr k c.src) 16)))

def execLtbScaled (k : Cluster) (hits : Hits) (s : State) : Out := s.runHits hits (fun d => ltbRun d k 2 (fun _ c => scaledTable c.c))

end Sys2Proof.Machine
end

