-- ==== Sys2Proof/Machine/RngBank.lean ====
section
/-! DEFINITION. The RNG bank's own work: mask jobs (R233, R234), shadow contexts (R229, R236), refills (R235). -/

namespace Sys2Proof.Machine

/-! ### Mask jobs -/

structure MaskDesc where
  seq : Nat
  handle : W32
  count : Nat
  cnt : Nat
  cores : Nat
  tsid : Nat
  dst : Nat
  dsth : Nat
  deriving DecidableEq, Repr

def parseMask (b : List Byte) : MaskDesc :=
  let f := fieldB b
  { seq := f 0 4, handle := BitVec.ofNat 32 (f 4 4), count := f 8 2, cnt := f 0xA 1, cores := f 0xC 2, tsid := f 0xE 2,
    dst := f 0x10 8, dsth := f 0x18 8 }

/-- R234: what the bank refuses. -/
def maskBad (d : Device) (k seq : Nat) (b : List Byte) : Bool :=
  let c := parseMask b
  c.seq != seq || !descCrcOk b 64 || c.count == 0 || decide (4096 < c.count)
    || (sliceB b 0xB 1 ++ sliceB b 0x20 28).any (· != 0)
    || !offOk c.dst (4096 * c.count) || !offOk c.dsth (16 * c.count)
    || (match d.stream k c.handle with | some e => e.kind != 1 | none => false)

/-- R232: the 32,768 elements of one mask tile: yes where the next 16 bits of the lane are below P. -/
def maskTile (p : Nat) (w : Drawing) : List Nat × Drawing :=
  forN 32768 (([], w) : List Nat × Drawing) (fun acc i =>
    let x := acc.2.take (i % 256) 16
    (acc.1 ++ [b2n (decide (x.1 < p))], x.2))

/-- All tiles of a mask job; zeros everywhere where the handle is absent (R240). -/
def maskRun (d : Device) (k : Nat) (c : MaskDesc) : Device :=
  let h : Hdr := { tsid := c.tsid, fmt := fmtINT, width := 1 }
  let p := match d.stream k c.handle with
    | some e => e.p
    | none => 0
  match d.currentCtx k maskUnit c.handle with
  | (d, none) =>
    forN c.count d (fun d t => d.engPut k (c.dst + 4096 * t) (c.dsth + 16 * t) (List.replicate 4096 0) h)
  | (d, some x) =>
    let r := forN c.count ((d, { ctx := x }) : Device × Drawing) (fun acc t =>
      let m := maskTile p acc.2
      (acc.1.engPut k (c.dst + 4096 * t) (c.dsth + 16 * t) (packElems 1 m.1) h, m.2))
    r.1.endDraw k maskUnit r.2

/-- The bank takes the next mask descriptor and carries it out, or refuses it; a job whose bits are not ready yet waits
(R237). -/
def execMaskJob (k : Cluster) (hits : Hits) (s : State) : Out :=
  s.runHits hits (fun d =>
    let h0 := d.num 0x7060 5 (k + 1)
    if h0 = 0xFFFFFFFF || (d.clu k).mjob.isSome then d
    else match d.ringTake k h0 1 0 64 24 with
      | (d, none) => d
      | (d, some (r, j)) =>
        let c := parseMask j.desc
        if maskBad d k (d.ringSeq k h0 r) j.desc then
          (d.ringDone k h0 r c.cnt c.cores).raise 0x2113 0x7060 (k + 1) (Device.storeAddr k j.off) c.handle.toNat
        else if !d.bitsReady k maskUnit c.handle 16 (fun _ => true) then d.holdDraw k maskUnit c.handle
        else (maskRun d k c).modClu k (fun x => { x with mjob := some { j with worked := true } }))

def execMaskJobDone (k : Cluster) (s : State) : Out :=
  s.run (fun d => match (d.clu k).mjob with
    | some j =>
      let c := parseMask j.desc
      (d.ringDone k (d.num 0x7060 5 (k + 1)) j.ring c.cnt c.cores).modClu k (fun x => { x with mjob := none })
    | none => d)

/-! ### Contexts -/

/-- The handle an engine queue entry draws from. -/
def opHandle (op : EngOp) : Option W32 :=
  match op with
  | .drain f _ _ h .. => if rmodeOf f.rmode.toNat = .sr then some h else none
  | _ => none

namespace Device

/-- The threads of a core in the order in which the scheduler comes to them (R111). -/
def readyInOrder (d : Device) (g : Nat) : List Thread :=
  let c := d.core g
  ((List.range 1024).map (fun i => c.thread ((c.ptr + i) % 1024))).filter (fun x => x.st == .ready)

/-- The next descriptor on a unit's rings, behind the one it has taken, which stays at its ring's DONE until it is completed. -/
def nextDesc (d : Device) (k h0 n first size : Nat) (taken : Option Job) : List (List Byte) :=
  if h0 = 0xFFFFFFFF then []
  else
    let skip (r : Nat) : Nat := match taken with | some j => if j.ring = r then 1 else 0 | none => 0
    (((List.range n).map (fun i => (first + i) % n)).findSome? (fun r =>
      let h := d.ringHdr k (h0 + 64 * r)
      let off := h.base + (h.done + skip r) % h.cap * size
      if accessOk (h0 + 64 * r) 64 && accessOk off size && (h.done + skip r) % 2 ^ 32 != h.tail then
        some (d.bytes (storeAddr k off) size)
      else none)).toList

/-- R229: the handles that the queued work of a drawing unit names, in order: an engine's drains, the handles of a vector unit's
READY threads in scheduler order, the descriptors taken and next on the rings. -/
def queuedHandles (d : Device) (k u : Nat) : List W32 :=
  let cvts := ((d.clu k).cvt.map (·.desc)).toList ++ d.nextDesc k (d.num 0x7050 3 (k + 1)) 4 (d.clu k).cvtNext 128 (d.clu k).cvt
  if u < 128 then ((d.core (16 * k + u / 8)).queue (u % 8)).filterMap opHandle
  else if u < 144 then ((d.readyInOrder (16 * k + (u - 128))).map (·.handle)).filter (fun h => !noStream h)
  else if u = cvtUnit then cvts.map (fun b => (parseCvt b).rstream)
  else if u = rotUnit then cvts.map (fun b => (parseCvt b).sstream)
  else (d.nextDesc k (d.num 0x7060 5 (k + 1)) 1 0 64 (d.clu k).mjob).map (fun b => (parseMask b).handle)

/-- R229, R236: the shadow of the next handle that is not the current one. -/
def prepare (d : Device) (k u : Nat) : Device :=
  let x := d.unitCtx k u
  match (d.queuedHandles k u).find? (fun h => (match x.cur with | some c => c.handle != h | none => true)) with
  | none => d
  | some h =>
    match d.stream k h with
    | none => d
    | some _ =>
      let kept := match x.shadow with | some c => c.handle == h && c.step == d.cad.step | none => false
      if kept then d else d.setUnitCtx k u { x with shadow := some (d.deriveCtx h) }

end Device

def execContextPrepared (k : Cluster) (u : Unit147) (s : State) : Out := s.run (fun d => d.prepare k u)

/-- One word more for each of the row's 16 lanes that holds at most 16 ready bits. -/
def refillRow (c : Ctx) (row : Nat) : Ctx :=
  { c with lanes := c.lanes.zipIdx.map (fun li => if li.2 / 16 = row && li.1.n ≤ 16 then li.1.refill else li.1) }

def execRngRefillGrant (k : Cluster) (u : Unit147) (row : Fin 16) (s : State) : Out :=
  s.run (fun d =>
    let x := d.unitCtx k u
    match x.cur, x.shadow with
    | some c, _ => d.setUnitCtx k u { x with cur := some (refillRow c row) }
    | none, some c => d.setUnitCtx k u { x with shadow := some (refillRow c row) }
    | none, none => d)

end Sys2Proof.Machine
end

