-- ==== Sys2Proof/Machine/PlanReads.lean ====
section
/-! DEFINITION. What the operations of a plan read and write, as the check sees them: ranges of memory, frames, tensors. -/

namespace Sys2Proof.Machine

/-- R261: the operation that an OP code names. -/
def maskOpOf (op : Nat) : Option MaskOp :=
  match op with
  | 0x20 => some .capt
  | 0x21 => some .upd
  | 0x22 => some .apply
  | 0x23 => some .pack
  | 0x24 => some .check
  | _ => none

/-- `n` bytes at an offset of a cluster's store, as a range of addresses. -/
def storeRange (k off n : Nat) : Nat × Nat := (Device.storeAddr k off, n)

namespace PlanView

/-! ### Mask jobs (R261) -/

/-- The mask jobs of the plan: cluster, operation, descriptor, index. -/
def maskJobs (v : PlanView) : List (Nat × MaskOp × MaskJobDesc × Nat) :=
  v.ops.filterMap (fun x => match x.1.work with
    | .maskJob k op b => (maskOpOf op).map (fun m => (k.val, m, parseMaskJob b, x.2))
    | _ => none)

/-- What a mask job writes: masks, candidates, tiles. -/
def maskWrites (v : PlanView) (a : Nat × MaskOp × MaskJobDesc × Nat) : List (Nat × Nat) :=
  let c := a.2.2.1
  let tiles := 4096 * dataTiles (v.d.maskBitsOf a.1 c a.2.1) c.count
  match a.2.1 with
  | .capt => [storeRange a.1 c.cand (1024 * c.count)]
  | .upd => [storeRange a.1 c.mask (512 * c.count)]
  | .pack => [storeRange a.1 c.dst tiles]
  | .apply => [storeRange a.1 c.dst tiles]
  | .check => []

/-- The tiles that a mask job takes at SRC. -/
def maskInput (v : PlanView) (a : Nat × MaskOp × MaskJobDesc × Nat) : List (Nat × Nat) :=
  let c := a.2.2.1
  if a.2.1 = .check then [] else [storeRange a.1 c.src (4096 * dataTiles (v.d.maskBitsOf a.1 c a.2.1) c.count)]

/-- The masks and candidates that a mask job reads. -/
def maskReads (a : Nat × MaskOp × MaskJobDesc × Nat) : List (Nat × Nat) :=
  let c := a.2.2.1
  storeRange a.1 c.mask (512 * c.count) ::
    (if a.2.1 = .upd then [storeRange a.1 c.cand (1024 * c.count)] else [])

/-! ### Memory -/

/-- Ranges of this device (start, bytes) that an operation reads, or writes, outside frames: tile payloads, and what a byte move
and a predictor carry. -/
def readRanges (v : PlanView) (o : PlanOp) : List (Nat × Nat) :=
  match o.work with
  | .move se b => let e := moveDesc b; (List.range e.count).filterMap (fun j => match v.d.srcFrame (.se se) e j with
      | some _ => none
      | none => some ((e.src + j * e.sstride) % 2 ^ 43, 4096))
  | .byteMove _ src _ n => [(src % 2 ^ 43, n)]
  | .coreMove g false off _ _ _ => [storeRange (Device.clusterOf g) off 4096]
  | .convert k b => let c := parseCvt b
    let n (h : Nat) : Nat := 4096 * (v.d.cvtIn k c h).flatten.length
    storeRange k c.x (n c.xh) :: (if c.op = 0 then [] else [storeRange k c.y (n c.yh)])
  | .reduce k b => let c := parseRed b; (c.xs.take c.nin).map (fun x => storeRange k x (4096 * c.tiles))
  | .predict k b => let c := parsePred b; [storeRange k c.x (4096 * (c.mt * c.dt))]
  | .maskJob k op b => ((maskOpOf op).map (fun m => v.maskInput (k.val, m, parseMaskJob b, 0))).getD []
  | _ => []

def writeRanges (v : PlanView) (o : PlanOp) : List (Nat × Nat) :=
  match o.work with
  | .move se b => let e := moveDesc b; (List.range e.count).filterMap (fun j => match v.d.dstFrame (.se se) e j with
      | some _ => none
      | none => some ((e.dst + j * e.dstride) % 2 ^ 43, 4096))
  | .byteMove _ _ dst n => [(dst % 2 ^ 43, n)]
  | .coreMove g true off _ _ _ => [storeRange (Device.clusterOf g) off 4096]
  | .convert k b => let c := parseCvt b; [storeRange k c.z (4096 * (v.d.cvtOut k c).flatten.length)]
  | .reduce k b => let c := parseRed b; [storeRange k c.z (if c.op = 0 then 4096 * v.d.redOutTiles k c else 4)]
  | .maskTiles k b => let c := parseMask b; [storeRange k c.dst (4096 * c.count)]
  | .maskJob k op b => ((maskOpOf op).map (fun m => v.maskWrites (k.val, m, parseMaskJob b, 0))).getD []
  | .predict k b => let c := parsePred b; [storeRange k c.out (0x10 + 2 * c.gmax)]
  | _ => []

/-- Two ranges meet at all. -/
def meetsAny (xs ys : List (Nat × Nat)) : Bool := xs.any (fun x => ys.any (rangesMeet x))

/-! ### Frames -/

/-- The frames that an operation writes, with the sub-block where it is a drain. -/
def frameWrites (v : PlanView) (o : PlanOp) : List ((Nat × Nat) × Option Nat) :=
  (workFills v.d o.work).map (fun x => (x, none)) ++ (match o.work with
    | .drain g _ _ t _ => [((g.val, t.frame), some t.sub)]
    | .vector g _ _ _ _ _ ws => ws.map (fun x => ((g.val, x), none))
    | _ => [])

/-- The operations whose tiles may stand in a frame when operation `i` comes to it: those not after it (a ring may still be filled
while its tiles are read, R159) that no other writer of the frame separates from it. -/
def filledBy (v : PlanView) (fr : Nat × Nat) (i : Nat) : List (PlanOp × Nat) :=
  let ws := v.ops.filter (fun w => w.2 != i && v.together i w.2 && (v.frameWrites w.1).any (fun x => x.1 == fr))
  ws.filter (fun w => !v.before i w.2 && !ws.any (fun x => v.before w.2 x.2 && v.before x.2 i && (workFills v.d x.1.work).contains fr))

/-- The tensor whose tiles a range of memory holds. -/
def tensorsAt (v : PlanView) (r : Nat × Nat) : List Nat :=
  dedupNat (v.f.placements.filterMap (fun p => if rangesMeet r (placeBytes p) then p.tsid else none))

/-- The tensors whose tiles stand in a frame when operation `i` reads it; `n` bounds the frames that a tile passes through. -/
def frameTensors (v : PlanView) : Nat → Nat × Nat → Nat → List Nat
  | 0, _, _ => []
  | n + 1, fr, i => dedupNat ((v.filledBy fr i).flatMap (fun w =>
      (match w.1.work with | .drain _ _ _ t _ => [t.tsid] | _ => []) ++ (v.readRanges w.1).flatMap v.tensorsAt ++
      (match w.1.work with
        | .move .. => (workReads v.d w.1.work).flatMap (fun f => v.frameTensors n f w.2)
        | .pass _ s _ _ => v.frameTensors n s w.2
        | _ => [])))

/-- The addresses of the tiles that stand in a frame when operation `i` reads it. -/
def frameSources (v : PlanView) : Nat → Nat × Nat → Nat → List (Nat × Nat)
  | 0, _, _ => []
  | n + 1, fr, i => (v.filledBy fr i).flatMap (fun w => v.readRanges w.1 ++ (match w.1.work with
      | .move .. => (workReads v.d w.1.work).flatMap (fun f => v.frameSources n f w.2)
      | .pass _ s _ _ => v.frameSources n s w.2
      | _ => []))

/-- The tile addresses of a feed: the first that it names, and those of its tensor that stand in its frames. -/
def feedTiles (v : PlanView) (g : Nat) (x : PlanFeed) (i : Nat) : List Nat :=
  dedupNat (x.src % 2 ^ 43 :: (x.frames.flatMap (fun fr => (v.frameSources 17 (g, fr) i).filterMap (fun r =>
    if (v.tensorsAt r).contains x.tsid then some r.1 else none))))

/-- A tile passes through at most the sixteen members of a carousel. -/
def inFrame (v : PlanView) (fr : Nat × Nat) (i : Nat) : List Nat := v.frameTensors 17 fr i

/-! ### Tensors -/

/-- The tensors whose elements operation `i` reads. -/
def tensorsRead (v : PlanView) (o : PlanOp) (i : Nat) : List Nat :=
  match o.work with
  | .accumulate _ _ a b => [a.tsid, b.tsid]
  | .drain _ _ _ _ (some a) => [a.tsid]
  | _ => dedupNat ((v.readRanges o).flatMap v.tensorsAt ++ (workReads v.d o.work).flatMap (fun fr => v.inFrame fr i))

/-- The tensors whose tiles operation `i` writes. -/
def tensorsWritten (v : PlanView) (o : PlanOp) (i : Nat) : List Nat :=
  match o.work with
  | .drain _ _ _ z _ => [z.tsid]
  | .convert _ b => [(parseCvt b).ztsid]
  | .reduce _ b => let c := parseRed b; if c.op = 0 then [c.ztsid] else []
  | _ => dedupNat ((v.writeRanges o).flatMap v.tensorsAt ++ v.tensorsRead o i)

/-- An operation writes elements under a TSID. -/
def writesTsid (o : PlanOp) (t : Nat) : Bool :=
  match o.work with
  | .drain _ _ _ z _ => z.tsid == t
  | .convert _ b => (parseCvt b).ztsid == t
  | .reduce _ b => let c := parseRed b; c.op == 0 && c.ztsid == t
  | _ => false

end PlanView

end Sys2Proof.Machine
end

