-- ==== Sys2Proof/Machine/CheckCore.lean ====
section
/-! DEFINITION. What the check finds in the operations of engines and threads (R48 to R51, R75, R76, R91, R95, R106, R142). -/

namespace Sys2Proof.Machine

/-! ### Formats (R48 to R51) -/

/-- R48: a forward-path format. -/
def forwardFmt (fmt : Nat) : Bool := [fmtE4M3, fmtE5M10, fmtE2M1, fmtINT, fmtLOG8].contains fmt

/-- R49: a format of a gradient operand. -/
def gradFmt (fmt : Nat) : Bool := [fmtE5M2, fmtE8M7, fmtLOG8].contains fmt

namespace PlanView

/-- R49: a forward product of the plan reads the tensor. -/
def readForward (v : PlanView) (tsid : Nat) : Bool :=
  v.f.ops.any (fun o => (o.part == .forward || o.part == .recompute) && (match o.work with
    | .accumulate _ _ a b => a.tsid == tsid || b.tsid == tsid
    | _ => false))

/-- 0xA032: a forward product with an operand of another path; a backward product that is not a gradient operand and the forward
copy of the other. -/
def pathBad (v : PlanView) (o : PlanOp) : Bool :=
  match o.work with
  | .accumulate _ f a b =>
    let fa := f.fmtA.toNat
    let fb := f.fmtB.toNat
    if o.part = .dataGrad ∨ o.part = .weightGrad then
      !((gradFmt fa && forwardFmt fb && v.readForward b.tsid) || (gradFmt fb && forwardFmt fa && v.readForward a.tsid))
    else if o.part = .forward ∨ o.part = .recompute ∨ o.part = .eval then !(forwardFmt fa && forwardFmt fb)
    else false
  | _ => false

/-- 0xA033: a pair that the mode does not accept. -/
def pairBad (o : PlanOp) : Bool :=
  match o.work with
  | .accumulate _ f _ _ => !(modeAccepts f.mode.toNat f.fmtA.toNat && modeAccepts f.mode.toNat f.fmtB.toNat)
  | _ => false

/-- 0xA034: a zero point in bit-plane mode. -/
def zeroPointBad (v : PlanView) (o : PlanOp) : Bool :=
  match o.work with
  | .accumulate g f a b =>
    let z (t : Nat) : Bool := (v.d.line (Device.clusterOf g) t).zpen
    f.mode.toNat == 2 && (z a.tsid || z b.tsid)
  | _ => false

/-- R91, 0xA035: the blocks of a bit-plane operand run along the reduction axis: along the rows of A as it is fed, and along the
columns of B. -/
def axisBad (v : PlanView) (o : PlanOp) : Bool :=
  match o.work with
  | .accumulate g f a b =>
    let bad (x : PlanFeed) (isA : Bool) : Bool :=
      let l := v.d.line (Device.clusterOf g) x.tsid
      l.blocked && l.baxis == (isA != x.trans)
    f.mode.toNat == 2 && (bad a true || bad b false)
  | _ => false

/-- 0xA031: a tensor with a reserved format or width, or with FMT 0x00 although an operation reads it. WIDTH 0 is no width of its own
for an INTn tensor whose tiles take theirs from a width map (R218; DESIGN CHOICE, log entry 85). -/
def tensorFmtBad (v : PlanView) (t : PlanTensor) : Bool :=
  let mapped := v.f.ops.any (fun o => match o.work with
    | .convert _ b => let c := parseCvt b; c.ztsid == t.tsid && c.fmto == fmtINT && c.widtho == 0
    | _ => false)
  if t.fmt = fmtINT ∧ t.width = 0 then !mapped
  else fmtBad t.fmt t.width false || (t.fmt == 0 && v.ops.any (fun x => (v.tensorsRead x.1 x.2).contains t.tsid))

/-! ### Slots (R75 to R77, R142) -/

/-- R76: the bound of an operand as the tables of the plan give it. A zero point has the element's signedness (log entry 37). -/
def feedBound (v : PlanView) (g fmt width : Nat) (x : PlanFeed) : Dy :=
  let l := v.d.line (Device.clusterOf g) x.tsid
  let signed := match v.tensor x.tsid with
    | some t => !t.isUnsigned
    | none => true
  bound fmt width { bsi := if l.blocked then 0 else 0xFFFFFFFF, signA := signed, signB := signed } l

/-- R76: an accumulate opens, or adds to, a slot of the E8M7 block form. -/
def blockForm (v : PlanView) (g : Nat) (f : AccFields) (a b : PlanFeed) : Bool :=
  let fa := f.fmtA.toNat
  let fb := f.fmtB.toNat
  isBlock fa fb (v.feedBound g fa f.widthA.toNat a) (v.feedBound g fb f.widthB.toNat b)

/-- The slots that a form uses. -/
def slotSpan (block : Bool) (s : Nat) : List Nat := if block then [s, s + 1, s + 2, s + 3] else [s]

/-- A slot's lifetime: where, in which form, and of which tensors it was opened. -/
structure SlotLife where
  core : Nat
  eng : Nat
  slot : Nat
  block : Bool
  ta : Nat
  tb : Nat

/-- One operation on the slots that are open, in issue order: whether it breaks R75, and the slots open after it. -/
def slotStep (v : PlanView) (open_ : List SlotLife) (o : PlanOp) : Bool × List SlotLife :=
  match o.work with
  | .accumulate g f a b =>
    let bl := v.blockForm g f a b
    let me : SlotLife := { core := g, eng := f.eng, slot := f.slot, block := bl, ta := a.tsid, tb := b.tsid }
    let here (x : SlotLife) : Bool := x.core == g.val && x.eng == f.eng.val
    let meets (x : SlotLife) : Bool := here x && (slotSpan x.block x.slot).any (fun s => (slotSpan bl f.slot).contains s)
    let clash := open_.any (fun x => meets x && x.block != bl)
    if f.init then
      (clash || open_.any (fun x => here x && x.slot == f.slot.val && !(x.ta == a.tsid && x.tb == b.tsid)), open_)
    else (clash, me :: open_.filter (fun x => !(here x && x.slot == f.slot.val)))
  | .drain g f .. =>
    (false, if f.clear then open_.filter (fun x => !(x.core == g.val && x.eng == f.eng.val && x.slot == f.slot.val)) else open_)
  | _ => (false, open_)

/-- R75, 0xA036: a field that its mode does not have, a slot that the E8M7 block form cannot start at. -/
def accBad (v : PlanView) (o : PlanOp) : Bool :=
  match o.work with
  | .accumulate g f a b => accWordBad f || (v.blockForm g f a b && f.slot.val % 4 != 0)
  | _ => false

/-- R75, 0xA036: the operations of one kind of step, in issue order, that mix forms or tensors in a slot lifetime. -/
def slotBreaks (v : PlanView) : List PlanBreak :=
  v.orders.flatMap (fun r =>
    (r.sel.foldl (fun (acc : List PlanBreak × List SlotLife) i => match v.op? i with
      | some o =>
        let x := v.slotStep acc.2 o
        (if x.1 then acc.1 ++ [brk 0xA036 13 i] else acc.1, x.2)
      | none => acc) ([], [])).1)

/-- The engine and slots that an operation uses. -/
def slotsOf (v : PlanView) (o : PlanOp) : Option (Nat × Nat × List Nat) :=
  match o.work with
  | .accumulate g f a b => some (g, f.eng, slotSpan (v.blockForm g f a b) f.slot)
  | .drain g f .. => some (g, f.eng, [f.slot.val])
  | _ => none

/-- R142, 0xA03A: two threads use one engine slot, and nothing but the engine's queue puts them in order. -/
def slotShared (v : PlanView) (o : PlanOp) (i : Nat) : Bool :=
  match v.slotsOf o with
  | none => false
  | some (g, e, ss) => v.ops.any (fun y =>
      decide (y.2 < i) && v.together i y.2 && y.1.thread != o.thread && (match v.slotsOf y.1 with
        | some (g', e', ss') => g == g' && e == e' && ss.any (fun s => ss'.contains s)
        | none => false) && !v.before y.2 i true && !v.before i y.2 true)

/-- R106, R142, 0xA03A: a frame is released while a later operation still reads it: one that is not done by then and that no new
tile in the frame separates from the release. -/
def earlyRelease (v : PlanView) (o : PlanOp) (i : Nat) : Bool :=
  (workReleases v.d o.work).any (fun fr => v.ops.any (fun r =>
    r.2 != i && v.together i r.2 && (workReads v.d r.1.work).contains fr && !v.before r.2 i &&
    !v.ops.any (fun m => (workFills v.d m.1.work).contains fr && v.before i m.2 && v.before m.2 r.2)))

/-! ### Tables and threads -/

/-- R95, 0xA037: a table load takes a record that the plan itself placed and that breaks R94. -/
def loadedTableBad (v : PlanView) (o : PlanOp) : Bool :=
  match o.work with
  | .table g _ off =>
    let a := Device.storeAddr (Device.clusterOf g) off
    v.f.stores.any (fun b => decide (b.addr ≤ a) && decide (a + 16 ≤ b.addr + b.data.length)) &&
      !tableOk (tableEntries (v.d.bytes a 16))
  | _ => false

/-- The cores that have operations. -/
def cores (v : PlanView) : List Nat := dedupNat (v.f.ops.filterMap (fun o => workCore o.work))

/-- R142, 0xA039: more than 1,024 threads or 64 launch groups of a core that can be live at once. -/
def threadBreaks (v : PlanView) : List PlanBreak :=
  v.cores.filterMap (fun g =>
    if 1024 < v.liveAtOnce g (·.thread) || 64 < v.liveAtOnce g (·.group) then some (brk 0xA039 10 g) else none)

/-- R142, 0xA03B: more than 4 lists attached to a core. -/
def listCount (v : PlanView) : List PlanBreak :=
  v.f.numbers.zipIdx.filterMap (fun x => if x.1.1 = 0x7021 ∧ 4 < x.1.2.1 then some (brk 0xA03B 10 x.2) else none)

/-- What stands in the operations of engines and threads. -/
def coreBreaks (v : PlanView) : List PlanBreak :=
  breaksOf v.f.tensors 0xA031 4 v.tensorFmtBad ++
  v.breaks 0xA032 13 (fun o _ => v.pathBad o) ++ v.breaks 0xA033 13 (fun o _ => pairBad o) ++
  v.breaks 0xA034 13 (fun o _ => v.zeroPointBad o) ++ v.breaks 0xA035 13 (fun o _ => v.axisBad o) ++
  v.breaks 0xA036 13 (fun o _ => v.accBad o) ++ v.slotBreaks ++ v.breaks 0xA037 13 (fun o _ => v.loadedTableBad o) ++
  v.threadBreaks ++ v.breaks 0xA03A 13 v.slotShared ++ v.breaks 0xA03A 13 v.earlyRelease ++ v.listCount

end PlanView

end Sys2Proof.Machine
end

