-- ==== Sys2Proof/Machine/CheckScale.lean ====
section
/-! DEFINITION. What the check finds of frames and moves (R176), scales, converters and reductions (R181 to R220). -/

namespace Sys2Proof.Machine

namespace PlanView

/-! ### Frames and moves (R176) -/

/-- 0xA03E: a placement off its alignment, or a header array that overlaps payloads. -/
def placementBad (f : PlanFacts) (p : PlanPlacement) : Bool :=
  (p.tile != 4096 && p.tile != 512) || (p.tile == 4096 && (p.payload % 4096 != 0 || p.header % 16 != 0)) ||
  f.placements.any (fun q => (placeHdrs p).any (rangesMeet (placeBytes q)))

/-- Two writers that may not be unordered: drains of different sub-blocks of a frame write one tile together (DEDUCED, log entry 40). -/
def writersMeet (a b : (Nat × Nat) × Option Nat) : Bool :=
  a.1 == b.1 && (match a.2, b.2 with | some x, some y => x == y | _, _ => true)

/-- 0xA03E: an unordered second writer of a frame. -/
def writerClash (v : PlanView) (o : PlanOp) (i : Nat) : Bool :=
  (v.frameWrites o).any (fun w => v.ops.any (fun y => decide (y.2 < i) && v.together i y.2 && !v.before i y.2 && !v.before y.2 i &&
    (v.frameWrites y.1).any (writersMeet w)))

/-- R29, R30: a byte range that a stream engine may not reach, here or at a peer. -/
def seReachBad (v : PlanView) (se a n : Nat) : Bool :=
  match v.d.resolve a with
  | .here low => !v.d.seReach (se / 4) low n
  | .remote _ low => !v.d.peerReach low n
  | _ => true

/-- R29, R30, R157: what an operation's descriptor may not name. -/
def reachBad (v : PlanView) (o : PlanOp) : Bool :=
  match o.work with
  | .move se b =>
    let e := moveDesc b
    (List.range e.count).any (fun j =>
      let src := e.src + j * e.sstride
      let dst := e.dst + j * e.dstride
      (match v.d.srcFrame (.se se) e j with
        | some _ => false
        | none => src % 4096 != 0 || v.seReachBad se src 4096 || (e.srch + 16 * j * e.sstride / 4096) % 16 != 0 ||
            v.seReachBad se (e.srch + 16 * j * e.sstride / 4096) 16) ||
      (match v.d.dstFrame (.se se) e j with
        | some _ => false
        | none => dst % 4096 != 0 || v.seReachBad se dst 4096 || (e.dsth + 16 * j * e.dstride / 4096) % 16 != 0 ||
            v.seReachBad se (e.dsth + 16 * j * e.dstride / 4096) 16))
  | .byteMove se src dst n => v.seReachBad se src n || v.seReachBad se dst n
  | .coreMove _ _ off fr _ _ => off % 4096 != 0 || decide (0x1000000 < off + 4096) || decide (240 ≤ fr)
  | .convert k b => v.d.cvtReachBad k (parseCvt b)
  | .reduce k b => v.d.redReachBad k (parseRed b)
  | .buildTable _ b => let c := parseLtb b; !offOk c.dst 16 || (c.op == 1 && !offOk c.src 16)
  | _ => false

/-- R158, 0xA03E: a queue entry waits on a frame whose release depends on a later entry of its queue: a frame that an earlier
operation filled, or one of its own ring that it fills again (COUNT above DRING) and that must be free by then. -/
def queueStuck (v : PlanView) (o : PlanOp) (i : Nat) : Bool :=
  let fills := workFills v.d o.work
  let later := (v.ops.filter (fun x => decide (i < x.2) && x.1.resource == o.resource && v.together i x.2)).map (·.2)
  let late (x : Nat) : Bool := later.any (fun y => y == x || v.before y x)
  fills.any (fun fr =>
    let rels := (v.ops.filter (fun x => v.together i x.2 && (workReleases v.d x.1.work).contains fr)).map (·.2)
    (v.ops.any (fun a => (workFills v.d a.1.work).contains fr && v.before a.2 i &&
      !rels.any (fun x => (v.before a.2 x) && v.before x i)) && rels.any late) ||
    (((rels.filter (fun x => !v.before x i)).take (fills.count fr - 1)).any late))

/-- R164: the initial loads of a carousel: before any of its passes, tile k of each member's share into frame b + k, once. -/
def initialLoad (v : PlanView) (c : PlanCarousel) (i : Nat) (x : Nat × Nat) : Bool :=
  decide (x.2 < c.base + c.share) &&
  v.ops.all (fun y => match y.1.work with
    | .pass _ s t _ => !(s.1 == x.1 || t.1 == x.1) || !v.together i y.2 || v.before i y.2
    | .move .. => decide (i ≤ y.2) || !v.together i y.2 || !(workFills v.d y.1.work).contains x
    | _ => true)

/-- R176, 0xA03C: other work writes a carousel's frames: anything but its passes and its initial loads. -/
def carouselShared (v : PlanView) (c : PlanCarousel) : Bool :=
  let mine (x : Nat × Nat) : Bool := c.members.any (fun m => x.1 == 16 * c.cluster + m) && decide (c.base ≤ x.2) &&
    decide (x.2 ≤ c.base + c.share)
  v.ops.any (fun o => match o.1.work with
    | .move .. => (workFills v.d o.1.work).any (fun x => mine x && !v.initialLoad c o.2 x)
    | .pass .. => false
    | _ => (v.frameWrites o.1).any (fun w => mine w.1))

/-! ### Records (R181, R183, R188, R213, R220) -/

/-- The clusters with a scale table, and their entries. -/
def records (v : PlanView) : List (Nat × Nat) :=
  (List.range 96).flatMap (fun k => match planNum v.f 0x7050 2 (k + 1) with
    | some n => (List.range n).map (fun t => (k, t))
    | none => [])

/-- R181: a format that takes block scales; R213: one that takes escapes. -/
def blockFmt (fmt width : Nat) : Bool :=
  [fmtE4M3, fmtE5M2, fmtE8M7, fmtE5M10, fmtE2M1, fmtLOG8].contains fmt || (fmt == fmtINT && decide (3 ≤ width) && decide (width ≤ 8))
def escFmt (fmt width : Nat) : Bool :=
  [fmtE4M3, fmtE5M2, fmtE2M1].contains fmt || (fmt == fmtINT && decide (3 ≤ width) && decide (width ≤ 8))

/-- 0xA041: block scales or escapes on a tensor that does not take them. -/
def blockedBad (v : PlanView) (kt : Nat × Nat) : Bool :=
  let l := v.d.line kt.1 kt.2
  let t := v.tensor kt.2
  let fmt := (t.map (·.fmt)).getD l.fmt
  let width := (t.map (·.width)).getD 8
  (l.blocked && !blockFmt fmt width) || (l.esc && !(l.blocked && escFmt fmt width))

/-- The TSIDs that an operation names in its cluster's table. -/
def tsidsOf (o : PlanOp) : List (Nat × Nat) :=
  match o.work with
  | .accumulate g _ a b => [(Device.clusterOf g, a.tsid), (Device.clusterOf g, b.tsid)]
  | .drain g _ _ t add => (Device.clusterOf g, t.tsid) :: add.toList.map (fun a => (Device.clusterOf g, a.tsid))
  | .convert k b => [(k.val, (parseCvt b).ztsid)]
  | .reduce k b => let c := parseRed b; if c.op = 0 && c.ztsid != 0xFFFF then [(k.val, c.ztsid)] else []
  | .publish k t => [(k.val, t)]
  | .clearLine k t => [(k.val, t)]
  | _ => []

/-- R220, 0xA03F: a TSID at or beyond TCOUNT. -/
def tsidBad (v : PlanView) (o : PlanOp) : Bool :=
  (tsidsOf o).any (fun x => decide (v.d.num 0x7050 2 (x.1 + 1) ≤ x.2))

/-- An address is another device's. -/
def isFar (v : PlanView) (a : Nat) : Bool := match v.d.resolve a with | .remote .. => true | _ => false

/-- An operation takes what it moves from another device, or brings it there. -/
def fromFar (v : PlanView) (o : PlanOp) : Bool :=
  match o.work with
  | .move se b => let e := moveDesc b; (List.range e.count).any (fun j => (v.d.srcFrame (.se se) e j).isNone && v.isFar (e.src + j * e.sstride))
  | .byteMove _ src _ _ => v.isFar src
  | _ => false

def toFar (v : PlanView) (o : PlanOp) : Bool :=
  match o.work with
  | .move se b => let e := moveDesc b; (List.range e.count).any (fun j => (v.d.dstFrame (.se se) e j).isNone && v.isFar (e.dst + j * e.dstride))
  | .byteMove _ _ dst _ => v.isFar dst
  | _ => false

/-- R213: the tensor is escape-carrying in any cluster's table. -/
def isEsc (v : PlanView) (t : Nat) : Bool := v.records.any (fun kt => kt.2 == t && (v.d.line kt.1 t).esc)

/-- R188, R213, 0xA041: a drain into a BLOCKED or ESC tensor, a read of one, an addend too, on a core without the scaled layout
(R186), an escape tensor read in another mode, sent off the device or brought from another. -/
def scaledUseBad (v : PlanView) (o : PlanOp) (i : Nat) : Bool :=
  let marked (k t : Nat) : Bool := (v.d.line k t).blocked || (v.d.line k t).esc
  let brought (g : Nat) (fs : List Nat) : Bool := fs.any (fun fr => (v.filledBy (g, fr) i).any (fun w => v.fromFar w.1))
  match o.work with
  | .drain g _ _ t add =>
    let k := Device.clusterOf g
    marked k t.tsid || add.toList.any (fun a => (marked k a.tsid && !v.f.scaledCores.contains g.val) ||
      ((v.d.line k a.tsid).esc && brought g [a.frame]))
  | .accumulate g f a b =>
    let k := Device.clusterOf g
    ((marked k a.tsid || marked k b.tsid) && !v.f.scaledCores.contains g.val) ||
      (((v.d.line k a.tsid).esc || (v.d.line k b.tsid).esc) && f.mode.toNat != 0) ||
      ((v.d.line k a.tsid).esc && brought g a.frames) || ((v.d.line k b.tsid).esc && brought g b.frames)
  | _ => (v.toFar o && (v.tensorsRead o i).any v.isEsc) ||
      (v.fromFar o && (v.writeRanges o).any (fun r => (v.tensorsAt r).any v.isEsc))

/-- The fills that bring escape-carrying tiles into frames of a core, by a move, a load or a carousel pass: (operation, frame). -/
def escFills (v : PlanView) (g : Nat) : List (Nat × (Nat × Nat)) :=
  v.ops.flatMap (fun x =>
    let fs := (dedupPairs (workFills v.d x.1.work)).filter (fun y => y.1 == g)
    match x.1.work with
    | .drain .. => []
    | _ => if !fs.isEmpty && (v.tensorsRead x.1 x.2).any (fun t => (v.d.line (g / 16) t).esc) then fs.map (fun y => (x.2, y)) else [])
where
  /-- each pair once -/
  dedupPairs (l : List (Nat × Nat)) : List (Nat × Nat) := l.foldl (fun r x => if r.contains x then r else r ++ [x]) []

/-- R215: the most frames of a core that can hold escape-carrying tiles at one moment: a tile is gone before the next comes into
its frame, or after its frame's release. -/
def escFrames (v : PlanView) (g : Nat) : Nat :=
  let fs := v.escFills g
  mostAtOnce fs.length (fun a b =>
    let x := fs.getD a (0, (0, 0))
    let y := fs.getD b (0, (0, 0))
    (x.2 == y.2 && decide (a < b)) ||
    v.ops.any (fun r => (workReleases v.d r.1.work).contains x.2 && v.before x.1 r.2 && v.before r.2 y.1))

/-- R215, 0xA041: three units for each such frame, 32 at most. -/
def sidePoolBreaks (v : PlanView) : List PlanBreak :=
  v.f.scaledCores.zipIdx.filterMap (fun x => if 32 < 3 * v.escFrames x.1 then some (brk 0xA041 9 x.2) else none)

/-! ### Publication (R193) -/

/-- R184: the gather slots of a record at its home: first address and bytes. -/
def gatherRange (v : PlanView) (k t : Nat) : Nat × Nat :=
  let w := v.d.load (Device.storeAddr k (v.d.lineOff k t + 64 + 0x14)) 4
  (Device.storeAddr k (bitsOf w 23 0), 64 * bitsOf w 30 24)

/-- R190: a publication of the record can move its scale. -/
def canMove (v : PlanView) (k t : Nat) : Bool :=
  let l := v.d.line k t
  l.policy == 2 || (l.policy == 1 && decide (0 < l.win))

/-- R193, 0xA040: a gather not before the home's SPUB, a copy not after it, or a publication that moves the scale between a write
and a read of what it wrote, in this step or, where nothing of the step comes first, the next. -/
def publishBad (v : PlanView) (o : PlanOp) (i : Nat) : Bool :=
  match o.work with
  | .publish k t =>
    let g := v.gatherRange k t
    let line := (Device.storeAddr k (v.d.lineOff k t), 64)
    let moves (test : Nat → Nat → Nat → Bool) (ok : Nat → Bool) : Bool := v.ops.any (fun x => match x.1.work with
      | .byteMove _ src dst n => v.together i x.2 && test src dst n && !ok x.2
      | _ => false)
    let ws := (v.ops.filter (fun x => writesTsid x.1 t)).map (·.2)
    let rs := (v.ops.filter (fun x => (v.tensorsRead x.1 x.2).contains t)).map (·.2)
    moves (fun _ dst n => rangesMeet (dst, n) g) (fun x => v.before x i) ||
    moves (fun src _ n => rangesMeet (src, n) line) (fun x => v.before i x) ||
    (v.canMove k t && rs.any (fun r =>
      let mine := ws.filter (fun w => v.before w r)
      if mine.isEmpty then ws.any (fun w => !(v.before i w && v.before r i))
      else mine.any (fun w => !v.before i w && !v.before r i)))
  | _ => false

/-! ### Descriptors (R198 to R214, R218) -/

/-- A binary32 word that is an infinity or a NaN. -/
def b32NonFinite (x : Nat) : Bool := bitsOf x 30 23 == 255

/-- R199: the tiles of every operand fill its units. -/
def unitsFilled (c : CvtDesc) (u : List (List TileAt)) : Bool :=
  u.flatten.all (fun t => decide (t.col + tileCols t.cb ≤ 64 * c.uc))

/-- R204: elements of a rotation vector. -/
def rotLen (rot : Nat) : Nat := if rot = 1 then 16 else if rot = 2 then 64 else if rot = 3 then 256 else 1

/-- R204: a product reads the tensor along another axis than `raxis`: along rows for A as it is stored, along columns for B. -/
def offAxis (v : PlanView) (t : Nat) (raxis : Bool) : Bool :=
  v.f.ops.any (fun o => match o.work with
    | .accumulate _ _ a b => (a.tsid == t && raxis != a.trans) || (b.tsid == t && raxis == b.trans)
    | _ => false)

/-- R204, R205: how a tensor was rotated when it was written: n and sign stream. -/
def rotationOf (v : PlanView) (t : Nat) : Option (Nat × W32 × Nat) :=
  (v.f.ops.findSome? (fun o => match o.work with
    | .convert k b => let c := parseCvt b
      if c.ztsid = t ∧ c.rot ≠ 0 ∧ !c.inv then some (rotLen c.rot, c.sstream, k.val) else none
    | _ => none))

/-- R205, R228: the sign stream allows a second opening. -/
def isReplayed (v : PlanView) (r : Nat × W32 × Nat) : Bool :=
  match v.d.stream r.2.2 r.2.1 with
  | some e => decide (2 ≤ e.uses)
  | none => false

/-- R205, 0xA042: the operands of a product are rotated differently, or by a sign stream that is no replay. -/
def productRotBad (v : PlanView) (o : PlanOp) : Bool :=
  match o.work with
  | .accumulate _ _ a b =>
    match v.rotationOf a.tsid, v.rotationOf b.tsid with
    | none, none => false
    | some x, some y => x.1 != y.1 || x.2.1 != y.2.1 || !v.isReplayed x || !v.isReplayed y
    | _, _ => true
  | _ => false

/-- 0xA042: a conversion descriptor. -/
def cvtPlanBad (v : PlanView) (k : Nat) (c : CvtDesc) : Bool :=
  let out := v.d.cvtOut k c
  let n := rotLen c.rot
  Device.cvtCodeBad c || !unitsFilled c out || !unitsFilled c (v.d.cvtIn k c c.xh) || (c.op != 0 && !unitsFilled c (v.d.cvtIn k c c.yh)) ||
  (64 * (if c.raxis then c.ur else c.uc)) % n != 0 || (c.rot != 0 && v.offAxis c.ztsid c.raxis) ||
  b32NonFinite c.alpha || b32NonFinite c.beta ||
  (c.fmto == fmtINT && c.widtho == 0 && (List.range out.flatten.length).any (fun t =>
    let w := v.d.load (Device.storeAddr k (c.wmap + t)) 1
    w == 0 || decide (8 < w)))

/-- E8M7 bits of a power of two. -/
def isPow2Scale (s : Nat) : Bool := (s % 128 == 0 && decide (1 ≤ s / 128) && decide (s / 128 < 255)) || [1, 2, 4, 8, 16, 32, 64].contains s

/-- 0xA042: a reduction descriptor that breaks R207 or R208. -/
def redPlanBad (v : PlanView) (k : Nat) (b : List Byte) : Bool :=
  let c := parseRed b
  let l := v.d.line k c.ztsid
  !descCrcOk b 128 || Device.redCodeBad c || v.d.redReachBad k c ||
  (List.range 8).any (fun i => decide (c.nin ≤ i) && (c.xs.getD i 0 != 0 || c.xhs.getD i 0 != 0)) ||
  (List.range c.nin).any (fun i => (List.range c.tiles).any (v.d.redTileBad k c i)) ||
  (c.op == 0 && c.ztsid != 0xFFFF && !(l.ok && l.policy == 0 && isPow2Scale l.s))

def descBad (v : PlanView) (o : PlanOp) : Bool :=
  match o.work with
  | .convert k b => !descCrcOk b 128 || v.cvtPlanBad k (parseCvt b)
  | .reduce k b => v.redPlanBad k b
  | .buildTable _ b => !descCrcOk b 32 || ltbFieldBad (parseLtb b)
  | _ => false

/-- R212, 0xA037: a COPY of a record that breaks R94. -/
def copiedTableBad (v : PlanView) (o : PlanOp) : Bool :=
  match o.work with
  | .buildTable k b => ltbCopyBad v.d k (parseLtb b)
  | _ => false

/-! ### The fallback reserve (R214) -/

/-- Sub-blocks of 256 elements that a conversion writes. -/
def cvtSubs (c : CvtDesc) : Nat := c.units * (64 * c.ur) * (64 * c.uc) / 256

/-- R214: the sub-blocks of a tensor that a cluster's descriptors write, in the kind of step where they write most. -/
def subBlocks (f : PlanFacts) (k t : Nat) : Nat :=
  ((List.range 4).map (fun kind => ((f.ops.filterMap (fun o => match o.work with
    | .convert k' b => let c := parseCvt b; if k'.val = k ∧ c.ztsid = t ∧ ofKind o kind then some (cvtSubs c) else none
    | _ => none)).sum))).foldl max 0

/-- R214: slots of a reserve: the sub-blocks that its cluster writes, times the fraction, rounded up. -/
def reserveSlots (d : Device) (f : PlanFacts) (r : PlanReserve) : Nat :=
  let n := 2 ^ d.num 0x1910 5
  (subBlocks f r.cluster r.tsid + n - 1) / n

/-- 0xA043: a fraction out of range, a reserve outside its cluster's store. -/
def reserveBad (v : PlanView) (r : PlanReserve) : Bool :=
  let lg := v.d.num 0x1910 5
  decide (lg < 2) || decide (8 < lg) || decide (r.base < Device.storeAddr r.cluster 0) ||
    decide (Device.storeAddr r.cluster 0 + 0x1000000 < r.base + 512 * reserveSlots v.d v.f r)

/-- R214: operation `r` reads earlier contents of a tensor after the rewrite has begun with operation `w0`: from memory that a
rewriting descriptor of `ws` writes and that it does not follow, or from a frame that was filled before. -/
def staleRead (v : PlanView) (t w0 : Nat) (ws : List Nat) (r : PlanOp × Nat) : Bool :=
  let stale (f : PlanOp × Nat) : Bool :=
    let rs := v.readRanges f.1
    (v.tensorsRead f.1 f.2).contains t && (v.before f.2 w0 ||
      ws.any (fun w => !v.before w f.2 && ((v.op? w).map (fun o => meetsAny rs (v.writeRanges o))).getD false))
  v.together r.2 w0 && !v.before r.2 w0 && (v.tensorsRead r.1 r.2).contains t &&
    (ws.any (fun w => !v.before w r.2 && ((v.op? w).map (fun o => meetsAny (v.readRanges r.1) (v.writeRanges o))).getD false) ||
      (workReads v.d r.1.work).any (fun fr => (v.filledBy fr r.2).any stale))

/-- R214, 0xA043: the first descriptor of a cluster that rewrites an ESC tensor in a step, and no other, has FIRST; the step
rewrites the tensor in full, no tile twice; what reads it is over before that descriptor begins, or reads what the step wrote. -/
def rewriteBad (v : PlanView) (kt : Nat × Nat) : Bool :=
  let k := kt.1
  let t := kt.2
  let writers (all : Bool) : List (CvtDesc × Nat) := v.ops.filterMap (fun x => match x.1.work with
    | .convert k' b => let c := parseCvt b; if c.ztsid = t ∧ (all || k'.val == k) then some (c, x.2) else none
    | _ => none)
  if !(v.d.line k t).esc then false
  else match writers false with
    | [] => false
    | w :: ws =>
      !w.1.first || ws.any (fun x => x.1.first || !v.before w.2 x.2) ||
      (match v.tensor t with
        | some x => x.rows * x.cols / 256 != ((writers true).map (fun w => cvtSubs w.1)).sum
        | none => false) ||
      (writers true).any (fun x => (writers true).any (fun y => decide (x.2 < y.2) && v.together x.2 y.2 &&
        ((v.op? x.2).bind (fun a => (v.op? y.2).map (fun b => meetsAny (v.writeRanges a) (v.writeRanges b)))).getD false)) ||
      v.ops.any (v.staleRead t w.2 ((w :: ws).map (·.2)))

/-- What stands in moves, scales and descriptors. -/
def scaleBreaks (v : PlanView) : List PlanBreak :=
  breaksOf v.f.carousels 0xA03C 9 v.carouselShared ++ breaksOf v.f.placements 0xA03E 5 (placementBad v.f) ++
  v.breaks 0xA03E 13 v.writerClash ++ v.breaks 0xA03E 13 (fun o _ => v.reachBad o) ++ v.breaks 0xA03E 13 v.queueStuck ++
  v.breaks 0xA03F 13 (fun o _ => v.tsidBad o) ++ v.breaks 0xA040 13 v.publishBad ++
  breaksOf v.records 0xA041 12 v.blockedBad ++ v.breaks 0xA041 13 v.scaledUseBad ++ v.sidePoolBreaks ++
  v.breaks 0xA042 13 (fun o _ => v.descBad o) ++ v.breaks 0xA042 13 (fun o _ => v.productRotBad o) ++
  v.breaks 0xA037 13 (fun o _ => v.copiedTableBad o) ++
  breaksOf v.f.reserves 0xA043 5 v.reserveBad ++ breaksOf v.records 0xA043 13 v.rewriteBad

end PlanView

end Sys2Proof.Machine
end

