-- ==== Sys2Proof/Machine/CheckDraws.lean ====
section
/-! DEFINITION. What the check finds of random bits (R239): openings, replays, order, handles. -/

namespace Sys2Proof.Machine

/-- A use of random bits by an operation: drawing unit, handle, and the KIND that its handle must have (R228). -/
structure PlanDraw where
  cluster : Nat
  unit : Nat
  handle : W32
  kind : Nat
  deriving DecidableEq, Repr

/-- R229: the drawing unit of an engine, and of a vector unit, of core `g`. -/
def engDraw (g e : Nat) (h : W32) : PlanDraw :=
  { cluster := Device.clusterOf g, unit := engUnit (g % 16) e, handle := h, kind := 0 }
def vecDraw (g : Nat) (h : W32) : PlanDraw := { cluster := Device.clusterOf g, unit := vecUnit (g % 16), handle := h, kind := 0 }

/-- R229: what an operation draws. -/
def workDraws (w : OpWork) : List PlanDraw :=
  match w with
  | .drain g f h _ _ => if rmodeOf f.rmode.toNat = .sr then [engDraw g f.eng h] else []
  | .vector g _ f h _ _ _ => if rmodeOf f.rmode.toNat = .sr then [vecDraw g h] else []
  | .convert k b =>
    let c := parseCvt b
    (if rmodeOf c.rmode = .sr then [{ cluster := k, unit := cvtUnit, handle := c.rstream, kind := 0 }] else []) ++
    (if c.rot = 0 then [] else [{ cluster := k, unit := rotUnit, handle := c.sstream, kind := 2 }])
  | .maskTiles k b => [{ cluster := k, unit := maskUnit, handle := (parseMask b).handle, kind := 1 }]
  | _ => []

namespace PlanView

/-- The draws of one kind of step in issue order, each with its operation. -/
def draws (v : PlanView) (r : PlanOrder) : List (PlanDraw × Nat) :=
  r.sel.flatMap (fun i => match v.op? i with
    | some o => (workDraws o.work).map (fun x => (x, i))
    | none => [])

/-- R229: the openings of a step: in each unit, the draws that follow one another under one handle share one. -/
def openings (v : PlanView) (r : PlanOrder) : List (List (PlanDraw × Nat)) :=
  (v.draws r).foldl (fun acc x =>
    let same (g : List (PlanDraw × Nat)) : Bool := match g.head? with
      | some y => y.1.cluster == x.1.cluster && y.1.unit == x.1.unit
      | none => false
    match (acc.reverse.findIdx? same) with
    | some j =>
      let n := acc.length - 1 - j
      let g := acc.getD n []
      if (g.head?.map (fun y => y.1.handle)) = some x.1.handle then acc.set n (g ++ [x]) else acc ++ [[x]]
    | none => acc ++ [[x]]) []

/-- The handle and cluster of an opening. -/
def openingOf (g : List (PlanDraw × Nat)) : Option (Nat × W32) := g.head?.map (fun y => (y.1.cluster, y.1.handle))

/-- 0xA044: an identity opened more often in its cluster than USES allows. -/
def overOpened (v : PlanView) : List PlanBreak :=
  v.orders.flatMap (fun r =>
    let os := v.openings r
    os.filterMap (fun g => match g.head? with
      | some y =>
        let n := (os.filter (fun x => openingOf x == some (y.1.cluster, y.1.handle))).length
        match v.d.stream y.1.cluster y.1.handle with
        | some e => if e.uses < n then some (brk 0xA044 7 y.2) else none
        | none => none
      | none => none))

/-- The identities that a cluster's stream table lists, with their USES. -/
def identities (v : PlanView) (k : Nat) : List (Nat × Nat × Nat) :=
  let t := v.d.domOf 0x7060 1 (k + 1)
  (List.range (t.length / 16)).map (fun i => (fieldB t (16 * i) 2, fieldB t (16 * i + 2) 2, fieldB t (16 * i + 5) 1))

/-- R228, 0xA044: a cluster lists an identity that another cluster, or another member, lists too, and not as replays: USES is 1
somewhere. -/
def listedTwice (v : PlanView) (k : Nat) : Bool :=
  (v.identities k).any (fun x =>
    let others := ((List.range 96).filter (· != k)).flatMap v.identities ++ v.f.peers.flatMap (·.streams)
    others.any (fun y => y.1 == x.1 && y.2.1 == x.2.1 && (decide (x.2.2 < 2) || decide (y.2.2 < 2))))

/-- 0xA044: two SR operations on one context that no sync counter, and no thread's own order, puts in order. -/
def unorderedDraw (v : PlanView) (o : PlanOp) (i : Nat) : Bool :=
  (workDraws o.work).any (fun x => x.kind == 0 && v.ops.any (fun y =>
    decide (y.2 < i) && v.together i y.2 && (workDraws y.1.work).any (fun z => z == x) &&
    !v.before y.2 i true && !v.before i y.2 true && x.unit != cvtUnit))

/-- 0xA045: a handle that the plan's tables do not resolve, or that names another KIND. -/
def handleBad (v : PlanView) (o : PlanOp) : Bool :=
  (workDraws o.work).any (fun x => match v.d.stream x.cluster x.handle with
    | some e => e.kind != x.kind
    | none => true)

/-- 0xA045: a rotation along an axis of more than 65,536 positions. -/
def longAxis (v : PlanView) (o : PlanOp) : Bool :=
  match o.work with
  | .convert _ b =>
    let c := parseCvt b
    c.rot != 0 && (match v.tensor c.ztsid with
      | some t => decide (65536 < (if c.raxis then t.rows else t.cols))
      | none => false)
  | _ => false

/-- The number, in its tensor, of the tile whose header an operation writes at an offset of a cluster's store. -/
def tileAt (v : PlanView) (k off : Nat) : Nat :=
  match placementAt v.f (Device.storeAddr k off) with
  | some p => (Device.storeAddr k off - p.payload) / 4096
  | none => 0

/-- What the tiles, or rotation vectors, of an opening are: for each mask job the places of its tiles within their tensor, from the
first that the opening fills; the n of each rotation. -/
def openingShape (v : PlanView) (g : List (PlanDraw × Nat)) : List (List Nat) :=
  let tiles (x : PlanDraw × Nat) : Option (List Nat) := match (v.op? x.2).map PlanOp.work with
    | some (.maskTiles k b) => let c := parseMask b; some ((List.range c.count).map (fun i => v.tileAt k (c.dst + 4096 * i)))
    | _ => none
  g.filterMap (fun x => match x.1.kind with
    | 1 => tiles x
    | _ => match (v.op? x.2).map PlanOp.work with
      | some (.convert _ b) => some [rotLen (parseCvt b).rot]
      | _ => none)

/-- R239, 0xA046: a replay whose mask jobs have other COUNTs than those of its original, or fill the tensor's tiles in another order,
or whose rotation has another n. -/
def replayBreaks (v : PlanView) : List PlanBreak :=
  v.orders.flatMap (fun r =>
    let os := v.openings r
    os.filterMap (fun g => match g.head? with
      | some y =>
        let first := os.find? (fun x => (x.head?.map (fun z => (z.1.handle, z.1.kind))) == some (y.1.handle, y.1.kind))
        let same := match first with
          | some f => if y.1.kind = 2 then (v.openingShape f ++ v.openingShape g).all (fun n => n == (v.openingShape f).headD n)
              else v.openingShape f == v.openingShape g
          | none => true
        if same then none else some (brk 0xA046 7 y.2)
      | none => none))

/-- R239, 0xA045: two members with one member index. -/
def memberBreaks (f : PlanFacts) : List PlanBreak :=
  if (f.members.map (·.index)).Nodup then [] else [brk 0xA045 1 0]

def drawBreaks (v : PlanView) : List PlanBreak :=
  v.overOpened ++ breaksOf (List.range 96) 0xA044 7 v.listedTwice ++ v.breaks 0xA044 13 v.unorderedDraw ++
  v.breaks 0xA045 13 (fun o _ => v.handleBad o) ++ v.breaks 0xA045 13 (fun o _ => v.longAxis o) ++ memberBreaks v.f ++
  v.replayBreaks

end PlanView

end Sys2Proof.Machine
end

