-- ==== Sys2Proof/Machine/CheckTrain.lean ====
section
/-! DEFINITION. What the check finds of sparse tensors, masks and prediction (R276), of the backward pass and the update (R303),
and of monitors and evaluation work (R314, R324). -/

namespace Sys2Proof.Machine

namespace PlanView

/-! ### Orders and roles -/

/-- Two operations are in order, one way or the other, wherever a step has both. -/
def inOrder (v : PlanView) (i j : Nat) : Bool := !v.together i j || v.before i j || v.before j i

/-- The tensors with a role. -/
def withRole (v : PlanView) (r : TensorRole) : List PlanTensor := v.f.tensors.filter (fun t => t.role == r)

/-- The placements of a tensor. -/
def placesOf (v : PlanView) (t : Nat) : List PlanPlacement := v.f.placements.filter (fun p => p.tsid == some t)

/-! ### Sparse tensors (R247, R276) -/

/-- 0xA047: a tensor that is stored compressed and does not meet R247. -/
def sparseBad (v : PlanView) (t : PlanTensor) : Bool :=
  t.k != 0 && (!([2, 4, 8].contains t.k) || !compFmt t.fmt t.width || t.rows % 16 != 0 || t.cols % 128 != 0 ||
    (List.range 96).any (fun k => (v.d.line k t.tsid).esc))

/-- 0xA047: a compressed tile goes to a unit that reads none. -/
def compressedUse (v : PlanView) (o : PlanOp) (i : Nat) : Bool :=
  let compressed (t : Nat) : Bool := (v.tensor t).any (fun x => x.k != 0)
  match o.work with
  | .byteMove .. => (v.tensorsRead o i).any compressed
  | .vector .. => (v.tensorsRead o i).any compressed
  | .convert .. => (v.tensorsRead o i).any compressed
  | .reduce .. => (v.tensorsRead o i).any compressed
  | .predict .. => (v.tensorsRead o i).any compressed
  | _ => false

/-- R152, 0xA047: a header that the plan places declares COMPRESSED without a bound, or with a format that has no such layout. -/
def headersBad (f : PlanFacts) (p : PlanPlacement) : Bool :=
  let m := planMem f
  (List.range p.count).any (fun i =>
    let h := parseHdr (planBytes m (p.header + 16 * i) 16)
    h.comp && (h.k == 0 || !compFmt h.fmt h.width))

/-! ### Mask work (R260, R268, R276) -/

/-- The tensors whose tiles the plan's operations write at a mask job's SRC, where no placement says what lies there. -/
def sourceTensors (v : PlanView) (k src i : Nat) : List PlanTensor :=
  (v.ops.filter (fun w => w.2 != i && (v.writeRanges w.1).any (rangesMeet (storeRange k src 4096)))).flatMap (fun w =>
    (v.tensorsWritten w.1 w.2).filterMap v.tensor)

/-- R261: a mask job on tiles of a tensor whose format its operation does not take, an odd COUNT of 4-bit ones, an ESC tensor under
CPACK. -/
def maskTensorBad (v : PlanView) (k : Nat) (c : MaskJobDesc) (m : MaskOp) (t : PlanTensor) : Bool :=
  m != .check && (!Device.maskFmtOk m { bsi := 0, tsid := t.tsid, fmt := t.fmt, width := t.width } || t.k != 0 ||
    (fmtBits t.fmt t.width == 4 && c.count % 2 == 1) || (m == .pack && (v.d.line k t.tsid).esc))

/-- 0xA048: a mask job descriptor; what depends on its input is held against the headers that the plan places, or against the tensors
that its operations write there. -/
def maskDescBad (v : PlanView) (o : PlanOp) (i : Nat) : Bool :=
  match o.work with
  | .maskJob k op b =>
    let c := parseMaskJob b
    match maskOpOf op with
    | none => true
    | some m =>
      let placed := (v.tensorAt (Device.storeAddr k c.src)).isSome
      let ts := if placed then [] else v.sourceTensors k c.src i
      let cb := if placed then v.d.maskBitsOf k c m else (ts.head?.map (fun t => fmtBits t.fmt t.width)).getD 8
      Device.maskFieldBad c || Device.maskReachBad c m cb || (placed && v.d.maskSrcBad k c m cb) || ts.any (v.maskTensorBad k c m)
  | _ => false

/-- Two jobs work on one mask tile. -/
def sameMask (a b : Nat × MaskOp × MaskJobDesc × Nat) : Bool :=
  a.1 == b.1 && rangesMeet (a.2.2.1.mask, 512 * a.2.2.1.count) (b.2.2.1.mask, 512 * b.2.2.1.count)

/-- R268: job `a` must end before job `b` of the same mask starts, and both lie in their seasons. -/
def maskPairBad (v : PlanView) (a b : Nat × MaskOp × MaskJobDesc × Nat) : Bool :=
  let i := a.2.2.2
  let j := b.2.2.2
  sameMask a b && v.together i j && !v.before i j && (match a.2.1, b.2.1 with
    | .capt, .upd => true
    | .capt, .apply => v.season j == 2
    | .upd, .apply => v.season j == 3
    | .upd, .pack => true
    | .upd, .check => !v.before j i
    | _, _ => false)

/-- R268: a mask job outside its season: MCAPT is Autumn's, MUPD, CPACK and MCHECK are Winter's (DEDUCED of MCHECK from R267, which
charges it there), MAPPLY is Autumn's on a gradient and Winter's on weights, carries and moments. -/
def maskSeasonBad (v : PlanView) (a : Nat × MaskOp × MaskJobDesc × Nat) : Bool :=
  let s := v.season a.2.2.2
  match a.2.1 with
  | .capt => s != 2
  | .apply => match (v.tensorAt (Device.storeAddr a.1 a.2.2.1.src)).elim TensorRole.other (·.role) with
    | .gradient => s != 2
    | .running => s != 2
    | .weight => s != 3
    | .carry => s != 3
    | .moment => s != 3
    | _ => s != 2 && s != 3
  | _ => s != 3

/-- R268: an operation on the tiles of mask job `a`, which is operation `i`, out of its place: a writer of the gradient not before
MCAPT; a Winter writer of the dense copy not before CPACK; the converter of what MAPPLY cleared not after it; a Winter read of what
CPACK writes, which evaluation alone may make (R314). -/
def maskInputBad (v : PlanView) (a : Nat × MaskOp × MaskJobDesc × Nat) (i : Nat) (w : PlanOp × Nat) : Bool :=
  let job : Bool := match w.1.work with | .maskJob .. => true | _ => false
  let writes : Bool := meetsAny (v.writeRanges w.1) (v.maskInput a)
  let reads : Bool := meetsAny (v.readRanges w.1) (v.maskWrites a)
  w.2 != i && v.together i w.2 && (match a.2.1 with
    | .capt => !job && writes && decide (w.1.season ≤ 2) && !v.before w.2 i
    | .pack => (!job && writes && (if w.1.season = 3 then !v.before w.2 i else !v.inOrder w.2 i)) ||
      (reads && w.1.season == 3 && w.1.part != .eval && !v.before w.2 i)
    | .apply => (match w.1.work with
      | .convert .. => reads && v.season i == 3 && w.1.season == 3 && !v.before i w.2
      | _ => false)
    | _ => false)

/-- R268, 0xA048: a mask job outside its season; pairs out of order; WUPD of the layer before the gradient's mask work; other work
on its tiles out of order. -/
def maskOrderBad (v : PlanView) (o : PlanOp) (i : Nat) : Bool :=
  let jobs := v.maskJobs
  match jobs.find? (fun j => j.2.2.2 == i) with
  | none => false
  | some a =>
    let s := v.season i
    v.maskSeasonBad a || jobs.any (fun b => v.maskPairBad a b) || v.ops.any (v.maskInputBad a i) ||
    v.ops.any (fun w => v.together i w.2 && (match w.1.work with
      | .vector _ 0x0E .. => s == 2 && w.1.layer == o.layer && o.layer.isSome && !v.before i w.2
      | _ => false))

/-- 0xA048: a read of a mask tile, candidate record or compressed copy that is not in order with its writer. -/
def maskReadBad (v : PlanView) (o : PlanOp) (i : Nat) : Bool :=
  let rs := v.readRanges o ++ ((v.maskJobs.filter (fun j => j.2.2.2 == i)).flatMap maskReads)
  v.maskJobs.any (fun w => w.2.2.2 != i && (v.maskWrites w).any (fun x => rs.any (rangesMeet x)) && !v.inOrder w.2.2.2 i)

/-! ### Prediction (R269, R276, R288, R295) -/

/-- The predictor operations: cluster, descriptor, index. -/
def predictions (v : PlanView) : List (Nat × PredDesc × Nat) :=
  v.ops.filterMap (fun x => match x.1.work with
    | .predict k b => some (k.val, parsePred b, x.2)
    | _ => none)

/-- 0xA049: a predictor descriptor; its input is signed INT8 without zero point or block scales. -/
def predDescBad (v : PlanView) (o : PlanOp) : Bool :=
  match o.work with
  | .predict k b =>
    let c := parsePred b
    predFieldBad b || (match v.tensorAt (Device.storeAddr k c.x) with
      | some t => t.fmt != fmtINT || t.width != 8 || t.isUnsigned || (v.d.line k t.tsid).zpen || (v.d.line k t.tsid).blocked
      | none => false)
  | _ => false

/-- The active list by which an accumulate takes its group: cluster, offset. -/
def listOf (o : PlanOp) : Option (Nat × Nat) :=
  match o.work with
  | .accumulate g _ a b => match a.group, b.group with
    | some x, _ => some (Device.clusterOf g, x.1)
    | none, some x => some (Device.clusterOf g, x.1)
    | none, none => none
  | _ => none

/-- The operands that a product takes by a list, with the core. -/
def listFeeds (o : PlanOp) : List (Nat × PlanFeed) :=
  match o.work with
  | .accumulate g _ a b => ([a, b].filter (·.group.isSome)).map (fun x => (g.val, x))
  | _ => []

/-- R271: an operation follows the DONE of a descriptor that writes a list. -/
def afterList (v : PlanView) (l : Nat × Nat) (i : Nat) : Bool :=
  v.predictions.any (fun p => p.1 == l.1 && p.2.1.out == l.2 && v.before p.2.2 i)

/-- 0xA049: an active list is read by an operation that does not follow its DONE: a product that takes its group from the list, a
tile move that brings such a product its group, a move of the list itself. -/
def listReadBad (v : PlanView) (o : PlanOp) (i : Nat) : Bool :=
  (match listOf o with
    | some l => !v.afterList l i
    | none => false) ||
  (let fills := workFills v.d o.work
   !fills.isEmpty && v.ops.any (fun x => match listOf x.1 with
     | some l => v.together i x.2 && !v.afterList l i && (listFeeds x.1).any (fun y => y.2.frames.any (fun fr =>
         fills.contains (y.1, fr) && (v.filledBy (y.1, fr) x.2).any (fun w => w.2 == i)))
     | none => false)) ||
  (let rs := v.readRanges o
   v.predictions.any (fun p => p.2.2 != i && v.together i p.2.2 && rs.any (rangesMeet (storeRange p.1 p.2.1.out (0x10 + 2 * p.2.1.gmax))) &&
     !v.afterList (p.1, p.2.1.out) i))

/-- R275, R295: the list positions that the products of one part, layer and micro-batch take from a list. -/
def positionsOf (v : PlanView) (l : Nat × Nat) (o : PlanOp) : List Nat :=
  dedupNat (v.f.ops.flatMap (fun x => if x.part = o.part ∧ x.layer = o.layer ∧ x.micro = o.micro ∧ listOf x = some l then
    (listFeeds x).filterMap (fun y => y.2.group.map (·.2)) else []))

/-- R275, R295: work is issued for other than the positions 0 to GMAX − 1 of a list, which is what the check charges. -/
def groupsBad (v : PlanView) (o : PlanOp) : Bool :=
  match listOf o with
  | some l => v.predictions.any (fun p => p.1 == l.1 && p.2.1.out == l.2 && (v.op? p.2.2).any (fun x => x.micro == o.micro) &&
      (let ps := v.positionsOf l o
       !(List.range p.2.1.gmax).all ps.contains || ps.any (fun q => decide (p.2.1.gmax ≤ q))))
  | none => false

/-- R288: a move with SSTRIDE 0, before operation `i`, writes the whole tile at an address. -/
def zeroedAt (v : PlanView) (i a : Nat) : Bool :=
  v.ops.any (fun x => v.before x.2 i && (match x.1.work with
    | .move _ b => (moveDesc b).sstride == 0 && (v.writeRanges x.1).contains (a, 4096)
    | _ => false))

/-- The tiles of a range. -/
def tilesIn (r : Nat × Nat) : List Nat := (List.range ((r.2 + 4095) / 4096)).map (fun j => r.1 / 4096 * 4096 + 4096 * j)

/-- Every tile of a tensor that an operation reads in memory was zeroed before operation `i`. -/
def zeroedReads (v : PlanView) (o : PlanOp) (t i : Nat) : Bool :=
  ((v.readRanges o).filter (fun r => (v.tensorsAt r).contains t)).all (fun r => (tilesIn r).all (v.zeroedAt i))

/-- The tiles of a tensor that stand in a frame were zeroed before operation `i` reads it: in memory, or in the frame itself. -/
def zeroedFrame (v : PlanView) (fr : Nat × Nat) (t i : Nat) : Bool :=
  (v.filledBy fr i).all (fun w => v.zeroedReads w.1 t i) ||
  v.ops.any (fun x => v.before x.2 i && (workFills v.d x.1.work).contains fr && (match x.1.work with
    | .move _ b => (moveDesc b).sstride == 0
    | _ => false))

/-- The layers that fetch by prediction. -/
def predicted (v : PlanView) (l : Option Nat) : Bool :=
  l.isSome && v.f.ops.any (fun o => o.part == .forward && o.layer == l && (listOf o).isSome)

/-- The tensors that the drains of predicted layers write, and that a list can leave without a writer in part. -/
def listOutputs (v : PlanView) : List Nat :=
  dedupNat (v.f.ops.filterMap (fun w => match w.work with
    | .drain _ _ _ z _ => if (w.part = .forward ∨ w.part = .recompute) ∧ v.predicted w.layer then some z.tsid else none
    | _ => none))

/-- 0xA049: an output tile of a group that a list can leave inactive is read in memory, and nothing wrote it first. -/
def idleOutputBad (v : PlanView) (o : PlanOp) (i : Nat) : Bool :=
  v.listOutputs.any (fun t => !v.zeroedReads o t i || (match o.work with
    | .accumulate g _ a b => [a, b].any (fun x => x.group.isNone && x.tsid == t && !x.frames.all (fun fr => v.zeroedFrame (g.val, fr) t i))
    | _ => false))

/-- A move that writes one tile over and over (R288). -/
def repeats (o : PlanOp) : Bool := match o.work with | .move _ b => (moveDesc b).sstride == 0 | _ => false

/-- R288, 0xA049: a running-gradient tile that is not zeroed before a drain adds to it, or before it is read at all. -/
def unzeroed (v : PlanView) (o : PlanOp) (i : Nat) : Bool :=
  (v.withRole .running).any (fun t => !repeats o && (!v.zeroedReads o t.tsid i || (match o.work with
    | .drain g f _ z (some a) => f.add && z.tsid == t.tsid && !v.zeroedFrame (g.val, a.frame) t.tsid i
    | _ => false)))

/-- R288, 0xA049: a running-gradient tile that the plan places, other than the zero tile itself, and that no SSTRIDE 0 move zeroes
before the first backward product of its layer. -/
def leftUnzeroed (v : PlanView) (t : PlanTensor) : Bool :=
  t.role == .running && v.ops.any (fun x => x.1.part == .weightGrad && x.1.layer == some t.layer &&
    ((v.placesOf t.tsid).flatMap (fun p => tilesIn (placeBytes p))).any (fun a =>
      !v.zeroedAt x.2 a && !v.f.ops.any (fun m => repeats m && (v.readRanges m).contains (a, 4096))))

/-- The recompute span that holds a layer. -/
def spanOf (v : PlanView) (l : Option Nat) : Option (Nat × Nat) :=
  l.bind (fun x => v.f.spans.find? (fun s => decide (s.1 ≤ x) && decide (x ≤ s.2)))

/-! ### Backward products (R280 to R282, R285, R286, R295, R299) -/

/-- The tiles that the forward products of a layer, or their recomputation, read of a tensor as operand A or B: of every micro-batch,
or of one. -/
def forwardTiles (v : PlanView) (l : Option Nat) (isA : Bool) (t : Nat) (m : Option (Option Nat)) : List Nat :=
  dedupNat (v.ops.flatMap (fun o =>
    if (o.1.part = .forward ∨ o.1.part = .recompute) ∧ o.1.layer = l ∧ (m = none ∨ m = some o.1.micro) then
      (match o.1.work with
        | .accumulate g _ a b => let y := if isA then a else b
          if y.tsid = t then v.feedTiles g.val y o.2 else []
        | _ => [])
    else []))

/-- R281: a backward product takes an operand from tiles that no forward product of its layer read: W as it stands for the whole
step, X of its own micro-batch. -/
def otherTiles (v : PlanView) (o : PlanOp) (isA : Bool) (g : Nat) (x : PlanFeed) (i : Nat) : Bool :=
  let ok := v.forwardTiles o.layer isA x.tsid (if isA then some o.micro else none)
  !(v.feedTiles g x i).all ok.contains

/-- R281, 0xA04D: a forward copy of weights that a data gradient reads is written before the end of Autumn. -/
def copyRewritten (v : PlanView) (o : PlanOp) (i : Nat) : Bool :=
  decide (o.season < 3) && !(v.writeRanges o).isEmpty && v.f.ops.any (fun x => x.part == .dataGrad && (match x.work with
    | .accumulate _ _ _ b => (v.writeRanges o).any (fun r => (v.tensorsAt r).contains b.tsid) || (v.tensorsWritten o i).contains b.tsid
    | _ => false))

/-- The list by which the forward products of a layer took their groups. -/
def forwardList (v : PlanView) (l m : Option Nat) : Option (Nat × Nat) :=
  v.f.ops.findSome? (fun o => if o.part = .forward ∧ o.layer = l ∧ o.micro = m then listOf o else none)

/-- R295: the list of a micro-batch is not kept to the end of its span's backward pass: something writes over it after the
prediction that made it, and not after every backward product of the span. -/
def listLost (v : PlanView) (o : PlanOp) (l : Nat × Nat) : Bool :=
  let mine := v.predictions.filter (fun p => p.1 == l.1 && p.2.1.out == l.2 && (v.op? p.2.2).any (fun x => x.micro == o.micro))
  let last := v.ops.filter (fun x => (x.1.part == .dataGrad || x.1.part == .weightGrad) && x.1.micro == o.micro &&
    (x.1.layer == o.layer || ((v.spanOf o.layer).isSome && v.spanOf x.1.layer == v.spanOf o.layer)))
  mine.isEmpty || v.ops.any (fun w => !mine.any (fun q => q.2.2 == w.2) &&
    mine.any (fun q => v.together q.2.2 w.2 && !v.before w.2 q.2.2 &&
      meetsAny (v.writeRanges w.1) [storeRange l.1 l.2 (0x10 + 2 * q.2.1.gmax)]) &&
    last.any (fun x => v.together x.2 w.2 && !v.before x.2 w.2))

/-- 0xA04D: a backward product with another operand than R280 gives it, with other TRANS bits, or off the list of its layer, which
must still be the one that its own micro-batch's prediction wrote. -/
def backwardBad (v : PlanView) (o : PlanOp) (i : Nat) : Bool :=
  match o.work with
  | .accumulate g _ a b =>
    if o.part = .dataGrad ∨ o.part = .weightGrad then
      (if o.part = .dataGrad then a.trans || !b.trans || v.role a.tsid != .dy || v.otherTiles o false g.val b i
        else !a.trans || b.trans || v.role b.tsid != .dy || v.otherTiles o true g.val a i) ||
      (v.predicted o.layer && (match v.forwardList o.layer o.micro with
        | none => true
        | some l => listOf o != some l || v.groupsBad o || v.listLost o l))
    else false
  | _ => v.copyRewritten o i

/-- R299: the side of the step that opened a slot: forward, backward, or neither. -/
def sideOf (p : OpPart) : Nat :=
  match p with
  | .forward => 1
  | .recompute => 2
  | .dataGrad => 2
  | .weightGrad => 2
  | _ => 0

/-- A slot that is open: for a weight gradient with the sub-block of its output tile. -/
structure GradSlot where
  life : SlotLife
  micro : Option Nat
  part : OpPart
  sum : Option PlanTile

/-- Two sums are of one sub-block of one tile. -/
def sameSum (a b : Option PlanTile) : Bool :=
  match a, b with
  | some x, some y => x.tsid == y.tsid && x.tile == y.tile && x.sub == y.sub
  | _, _ => false

/-- One operation on the open slots: whether it breaks R285, R286 or R299. A weight-gradient slot is in use to its drain with CLEAR,
and only products of its own sub-block go on in it; another slot is in use to its drain, and the other side may not open it. -/
def gradStep (v : PlanView) (open_ : List GradSlot) (o : PlanOp) : Bool × List GradSlot :=
  match o.work with
  | .accumulate g f a b =>
    let bl := v.blockForm g f a b
    let here (x : GradSlot) : Bool := x.life.core == g.val && x.life.eng == f.eng.val
    let meets (x : GradSlot) : Bool := here x && (slotSpan x.life.block x.life.slot).any (fun s => (slotSpan bl f.slot).contains s)
    let mine (x : GradSlot) : Bool := o.part == .weightGrad && f.init && x.life.slot == f.slot.val && x.life.block == bl &&
      sameSum x.sum o.sum
    let clash := open_.any (fun x => meets x && (if x.part = .weightGrad then !mine x else sideOf x.part != sideOf o.part))
    if !f.init then
      (clash, { life := { core := g, eng := f.eng, slot := f.slot, block := bl, ta := a.tsid, tb := b.tsid }, micro := o.micro,
                part := o.part, sum := o.sum } :: open_.filter (fun x => !meets x))
    else (clash, open_)
  | .drain g f _ z _ =>
    let mine (x : GradSlot) : Bool := x.life.core == g.val && x.life.eng == f.eng.val && x.life.slot == f.slot.val
    (open_.any (fun x => mine x && x.part == .weightGrad && !sameSum x.sum (some z)),
      open_.filter (fun x => !mine x || (x.part == .weightGrad && !f.clear)))
  | _ => (false, open_)

/-- 0xA04A: a weight-gradient slot opened twice, used by other work before its drain, or in another form. -/
def gradSlotBreaks (v : PlanView) : List PlanBreak :=
  v.orders.flatMap (fun r =>
    (r.sel.foldl (fun (acc : List PlanBreak × List GradSlot) i => match v.op? i with
      | some o =>
        let x := v.gradStep acc.2 o
        (if x.1 then acc.1 ++ [brk 0xA04A 13 i] else acc.1, x.2)
      | none => acc) ([], [])).1)

/-- R286, R304: the weight-gradient slots that the plan keeps over more than one micro-batch of a plain step. -/
def residentSlots (v : PlanView) : Nat :=
  let kept := (((v.orders.headD ⟨[], [], []⟩).sel.foldl (fun (acc : List Nat × List GradSlot) i => match v.op? i with
    | some o => match o.work with
      | .accumulate g f a b =>
        let again := acc.2.filter (fun x => x.life.core == g.val && x.life.eng == f.eng.val && x.life.slot == f.slot.val &&
          f.init && o.part == .weightGrad && x.micro != o.micro)
        let ss := slotSpan (v.blockForm g f a b) f.slot
        (acc.1 ++ (if again.isEmpty then [] else ss.map (fun s => 64 * g.val + 8 * f.eng.val + s)), (v.gradStep acc.2 o).2)
      | _ => (acc.1, (v.gradStep acc.2 o).2)
    | none => acc) ([], [])).1)
  (dedupNat kept).length

/-- R287, R304: the running-gradient tiles that the plan places. -/
def runningTiles (v : PlanView) : Nat := ((v.withRole .running).flatMap (fun t => (v.placesOf t.tsid).map (·.count))).sum

/-- R285, 0xA04A: the products of one micro-batch into one weight-gradient sub-block use two slots, engines or forms, or two drains of
one micro-batch write it. -/
def gradSplit (v : PlanView) (o : PlanOp) (i : Nat) : Bool :=
  match o.work with
  | .accumulate g f a b => o.part == .weightGrad && v.ops.any (fun y => decide (y.2 < i) && v.together i y.2 &&
      y.1.part == .weightGrad && y.1.micro == o.micro && sameSum y.1.sum o.sum && (match y.1.work with
        | .accumulate g' f' a' b' => g' != g || f'.eng != f.eng || f'.slot != f.slot || v.blockForm g' f' a' b' != v.blockForm g f a b
        | _ => false))
  | .drain _ _ _ z _ => o.part == .weightGrad && v.ops.any (fun y => decide (y.2 < i) && v.together i y.2 &&
      y.1.part == .weightGrad && y.1.micro == o.micro && (match y.1.work with
        | .drain _ _ _ z' _ => z'.tsid == z.tsid && z'.tile == z.tile && z'.sub == z.sub
        | _ => false))
  | _ => false

/-! ### Spans and kept inputs (R291, R297, R298) -/

/-- 0xA04B: a backward product before the recomputation of its span for its micro-batch, or of a span of which a layer is not
recomputed. -/
def spanBad (v : PlanView) (o : PlanOp) (i : Nat) : Bool :=
  (o.part == .dataGrad || o.part == .weightGrad) && (v.spanOf o.layer).isSome &&
  (v.ops.any (fun r => r.1.part == .recompute && r.1.micro == o.micro && v.spanOf r.1.layer == v.spanOf o.layer &&
    v.together i r.2 && !v.before r.2 i) ||
  v.f.ops.any (fun x => x.part == .forward && x.micro == o.micro && v.spanOf x.layer == v.spanOf o.layer &&
    !v.ops.any (fun r => r.1.part == .recompute && r.1.micro == o.micro && r.1.layer == x.layer && v.before r.2 i)))

/-- An operation of the backward pass, its recomputation among it. -/
def ofBackward (o : PlanOp) : Bool := o.part == .recompute || o.part == .weightGrad || o.part == .dataGrad

/-- R298: operation `o` overwrites what backward operation `r` reads: it is not the forward write that `r`'s micro-batch keeps, it
comes neither before that write nor after the read. Where no operation of the plan writes the input for a micro-batch, a write for a
later one counts. -/
def overwrites (v : PlanView) (t : Nat) (o : PlanOp) (i : Nat) (r : PlanOp × Nat) : Bool :=
  let own (x : PlanOp) : Bool := x.part == .forward && x.micro == r.1.micro
  let makers := v.ops.filter (fun x => own x.1 && (v.writeRanges x.1).any (fun y => (v.tensorsAt y).contains t))
  v.together i r.2 && !own o && !v.before r.2 i &&
  (if makers.isEmpty then (match r.1.micro, o.micro with | some x, some y => decide (x < y) | _, _ => false)
    else !makers.any (fun x => v.before i x.2))

/-- 0xA04B: a kept input is overwritten before the last read that its span's backward pass makes of it, or its placement is not
live in the season of that read. -/
def keptBad (v : PlanView) (o : PlanOp) (i : Nat) : Bool :=
  (v.withRole .input).any (fun t => (v.placesOf t.tsid).any (fun p =>
    (v.writeRanges o).any (fun w => rangesMeet (placeBytes p) w && v.ops.any (fun r =>
      ofBackward r.1 && (v.readRanges r.1).any (rangesMeet w) && v.overwrites t.tsid o i r)) ||
    (ofBackward o && p.seasons / 2 ^ o.season % 2 == 0 && (v.readRanges o).any (rangesMeet (placeBytes p)))))

/-- Tiles of a tensor. -/
def tilesOf (t : PlanTensor) : Nat :=
  let e := tileElems (contBits t.fmt t.width)
  (t.rows * t.cols + e - 1) / e

/-- The tensors that the recomputation of a span writes. -/
def recomputed (v : PlanView) (s : Nat × Nat) : List PlanTensor :=
  v.f.tensors.filter (fun t => v.f.ops.any (fun o => o.part == .recompute && v.spanOf o.layer == some s && writesTsid o t.tsid))

/-- R298: the parts of the peak in tiles: kept inputs of k + 1 micro-batches, activations of the largest span, running gradients,
gradients. -/
def peakParts (v : PlanView) : List Nat :=
  let sum (l : List PlanTensor) : Nat := (l.map tilesOf).sum
  [min v.f.micros (v.f.lag + 1) * sum (v.withRole .input),
   (v.f.spans.map (fun s => sum (v.recomputed s))).foldl max 0,
   sum (v.withRole .running), sum (v.withRole .gradient)]

/-- R298: tiles that the plan places for those. -/
def placedParts (v : PlanView) : Nat :=
  let sum (l : List PlanTensor) : Nat := ((l.flatMap (fun t => v.placesOf t.tsid)).map (·.count)).sum
  sum (v.withRole .input) + sum (v.f.tensors.filter (fun t => v.f.spans.any (fun s => (v.recomputed s).contains t) && t.role != .input)) +
    sum (v.withRole .running) + sum (v.withRole .gradient)

/-- R298, R304: the peak in bytes. -/
def peakBytes (v : PlanView) : Nat := 4096 * (v.peakParts).sum

/-- 0xA04B: B and k; a peak beyond the placement. -/
def microBreaks (v : PlanView) : List PlanBreak :=
  let f := v.f
  if f.micros < 1 || 4096 < f.micros || f.lag < 1 || f.micros < f.lag || v.placedParts < (v.peakParts).sum then [brk 0xA04B 3 0] else []

/-! ### The update (R300) -/

def updatesState (v : PlanView) (t : Nat) : Bool := v.role t == .weight || v.role t == .carry

/-- R300: a frame from which operation `i` carries tiles to a weight or carry holds something else than what WUPD wrote there, or the
tensor's own tiles as they were. -/
def frameForeign (v : PlanView) (fr : Nat × Nat) (t i : Nat) : Bool :=
  (v.filledBy fr i).any (fun w => match w.1.work with
    | .vector _ 0x0E .. => false
    | .move .. => (v.tensorsRead w.1 w.2).any (· != t)
    | .coreMove .. => (v.tensorsRead w.1 w.2).any (· != t)
    | .pass .. => (v.tensorsRead w.1 w.2).any (· != t)
    | _ => true)

/-- R300: a move brings a weight or carry tile something else than the result of WUPD, or than the tensor's own tiles. -/
def movesForeign (v : PlanView) (o : PlanOp) (i : Nat) : Bool :=
  (v.writeRanges o).any (fun w => (v.tensorsAt w).any (fun t => v.updatesState t &&
    ((v.readRanges o).any (fun r => !(v.tensorsAt r).contains t) || (workReads v.d o.work).any (fun fr => v.frameForeign fr t i))))

/-- 0xA04C: something other than WUPD writes a weight or carry tile, into its place or into the frame that is moved there; a WUPD
outside Autumn. MAPPLY, which R268 itself puts on both, is no such write. -/
def updateBad (v : PlanView) (o : PlanOp) (i : Nat) : Bool :=
  let toState (m : PlanOp) : Bool := (v.writeRanges m).any (fun w => (v.tensorsAt w).any v.updatesState)
  match o.work with
  | .vector _ 0x0E .. => o.season != 2
  | .convert .. => toState o
  | .reduce .. => toState o
  | .byteMove .. => toState o
  | .maskTiles .. => toState o
  | .predict .. => toState o
  | .maskJob _ op _ => maskOpOf op != some .apply && toState o
  | .move .. => v.movesForeign o i
  | .coreMove .. => v.movesForeign o i
  | .drain _ _ _ z _ => v.updatesState z.tsid
  | .vector .. => (v.frameWrites o).any (fun w => v.ops.any (fun m => toState m.1 && (workReads v.d m.1.work).contains w.1 &&
      v.before i m.2 && !v.ops.any (fun x => (workFills v.d x.1.work).contains w.1 && v.before i x.2 && v.before x.2 m.2)))
  | _ => false

/-- 0xA04C: a running gradient whose record is not STATIC. -/
def runningBad (v : PlanView) (t : PlanTensor) : Bool :=
  t.role == .running && (List.range 96).any (fun k => (v.d.line k t.tsid).ok && (v.d.line k t.tsid).policy != 0)

/-! ### Monitors and evaluation (R314, R324) -/

/-- The watch entries of a cluster that are enabled, and where the pair of an entry lies. -/
def watchEntries (v : PlanView) (k : Nat) : List Nat :=
  (List.range (v.d.num 0x7080 3 (k + 1))).filter (fun e =>
    bitOf (v.d.load (Device.storeAddr k (v.d.num 0x7080 2 (k + 1) + 32 * e + 0x1A)) 1) 0)
def watchSrc (v : PlanView) (k e : Nat) : Nat × Nat :=
  (Device.storeAddr k (v.d.load (Device.storeAddr k (v.d.num 0x7080 2 (k + 1) + 32 * e)) 4), 4)

/-- The pairs of some watch entries are written, by whatever operation, and that operation is not `ok`. -/
def pairWritten (v : PlanView) (k : Nat) (es : List Nat) (ok : PlanOp × Nat → Bool) : Bool :=
  v.ops.any (fun w => meetsAny (v.writeRanges w.1) (es.map (v.watchSrc k)) && !ok w)

/-- R319: the plan loads a program, or a trigger table, of its own for a monitor. -/
def ownMonitor (v : PlanView) (q : Nat) : Bool := v.f.objects.any (fun o => o.idx == 0x7040 && o.inst == q + 1)

/-- R324, 0xA04E: the squared norm that an NCHK reads, its own or one of a monitor's programme, is written by an operation that does
not precede it. -/
def normBad (v : PlanView) (o : PlanOp) (i : Nat) : Bool :=
  let ok (w : PlanOp × Nat) : Bool := !v.together i w.2 || v.before w.2 i
  match o.work with
  | .normCheck k e => v.pairWritten k [e] ok
  | .sequencer q _ =>
    if 576 ≤ q.val ∧ q.val < 672 then v.pairWritten (q.val - 576) (v.watchEntries (q.val - 576)) ok else false
  | _ => false

/-- R319, R324, 0xA04E: a default programme checks its entries at the start of Winter: an operation of Winter writes one of their
pairs. -/
def defaultNormBreaks (v : PlanView) : List PlanBreak :=
  (List.range 96).filterMap (fun k =>
    if !v.ownMonitor (576 + k) && v.pairWritten k (v.watchEntries k) (fun w => decide (w.1.season < 3)) then some (brk 0xA04E 12 k) else none)

/-- The cluster whose table names the tensors that an operation writes. -/
def writerCluster (o : PlanOp) : Option Nat :=
  match o.work with
  | .drain g .. => some (Device.clusterOf g)
  | .convert k _ => some k.val
  | .reduce k _ => some k.val
  | _ => none

/-- An operation writes tiles of a tensor: under its TSID, or where they are placed. -/
def writesTensor (v : PlanView) (o : PlanOp) (t : Nat) : Bool :=
  writesTsid o t || (v.writeRanges o).any (fun r => (v.tensorsAt r).contains t)

/-- R314, 0xA04F: evaluation work outside its rules; that it ends before the health stamp is proved with the charges. -/
def evalBad (v : PlanView) (o : PlanOp) (i : Nat) : Bool :=
  if o.part = .eval then
    o.season != 3 || o.kindMask % 2 == 0 || !v.f.evalWork ||
    (match o.work with
      | .maskTiles .. => true
      | .accumulate _ _ a b => [a.tsid, b.tsid].any (fun t => v.ops.any (fun w => w.1.season == 3 && w.1.part != .eval &&
          v.together i w.2 && v.writesTensor w.1 t && !v.before w.2 i))
      | _ => false) ||
    v.f.tensors.any (fun t => writesTsid o t.tsid && (t.cls != 5 ||
      (writerCluster o).any (fun k => v.d.classOf k (some t.tsid) != 5) || v.ops.any (fun x => x.1.part != .eval &&
      (writesTsid x.1 t.tsid || (v.tensorsRead x.1 x.2).contains t.tsid)) || (List.range 96).any (fun k => (v.d.line k t.tsid).policy == 2))) ||
    (v.writeRanges o).any (fun w => v.f.ops.any (fun x => x.part != .eval && (v.readRanges x).any (rangesMeet w)))
  else false

/-- R314, 0xA04F: E is 1 to 65,535. -/
def evalEveryBreaks (f : PlanFacts) : List PlanBreak :=
  if f.evalWork && (decide (f.evalEvery < 1) || decide (65535 < f.evalEvery)) then [brk 0xA04F 13 0] else []

/-- What stands in sparse, backward and watched work. -/
def trainBreaks (v : PlanView) : List PlanBreak :=
  breaksOf v.f.tensors 0xA047 4 v.sparseBad ++ v.breaks 0xA047 13 v.compressedUse ++
  breaksOf v.f.placements 0xA047 5 (headersBad v.f) ++
  v.breaks 0xA007 13 (fun o _ => o.part != .dataGrad && o.part != .weightGrad && v.groupsBad o) ++ breaksOf v.f.tensors 0xA049 4 v.leftUnzeroed ++
  v.breaks 0xA048 13 v.maskDescBad ++ v.breaks 0xA048 13 v.maskOrderBad ++ v.breaks 0xA048 13 v.maskReadBad ++
  v.breaks 0xA049 13 (fun o _ => v.predDescBad o) ++ v.breaks 0xA049 13 v.listReadBad ++ v.breaks 0xA049 13 v.idleOutputBad ++
  v.breaks 0xA049 13 v.unzeroed ++ v.gradSlotBreaks ++ v.breaks 0xA04A 13 v.gradSplit ++ v.breaks 0xA04B 13 v.spanBad ++
  v.breaks 0xA04B 13 v.keptBad ++ v.microBreaks ++ v.breaks 0xA04C 13 v.updateBad ++ breaksOf v.f.tensors 0xA04C 4 v.runningBad ++
  v.breaks 0xA04D 13 v.backwardBad ++ v.breaks 0xA04E 13 v.normBad ++ v.defaultNormBreaks ++ v.breaks 0xA04F 13 v.evalBad ++ evalEveryBreaks v.f

end PlanView

end Sys2Proof.Machine
end

