-- ==== Sys2Proof/Machine/Waits.lean ====
section
/-! DEFINITION. What the check charges for waiting (R367, R368) and for links (R406). A charge counts units of 1/(11,000 c) ns for
an engine clock of c MHz: then ns, fabric cycles, engine clk and ps are all whole (R346). -/

namespace Sys2Proof.Machine

def unitNs (c : Nat) : Nat := 11000 * c
def unitCyc (c : Nat) : Nat := 10000 * c
def unitPs (c : Nat) : Nat := 11 * c
def unitClk : Nat := 11000000

/-! ### Who asks at an arbiter (R367) -/

/-- R17: a die's route may end at a router with an output: to its cluster, its stack, or the edge of its side. -/
def endsAt (r o : Nat) : Bool :=
  o == 4 || (o == 5 && [0, 5, 15, 20].contains r) ||
    (decide (o < 3) && (adapterRouters (Fin.ofNat 6 o)).any (fun a => a.val == r))

/-- The input by which a route that comes in by `side` at router `a` and ends at router `b` reaches output `o` of router `r`. -/
def passesBy (side a b r o : Nat) : Option Nat :=
  let hs := xyHops a b ++ (if b = r ∧ endsAt r o then [(b, o)] else [])
  let ins := side :: hs.map (fun h => facing h.2)
  ((hs.zip ins).find? (fun h => h.1 == (r, o))).map (·.2)

/-- R367: the inputs of a router output on XY routes that begin at an adapter router. -/
def adapterInputs (r o : Nat) : List Nat :=
  dedupNat ([portN, portE, portS].flatMap (fun side => (adapterRouters side).flatMap (fun a =>
    (List.range 25).filterMap (fun b => passesBy side.val a.val b r o))))

/-- R367: the requesters that are always counted: at a router output, both classes and both VCs of an input on such a route, though
what has come over an edge is on VC1 (DESIGN CHOICE, log entry 41: the rule says every requester). -/
def alwaysAsks : Arb → List Nat
  | .hbm .. => [4, 5]
  | .ddr _ => [5, 6]
  | .bank .. => [16, 17, 18, 19, 24]
  | .edge .. => List.range 16
  | .hub .. => List.range 10
  | .noc _ _ r o => (adapterInputs r.val o.val).flatMap (fun i => [false, true].flatMap (fun c => (List.range 2).map (nocReq o.val i c)))
  | _ => []

/-- The arbiter that stands for those that a tile takes side by side: the banks of a store, 16 channels of a stack. -/
def waitArb : Arb → Arb
  | .bank k _ => .bank k 0
  | .hbm h ch => .hbm h (Fin.ofNat 32 (ch.val / 16 * 16))
  | .localMem g _ => .localMem g 0
  | a => a

/-- A requester at an arbiter, as one number. -/
def hopKey (h : Hop) : Nat := 1024 * arbKey (waitArb h.1) + h.2

/-! ### Ways -/

/-- R368: `m` requests one after another through arbiters; `far` where these are another device's. -/
structure Leg where
  hops : List Hop
  m : Nat := 1
  far : Bool := false
  deriving DecidableEq, Repr

/-- R406: a hop of a link transfer: position, output port, whether the packets are forwarded there. -/
structure LinkHop where
  pos : Nat
  port : Nat
  forwarded : Bool
  deriving DecidableEq, Repr

/-- The way of an access there and back. -/
structure Way where
  legs : List Leg := []
  links : List LinkHop := []
  deriving DecidableEq, Repr

/-- R373, R378: the grants of a tile at its last arbiter: two at each of 16 channels, 64 at one DDR5 channel. -/
def tileGrants : Arb → Nat
  | .hbm .. => 2
  | .ddr _ => 64
  | _ => 1

/-- R368: the packets of a tile: eight of payload and one of header; a header alone is one. -/
def tilePackets (hdr : Bool) : Nat := if hdr then 1 else 9

namespace PlanView

/-- The way of a tile between a stream engine and an address of this device: nothing but its own port for the own store. -/
def wayHere (v : PlanView) (se a : Nat) (isWrite hdr : Bool) : Way :=
  let p := v.d.requestPath se a
  let n := tilePackets hdr
  match p.getLast? with
  | none => {}
  | some l =>
    match v.d.region a with
    | .localMem .. => {}
    | .store k _ =>
      if k = se / 4 then { legs := [{ hops := [l] }] }
      else { legs := [{ hops := p.dropLast, m := if isWrite then n else 1 }, { hops := [l] },
                      { hops := v.d.responsePath se a, m := if isWrite then 1 else n }] }
    | _ =>
      { legs := [{ hops := p.dropLast, m := if isWrite then n else 1 }, { hops := [l], m := if hdr then 1 else tileGrants l.1 },
                 { hops := v.d.responsePath se a, m := if isWrite then 1 else n }] }

/-- R384, R399: the output ports of a route on a rail. -/
def linkHops (v : PlanView) (rail s t : Nat) : List LinkHop :=
  (hopsOf v.d.shape s t).zipIdx.map (fun h =>
    { pos := h.1.1, port := portOf rail h.1.2.1 h.1.2.2, forwarded := h.2 != 0 })

/-- R401: the way to a position: on which rail, and over which links. -/
def linkWay (v : PlanView) (pos a : Nat) : Nat × List LinkHop :=
  let r := v.d.routeMode pos
  let rail := v.d.railTo pos a
  (rail, if r.1 = 3 then v.linkHops rail v.d.position r.2.2 ++
      (v.linkHops rail r.2.2 pos).map (fun h => { h with forwarded := true })
    else v.linkHops rail v.d.position pos)

/-- R368, R406: the way of a tile between a stream engine and an address of a peer, whose fabric is taken to be laid out as this
one's: to the hub die of the rail's ports and its Flisol router, the links, from there to the address, and back. -/
def wayFar (v : PlanView) (se pos a : Nat) (isWrite hdr : Bool) : Way :=
  let w := v.linkWay pos a
  let h := portHub (6 * w.1)
  let pl := planeOf false (se % 4) a
  let home := v.d.clusterEnd (se / 4)
  let there := if isWrite then tilePackets hdr else 1
  let back := if isWrite then 1 else tilePackets hdr
  let last := (v.d.addrArb pl 4 a).toList
  { legs := [{ hops := v.d.farPath se pos a, m := there }] ++
      (match v.d.addrEnd a with
       | some t => [{ hops := nocPath pl false (.hub h) t 4, m := there, far := true },
                    { hops := last, m := if hdr then 1 else (last.head?.map (fun x => tileGrants x.1)).getD 1, far := true },
                    { hops := nocPath pl true t (.hub h) ++
                        (if t = .hub h then [] else [(Arb.hub h 4, 2 * (((dieRoute t.die (.hub h)).getLastD 0).val % 2) + 1)]),
                      m := back, far := true }]
       | none => []) ++
      [{ hops := nocPath pl true (.hub h) home 4, m := back }],
    links := w.2 ++ v.linkHops w.1 pos v.d.position }

/-- The way of a tile, or of a header, between a stream engine and a global address. -/
def way (v : PlanView) (se a : Nat) (isWrite : Bool) (hdr : Bool := false) : Way :=
  match v.d.resolve a with
  | .here low => v.wayHere se low isWrite hdr
  | .remote pos low => v.wayFar se pos low isWrite hdr
  | _ => {}

/-! ### The traffic of an operation -/

/-- R12: the port of a fixed-function engine or a core at the banks of its cluster's store. -/
def bankHop (k port : Nat) : Hop := (Arb.bank (Fin.ofNat 96 k) 0, port)

/-- The ways of a move: of its sources, and of its destinations: payloads, and headers beside them (R368). -/
def moveWays (v : PlanView) (se : Se) (b : List Byte) : List Way × List Way :=
  let e := moveDesc b
  ((List.range e.count).flatMap (fun j => match v.d.srcFrame (.se se) e j with
     | some _ => []
     | none => [v.way se.val (e.src + j * e.sstride) false, v.way se.val (e.srch + 16 * j * e.sstride / 4096) false true]),
   (List.range e.count).flatMap (fun j => match v.d.dstFrame (.se se) e j with
     | some _ => []
     | none => [v.way se.val (e.dst + j * e.dstride) true, v.way se.val (e.dsth + 16 * j * e.dstride / 4096) true true]))

/-- R107: the requester of an operation at the banks of a core's local memory. -/
def localHops (v : PlanView) (o : PlanOp) : List Hop :=
  let at_ (g r : Nat) : Hop := (Arb.localMem (Fin.ofNat 1536 g) 0, r)
  match o.work with
  | .accumulate g f _ _ => [at_ g f.eng]
  | .drain g f .. => [at_ g f.eng]
  | .table g f _ => [at_ g f.eng]
  | .vector g .. => [at_ g 8]
  | .coreMove g .. => [at_ g 9]
  | .instructions g _ => [at_ g 11]
  | .move .. => (workReads v.d o.work ++ workFills v.d o.work).map (fun x => at_ x.1 10)
  | .pass _ s t _ => [at_ s.1 10, at_ t.1 10]
  | _ => []

/-- The hops at which an operation asks. -/
def workHops (v : PlanView) (o : PlanOp) : List Hop :=
  let core : List Hop := match workCore o.work with
    | some g => [bankHop (g / 16) (g % 16)]
    | none => []
  let own (ws : List Way) : List Hop := (ws.flatMap (·.legs)).flatMap (fun l => if l.far then [] else l.hops)
  core ++ v.localHops o ++ (workDraws o.work).map (fun x => (Arb.rng (Fin.ofNat 96 x.cluster), x.unit)) ++ (match o.work with
    | .move se b => let w := v.moveWays se b; bankHop (se.val / 4) (16 + se.val % 4) :: own (w.1 ++ w.2)
    | .byteMove se s t _ => bankHop (se.val / 4) (16 + se.val % 4) :: own [v.way se.val s false, v.way se.val t true]
    | .convert k _ => [bankHop k 20, bankHop k 21]
    | .reduce k _ => [bankHop k 22]
    | .maskTiles k _ => [bankHop k 24]
    | .maskJob k _ _ => [bankHop k 23]
    | .predict k _ => [bankHop k 23]
    | .buildTable k _ => [bankHop k 24]
    | _ => [])

/-- R367: the requesters of a season, over the kinds of step. -/
def asked (v : PlanView) (s : Nat) : List Nat :=
  dedupNat ((v.f.ops.filter (fun o => o.season == s)).flatMap (fun o => (v.workHops o).map hopKey))

end PlanView

/-! ### Charges -/

/-- R367: R_eff, from the requesters of the season. -/
def rEff (asked : List Nat) (a : Arb) : Nat :=
  (dedupNat ((alwaysAsks a).map (fun r => hopKey (a, r)) ++ asked.filter (fun x => x / 1024 == arbKey (waitArb a)))).length

/-- R364, R368: W of an arbiter with `r` requesters at `n`, in charge units; an edge's is rounded up to whole cycles, as R364
gives it, and so is the bit bank's. -/
def waitUnits (c n r : Nat) : Arb → Nat
  | .bank .. => (n * r + 1) * unitCyc c
  | .localMem .. => n * r * unitClk
  | .rng _ => (n * r + 15) / 16 * unitCyc c
  | .edge .. => (n * r + 6) / 7 * unitCyc c
  | .hbm .. => 4 * n * r * unitNs c
  | .ddr _ => 5 * n * r * unitNs c
  | .flisolFwd _ => 0
  | .flisolLoc _ => 0
  | _ => n * r * unitCyc c

/-- R368: the pipeline latency behind an arbiter. -/
def pipeUnits (c : Nat) : Arb → Nat
  | .noc .. => 3 * unitCyc c
  | .edge .. => 22 * unitCyc c
  | _ => 0

/-- What the charges of a season rest on: CLKFLOOR in MHz, N, the season, its requesters. -/
structure ChargeEnv where
  c : Nat
  n : Nat
  season : Nat
  asked : List Nat

namespace ChargeEnv

def ns (e : ChargeEnv) (x : Nat) : Nat := x * unitNs e.c
def cyc (e : ChargeEnv) (x : Nat) : Nat := x * unitCyc e.c

/-- W at an arbiter of this device. -/
def wait (e : ChargeEnv) (a : Arb) : Nat := waitUnits e.c e.n (rEff e.asked a) a

/-- R368: Σ (W + p) + (m − 1) × max W. Another device's requesters are all counted. -/
def leg (e : ChargeEnv) (l : Leg) : Nat :=
  let w (h : Hop) : Nat := if l.far then waitUnits e.c e.n (arbR h.1) h.1 else e.wait h.1
  (l.hops.map (fun h => w h + pipeUnits e.c h.1)).sum + (l.m - 1) * (l.hops.map w).foldl max 0

/-- W of a core's, or an engine's, port at its cluster's store. -/
def port (e : ChargeEnv) (k p : Nat) : Nat := e.wait (PlanView.bankHop k p).1

end ChargeEnv

/-- A quotient rounded up. -/
def ceilDiv (a b : Nat) : Nat := (a + b - 1) / b

namespace PlanView

/-- R406: F of an output port's group in sixteenths: FL_FWD_SHARE of the device there for what it forwards, the rest for its own. -/
def groupShare (v : PlanView) (h : LinkHop) : Nat :=
  let f := if h.pos = v.d.position then v.d.num 0x1700 3
    else ((v.f.peers.find? (fun p => p.pos == h.pos)).map (·.fwdShare)).getD 8
  if h.forwarded then f else 16 - f

/-- R406: the one-way latency measured at an output port, in ps: half of the round trip. -/
def linkLat (v : PlanView) (h : LinkHop) : Nat :=
  if h.pos = v.d.position then ceilDiv ((Map.get {} v.d.link.ports h.port).latPs.getD 0) 2
  else ((v.f.peers.find? (fun p => p.pos == h.pos)).bind (fun p => (p.lats.find? (fun l => l.1 == h.port)).map (·.2))).getD 0

/-- R406: V of a group at an output port in a season. -/
def groupSlots (v : PlanView) (s : Nat) (h : LinkHop) : Nat :=
  ((v.f.slots.filter (fun x => x.pos == h.pos && x.port == h.port && x.season == s && x.forwarded == h.forwarded)).map
    (·.slots)).sum

/-- R406: a hop of a link transfer, t_slot being 607.3 ps. -/
def linkHop (v : PlanView) (e : ChargeEnv) (h : LinkHop) : Nat :=
  ceilDiv ((v.groupSlots e.season h + 24) * 6073 * 256 * unitPs e.c) (10 * 15 * v.groupShare h) +
    v.linkLat h * unitPs e.c + e.ns 40

/-- The charge of a way. -/
def wayCharge (v : PlanView) (e : ChargeEnv) (w : Way) : Nat :=
  (w.legs.map e.leg).sum + (w.links.map (v.linkHop e)).sum

end PlanView

end Sys2Proof.Machine
end

