-- ==== Sys2Proof/Machine/Charge.lean ====
section
/-! DEFINITION. What the check charges each operation (R98, R111, R159, R160, R167, R202, R209, R238, R258, R259, R267, R275,
R284, R346, R347), and when a season's operations end (R348). The conventions are log entry 41. -/

namespace Sys2Proof.Machine

/-- R258: the clk of an operand-B sub-block: that of R89 for the declared K; 16 for a 4-bit tensor with K = 8, whose tiles may be
stored dense. -/
def subCharge (mode fmt width k : Nat) : Nat :=
  if (mode = 0 ∨ mode = 1) ∧ k ≠ 0 then
    if k = 8 then (if contBits fmt width = 4 then 16 else 8) else 4
  else 16

/-- R98: the clk in which an accumulate takes its positions; `k` is the declared bound of operand B. -/
def intakeClk (f : AccFields) (k : Nat) : Nat :=
  let mode := f.mode.toNat
  let len := f.len.toNat
  if mode = 0 ∧ f.run.toNat = 3 then 128 * len
  else if mode = 2 then f.widthA.toNat * f.widthB.toNat * (len / 4)
  else stretched (runLen mode f.run.toNat / 16) (List.replicate len (subCharge mode f.fmtB.toNat f.widthB.toNat k))

/-- R98, R284: an accumulate. -/
def accClk (f : AccFields) (a b : PlanFeed) (k : Nat) : Nat :=
  intakeClk f k + 15 + (if a.trans || b.trans then 16 else 0)

/-- R126: the elements that a vector operation takes per clk. -/
def vectorRate (vop : Nat) : Nat := if vop = 0x0E then 32 else if 8 ≤ vop ∧ vop ≤ 0xB then 16 else 64

/-- R259: the beats of the largest compressed tile; none for a 4-bit tile with K = 8, which is charged as dense. -/
def tileBeats (cb k : Nat) : Option Nat :=
  match cb, k with
  | 16, 2 => some 7 | 16, 4 => some 12 | 16, 8 => some 22
  | 8, 2 => some 8 | 8, 4 => some 14 | 8, 8 => some 26
  | 4, 2 => some 11 | 4, 4 => some 19
  | _, _ => none

/-- R159, R259: the cycles of a tile's fill behind its source latency. -/
def fillCycles (t : Option PlanTensor) : Nat :=
  match t with
  | some t => match tileBeats (contBits t.fmt t.width) t.k with
    | some b => 1 + b + 8
    | none => 37
  | none => 37

/-- R267: the beats that a mask job reads and writes for one mask tile; CPACK dense. -/
def maskBeats (m : MaskOp) (cb : Nat) : Nat :=
  let data := if cb = 16 then 66 else if cb = 8 then 33 else 17
  match m with
  | .capt => 32 + 1 + 1 + 4 + 8
  | .upd => 64 + 2 + 4 + 8 + 4
  | .apply => 2 * data + 4
  | .pack => 2 * data + 4
  | .check => 4

/-- R267: 24 cycles, and 16, or the beats, for each of COUNT mask tiles. -/
def maskJobCycles (m : MaskOp) (cb count : Nat) : Nat := 24 + count * max 16 (maskBeats m cb)

/-- R209: the beats of a reduction descriptor, and its cycles. `e` elements per tile, `bi` bytes of an element of all inputs,
`bo` of the output. -/
def redBeats (tiles e bi bo : Nat) : Nat := tiles * (ceilDiv (bi * e) 128 + ceilDiv (bo * e) 128)
def redCycles (tiles nin e bi bo : Nat) : Nat := 48 + tiles * max (ceilDiv (nin * e) 64) (max (ceilDiv (bi * e) 128) (ceilDiv (bo * e) 128))

/-- R274: a predictor descriptor with the load of its parameters. -/
def predLoadCycles (c : PredDesc) : Nat := predCycles c + ceilDiv (p1Bytes c + p2Bytes c) 128

namespace PlanView

/-! ### Random bits (R238) -/

/-- R238: the lane steps that an operation can ask of its bank per fabric cycle, by drawing unit, in units of 1/17,600. -/
def laneDemand (v : PlanView) (c : Nat) (w : OpWork) : List (Nat × Nat × Nat) :=
  let r := v.d.num 0x1901 1
  (workDraws w).filterMap (fun x =>
    if x.kind = 2 then none
    else some (x.cluster, x.unit, match w with
      | .drain .. => 16 * c * r
      | .vector _ op .. => vectorRate op * c * r
      | .convert .. => 64 * 1100 * r
      | _ => 256 * 1100 * 16))

/-- R238: the demand on a cluster's bank by what can run together with operation `i`: the greatest of each unit. -/
def bankDemand (v : PlanView) (c i : Nat) (o : PlanOp) (k : Nat) : Nat :=
  let ds := ((v.ops.filter (fun y => y.2 = i || v.atOnce i y.2)).flatMap (fun y => v.laneDemand c y.1.work)).filter
    (fun x => x.1 == k)
  let _ := o
  ((dedupNat (ds.map (·.2.1))).map (fun u => ((ds.filter (fun x => x.2.1 == u)).map (·.2.2)).foldl max 0)).sum

/-- R238: a drawing operation's time, stretched where the demand is above 256 lane steps per cycle. -/
def stretch (v : PlanView) (c i : Nat) (o : PlanOp) (t : Nat) : Nat :=
  match (v.laneDemand c o.work).head? with
  | some x => ceilDiv (t * max (v.bankDemand c i o x.1) (256 * 17600)) (256 * 17600)
  | none => t

/-- The openings that begin with an operation, over the kinds of step. -/
def beginsAt (v : PlanView) (i : Nat) : List PlanDraw :=
  (v.orders.flatMap (fun r => (v.openings r).filterMap (fun g => g.head?.bind (fun y => if y.2 = i then some y.1 else none)))).eraseDups

/-- R229, R238: the preparation of the openings that begin with an operation: 200 cycles each on one of four SHAKE units, 216 for a
SIGN stream, behind those of its cluster that can be prepared at the same time. -/
def prepCycles (v : PlanView) (i : Nat) : Nat :=
  let mine := v.beginsAt i
  match mine.head? with
  | none => 0
  | some x =>
    let others := (v.ops.filter (fun y => v.atOnce i y.2)).flatMap (fun y => (v.beginsAt y.2).filter (fun z => z.cluster == x.cluster))
    ceilDiv (mine.length + others.length) 4 * (if (mine ++ others).any (fun z => z.kind == 2) then 216 else 200)

/-- R238: what drawing adds to an operation: the preparation of its openings, and the wait of R235 once. -/
def drawCharge (v : PlanView) (e : ChargeEnv) (i : Nat) (o : PlanOp) : Nat :=
  match workDraws o.work with
  | [] => 0
  | x :: _ => e.cyc (v.prepCycles i) + e.wait (.rng (Fin.ofNat 96 x.cluster))

/-- R107, R347: one wait at the banks of each core's local memory that an operation passes. -/
def localWait (v : PlanView) (e : ChargeEnv) (o : PlanOp) : Nat :=
  ((v.localHops o).map (fun h => e.wait h.1)).foldl max 0

/-! ### Tiles in use (R159, R167) -/

/-- The declared K of a tensor. -/
def kOf (v : PlanView) (tsid : Nat) : Nat := ((v.tensor tsid).map (·.k)).getD 0

/-- The greatest sum of intakes over the engines of the accumulates that pass a test, in clk. -/
def engineUse (v : PlanView) (test : Nat → AccFields → PlanFeed → PlanFeed → Nat → Bool) : Nat :=
  let us := v.ops.filterMap (fun x => match x.1.work with
    | .accumulate g f a b => if test g f a b x.2 then some (8 * g.val + f.eng.val, intakeClk f (v.kOf b.tsid)) else none
    | _ => none)
  ((dedupNat (us.map (·.1))).map (fun u => ((us.filter (fun x => x.1 == u)).map (·.2)).sum)).foldl max 0

/-- R159: the engine time that one tile of a move into frames serves, in clk. -/
def moveUse (v : PlanView) (se : Se) (b : List Byte) : Nat :=
  let e := moveDesc b
  let fs := moveFills v.d se b
  let fed (g : Nat) (x : PlanFeed) : Bool :=
    x.frames.any (fun fr => fs.contains (g, fr)) && decide (e.src ≤ x.src) && decide (x.src < e.src + max 1 (e.count * e.sstride))
  ceilDiv (v.engineUse (fun g _ a b _ => fed g a || fed g b)) (max 1 e.count)

/-- R167: the engine time that a tile in a frame of a carousel serves before operation `i` passes it on, in clk. -/
def tileUse (v : PlanView) (fr : Nat × Nat) (i : Nat) : Nat :=
  v.engineUse (fun g _ a b j =>
    (a.frames ++ b.frames).any (fun x => (g, x) == fr) && v.before j i &&
    !v.ops.any (fun p => (match p.1.work with | .pass _ s _ _ => s == fr | _ => false) && v.before j p.2 && v.before p.2 i))

/-- The passes out of a frame, in order. -/
def passesFrom (v : PlanView) (fr : Nat × Nat) : List Nat :=
  v.ops.filterMap (fun p => match p.1.work with | .pass _ s _ _ => if s = fr then some p.2 else none | _ => none)

/-- R167: the members' T_use of a tile position: the greatest over the members of the frame's carousel, whose tiles of one position lie
in frames of one number (R164). -/
def passUse (v : PlanView) (fr : Nat × Nat) (i : Nat) : Nat :=
  let n := (v.passesFrom fr).idxOf i
  ((v.f.carousels.filter (fun c => c.cluster == fr.1 / 16 && c.members.contains (fr.1 % 16) && decide (c.base ≤ fr.2) &&
      decide (fr.2 ≤ c.base + c.share))).flatMap (fun c => c.members.map (fun m =>
    let x := (16 * c.cluster + m, fr.2)
    ((v.passesFrom x)[n]?.map (v.tileUse x)).getD 0))).foldl max 0

/-- R167: the passes of one tile position that a stream engine carries, and whether `fr` is a frame of the first member of one of its
carousels. -/
def passesOf (v : PlanView) (se : Nat) : Nat := ((v.f.carousels.filter (fun c => c.se == se)).map (fun c => c.members.length)).sum

def leadsTurn (v : PlanView) (fr : Nat × Nat) : Bool :=
  v.f.carousels.any (fun c => c.members.head?.map (fun m => 16 * c.cluster + m) == some fr.1 && decide (c.base ≤ fr.2) &&
    decide (fr.2 ≤ c.base + c.share))

/-! ### Latencies of sources (R159, R187) -/

/-- R187: the codes of a block-scaled tile: the line, then the codes, then their 32-byte beats. -/
def codeLatency (v : PlanView) (e : ChargeEnv) (se : Nat) (t : PlanTensor) : Nat :=
  let l := v.d.line (se / 4) t.tsid
  if l.blocked then
    e.port (se / 4) (16 + se % 4) + v.wayCharge e (v.way se l.bsa false) +
      e.cyc (ceilDiv (tileElems (contBits t.fmt t.width) / 32) 32)
  else 0

/-- R159: the worst source latency of a move. -/
def sourceLatency (v : PlanView) (e : ChargeEnv) (se : Se) (b : List Byte) : Nat :=
  let m := moveDesc b
  let t := v.tensorAt (m.src % 2 ^ 43)
  max (((v.moveWays se b).1.map (v.wayCharge e)).foldl max 0) ((t.map (v.codeLatency e se.val)).getD 0)

/-- R159, R259: T_fill of a move into frames. -/
def fillTime (v : PlanView) (e : ChargeEnv) (se : Se) (b : List Byte) : Nat :=
  v.sourceLatency e se b + e.cyc (fillCycles (v.tensorAt ((moveDesc b).src % 2 ^ 43)))

/-- R160: an operation is the first move of its layer into frames on its stream. -/
def firstFill (v : PlanView) (i : Nat) (o : PlanOp) : Bool :=
  o.layer.isSome && !v.ops.any (fun y => decide (y.2 < i) && y.1.resource == o.resource && y.1.layer == o.layer &&
    y.1.micro == o.micro && y.1.part == o.part && v.together i y.2 && !(workFills v.d y.1.work).isEmpty)

/-- R159, R160: a tile move: into frames, out of frames, from memory to memory. -/
def moveCharge (v : PlanView) (e : ChargeEnv) (i : Nat) (o : PlanOp) (se : Se) (b : List Byte) : Nat :=
  let m := moveDesc b
  if !(moveFills v.d se b).isEmpty then
    let fill := v.fillTime e se b
    let use := v.moveUse se b * unitClk
    m.count * (if m.dring ≤ 1 then use + fill else max use (ceilDiv fill (m.dring - 1))) + (if v.firstFill i o then fill else 0)
  else
    let out := ((v.moveWays se b).2.map (v.wayCharge e)).foldl max 0
    m.count * (v.sourceLatency e se b + out + e.cyc 33)

/-! ### Each operation -/

/-- R111: the wait for issue of an instruction of a thread. -/
def issueClk (v : PlanView) (o : PlanOp) : Nat :=
  match workCore o.work, o.thread with
  | some g, some _ => ceilDiv 1024 (max 1 (v.liveAtOnce g (·.thread)))
  | _, _ => 0

/-- R209: a reduction descriptor. -/
def reduceCharge (v : PlanView) (e : ChargeEnv) (k : Nat) (c : RedDesc) : Nat :=
  let ins := (List.range c.nin).map (fun i => v.tensorAt (Device.storeAddr k (c.xs.getD i 0)))
  let bits (t : Option PlanTensor) : Nat := (t.map (fun t => contBits t.fmt t.width)).getD 16
  let el := tileElems (bits (ins.headD none)) 
  let bi := (ins.map (fun t => bits t / 8)).sum
  let bo := if c.op = 0 then contBits c.fmto 0 / 8 else 0
  e.cyc (redCycles c.tiles c.nin el bi bo) + redBeats c.tiles el bi bo * e.port k 22

/-- R202: a converter descriptor, with two fallback sub-blocks for every output tile of an ESC tensor. -/
def convertCycles (v : PlanView) (k : Nat) (c : CvtDesc) : Nat :=
  let l := v.d.line k c.ztsid
  let falls := if l.esc then 2 * (c.units * (v.d.cvtOut k c |>.getD 0 []).length) else 0
  cvtCycles v.d k c l.blocked falls

/-- R347: the own time and the waits of an operation, in charge units. -/
def charge (v : PlanView) (e : ChargeEnv) (i : Nat) (o : PlanOp) : Nat :=
  let clk (x : Nat) : Nat := x * unitClk
  let issue := clk (v.issueClk o)
  let port (g : CoreN) : Nat := e.port (g.val / 16) (g.val % 16)
  let draw := v.drawCharge e i o + v.localWait e o
  match o.work with
  | .hub ns => e.ns ns
  | .accumulate _ f a b => issue + clk (accClk f a b (v.kOf b.tsid)) + draw
  | .drain g _ _ _ _ => issue + v.stretch e.c i o (clk 18) + draw + 2 * port g
  | .table g _ _ => issue + port g + draw
  | .vector _ op _ _ n _ _ => issue + v.stretch e.c i o (clk (ceilDiv n (vectorRate op))) + draw
  | .instructions _ n => n * (issue + v.localWait e o)
  | .move se b => v.moveCharge e i o se b + draw
  | .byteMove se s t n => e.cyc (ceilDiv n 128) + v.wayCharge e (v.way se.val s false) + v.wayCharge e (v.way se.val t true)
  | .pass se s _ _ =>
    if v.leadsTurn s then max (clk (v.passUse s i)) (e.cyc (33 * v.passesOf se.val + 16)) + draw else 0
  | .coreMove g st off _ _ _ =>
    issue + port g + draw + e.cyc (if st then 33 else fillCycles (v.tensorAt (Device.storeAddr (g.val / 16) off)))
  | .release _ _ => issue
  | .convert k b => v.stretch e.c i o (e.cyc (v.convertCycles k.val (parseCvt b))) + draw + e.port k.val 20
  | .reduce k b => v.reduceCharge e k.val (parseRed b)
  | .buildTable k _ => e.cyc 32 + 2 * (4 * e.port k.val 24)
  | .maskTiles k b =>
    let n := (parseMask b).count
    v.stretch e.c i o (e.cyc (128 * n)) + draw + 33 * n * (4 * e.port k.val 24)
  | .maskJob k op b =>
    match maskOpOf op with
    | some m =>
      let c := parseMaskJob b
      let cb := v.d.maskBitsOf k.val c m
      e.cyc (maskJobCycles m cb c.count) + maskBeats m cb * c.count * (2 * e.port k.val 23)
    | none => 0
  | .predict k b =>
    let c := parsePred b
    e.cyc (predLoadCycles c) + (33 * c.mt * c.dt + ceilDiv (p1Bytes c + p2Bytes c) 128 + ceilDiv (16 + 2 * c.gmax) 128) *
      (2 * e.port k.val 23)
  | .publish k t =>
    let n := bitsOf (v.d.load (Device.storeAddr k.val (v.d.lineOff k.val t + 64) + 0x14) 4) 30 24
    e.cyc (24 + 2 * n) + (3 + 2 * n) * (4 * e.port k.val 24)
  | .clearLine k _ => e.cyc 12 + 2 * (4 * e.port k.val 24)
  | .normCheck k _ => e.cyc 40 + 4 * e.port k.val 24
  | .closeHealth k => e.cyc 48 + 4 * e.port k.val 24
  | .postHealth k => e.cyc 64 + 4 * e.port k.val 24
  | .sequencer _ n => e.cyc n

end PlanView

/-! ### When operations end (R348) -/

/-- The pass of the step to which a layer's operations belong: forward, recomputation, backward, or none of these. -/
def partPass : OpPart → Nat
  | .forward => 0
  | .recompute => 1
  | .dataGrad => 2
  | .weightGrad => 2
  | _ => 3

/-- Two operations belong to the run of one layer: its pass for one micro-batch. -/
def sameLayer (a b : PlanOp) : Bool := a.layer == b.layer && a.micro == b.micro && partPass a.part == partPass b.part

/-- The finish times of the operations of one kind of step in a season, in charge units, in topological order. The operation
before on its resource comes first (R348); no operation of a layer starts before the layers before it have ended (R160). -/
def finishTimes (v : PlanView) (e : ChargeEnv) (kind : Nat) : List (Nat × Nat) :=
  let sel := kindOps v.f kind e.season
  let preds (i : Nat) : List Nat := match v.op? i with
    | some o => (opPreds v.f.ops i o ++ (sel.filter (fun j => decide (j < i) && o.layer.isSome && (match v.op? j with
          | some p => p.layer.isSome && !sameLayer p o
          | none => false)))).filter (fun p => sel.contains p)
    | none => []
  let fin (ts : List (Nat × Nat)) (p : Nat) : Nat := ((ts.find? (fun t => t.1 == p)).map (·.2)).getD 0
  (topoOrder preds sel.length sel []).foldl (fun ts i => match v.op? i with
    | none => ts
    | some o => ts ++ [(i, (preds i).foldl (fun t p => max t (fin ts p)) 0 + v.charge e i o)]) []

/-- The operations that miss their deadline, in topological order: index, finish and deadline, both in charge units. -/
def lateOps (v : PlanView) (c : Nat) (ts : List (Nat × Nat)) : List (Nat × Nat × Nat) :=
  ts.filterMap (fun x => match (v.op? x.1).bind (·.deadline) with
    | some dl => if dl * unitNs c < x.2 then some (x.1, x.2, dl * unitNs c) else none
    | none => none)

end Sys2Proof.Machine
end

