-- ==== Sys2Proof/Machine/CheckDevice.lean ====
section
/-! DEFINITION. What the check finds of the device and the torus: placements (R369), hub-core layers (R351), links (R414), background
demand (R494), the health stamp (R314, R324), the state of a restore (R516). -/

namespace Sys2Proof.Machine

/-- Lengths of the four seasons in sph. -/
def seasonLens (h : PlanHdr) : List Nat := [h.b1, h.b2 - h.b1, h.b3 - h.b2, 2 ^ 24 - h.b3]

namespace PlanView

/-! ### Placements (R369) and layers (R351) -/

/-- R289: the seasons in which a placement is live: those that PLACEMENTS gives; for gradient and running-gradient tiles also
those from the first backward product that touches the tensor to Autumn. -/
def liveSeasons (v : PlanView) (p : PlanPlacement) : Nat :=
  match p.tsid with
  | some t =>
    if v.role t = .gradient ∨ v.role t = .running then
      let l := (v.tensor t).map (·.layer)
      match (v.f.ops.filter (fun o => o.part == .weightGrad && o.layer == l)).map (·.season) with
      | [] => p.seasons
      | ss => p.seasons ||| ((List.range 3).filter (fun s => ss.any (fun x => decide (x ≤ s)))).foldl (fun m s => m ||| 2 ^ s) 0
    else p.seasons
  | none => p.seasons

/-- R182: the scale tables that the plan places. -/
def scaleTables (v : PlanView) : List (Nat × Nat) :=
  ((List.range 96).map (fun k => storeRange k (v.d.num 0x7050 1 (k + 1)) (128 * v.d.num 0x7050 2 (k + 1)))).filter (fun r => r.2 != 0)

/-- The ranges that a plan places, with their seasons: tiles, headers, tables and lists, reserves. -/
def placedRanges (v : PlanView) : List ((Nat × Nat) × Nat) :=
  v.f.placements.flatMap (fun p => (placeBytes p :: placeHdrs p).map (fun r => (r, v.liveSeasons p))) ++
  v.scaleTables.map (fun r => (r, 15)) ++ ((v.f.stores.map (fun b => (b.addr, b.data.length))).filter (fun r =>
    !v.scaleTables.any (fun t => decide (t.1 ≤ r.1) && decide (r.1 + r.2 ≤ t.1 + t.2)))).map (fun r => (r, 15)) ++
  v.f.reserves.map (fun r => ((r.base, 512 * reserveSlots v.d v.f r), 15))

/-- 0xA050: two ranges that are live in one season share a byte. -/
def overlapBreaks (v : PlanView) : List PlanBreak :=
  let rs := v.placedRanges.zipIdx
  rs.filterMap (fun x =>
    if rs.any (fun y => decide (y.2 < x.2) && x.1.2 &&& y.1.2 != 0 && rangesMeet x.1.1 y.1.1) then some (brk 0xA050 5 x.2) else none)

/-- 0xA050: a range outside the mapped memory, or in a DDR5 tier that is not whole. -/
def unmapped (v : PlanView) (r : (Nat × Nat) × Nat) : Bool :=
  let a := r.1.1
  let n := r.1.2
  n != 0 && !(match v.d.region a, v.d.region (a + n - 1) with
    | .hbm _, .hbm _ => true
    | .store _ _, .store _ _ => true
    | .localMem _ _, .localMem _ _ => true
    | .ddr _, .ddr _ => v.d.num 0x1800 3 == 0
    | _, _ => false)

/-- R351, 0xA00D: an engine operation of a layer that belongs on the hub cores. -/
def hubLayerBad (v : PlanView) (o : PlanOp) : Bool :=
  match o.layer, o.work with
  | some l, .accumulate .. => flagged l
  | some l, .drain .. => flagged l
  | some l, .table .. => flagged l
  | _, _ => false
where
  flagged (l : Nat) : Bool := match v.f.layers[l]? with
    | some x => x.first || x.last || x.sensitive
    | none => false

/-! ### The torus (R414) -/

/-- The positions of the members to or from which an operation transfers. -/
def peersReached (v : PlanView) (o : PlanOp) : List Nat :=
  match o.work with
  | .move se b =>
    let e := moveDesc b
    dedupNat ((List.range e.count).flatMap (fun j =>
      [(v.d.srcFrame (.se se) e j, e.src + j * e.sstride), (v.d.dstFrame (.se se) e j, e.dst + j * e.dstride)].filterMap (fun x =>
        match x.1, v.d.resolve x.2 with
        | none, .remote pos _ => some pos
        | _, _ => none)))
  | .byteMove _ s t _ => [s, t].filterMap (fun a => match v.d.resolve a with
    | .remote pos _ => some pos
    | _ => none)
  | _ => []

/-- No route will reach a position at S0. -/
def unreached (v : PlanView) (p : Nat) : Bool := bitOf (routeEntry v.d.shape v.d.downEntries v.d.position p) 2

/-- 0xA060: a transfer to a position that no route will reach at S0, or to a device number that the map in force then gives none. -/
def linkBreaks (v : PlanView) : List PlanBreak :=
  let at_ (n : Nat) : Nat := fieldB (v.d.domOf 0x1701 1) (2 * n) 2
  v.breaks 0xA060 13 (fun o _ => (v.peersReached o).any v.unreached) ++
  ((v.d.planDevs v.f).filter (fun n => !posValid v.d.shape (at_ n) || v.unreached (at_ n))).map (fun n =>
    brk 0xA060 13 ((v.f.ops.findIdx? (fun o => (v.peersReached o).contains (at_ n))).getD 0))

/-- The total of a list of slots for one port, season and group. -/
def slotTotal (l : List PlanSlots) (x : PlanSlots) : Nat :=
  ((l.filter (fun y => y.pos == x.pos && y.port == x.port && y.season == x.season && y.forwarded == x.forwarded)).map (·.slots)).sum

/-- 0xA061: a member that shares a port gives it another total. -/
def slotsDiffer (v : PlanView) (p : PlanPeer) : Bool :=
  p.slots.any (fun x => v.f.slots.any (fun y => y.pos == x.pos && y.port == x.port) && slotTotal p.slots x != slotTotal v.f.slots x) ||
  v.f.slots.any (fun x => p.slots.any (fun y => y.pos == x.pos && y.port == x.port) && slotTotal p.slots x != slotTotal v.f.slots x)

/-- 0xA062: FL_FWD_SHARE, FL_SHAPE or FL_NUMBER_MAP differs from a member's. -/
def settingsDiffer (v : PlanView) (p : PlanPeer) : Bool :=
  p.fwdShare != v.d.num 0x1700 3 || p.shape != v.d.num 0x1700 1 || p.map != v.d.domOf 0x1701 1

/-! ### Background work (R494) -/

/-- Σ over the seasons of floor(n_s × 2^-b_s), for grant slots of `t` ns. -/
def bgQuota (v : PlanView) (h : PlanHdr) (t : Nat) : Nat :=
  ((seasonLens h).zipIdx.map (fun x => x.1 * h.period / 2 ^ 24 / t / 2 ^ v.d.num 0x1301 (x.2 + 1))).sum

/-- R380, R492, R494: D of an HBM4 channel in one step: scrub reads at one per period ÷ 25,165,824, a calibration of 250 slots per
100 ms. A scrub read that is corrected adds a write-back; the demand counts none, as the manual's own example does. -/
def hbmDemand (v : PlanView) (h : PlanHdr) : Nat :=
  ceilDiv (h.period * 25165824) (max 1 (v.d.num 0x1802 1) * 3600000000000) + ceilDiv h.period 100000000 * 250

/-- R380, R492, R494: D of a DDR5 channel: one read per period ÷ (channel bytes ÷ 64), a ZQ calibration of 200 slots per 128 ms. -/
def ddrDemand (v : PlanView) (h : PlanHdr) : Nat :=
  ceilDiv (h.period * (v.d.num 0x1010 8 * 2 ^ 30 / 12 / 64)) (max 1 (v.d.num 0x1802 2) * 3600000000000) +
    ceilDiv h.period 128000000 * 200

/-- R494, 0xA072. -/
def backgroundBad (v : PlanView) (h : PlanHdr) : Bool :=
  decide (v.bgQuota h 4 < v.hbmDemand h) || (v.d.num 0x1010 8 != 0 && decide (v.bgQuota h 5 < v.ddrDemand h))

/-! ### Restore (R516) -/

/-- R61: what TENSORS says of a state tensor. -/
def stateTensors (f : PlanFacts) : List PlanTensor :=
  f.tensors.filter (fun t => [TensorRole.weight, .carry, .moment, .mask].contains t.role)

/-- R516, 0xA082: the state differs from that of the restore point's image: a tensor missing or of another shape, format, width or
mask bound; one more, unless a member was lost, whose shards the plan then takes. -/
def restoreDiffers (v : PlanView) : Bool :=
  match v.d.hv.restore with
  | none => false
  | some r =>
    match ([v.d.hv.slotA, v.d.hv.slotB].filterMap id).find? (fun i => i.isSealed && i.hnum == r.point) with
    | none => false
    | some i => match i.plan with
      | none => false
      | some g =>
        let same (a b : PlanTensor) : Bool := a.tsid == b.tsid && a.fmt == b.fmt && a.width == b.width && a.rows == b.rows &&
          a.cols == b.cols && a.k == b.k && a.role == b.role
        v.d.num 0x1500 6 == 1 && ((stateTensors g).any (fun t => !(stateTensors v.f).any (same t)) ||
          (g.members.length == v.f.members.length && (stateTensors v.f).any (fun t => !(stateTensors g).any (same t))))

/-! ### The health stamp (R314, R324) -/

/-- What the charges of a season rest on. -/
def chargeEnv (v : PlanView) (h : PlanHdr) (s : Nat) : ChargeEnv :=
  { c := h.clkFloor, n := v.d.num 0x1F00 1, season := s, asked := v.asked s }

/-- An operation of a health monitor: HCLOSE, HPOST, NCHK, or the programme of a monitor (R315, R317). -/
def ofMonitor (o : PlanOp) : Bool :=
  match o.work with
  | .normCheck .. => true
  | .closeHealth _ => true
  | .postHealth _ => true
  | .sequencer q _ => decide (576 ≤ q.val)
  | _ => false

/-- R317, R319: the time of the default programmes: a cluster's NCHKs, HCLOSE and HPOST from the start of Winter on, each with the wait at
port 24 for every beat; the device's runs at the stamp itself. -/
def defaultTime (v : PlanView) (e : ChargeEnv) (k : Nat) : Nat :=
  let n := (v.watchEntries k).length
  e.cyc (40 * n + 48 + 64) + (n + 2) * (4 * e.port k 24)

/-- R324, 0xA04E: a default programme that ends after the health stamp. -/
def defaultBreaks (v : PlanView) (h : PlanHdr) : List PlanBreak :=
  let e := v.chargeEnv h 3
  (List.range 96).filterMap (fun k =>
    if !v.ownMonitor (576 + k) && decide ((h.hstamp - h.b3) * h.period * unitNs e.c < v.defaultTime e k * 2 ^ 24) then
      some (brk 0xA04E 2 k)
    else none)

/-- 0xA04E, 0xA04F: monitor programmes, and evaluation work, that end after the health stamp. -/
def stampBreaks (v : PlanView) (h : PlanHdr) : List PlanBreak :=
  let e := v.chargeEnv h 3
  (planKinds h v.f).flatMap (fun kind => (finishTimes v e kind).filterMap (fun x => match v.op? x.1 with
    | some o =>
      if (h.hstamp - h.b3) * h.period * unitNs e.c < x.2 * 2 ^ 24 then
        (if ofMonitor o then some (brk 0xA04E 13 x.1) else if o.part = .eval then some (brk 0xA04F 13 x.1) else none)
      else none
    | none => none))

/-- What stands in the plan about this device and its torus. -/
def deviceBreaks (v : PlanView) (h : PlanHdr) : List PlanBreak :=
  v.breaks 0xA00D 13 (fun o _ => v.hubLayerBad o) ++
  breaksOf v.placedRanges 0xA050 5 v.unmapped ++ v.overlapBreaks ++ v.linkBreaks ++
  breaksOf v.f.peers 0xA061 1 v.slotsDiffer ++ breaksOf v.f.peers 0xA062 1 v.settingsDiffer ++
  (if v.backgroundBad h then [brk 0xA072 0 0] else []) ++ (if v.restoreDiffers then [brk 0xA082 4 0] else []) ++
  v.stampBreaks h ++ v.defaultBreaks h

/-! ### Dirty bytes (R350, R510) -/

/-- R350, R503, R510: every state tile and mask tile placed, and what metadata goes beyond 8 GiB. -/
def dirtyBytes (v : PlanView) : Nat :=
  let tiles := ((v.f.placements.filter (fun p => (stateTensors v.f).any (fun t => p.tsid == some t.tsid))).map
    (fun p => p.tile * p.count)).sum
  let meta_ := (v.f.hvRegs.map (·.len)).sum - tiles
  tiles + (meta_ - 2 ^ 33)

end PlanView

end Sys2Proof.Machine
end

