-- ==== Sys2Proof/Machine/Scalar.lean ====
section
/-! DEFINITION. Move operations of a core (R121). -/

namespace Sys2Proof.Machine

/-- R121: RD = RS1 op (RS2 + IMM sign-extended). -/
def alu (d : Device) (g t : Nat) (rd rs1 rs2 : Reg) (imm : BitVec 32) (op : W64 → W64 → W64) : Device :=
  d.issue g t (fun d x => d.writeReg g t rd (op (x.reg rs1) (x.reg rs2 + sext32 imm)))

/-- The shift amount, bits [5:0]. -/
def shamt (v : W64) : Nat := v.toNat % 64

def execMovi (g : CoreN) (t : Thr) (rd : Reg) (imm : BitVec 32) (s : State) : Out :=
  s.run (fun d => d.issue g t (fun d _ => d.writeReg g t rd (sext32 imm)))

/-- RD[63:32] = IMM; RD[31:0] kept. -/
def execMovhi (g : CoreN) (t : Thr) (rd : Reg) (imm : BitVec 32) (s : State) : Out :=
  s.run (fun d => d.issue g t (fun d x => d.writeReg g t rd (imm ++ (x.reg rd).setWidth 32)))

def execAdd (g : CoreN) (t : Thr) (rd rs1 rs2 : Reg) (imm : BitVec 32) (s : State) : Out :=
  s.run (fun d => alu d g t rd rs1 rs2 imm (· + ·))

def execSub (g : CoreN) (t : Thr) (rd rs1 rs2 : Reg) (imm : BitVec 32) (s : State) : Out :=
  s.run (fun d => alu d g t rd rs1 rs2 imm (· - ·))

def execAndB (g : CoreN) (t : Thr) (rd rs1 rs2 : Reg) (imm : BitVec 32) (s : State) : Out :=
  s.run (fun d => alu d g t rd rs1 rs2 imm (· &&& ·))

def execOrB (g : CoreN) (t : Thr) (rd rs1 rs2 : Reg) (imm : BitVec 32) (s : State) : Out :=
  s.run (fun d => alu d g t rd rs1 rs2 imm (· ||| ·))

def execXorB (g : CoreN) (t : Thr) (rd rs1 rs2 : Reg) (imm : BitVec 32) (s : State) : Out :=
  s.run (fun d => alu d g t rd rs1 rs2 imm (· ^^^ ·))

def execShl (g : CoreN) (t : Thr) (rd rs1 rs2 : Reg) (imm : BitVec 32) (s : State) : Out :=
  s.run (fun d => alu d g t rd rs1 rs2 imm (fun a b => a <<< shamt b))

def execShr (g : CoreN) (t : Thr) (rd rs1 rs2 : Reg) (imm : BitVec 32) (s : State) : Out :=
  s.run (fun d => alu d g t rd rs1 rs2 imm (fun a b => a >>> shamt b))

def execSra (g : CoreN) (t : Thr) (rd rs1 rs2 : Reg) (imm : BitVec 32) (s : State) : Out :=
  s.run (fun d => alu d g t rd rs1 rs2 imm (fun a b => a.sshiftRight (shamt b)))

/-- R121: RD = low 64 bits of RS1 × RS2; MUL takes no immediate. -/
def execMul (g : CoreN) (t : Thr) (rd rs1 rs2 : Reg) (_imm : BitVec 32) (s : State) : Out :=
  s.run (fun d => d.issue g t (fun d x => d.writeReg g t rd (x.reg rs1 * x.reg rs2)))

/-- The local offset RS1 + IMM of a scalar access. -/
def scalarOff (x : Thread) (rs1 : Reg) (imm : BitVec 32) : Nat := (x.reg rs1 + sext32 imm).toNat

/-- R140: a local offset beyond 1 MiB or misaligned is not accessed. -/
def localBad (off : Nat) : Bool := off % 8 != 0 || decide (0x100000 ≤ off)

/-- A 64-bit load from local memory (R108, R121, R140). -/
def loadLocal (d : Device) (g t : Nat) (rd : Reg) (off : Nat) (ecc : EccRead) : Device :=
  if localBad off then (d.badDesc g).advance g t
  else
    let d := d.sramHit (Device.localAddr g off) ecc
    if (d.thread g t).st ≠ .ready then d else d.writeReg g t rd (BitVec.ofNat 64 (d.load (Device.localAddr g off) 8))

def execLdl (g : CoreN) (t : Thr) (rd rs1 : Reg) (imm : BitVec 32) (ecc : EccRead) (s : State) : Out :=
  s.run (fun d => d.issue g t (fun d x => loadLocal d g t rd (scalarOff x rs1 imm) ecc))

def execStl (g : CoreN) (t : Thr) (rs1 rs2 : Reg) (imm : BitVec 32) (s : State) : Out :=
  s.run (fun d => d.issue g t (fun d x =>
    let off := scalarOff x rs1 imm
    if localBad off then (d.badDesc g).advance g t
    else (d.store (Device.localAddr g off) 8 (x.reg rs2).toNat).advance g t))

/-- A cluster-store access of a core: misaligned, it is a bad descriptor; beyond the store, it reaches nothing (R30, R31,
R140). -/
def storeBad (d : Device) (g off n : Nat) : Option Device :=
  if off % n ≠ 0 then some (d.badDesc g)
  else if 0x1000000 ≤ off then some (d.storeMiss g off)
  else none

/-- A 64-bit load from the own cluster's store; an access that reaches nothing returns zeros (R31). -/
def loadStore (d : Device) (g t : Nat) (rd : Reg) (off : Nat) (ecc : EccRead) : Device :=
  match storeBad d g off 8 with
  | some d' => if off % 8 ≠ 0 then d'.advance g t else d'.writeReg g t rd 0
  | none =>
    let k := Device.clusterOf g
    let d := d.sramHit (Device.storeAddr k off) ecc
    d.writeReg g t rd (BitVec.ofNat 64 (d.load (Device.storeAddr k off) 8))

def execLdc (g : CoreN) (t : Thr) (rd rs1 : Reg) (imm : BitVec 32) (ecc : EccRead) (s : State) : Out :=
  s.run (fun d => d.issue g t (fun d x => loadStore d g t rd (scalarOff x rs1 imm) ecc))

def execStc (g : CoreN) (t : Thr) (rs1 rs2 : Reg) (imm : BitVec 32) (s : State) : Out :=
  s.run (fun d => d.issue g t (fun d x =>
    let off := scalarOff x rs1 imm
    match storeBad d g off 8 with
    | some d' => d'.advance g t
    | none => (d.storeW (Device.storeAddr (Device.clusterOf g) off) 8 (x.reg rs2).toNat).advance g t))

/-- R112: an entry joins the core's move queue, 16 entries; a full queue makes the thread wait and issue again. -/
def queueMove (d : Device) (g t : Nat) (e : MoveEnt) : Device :=
  if 16 ≤ (d.core g).moveq.length then d.waitQueue g t .move
  else (d.modCore g (fun c => { c with moveq := c.moveq ++ [{ e with thread := some t }] })).advance g t

/-- The header address of the tile at store offset `off` of core `g`'s cluster; none where the offset does not reach the store,
is not that of a tile (R29) or is named by no placement of the plan. -/
def storeTile (d : Device) (g off : Nat) : Option Nat :=
  if off % 4096 ≠ 0 || 0x1000000 ≤ off then none else d.headerOf (Device.storeAddr (Device.clusterOf g) off)

/-- R121: TLD. The tile's header lies where the admitted plan places it; an address that does not reach the store or that
no placement names follows R31 when the load unit carries the move out. -/
def execTld (g : CoreN) (t : Thr) (rs1 rs2 : Reg) (imm : BitVec 32) (s : State) : Out :=
  s.run (fun d => d.issue g t (fun d x =>
    let f := (x.reg rs2).toNat % 256
    let off := (x.reg rs1).toNat
    let a := Device.storeAddr (Device.clusterOf g) off
    let h := storeTile d g off
    if 240 ≤ f then (d.badDesc g).advance g t
    else queueMove d g t
      { kind := .tiles, src := a, srch := h.getD 0, miss := h.isNone,
        dst := Device.localAddr g (frameOff f), dsth := Device.localAddr g (hdrOff f),
        scnt := imm.toNat % 64, score := 2 ^ (g.val % 16), trans := imm.getLsbD 6 }))

/-- R121: TST. -/
def execTst (g : CoreN) (t : Thr) (rs1 rs2 : Reg) (imm : BitVec 32) (s : State) : Out :=
  s.run (fun d => d.issue g t (fun d x =>
    let f := (x.reg rs2).toNat % 256
    let off := (x.reg rs1).toNat
    let a := Device.storeAddr (Device.clusterOf g) off
    let h := storeTile d g off
    if 240 ≤ f then (d.badDesc g).advance g t
    else queueMove d g t
      { kind := .tiles, src := Device.localAddr g (frameOff f), srch := Device.localAddr g (hdrOff f),
        dst := a, dsth := h.getD 0, miss := h.isNone, outward := true,
        scnt := imm.toNat % 64, score := 2 ^ (g.val % 16), rel := imm.getLsbD 7 }))

/-- R121: release frame (RS1 + IMM)[7:0]; a frame number of 240 or more is a bad descriptor (R140). -/
def execFrel (g : CoreN) (t : Thr) (rs1 : Reg) (imm : BitVec 32) (s : State) : Out :=
  s.run (fun d => d.issue g t (fun d x =>
    let f := scalarOff x rs1 imm % 256
    if 240 ≤ f then (d.badDesc g).advance g t
    else (d.releaseFrame g f).advance g t))

def execSetstr (g : CoreN) (t : Thr) (rs1 : Reg) (s : State) : Out :=
  s.run (fun d => d.issue g t (fun d x =>
    (d.setThread g t { x with handle := (x.reg rs1).setWidth 32 }).advance g t))

def execRdph (g : CoreN) (t : Thr) (rd : Reg) (s : State) : Out :=
  s.run (fun d => d.issue g t (fun d _ => d.writeReg g t rd (d.stamp.setWidth 64)))

/-- RD[15:0] = thread number; RD[31:16] = logical global core number; RD[63:32] is free (log entry 20). -/
def execRdid (g : CoreN) (t : Thr) (rd : Reg) (s : State) : Out :=
  s.run (fun d => d.issue g t (fun d _ =>
    let fr := d.drawFree
    fr.2.writeReg g t rd (Config.upper32 fr.1 ++ BitVec.ofNat 32 (t.val + g.val * 65536))))

end Sys2Proof.Machine
end

