-- ==== Sys2Proof/Machine/Sync.lean ====
section
/-! DEFINITION. Sync operations of a core (R123, R128 to R131) and the reserved instruction (R124). A thread that waits
keeps its PC; the command that ends the wait moves it on. -/

namespace Sys2Proof.Machine

def CoreS.counter (c : CoreS) (sc : Nat) : W32 := Map.get 0 c.sync sc

/-- R123: SC − target, as a signed 32-bit difference, is not negative. -/
def syncReached (c : CoreS) (sc : Nat) (tgt : W32) : Bool := !(c.counter sc - tgt).msb

namespace Device

/-- The thread waits in a state. -/
def waitIn (d : Device) (g t : Nat) (st : ThState) : Device :=
  d.setThread g t { d.thread g t with st := st, sinceNs := d.time.nowNs }

/-- The end of a wait: READY at the next instruction. -/
def wake (d : Device) (g t : Nat) : Device := (d.waitIn g t .ready).advance g t

end Device

def execWait (g : CoreN) (t : Thr) (rs1 : Reg) (imm : BitVec 32) (s : State) : Out :=
  s.run (fun d => d.issue g t (fun d x =>
    let sc := imm.toNat % 64
    let tgt : W32 := (x.reg rs1).setWidth 32
    if syncReached (d.core g) sc tgt then d.advance g t else d.waitIn g t (.waitSync sc tgt)))

/-- SC[IMM[5:0]] += IMM[31:16]. -/
def execSig (g : CoreN) (t : Thr) (imm : BitVec 32) (s : State) : Out :=
  s.run (fun d => d.issue g t (fun d _ =>
    (d.addSync g (imm.toNat % 64) (imm.toNat / 65536)).advance g t))

def execBar (g : CoreN) (t : Thr) (s : State) : Out :=
  s.run (fun d => d.issue g t (fun d _ => d.waitIn g t .waitBar))

/-- Moves of the thread that are still in the core's move queue. -/
def movesOf (c : CoreS) (t : Nat) : Bool := c.moveq.any (fun e => e.thread == some t)

def execFence (g : CoreN) (t : Thr) (s : State) : Out :=
  s.run (fun d => d.issue g t (fun d _ =>
    if movesOf (d.core g) t then d.waitIn g t .waitMem else d.advance g t))

/-- R123: an atomic on 32 bits, or on 64 when IMM[0] is 1, at a naturally aligned offset: RD takes the old value and the
word becomes `f old`. An offset beyond the store reaches nothing: RD takes zeros (R31). A misaligned one raises 0x7022 as a
misaligned load or store does, and the thread goes on (DESIGN CHOICE, log entry 84: R140 names local offsets only). -/
def atomic (d : Device) (g t : Nat) (rd rs1 : Reg) (imm : BitVec 32) (f : Thread → Nat → Nat) : Device :=
  d.issue g t (fun d x =>
    let n := if imm.getLsbD 0 then 8 else 4
    let off := (x.reg rs1).toNat
    match storeBad d g off n with
    | some d' => if off % n ≠ 0 then d'.advance g t else d'.writeReg g t rd 0
    | none =>
      let a := Device.storeAddr (Device.clusterOf g) off
      let old := d.load a n
      (d.storeW a n (f x old % 2 ^ (8 * n))).writeReg g t rd (BitVec.ofNat 64 old))

def execAadd (g : CoreN) (t : Thr) (rd rs1 rs2 : Reg) (imm : BitVec 32) (hits : Hits) (s : State) : Out :=
  s.issueHits g t hits (fun d => atomic d g t rd rs1 imm (fun x old => old + (x.reg rs2).toNat))

/-- If the old word equals RD, it becomes RS2. -/
def execAcas (g : CoreN) (t : Thr) (rd rs1 rs2 : Reg) (imm : BitVec 32) (hits : Hits) (s : State) : Out :=
  s.issueHits g t hits (fun d => atomic d g t rd rs1 imm (fun x old =>
    let w := if imm.getLsbD 0 then 2 ^ 64 else 2 ^ 32
    if old = (x.reg rd).toNat % w then (x.reg rs2).toNat else old))

def execAmax (g : CoreN) (t : Thr) (rd rs1 rs2 : Reg) (imm : BitVec 32) (hits : Hits) (s : State) : Out :=
  s.issueHits g t hits (fun d => atomic d g t rd rs1 imm (fun x old =>
    let w := if imm.getLsbD 0 then 2 ^ 64 else 2 ^ 32
    max old ((x.reg rs2).toNat % w)))

/-- R123, R131: the watched word has 64 bits, as RS2 (log entry 19). -/
def watchedWord (d : Device) (g off : Nat) : W64 :=
  BitVec.ofNat 64 (d.load (Device.storeAddr (Device.clusterOf g) off) 8)

/-- R131. A misaligned offset raises 0x7022, one beyond the store 0x4008, and the thread goes on without comparing (DESIGN CHOICE,
log entry 84: the manual is silent on both). -/
def execWatch (g : CoreN) (t : Thr) (rs1 rs2 : Reg) (hits : Hits) (s : State) : Out :=
  s.issueHits g t hits (fun d => d.issue g t (fun d x =>
    let off := (x.reg rs1).toNat
    match storeBad d g off 8 with
    | some d' => d'.advance g t
    | none =>
      if watchedWord d g off ≠ x.reg rs2 then d.advance g t
      else if 64 ≤ (d.core g).watch.length then d.waitQueue g t .watch
      else (d.modCore g (fun c => { c with watch := c.watch ++ [(t.val, off)] })).waitIn g t
        (.waitWatch off (x.reg rs2))))

def execWaitph (g : CoreN) (t : Thr) (rs1 : Reg) (s : State) : Out :=
  s.run (fun d => d.issue g t (fun d x =>
    let st : W32 := (x.reg rs1).setWidth 32
    if stampReached d.stamp st then d.advance g t else d.waitIn g t (.waitPhase st)))

/-- R124: event 0x7020, the thread FAULTED, the step tainted. -/
def execReservedInstruction (g : CoreN) (t : Thr) (s : State) : Out :=
  s.run (fun d => d.issue g t (fun d _ => d.faultThread g t 0x7020))

end Sys2Proof.Machine
end

