-- ==== Sys2Proof/Machine/Xmss.lean ====
section
/-! DEFINITION. XMSS-SHAKE256_20_256, which R454 and R458 name by NIST SP 800-208 without defining it: the check of a signature
against a public key. PRESUMED (log entry 81). -/

namespace Sys2Proof.Machine

namespace Xmss

/-- A number of `n` bytes, most significant first, as XMSS writes them. -/
def beBytes (n v : Nat) : List Byte := (leBytes n v).reverse
def beNat (l : List Byte) : Nat := leNat l.reverse

/-- The keyed hash with domain number `fn`: 0 chaining, 1 tree nodes, 2 messages, 3 pseudorandom values. -/
def keyed (fn : Nat) (key m : List Byte) : List Byte := shake256 (beBytes 32 fn ++ key ++ m) 32

/-- What the last four words of a hash address say; their meaning goes with `kind`: 0 chains, 1 leaf trees, 2 the main tree. -/
structure Addr where
  kind : Nat
  a : Nat
  b : Nat
  c : Nat
  deriving DecidableEq, Repr

/-- The address as 32 bytes: layer and tree 0, the kind, three words, and which value of that place is drawn. -/
def Addr.bytes (x : Addr) (which : Nat) : List Byte :=
  beBytes 12 0 ++ beBytes 4 x.kind ++ beBytes 4 x.a ++ beBytes 4 x.b ++ beBytes 4 x.c ++ beBytes 4 which

/-- The pseudorandom value number `which` of a place. -/
def drawn (seed : List Byte) (x : Addr) (which : Nat) : List Byte := keyed 3 seed (x.bytes which)

def xorBytes (l m : List Byte) : List Byte := (l.zip m).map (fun p => p.1 ^^^ p.2)

/-- One step of a chain. -/
def chainStep (seed : List Byte) (x : Addr) (v : List Byte) : List Byte :=
  keyed 0 (drawn seed x 0) (xorBytes v (drawn seed x 1))

/-- A node from its two children. -/
def joinNodes (seed : List Byte) (x : Addr) (l r : List Byte) : List Byte :=
  keyed 1 (drawn seed x 0) (xorBytes l (drawn seed x 1) ++ xorBytes r (drawn seed x 2))

/-- The 67 base-16 digits of a message digest: its 64 nibbles, high one first, and the checksum's three. -/
def digits (m : List Byte) : List Nat :=
  let ds := m.flatMap (fun b => [b.toNat / 16, b.toNat % 16])
  let sum := (ds.map (fun n => 15 - n)).sum
  ds ++ [sum / 256 % 16, sum / 16 % 16, sum % 16]

/-- The end of chain `i` of leaf `leaf` from the value that the signature gives, at step `n`. -/
def chainEnd (seed : List Byte) (leaf i n : Nat) (v : List Byte) : List Byte :=
  (List.range (15 - n)).foldl (fun v j => chainStep seed ⟨0, leaf, i, n + j⟩ v) v

/-- One level of a leaf's tree: pairs are joined, an odd last node goes up as it is. -/
def leafLevel (seed : List Byte) (leaf h : Nat) : Nat → List (List Byte) → List (List Byte)
  | i, l :: r :: rest => joinNodes seed ⟨1, leaf, h, i⟩ l r :: leafLevel seed leaf h (i + 1) rest
  | _, l => l

/-- The leaf: 67 chain ends joined over seven levels. -/
def leafOf (seed : List Byte) (leaf : Nat) (ends : List (List Byte)) : List Byte :=
  ((List.range 7).foldl (fun ns h => leafLevel seed leaf h 0 ns) ends).headD []

/-- The root from leaf number `leaf` and the 20 nodes of its authentication path. -/
def rootFrom (seed : List Byte) (leaf : Nat) (node : List Byte) (auth : List (List Byte)) : List Byte :=
  auth.zipIdx.foldl (fun n a =>
    let x : Addr := ⟨2, 0, a.2, leaf / 2 ^ (a.2 + 1)⟩
    if leaf / 2 ^ a.2 % 2 = 0 then joinNodes seed x n a.1 else joinNodes seed x a.1 n) node

/-- The `n` parts of 32 bytes from offset `off` on. -/
def parts (s : List Byte) (off n : Nat) : List (List Byte) := (List.range n).map (fun i => sliceB s (off + 32 * i) 32)

/-- A signature of 2,820 bytes (index, randomness, 67 chain values, 20 path nodes) over `m` verifies under a public key of 68 bytes
(OID, root, seed). -/
def verifies (pub sig m : List Byte) : Bool :=
  let root := sliceB pub 4 32
  let seed := sliceB pub 36 32
  let leaf := beNat (sig.take 4)
  let md := keyed 2 (sliceB sig 4 32 ++ root ++ beBytes 32 leaf) m
  let ends := ((digits md).zip (parts sig 36 67)).zipIdx.map (fun x => chainEnd seed leaf x.2 x.1.1 x.1.2)
  pub.length == 68 && sig.length == 2820 && beNat (pub.take 4) == 0x12 && decide (leaf < 2 ^ 20) &&
    rootFrom seed leaf (leafOf seed leaf ends) (parts sig 2180 20) == root

end Xmss

end Sys2Proof.Machine
end

