-- ==== Sys2Proof/Machine/ThawOps.lean ====
section
/-! DEFINITION. What the Thaw establishes (chapter 15): firmware slots, the repair record, the start-up test's settlement,
memory training and the steps (R447 to R460, R470). -/

namespace Sys2Proof.Machine

/-! ### Manifests (R457 to R459) -/

/-- R458: an entry of a manifest: TYPE, OFFSET, LENGTH and DIGEST. -/
structure MfEntry where
  type : Nat
  off : Nat
  len : Nat
  digest : List Byte
  rsvd : Nat

def mfEntries (m : List Byte) : List MfEntry :=
  (List.range (fieldB m 6 2)).map (fun i =>
    let a := 0x80 + 48 * i
    { type := fieldB m a 1, off := fieldB m (a + 4) 4, len := fieldB m (a + 8) 4, digest := sliceB m (a + 16) 32,
      rsvd := fieldB m (a + 1) 3 + fieldB m (a + 12) 4 })

/-- The image of a TYPE in a slot. -/
def slotImage (m : List Byte) (ty : Nat) : List Byte :=
  match (mfEntries m).find? (fun e => e.type == ty) with
  | some e => sliceB m e.off e.len
  | none => []

/-- The image of a TYPE matches its digest. -/
def imageMatches (m : List Byte) (ty : Nat) : Bool :=
  match (mfEntries m).find? (fun e => e.type == ty) with
  | some e => shake256 (sliceB m e.off e.len) 32 == e.digest
  | none => false

/-- The first 8 bytes of the digest that the manifest gives for a TYPE. -/
def imageDigest (m : List Byte) (ty : Nat) : Nat :=
  match (mfEntries m).find? (fun e => e.type == ty) with
  | some e => leNat (e.digest.take 8)
  | none => 0

def slotSvn (m : List Byte) : Nat := fieldB m 8 4

/-- The bytes of a manifest that are signed. -/
def signedPart (m : List Byte) : List Byte := m.take (0x80 + 48 * fieldB m 6 2)

/-- R458: PUBKEY is the key whose digest the boot ROM holds for KEYSEL, and SIG over all bytes before it verifies under it. -/
def manifestSigned (m : List Byte) : Bool :=
  let key := sliceB m 0x20 68
  shake256 key 32 == (List.range 32).map (Config.romKeyDigest (fieldB m 5 1)) &&
    Xmss.verifies key (sliceB m (0x80 + 48 * fieldB m 6 2) 2820) (signedPart m)

/-- R458: the manifest verifies. -/
def manifestOk (m : List Byte) : Bool :=
  let es := mfEntries m
  fieldB m 0 4 == 0x4E4D5A41 && fieldB m 4 1 == 1 && decide (fieldB m 5 1 ≤ 1) &&
  decide (3 ≤ es.length) && decide (es.length ≤ 16) && fieldB m 0xC 4 == 0 && fieldB m 0x64 28 == 0 &&
  manifestSigned m &&
  es.all (fun e => e.rsvd == 0 && decide (1 ≤ e.type) && decide (e.type ≤ 3) && decide (e.off + e.len ≤ 2 ^ 26)) &&
  [1, 2, 3].all (fun t => (es.filter (fun e => e.type == t)).length == 1)

/-- R457: a slot is valid. -/
def slotOk (m : List Byte) (floor : Nat) : Bool :=
  manifestOk m && decide (floor ≤ slotSvn m) && imageMatches m 1

/-! ### The repair record (R454, R455) -/

/-- MAGIC, VER, the serial number and every field in range; signature and IDKEY are the command's. -/
def repairOk (r serial : List Byte) : Bool :=
  r.length == 3092 && fieldB r 0 4 == 0x52505A41 && fieldB r 4 4 == 1 &&
  sliceB r 8 16 == (serial ++ List.replicate 16 0).take 16 && fieldB r 0x38 8 == 0 &&
  (List.range 4).all (fun i => decide (fieldB r (0x40 + i) 1 ≤ 24) && decide (fieldB r (0x44 + i) 1 ≤ 1)) &&
  (List.range 100).all (fun c => decide (fieldB r (0x48 + 2 * c) 2 % 32 ≤ 16) && decide (fieldB r (0x48 + 2 * c) 2 < 64))

/-! ### The start-up test (R456) -/

namespace Thaw

/-- The enabled core positions of a physical cluster: the spare stands in for a failed one. -/
def goodCores (rep : List Byte) (bad : List Nat) (c : Nat) : List Nat :=
  let h := hidCo rep c
  let spare := !hidCoBad rep c && !bad.contains (17 * c + h)
  let on := (List.range 17).filter (fun q => q != h && !bad.contains (17 * c + q))
  if on.length < 16 && spare then (List.range 17).filter (fun q => q == h || on.contains q) else on

/-- How many enabled core positions of a cluster failed, and whether its spare covers them. -/
def coreFails (rep : List Byte) (bad : List Nat) (c : Nat) : Nat :=
  ((List.range 17).filter (fun q => q != hidCo rep c && bad.contains (17 * c + q))).length

def coreSpare (rep : List Byte) (bad : List Nat) (c : Nat) : Nat :=
  b2n (!hidCoBad rep c && !bad.contains (17 * c + hidCo rep c))

/-- The spare cluster of a die passes. -/
def spareOk (rep : List Byte) (badCl badCo : List Nat) (die : Nat) : Bool :=
  let c := 25 * die + hidCl rep die
  !hidClBad rep die && !badCl.contains c && decide (16 ≤ 16 - coreFails rep badCo c + coreSpare rep badCo c)

/-- The cluster that the spare of a die replaces. -/
def replaced (rep : List Byte) (badCl badCo : List Nat) (die : Nat) : Option Nat :=
  let on := ((List.range 25).filter (fun p => p != hidCl rep die)).map (fun p => 25 * die + p)
  let soft := on.filter (fun c => decide (coreSpare rep badCo c < coreFails rep badCo c))
  if !spareOk rep badCl badCo die then none
  else match on.find? (fun c => badCl.contains c) with
    | some c => some c
    | none =>
      let most := (soft.map (fun c => coreFails rep badCo c)).foldl max 0
      soft.find? (fun c => coreFails rep badCo c == most)

/-- The enabled clusters of a die in ascending position. -/
def goodClusters (rep : List Byte) (badCl badCo : List Nat) (die : Nat) : List Nat :=
  let r := replaced rep badCl badCo die
  ((List.range 25).map (fun p => 25 * die + p)).filter (fun c =>
    if c = 25 * die + hidCl rep die then r.isSome else !badCl.contains c && r != some c)

end Thaw

/-! ### The control image (R461 to R463) -/

/-- Chunk `k` of an image. -/
def chunkBytes (im : List Byte) (k : Nat) : List Byte :=
  let count := (im.length + 4095) / 4096
  let data := sliceB im (4096 * k) 4096
  let head (crc : Nat) : List Byte :=
    leBytes 1 1 ++ leBytes 1 0 ++ leBytes 2 k ++ leBytes 2 count ++ leBytes 2 data.length ++ leBytes 4 crc ++ leBytes 20 0
  head (crc32c (head 0 ++ data)) ++ data

/-- A chunk of a KIND whose CRC passes and whose fields lie in range. -/
def chunkGood (b : List Byte) (kind : Nat) : Bool :=
  let len := fieldB b 6 2
  fieldB b 0 1 == kind && fieldB b 1 1 == 0 && fieldB b 0xC 20 == 0 && b.length == 32 + len &&
  fieldB b 8 4 == crc32c (overB b 8 [0, 0, 0, 0]) && decide (1 ≤ fieldB b 4 2) && decide (fieldB b 4 2 ≤ 64) &&
  (if kind = 1 then decide (1 ≤ len) && decide (len ≤ 4096) && decide (fieldB b 2 2 < fieldB b 4 2)
   else len == 32 && fieldB b 2 2 == fieldB b 4 2)

namespace Device

def slotOf (d : Device) (s : Nat) : List Byte := if s = 0 then d.flash.slot0 else d.flash.slot1
def setSlot (d : Device) (s : Nat) (b : List Byte) : Device :=
  if s = 0 then { d with flash := { d.flash with slot0 := b } } else { d with flash := { d.flash with slot1 := b } }

def thawStep (d : Device) : Nat := d.num 0x1D04 2
/-- R447: a step begins; its limit counts from now. -/
def setThawStep (d : Device) (n : Nat) : Device :=
  { d.setNum 0x1D04 2 0 n with thaw := { d.thaw with stepNs := d.time.nowNs } }

/-- R447: the limits of the steps, in ns; those of steps 1 and 2 end in what the boot ROM finds (log entry 7). -/
def thawLimitNs : Nat → Nat
  | 3 => 200000000 | 4 => 50000000 | 5 => 50000000 | 6 => 2000000000 | 7 => 1000000 | 8 => 2000000 | 9 => 20000000
  | 10 => 1500000000 | 11 => 1000000 | _ => 6000000000

/-- R447: a step has reached its limit: step 6 counts from its own start, step 12 from the start of step 3. -/
def thawLate (d : Device) (n : Nat) : Bool :=
  decide ((if n = 6 then d.thaw.memNs else if n = 12 then d.thaw.fwNs else d.thaw.stepNs) + thawLimitNs n ≤ d.time.nowNs)

/-- A Thaw is under way. -/
def thawing (d : Device) : Bool := d.thaw.began && d.runState == 0 && !d.thaw.romRecovery

/-! ### Steps 1 to 3 -/

/-- R452, R464: the identity key. -/
def idPub : List Byte := (List.range 68).map Config.idPubkey

/-- R447 step 3: the records of the flash, the event log, the training of the ports in use. -/
def startFirmware (d : Device) (s : Nat) (boot : BootFacts) : Device :=
  let m := d.slotOf s
  let name := (sliceB m 0x10 16).reverse.dropWhile (· == 0) |>.reverse
  let d := ((d.setNum 0x1D00 1 0 s).setDom 0x1D00 2 0 name).setNum 0x1D00 3 0 (slotSvn m)
  let d := d.setDom 0x1D00 5 0 (shake256 (signedPart m) 32)
  let d := { d with thaw := { d.thaw with fwNs := d.time.nowNs } }.setThawStep 3
  let early := d.evt.early
  let d := early.foldl (fun d r => d.logRec r) { d with evt := { d.evt with early := [] } }
  let d := (d.loadAge).setNum 0x1D00 4 0 (d.flashNum .floor)
  let d := (d.setDom 0x1D02 1 0 idPub).setNum 0x1D02 6 0 (d.flashNum .index)
  let d := d.setNum 0x1D02 7 0 (d.flashNum .index)
  let d := if (d.flashRec .index).isNone then (d.setNum 0x1D02 5 0 2).raise 0x700B 0 0 3
    else if !boot.treeOk then d.setNum 0x1D02 5 0 1 else d
  let creds := (d.flashRec .creds).getD []
  let d := d.setDom 0x1D03 3 0 ((List.range (creds.length / 84)).flatMap (fun i => sliceB creds (84 * i) 36))
  let d := if (d.flashRec .creds).isNone then d.raise 0x700F 0 0 3 else d
  let d := if imageMatches m 3 then d else d.raise 0x7005 0 0 3 (imageDigest m 3)
  let sh := (d.flashRec .shape).getD []
  let d := ((d.setNum 0x1700 1 0 (fieldB sh 0 2)).setNum 0x1700 2 0 (fieldB sh 2 2)).setNum 0x1010 9 0 (fieldB sh 2 2 % 4096)
  let d := { d with link := { d.link with shapeNow := fieldB sh 0 2, posNow := fieldB sh 2 2, mapNow := none } }
  let d := d.setDom 0x1701 3 0 (routeTable d.shape [] d.position)
  forN 12 d (fun d p =>
    if portUsed d.shape p then ((d.pdPut (pdP p) 0).recordWake (pdP p) 0).trainStart p false
    else d.setNum 0x70B0 1 (p + 1) 4)

/-- R457: ROM recovery: hub firmware is not started. -/
def enterRecovery (d : Device) (firstBad : Nat) : Device :=
  { d with thaw := { d.thaw with romRecovery := true, firstBad := firstBad } }.setThawStep 2

/-- R447 step 2, R457: the preferred slot first, then the other. -/
def selectSlot (d : Device) (boot : BootFacts) : Device :=
  let d := d.setThawStep 2
  let alt := bitOf d.thaw.straps 5 && !d.thaw.recovered
  let first := if alt then 1 - d.flash.preferred else d.flash.preferred
  let ok (s : Nat) : Bool := !d.thaw.badSlots.contains s &&
    slotOk (d.slotOf s) (d.flashNum .floor)
  if ok first then d.startFirmware first boot
  else if ok (1 - first) then
    let d := { d with flash := { d.flash with fallbacks := d.flash.fallbacks + 1 } }
    (d.raise 0x7002 0 0 (1 - first)).startFirmware (1 - first) boot
  else (d.raise 0x7004 0 0 first).enterRecovery ((d.thaw.badSlots ++ [first]).headD first)

/-- R447 steps 1 and 2, R452, R552: the straps are sampled, the device key is reconstructed in at most three reads. -/
def startThaw (d : Device) (boot : BootFacts) : Device :=
  let s := d.thaw.straps
  let trip := (d.flashRec .trip).getD []
  let d := ((d.setNum 0x1605 3 0 s).setNum 0x1200 5 0 (s % 2)).setNum 0x1605 4 0 d.pwr.vinMv
  let d := ((d.setNum 0x1605 1 0 (fieldB trip 0 1)).setNum 0x1605 2 0 (fieldB trip 1 4)).setThawStep 1
  let d := d.setNum 0x1D00 6 0 d.flash.fallbacks
  let d := { d with thaw := { d.thaw with began := true } }
  if !(boot.puf.take 3).contains true then d.raise 0x7001 0 0 1
  else if bitOf s 6 && !d.thaw.recovered then d.enterRecovery 0
  else d.selectSlot boot

/-- R447: a slot whose hub firmware fails step 3 or 11 is invalid for the rest of this Thaw; step 2 is repeated. -/
def slotFails (d : Device) (boot : BootFacts) : Device :=
  let bad := d.thaw.badSlots ++ [d.num 0x1D00 1]
  let d := d.domainsOff
  let t : ThawS := { began := true, straps := d.thaw.straps, recovered := d.thaw.recovered, badSlots := bad }
  ({ d with thaw := t }).selectSlot boot

/-! ### Steps 4 to 8 -/

/-- R455: the first copy that is accepted; else 0x7003. -/
def acceptRepair (d : Device) (boot : BootFacts) : Device :=
  let serial := d.domOf 0x1000 4
  let ok (i : Nat) (r : List Byte) : Bool := boot.repair.getD i false && repairOk r serial
  let pick := if ok 0 d.flash.repairA then some d.flash.repairA else if ok 1 d.flash.repairB then some d.flash.repairB else none
  match pick with
  | none => d.raise 0x7003 0 0 4
  | some r =>
    let d := (d.setDom 0x1D04 5 0 (shake256 r 32)).setThawStep 5
    let d := forN 4 d (fun d i => (d.setNum 0x7002 2 (i + 1) (Thaw.hidCl r i)).setNum 0x7002 1 (i + 1)
      (if Thaw.hidClBad r i then 0xFF else Thaw.hidCl r i))
    { d with thaw := { d.thaw with
      repair := r,
      clBad := ((List.range 4).filter (Thaw.hidClBad r)).map (fun i => 25 * i + Thaw.hidCl r i),
      coBad := ((List.range 100).filter (Thaw.hidCoBad r)).map (fun c => 17 * c + Thaw.hidCo r c) } }

/-- R21: the fabric and its edges. Memory training begins and runs alongside (step 6); step 7 follows. -/
def startFabric (d : Device) (boot : BootFacts) : Device :=
  if !boot.edgesOk then d.raise 0x400A
  else
    let d := forN boot.laneRepairs d (fun d _ => d.raise 0x4009)
    let d := forN 4 d (fun d i => (d.pdPut (pdF i) 0).recordWake (pdF i) 0)
    { d with thaw := { d.thaw with memPending := true, memNs := d.time.nowNs } }.setThawStep 7

/-- R28, R379, R447 step 6: the stacks and channels that trained, and the DIMMs of each channel. -/
def memTrained (d : Device) (boot : BootFacts) : Device :=
  if !d.thaw.memPending then d
  else
    let d := { d with thaw := { d.thaw with memPending := false } }
    let d := forN 16 d (fun d h =>
      if boot.hbm.getLsbD h then (d.pdPut (pdH h) 0).recordWake (pdH h) 0
      else (d.setNum 0x70A0 1 (h + 1) 1).raise 0x4007 0x70A0 (h + 1))
    let d := forN 2 d (fun d i => (d.pdPut (pdD i) 0).recordWake (pdD i) 0)
    let up (c : Nat) : Bool := boot.ddr.getLsbD c && decide (1 ≤ (boot.dimms.getD c (0, 0)).1)
    let d := forN 12 d (fun d c =>
      let x := boot.dimms.getD c (0, 0)
      (((d.setNum 0x70A1 1 (c + 1) (b2n (!up c))).setNum 0x70A1 2 (c + 1) (min x.1 2)).setNum 0x70A1 3 (c + 1)
        (x.1 * x.2)))
    let whole := (List.range 12).all (fun c => up c && boot.dimms.getD c (0, 0) == boot.dimms.getD 0 (0, 0))
    if whole then
      let x := boot.dimms.getD 0 (0, 0)
      (d.setNum 0x1800 3 0 0).setNum 0x1010 8 0 (12 * x.1 * x.2)
    else ((d.setNum 0x1800 3 0 1).setNum 0x1010 8 0 0).raise 0x4013

/-- R451: at the limit of step 7 or 8 every domain of it that is not good is held off. -/
def holdOff (d : Device) (cores : Bool) : Device :=
  let rep := d.thaw.repair
  if cores then
    let late := (List.range 1536).filter (fun g => d.pdState (pdCo g) != 0)
    let spare := (List.range 1700).filter (fun x => !d.thaw.coUp.contains x &&
      (x % 17 == Thaw.hidCo rep (x / 17) || (x / 17 % 25 == Thaw.hidCl rep (x / 17 / 25))))
    let d := late.foldl (fun d g => d.pdPut (pdCo g) 2) d
    { d with thaw := { d.thaw with coBad := dedupNat (d.thaw.coBad ++ late.map (Thaw.provCore rep) ++ spare) } }
  else
    let late := (List.range 96).filter (fun k => d.pdState (pdCl k) != 0)
    let spare := ((List.range 4).map (fun i => 25 * i + Thaw.hidCl rep i)).filter (fun c => !d.thaw.clUp.contains c)
    let d := late.foldl (fun d k => d.pdPut (pdCl k) 2) d
    { d with thaw := { d.thaw with clBad := dedupNat (d.thaw.clBad ++ late.map (Thaw.provCluster rep) ++ spare) } }

/-! ### Steps 9 to 11 -/

/-- The physical number of a core position. -/
def posIdx (cp : CorePos) : Nat := 17 * (25 * cp.die.val + cp.pos.val) + cp.core.val

/-- The position of a logical core once numbers are fixed (R35). -/
def physCore (d : Device) (g : Nat) : Nat := 17 * (25 * (g / 384) + d.num 0x7000 1 (g / 16 + 1)) + d.num 0x7001 1 (g + 1)

/-- The logical core that a position carries, none for a spare; while the Thaw runs by R23 alone. -/
def provLogical (d : Device) (x : Nat) : Option Nat :=
  (List.range 1536).find? (fun g =>
    (if d.thawStep < 12 then Thaw.provCore d.thaw.repair g else d.physCore g) == x)

/-- The core at a position is up. -/
def corePosUp (d : Device) (x : Nat) : Bool :=
  match d.provLogical x with
  | some g => d.pdState (pdCo g) == 0
  | none => d.thaw.coUp.contains x

def img (d : Device) (x : Nat) : ImgS := Map.get {} d.thaw.img x
def setImg (d : Device) (x : Nat) (i : ImgS) : Device := { d with thaw := { d.thaw with img := Map.set {} d.thaw.img x i } }

/-- R463: a logical core whose domain is on and whose control image was released. -/
def coreUp (d : Device) (g : Nat) : Bool := d.pdState (pdCo g) == 0 && (d.img (d.physCore g)).released

/-- A position counts as having failed the start-up test. -/
def failPos (d : Device) (x : Nat) : Device :=
  if d.thaw.coBad.contains x then d else { d with thaw := { d.thaw with coBad := d.thaw.coBad ++ [x] } }

/-- R456: the failed positions after the test: what it found, what was held off, what was not released. -/
def testFails (d : Device) (cores clusters : List Nat) : Device :=
  let unreleased := (List.range 1700).filter (fun x => !(d.img x).released)
  { d with thaw := { d.thaw with
      coBad := dedupNat (d.thaw.coBad ++ cores ++ unreleased), clBad := dedupNat (d.thaw.clBad ++ clusters) } }

/-- R456 steps 1 to 3: the events of the settlement. -/
def settleEvents (d : Device) : Device :=
  let rep := d.thaw.repair
  let cl := d.thaw.clBad
  let co := d.thaw.coBad
  let d := forN 4 d (fun d die =>
    let on := Thaw.goodClusters rep cl co die
    let d := on.foldl (fun d c =>
      if 1 ≤ Thaw.coreFails rep co c && Thaw.coreSpare rep co c == 1
      then d.raise 0x7007 0 0 d.thawStep else d) d
    if (Thaw.replaced rep cl co die).isSome then d.raise 0x7007 0 0 d.thawStep else d)
  forN 96 d (fun d k =>
    match (Thaw.goodClusters rep cl co (k / 24))[k % 24]? with
    | none => d.raise 0x7008 0x7000 (k + 1) d.thawStep
    | some c =>
      let n := (Thaw.goodCores rep co c).length
      (List.range 16).foldl (fun d l => if n ≤ l then d.raise 0x7008 0x7001 (16 * k + l + 1) d.thawStep else d) d)

/-- R23, R456 step 3: the topology objects. -/
def numberUnits (d : Device) : Device :=
  let rep := d.thaw.repair
  let cl := d.thaw.clBad
  let co := d.thaw.coBad
  forN 96 d (fun d k =>
    match (Thaw.goodClusters rep cl co (k / 24))[k % 24]? with
    | none =>
      let d := ((d.setNum 0x7000 1 (k + 1) 0xFF).setNum 0x7000 2 (k + 1) 2).pdPut (pdCl k) 2
      forN 16 d (fun d l => ((d.setNum 0x7001 1 (16 * k + l + 1) 0xFF).setNum 0x7001 2 (16 * k + l + 1) 2).pdPut
        (pdCo (16 * k + l)) 2)
    | some c =>
      let d := ((d.setNum 0x7000 1 (k + 1) (c % 25)).setNum 0x7000 2 (k + 1) 0).pdPut (pdCl k) 0
      let qs := Thaw.goodCores rep co c
      forN 16 d (fun d l =>
        let g := 16 * k + l
        match qs[l]? with
        | some q => ((d.setNum 0x7001 1 (g + 1) q).setNum 0x7001 2 (g + 1) 0).pdPut (pdCo g) 0
        | none => ((d.setNum 0x7001 1 (g + 1) 0xFF).setNum 0x7001 2 (g + 1) 2).pdPut (pdCo g) 2))

/-- Counts of units in service and of spares left, and the throughput in permille (R35, R515). -/
def recountUnits (d : Device) : Device :=
  let cl := ((List.range 96).filter (fun k => d.num 0x7000 2 (k + 1) != 2)).length
  let co := ((List.range 1536).filter (fun g => d.num 0x7001 2 (g + 1) != 2)).length
  let used := (List.range 96).map (fun k => 25 * (k / 24) + d.num 0x7000 1 (k + 1))
  let d := (d.setNum 0x1010 4 0 cl).setNum 0x1010 5 0 co
  let d := (d.setNum 0x1010 6 0 d.thaw.spareCl.length).setNum 0x1010 7 0
    (d.thaw.spareCo.filter (fun x => used.contains (x / 17))).length
  d.setNum 0x1500 7 0 (1000 * co / 1536)

/-- R456 step 4: the spares that passed and were not used; they are lowered to off. -/
def settleSpares (d : Device) : Device :=
  let rep := d.thaw.repair
  let cl := d.thaw.clBad
  let co := d.thaw.coBad
  let spCl := ((List.range 4).filter (fun i => Thaw.spareOk rep cl co i && (Thaw.replaced rep cl co i).isNone)).map
    (fun i => 25 * i + Thaw.hidCl rep i)
  let spCo := ((List.range 100).filter (fun c => Thaw.coreSpare rep co c == 1 && Thaw.coreFails rep co c == 0)).map
    (fun c => 17 * c + Thaw.hidCo rep c)
  let d := forN 4 d (fun d i =>
    d.setNum 0x7002 1 (i + 1) (if spCl.contains (25 * i + Thaw.hidCl rep i) then Thaw.hidCl rep i else 0xFF))
  let d := forN 1700 d (fun d x => if spCo.contains x || spCl.contains (x / 17) then d.setImg x {} else d)
  { d with thaw := { d.thaw with spareCl := spCl, spareCo := spCo, clUp := [], coUp := [] } }

/-! ### Ready (R470) -/

/-- Step 12 has ended: every port in use is up or down, and memory is trained. -/
def gateDone (d : Device) : Bool :=
  !d.thaw.memPending && (List.range 12).all (fun p => d.num 0x70B0 1 (p + 1) != 1)

/-- R447 step 13. -/
def thawReady (d : Device) : Device :=
  let ms := d.time.nowNs / 1000000
  let up := ((List.range 12).filter (fun p => bitOf (d.num 0x1700 6) p)).length
  let d := ((d.setThawStep 13).setNum 0x1D04 1 0 ms).setNum 0x1100 1 0 1
  let d := d.setDom 0x1701 3 0 (routeTable d.shape d.downEntries d.position)
  let d := ({ d with link := { d.link with routesPend := false } }).recomputeTree
  d.raise 0x700A 0 0 (d.num 0x1010 5 + d.num 0x1010 4 * 2 ^ 16 + up * 2 ^ 32) ms

end Device

end Sys2Proof.Machine
end

