-- ==== Sys2Proof/Machine/CoreEvents.lean ====
section
/-! DEFINITION. What happens in a core without an instruction: the ends of waits (R110, R112, R123, R131), frame release
(R106), scale waits and reports (R189, R191), dispatchers and launch groups (R135 to R139), the hang limit (R141). -/

namespace Sys2Proof.Machine

/-! ### Ends of waits -/

/-- Whether the queue a thread waits for has a free entry. -/
def queueFree (c : CoreS) (q : QWait) : Bool :=
  match q with
  | .eng e => decide ((c.queue e).length < 8)
  | .move => decide (c.moveq.length < 16)
  | .watch => decide (c.watch.length < 64)

/-- R112: the thread becomes READY and will issue the same instruction again. -/
def execQueueEntryFreed (g : CoreN) (t : Thr) (s : State) : Out :=
  s.run (fun d => match (d.thread g t).st with
    | .waitQueue q => if queueFree (d.core g) q then d.waitIn g t .ready else d
    | _ => d)

def execWaitSyncSatisfied (g : CoreN) (t : Thr) (s : State) : Out :=
  s.run (fun d => match (d.thread g t).st with
    | .waitSync sc tgt => if syncReached (d.core g) sc tgt then d.wake g t else d
    | _ => d)

def execFenceComplete (g : CoreN) (t : Thr) (s : State) : Out :=
  s.run (fun d => match (d.thread g t).st with
    | .waitMem => if movesOf (d.core g) t then d else d.wake g t
    | _ => d)

/-- Threads of a launch group that have neither halted nor faulted (R110, R123). -/
def unhalted (c : CoreS) (grp : Nat) : List Nat :=
  (List.range 1024).filter (fun t =>
    let x := c.thread t
    (Map.get {} c.groups grp).threads.contains t && x.group == grp && x.st != .free && x.st != .faulted)

def execBarrierRelease (g : CoreN) (grp : Grp) (s : State) : Out :=
  s.run (fun d =>
    let ts := unhalted (d.core g) grp
    if (Map.get {} (d.core g).groups grp.val).live && ts.all (fun t => (d.thread g t).st == .waitBar) then
      ts.foldl (fun d t => d.wake g t) d
    else d)

/-- R129: every thread of the core whose stamp is reached goes on. -/
def execPhaseStampReached (g : CoreN) (s : State) : Out :=
  s.run (fun d => forN 1024 d (fun d t => match (d.thread g t).st with
    | .waitPhase st => if stampReached d.stamp st then d.wake g t else d
    | _ => d))

/-- R123, R131: the watched word differs; the watch entry is free again. -/
def execWatchWake (g : CoreN) (t : Thr) (hits : Hits) (s : State) : Out :=
  s.runHits hits (fun d => match (d.thread g t).st with
    | .waitWatch off v =>
      if watchedWord d g off ≠ v then
        (d.modCore g (fun c => { c with watch := c.watch.filter (fun w => w.1 != t.val) })).wake g t
      else d
    | _ => d)

/-! ### Frames, scales, reports -/

/-- R106: a requested release takes effect once no read is left; a carousel frame waits for its PASS (R165). -/
def execFrameRelease (g : CoreN) (f : Fin 240) (s : State) : Out :=
  s.run (fun d =>
    let x := d.frame g f
    if x.st == .full && x.release && x.reads == 0 && !x.carousel then d.emptyFrame g f else d)

/-- The line of a queued drain, read again where it is waiting on it (R189). -/
def rereadOp (d : Device) (k tsid : Nat) (op : EngOp) : EngOp :=
  match op with
  | .drain f o a h l since late =>
    if (outDesc o).tsid = tsid && d.lineWaits k tsid l then .drain f o a h (d.line k tsid) since late else op
  | op => op

/-- R189: waiting drains of the cluster read the written line again; a converter descriptor reads its line when it runs. -/
def execScaleLineWritten (k : Cluster) (tsid : BitVec 16) (hits : Hits) (s : State) : Out :=
  s.runHits hits (fun d => forN 16 d (fun d l => forN 8 d (fun d e =>
    let q := (d.core (16 * k + l)).queue e
    let q' := q.map (rereadOp d k tsid.toNat)
    if q' = q then d else d.modCore (16 * k + l) (fun c => c.setQueue e q'))))

/-- R189: a wait that began at `since` − 1 has lasted SCALE_WAIT_LIMIT ph, in wall time at the admitted period. -/
def Device.scaleWaited (d : Device) (since : Nat) : Bool :=
  since != 0 && decide (d.force 0x1910 4 * d.num 0x1200 4 ≤ (d.time.nowNs + 1 - since) * 65536)

/-- R189: the wait reached SCALE_WAIT_LIMIT: the writer uses the line as it stands; event 0x2106, the step tainted. -/
def execScaleWaitLimit (w : Writer) (s : State) : Out :=
  s.run (fun d => match w with
    | .eng g e =>
      match firstOp ((d.core g).queue e) EngOp.isDrain with
      | some (i, .drain f o a h l since false) =>
        let ts := (outDesc o).tsid
        if d.lineWaits (Device.clusterOf g) ts l && d.scaleWaited since then
          (d.modCore g (fun c => c.setQueue e ((c.queue e).set i (.drain f o a h l since true)))).raise 0x2106 0x7010 (g + 1) 0 ts
        else d
      | _ => d
    | .cvt k =>
      match (d.clu k).cvt with
      | some j =>
        let ts := fieldB j.desc 0x30 2
        if !j.worked && !j.late && d.lineWaits k ts (d.line k ts) && d.scaleWaited j.since then
          (d.modClu k (fun c => { c with cvt := some { j with late := true } })).raise 0x2106 0x7050 (k + 1) 0 ts
        else d
      | none => d)

/-- R191: one buffered report goes out. -/
def execScaleReportFlush (g : CoreN) (e : Eng) (tsid : BitVec 16) (s : State) : Out :=
  s.run (fun d =>
    let rs := Map.get [] (d.core g).reports e.val
    match rs.find? (fun r => r.tsid == tsid.toNat) with
    | some r =>
      (d.modCore g (fun c => { c with
        reports := Map.set [] c.reports e.val (rs.filter (fun r => r.tsid != tsid.toNat)) })).reportLine
        (Device.clusterOf g) r.tsid r.smax r.sats
    | none => d)

/-! ### Work lists -/

/-- R132: the fields of a work-list header, all within its 128 bytes. -/
structure ListHdr where
  tail : Nat
  base : Nat
  cap : Nat
  claimers : Nat
  head : Nat
  deriving DecidableEq, Repr

def listHdr (d : Device) (k h : Nat) : ListHdr :=
  let a := Device.storeAddr k h
  { tail := d.load a 4, base := d.load (a + 4) 4, cap := d.load (a + 8) 2, claimers := d.load (a + 0xA) 2,
    head := d.load (a + 0x40) 4 }

/-- R133: a record of 64 bytes. -/
structure WorkRec where
  seq : Nat
  state : Nat
  kind : Nat
  nthr : Nat
  entry : Nat
  donecnt : Nat
  notBefore : W32
  deadline : Nat
  args : List W64
  crcOk : Bool
  deriving DecidableEq, Repr

def parseRec (b : List Byte) : WorkRec :=
  { seq := fieldB b 0 4, state := fieldB b 4 1, kind := fieldB b 5 1, nthr := fieldB b 6 2, entry := fieldB b 8 2,
    donecnt := fieldB b 0xA 1, notBefore := BitVec.ofNat 32 (fieldB b 0xC 4), deadline := fieldB b 0x10 4,
    args := (List.range 4).map (fun i => BitVec.ofNat 64 (fieldB b (0x18 + 8 * i) 8)),
    crcOk := fieldB b 0x3C 4 == crc32c (b.take 4 ++ [0] ++ sliceB b 5 0x33 ++ [0, 0] ++ sliceB b 0x3A 2) }

/-- R139: the record is refused. A non-zero RSVD field is no reserved code: it is ignored, as in an instruction (R124; DESIGN CHOICE,
log entry 84). -/
def recBad (r : WorkRec) (h : Nat) : Bool :=
  r.seq != h || !r.crcOk || decide (1 < r.kind) || decide (5 < r.state) || decide (63 < r.donecnt)
    || (r.kind == 0 && (r.nthr == 0 || decide (1024 < r.nthr))) || (r.kind == 1 && r.nthr != 0) || decide (8191 < r.entry)

namespace Device

/-- FREE threads of a core, lowest first, and its live groups. -/
def freeThreads (d : Device) (g : Nat) : List Nat :=
  (List.range 1024).filter (fun t => (d.thread g t).st == .free)
def liveGroups (d : Device) (g : Nat) : List Nat :=
  (List.range 64).filter (fun i => (Map.get {} (d.core g).groups i).live)

/-- The 64 bytes of a record; beyond the store they read as zeros (R31). -/
def recBytes (d : Device) (k off : Nat) : List Byte :=
  if off + 64 ≤ 0x1000000 then d.bytes (storeAddr k off) 64 else List.replicate 64 0

/-- A write into a record; beyond the store it is discarded (R31). -/
def recStore (d : Device) (k rec_ at_ n v : Nat) : Device :=
  if rec_ + 64 ≤ 0x1000000 then d.store (storeAddr k (rec_ + at_)) n v else d

/-- A record completes or is refused: its STATE, DONE and SC[DONECNT]. A refused record's DONECNT above 63 counts modulo 64
(DESIGN CHOICE, log entry 35). -/
def endRecord (d : Device) (g hdr rec_ st donecnt : Nat) : Device :=
  let k := clusterOf g
  let d := d.recStore k rec_ 4 1 st
  let a := storeAddr k (hdr + 0x44)
  let d := d.store a 4 ((d.load a 4 + 1) % 2 ^ 32)
  d.addSync g donecnt 1

/-- R137, R337: event 0x1011 where the stamp has reached DEADLINE. -/
def pastDeadline (d : Device) (g deadline : Nat) : Device :=
  let dl : W32 := BitVec.ofNat 32 deadline
  if deadline ≠ 0xFFFFFFFF && stampReached d.stamp dl then d.raise 0x1011 0x7020 (g + 1) 0 0xFFF else d

/-- R141: from which position, and from which wall time in ns at the admitted period, the hang limit of a record counts: its
DEADLINE, or the boundary that ends the present season. -/
def hangBase (d : Device) (deadline : Nat) : Nat × Int :=
  let p : Int := d.absPos
  let q : Int := if deadline = 0xFFFFFFFF then (d.lastBefore : Int) + 1
    else p + (BitVec.ofNat 32 deadline - d.stamp).toInt
  (q.toNat, (d.time.nowNs : Int) + (q - p) * (d.num 0x1200 4 : Int) / 2 ^ 24)

/-- R137: the NTHR lowest FREE threads become a launch group, under the lowest free group number (DESIGN CHOICE, log entry
35). -/
def launch (d : Device) (g hdr rec_ : Nat) (r : WorkRec) : Device :=
  let ts := (d.freeThreads g).take r.nthr
  let gi := ((List.range 64).find? (fun i => !(Map.get {} (d.core g).groups i).live)).getD 0
  let y : Group := { live := true, header := hdr, recOff := rec_, seq := r.seq, threads := ts, deadline := r.deadline,
                     doneCnt := r.donecnt, basePos := (d.hangBase r.deadline).1, baseNs := (d.hangBase r.deadline).2 }
  let d := d.modCore g (fun c => { c with groups := Map.set {} c.groups gi y })
  (ts.zipIdx).foldl (fun d ti =>
    let regs : Map W64 := (r.args.zipIdx).foldl (fun m a => Map.set 0 m (a.2 + 1) a.1) []
    let regs := Map.set 0 regs 5 (BitVec.ofNat 64 ti.2)
    let regs := Map.set 0 regs 6 (BitVec.ofNat 64 r.nthr)
    let regs := Map.set 0 regs 7 (BitVec.ofNat 64 r.seq)
    d.setThread g ti.1 { pc := BitVec.ofNat 13 r.entry, st := .ready, handle := 0, group := gi, regs := regs, sinceNs := d.time.nowNs }) d

/-- A claimed record: launched, completed at once (MARK), or refused (R137, R139). -/
def launchOrRefuse (d : Device) (g hdr rec_ h : Nat) : Device :=
  let k := clusterOf g
  let r := parseRec (d.recBytes k rec_)
  let d := d.addNum 0x7020 3 (g + 1) 1
  if recBad r h then (d.endRecord g hdr rec_ 4 r.donecnt).raise 0x400B 0x7020 (g + 1) (storeAddr k rec_) h
  else
    let d := d.recStore k rec_ 4 1 2
    let d := d.recStore k rec_ 0x38 2 (g % 16)
    if r.kind = 1 then (d.endRecord g hdr rec_ 3 r.donecnt).pastDeadline g r.deadline
    else d.launch g hdr rec_ r

/-- R136: the poll loop; `n` bounds the records that can be claimed. -/
def pollLoop (g l hdr : Nat) : Nat → Device → Device
  | 0, d => d
  | n + 1, d =>
    let k := clusterOf g
    let h := listHdr d k hdr
    if h.head = h.tail then d
    else
      let r := h.base + h.head % h.cap * 64
      let d := if 0x1000000 < r + 64 then d.storeMiss g r else d
      let b := d.recBytes k r
      let nb : W32 := BitVec.ofNat 32 (fieldB b 0xC 4)
      if (d.freeThreads g).length < fieldB b 6 2 || (d.liveGroups g).length = 64 then
        d.modCore g (fun c => { c with lack := Map.set false c.lack l true })
      else if !stampReached d.stamp nb then
        d.modCore g (fun c => { c with armed := Map.set none c.armed l (some nb) })
      else
        pollLoop g l hdr n ((d.store (storeAddr k (hdr + 0x40)) 4 ((h.head + 1) % 2 ^ 32)).launchOrRefuse g hdr r h.head)

/-- The header of LIST `l` of a core, none where no list is attached. -/
def listAt (d : Device) (g l : Nat) : Option Nat :=
  let hdr := d.num 0x7021 (l + 1) (g + 1)
  if hdr = 0xFFFFFFFF then none else some hdr

/-- The season under way as one number, plus 1. -/
def seasonSlot (d : Device) : Nat := 4 * d.cad.step + d.season + 1

/-- The TAIL of the list at `hdr`, plus 1; beyond the store it reads as zero (R31). -/
def tailOf (d : Device) (k hdr : Nat) : Nat := if 0x1000000 < hdr + 128 then 1 else (listHdr d k hdr).tail + 1

/-- How often the TAIL of the list at `hdr` was written. -/
def tailCount (d : Device) (g hdr : Nat) : Nat := Map.get 0 d.work.tails (storeAddr (clusterOf g) hdr)

/-- R135: a poll of list `l` is due: a boundary passed, TAIL was written, a group completed after a poll that lacked threads or
groups, or the stamp it stopped at is reached. Writes of TAIL are counted; one by a unit that stores no words of its own (a ring's
DONE, a converter's output) shows by its new value (log entry 35). -/
def pollDue (d : Device) (g l : Nat) : Bool :=
  let c := d.core g
  match d.listAt g l with
  | none => false
  | some hdr =>
    Map.get 0 c.slotSeen l != d.seasonSlot || Map.get 0 c.tailSeen l != d.tailOf (clusterOf g) hdr ||
    Map.get 0 c.tailWrites l != d.tailCount g hdr ||
    Map.get false c.again l ||
    (match Map.get none c.armed l with | some st => stampReached d.stamp st | none => false)

/-- The poll of list `l` begins: what made it due is served. -/
def pollBegin (d : Device) (g l hdr : Nat) : Device :=
  d.modCore g (fun c => { c with
    lack := Map.set false c.lack l false, again := Map.set false c.again l false, armed := Map.set none c.armed l none,
    slotSeen := Map.set 0 c.slotSeen l d.seasonSlot,
    tailWrites := Map.set 0 c.tailWrites l (d.tailCount g hdr),
    tailSeen := Map.set 0 c.tailSeen l (d.tailOf (clusterOf g) hdr) })

/-- The polls that lacked threads or groups are due again (R135). -/
def pollAgain (d : Device) (g : Nat) : Device :=
  d.modCore g (fun c => { c with
    again := c.lack.foldl (fun m e => if e.2 then Map.set false m e.1 true else m) c.again, lack := [] })

end Device

/-- R135, R136: a poll of list `l` that is due while a plan runs, the lists before it first; a core whose CLAIMERS bit is 0, or
that failed, claims nothing. -/
def Device.pollList (d : Device) (g l : Nat) : Device :=
  let k := Device.clusterOf g
  if !d.planRuns || (d.core g).failed || !d.coreUp g || !d.pollDue g l || (List.range l).any (fun i => d.pollDue g i) then d
  else match d.listAt g l with
    | none => d
    | some hdr =>
      let d := d.pollBegin g l hdr
      if 0x1000000 < hdr + 128 then d.storeMiss g hdr
      else
        let h := listHdr d k hdr
        if bitOf h.claimers (g % 16) then Device.pollLoop g l hdr ((h.tail + 2 ^ 32 - h.head) % 2 ^ 32) d else d

def execWorkListPoll (g : CoreN) (l : Fin 4) (hits : Hits) (s : State) : Out := s.runHits hits (fun d => d.pollList g l)

/-- R137: the last thread of a group has halted or faulted. -/
def execLaunchGroupComplete (g : CoreN) (grp : Grp) (hits : Hits) (s : State) : Out :=
  s.runHits hits (fun d =>
    let y := Map.get {} (d.core g).groups grp.val
    if !y.live || !(unhalted (d.core g) grp).isEmpty then d
    else
      let d := (d.modCore g (fun c => { c with groups := Map.set {} c.groups grp.val {} })).pollAgain g
      (d.endRecord g y.header y.recOff (if y.faulted then 5 else 3) y.doneCnt).pastDeadline g y.deadline)

/-- A wait state of R110. -/
def ThState.waiting : ThState → Bool
  | .free => false
  | .ready => false
  | .faulted => false
  | _ => true

/-- R141: a thread has stayed in a wait state for CORE_HANG_LIMIT ph of wall time at the admitted period, since it began to wait
and since its record's DEADLINE or the end of the season in which the record was claimed. -/
def Device.hangs (d : Device) (g t : Nat) : Bool :=
  let x := d.thread g t
  let y := Map.get {} (d.core g).groups x.group
  x.st.waiting &&
  decide ((d.force 0x1120 6 : Int) * d.num 0x1200 4 ≤ ((d.time.nowNs : Int) - max y.baseNs x.sinceNs) * 65536)

/-- R141: a thread waited CORE_HANG_LIMIT beyond its deadline: its core fails. -/
def execCoreHangLimit (g : CoreN) (t : Thr) (s : State) : Out :=
  s.run (fun d => if d.hangs g t then d.failCore g else d)

end Sys2Proof.Machine
end

