-- ==== Sys2Proof/Machine/CheckPrograms.lean ====
section
/-! DEFINITION. OPGRAPH against PROGRAMS and LISTS (R347, R348). What a program issues can depend on data, so the check asks for a path
through the program that issues the listed operations in the listed order, and no other (DESIGN CHOICE, log entry 86). -/

namespace Sys2Proof.Machine

/-- A program as the check walks it: its words, where each goes on, what it issues, and whether it ends a run. -/
structure Flow where
  size : Nat
  next : Nat → List Nat
  isOp : Nat → Bool
  issues : Nat → OpWork → Bool
  ends : Nat → Bool
  entries : List Nat

/-- The places that a run reaches from some places without issuing an operation; where a run ends, another starts. -/
def flowReach (p : Flow) : Nat → List Nat → List Nat
  | 0, s => s
  | n + 1, s =>
    let t := dedupNat (s ++ s.flatMap (fun i => if p.isOp i then [] else if p.ends i then p.entries else (p.next i).filter (· < p.size)))
    if t.length = s.length then s else flowReach p n t

/-- Some path from these places issues the operations in order and nothing else. -/
def flowRuns (p : Flow) : List OpWork → List Nat → Bool
  | [], s => (flowReach p p.size s).any p.ends
  | o :: os, s =>
    let t := (flowReach p p.size s).filter (fun i => p.issues i o)
    !t.isEmpty && flowRuns p os (dedupNat (t.flatMap p.next))

/-! ### Core programs -/

/-- R113 to R116: the word issues the operation. Fields that the plan leaves to the device may differ (R117). -/
def coreIssues (defers : Bool) (word : W64) (o : OpWork) : Bool :=
  let w := word.toNat
  let cls := fld w 61 3
  let op := fld w 55 6
  match o with
  | .accumulate _ f _ _ => cls == 4 && fld w 58 3 == 0 &&
      (let x := decAcc w; decide (x = f) || (defers && decide ({ x with run := f.run } = f)))
  | .drain _ f _ _ _ => cls == 4 && fld w 58 3 == 1 &&
      (let x := decDrain w; decide (x = f) || (defers && decide ({ x with sat := f.sat } = f)))
  | .table _ f _ => cls == 4 && fld w 58 3 == 2 && decide (decTable w = f)
  | .vector _ vop f _ _ _ _ => cls == 3 && op == vop &&
      (let x := decVec w; decide (x = f) || (defers && decide ({ x with sat := f.sat } = f)))
  | .coreMove _ false _ _ _ tr => cls == 2 && op == 0x0F && bitOf w 6 == tr
  | .coreMove _ true _ _ rel _ => cls == 2 && op == 0x10 && bitOf w 7 == rel
  | .release .. => cls == 2 && op == 0x11
  | _ => false

/-- The word issues some operation that OPGRAPH lists one by one. -/
def coreIsOp (word : W64) : Bool :=
  let w := word.toNat
  let op := fld w 55 6
  match fld w 61 3 with
  | 2 => op == 0x0F || op == 0x10 || op == 0x11
  | 3 => true
  | 4 => true
  | _ => false

/-- R114: where the word at `pc` may go on. -/
def coreNext (word : W64) (pc : Nat) : List Nat :=
  let w := word.toNat
  if fld w 61 3 = 0 then
    match fld w 55 6 with
    | 0 => [fld w 0 13]
    | 8 => []
    | _ => [pc + 1, fld w 0 13]
  else [pc + 1]

/-- R122: HALT. -/
def coreEnds (word : W64) : Bool := fld word.toNat 61 3 == 0 && fld word.toNat 55 6 == 8

namespace PlanView

/-- R132, R133: the entries of the records of KIND 0 in the lists that the plan attaches to a core. -/
def coreEntries (v : PlanView) (g : Nat) : List Nat :=
  let k := Device.clusterOf g
  dedupNat ((List.range 4).flatMap (fun l =>
    let off := v.d.num 0x7021 (l + 1) (g + 1)
    if off = 0xFFFFFFFF then []
    else
      let h := listHdr v.d k off
      (List.range h.cap).filterMap (fun i =>
        let r := parseRec (v.d.recBytes k (h.base + 64 * i))
        if r.kind = 0 ∧ r.nthr ≠ 0 then some r.entry else none)))

/-- The program of a core as the check walks it. -/
def coreFlow (v : PlanView) (g : Nat) : Option Flow :=
  (v.f.programs.find? (fun p => p.core == g)).map (fun p =>
    let at_ (i : Nat) : W64 := p.words.getD i 0
    { size := p.words.length, next := fun i => coreNext (at_ i) i, isOp := fun i => coreIsOp (at_ i),
      issues := fun i o => coreIssues (p.defers.contains i) (at_ i) o, ends := fun i => coreEnds (at_ i), entries := v.coreEntries g })

/-- The operations of a core that its words issue one by one. -/
def ofCore (o : OpWork) : Bool :=
  match o with
  | .instructions .. => false
  | _ => true

/-- A core's program issues what each thread's part of OPGRAPH lists, in every kind of step; and each of its records starts a run that
ends, or that issues a listed operation. -/
def coreMatches (v : PlanView) (g : Nat) : Bool :=
  let lists := v.orders.flatMap (fun r =>
    let os := (r.sel.filterMap v.op?).filter (fun o => workCore o.work == some g)
    (dedupNat (os.map (fun o => (o.thread.map (· + 1)).getD 0))).map (fun t =>
      ((os.filter (fun o => (o.thread.map (· + 1)).getD 0 == t)).map (·.work)).filter ofCore))
  match v.coreFlow g with
  | none => lists.all (·.isEmpty)
  | some p =>
    lists.all (fun l => l.isEmpty || flowRuns p l p.entries) &&
    p.entries.all (fun e => (flowReach p p.size [e]).any (fun i => p.ends i || lists.any (fun l => l.any (p.issues i))))

/-! ### Micro-sequencer programs -/

/-- R169 to R171: the word of instance `q` issues the operation. -/
def seqIssues (q : Sq) (word : W32) (o : OpWork) : Bool :=
  match decodeSeq q [] word, o with
  | .tmove .., .move .. => true
  | .bmove .., .byteMove .. => true
  | .pass _ _ _ d, .pass _ _ _ d' => d == d'
  | .spub .., .publish .. => true
  | .srst .., .clearLine .. => true
  | .mcapt .., .maskJob _ op _ => op == 0x20
  | .mupd .., .maskJob _ op _ => op == 0x21
  | .mapply .., .maskJob _ op _ => op == 0x22
  | .cpack .., .maskJob _ op _ => op == 0x23
  | .mcheck .., .maskJob _ op _ => op == 0x24
  | .hclose .., .closeHealth _ => true
  | .nchk .., .normCheck .. => true
  | .hpost .., .postHealth _ => true
  | _, _ => false

/-- The instance whose program issues an operation. -/
def issuer (o : OpWork) : Option Nat :=
  match o with
  | .move se _ => some se.val
  | .byteMove se _ _ _ => some se.val
  | .pass se _ _ _ => some se.val
  | .publish k _ => some (384 + k.val)
  | .clearLine k _ => some (384 + k.val)
  | .maskJob k _ _ => some (480 + k.val)
  | .normCheck k _ => some (576 + k.val)
  | .closeHealth k => some (576 + k.val)
  | .postHealth k => some (576 + k.val)
  | _ => none

/-- R169: where the word at `pc` may go on. -/
def seqNextOf (word : W32) (pc : Nat) : List Nat :=
  let w := word.toNat
  match fld w 26 6 with
  | 0x0E => [fld w 0 8]
  | 0x0F => [pc + 1, fld w 0 8]
  | 0x10 => [pc + 1, fld w 0 8]
  | 0x11 => [pc + 1, fld w 0 8]
  | 0x17 => []
  | _ => [pc + 1]

/-- The program of an instance as the check walks it, its runs beginning at the entries of its triggers. -/
def seqFlow (v : PlanView) (q : Sq) : Flow :=
  let data := v.d.domOf 0x7040 1 (q.val + 1)
  let at_ (i : Nat) : W32 := BitVec.ofNat 32 (fieldB data (4 * i) 4)
  { size := data.length / 4, next := fun i => seqNextOf (at_ i) i, 
    isOp := fun i => let op := fld (at_ i).toNat 26 6; decide (0x20 ≤ op ∧ ¬ (op = 0x22 ∧ q.val < 384)),
    issues := fun i o => seqIssues q (at_ i) o, ends := fun i => fld (at_ i).toNat 26 6 == 0x17,
    entries := dedupNat ((List.range 8).filterMap (fun n =>
      let t := v.d.trigger q.val n
      if t.1 = 0 then none else some t.2.1)) }

/-- An instance's program issues what OPGRAPH lists of it, in every kind of step. The default programmes of the monitors (R319) need
no list. -/
def seqMatches (v : PlanView) (q : Sq) : Bool :=
  (decide (576 ≤ q.val) && !v.ownMonitor q.val) ||
  v.orders.all (fun r =>
    let l := ((r.sel.filterMap v.op?).map (·.work)).filter (fun o => issuer o == some q.val)
    l.isEmpty || flowRuns (v.seqFlow q) l (v.seqFlow q).entries)

/-! ### Rings -/

/-- R197: the descriptors of `size` bytes that the plan's initial records publish in `n` rings of a cluster. -/
def ringRecords (v : PlanView) (k h0 n size : Nat) : List (List Byte) :=
  if h0 = 0xFFFFFFFF ∨ 0x1000000 < h0 + 64 * n then []
  else (List.range n).flatMap (fun r =>
    let h := v.d.ringHdr k (h0 + 64 * r)
    (List.range (min h.cap ((h.tail + 2 ^ 32 - h.done) % 2 ^ 32))).map (fun i =>
      v.d.bytes (Device.storeAddr k (h.base + (h.done + i) % h.cap * size)) size))

/-- The descriptor of a ring's operation, with the ring's kind: converter, reduction, table, mask, predictor. -/
def ringDesc (o : OpWork) : Option (Nat × Nat × List Byte) :=
  match o with
  | .convert k b => some (k.val, 0, b)
  | .reduce k b => some (k.val, 1, b)
  | .buildTable k b => some (k.val, 2, b)
  | .maskTiles k b => some (k.val, 3, b)
  | .predict k b => some (k.val, 4, b)
  | _ => none

/-- Every descriptor that the plan's rings publish from the start is an operation of OPGRAPH. -/
def ringsMatch (v : PlanView) (k : Nat) : Bool :=
  let listed := v.f.ops.filterMap (fun o => ringDesc o.work)
  [(0, v.d.num 0x7050 3 (k + 1), 4, 128), (1, v.d.num 0x7050 7 (k + 1), 4, 128), (2, v.d.num 0x7050 9 (k + 1), 1, 32),
   (3, v.d.num 0x7060 5 (k + 1), 1, 64), (4, v.d.num 0x7070 1 (k + 1), 1, 128)].all (fun x =>
    (v.ringRecords k x.2.1 x.2.2.1 x.2.2.2).all (fun b => listed.contains (k, x.1, b)))

/-- R347, R348: PROGRAMS and LISTS issue the operations that OPGRAPH lists, in the listed order. -/
def matchesPrograms (v : PlanView) : Bool :=
  (dedupNat (v.cores ++ v.f.programs.map (·.core))).all v.coreMatches &&
  (List.range 673).all (fun q => v.seqMatches (Fin.ofNat 673 q)) && (List.range 96).all v.ringsMatch

end PlanView

end Sys2Proof.Machine
end

