-- ==== Sys2Proof/Machine/PlanImage.lean ====
section
/-! DEFINITION. The step plan image (R341, R342) and the checks that stand before the proof (R354, R579). -/

namespace Sys2Proof.Machine

/-- R353: what a refusal says. -/
structure Refuse where
  code : Nat
  season : Nat := 0xFF
  section_ : Nat := 0
  member : Nat := 0
  item : Nat := 0
  short : Nat := 0
  need : Nat := 0
  deriving DecidableEq, Repr

/-- R341: a directory entry. -/
structure Sect where
  type : Nat
  off : Nat
  len : Nat
  crc : Nat
  rsvd : Nat
  deriving DecidableEq, Repr

def planSects (im : List Byte) : List Sect :=
  (List.range (fieldB im 0xC 2)).map (fun i =>
    let a := 64 + 16 * i
    { type := fieldB im a 1, rsvd := fieldB im (a + 1) 3, off := fieldB im (a + 4) 4, len := fieldB im (a + 8) 4,
      crc := fieldB im (a + 12) 4 })

/-- The bytes of the section of a TYPE; a section that is absent is empty (R342). -/
def planSect (im : List Byte) (ty : Nat) : List Byte :=
  match (planSects im).find? (fun s => s.type == ty) with
  | some s => sliceB im s.off s.len
  | none => []

/-- R354, 0xA001: the header and the directory's own place are well formed. -/
def headerOk (im : List Byte) : Bool :=
  let n := (planSects im).length
  decide (64 ≤ im.length) && decide (im.length ≤ 2 ^ 28) &&
  fieldB im 0 4 == 0x4C504D55 && fieldB im 8 4 == im.length &&
  decide (1 ≤ n) && decide (n ≤ 255) && decide (64 + 16 * n ≤ im.length) &&
  fieldB im 5 3 == 0 && fieldB im 0x16 2 == 0 && fieldB im 0x24 24 == 0 &&
  fieldB im 0x3C 4 == crc32c (overB im 0x3C [0, 0, 0, 0])

/-- R342, 0xA001: entry `i` of the directory is well formed: it lies behind the directory and inside the image, apart from the entries
before it, has a TYPE that none of them has, and its CRC holds; CADENCE and BUDGETS have 32 bytes. -/
def sectOk (im : List Byte) (x : Sect × Nat) : Bool :=
  let s := x.1
  let ss := planSects im
  s.rsvd == 0 && decide (1 ≤ s.type) && decide (s.type ≤ 13) &&
  decide (64 + 16 * ss.length ≤ s.off) && decide (s.off + s.len ≤ im.length) && s.crc == crc32c (sliceB im s.off s.len) &&
  (ss.take x.2).all (fun y => y.type != s.type && (decide (s.off + s.len ≤ y.off) || decide (y.off + y.len ≤ s.off))) &&
  (s.type != 2 || (s.len == 32 && fieldB im (s.off + 0x16) 2 == 0 && fieldB im (s.off + 0x1C) 4 == 0)) &&
  (s.type != 6 || s.len == 32)

/-- R353, R354, 0xA001: where an image is malformed: the TYPE of the first section that is, or that is missing; 0 the header. -/
def imageFault (im : List Byte) : Option Nat :=
  if !headerOk im then some 0
  else match (planSects im).zipIdx.find? (fun x => !sectOk im x) with
    | some x => some x.1.type
    | none => [1, 2, 6, 13].find? (fun t => !(planSects im).any (fun s => s.type == t))

/-- R342: some bytes stand in a section of the image. -/
def infixB (x : List Byte) : List Byte → Bool
  | [] => x.isEmpty
  | b :: l => x.isPrefixOf (b :: l) || infixB x l

def inSections (im x : List Byte) (tys : List Nat) : Bool := tys.any (fun t => infixB x (planSect im t))

/-- R342: the section that carries an object's image; the one that sets a number: lists and rings 10, the predictor's ring 8, tables 12. -/
def objectSect (idx : Nat) : Nat := if idx = 0x7040 then 9 else if idx = 0x7060 then 7 else 12
def numberSect (idx sub : Nat) : List Nat :=
  if idx = 0x7070 then [8, 10] else if idx = 0x7080 ∨ (idx = 0x7050 ∧ sub ≤ 2) then [12] else [10]

/-- R342: what the sections of an image hold: a section that is absent has empty content, and objects, programs and table bytes are
those that stand in their sections (log entry 10). -/
def factsOf (im : List Byte) (f : PlanFacts) : PlanFacts :=
  let has (t : Nat) : Bool := !(planSect im t).isEmpty
  { f with
    layers := if has 3 then f.layers else []
    spans := if has 3 then f.spans else []
    tensors := if has 4 then f.tensors else []
    placements := if has 5 then f.placements else []
    reserves := if has 5 then f.reserves else []
    objects := f.objects.filter (fun o => inSections im o.data [objectSect o.idx])
    numbers := f.numbers.filter (fun n => (numberSect n.1 n.2.1).any has)
    programs := f.programs.filter (fun p => inSections im (p.words.flatMap (fun w => leBytes 8 w.toNat)) [9])
    stores := f.stores.filter (fun b => inSections im b.data [7, 8, 9, 10, 12])
    scaleDefers := if has 12 then f.scaleDefers else [] }

/-- R338: the entries of the GATES section, each for the cluster that the plan gives it. -/
def planGates (im : List Byte) (f : PlanFacts) : List GateEntry :=
  let b := planSect im 11
  (List.range (b.length / 16)).map (fun i =>
    let e := fieldB b
    { cluster := f.gateClusters.getD i 96, off := e (16 * i) 4, base := e (16 * i + 4) 4, inc := e (16 * i + 8) 4,
      season := e (16 * i + 12) 1, rsvd := e (16 * i + 13) 3 })

/-- The header, CADENCE and BUDGETS of an image. -/
def planHdr (im : List Byte) : PlanHdr :=
  let cad := planSect im 2
  let bud := planSect im 6
  { member := fieldB im 0xE 2, s0 := fieldB im 0x10 8 % 2 ^ 48, period := fieldB im 0x18 8, clkFloor := fieldB im 0x20 4,
    b1 := fieldB cad 0 3, b2 := fieldB cad 4 3, b3 := fieldB cad 8 3, hstamp := fieldB cad 0xC 3,
    master := fieldB cad 0x10 2, backup := fieldB cad 0x12 2, guard := fieldB cad 0x14 2, maskStep := fieldB cad 0x18 4,
    budgets := (List.range 4).map (fun s => fieldB bud (8 * s) 8) }

/-- R349: the torus diameter in hops. -/
def diameter (shape : Nat) : Nat := dimSize shape 0 / 2 + dimSize shape 1 / 2 + dimSize shape 2 / 2

namespace Device

/-- R341, R349: the guard in ns. -/
def guardNs (d : Device) (h : PlanHdr) : Nat := (if h.guard = 0 then d.num 0x1301 5 else h.guard) * 1000

/-- R353, R354, 0xA003: a member's entry that breaks the rules: its place in the torus, its number a second time, this device's own
entry with another member index or capability, a master or backup that is not capable. -/
def memberBad (d : Device) (h : PlanHdr) (f : PlanFacts) (m : PlanMember × Nat) : Bool :=
  let x := m.1
  decide (4096 ≤ x.dev) || !posValid d.shape (fieldB (d.domOf 0x1701 1) (2 * x.dev) 2) ||
  ((f.members.take m.2).map (·.dev)).contains x.dev ||
  (x.dev == d.devNo && (x.index != h.member || x.capable != (d.num 0x1200 5 == 1))) ||
  ((x.dev == h.master || (x.dev == h.backup && h.backup != 0xFFFF)) && !x.capable)

/-- R354, 0xA003: the entry of MEMBERS that breaks the rules; the number of entries where one is missing, or the shape differs. -/
def membersFault (d : Device) (h : PlanHdr) (f : PlanFacts) : Option Nat :=
  let listed (n : Nat) : Bool := f.members.any (fun m => m.dev == n)
  match f.members.zipIdx.find? (d.memberBad h f) with
  | some x => some x.2
  | none =>
    if f.shape == d.shape && listed d.devNo && listed h.master && (h.backup == 0xFFFF || listed h.backup) then none
    else some f.members.length

/-- R354, 0xA004: PERIOD and CLKFLOOR, which the header holds; what CADENCE holds. -/
def periodOk (h : PlanHdr) : Bool :=
  decide (10000000 ≤ h.period) && decide (h.period ≤ 3600000000000) && decide (550 ≤ h.clkFloor) && decide (h.clkFloor ≤ 1100)

def cadenceOk (d : Device) (h : PlanHdr) : Bool :=
  decide (h.b1 < h.b2) && decide (h.b2 < h.b3) && (seasonLens h).all (fun n => decide (16 * 256 ≤ n)) &&
  decide (20000 ≤ d.guardNs h) && decide (4000 + 500 * diameter d.shape ≤ d.guardNs h) && decide (h.b3 ≤ h.hstamp)

end Device

/-- R354, 0xA005: the first gate entry that breaks the rules; an entry for which no cluster is given lies outside every store. -/
def gateBad (gs : List GateEntry) : Option Nat :=
  let exceeds (e : GateEntry) : Bool := decide (64 < (gs.filter (fun x => x.cluster == e.cluster && x.season == e.season)).length)
  let i := gs.findIdx (fun e => exceeds e || e.off % 4 != 0 || decide (2 ^ 24 ≤ e.off) || decide (96 ≤ e.cluster) ||
    decide (4 ≤ e.season) || e.rsvd != 0)
  if i < gs.length then some i else none

/-- R354, 0xA006: the first hub-core operation of a season whose hub-core work exceeds the hub cores that the plan reserves: more
reservations than cores, or more time in all than they have in the season. -/
def hubExcess (h : PlanHdr) (f : PlanFacts) : Option Nat :=
  let hubs := f.ops.zipIdx.filterMap (fun x => match x.1.work with | .hub ns => some (x.1, x.2, ns) | _ => none)
  (hubs.find? (fun x =>
    (planKinds h f).any (fun kind =>
      let same := hubs.filter (fun y => y.1.season == x.1.season && ofKind y.1 kind)
      decide (f.hubCores.length < (dedupNat (same.map (fun y => y.1.resource))).length) ||
      decide (f.hubCores.length * ((seasonLens h).getD x.1.season 0 * h.period) < (same.map (fun y => y.2.2)).sum * 2 ^ 24)))).map
    (fun x => x.2.1)

/-- The first item of a list that fails a test. -/
def firstBad {α : Type} (l : List α) (bad : α → Bool) : Option Nat := l.findIdx? bad

/-- R501: the ward that MEMBERS names for a member: the one whose keeper it is. -/
def wardIn (f : PlanFacts) (dev : Nat) : Option Nat := (f.members.find? (fun m => m.keeper == dev)).map (fun m => m.dev)

/-- R501, R502: the Harvest regions that the layout asks for. -/
def hvRanges (f : PlanFacts) (own : Nat) : List (Nat × Nat) :=
  let two (a b n : Nat) : List (Nat × Nat) := (a, n) :: (if f.hvLean then [] else [(b, n)])
  two f.hvLocalA f.hvLocalB f.hvSize ++ (if (wardIn f own).isSome then two f.hvKeepA f.hvKeepB f.hvWardSize else [])

/-- R503: the bytes an image takes. -/
def imageSize (im : List Byte) (f : PlanFacts) : Nat :=
  0x10000 + (im.length + 4095) / 4096 * 4096 + (f.hvRegs.map (·.len)).sum

namespace Device

/-- A range that lies in the DDR5 tier. -/
def inTier (d : Device) (r : Nat × Nat) : Bool :=
  decide (ddrBase ≤ r.1) && decide (r.1 + r.2 ≤ min (2 ^ 43) (ddrBase + d.num 0x1010 8 * 2 ^ 30))

/-- R519, 0xA080. -/
def regionsOk (d : Device) (im : List Byte) (f : PlanFacts) : Bool :=
  let rs := hvRanges f d.devNo
  let ps := f.placements.flatMap (fun p => placeBytes p :: placeHdrs p)
  !(f.hvLean && decide (f.members.length ≤ 1)) &&
  rs.all (fun r => d.inTier r && !ps.any (rangesMeet r)) &&
  rs.zipIdx.all (fun x => rs.zipIdx.all (fun y => decide (y.2 ≤ x.2) || !rangesMeet x.1 y.1)) &&
  decide (imageSize im f ≤ f.hvSize)

/-- R501, R519, 0xA081. -/
def keeperOk (f : PlanFacts) : Bool :=
  if f.members.length ≤ 1 then f.members.all (fun m => m.keeper == 0xFFFF) && f.hvKeepA == 0 && f.hvKeepB == 0
  else f.members.all (fun m => m.keeper != m.dev && f.members.any (fun x => x.dev == m.keeper)) &&
    (f.members.map (fun m => m.keeper)).Nodup

/-- What this device finds of the rules of each chapter (R579, order 2). -/
def structureBreaks (d : Device) (im : List Byte) (h : PlanHdr) (f : PlanFacts) : List Refuse :=
  let one (b : Bool) (r : Refuse) : List Refuse := if b then [r] else []
  let d' := { d with adm := { d.adm with facts := some f } }
  let v := planView d h f
  let at_ (i : Option Nat) (r : Refuse) : List Refuse := i.toList.map (fun i => { r with item := i })
  one (!periodOk h) { code := 0xA004 } ++ one (!d.cadenceOk h) { code := 0xA004, section_ := 2 } ++
  at_ (gateBad (planGates im f)) { code := 0xA005, section_ := 11 } ++
  at_ (firstBad f.hubCores (fun c => [0, 1, 16, 17].contains c || decide (32 ≤ c))) { code := 0xA006, section_ := 13 } ++
  at_ (hubExcess h f) { code := 0xA006, section_ := 13 } ++
  one (decide (512 < (positions d.shape).length) && decide (f.members.length < (positions d.shape).length))
    { code := 0xA062, section_ := 1 } ++
  one ((List.range 4).any (fun i => decide (d.num 0x1603 (i + 1) < h.clkFloor))) { code := 0xA070 } ++
  one ((List.range 1667).any (fun i => d'.usesDomain (i + 1) && d.num 0x70C0 2 (i + 1) == 3)) { code := 0xA071 } ++
  one (!d.regionsOk im f) { code := 0xA080, section_ := 5 } ++
  one (!keeperOk f) { code := 0xA081, section_ := 1 } ++
  (tableBreaks f (d.num 0x1910 1 == 1) ++ v.coreBreaks ++ v.scaleBreaks ++ v.drawBreaks ++ v.trainBreaks ++
    v.deviceBreaks h).map (fun b => { code := b.code, section_ := b.section_, item := b.item })

/-- The first of the codes in ascending order. -/
def firstBreak (rs : List Refuse) : Option Refuse := (sortBy (fun a b => decide (a.code ≤ b.code)) rs).head?

/-- R579, orders 1 and 2. -/
def checkStructure (d : Device) (im : List Byte) (f : PlanFacts) : Option Refuse :=
  match imageFault im with
  | some t => some { code := 0xA001, section_ := t }
  | none =>
    if fieldB im 4 1 ≠ 1 then some { code := 0xA002 }
    else
      let h := planHdr im
      match d.membersFault h f with
      | some i => some { code := 0xA003, section_ := 1, item := i }
      | none => firstBreak (d.structureBreaks im h f)

end Device

end Sys2Proof.Machine
end

