-- ==== Sys2Proof/Machine/Proof.lean ====
section
/-! DEFINITION. The proof of a plan (R346 to R350): the charges against the capacity of each season. -/

namespace Sys2Proof.Machine

namespace Device

/-- Times are counted in charge units / (2^24 · 2^b · 560), in which lengths, shares and Harvest stops are whole: a charge unit, and
one ns, in these units. -/
def chargeUnit (d : Device) (s : Nat) : Nat := 2 ^ 24 * 2 ^ d.num 0x1301 (s + 1) * 560
def proofUnit (d : Device) (h : PlanHdr) (s : Nat) : Nat := d.chargeUnit s * unitNs h.clkFloor

/-- R349: the capacity of a season in proof units. -/
def capacity (d : Device) (h : PlanHdr) (s : Nat) : Int :=
  let len : Nat := (seasonLens h).getD s 0 * h.period
  let g : Nat := d.guardNs h * 2 ^ 24
  ((len : Int) - (g : Int)) * (((2 ^ d.num 0x1301 (s + 1) - 1) * 560 * unitNs h.clkFloor : Nat) : Int)

/-- R350, R510: the Harvest stop in proof units: 40 ms and the dirty bytes at 560 GB/s. -/
def stopCharge (d : Device) (h : PlanHdr) (v : PlanView) (s : Nat) : Nat :=
  (40000000 * 560 + v.dirtyBytes) * (d.proofUnit h s / 560)

/-- A number of proof units in ns, rounded down, or up. -/
def unitsDown (d : Device) (h : PlanHdr) (s : Nat) (x : Int) : Nat := x.toNat / d.proofUnit h s
def unitsUp (d : Device) (h : PlanHdr) (s : Nat) (x : Int) : Nat := ceilDiv x.toNat (d.proofUnit h s)

/-- R348 for one season and kind of step: the slack in ns, or the refusal. A shortfall and a need in ns are rounded up. -/
def proveKind (d : Device) (h : PlanHdr) (v : PlanView) (s kind : Nat) : Except Refuse Nat :=
  let fin := finishTimes v (v.chargeEnv h s) kind
  let u := d.chargeUnit s
  match (lateOps v h.clkFloor fin).head? with
  | some (i, t, dl) =>
    .error { code := 0xA00A, season := s, section_ := 13, item := i, short := d.unitsUp h s (((t - dl) * u : Nat) : Int),
             need := d.unitsUp h s ((t * u : Nat) : Int) }
  | none =>
    let need : Int := (((fin.map (·.2)).foldl max 0 * u : Nat) : Int)
    let cap := d.capacity h s
    let bud : Int := ((h.budgets.getD s 0 * d.proofUnit h s : Nat) : Int)
    if cap < need || bud < need then
      .error { code := 0xA009, season := s, section_ := 13, short := d.unitsUp h s (need - min cap bud), need := d.unitsUp h s need }
    else
      let needH : Int := if s = 3 then need + ((d.stopCharge h v s : Nat) : Int) else need
      if cap < needH then
        .error { code := 0xA00B, season := s, section_ := 13, short := d.unitsUp h s (needH - cap), need := d.unitsUp h s needH }
      else .ok (d.unitsDown h s (cap - needH))

/-- R348: the seasons in order, in each the kinds in order; the least slack of each season. -/
def prove (d : Device) (h : PlanHdr) (f : PlanFacts) : Except Refuse (List Nat) :=
  let v := planView d h f
  (List.range 4).foldl (fun acc s =>
    match acc with
    | .error e => .error e
    | .ok sl =>
      (planKinds h f).foldl (fun (a : Except Refuse (List Nat)) k =>
        match a with
        | .error e => .error e
        | .ok l =>
          match d.proveKind h v s k with
          | .error e => .error e
          | .ok x => .ok (match l[s]? with
            | some w => l.set s (min x w)
            | none => l ++ [x])) (.ok sl)) (.ok [])

/-- R348, R579: what the check finds: the refusal, or the slack of each season. -/
def checkPlan (d : Device) (im : List Byte) (f : PlanFacts) : Except Refuse (List Nat) :=
  match d.checkStructure im f with
  | some r => .error r
  | none =>
    if cyclic f.ops || !(planView d (planHdr im) f).matchesPrograms then .error { code := 0xA007, section_ := 13 }
    else d.prove (planHdr im) f

end Device

end Sys2Proof.Machine
end

