-- ==== Sys2Proof/Machine/AdmOps.lean ====
section
/-! DEFINITION. What admission and refusal do (R343 to R345, R353), and the stop of a run (R427, R428). -/

namespace Sys2Proof.Machine

namespace Device

/-- R427: RUN_STATE changes, but LOST is left only through reset. -/
def setRun (d : Device) (v : Nat) : Device := if d.runState = 4 then d else d.setNum 0x1100 1 0 v

/-- R353: the 32 bytes of ADM_DETAIL. -/
def refuseDetail (r : Refuse) : List Byte :=
  leBytes 2 r.code ++ leBytes 1 r.season ++ leBytes 1 r.section_ ++ leBytes 2 r.member ++ leBytes 2 0 ++
  leBytes 4 r.item ++ leBytes 4 0 ++ leBytes 8 r.short ++ leBytes 8 r.need

/-- R353: REFUSED: the code, its detail and its event, which counts in ADM_REFUSED (R579). The device is stopped again (R425). -/
def refuse (d : Device) (r : Refuse) : Device :=
  let det := refuseDetail r
  let d := ((d.finishHold.setNum 0x1300 3 0 5).setNum 0x1300 4 0 r.code).setDom 0x1300 5 0 det
  let d := d.raise r.code 0 0 (fieldB det 0 8) (fieldB det 16 8)
  let d := if d.runState = 2 then d.setRun 1 else d
  let d := d.setNum 0x1200 1 0 3
  { d with cad := { d.cad with stopped := true, ahead := none, slew := 0 },
           adm := { d.adm with verdicts := [], withdrawn := none } }

/-- R353, R345: a refusal by this device's own check, with its verdict to the master of the plan, or down from it. -/
def refuseOwn (d : Device) (r : Refuse) : Device :=
  let own := fieldB (planSect (d.domOf 0x1300 1) 2) 0x10 2 == d.devNo
  let d := d.refuse { r with member := d.devNo }
  d.send (.verdict r.code d.devNo (!own))

/-- R345: another member refused, or S0 lies too early: what the master sent down. -/
def refuseByOther (d : Device) (code dev : Nat) : Device :=
  if 1 ≤ d.admState ∧ d.admState ≤ 3 then d.refuse { code := code, member := dev } else d

/-- R345: the first refusing verdict that the master holds goes down to the members. When every member has admitted, S0 must lie after
the master's position; then the master releases it. -/
def settleVerdicts (d : Device) : Device :=
  if d.isMaster && d.admState == 3 then
    match d.adm.verdicts.find? (fun v => v.2 != 0) with
    | some v => (d.send (.verdict v.2 v.1 false)).refuseByOther 0xA00F v.1
    | none =>
      if !d.allAdmitted then d
      else if d.untilS0 ≤ 0 then (d.send (.verdict 0xA00E d.devNo false)).refuse { code := 0xA00E, member := d.devNo }
      else d.tryRelease
  else d

/-! ### What an admitted plan loads (R342) -/

/-- R7: a DOMAIN object holds its reserved fields as 0: bits [7:3] of a class map's bytes (R305), bytes 6 to 7 and 12 to 15
of a context's entry (R228), bytes 2 to 3 of a trigger's (R172), those of the two entries of MGMT_IP_CONFIG (R445). -/
def storedBytes (idx sub : Nat) (data : List Byte) : List Byte :=
  let keep (p : Nat → Bool) : List Byte := data.zipIdx.map (fun x => if p x.2 then x.1 else 0)
  match idx, sub with
  | 0x7080, 1 => data.map (fun b => b &&& 7)
  | 0x7060, 1 => keep (fun i => !(i % 16 == 6 || i % 16 == 7 || decide (12 ≤ i % 16)))
  | 0x7040, 2 => keep (fun i => !(i % 8 == 2 || i % 8 == 3))
  | 0x1001, _ => keep (fun i => !(i % 48 == 2 || i % 48 == 3 || decide (36 ≤ i % 48)))
  | _, _ => data

/-- A dictionary object's image; a new program starts a micro-sequencer afresh (R173). -/
def loadObject (d : Device) (o : PlanObject) : Device :=
  let d := d.setDom o.idx o.sub o.inst (storedBytes o.idx o.sub o.data)
  if o.idx = 0x7040 then d.seqLoaded (o.inst - 1) (o.sub = 1) else d

/-- Bits [hi:lo] of a word become `v`. -/
def setField (w : W64) (hi lo v : Nat) : W64 :=
  BitVec.ofNat 64 (w.toNat - bitsOf w.toNat hi lo * 2 ^ lo + v * 2 ^ lo)

/-- R74: the RUN code of a run length. -/
def runCode (n : Nat) : Nat := if n = 32 then 1 else if n = 64 then 2 else 0

/-- R117: a word that leaves RUN or SAT to the device takes the values in force at this admission: the RUN of a float
accumulate, the SAT of a drain or of a vector instruction. -/
def deferWord (d : Device) (w : W64) : W64 :=
  let n := w.toNat
  match bitsOf n 63 61, bitsOf n 60 58 with
  | 3, _ => setField w 46 46 (d.num 0x1901 2)
  | 4, 0 => if bitsOf n 54 52 = 0 then setField w 33 32 (runCode (d.num 0x1903 1)) else w
  | 4, 1 => setField w 40 40 (d.num 0x1901 2)
  | _, _ => w

/-- R103: the program store is written only while the core has no thread outside FREE. -/
def loadProgram (d : Device) (p : PlanProgram) : Device :=
  if (d.core p.core).thr.any (fun t => t.2.st != .free) then d
  else d.modCore p.core (fun c => { c with
    prog := p.words.zipIdx.foldl (fun m w =>
      Map.set 0 m w.2 (if p.defers.contains w.2 then d.deferWord w.1 else w.1)) [] })

/-- R143, R315, R581: what a plan does not set has its none value again; a dispatcher has polled none of the new lists. -/
def resetLists (d : Device) : Device :=
  { d with
    dict := { d.dict with num := d.dict.num.filter (fun e => !setAtAdmission e.1) },
    cores := d.cores.map (fun e => (e.1, { e.2 with
    armed := [], lack := [], again := [], tailWrites := [], tailSeen := [], slotSeen := [] })) }

/-- R164: the carousel marks of a new plan: frames b to b + s of every member, the last of them its EMPTY landing frame. -/
def markCarousel (d : Device) (p : PlanCarousel) : Device :=
  p.members.foldl (fun d m =>
    let g := 16 * p.cluster + m
    let d := forN p.share d (fun d i => d.setFrame g (p.base + i) { d.frame g (p.base + i) with carousel := true })
    d.setFrame g (p.base + p.share) { carousel := true }) d

def loadCarousels (d : Device) (cs : List PlanCarousel) : Device :=
  let d := forN 96 d (fun d k => d.modClu k (fun c => { c with carousels := [] }))
  let d := { d with cores := d.cores.map (fun e =>
    (e.1, { e.2 with frames := (e.2.frames.map (fun f => (f.1, { f.2 with carousel := false }))).filter (fun f => f.2 != {}) })) }
  cs.foldl (fun d p => (d.modClu p.cluster (fun c => { c with carousels := c.carousels ++
    [{ members := p.members, base := p.base, share := p.share, turns := p.turns, se := p.se }] })).markCarousel p) d

/-- R214: the slots of a fallback reserve, in the cluster's local line. -/
def setReserve (f : PlanFacts) (d : Device) (r : PlanReserve) : Device :=
  d.store (storeAddr r.cluster (d.lineOff r.cluster r.tsid + 64) + 0x10) 4 (PlanView.reserveSlots d f r)

/-- R222: a record that leaves its history length, or headroom, to the device takes the value in force at this admission. -/
def deferScale (d : Device) (kt : Nat × Nat × Bool × Bool) : Device :=
  let a := storeAddr kt.1 (d.lineOff kt.1 kt.2.1)
  let d := if kt.2.2.1 then d.store (a + 0xB) 1 (d.num 0x1910 2) else d
  let d := if kt.2.2.2 then d.store (a + 0xC) 1 (d.num 0x1910 3) else d
  d.store (a + 0x3C) 4 (crc32c (d.bytes a 0x3C))

/-- R304: what the device reports of the backward pass. -/
def reportBackward (d : Device) (v : PlanView) : Device :=
  let d := ((d.setNum 0x1920 1 0 v.f.micros).setNum 0x1920 2 0 v.f.lag).setNum 0x1920 3 0 v.f.spans.length
  ((d.setNum 0x1920 4 0 v.peakBytes).setNum 0x1920 5 0 v.residentSlots).setNum 0x1920 6 0 v.runningTiles

/-- R319: a monitor for which the plan loads neither a program nor a trigger table of its own has the default program: what stood there
is gone. -/
def loadDefault (f : PlanFacts) (d : Device) (q : Nat) : Device :=
  if f.objects.any (fun o => o.idx == 0x7040 && o.inst == q + 1) then d
  else ((d.setDom 0x7040 1 (q + 1) []).setDom 0x7040 2 (q + 1) (domDefault 0x7040 2)).seqLoaded q true

/-- The sections of a plan take their places. -/
def loadPlan (d : Device) (f : PlanFacts) : Device :=
  let d := f.objects.foldl loadObject d.resetLists
  let d := forN 97 d (fun d i => loadDefault f d (576 + i))
  let d := f.numbers.foldl (fun d n => d.setNum n.1 n.2.1 n.2.2.1 n.2.2.2) d
  let d := f.programs.foldl loadProgram d
  let d := f.stores.foldl (fun d b => d.put b.addr b.data) d
  let d := f.scaleDefers.foldl deferScale (f.reserves.foldl (setReserve f) d)
  let d := d.loadCarousels f.carousels
  forN 1536 d (fun d g => d.modCore g (fun c => { c with scaled := f.scaledCores.contains g }))

/-- R476: the domains that the plan uses wake, with wake source ADMISSION. -/
def wakeUsed (d : Device) : Device :=
  forN 1667 d (fun d i =>
    if d.usesDomain (i + 1) && d.pdState (i + 1) != 0 then (d.pdRequest (i + 1) 0 2).1 else d)

/-- R108: what counts within one run counts from its start. A run starts with the admission of a plan, other than that of a
restore, which goes on with the run (log entry 30). -/
def startRun (d : Device) : Device :=
  if d.adm.restoreS0 = none then forN 1536 d (fun d g => d.modCore g (fun c => { c with bankErr := [] })) else d

/-- R346: a die whose target lies below CLKFLOOR at admission gets the lowest point at or above it. -/
def raiseFloor (d : Device) (die : Nat) : Device :=
  if d.num 0x1601 (die + 1) < d.clkFloor then (d.setNum 0x1601 (die + 1) 0 (ceilDiv d.clkFloor 50 * 50)).dvKick die else d

/-- R343, R345, R357, R427: the device has admitted the plan: its objects, its role, its position toward S0, its verdict.
Expert settings written since the last admission come into force (R71, R426), and so does a margin plan (R491). -/
def admitPlan (d : Device) (im : List Byte) (h : PlanHdr) (f : PlanFacts) (slack : List Nat) : Device :=
  let s0 := d.adm.restoreS0.getD h.s0
  let role := if d.devNo = h.master then 1 else if d.devNo = h.backup then 2 else 0
  let d := { d with dict := { d.dict with force := d.dict.num } }
  let d := forN 4 d (fun d i => d.applyMargin i true)
  let d := ((d.startRun).setNum 0x1300 3 0 3).setRun 2
  let d := (d.addNum 0x1303 1 0 1).setDom 0x1300 6 0 (shake256 im 16)
  let d := forN 4 d (fun d s => d.setNum 0x1302 (s + 1) 0 (slack.getD s 0))
  let d := (d.setNum 0x1302 5 0 h.clkFloor).reportBackward (planView d h f)
  let d := (((d.setNum 0x1210 1 0 h.b1).setNum 0x1210 2 0 h.b2).setNum 0x1210 3 0 h.b3).setNum 0x1210 4 0 h.hstamp
  let d := ((d.setNum 0x1200 4 0 h.period).setNum 0x1200 1 0 role).setNum 0x1200 3 0 h.master
  let d := d.setNum 0x1B00 2 0 h.member
  let d := { d with
    adm := { d.adm with plan := some h, facts := some f, admittedNs := d.time.nowNs, seed := d.domOf 0x1B00 1 },
    cad := { d.cad with
      gates := planGates im f, members := f.members.map (fun (m : PlanMember) => m.dev), lost := [], s0 := s0, locked := false, lastPos := none,
      lastNs := d.time.nowNs, lossRaised := false, former := none, done := [], sent := none, cutOff := false,
      pairOn := role == 1 && d.num 0x1200 2 == 0, pairNs := d.time.nowNs, pairGood := 0, pairPos := none, pairPeriod := 0,
      pairLag := 0, held := false, holdNs := none, ahead := none,
      stopStep := none } }
  let d := { d with cad := { d.cad with stopped := decide (d.untilS0 ≤ 1), stopNs := d.time.nowNs } }
  let d := forN 4 (d.recomputeTree.wakeUsed) raiseFloor
  if role = 1 then d.settleVerdicts else d.send (.verdict 0 d.devNo true)

/-! ### Stops -/

/-- R428: every thread freed, every queue emptied; what draws random bits later opens its contexts again (R230). -/
def emptyQueues (d : Device) : Device :=
  let d := forN 1536 d (fun d g => d.modCore g (fun c => { c with
    thr := [], engq := [], moveq := [], watch := [], groups := [], armed := [], lack := [], again := [] }))
  let d := forN 96 d (fun d k => d.modClu k (fun c => { c with
    cvt := none, red := none, ltb := none, mjob := none, pred := none, reread := [] }))
  { forN 673 d.loseContexts (fun d q => d.setSq q { d.sq q with st := .idle, pend := 0 }) with movq := [] }

/-- R428, ABORT; also how a restore stops a member (R514). The cause of the taint is given by its caller. -/
def abortRun (d : Device) (cause : Nat) : Device := ((d.emptyQueues).taint cause).haltRun

end Device

end Sys2Proof.Machine
end

