-- ==== Sys2Proof/Machine/HarvestOps.lean ====
section
/-! DEFINITION. Images, manifests and what a Harvest and a restore do with them (R501 to R518). -/

namespace Sys2Proof.Machine

/-! ### The image (R503, R504) -/

/-- The plan image padded to 4 KiB. -/
def planRegion (im : List Byte) : List Byte := im ++ List.replicate ((4096 - im.length % 4096) % 4096) 0

/-- The regions of an image after the plan's, each with its offset in the slot. -/
def regOffsets (im : List Byte) (f : PlanFacts) : List (Nat × HvReg) :=
  (f.hvRegs.foldl (fun (acc : Nat × List (Nat × HvReg)) r => (acc.1 + r.len, acc.2 ++ [(acc.1, r)]))
    (0x10000 + (planRegion im).length, [])).2

namespace Device

def slotBase (f : PlanFacts) (slot : Nat) : Nat := if slot = 0 then f.hvLocalA else f.hvLocalB
def keepBase (f : PlanFacts) (slot : Nat) : Nat := if slot = 0 then f.hvKeepA else f.hvKeepB
def slotImg (d : Device) (slot : Nat) : Option Image := if slot = 0 then d.hv.slotA else d.hv.slotB
def setSlotImg (d : Device) (slot : Nat) (x : Option Image) : Device :=
  if slot = 0 then { d with hv := { d.hv with slotA := x } } else { d with hv := { d.hv with slotB := x } }
def keepImg (d : Device) (slot : Nat) : Option Image := if slot = 0 then d.hv.keepA else d.hv.keepB
def setKeepImg (d : Device) (slot : Nat) (x : Option Image) : Device :=
  if slot = 0 then { d with hv := { d.hv with keepA := x } } else { d with hv := { d.hv with keepB := x } }

/-- The manifest of the image that the run writes, as it reads once sealed. The CRCs of tile regions read 0. -/
def manifest (d : Device) (r : HvRun) (im : List Byte) (f : PlanFacts) : List Byte :=
  let pr := planRegion im
  let entries := (leBytes 8 Config.planRegionSrc.toNat ++ leBytes 4 pr.length ++ leBytes 4 (crc32c pr)) ::
    f.hvRegs.map (fun g => leBytes 8 g.src ++ leBytes 4 g.len ++ leBytes 4 (if g.tiles then 0 else crc32c (d.bytes g.src g.len)))
  let head := leBytes 4 0x56485A41 ++ leBytes 1 1 ++ leBytes 1 0xA5 ++ leBytes 2 d.devNo ++ leBytes 4 r.hnum ++
    leBytes 8 (r.step % 2 ^ 48) ++ d.domOf 0x1300 6 ++ leBytes 8 (pr.length + (f.hvRegs.map (·.len)).sum) ++
    leBytes 4 entries.length ++ leBytes 16 0 ++ entries.flatten
  head ++ leBytes 4 (crc32c head)

/-- R364: the number of a Harvest engine among the inputs of both hub crossbars, five on each die; event 0x4008 records it as the
requester (R31; log entry 47). -/
def harvestPort (h : Fin 2) : Nat := 5 * h.val + 3

/-- R30, R31: one access of Harvest engine `h` on each side, neither across a 4 KiB boundary: what it may not read comes as
zeros, what it may not write is discarded. -/
def hubMove (h : Fin 2) (d : Device) (src dst n : Nat) : Device :=
  let ok := d.hubReach src n false
  let bs := if ok then d.bytes src n else List.replicate n 0
  let d := if ok then d else d.reachNothing 0 0 src (harvestPort h)
  if d.hubReach dst n true then d.putW dst bs else d.reachNothing 0 0 dst (harvestPort h)

/-- R33: the part of a copy that Harvest engine `h` makes: the pieces whose address in the tier (the destination, or the source)
lies on a channel of its own hub die. Larger blocks are split at 4 KiB boundaries (R29). -/
def engineCopy (h : Fin 2) (toTier : Bool) : Nat → Nat → Nat → Nat → Device → Device
  | 0, _, _, _, d => d
  | fuel + 1, src, dst, n, d =>
    if n = 0 then d
    else
      let k := min n (min (4096 - src % 4096) (4096 - dst % 4096))
      let d := if ddrHub (ddrChan (if toTier then dst else src)) = h then hubMove h d src dst k else d
      engineCopy h toTier fuel (src + k) (dst + k) (n - k) d

/-- R33: both Harvest engines make their parts. -/
def harvestCopy (d : Device) (toTier : Bool) (src dst n : Nat) : Device :=
  engineCopy 1 toTier (n / 2048 + 2) src dst n (engineCopy 0 toTier (n / 2048 + 2) src dst n d)

/-- R33, R509: bytes that Harvest engine `h` writes into the tier itself: those whose channel lies on its own hub die, no access across
a 4 KiB boundary. -/
def engineFill (h : Fin 2) : Nat → List Byte → Nat → Device → Device
  | 0, _, _, d => d
  | fuel + 1, bs, dst, d =>
    if bs.isEmpty then d
    else
      let k := 4096 - dst % 4096
      let p := bs.take k
      let d := if ddrHub (ddrChan dst) ≠ h then d
        else if d.hubReach dst p.length true then d.put dst p
        else d.reachNothing 0 0 dst (harvestPort h)
      engineFill h fuel (bs.drop k) (dst + k) d

/-- R33: both Harvest engines write their parts of the bytes. -/
def harvestFill (d : Device) (bs : List Byte) (dst : Nat) : Device :=
  engineFill 1 (bs.length / 4096 + 2) bs dst (engineFill 0 (bs.length / 4096 + 2) bs dst d)

/-- R508 order 4: the plan image, the metadata and the payload go into the slot. -/
def copyImage (d : Device) (base : Nat) (im : List Byte) (f : PlanFacts) : Device :=
  (regOffsets im f).foldl (fun d x => d.harvestCopy true x.2.src (base + x.1) x.2.len) (d.harvestFill (planRegion im) (base + 0x10000))

/-- R504: region `i`, from 1, of an image by the manifest in slot bytes: LEN and CRC, and where it begins. -/
def regionEntry (d : Device) (base i : Nat) : Nat × Nat :=
  let a := base + 0x40 + 16 * (i - 1)
  (d.load (a + 8) 4, d.load (a + 12) 4)

def regionOff (d : Device) (base i : Nat) : Nat :=
  0x10000 + ((List.range (i - 1)).map (fun j => (regionEntry d base (j + 1)).1)).sum

/-- R504: the manifest of a sealed image checks, and so does every region that carries a CRC. -/
def regionsIntact (d : Device) (base : Nat) (f : PlanFacts) : Bool :=
  let n := d.load (base + 0x2C) 4
  d.load base 4 == 0x56485A41 && d.byteAt (base + 5) == 0xA5 && n == f.hvRegs.length + 1 &&
  d.load (base + 0x40 + 16 * n) 4 == crc32c (d.bytes base (0x40 + 16 * n)) &&
  (List.range n).all (fun i =>
    let e := regionEntry d base (i + 1)
    (i != 0 && (f.hvRegs.getD (i - 1) ⟨0, 0, true⟩).tiles) || e.2 == crc32c (d.bytes (base + regionOff d base (i + 1)) e.1))

/-- R153, R514: every tile of an image whose header lies in it too passes its CRC; a tile whose header is zero was never written
(DESIGN CHOICE, log entry 71). -/
def tilesIntact (d : Device) (base : Nat) (im : List Byte) (f : PlanFacts) : Bool :=
  let regs := regOffsets im f
  (regs.filter (fun x => x.2.tiles)).all (fun x => (List.range (x.2.len / 4096)).all (fun t =>
    let a := x.2.src + 4096 * t
    match f.placements.find? (fun p => p.tile == 4096 && decide (p.payload ≤ a) && decide (a < p.payload + 4096 * p.count)) with
    | none => true
    | some p =>
      let h := p.header + 16 * ((a - p.payload) / 4096)
      match regs.find? (fun y => !y.2.tiles && decide (y.2.src ≤ h) && decide (h + 16 ≤ y.2.src + y.2.len)) with
      | none => true
      | some y =>
        let hb := d.bytes (base + y.1 + (h - y.2.src)) 16
        hb.all (· == 0) || crcOk (seenPayload (d.bytes (base + x.1 + 4096 * t) 4096) hb) hb))

/-- R514 order 4: hub firmware checks every tile CRC and region CRC of the image it loads. -/
def imageIntact (d : Device) (base : Nat) (im : List Byte) (f : PlanFacts) : Bool :=
  d.regionsIntact base f && d.tilesIntact base im f

/-- R514 order 4: the regions of an image go back into the plan's placements. -/
def loadImage (d : Device) (base : Nat) (im : List Byte) (f : PlanFacts) : Device :=
  (regOffsets im f).foldl (fun d x => d.harvestCopy false (base + x.1) x.2.src x.2.len) d

/-- R508 order 3: the slot that does not hold the newest committed image; slot A under LEAN. -/
def freeSlot (d : Device) (f : PlanFacts) : Nat := if f.hvLean then 0 else if d.num 0x1500 3 = 0 then 1 else 0

/-- R504: the number of the next Harvest: above every number known. -/
def nextHnum (d : Device) : Nat :=
  let n (x : Option Image) : Nat := match x with
    | some i => i.hnum
    | none => 0
  1 + max (d.num 0x1500 1) (max (n d.hv.slotA) (n d.hv.slotB))

/-- R511, R514: a Harvest under way ends without a commit and its slot is free. -/
def freeRun (d : Device) : Device :=
  match d.hv.run with
  | some r => { d.setSlotImg r.slot none with hv := { (d.setSlotImg r.slot none).hv with run := none } }
  | none => d

/-- R33, R512: each Harvest engine streams its part of the committed image to device `k`, on the rail of its own hub die. -/
def streamOut (d : Device) (k : Nat) : Device :=
  match nextDir d.shape d.position (d.mapPos k) with
  | none => d
  | some (i, plus) => forN 2 d (fun d e => d.send (.exportImage e (portOf e i plus) k (d.num 0x1500 1)))

/-- Where the ward of this member stands. -/
def wardPos (d : Device) (f : PlanFacts) : Option Nat := (wardIn f d.devNo).map (fun w => d.mapPos w)

/-- R512: the committed image goes to the keeper. -/
def startExport (d : Device) : Device :=
  match d.adm.facts with
  | none => d
  | some f => match keeperIn f d.devNo with
    | none => { d with hv := { d.hv with exporting := false, keptAt := none, wardAt := none } }
    | some k =>
      ({ d with hv := { d.hv with exporting := true, keptAt := some (d.mapPos k), wardAt := d.wardPos f } }).streamOut k

/-- R517: a member whose keeper or ward changed exports its newest committed image again. -/
def reExport (d : Device) : Device :=
  match d.adm.facts, d.hv.keptAt with
  | some f, some p =>
    let map := d.domOf 0x1701 1
    (match keeperIn f d.devNo with
      | some k =>
        let at_ (dev : Nat) := fieldB map (2 * dev) 2
        let ward := (wardIn f d.devNo).map at_
        if (at_ k ≠ p ∨ ward ≠ d.hv.wardAt) ∧ d.num 0x1500 1 ≠ 0 then
          (d.streamOut k).setNum 0x1500 5 0 0
            |> fun d => { d with hv := { d.hv with exporting := true, keptAt := some (at_ k), wardAt := ward } }
        else d
      | none => d)
  | _, _ => d

/-! ### Substitution (R24, R515) -/

/-- The logical number denotes another unit: its domain is off until it wakes with source SUBSTITUTION (3). -/
def wakeSpare (d : Device) (i : Nat) : Device := (((d.pdPut i 2).loseAll i).pdRequest i 0 3).1

/-- R515: no spare is left: the work is to be spread. -/
def spreadWork (d : Device) : Device :=
  (d.setNum 0x1500 6 0 1).recountUnits.raise 0x8013 0 0 0 (d.survArg d.devNo)

def substCore (d : Device) (g : Nat) : Device :=
  let pc := 25 * (g / 384) + d.num 0x7000 1 (g / 16 + 1)
  match d.thaw.spareCo.find? (fun x => x / 17 == pc) with
  | some x =>
    let d := { d with thaw := { d.thaw with spareCo := d.thaw.spareCo.filter (· != x) } }
    let d := ((d.setNum 0x7001 1 (g + 1) (x % 17)).setNum 0x7001 2 (g + 1) 1).addNum 0x7001 3 (g + 1) 1
    let d := (d.setCore g {}).wakeSpare (pdCo g)
    d.recountUnits.raise 0x8012 0x7001 (g + 1) 0 (d.survArg d.devNo)
  | none => (((d.setNum 0x7001 2 (g + 1) 2).pdPut (pdCo g) 2).loseAll (pdCo g)).spreadWork

def substCluster (d : Device) (k : Nat) : Device :=
  let die := k / 24
  let cores := (List.range 16).map (fun l => 16 * k + l)
  match d.thaw.spareCl.find? (fun x => x / 25 == die) with
  | some x =>
    let d := { d with thaw := { d.thaw with spareCl := d.thaw.spareCl.filter (· != x) } }
    let d := ((d.setNum 0x7000 1 (k + 1) (x % 25)).setNum 0x7000 2 (k + 1) 1).addNum 0x7000 3 (k + 1) 1
    let qs := Thaw.goodCores d.thaw.repair d.thaw.coBad x
    let d := cores.foldl (fun d g =>
      let l := g % 16
      let d := ((d.setNum 0x7001 1 (g + 1) (qs.getD l 0xFF)).setNum 0x7001 2 (g + 1) 1).addNum 0x7001 3 (g + 1) 1
      ((d.setCore g {}).pdPut (pdCo g) 2).loseAll (pdCo g)) d
    let d := d.wakeSpare (pdCl k)
    let d := cores.foldl (fun d g => (d.pdRequest (pdCo g) 0 3).1) d
    let d := (d.setNum 0x7002 1 (die + 1) 0xFF).recountUnits
    d.raise 0x8012 0x7000 (k + 1) 0 (d.survArg d.devNo)
  | none =>
    let d := cores.foldl (fun d g => ((d.setNum 0x7001 2 (g + 1) 2).pdPut (pdCo g) 2).loseAll (pdCo g)) d
    (((d.setNum 0x7000 2 (k + 1) 2).pdPut (pdCl k) 2).loseAll (pdCl k)).spreadWork

/-- R514 order 3: every unit that failed since the last restore. A core whose cluster failed too moves, or is lost, with its cluster
(R24). -/
def substitute (d : Device) : Device :=
  let l := d.hv.failed.filter (fun x => x.1 || !d.hv.failed.contains (true, x.2 / 16))
  l.foldl (fun d x => if x.1 then d.substCluster x.2 else d.substCore x.2) { d with hv := { d.hv with failed := [] } }

/-! ### Restore (R513 to R518) -/

/-- R513: there is no restore point: the member is STOPPED, its plan LOADED. -/
def noRestorePoint (d : Device) (cause : Nat) : Device :=
  let d := (d.freeRun).raise 0x8008 0 0 (cause * 2 ^ 32) (d.survArg d.devNo)
  let d := { d with hv := { d.hv with restore := none } }
  if d.runState = 2 ∨ d.runState = 3 then d.abortRun 0x8006 else d

/-- R413, R514: a map that the master wrote names this position under another number: a spare takes that over. -/
def takeNumber (d : Device) : Device :=
  let map := d.domOf 0x1701 1
  if fieldB map (2 * d.devNo) 2 = d.position then d
  else match (List.range 4096).find? (fun n => fieldB map (2 * n) 2 == d.position) with
    | some n => d.setNum 0x1010 9 0 n
    | none => d

/-- R516, R517: a member of the plan has no position any more. -/
def memberGone (d : Device) : Bool :=
  match d.adm.facts with
  | some f =>
    let map := d.domOf 0x1701 1
    f.members.any (fun m => fieldB map (2 * m.dev) 2 == 0xFFFF)
  | none => false

/-- R514 orders 2 and 3 at every member. -/
def beginRestore (d : Device) (point cause : Nat) : Device :=
  let d := (d.freeRun.loseContexts).setNum 0x1502 5 0 (point + cause * 2 ^ 32)
  let d := if d.runState = 2 ∨ d.runState = 3 then d.abortRun 0x8006 else d
  let d := d.takeNumber
  let d := if d.memberGone then d.setNum 0x1500 6 0 1 else d
  { d.substitute with hv := { d.substitute.hv with restore := some { point := point, cause := cause } } }

/-- What counts by step is counted anew in a step that a restore repeats: openings (R240), events raised once in a step, counts of a
class, the taints of the steps after the restored one (R307, R308). -/
def repeatSteps (d : Device) (step : Nat) : Device :=
  let d := d.forgetOpens
  { d with evt := { d.evt with once := [] },
           health := { d.health with tainted := d.health.tainted.filter (fun e => decide (e.1 ≤ step)), taintedHdrs := [] } }

/-- R514 order 5: the rebase. -/
def rebase (d : Device) (step : Nat) : Device :=
  let d := (d.standAt (step * 2 ^ 24 + (2 ^ 24 - 1))).repeatSteps step
  { d with adm := { d.adm with restoreS0 := some (step + 1) } }

/-- R514: the local image of the restore point. -/
def localImage (d : Device) (point : Nat) : Option (Nat × Image) :=
  [0, 1].findSome? (fun s => match d.slotImg s with
    | some i => if i.isSealed && i.hnum = point then some (s, i) else none
    | none => none)

/-- The detectors and the risk estimate of an image come back. -/
def loadMonitor (d : Device) (i : Image) : Device :=
  ({ d with health := { d.health with det0 := i.det0, det1 := i.det1 } }).setNum 0x1400 1 0 i.risk

/-- R514 order 6: the plan is admitted again; `load` brings the state into its placements after its sections. -/
def readmit (d : Device) (im : List Byte) (f : PlanFacts) (load : Device → Device) : Device :=
  match d.checkPlan im f with
  | .error r => d.refuseOwn r
  | .ok slack => (load (d.loadPlan f)).admitPlan im (planHdr im) f slack |>.reExport

/-- R513: numbers sealed at every member: this one's, those of its ward where that is lost. -/
def restorePoint (d : Device) (limit : Nat) : Option Nat :=
  let own := [d.hv.slotA, d.hv.slotB].filterMap (fun x => match x with
    | some i => if i.isSealed && i.committed && decide (i.hnum ≤ limit) then some i.hnum else none
    | none => none)
  let kept := [d.hv.keepA, d.hv.keepB].filterMap (fun x => match x with
    | some i => if i.isSealed then some i.hnum else none
    | none => none)
  match d.adm.facts with
  | none => none
  | some f =>
    let lost := d.hv.lostSeen
    let orphan := lost.any (fun m => match keeperIn f m with
      | some k => lost.contains k
      | none => true)
    let wardLost := match wardIn f d.devNo with
      | some w => lost.contains w
      | none => false
    if orphan then none
    else (own.filter (fun n => !wardLost || kept.contains n)).max?

/-- R386, R517: the live spare position with the lowest number. -/
def spareAt (d : Device) (map : List Byte) (f : PlanFacts) : Option Nat :=
  let ps := positions d.shape
  if 512 < ps.length then none
  else ps.find? (fun p =>
    !f.members.any (fun m => fieldB map (2 * m.dev) 2 == p) && !d.hv.deadPos.contains p &&
    !bitOf (routeEntry d.shape d.downEntries d.position p) 2)

/-- R517: one lost member: a spare takes its number, or the number leaves the map. -/
def replaceMember (d : Device) (point m : Nat) : Device :=
  match d.adm.facts with
  | none => d
  | some f =>
    let map := d.domOf 0x1701 1
    match d.spareAt map f with
    | some p =>
      let map := if fieldB map (2 * p) 2 = p then overB map (2 * p) (leBytes 2 0xFFFF) else map
      (d.setDom 0x1701 1 0 (overB map (2 * m) (leBytes 2 p))).raise 0x8015 0 0 point (d.survArg m)
    | none => (d.setDom 0x1701 1 0 (overB map (2 * m) (leBytes 2 0xFFFF))).raise 0x8016 0 0 point (d.survArg m)

/-- R514 order 1, R517: the master decides the restore and writes it to every other member. -/
def masterRestore (d : Device) (limit cause : Nat) : Device :=
  let others := d.cad.members.filter (fun m => m != d.devNo)
  match d.restorePoint limit with
  | none =>
    let d := others.foldl (fun d m => d.send (.fwWrite m 0x1502 5 0 (cause * 2 ^ 32))) d
    d.noRestorePoint cause
  | some point =>
    let lost := d.hv.lostSeen
    let d := lost.foldl (fun d m => d.replaceMember point m) d
    let d := if lost.isEmpty then d else d.send (.numberMap (d.domOf 0x1701 1))
    let d := { d with hv := { d.hv with lostSeen := [] } }
    let gone (m : Nat) : Bool := fieldB (d.domOf 0x1701 1) (2 * m) 2 == 0xFFFF
    let d := (others.filter (fun m => !gone m)).foldl (fun d m =>
      d.send (.fwWrite m 0x1502 5 0 (point + cause * 2 ^ 32))) d
    (d.raise 0x8006 0 0 (point + cause * 2 ^ 32) (d.survArg d.devNo)).beginRestore point cause

end Device

end Sys2Proof.Machine
end

