-- ==== Sys2Proof/Machine/Admission.lean ====
section
/-! DEFINITION. Admission of a step plan (R341 to R345) and run control (R427, R428). -/

namespace Sys2Proof.Machine

/-- R343: the image is replaced as a whole while the device is stopped. -/
def planHook (image : List Byte) (d : Device) : Device × Nat :=
  if 2 ^ 28 < image.length then (d, stRange)
  else
    let d := ((d.setDom 0x1300 1 0 image).setNum 0x1300 3 0 1).touched 0x1300 1
    ({ d with adm := { d.adm with plan := none, facts := none } }, stOK)

def execAdmPlan (c : Conn) (image : List Byte) (s : State) : Out :=
  s.run (fun d => d.viaDomain c 0x1300 1 (planHook image))

/-- R343: CHECK in LOADED. -/
def checkHook (d : Device) : Device × Nat :=
  if d.admState = 1 then (d.setNum 0x1300 3 0 2, stOK) else (d, stState)

def execCheck (c : Conn) (s : State) : Out := s.run (fun d => d.viaObject c 0x1300 2 0 1 checkHook)

/-- The plan is empty. -/
def emptyPlan (d : Device) : Device :=
  let d := (d.setDom 0x1300 1 0 []).setNum 0x1300 3 0 0
  { d with adm := { d.adm with plan := none, facts := none } }

/-- R343, R344: DISCARD; in ADMITTED it withdraws the admission. -/
def discardHook (d : Device) : Device × Nat :=
  if d.admState = 0 then (d, stOK)
  else if d.admState = 2 ∨ d.admState = 4 then (d, stState)
  else if d.admState = 3 then
    let d := ((emptyPlan d.finishHold).setRun 1).setNum 0x1200 1 0 3
    let d := { d with cad := { d.cad with stopped := true, ahead := none, slew := 0 },
                      adm := { d.adm with verdicts := [], withdrawn := none } }
    (d.send (.verdict 0xA00F d.devNo true), stOK)
  else (emptyPlan d, stOK)

def execDiscard (c : Conn) (s : State) : Out := s.run (fun d => d.viaObject c 0x1300 2 0 2 discardHook)

/-- R516: the state of a plan that spreads the work comes from the local image of the restore point. -/
def loadSpread (d : Device) (f : PlanFacts) (base : Nat) : Device :=
  f.hvLoads.foldl (fun d x => d.put x.2.1 (d.bytes (base + x.1) x.2.2)) d

/-- R516: a new plan admitted while REPLAN is set: the restore's image goes into its placements. -/
def admitNew (d : Device) (im : List Byte) (f : PlanFacts) (slack : List Nat) : Device :=
  match d.hv.restore with
  | none => (d.loadPlan f).admitPlan im (planHdr im) f slack
  | some r => match d.localImage r.point with
    | some (slot, i) =>
      let d := (((d.setNum 0x1500 6 0 0).loadMonitor i).rebase i.step).loadPlan f
      ((loadSpread d f (if slot = 0 then f.hvLocalA else f.hvLocalB)).admitPlan im (planHdr im) f slack).reExport
    | none => (d.loadPlan f).admitPlan im (planHdr im) f slack

/-- R348: the check ends; `facts` is what the sections of the image hold. -/
def execAdmissionDone (facts : PlanFacts) (s : State) : Out :=
  s.run (fun d =>
    if d.admState ≠ 2 then d
    else
      let im := d.domOf 0x1300 1
      let f := factsOf im facts
      match d.checkPlan im f with
      | .error r => d.refuseOwn r
      | .ok slack => admitNew d im f slack)

/-- R345, R408: a verdict on its way up reaches the master, one on its way down a member. The identity bytes are not
compared. -/
def execVerdictReceive (planId : BitVec 64) (code : BitVec 16) (dev : BitVec 12) (fromMaster : Bool) (s : State) : Out :=
  s.run (fun d =>
    let c := code.toNat
    let m := dev.toNat
    let _ := planId
    if fromMaster then
      if d.isMaster || (m = d.devNo && c != 0xA00E) then d else d.refuseByOther (if c = 0xA00E then c else 0xA00F) m
    else if d.num 0x1200 1 = 0 ∨ d.num 0x1200 1 = 2 then d
    else if c = 0xA00F then { d with adm := { d.adm with withdrawn := some m } }
    else
      let first := d.adm.verdicts.all (fun v => v.2 == 0)
      let d := { d with adm := { d.adm with verdicts := d.adm.verdicts.filter (fun v => v.1 != m) ++ [(m, c)] } }
      if c = 0 then d.settleVerdicts
      else if first && d.admState != 5 then (d.send (.verdict c m false)).refuseByOther 0xA00F m
      else d)

/-- R344: the counter has stood before S0 for the limit, or, at a member, no word has come for that long. -/
def admittedLate (d : Device) : Bool :=
  (d.cad.stopped && decide (d.cad.stopNs + d.holdLimitNs ≤ d.time.nowNs)) ||
  (!d.isMaster && decide (d.heardNs + d.holdLimitNs ≤ d.time.nowNs))

/-- R344: ADMITTED has lasted its limit without a release, or without a word. -/
def execAdmittedTimeout (s : State) : Out :=
  s.run (fun d =>
    if d.admState ≠ 3 || !admittedLate d then d
    else match d.isMaster, d.adm.withdrawn with
      | true, some m => d.refuse { code := 0xA00F, member := m }
      | _, _ => d.refuse { code := 0xA00E, member := d.devNo })

/-- R428: the step to complete: RUN_STOP_STEP, or the current step where that one has passed. A plan that has not reached S0
stops at once unless RUN_STOP_STEP is one of its steps. -/
def stopHook (d : Device) : Device × Nat :=
  if d.runState ≠ 2 then (d, stState)
  else
    let n := d.num 0x1100 3 % 2 ^ 48
    if d.admState = 3 ∧ posDiff n 0 d.cad.s0 0 < 0 then (d.haltRun, stOK)
    else
      let d := d.setRun 3
      ({ d with cad := { d.cad with stopStep := some (if posDiff n 0 d.cad.step 0 < 0 then d.cad.step else n) } }, stOK)

def execStop (c : Conn) (s : State) : Out := s.run (fun d => d.viaObject c 0x1100 2 0 1 stopHook)

/-- R428. No event causes the taint: its cause reads 0. -/
def abortHook (d : Device) : Device × Nat :=
  if d.runState ≠ 2 then (d, stState) else (d.abortRun 0, stOK)

def execAbort (c : Conn) (s : State) : Out := s.run (fun d => d.viaObject c 0x1100 2 0 2 abortHook)

end Sys2Proof.Machine
end

