-- ==== Sys2Proof/Machine/Age.lean ====
section
/-! DEFINITION. Ageing monitors and the margin planner (R486 to R491). A reading that starts the planner marks the die;
PLANNER_RUN is the run (log entry 25). -/

namespace Sys2Proof.Machine

/-- R486, R487, R490: the least slack among a die's canaries in service. A reading that spans two load classes gives no
Vmin. -/
def execCanaryReading (die : Die) (slackPs : Nat) (meanMa minMa maxMa : Nat) (s : State) : Out :=
  s.run (fun d =>
    let pt := (d.freq die - 550) / 50
    let least := Map.get 0 d.age.canaryHour die
    let low := if least = 0 then slackPs else min slackPs (least - 1)
    let d := { d with age := { d.age with canaryHour := Map.set 0 d.age.canaryHour die (low + 1) } }
    let d := d.setNum 0x70C1 5 (die + 1) (min low 65535)
    let d := if loadClass minMa = loadClass maxMa then
        let uv : Int := 100 * d.vcore die - (slackPs * 1000000 / Config.canaryK die pt : Nat)
        let key := 64 * die.val + 4 * pt + loadClass meanMa
        { d with age := { d.age with
            readings := Map.upd [] d.age.readings key (fun l => pushVmin l { uv := uv, hour := d.hours }) } }
      else d
    if slackPs < 10 then
      ((d.raise 0x600B 0x70C1 (die + 1) (pointArg die (d.freq die)) slackPs).bumpVplan die).planDue die
    else d)

/-- R486, R490: the mean change of a die's ring oscillators; its fall past 2 % starts the planner. -/
def execRingOscReading (die : Die) (driftPpm : Int) (s : State) : Out :=
  s.run (fun d =>
    let old := sgnOf 32 (d.num 0x70C1 6 (die + 1))
    let d := d.setNum 0x70C1 6 (die + 1) (ofSgn 32 driftPpm)
    if driftPpm ≤ -20000 && decide (-20000 < old) then d.planDue die else d)

/-- R486: one more hour in the 5 °C bin of a die's last junction reading. -/
def binHour (d : Device) (die : Nat) : Device :=
  let t := Map.get 0 d.pwr.tj die
  if 1040 ≤ t && t < 1110 then
    let b := d.domOf 0x70C1 7 (die + 1)
    let o := 4 * ((t - 1040) / 5)
    d.setDom 0x70C1 7 (die + 1) (overB b o (leBytes 4 (fieldB b o 4 + 1)))
  else d

/-- R487, R490. -/
def execPowerOnHour (s : State) : Out :=
  s.run (fun d =>
    let d := d.addNum 0x1C00 1 0 1
    let d := d.writeRec .hours (leBytes 4 d.hours) true
    let d := forN 4 { d with age := { d.age with canaryHour := [] } } binHour
    if d.num 0x1C00 2 + d.force 0x1C00 3 ≤ d.hours then forN 4 d (fun d i => d.planDue i) else d)

def execPlannerRun (die : Die) (s : State) : Out :=
  s.run (fun d => if Map.get false d.age.due die then d.planDie die else d)

/-- R491: in Winter what rises; while the device is stopped all of it. -/
def execMarginPlanApply (die : Die) (s : State) : Out :=
  s.run (fun d => if d.isStopped then d.applyMargin die true
    else if d.planRuns && d.season = 3 then d.applyMargin die false else d)

/-- R490: AGE_REPLAN takes 1 alone. -/
def replanHook (v : Nat) (d : Device) : Device × Nat :=
  if v = 1 then (forN 4 d (fun d i => d.planDue i), stOK) else (d, stRange)

def execAgeReplan (c : Conn) (v : Byte) (s : State) : Out :=
  s.run (fun d => d.viaObject c 0x1C00 4 0 v.toNat (replanHook v.toNat))

end Sys2Proof.Machine
end

