-- ==== Sys2Proof/Machine/BgOps.lean ====
section
/-! DEFINITION. Background work and the memory tiers (R375 to R380, R492, R493): the quota of a season, errors, losses. -/

namespace Sys2Proof.Machine

/-- The number of an HBM4 channel among the scrubbed and calibrated ones; DDR5 channels follow at 512. -/
def hbmChan (h ch : Nat) : Nat := 32 * h + ch
def ddrKey (c : Nat) : Nat := 512 + c

namespace Device

/-! ### The quota (R493) -/

/-- Length of the present season in ns; 0 while no plan runs. -/
def seasonNs (d : Device) : Nat :=
  match d.adm.plan with
  | some h => if d.planRuns then (seasonLens h).getD d.season 0 * h.period / 2 ^ 24 else 0
  | none => 0

/-- The season's number, 0 while no plan runs; counts start anew with it. -/
def bgSlot (d : Device) : Nat := if d.planRuns then 4 * d.cad.step + d.season + 1 else 0
def bgRenew (d : Device) : Device :=
  if d.bg.slot = d.bgSlot then d
  else { d with bg := { d.bg with slot := d.bgSlot, grants := [], deferred := false } }

/-- R493: Q of an arbiter that has `num` grant slots in `den` ns. -/
def bgQuota (d : Device) (num den : Nat) : Nat := d.seasonNs * num / den / 2 ^ (d.force 0x1301 (d.season + 1))

/-- R493: `n` grants to background classes at arbiter `key`; none once the quota does not hold them, which counts in
BG_DEFERRED once a season. While no plan runs no season sets a quota. -/
def bgTake (d : Device) (key num den n : Nat) : Device × Bool :=
  let d := d.bgRenew
  let g := Map.get 0 d.bg.grants key
  if d.planRuns && decide (d.bgQuota num den < g + n) then
    (if d.bg.deferred then d
     else ({ d with bg := { d.bg with deferred := true } }).addNum 0x1C01 3 0 1, false)
  else ({ d with bg := { d.bg with grants := Map.set 0 d.bg.grants key (g + n) } }, true)

/-! ### Losses -/

/-- R21, R375: all step work stops and the device reports itself lost. -/
def loseDevice (d : Device) : Device :=
  let d := d.emptyQueues
  ({ d with cad := { d.cad with stopped := true, stopNs := d.time.nowNs } }).send .reportLost

/-! ### HBM4 errors (R375) -/

def hbmCorrected (d : Device) (h ch a : Nat) : Device := d.raiseEvery 1000000 0x4002 (hbmChan h ch) 0x70A0 (h + 1) a
def hbmUncorrectable (d : Device) (h a : Nat) : Device := d.raise 0x4003 0x70A0 (h + 1) a
def hbmLost (d : Device) (h a : Nat) : Device :=
  ((d.setNum 0x70A0 1 (h + 1) 1).raise 0x4007 0x70A0 (h + 1) a).loseDevice

/-! ### DDR5 errors (R376, R379) -/

def ddrCorrected (d : Device) (c a : Nat) : Device := d.raiseEvery 1000000 0x4004 (ddrKey c) 0x70A1 (c + 1) a

/-- An uncorrectable burst; the sixteenth within one second loses the channel. -/
def ddrUncorrectable (d : Device) (c a : Nat) : Device :=
  let d := d.raise 0x4005 0x70A1 (c + 1) a
  let l := d.time.nowNs :: (Map.get [] d.bg.bursts c).filter (fun t => decide (d.time.nowNs < t + 1000000000))
  let d := { d with bg := { d.bg with bursts := Map.set [] d.bg.bursts c l } }
  if 16 ≤ l.length then d.loseDdr c else d

/-! ### Scrub addresses (R373, R377, R380) -/

/-- The address of read `i` of a pass: 128 bytes of an HBM4 channel, 64 bytes of a DDR5 channel. -/
def hbmScrubAddr (h ch i : Nat) : Nat := h * 0x1800000000 + 8192 * (i / 2) + 256 * ch + 128 * (i % 2)
def ddrScrubAddr (c i : Nat) : Nat := ddrBase + (12 * (i / 64) + c) * 4096 + 64 * (i % 64)

/-- Reads of a pass. -/
def hbmReads : Nat := 25165824
def ddrReads (d : Device) (c : Nat) : Nat := d.num 0x70A1 3 (c + 1) * 2 ^ 24

def scrubAt (d : Device) (key : Nat) : Nat := Map.get 0 d.bg.scrubAt key
def setScrub (d : Device) (key n : Nat) : Device := { d with bg := { d.bg with scrubAt := Map.set 0 d.bg.scrubAt key n } }

/-- R380: what was corrected is written back by the scrubber's next request. -/
def setWriteBack (d : Device) (key : Nat) (x : Option (Nat × List Byte)) : Device :=
  { d with bg := { d.bg with writeBack := Map.set none d.bg.writeBack key x } }

/-- R380: the write-back is dropped where another write to the same bytes came after the read. -/
def doWriteBack (d : Device) (key : Nat) : Device :=
  match Map.get none d.bg.writeBack key with
  | none => d
  | some (a, b) =>
    let d := d.setWriteBack key none
    if d.bytes a b.length = b then d.put a b else d

/-! ### Calibration (R492, R493) -/

/-- One calibration of a channel, `n` grant slots; where the quota withholds it, it waits, and past twice its period that is
reported once. -/
def calibrate (d : Device) (key num den n period ua ui : Nat) : Device :=
  let last := Map.get 0 d.bg.cal key
  let set (d : Device) : Device := { d with bg := { d.bg with
    cal := Map.set 0 d.bg.cal key (d.time.nowNs + 1), calLate := Map.set false d.bg.calLate key false } }
  let r := d.bgTake key num den n
  if r.2 then set r.1
  else if last = 0 then set r.1
  else if last - 1 + 2 * period < d.time.nowNs && !Map.get false d.bg.calLate key then
    ({ r.1 with bg := { r.1.bg with calLate := Map.set false r.1.bg.calLate key true } }).raise 0x600D ua ui 0 0
  else r.1

def hbmCalibrate (d : Device) (h ch : Nat) : Device :=
  if d.pdState (pdH h) ≠ 0 then d else d.calibrate (hbmChan h ch) 1 4 250 100000000 0x70A0 (h + 1)
def zqCalibrate (d : Device) (c : Nat) : Device :=
  if d.pdState (pdD (c / 6)) ≠ 0 then d else d.calibrate (ddrKey c) 1 5 200 128000000 0x70A1 (c + 1)

/-! ### Telemetry (R496) -/

/-- The counters of the per-unit arrays: their U64 objects that are not times or stamps. -/
def counters (d : Device) : Map Nat :=
  d.dict.num.filter (fun e =>
    let idx := e.1 / 16777216
    let sub := e.1 / 65536 % 256
    decide (0x7000 ≤ idx) && !(idx == 0x70C0 && sub == 5) && (match objRow idx sub with
      | some r => r.ty == .u64
      | none => false))

/-- The 64-bit counters of one snapshot, all units of the arrays, and how many such records 4 MiB hold. -/
def telSlots : Nat :=
  let n := (objRows.filter (fun r => decide (0x7000 ≤ r.idx) && decide (r.idx < 0x8000) && r.ty == .u64)).foldl
    (fun n r => n + (r.hi - r.lo + 1) * objInsts r.idx) 0
  4194304 / (8 * n)

def snapshot (d : Device) : Device :=
  let now := d.counters
  let delta := now.filterMap (fun e =>
    let v := (e.2 + 2 ^ 64 - Map.get 0 d.bg.telPrev e.1) % 2 ^ 64
    if v = 0 then none else some (e.1, v))
  { d with bg := { d.bg with telPrev := now, telRing := (delta :: d.bg.telRing).take telSlots } }

end Device

end Sys2Proof.Machine
end

