-- ==== Sys2Proof/Machine/Arbiter.lean ====
section
/-! DEFINITION. The fair arbiters (R13, R359 to R366, R404). -/

namespace Sys2Proof.Machine

/-- R364: grant slots per nanosecond, as a fraction: one fabric cycle is 10/11 ns, an engine clk 1,000/f ns. -/
def arbRate (d : Device) : Arb → Nat × Nat
  | .bank .. => (11, 10)
  | .localMem g _ => (d.freq (g / 384), 1000)
  | .rng _ => (176, 10)
  | .noc .. => (11, 10)
  | .inject .. => (11, 10)
  | .edge .. => (77, 10)
  | .hub .. => (11, 10)
  | .hbm .. => (1, 4)
  | .ddr _ => (1, 5)
  | .flisolFwd _ => (10000, 30365)
  | .flisolLoc _ => (10000, 30365)

/-- R13, R107: the engines behind a port: those of a shared store port, and the cluster's four stream engines behind
requester 10 of a bank of local memory. -/
def arbEngines (a : Arb) (port : Nat) : Nat :=
  match a with
  | .bank .. => storeTurns port
  | .localMem .. => if port = 10 then 4 else 1
  | _ => 1

/-- R361: masked while a domain of the requester is in retention or off, or in transition, where it is held in reset (R474); the manual
names no other reset of a unit. -/
def arbMasked (d : Device) (a : Arb) (port : Nat) : Bool := (arbDomains a port).any (fun i => d.pdState i != 0)

/-- R363, R382: ARB_PRIO of a class. -/
def classPrio (d : Device) (cls : Nat) : Nat := d.num 0x1F01 (cls + 1)

/-- R349, R363: SCRUB, CALIB and TELEMETRY are background classes. -/
def isBackground (cls : Nat) : Bool := decide (4 ≤ cls) && decide (cls ≤ 6)

/-- R13, R359: a request of an engine: it waits for its turn behind the port; one that already waits presents no second. -/
def ArbIn.offer (x : ArbIn) (eng cls : Nat) : ArbIn :=
  if x.waits.any (fun w => w.1 == eng) || (x.cls.isSome && x.eng == eng) then x
  else { x with waits := x.waits ++ [(eng, cls)] }

/-- R13: a free port presents the request of the next engine in the rotation that has one. -/
def ArbIn.present (x : ArbIn) (n : Nat) : ArbIn :=
  match x.cls with
  | some _ => x
  | none =>
    match ((List.range n).map (fun i => (x.turn + i) % n)).find? (fun e => x.waits.any (fun w => w.1 == e)) with
    | none => x
    | some e =>
      let c := ((x.waits.find? (fun w => w.1 == e)).getD (0, 0)).2
      { x with cls := some c, age := 0, eng := e, waits := x.waits.filter (fun w => w.1 != e), turn := (e + 1) % n }

/-- R360: the better of two live requesters, each with its port: on an oldest grant by age alone, else by priority, then age,
then the lower port. -/
def arbBetter (prio : Nat → Nat) (oldest : Bool) (x y : Nat × ArbIn) : Nat × ArbIn :=
  let p (z : Nat × ArbIn) : Nat := if oldest then 0 else prio (z.2.cls.getD 0)
  if p x ≠ p y then (if p x < p y then y else x)
  else if x.2.age ≠ y.2.age then (if x.2.age < y.2.age then y else x)
  else if y.1 < x.1 then y else x

/-- R360: one grant slot: the state afterwards and the winner. -/
def arbitrate (s : ArbS) (n : Nat) (prio : Nat → Nat) : ArbS × Option (Nat × ArbIn) :=
  match s.inputs.filter (fun e => e.2.cls.isSome) with
  | [] => (s, none)
  | l :: ls =>
    let w := ls.foldl (arbBetter prio (s.count == n - 1)) l
    let inputs := (l :: ls).foldl (fun m e =>
      if e.1 = w.1 then Map.set {} m e.1 { e.2 with cls := none, age := 0 }
      else Map.set {} m e.1 { e.2 with age := e.2.age + 1 }) s.inputs
    ({ count := (s.count + 1) % n, inputs := inputs }, some w)

/-! ### Ports of a cluster store (R13, R146) -/

/-- R146: one bank request for each 32-byte granule of a block, with the bytes of the block that lie in it. -/
def granules (q : PortReq) : List Granule :=
  (List.range ((q.off % 32 + q.len + 31) / 32)).map (fun i =>
    let lo := max q.off (32 * (q.off / 32 + i))
    let n := min (q.off + q.len) (32 * (q.off / 32 + i + 1)) - lo
    { bank := (q.off / 32 + i) % 64, off := lo, len := n, data := q.data.map (fun bs => sliceB bs (lo - q.off) n) })

/-- R146: the block of a port request: 32 to 128 bytes inside one 128-byte-aligned block. -/
def blockOk (q : PortReq) : Bool :=
  decide (32 ≤ q.len) && decide (q.off % 128 + q.len ≤ 128) && decide (q.off + q.len ≤ 0x1000000) &&
  decide (q.eng < storeTurns q.port.val) && decide (q.cls ≤ 6) && q.data.all (fun bs => bs.length == q.len)

/-- R13: an engine's request waits for its turn; the port holds one of each engine. -/
def StorePortS.offer (x : StorePortS) (eng cls : Nat) (gs : List Granule) : StorePortS :=
  if x.waits.any (fun w => w.1 == eng) || (x.cur.map (·.1)) == some eng then x
  else { x with waits := x.waits ++ [(eng, cls, gs)] }

/-- R13: a free port takes up the request of the next engine in the rotation that has one. -/
def StorePortS.takeUp (x : StorePortS) (n : Nat) : Option (StorePortS × (Nat × Nat × List Granule)) :=
  match x.cur with
  | some _ => none
  | none =>
    match ((List.range n).map (fun i => (x.turn + i) % n)).findSome? (fun e => x.waits.find? (fun w => w.1 == e)) with
    | none => none
    | some w => some ({ cur := some w, waits := x.waits.filter (fun y => y.1 != w.1), turn := (w.1 + 1) % n }, w)

namespace Device

def storePortS (d : Device) (k p : Nat) : StorePortS := Map.get {} d.bg.storePorts (32 * k + p)
def setStorePort (d : Device) (k p : Nat) (x : StorePortS) : Device :=
  { d with bg := { d.bg with storePorts := Map.set {} d.bg.storePorts (32 * k + p) x } }

/-- R13, R146: a free port presents its next request to every bank that the request needs. -/
def presentPort (d : Device) (k : Cluster) (p : Nat) : Device :=
  match (d.storePortS k p).takeUp (storeTurns p) with
  | none => d
  | some (x, w) => w.2.2.foldl (fun d g =>
      let key := arbKey (.bank k (Fin.ofNat 64 g.bank))
      let s := d.arb key
      d.setArb key { s with inputs := Map.set {} s.inputs p { cls := some w.2.1, age := 0, eng := w.1 } }) (d.setStorePort k p x)

/-- Port requests arrive at a cluster's store; those of masked requesters are discarded (R361). -/
def portRequests (d : Device) (k : Cluster) (b : Fin 64) (qs : List (Nat × Nat × Nat × List Granule)) : Device :=
  let d := qs.foldl (fun d q =>
    if arbMasked d (.bank k b) q.1 then d else d.setStorePort k q.1 ((d.storePortS k q.1).offer q.2.1 q.2.2.1 q.2.2.2)) d
  forN 25 d (fun d p => if arbMasked d (.bank k b) p then d.setStorePort k p {} else d.presentPort k p)

/-- R146: the granule that a bank has granted moves: a write into the store, a read into what the port has got. -/
def moveGranule (d : Device) (k : Cluster) (x : StorePortS) (g : Granule) : Device × StorePortS :=
  match g.data with
  | some bs => (d.putW (storeAddr k g.off) bs, x)
  | none => (d, { x with got := Map.set [] x.got g.off (d.bytes (storeAddr k g.off) g.len) })

/-- R146: a bank has granted the port's request: its granule moves; with the last one the request is complete, and the port takes up
the next. -/
def bankGranted (d : Device) (k : Cluster) (b : Fin 64) (p eng : Nat) : Device :=
  let x := d.storePortS k p
  match x.cur with
  | none => d
  | some c =>
    let y := (c.2.2.filter (fun g => g.bank == b.val)).foldl (fun y g => moveGranule y.1 k y.2 g) (d, x)
    let left := c.2.2.filter (fun g => g.bank != b.val)
    if left.isEmpty then
      ((y.1.setStorePort k p { y.2 with cur := none, got := [] }).send (.portDone k p eng (y.2.got.flatMap (·.2)))).presentPort k p
    else y.1.setStorePort k p { y.2 with cur := some (c.1, c.2.1, left) }

/-- R361: pending requests of masked requesters are discarded, their ages 0. -/
def arbMask (d : Device) (a : Arb) (s : ArbS) : ArbS :=
  { s with inputs := s.inputs.foldl (fun m e => if arbMasked d a e.1 then Map.set {} m e.1 {} else m) s.inputs }

/-- R366: ages beyond N × R are faults. -/
def arbAges (d : Device) (a : Arb) (n : Nat) : Device :=
  (d.arb (arbKey a)).inputs.foldl (fun d e =>
    if e.2.cls.isSome && decide (n * arbR a < e.2.age) then d.raise 0x4014 0 0 (arbKey a) e.1 else d) d

/-- R161: an engine whose request still waits at a bank arbiter of its core's local memory counts cause 3 for this engine clk (a
grant slot of that arbiter). -/
def bankStalls (d : Device) (a : Arb) : Device :=
  match a with
  | .localMem g _ => d.addStall g 3 ((d.arb (arbKey a)).inputs.filter (fun e => decide (e.1 < 8) && e.2.cls.isSome)).length
  | _ => d

end Device

/-- R493: background requests are presented only within what is left of the quota, SCRUB before CALIB before TELEMETRY. -/
def withinQuota (d : Device) (a : Arb) (reqs : List (Nat × Nat)) : List (Nat × Nat) :=
  if !d.planRuns then reqs
  else
    let r := arbRate d a
    let left := d.bgQuota r.1 r.2 - Map.get 0 d.bg.grants (1024 + arbKey a)
    let bg := sortBy (fun x y => decide (x.2 ≤ y.2)) (reqs.filter (fun q => isBackground q.2))
    reqs.filter (fun q => !isBackground q.2) ++ bg.take left

/-- The requests that `reqs` and `blocks` bring before a grant slot: at a store bank port requests, split into their banks (R146),
elsewhere requests at the arbiter itself. -/
def Device.arbOffers (d : Device) (a : Arb) (reqs : List (Nat × Nat)) (blocks : List PortReq) : Device :=
  match a with
  | .bank k b => d.portRequests k b (reqs.map (fun q => (q.1 % 256, q.1 / 256, q.2, [{ bank := b.val }])) ++
      (blocks.filter blockOk).map (fun q => (q.port.val, q.eng, q.cls, granules q)))
  | _ =>
    let key := arbKey a
    let x := reqs.foldl (fun (x : ArbS) q =>
      { x with inputs := Map.upd {} x.inputs (q.1 % 256) (fun i => i.offer (q.1 / 256) q.2) }) (d.arb key)
    d.setArb key { x with inputs := x.inputs.foldl (fun m e => Map.set {} m e.1 (e.2.present (arbEngines a e.1))) x.inputs }

/-- R360: a grant slot of an arbiter. `reqs` are the requests that become pending before it: requester (port plus 256 × the
engine behind a shared port) and class; `blocks` are requests of a store's ports with the bytes they move. The commands of cores and
engines that read or write a store are whole: their own port requests are not presented here (log entry 78). What SCRUB and CALIB do at HBM4 and DDR5 channels is counted by their own commands
(log entry 27). -/
def execArbiterGrant (a : Arb) (reqs : List (Nat × Nat)) (blocks : List PortReq) (s : State) : Out :=
  s.run (fun d =>
    let d := d.bgRenew
    let key := arbKey a
    let n := max 2 (d.force 0x1F00 1)
    let ok := reqs.filter (fun q => decide (q.1 % 256 < arbR a) && decide (q.1 / 256 < arbEngines a (q.1 % 256)) &&
      decide (q.2 ≤ 6) && !arbMasked d a (q.1 % 256))
    let d := (d.setArb key (d.arbMask a (d.arb key))).arbOffers a (withinQuota d a ok) blocks
    let r := arbitrate (d.arb key) n (classPrio d)
    let d := (d.setArb key r.1).bankStalls a
    match r.2 with
    | none => d
    | some w =>
      let counted := match a with
        | .hbm .. => false
        | .ddr _ => false
        | _ => isBackground (w.2.cls.getD 0)
      let d := if counted then
          { d with bg := { d.bg with grants := Map.upd 0 d.bg.grants (1024 + key) (· + 1) } }
        else d
      let d := d.send (.granted key w.1 w.2.eng)
      (match a with
        | .bank k b => d.bankGranted k b w.1 w.2.eng
        | _ => d).arbAges a n)

/-- R359, R363: class `cls` of ARB_PRIO; every pending request follows it from the next grant. -/
def execArbPrio (c : Conn) (cls : Fin 7) (v : Byte) (s : State) : Out :=
  s.run (fun d => d.viaObject c 0x4F01 (cls + 1) 0 v.toNat (fun d => (d.setNum 0x4F01 (cls + 1) 0 v.toNat, stOK)))

end Sys2Proof.Machine
end

