-- ==== Sys2Proof/Machine/Cadence.lean ====
section
/-! DEFINITION. The step cadence (R328 to R340, R557). -/

namespace Sys2Proof.Machine

/-! ### Gates and DONE (R338) -/

/-- The target of a gate entry in the present step. -/
def gateTarget (d : Device) (e : GateEntry) : W32 :=
  BitVec.ofNat 32 (e.base + (d.cad.step + 2 ^ 48 - d.cad.s0) % 2 ^ 48 * e.inc)

def gateReached (d : Device) (e : GateEntry) : Bool :=
  !(BitVec.ofNat 32 (d.load (Device.storeAddr e.cluster e.off) 4) - gateTarget d e).msb

/-- R357, CAD_GATE_PENDING: bit s, the cluster's entries for season s are not all reached. -/
def gatePending (d : Device) (k : Nat) : Nat :=
  (List.range 4).foldl (fun n s =>
    n + b2n (d.cad.gates.any (fun e => e.cluster == k && e.season == s && !gateReached d e)) * 2 ^ s) 0

/-- R338: every cluster in service has reached its entries, every micro-sequencer run has ended, and in Winter a Harvest
taken there is sealed (R508). The hub-core work of the season is reported by the command itself. -/
def seasonDone (d : Device) : Bool :=
  d.cad.gates.all (fun e => e.season != d.season || d.num 0x7000 2 (e.cluster + 1) == 2 || gateReached d e) &&
  d.seqs.all (fun x => x.2.st == .idle && x.2.pend == 0) &&
  (match d.hv.run with
    | some r => r.copied
    | none => true)

/-- The word is written to the store; the gate unit watches it at the banks. -/
def execGateWordWrite (k : Cluster) (off : BitVec 24) (val : BitVec 32) (s : State) : Out :=
  s.run (fun d => if off.toNat % 4 = 0 then d.storeW (Device.storeAddr k off.toNat) 4 val.toNat else d)

/-- DONE(n, s) goes to the master once; the master counts its own. -/
def execDoneReport (s : State) : Out :=
  s.run (fun d =>
    let key := (d.cad.step, d.season)
    if d.planRuns && seasonDone d && d.cad.sent != some key then
      let d := { d with cad := { d.cad with sent := some key } }
      if d.isMaster then
        ({ d with cad := { d.cad with done := d.cad.done ++ [(key.1, key.2, d.devNo)] } }).tryRelease
      else d.send (.done key.1 key.2 d.devNo)
    else d)

/-- R339: the last DONE of a withheld boundary releases it. -/
def execDoneReceive (step : BitVec 48) (season : Fin 4) (dev : BitVec 12) (s : State) : Out :=
  s.run (fun d =>
    let x := (step.toNat, season.val, dev.toNat)
    if d.isMaster && d.planRuns && !d.cad.done.contains x then
      let d := { d with cad := { d.cad with done := d.cad.done ++ [x] } }
      if d.cad.held then d.tryRelease else d
    else d)

/-! ### The master's words (R331, R339) -/

/-- The master stands before a boundary and a DONE is missing: it withholds the boundary. -/
def withhold (d : Device) : Device :=
  if d.isMaster && d.planRuns && d.cad.stopped && !d.cad.held && !d.missingDone.isEmpty then d.startHold else d

def execCadenceWordSend (s : State) : Out :=
  s.run (fun d => if d.isMaster && d.inPlan then (withhold d).sendWord false else d)

/-- R333: the counter stands at the last sph before the boundary; the master sends HOLD = 1 where a DONE is missing. -/
def execBoundaryReached (s : State) : Out :=
  s.run (fun d =>
    if d.inPlan && !d.cad.stopped then
      let d := d.standAt d.lastBefore
      let h := withhold d
      if h.cad.held && !d.cad.held then h.sendWord false else h
    else d)

def execBoundaryRelease (s : State) : Out := s.run (fun d => d.tryRelease)

/-! ### Words at a member (R331 to R333) -/

/-- R331: why a member discards a word. -/
def badWord (d : Device) (w : CadWord) : Bool :=
  match d.adm.plan with
  | none => true
  | some p =>
    !w.ok || w.ver != 1 || !(w.master == p.master || (w.master == p.backup && p.backup != 0xFFFF)) ||
    d.cad.former == some w.master ||
    (match d.cad.lastPos with
      | some l => decide (posDiff w.step w.phase l.1 l.2 < -(2 ^ 24))
      | none => false)

/-- R331, R567: each discard is counted, the first of a step raises 0x1008. -/
def discardWord (d : Device) : Device := d.raiseOnce 0x1008 0 0 0 0 0xFFF

/-- R335: words of the backup take the place of the former master's. -/
def followMaster (d : Device) (m : Nat) : Device :=
  let old := d.num 0x1200 3
  if m = old then d
  else
    let d := { d with cad := { d.cad with former := some old, sent := none } }
    (d.setNum 0x1200 3 0 m).recomputeTree

namespace Device

/-- R332: what the positions above `lo` and at most `hi` of the present step set going while its plan runs: STAMP entries, and the
polls that wait on a NOT_BEFORE stamp there, each at its position and in position order. -/
def passStamps (d : Device) (lo : Int) (hi : Nat) : Device :=
  let inside (a : Nat) : Bool := decide (lo < (a : Int)) && decide (a ≤ hi)
  let stamps := (List.range 673).flatMap (fun q => (List.range 8).filterMap (fun n =>
    let t := d.trigger q n
    if t.1 = 2 && inside (t.2.2 % 2 ^ 24) then some (t.2.2 % 2 ^ 24, true, q, n) else none))
  let polls := d.cores.flatMap (fun e => e.2.armed.filterMap (fun x => match x.2 with
    | some st => if st.toNat / 2 ^ 24 == d.cad.step % 256 && inside (st.toNat % 2 ^ 24) then some (st.toNat % 2 ^ 24, false, e.1, x.1) else none
    | none => none))
  if !d.planRuns then d
  else (sortBy (fun x y => decide (x.1 ≤ y.1)) (stamps ++ polls)).foldl (fun d x =>
    let d := { d with cad := { d.cad with phase := x.1 } }
    if x.2.1 then d.fireOnce x.2.2.1 x.2.2.2 else d.pollList x.2.2.1 x.2.2.2) d

/-- R332: the position moves on by `r`; every boundary, trigger and stamp passed over takes effect in position order. -/
def passOn : Nat → Device → Nat → Device
  | 0, d, _ => d
  | n + 1, d, r =>
    let lb := d.lastBefore
    let t := d.absPos + r
    if t ≤ lb then
      let d := d.passStamps d.cad.phase (t % 2 ^ 24)
      if t = lb then d.standAt t
      else { d with cad := { d.cad with step := t / 2 ^ 24 % 2 ^ 48, phase := t % 2 ^ 24, frac := 0, stopped := false } }
    else
      let d := (d.passStamps d.cad.phase (lb % 2 ^ 24)).enterBoundary (lb + 1)
      if d.inPlan then passOn n (d.passStamps ((d.cad.phase : Int) - 1) d.cad.phase) (t - (lb + 1)) else d

/-- The position moves on by `r`, and no longer stands for the master's to reach it. -/
def moveOn (d : Device) (r : Nat) : Device :=
  if r = 0 then d else passOn (4 * (r / 2 ^ 24) + 8) { d with cad := { d.cad with ahead := none } } r

end Device

/-- R332: the offset from an accepted position decides: slew, move on at once, or stand. -/
def correct (d : Device) (step phase : Nat) : Device :=
  let period := d.num 0x1200 4
  let lat : Nat := if period = 0 then 0 else d.num 0x1700 8 * 2 ^ 24 / period
  let off := posDiff step phase d.cad.step d.cad.phase + (lat : Int)
  if off.natAbs ≤ 256 then { d with cad := { d.cad with slew := off * period, ahead := none } }
  else
    let d := d.raise 0x1005 0 0 0 0xFFF
    if 0 < off then
      -- only the word's own position takes the member across a boundary (R333)
      let room := d.lastBefore - d.absPos
      d.moveOn (if room < (posDiff step phase d.cad.step d.cad.phase).toNat then off.toNat else min off.toNat room)
    else
      let t : Nat := d.time.nowNs + off.natAbs * period / 2 ^ 24
      { d with cad := { d.cad with ahead := some t } }

/-- A member's word from a port: dropped, discarded, or accepted, forwarded and followed. One that came again after a retrain
is out of date (R398). -/
def receiveWord (d : Device) (port bits : Nat) : Device :=
  if !d.inPlan || d.isMaster || (Map.get {} d.link.ports port : PortS).stale then d
  else
    let w := parseWord bits
    let m := d.num 0x1200 3
    let parent := if w.ok && w.master != m && !badWord d w then d.parentToward w.master
      else if d.num 0x1700 7 = 0xFF then none else some (d.num 0x1700 7)
    if parent ≠ some port then d
    else if badWord d w then discardWord d
    else
      let d := followMaster d w.master
      let first := !d.cad.locked
      let d := { d with cad := { d.cad with
        locked := true, lastPos := some (w.step, w.phase), lastNs := d.time.nowNs, lossRaised := false } }
      let d := if first then d.raise 0x1001 0 0 0 w.master else d
      let d := d.send (.cadWord bits (some port))
      let off := posDiff w.step w.phase d.cad.step d.cad.phase
      if w.bnd then
        if off ≤ 0 then d
        else
          let d := if 256 < off then d.raise 0x1005 0 0 0 0xFFF else d
          d.moveOn off.toNat
      else
        let d := if w.hold then d.startHold else d
        correct d w.step w.phase

def execCadenceWordReceive (p : Port) (w : BitVec 128) (s : State) : Out := s.run (fun d => receiveWord d p w.toNat)

def execBoundaryWordReceive (p : Port) (w : BitVec 128) (s : State) : Out :=
  s.run (fun d => if bitOf w.toNat 76 then receiveWord d p w.toNat else d)

/-! ### Losses (R335, R340) -/

/-- R340: 0x1006 names the missing members and taints the step; they are declared lost, and the boundary is released. -/
def execHoldLimit (s : State) : Out :=
  s.run (fun d =>
    if d.isMaster && d.planRuns && d.cad.held && decide (d.cad.holdNs.getD 0 + d.holdLimitNs ≤ d.time.nowNs) then
      let miss := d.missingDone
      let d := d.raise 0x1006 0 0 0 (miss.headD 0 + miss.length * 2 ^ 16)
      let all := miss.map (fun m => (d.cad.step, d.season, m))
      let d := d.declareLost miss 0x1006
      ({ d with cad := { d.cad with done := d.cad.done ++ all } }).tryRelease
    else d)

/-- R335: once per loss; the member goes on to the end of its season. -/
def execCadenceLoss (s : State) : Out :=
  s.run (fun d =>
    if d.inPlan && !d.isMaster && !d.cad.lossRaised && decide (d.heardNs + d.lossNs ≤ d.time.nowNs) then
      ({ d with cad := { d.cad with lossRaised := true } }).raise 0x1002 0 0 0 (d.num 0x1200 3)
    else d)

/-- R335: the backup sends words from its own position, with MASTER set to itself. -/
def execBackupTakeover (s : State) : Out :=
  s.run (fun d =>
    if d.inPlan && d.num 0x1200 1 == 2 && d.cad.lossRaised && decide (d.heardNs + 2 * d.lossNs ≤ d.time.nowNs) then
      let old := d.num 0x1200 3
      let own := match d.cad.sent with
        | some k => [(k.1, k.2, d.devNo)]
        | none => []
      let d := { d with cad := { d.cad with former := some old, lossRaised := false, done := d.cad.done ++ own } }
      let d := ((d.setNum 0x1200 3 0 d.devNo).setNum 0x1200 1 0 1).recomputeTree
      (d.raise 0x1003 0 0 0 d.devNo).sendWord false
    else d)

/-- R335: the loss has lasted CAD_HOLD_LIMIT_MS. -/
def execCutOff (s : State) : Out :=
  s.run (fun d =>
    if d.inPlan && !d.isMaster && d.cad.lossRaised && !d.cad.cutOff && decide (d.heardNs + d.holdLimitNs ≤ d.time.nowNs) then
      ({ d with cad := { d.cad with cutOff := true } }).send .reportCutOff
    else d)

/-! ### The pairs (R334, R557) -/

/-- The period of the pair is shorter than the admitted one by more than 1 part in 10^4. -/
def tooShort (d : Device) (p : Nat) : Bool := decide (p * 10000 < d.num 0x1200 4 * 9999)

/-- R334: the master leaves the pair for its internal source, and realigns no more in this plan. -/
def leavePair (d : Device) : Device :=
  ({ d with cad := { d.cad with locked := true, pairOn := false, pairGood := 0, pairPeriod := 0 } }).raise 0x1007 0 0 0 0xFFF

/-- R330, R334: the master keeps its lag behind the pair: it slews by what the step starts of the words say beyond it, and takes up
what a boundary that it did not release in time, or a move, has added (DESIGN CHOICE, log entry 87). -/
def steer (d : Device) (off : Int) : Device :=
  let d := d.setNum 0x1200 6 0 (off.toNat / 256)
  let e := off - d.cad.pairLag
  if e.natAbs ≤ 256 && !d.cad.stopped then { d with cad := { d.cad with slew := e * d.num 0x1200 4 } }
  else { d with cad := { d.cad with pairLag := off, slew := 0 } }

/-- R334: a frame on CADENCE_IN; `periodNs` is the step period measured over 16 steps. -/
def execCadenceInWord (bits : BitVec 128) (periodNs : Option Nat) (s : State) : Out :=
  s.run (fun d =>
    let w := parseWord bits.toNat
    if !(d.isMaster && d.inPlan && d.num 0x1200 2 == 0) then d
    else if badWord d w then discardWord d
    else
      let newStep := match d.cad.pairPos with
        | some l => decide (0 < posDiff w.step 0 l.1 0)
        | none => true
      let d := { d with cad := { d.cad with
        pairPos := some (w.step, w.phase), lastPos := some (w.step, w.phase), pairNs := d.time.nowNs } }
      let short := match periodNs with
        | some p => tooShort d p
        | none => false
      if d.cad.pairOn then
        if short then leavePair d
        else
          let d := { d with cad := { d.cad with pairPeriod := periodNs.getD d.cad.pairPeriod } }
          let off := posDiff w.step w.phase d.cad.step d.cad.phase
          if d.cad.locked then steer d off
          else
            -- R334: at a plan start the master aligns to the pair
            let d := { d with cad := { d.cad with locked := true } }
            let d := d.raise 0x1001 0 0 0 w.master
            d.moveOn (min off.toNat (d.lastBefore - d.absPos))
      else
        let good := if short then 0 else if newStep then d.cad.pairGood + 1 else d.cad.pairGood
        if 16 ≤ good then
          ({ d with cad := { d.cad with pairGood := 0, pairOn := true, locked := true } }).raise 0x1001 0 0 0 w.master
        else { d with cad := { d.cad with pairGood := good } })

def execCadenceInSilence (s : State) : Out :=
  s.run (fun d =>
    if d.time.nowNs < d.cad.pairNs + d.lossNs then d
    else if d.isMaster && d.inPlan && d.num 0x1200 2 == 0 && d.cad.pairOn then leavePair d
    else { d with cad := { d.cad with pairGood := 0 } })

/-- R557: the oldest word that waits leaves on CADENCE_OUT. -/
def execCadenceOutFrame (s : State) : Out :=
  s.run (fun d =>
    if !d.isMaster then d
    else match d.cad.outq with
      | w :: rest => ({ d with cad := { d.cad with outq := rest } }).send (.cadOut w)
      | [] => d)

end Sys2Proof.Machine
end

