-- ==== Sys2Proof/Machine/Control.lean ====
section
/-! DEFINITION. Control operations of a core (R122); the target is IMM[12:0]. -/

namespace Sys2Proof.Machine

def target (imm : BitVec 32) : BitVec 13 := imm.setWidth 13

/-- PC = target. -/
def jump (d : Device) (g t : Nat) (imm : BitVec 32) : Device :=
  d.setThread g t { d.thread g t with pc := target imm }

/-- PC = target where the comparison holds, the next instruction otherwise. -/
def branch (d : Device) (g t : Nat) (rs1 rs2 : Reg) (imm : BitVec 32) (cmp : W64 → W64 → Bool) : Device :=
  d.issue g t (fun d x => if cmp (x.reg rs1) (x.reg rs2) then jump d g t imm else d.advance g t)

def execJ (g : CoreN) (t : Thr) (imm : BitVec 32) (s : State) : Out :=
  s.run (fun d => d.issue g t (fun d _ => jump d g t imm))

def execBeq (g : CoreN) (t : Thr) (rs1 rs2 : Reg) (imm : BitVec 32) (s : State) : Out :=
  s.run (fun d => branch d g t rs1 rs2 imm (fun a b => a == b))

def execBne (g : CoreN) (t : Thr) (rs1 rs2 : Reg) (imm : BitVec 32) (s : State) : Out :=
  s.run (fun d => branch d g t rs1 rs2 imm (fun a b => a != b))

def execBltu (g : CoreN) (t : Thr) (rs1 rs2 : Reg) (imm : BitVec 32) (s : State) : Out :=
  s.run (fun d => branch d g t rs1 rs2 imm (fun a b => a.ult b))

def execBgeu (g : CoreN) (t : Thr) (rs1 rs2 : Reg) (imm : BitVec 32) (s : State) : Out :=
  s.run (fun d => branch d g t rs1 rs2 imm (fun a b => !a.ult b))

def execBlt (g : CoreN) (t : Thr) (rs1 rs2 : Reg) (imm : BitVec 32) (s : State) : Out :=
  s.run (fun d => branch d g t rs1 rs2 imm (fun a b => a.slt b))

def execBge (g : CoreN) (t : Thr) (rs1 rs2 : Reg) (imm : BitVec 32) (s : State) : Out :=
  s.run (fun d => branch d g t rs1 rs2 imm (fun a b => !a.slt b))

/-- RD = RD − 1; PC = target if RD ≠ 0. -/
def execLoop (g : CoreN) (t : Thr) (rd : Reg) (imm : BitVec 32) (s : State) : Out :=
  s.run (fun d => d.issue g t (fun d x =>
    let y := x.setReg rd (x.reg rd - 1)
    let d := d.setThread g t y
    if y.reg rd ≠ 0 then jump d g t imm else d.advance g t))

/-- The thread becomes FREE; its registers stay where they are (R109). -/
def execHalt (g : CoreN) (t : Thr) (s : State) : Out :=
  s.run (fun d => d.issue g t (fun d x => d.setThread g t { x with st := .free }))

end Sys2Proof.Machine
end

