-- ==== Sys2Proof/Machine/Sessions.lean ====
section
/-! DEFINITION. Sessions and the lease (R424, R435 to R438). -/

namespace Sys2Proof.Machine

namespace Device

/-- R424: the lease changes hands; the session that loses it loses its staging (R435). -/
def setLease (d : Device) (sid : Nat) : Device :=
  let old := d.lease
  let d := d.setNum 0x1001 7 0 sid
  if old = sid then d
  else match d.session old with
    | some x => d.setSession { x with staging := none, role := 1 }
    | none => d

/-- R436, R438: a session ends; its lease is free, and so are its staging, subscription and quote (R435, R439, R466). The
proxy sessions it has elsewhere close with it (R440). -/
def closeSession (d : Device) (sid : Nat) : Device :=
  match d.session sid with
  | none => d
  | some _ =>
    let d := if d.lease = sid then d.setNum 0x1001 7 0 0 else d
    let l := d.mgmt.sessions.filter (fun s => s.sid != sid)
    let d := { d with mgmt := { d.mgmt with sessions := l, fwd := d.mgmt.fwd.filter (fun f => f.1 != sid) },
                      att := { d.att with queue := d.att.queue.filter (· != sid) } }
    d.setNum 0x1001 6 0 l.length

end Device

end Sys2Proof.Machine
end

