-- ==== Sys2Proof/Machine/Firmware.lean ====
section
/-! DEFINITION. Firmware update, attestation and credentials (R459, R460, R464 to R469). -/

namespace Sys2Proof.Machine

namespace Device

/-- R460: the slot that is not running. -/
def inactive (d : Device) : Nat := 1 - d.num 0x1D00 1

end Device

/-! ### Firmware (R460) -/

/-- What a commit to FW_IMAGE does. -/
def fwImageHook (data : List Byte) (d : Device) : Device × Nat :=
  if d.att.verifying then (d, stState)
  else if 2 ^ 26 < data.length then (d, stRange)
  else
    let d := if d.num 0x1D01 3 = 4 then { d with flash := { d.flash with preferred := d.num 0x1D00 1 } } else d
    ((((d.setSlot d.inactive data).setDom 0x1D01 1 0 data).setNum 0x1D01 3 0 1).touched 0x1D01 1, stOK)

def execFwImage (c : Conn) (data : List Byte) (s : State) : Out :=
  s.run (fun d => d.viaDomain c 0x1D01 1 (fwImageHook data))

/-- FW_COMMAND 1. -/
def fwVerifyHook (d : Device) : Device × Nat :=
  if d.num 0x1D01 3 = 0 then (d, stState) else ({ d with att := { d.att with verifying := true } }, stOK)

/-- FW_COMMAND 2. -/
def fwActivateHook (d : Device) : Device × Nat :=
  if d.num 0x1D01 3 ≠ 2 then (d, stState)
  else (({ d with flash := { d.flash with preferred := d.inactive } }).setNum 0x1D01 3 0 4, stOK)

/-- FW_COMMAND 3: the floor rises to the running SVN and never falls. -/
def fwCommitHook (d : Device) : Device × Nat :=
  if d.runState ≠ 1 ∧ d.runState ≠ 2 then (d, stState)
  else
    let v := max (d.num 0x1D00 3) (d.num 0x1D00 4)
    (((d.writeRec .floor (leBytes 4 v) true).setNum 0x1D00 4 0 v).raise 0x700E 0 0 (d.num 0x1D00 1)
      (leNat ((d.domOf 0x1D00 5).take 8)), stOK)

def execFwVerify (c : Conn) (s : State) : Out := s.run (fun d => d.viaObject c 0x1D01 2 0 1 fwVerifyHook)
def execFwActivate (c : Conn) (s : State) : Out := s.run (fun d => d.viaObject c 0x1D01 2 0 2 fwActivateHook)
def execFwCommit (c : Conn) (s : State) : Out := s.run (fun d => d.viaObject c 0x1D01 2 0 3 fwCommitHook)

/-- R460: the VERIFY ends: verified, or refused; only a failure on the floor alone raises 0x700D. -/
def execFwVerifyDone (_boot : BootFacts) (s : State) : Out :=
  s.run (fun d =>
    if !d.att.verifying then d
    else
      let d := { d with att := { d.att with verifying := false } }
      let m := d.slotOf d.inactive
      let good := manifestOk m && [1, 2, 3].all (imageMatches m)
      if !good then d.setNum 0x1D01 3 0 3
      else if slotSvn m < d.num 0x1D00 4 then
        (d.setNum 0x1D01 3 0 3).raise 0x700D 0 0 d.inactive (leNat ((shake256 (signedPart m) 32).take 8))
      else d.setNum 0x1D01 3 0 2)

/-! ### Attestation (R465 to R467) -/

/-- R466: what a nonce starts. -/
def nonceHook (sid : Nat) (nonce : List Byte) (d : Device) : Device × Nat :=
  match d.session sid with
  | none => (d, stNoSession)
  | some x =>
    let recent := d.att.times.filter (fun t => decide (d.time.nowNs < t + 1000000000))
    if nonce.length ≠ 32 then (d, stRange)
    else if d.num 0x1D02 5 ≠ 0 then (d, stState)
    else if 100 ≤ recent.length then (d, stBusy)
    else
      let d := d.setSession { x with nonce := some nonce, quote := [] }
      ({ d with att := { d.att with
        times := recent ++ [d.time.nowNs], queue := d.att.queue.filter (· != sid) ++ [sid] } }, stOK)

def execAttNonce (sid : BitVec 32) (nonce : List Byte) (s : State) : Out :=
  s.run (fun d => Device.answer (nonceHook sid.toNat nonce d) 0x1D02 3 0)

/-- Text in a field of `n` bytes, zero-padded. -/
def padTo (n : Nat) (l : List Byte) : List Byte := (l ++ List.replicate n 0).take n

/-- R467: bytes 0x00 to 0xFF of a quote. -/
def quoteBody (d : Device) (nonce : List Byte) : List Byte :=
  leBytes 4 0x51415A41 ++ leBytes 4 1 ++ nonce ++ padTo 16 (d.domOf 0x1000 4) ++ padTo 16 (d.domOf 0x1000 1) ++
  padTo 4 (d.domOf 0x1000 2) ++ leBytes 4 d.runState ++ padTo 32 (d.domOf 0x1D00 5) ++ leBytes 4 (d.num 0x1D00 3) ++
  leBytes 4 (d.num 0x1D00 4) ++ padTo 32 (d.domOf 0x1D04 5) ++ padTo 16 (d.domOf 0x1300 6) ++ leBytes 8 d.cad.step ++
  leBytes 8 (d.time.nowNs / 1000) ++ shake256 (d.domOf 0x1D02 1) 32 ++ List.replicate 40 0

/-- R465: signing is disabled until a new identity is enrolled. -/
def disableSigning (d : Device) : Device :=
  ({ d with att := { d.att with queue := [] } }).setNum 0x1D02 5 0 2 |>.raise 0x700B

/-- R465: the signature of the oldest quote; the index record is written first where the reservation is used up. -/
def execQuoteSigned (recordWriteOk : Bool) (s : State) : Out :=
  s.run (fun d => match d.att.queue with
    | [] => d
    | sid :: rest =>
      let i := d.num 0x1D02 6
      let res := d.num 0x1D02 7
      if d.num 0x1D02 5 ≠ 0 then d
      else if 2 ^ 40 ≤ i then disableSigning d
      else
        let fin := min (res + 1024) (2 ^ 40)
        let d := if res ≤ i then d.writeRec .index (leBytes 5 fin) recordWriteOk else d
        if res ≤ i && !recordWriteOk then disableSigning d
        else
          let d := if res ≤ i then d.setNum 0x1D02 7 0 fin else d
          let d := d.setNum 0x1D02 6 0 (i + 1)
          let d := if i + 1 = 2 ^ 40 - 2 ^ 30 then d.raise 0x700C else d
          let d := { d with att := { d.att with queue := rest } }
          match d.session sid with
          | some x => match x.nonce with
            | some n =>
              let body := quoteBody d n
              d.setSession { x with quote := body ++ (leBytes 5 i).reverse ++
                (List.range 5600).map (fun k => Config.idSignature i body k) }
            | none => d
          | none => d)

/-- R465: the signing tree is there again. -/
def execSigningTreeRebuilt (s : State) : Out := s.run (fun d => if d.num 0x1D02 5 = 1 then d.setNum 0x1D02 5 0 0 else d)

/-! ### Credentials (R469) -/

namespace Device

/-- The entries of the credential store, 84 bytes each. -/
def creds (d : Device) : List (List Byte) :=
  let b := (d.flashRec .creds).getD []
  (List.range (b.length / 84)).map (fun i => sliceB b (84 * i) 84)

/-- The identity of an entry. -/
def credIdent (e : List Byte) : List Byte := (e.drop 4).take (fieldB e 1 1)

/-- The store is written; SEC_CRED_LIST shows no keys; connections and sessions that an entry of this
identity authenticated close. -/
def storeCreds (d : Device) (l : List (List Byte)) (ident : List Byte) : Device :=
  let d := d.writeRec .creds l.flatten true
  let d := (d.setDom 0x1D03 3 0 (l.flatMap (fun e => e.take 36))).touched 0x1D03 3
  let d := { d with mgmt := { d.mgmt with conns := d.mgmt.conns.filter (fun c => c.2.2.2 != ident) } }
  (d.mgmt.sessions.filter (fun s => s.ident == ident)).foldl (fun d s => d.closeSession s.sid) d

/-- The role above which a writer may not grant: its ceiling. -/
def connCeil (d : Device) (c : Conn) : Nat :=
  match c with
  | .session sid => match d.session sid.toNat with
    | some s => s.ceil
    | none => 0
  | .firmware _ => 4

end Device

def credWriteHook (c : Conn) (raw : List Byte) (d : Device) : Device × Nat :=
  let data := raw.take 2 ++ List.replicate 2 0 ++ raw.drop 4
  let role := fieldB data 0 1
  let n := fieldB data 1 1
  let ident := Device.credIdent data
  if raw.length ≠ 84 then (d, stRange)
  else if role = 0 ∨ 3 < role ∨ n = 0 ∨ 32 < n ∨ (data.drop (4 + n)).take (32 - n) ≠ List.replicate (32 - n) 0
  then (d, stRange)
  else if d.connCeil c < role then (d, stDenied)
  else
    let l := d.creds
    if l.any (fun e => Device.credIdent e == ident) then
      (d.storeCreds (l.map (fun e => if Device.credIdent e = ident then data else e)) ident, stOK)
    else if 32 ≤ l.length then (d, stRange)
    else (d.storeCreds (l ++ [data]) ident, stOK)

def execSecCredWrite (c : Conn) (data : List Byte) (s : State) : Out :=
  s.run (fun d => d.viaDomain c 0x1D03 1 (credWriteHook c data))

/-- An identity that has no entry leaves the store as it is. -/
def credDeleteHook (ident : List Byte) (d : Device) : Device × Nat :=
  if d.creds.any (fun e => Device.credIdent e == ident) then
    (d.storeCreds (d.creds.filter (fun e => Device.credIdent e != ident)) ident, stOK)
  else (d, stOK)

def execSecCredDelete (c : Conn) (ident : List Byte) (s : State) : Out :=
  s.run (fun d => d.viaDomain c 0x1D03 2 (credDeleteHook ident))

end Sys2Proof.Machine
end

