-- ==== Sys2Proof/Machine/Harvest.lean ====
section
/-! DEFINITION. Harvests, exports and restores (chapter 17). -/

namespace Sys2Proof.Machine

/-! ### When a Harvest is taken (R505, R506) -/

/-- A command goes to the master at once. -/
def hvCommandHook (d : Device) : Device × Nat :=
  if d.runState ≠ 2 then (d, stState)
  else (({ d with hv := { d.hv with commanded := true } }).toMaster 1 d.devNo, stOK)

def execHvCommand (c : Conn) (v : Byte) (s : State) : Out :=
  s.run (fun d => d.viaObject c 0x1501 1 0 v.toNat hvCommandHook)

/-- R506: the target step is written to every member. -/
def announce (d : Device) (n : Nat) : Device :=
  d.cad.members.foldl (fun d m => d.send (.fwWrite m 0x1502 2 0 n)) { d with hv := { d.hv with announced := some n } }

/-- R506: at the master; a target whose Winter has not begun serves the request. -/
def hvRequest (dev : Nat) (d : Device) : Device :=
  let period := d.num 0x1200 4
  let c := d.cad.step
  if !(d.isMaster && d.planRuns && d.cad.members.contains dev) || period = 0 then d
  else
    let ahead := match d.hv.announced with
      | some n => decide (c < n) || (n == c && d.season != 3)
      | none => false
    if ahead then d else announce d (c + 1 + (200000000 + period - 1) / period)

def execHvRequest (dev : BitVec 16) (s : State) : Out := s.run (hvRequest dev.toNat)

/-- R506: an announcement whose Winter has begun is discarded. -/
def hvNext (v : Nat) (d : Device) : Device :=
  let n := v % 2 ^ 48
  if n < d.cad.step || (n == d.cad.step && d.season == 3) then d else d.setNum 0x1502 2 0 n

def execHvNext (v : BitVec 64) (s : State) : Out := s.run (hvNext v.toNat)

/-- R506: a member has not acknowledged by the Winter before the target: the next step instead. -/
def execAnnounceAckTimeout (s : State) : Out :=
  s.run (fun d => match d.hv.announced with
    | some n => if d.isMaster && d.planRuns && n == d.cad.step + 1 && d.season == 3 then announce d (n + 1) else d
    | none => d)

/-- R505, R506: this step is a target. -/
def harvestDue (d : Device) : Bool :=
  let n := d.cad.step
  let every := d.force 0x1501 2
  d.num 0x1502 2 == n && n != 0 ||
  (every != 0 && decide (d.cad.s0 ≤ n) && (n - d.cad.s0) % every == every - 1)

/-! ### The stop (R507, R508) -/

/-- R508 order 2: movers and queues are empty; the queues are read as the movers' (DEDUCED, log entry 89). -/
def quiesced (d : Device) : Bool :=
  d.movq.all (fun e => e.2.isEmpty) && d.cores.all (fun e => e.2.moveq.isEmpty)

/-- R508 orders 1 to 3: the member is done with its Winter work, quiesces and opens a slot. -/
def execHarvestStop (s : State) : Out :=
  s.run (fun d => match d.adm.facts with
    | none => d
    | some f =>
      let again := [d.hv.slotA, d.hv.slotB].any (fun x => match x with
        | some i => i.step == d.cad.step
        | none => false)
      if !(d.runState == 2 && d.planRuns && d.season == 3 && harvestDue d && seasonDone d && quiesced d) ||
          decide (d.cad.phase < d.num 0x1210 4) || d.hv.exporting || d.hv.restore.isSome || d.hv.run.isSome || again then d
      else
        let slot := d.freeSlot f
        let r : HvRun := { slot := slot, step := d.cad.step, hnum := d.nextHnum }
        let d := d.raise 0x8001 0 0 r.hnum (d.survArg d.devNo)
        let d := (d.setSlotImg slot (some { hnum := r.hnum, step := r.step })).put (Device.slotBase f slot + 5) [0]
        { d with hv := { d.hv with run := some r } })

/-- R508 orders 4 and 5: the copy, the manifest, the seal; `stopMs` is the measured stop. -/
def execHarvestCopyDone (stopMs : Nat) (hits : Hits) (s : State) : Out :=
  s.runHits hits (fun d => match d.adm.facts, d.hv.run with
    | some f, some r =>
      if r.copied then d
      else
        let im := d.domOf 0x1300 1
        let base := Device.slotBase f r.slot
        let m := d.manifest r im f
        let d := (d.copyImage base im f).put base m
        let d := d.setSlotImg r.slot (some { hnum := r.hnum, step := r.step, isSealed := true, det0 := d.health.det0,
                                             det1 := d.health.det1, risk := d.num 0x1400 1, plan := some f })
        let d := d.setNum 0x1500 4 0 (stopMs % 2 ^ 32)
        { d with hv := { d.hv with run := some { r with copied := true } } }
    | _, _ => d)

/-! ### Commit and export (R511, R512) -/

def hvCommit (hnum : Nat) (d : Device) : Device :=
  match d.hv.run with
  | none => d
  | some r =>
    if hnum = 0 then d.freeRun.raise 0x8003 0 0 r.hnum (r.step + d.devNo * 2 ^ 48)
    else if hnum ≠ r.hnum || !r.copied then d
    else
      let d := match d.slotImg r.slot with
        | some i => d.setSlotImg r.slot (some { i with committed := true })
        | none => d
      let d := ((d.setNum 0x1500 1 0 r.hnum).setNum 0x1500 2 0 r.step).setNum 0x1500 3 0 r.slot
      let d := d.raise 0x8002 0 0 r.hnum (r.step + d.devNo * 2 ^ 48)
      let d := (d.setNum 0x1400 1 0 0).setNum 0x1400 6 0 0
      ({ d with hv := { d.hv with run := none, commanded := false } }).startExport

def execHvCommit (hnum : BitVec 32) (s : State) : Out := s.run (hvCommit hnum.toNat)

/-- The keep slot that does not hold the ward's newest sealed export; slot A under LEAN. -/
def exportSlot (d : Device) (f : PlanFacts) : Nat :=
  let n (x : Option Image) : Nat := match x with
    | some i => if i.isSealed then i.hnum else 0
    | none => 0
  if f.hvLean then 0 else if n d.hv.keepB ≤ n d.hv.keepA ∧ n d.hv.keepA ≠ 0 then 1 else 0

/-- R512: at the keeper. Region 0 is the manifest, which opens the keep slot; a region that fails is asked for again, three
times; SEAL is written last. -/
def execExportRegionReceive (region : Nat) (data : List Byte) (tileCrcOk lastRegion : Bool) (s : State) : Out :=
  s.run (fun d => match d.adm.facts with
    | none => d
    | some f => match wardIn f d.devNo with
      | none => d
      | some w =>
        if region = 0 then
          let slot := exportSlot d f
          let hnum := fieldB data 8 4
          let d := (d.put (Device.keepBase f slot) (overB data 5 [0])).setKeepImg slot
            (some { hnum := hnum, step := fieldB data 0xC 8 % 2 ^ 48 })
          { d with hv := { d.hv with keep := some { slot := slot, hnum := hnum } } }
        else match d.hv.keep with
          | none => d
          | some k =>
            let base := Device.keepBase f k.slot
            let e := d.regionEntry base region
            let good := data.length == e.1 && tileCrcOk && (e.2 == 0 || e.2 == crc32c data)
            if !good then
              if 3 ≤ k.retries then
                ({ d with hv := { d.hv with keep := none } }).send (.fwWrite w 0x1502 4 0 0)
              else
                ({ d with hv := { d.hv with keep := some { k with retries := k.retries + 1 } } }).send (.regionAgain w region)
            else
              let d := d.put (base + d.regionOff base region) data
              let k := { k with got := k.got ++ [region], retries := 0 }
              let nreg := d.load (base + 0x2C) 4
              let all := (List.range nreg).all (fun i => k.got.contains (i + 1))
              if lastRegion && all then
                let d := d.put (base + 5) [0xA5]
                let d := match d.keepImg k.slot with
                  | some i => d.setKeepImg k.slot (some { i with isSealed := true, committed := true })
                  | none => d
                ({ d with hv := { d.hv with keep := none } }).send (.fwWrite w 0x1502 4 0 k.hnum)
              else { d with hv := { d.hv with keep := some k } })

/-- R512: at the ward; 0 says that the export failed (log entry 39). -/
def hvKeepSealed (n : Nat) (d : Device) : Device :=
  if !d.hv.exporting then d
  else if n = 0 then d.raise 0x8005 0 0 (d.num 0x1500 1) (d.survArg d.devNo)
  else if n = d.num 0x1500 1 then
    let d := (d.setNum 0x1500 5 0 n).raise 0x8004 0 0 n (d.survArg d.devNo)
    { d with hv := { d.hv with exporting := false } }
  else d

def execHvKeepSealed (hnum : BitVec 32) (s : State) : Out := s.run (hvKeepSealed hnum.toNat)

/-! ### Restore (R513 to R517) -/

/-- A write at the master by another member asks for a restore, with 0 for any restore point or with the highest number it
may have; a write by the master carries the restore point it chose, 0 where there is none. -/
def hvRestore (v dev : Nat) (d : Device) : Device :=
  let point := v % 2 ^ 32
  let cause := v / 2 ^ 32 % 2 ^ 16
  let d := d.setNum 0x1502 5 0 v
  if d.runState = 0 ∨ d.runState = 4 then d
  else if d.num 0x1200 3 = d.devNo then d.masterRestore (if point = 0 then 2 ^ 32 else point) cause
  else if dev ≠ d.num 0x1200 3 then d
  else if point = 0 then d.noRestorePoint cause
  else d.beginRestore point cause

def execHvRestore (v : BitVec 64) (dev : BitVec 12) (s : State) : Out := s.run (hvRestore v.toNat dev.toNat)

/-- A local image whose number lies below the restore point (R514). -/
def lowerImage (d : Device) (point : Nat) : Option Nat :=
  ([d.hv.slotA, d.hv.slotB].filterMap (fun x => match x with
    | some i => if i.isSealed && i.committed && decide (i.hnum < point) then some i.hnum else none
    | none => none)).max?

/-- R514: a load that fails: the other committed image and a lower restore point, under LEAN the keeper's export; a second
failure leaves none. -/
def loadFailed (d : Device) (r : HvRestore) : Device :=
  let lean := match d.adm.facts with
    | some f => f.hvLean
    | none => false
  if r.failures ≠ 0 then d.noRestorePoint r.cause
  else if lean then
    if d.num 0x1500 5 = r.point then
      { d with hv := { d.hv with restore := some { r with failures := 1 } } }
    else d.noRestorePoint r.cause
  else match lowerImage d r.point with
    | none => d.noRestorePoint r.cause
    | some n =>
      let d := { d with hv := { d.hv with restore := some { r with point := n, failures := 1 } } }
      d.toMaster 5 (n + r.cause * 2 ^ 32)

/-- R514 orders 4 to 6. The CRCs of a local image are computed; `crcOk` says whether the load itself succeeded, and whether those of a
streamed image passed. `taken` is what a keeper streamed to a member without the local image: a spare, or one under LEAN
whose own failed. With REPLAN set the load waits for the new plan (R516). -/
def execRestoreLoadDone (crcOk : Bool) (taken : Option HvTaken) (s : State) : Out :=
  s.run (fun d => match d.hv.restore with
    | none => d
    | some r =>
      if d.admState = 2 ∨ d.admState = 3 ∨ d.admState = 4 then d
      else if !crcOk then loadFailed d r
      else match taken with
        | some t =>
          if t.hnum ≠ r.point then d
          else
            let d := (d.setDom 0x1300 1 0 t.image).rebase t.step
            d.readmit t.image t.facts (fun d => t.pieces.foldl (fun d b => d.put b.addr b.data) d)
        | none =>
          if d.num 0x1500 6 = 1 then d
          else match d.adm.facts, d.localImage r.point with
            | some f, some (slot, i) =>
              let im := d.domOf 0x1300 1
              if !d.imageIntact (Device.slotBase f slot) im f then loadFailed d r
              else ((d.loadMonitor i).rebase i.step).readmit im f (fun d => d.loadImage (Device.slotBase f slot) im f)
            | _, _ => d)

end Sys2Proof.Machine
end

