-- ==== Sys2Proof/Machine/Health.lean ====
section
/-! DEFINITION. Numeric health (chapter 10): norm watches, health summaries, the loss detectors, the risk estimate, and
taint notices. -/

namespace Sys2Proof.Machine

/-! ### binary32 arithmetic with RNE (R323) -/

def f32sub (a b : Num) : Num := r32 (a.add b.neg)
def f32mul (a b : Num) : Num := r32 (a.mul b)
def f32abs : Num → Num
  | .fin _ m e => .fin false m e
  | .inf _ => .inf false
  | .nan => .nan

/-- a < b; false where one is a NaN. -/
def numLt : Num → Num → Bool
  | .nan, _ => false
  | _, .nan => false
  | .inf s, .inf t => s && !t
  | .inf s, .fin .. => s
  | .fin .., .inf t => !t
  | .fin s m e, .fin t n f => (Num.fin s m e).dy.lt (Num.fin t n f).dy

/-- The greater, the first where neither is. -/
def numMax (a b : Num) : Num := if numLt a b then b else a

/-! ### Norm watches (R315, R316) -/

/-- R316: floor(4 × log2 hi) of a positive hi, -32768 of a zero, a free value of a negative one. -/
def normCode (hi : Nat) : Int :=
  match e8m7 hi with
  | .fin neg m e =>
    if m = 0 then -32768
    else if neg then Config.negativeNorm hi
    else 4 * e + ((m ^ 4).log2 : Int)
  | _ => 0

/-- R315: an entry of the watch table. -/
structure Watch where
  src : Nat
  kind : Nat
  nh : Nat
  jup : Nat
  jdn : Nat
  hist : List Int
  count : Nat
  run : Nat
  flags : Nat
  jumps : Nat

def parseWatch (b : List Byte) : Watch :=
  { src := fieldB b 0 4, kind := fieldB b 4 1, nh := fieldB b 5 1, jup := fieldB b 6 1, jdn := fieldB b 7 1,
    hist := (List.range 8).map (fun i => sgnOf 16 (fieldB b (8 + 2 * i) 2)), count := fieldB b 0x18 1,
    run := fieldB b 0x19 1, flags := fieldB b 0x1A 2, jumps := fieldB b 0x1C 4 }

def watchBytes (w : Watch) : List Byte :=
  leBytes 4 w.src ++ leBytes 1 w.kind ++ leBytes 1 w.nh ++ leBytes 1 w.jup ++ leBytes 1 w.jdn ++
  w.hist.flatMap (fun c => leBytes 2 (ofSgn 16 c)) ++ leBytes 1 w.count ++ leBytes 1 w.run ++ leBytes 2 w.flags ++
  leBytes 4 w.jumps

/-- Newest first, eight entries at most. -/
def Watch.push (w : Watch) (c : Int) : Watch := { w with hist := (c :: w.hist).take 8, count := min (w.count + 1) 8 }

/-- R316: the entry afterwards and the result. -/
def nchk (w : Watch) (hi : Nat) (tainted : Bool) : Watch × Nat :=
  if !(e8m7 hi).isFin then ({ w with jumps := (w.jumps + 1) % 2 ^ 32 }, 3)
  else
    let c := normCode hi
    if w.count < w.nh then (if tainted then w else w.push c, 4)
    else
      let h := w.hist.take w.nh
      let top := h.foldl max (h.headD c)
      let bot := h.foldl min (h.headD c)
      let r := if w.jup ≠ 0 ∧ c > top + w.jup then 1 else if w.jdn ≠ 0 ∧ c < bot - w.jdn then 2 else 0
      if r ≠ 0 then
        let run := (w.run + 1) % 256
        ({ w with jumps := (w.jumps + 1) % 2 ^ 32, run := if run = 3 then 0 else run,
                  count := if run = 3 then 0 else w.count }, r)
      else
        let w := { w with run := 0 }
        (if tainted then w else w.push c, 0)

namespace Device

/-- The current step's taint flag. -/
def stepTainted (d : Device) : Bool := d.num 0x1401 1 == 1

/-- R31: `n` bytes at a store offset of the cluster of `q`, zeros where they reach beyond the store. -/
def seqTake (d : Device) (q off n : Nat) : List Byte :=
  if sqLimit q < off + n then List.replicate n 0 else d.seqBytes q off n

end Device

/-- R316, R317: the pair at `off` of the cluster's store fails to read: it reaches nothing (R31), or SECDED finds its word
uncorrectable (DEDUCED, log entry 46: the manual names no other way for a pair to fail). -/
def pairFails (k : Cluster) (hits : Hits) (off : Nat) : Bool :=
  hits.any (fun h => h.2 == .uncorrectable && h.1 / 8 == Device.storeAddr k off / 8)

def execNchk (k : Cluster) (rd ra : Reg) (hits : Hits) (s : State) : Out :=
  s.run (fun d => (d.seqHits (monitorSq k) hits).seqIssue (monitorSq k) (fun d x =>
    let q := monitorSq k
    let off := (x.reg ra).toNat
    if !accessOk off 32 then (d.seqMiss q off).seqWrite q rd 5
    else
      let w := parseWatch (d.seqBytes q off 32)
      if !accessOk w.src 4 then (d.seqMiss q w.src).seqWrite q rd 5
      else if pairFails k hits w.src then d.seqWrite q rd 5
      else
        let r := nchk w (leNat (d.seqBytes q w.src 4) / 65536) d.stepTainted
        let d := d.seqPut q off (watchBytes r.1)
        let d := if 1 ≤ r.2 ∧ r.2 ≤ 3 then
            (d.modClu k (fun c => { c with jumps := c.jumps + 1 })).raise 0x2201 0x7080 (k + 1) off r.2
          else d
        d.seqWrite q rd (BitVec.ofNat 32 r.2)))

/-! ### Health summaries (R317, R318) -/

/-- R318: the 256 bytes for a cluster as it stands. -/
def summaryBytes (d : Device) (k : Nat) : List Byte :=
  let c := d.clu k
  let body :=
    leBytes 4 d.cad.step ++ leBytes 2 k ++ leBytes 2 (b2n d.stepTainted) ++ leBytes 8 0 ++
    (List.range 28).flatMap (fun i => leBytes 4 (Map.get 0 c.cnt i)) ++
    leBytes 4 c.clamps ++ leBytes 4 c.storms ++ leBytes 4 c.predover ++ leBytes 4 c.jumps ++ leBytes 4 c.retry ++
    leBytes 4 c.corrected ++ leBytes 100 0
  body ++ leBytes 4 (crc32c body)

/-- R306: the step counters of one cluster join the cumulative objects. -/
def Device.moveCounters (d : Device) (k : Nat) : Device :=
  let cnt := (d.clu k).cnt
  let d := forN 7 d (fun d c => forN 4 d (fun d i => d.addNum (0x1406 + i) (c + 1) 0 (Map.get 0 cnt (4 * c + i))))
  let nf := (List.range 7).foldl (fun n c => n + Map.get 0 cnt (4 * c) + Map.get 0 cnt (4 * c + 1)) 0
  let d := d.addNum 0x7080 4 (k + 1) nf
  d.modClu k (fun c => { c with
    cnt := [], clamps := 0, storms := 0, predover := 0, jumps := 0, retry := 0, corrected := 0 })

/-- The summary at offset RA; the counters start again from zero. -/
def execHclose (k : Cluster) (ra : Reg) (hits : Hits) (s : State) : Out :=
  s.run (fun d => (d.seqHits (monitorSq k) hits).seqIssue (monitorSq k) (fun d x =>
    let q := monitorSq k
    let off := (x.reg ra).toNat
    let b := summaryBytes d k
    let d := if 0x1000000 < off + 256 then d.seqMiss q off else d.seqPut q off b
    (d.moveCounters k).seqNext q))

/-- R320: what a summary gives to inputs 0 to 6, 10 and 11, in the order of the table. -/
def summaryInputs (b : List Byte) : List Nat :=
  let cls (c i : Nat) := fieldB b (16 + 16 * c + 4 * i) 4
  let nf (c : Nat) := cls c 0 + cls c 1
  [nf 4, nf 0 + nf 1 + nf 2 + nf 3 + nf 6, (List.range 7).foldl (fun n c => n + cls c 2) 0, fieldB b 0x80 4,
   fieldB b 0x84 4, fieldB b 0x88 4, fieldB b 0x8C 4, fieldB b 0x90 4, fieldB b 0x94 4]

def addLists : List Nat → List Nat → List Nat
  | [], l => l
  | l, [] => l
  | a :: l, b :: m => (a + b) :: addLists l m

namespace Device

/-- The summary of cluster c in the health store, at offset 256c. -/
def storedSummary (d : Device) (k : Nat) : List Byte := d.seqBytes deviceSq (256 * k) 256

/-- A summary arrives: one that no RISK has counted yet keeps its counts for the next stamp (R319). -/
def summaryArrives (d : Device) (k : Nat) : Device :=
  match Map.get [] d.health.posted k with
  | [] => d
  | b =>
    let h := d.health
    let carry := if Map.get false h.fresh k then addLists h.carry (summaryInputs (d.storedSummary k)) else h.carry
    let d := { d with health := { h with
      posted := Map.set [] h.posted k [], carry := carry, fresh := Map.set false h.fresh k true,
      arrived := Map.set 0 h.arrived k (fieldB b 0 4 + 1) } }
    d.seqPut deviceSq (256 * k) b

end Device

/-- The summary at RA goes out; one still under way arrives before it. -/
def execHpost (k : Cluster) (ra : Reg) (hits : Hits) (s : State) : Out :=
  s.run (fun d => (d.seqHits (monitorSq k) hits).seqIssue (monitorSq k) (fun d x =>
    let q := monitorSq k
    let off := (x.reg ra).toNat
    let d := d.summaryArrives k
    let d := if 0x1000000 < off + 256 then d.seqMiss q off else d
    let b := d.seqTake q off 256
    ({ d with health := { d.health with posted := Map.set [] d.health.posted k b } }).seqNext q))

def execHealthSummaryArrival (k : Cluster) (s : State) : Out := s.run (fun d => d.summaryArrives k)

/-! ### The health stamp (R319 to R323) -/

/-- Clusters in service whose summary of the step with these low bits has, or has not, arrived. -/
def Device.summaries (d : Device) (rb : W32) (has : Bool) : List Nat :=
  (List.range 96).filter (fun k =>
    d.num 0x7000 2 (k + 1) != 2 && (Map.get 0 d.health.arrived k == rb.toNat + 1) == has)

def execHcollect (rd rb : Reg) (s : State) : Out :=
  s.run (fun d => d.seqIssue deviceSq (fun d x =>
    let n := (d.summaries (x.reg rb) true).length
    let miss := d.summaries (x.reg rb) false
    let d := match miss with
      | [] => d
      | m :: _ => d.raise 0x2206 0x7080 (m + 1) 0 miss.length
    d.seqWrite deviceSq rd (BitVec.ofNat 32 n)))

/-- R323, learn: `a` is HLTH_LOSS_ALPHA_LOG2. -/
def learn (det : Det) (x : Nat) (a : Nat) : Det :=
  if det.n = 0 then { det with mu := x, d := 0, n := 1 }
  else
    let v := f32 x
    let mu := f32 det.mu
    let dd := f32 det.d
    let step (t : Num) : Num := r32 (t.scale (-(a : Int)))
    { det with d := toF32 (dd.add (step (f32sub (f32abs (f32sub v mu)) dd))),
               mu := toF32 (mu.add (step (f32sub v mu))), n := min (det.n + 1) 65535 }

/-- R323, lchk, for the binary32 value `x`; a tainted step is not learned. -/
def lchk (det : Det) (x a z w j : Nat) (tainted : Bool) : Det × Nat :=
  let learnt (det : Det) : Det := if tainted then det else learn det x a
  if !(f32 x).isFin then (det, 3)
  else if det.n < w then (learnt det, 0)
  else
    let dd := numMax (f32 det.d) (r32 ((f32abs (f32 det.mu)).scale (-10)))
    if numLt (f32mul (f32 z) dd) (f32sub (f32 x) (f32 det.mu)) then
      let run := det.run + 1
      (if run = j then { det with n := 0, run := 0 } else { det with run := run }, 1)
    else (learnt { det with run := 0 }, 0)

/-- R322, R323: detector RA[0] on the loss written for the step; result 2 where none was. -/
def execLchk (rd ra : Reg) (s : State) : Out :=
  s.run (fun d => d.seqIssue deviceSq (fun d x =>
    let ev := (x.reg ra).getLsbD 0
    let slot := if ev then d.health.evalLoss else d.health.loss
    let det := if ev then d.health.det1 else d.health.det0
    let setRes (d : Device) (det : Det) (r : Nat) : Device :=
      if ev then { d with health := { d.health with det1 := det, lres1 := r } }
      else { d with health := { d.health with det0 := det, lres0 := r } }
    let val := match slot with
      | some (st, v) => if st = d.cad.step % 2 ^ 32 then some v else none
      | none => none
    match val with
    | none => ((setRes d det 2).raise 0x2204 0 0 0 (b2n ev)).seqWrite deviceSq rd 2
    | some v =>
      let r := lchk det v (d.force 0x1405 1) (d.force 0x1405 2) (d.force 0x1405 3) (d.force 0x1405 4) d.stepTainted
      let d := setRes d r.1 r.2
      let d := if r.2 = 1 ∨ r.2 = 3 then d.raise (0x2202 + b2n ev) 0 0 0 r.2 else d
      d.seqWrite deviceSq rd (BitVec.ofNat 32 r.2)))

/-- R320: the decayed estimate plus the weighted, capped inputs, 65,535 at most. -/
def riskOf (r decay : Nat) (ws caps xs : List Nat) : Nat :=
  min (((ws.zip caps).zip xs).foldl (fun r t => r + min (t.1.1 * t.2) t.1.2) (r - r / 2 ^ decay)) 65535

/-- What a counter of 2^w values has grown by. -/
def grown (w now seen : Nat) : Nat := (now + 2 ^ w - seen % 2 ^ w) % 2 ^ w

namespace Device

/-- R320: inputs 0 to 13 of this stamp. -/
def riskInputs (d : Device) : List Nat :=
  let h := d.health
  let sums := (List.range 96).foldl (fun l k =>
    if Map.get false h.fresh k then addLists l (summaryInputs (d.storedSummary k)) else l) (addLists (List.replicate 9 0) h.carry)
  let s (i : Nat) := sums.getD i 0
  let spike (r : Nat) := if r = 1 ∨ r = 3 then 1 else 0
  [s 0, s 1, s 2, s 3, s 4, s 5, s 6, spike h.lres0, spike h.lres1, h.uncounted, s 7,
   s 8 + grown 64 (d.num 0x1801 1) h.hbmSeen + grown 64 (d.num 0x1801 3) h.ddrSeen,
   grown 32 (d.num 0x1010 10) h.d2dSeen + grown 64 (d.num 0x1702 2) h.retrainSeen,
   grown 64 (d.num 0x1211 1) h.overSeen, 0, 0]

/-- The inputs are counted: the next stamp starts from here. -/
def inputsCounted (d : Device) : Device :=
  { d with health := { d.health with
    fresh := [], carry := [], uncounted := 0, lres0 := 0, lres1 := 0, hbmSeen := d.num 0x1801 1,
    ddrSeen := d.num 0x1801 3, d2dSeen := d.num 0x1010 10, retrainSeen := d.num 0x1702 2, overSeen := d.num 0x1211 1 } }

/-- The latest step up to the present one whose low 32 bits are given. -/
def stepOf (d : Device) (low : Nat) : Nat := d.cad.step - (d.cad.step + 2 ^ 32 - low % 2 ^ 32) % 2 ^ 32

/-- R312: the action of the health stamp of a tainted step. -/
def taintAction (d : Device) (step : Nat) : Device :=
  let done := Map.get 0 d.health.restores step
  if Map.get 0 d.health.tainted step = 0 || d.force 0x1400 4 != 1 || decide (d.force 0x1400 5 ≤ done) ||
      d.num 0x1500 1 == 0 then d
  else
    let d := { d with health := { d.health with restores := Map.set 0 d.health.restores step (done + 1) } }
    (d.addNum 0x140A 7 0 1).askRestore (Map.get 0 d.health.tainted step - 1)

end Device

/-- R320, R321: the new estimate; a crossing makes a Harvest pending, and a pending request goes to the master (R505). -/
def execRisk (rd rb : Reg) (s : State) : Out :=
  s.run (fun d => d.seqIssue deviceSq (fun d x =>
    let old := d.num 0x1400 1
    let ws := (List.range 16).map (fun i => d.force 0x1402 (i + 1))
    let caps := (List.range 16).map (fun i => d.force 0x1403 (i + 1))
    let r := riskOf old (d.force 0x1400 3) ws caps d.riskInputs
    let t := d.force 0x1400 2
    let d := d.inputsCounted
    let d := if old < t ∧ t ≤ r then (d.raise 0x2205 0 0 0 r).setNum 0x1400 6 0 1 else d
    let d := d.setNum 0x1400 1 0 r
    let d := d.taintAction (d.stepOf (x.reg rb).toNat)
    let d := if d.num 0x1400 6 = 1 || d.hv.commanded then d.toMaster 1 d.devNo else d
    d.seqWrite deviceSq rd (BitVec.ofNat 32 r)))

/-! ### Taint notices (R309) -/

/-- R309: the step named is marked with cause 0x2207 and the sender's number; the master sends the notice on (R408). -/
def execTaintNoticeReceive (step : BitVec 48) (dev : BitVec 12) (cause : BitVec 16) (s : State) : Out :=
  s.run (fun d =>
    let n := step.toNat
    let d := if d.num 0x1200 1 = 1 then d.send (.taint n dev.toNat cause.toNat) else d
    if Map.get 0 d.health.tainted n ≠ 0 then d
    else
      let d := { d with health := { d.health with
        tainted := Map.set 0 d.health.tainted n (0x2207 + 1), uncounted := d.health.uncounted + 1 } }
      let d := if d.health.tainted.any (fun e => decide (n < e.1)) then d else (d.setNum 0x1401 2 0 0x2207).setNum 0x1401 3 0 n
      let d := if n = d.cad.step then d.setNum 0x1401 1 0 1 else d
      (d.countEvent 0x2207 0).raiseRaw 0x2207 0 0 0x2207 dev.toNat)

end Sys2Proof.Machine
end

