-- ==== Sys2Proof/Machine/ObjWrite.lean ====
section
/-! DEFINITION. Writes of dictionary objects: each object's own rule, where it has one (R422 to R426, R433, R435). -/

namespace Sys2Proof.Machine

/-! ### Objects with a command of their own -/

/-- R326: 1 taints the current step with cause 0; the range leaves no other value. -/
def taintHook (d : Device) : Device × Nat := (d.taint 0, stOK)

def execHlthTaintReq (c : Conn) (v : Byte) (s : State) : Out :=
  s.run (fun d => d.viaObject c 0x1401 6 0 v.toNat taintHook)

/-- R196. -/
def recalHook (tsid : Nat) (d : Device) : Device × Nat := ({ d with recal := d.recal ++ [tsid] }, stOK)

def execScaleRecal (c : Conn) (tsid : BitVec 16) (s : State) : Out :=
  s.run (fun d => d.viaObject c 0x1912 1 0 tsid.toNat (recalHook tsid.toNat))

/-- R322: a loss for the present step; a write that names another step is discarded and counted. -/
def lossHook (eval : Bool) (v : Nat) (d : Device) : Device × Nat :=
  if v % 2 ^ 32 ≠ d.cad.step % 2 ^ 32 then (d.addNum 0x1404 3 0 1, stOK)
  else
    let x := some (v % 2 ^ 32, v / 2 ^ 32)
    (if eval then { d with health := { d.health with evalLoss := x } }
     else { d with health := { d.health with loss := x } }, stOK)

def execHlthLoss (c : Conn) (v : BitVec 64) (s : State) : Out :=
  s.run (fun d => d.viaObject c 0x1404 1 0 v.toNat (lossHook false v.toNat))

def execHlthEvalLoss (c : Conn) (v : BitVec 64) (s : State) : Out :=
  s.run (fun d => d.viaObject c 0x1404 2 0 v.toNat (lossHook true v.toNat))

/-! ### Every object -/

/-- R416: FL_SHAPE and FL_POSITION are kept in the flash for the next Thaw; their reserved bits [15:12] are ignored (R7). -/
def shapeHook (sub v : Nat) (d : Device) : Device × Nat :=
  let d := d.setNum 0x1700 sub 0 (v % 4096)
  (d.writeRec .shape (leBytes 2 (d.num 0x1700 1) ++ leBytes 2 (d.num 0x1700 2)) true, stOK)

/-- R440, R505, R506, R511, R512, R514: what hub firmware of a member writes. -/
def firmwareHook (dev sub v : Nat) (d : Device) : Device × Nat :=
  if sub = 1 then (hvRequest v d, stOK)
  else if sub = 2 then (hvNext v d, stOK)
  else if sub = 3 then (hvCommit v d, stOK)
  else if sub = 4 then (hvKeepSealed v d, stOK)
  else (hvRestore v dev d, stOK)

/-- What a scalar write that passed the access rules does: the object's command, or its value. -/
def scalarHook (c : Conn) (idx sub inst : Nat) (data : List Byte) (d : Device) : Device × Nat :=
  let v := leNat data
  match idx with
  | 0x1300 => if v = 1 then checkHook d else if v = 2 then discardHook d else (d, stRange)
  | 0x1100 =>
    if sub = 3 then (d.setNum 0x1100 3 0 v, stOK)
    else if v = 1 then stopHook d else if v = 2 then abortHook d else (d, stRange)
  | 0x1401 => taintHook d
  | 0x1404 => lossHook (sub == 2) v d
  | 0x1912 => recalHook v d
  | 0x1C00 => replanHook v d
  | 0x1601 => targetHook (sub - 1) v d
  | 0x4602 => if sub ≤ 4 then freqHook (sub - 1) v d else vcoreHook (sub - 5) v d
  | 0x70C0 => d.pdRequest inst v 1
  | 0x1501 => hvCommandHook d
  | 0x1D01 => if v = 1 then fwVerifyHook d else if v = 2 then fwActivateHook d else fwCommitHook d
  | 0x1D03 => credDeleteHook data d
  | 0x1700 => shapeHook sub v d
  | 0x1502 =>
    match c with
    | .firmware dev => firmwareHook dev.toNat sub v d
    | .session _ => (d, stDenied)
  | _ => (d.setNum idx sub inst v, stOK)

/-- The longest value of a writable DOMAIN object, and whether only that length will do. -/
def domLimit (idx sub : Nat) : Nat × Bool :=
  match idx with
  | 0x1300 => (2 ^ 28, false)
  | 0x1D01 => (2 ^ 26, false)
  | 0x1D02 => (32, true)
  | 0x1D03 => (84, true)
  | 0x1701 => (8192, true)
  | 0x7040 => if sub = 1 then (1024, false) else (64, true)
  | 0x1B00 => (32, true)
  | 0x7060 => (65536, false)
  | 0x7080 => (65536, false)
  | 0x1001 => (96, true)
  | _ => (0, true)

/-- R168, R175: a program loaded outside a plan: the registers of its micro-sequencer are 0 and it is idle. -/
def programHook (sub inst : Nat) (data : List Byte) (d : Device) : Device × Nat :=
  let d := (d.setDom 0x7040 sub inst (Device.storedBytes 0x7040 sub data)).touched 0x7040 sub inst
  (d.seqLoaded (inst - 1) (sub = 1), stOK)

/-- What the commit of a DOMAIN object does. -/
def domHook (c : Conn) (idx sub inst : Nat) (data : List Byte) (d : Device) : Device × Nat :=
  let lim := domLimit idx sub
  if lim.1 < data.length || (lim.2 && data.length != lim.1) then (d, stRange)
  else match idx with
    | 0x1300 => planHook data d
    | 0x1D01 => fwImageHook data d
    | 0x1D02 =>
      match c with
      | .session sid => nonceHook sid.toNat data d
      | .firmware _ => (d, stDenied)
    | 0x1D03 => credWriteHook c data d
    | 0x7040 => programHook sub inst data d
    | _ => ((d.setDom idx sub inst (Device.storedBytes idx sub data)).touched idx sub inst, stOK)

/-- R466: any session may write a nonce, without the lease. -/
def domStatus (d : Device) (c : Conn) (idx sub inst : Nat) : Nat :=
  if idx = 0x1D02 ∧ sub = 3 ∧ inst = 0 then
    match c with
    | .session sid => if (d.session sid.toNat).isSome then stOK else stNoSession
    | .firmware _ => stDenied
  else
    let s := d.accessStatus c idx sub inst
    if s ≠ stOK then s
    else match objRow idx sub with
      | some r => if r.ty = .dom then stOK else stType
      | none => stAbsent

/-- One write item (R432): the device afterwards and the status. -/
def writeItem (c : Conn) (w : WriteItem) (d : Device) : Device × Nat :=
  let idx := w.addr.idx.toNat
  let sub := w.addr.sub.toNat
  let inst := w.addr.inst.toNat
  let s := d.writeStatus c idx sub inst w.type.toNat w.data
  if s ≠ stOK then (d, s) else scalarHook c idx sub inst w.data d

/-- A write that reaches an object outside a frame: a DOMAIN object (type code 0x0D) is committed whole, any other goes the
way of an item. -/
def execObjectWrite (c : Conn) (w : WriteItem) (s : State) : Out :=
  s.run (fun d =>
    let idx := w.addr.idx.toNat
    let sub := w.addr.sub.toNat
    let inst := w.addr.inst.toNat
    if w.type.toNat = 0x0D then
      let st := domStatus d c idx sub inst
      Device.answer (if st = stOK then domHook c idx sub inst w.data d else (d, st)) idx sub inst
    else Device.answer (writeItem c w d) idx sub inst)

end Sys2Proof.Machine
end

