-- ==== Sys2Proof/Machine/DapOps.lean ====
section
/-! DEFINITION. The Dictionary Access Protocol (R429 to R440): objects as they read, items, frames and their bytes. -/

namespace Sys2Proof.Machine

/-! ### Reading objects -/

/-- R439: the 48 bytes of a log record; one never written reads as zeros. -/
def evBytes (r : EvRec) : List Byte :=
  if r.seq = 0 then List.replicate 48 0
  else
    leBytes 2 r.code ++ leBytes 1 r.sev ++ leBytes 1 r.flags ++ leBytes 4 r.seq ++ leBytes 8 r.timeUs ++
    leBytes 8 (r.step % 2 ^ 48) ++ leBytes 4 (r.phase % 2 ^ 24) ++ leBytes 2 r.uarr ++ leBytes 2 r.uinst ++
    leBytes 8 r.arg0 ++ leBytes 8 r.arg1

namespace Device

/-- A scalar object as it reads: some report the state directly. -/
def liveNum (d : Device) (idx sub inst : Nat) : Nat :=
  match idx with
  | 0x1201 =>
    if sub = 1 then d.cad.step % 2 ^ 48 else if sub = 2 then d.cad.phase % 2 ^ 24 else if sub = 3 then d.season
    else b2n d.cad.held
  | 0x7090 => gatePending d (inst - 1)
  | 0x7020 =>
    if sub = 1 then ((d.core (inst - 1)).thr.filter (fun t => t.2.st != .free)).length
    else if sub = 5 then d.idleClk (inst - 1) % 2 ^ 64 else d.num idx sub inst
  | 0x7040 =>
    let x := d.sq (inst - 1)
    if sub = 3 then (match x.st with
      | .idle => 0
      | .running => 1
      | _ => 2)
    else if sub = 4 then x.pc.toNat else d.num idx sub inst
  | _ => d.num idx sub inst

/-- The length of a DOMAIN object as session `x` reads it. -/
def domLen (d : Device) (x : Option Session) (idx sub inst : Nat) : Nat :=
  match idx, sub with
  | 0x1E00, 1 => 196608
  | 0x8002, 1 => 6291456
  | 0x1D02, 4 => match x with
    | some s => s.quote.length
    | none => 0
  | _, _ => (d.domOf idx sub inst).length

/-- `n` bytes of a DOMAIN object from an offset on. -/
def domSlice (d : Device) (x : Option Session) (idx sub inst off n : Nat) : List Byte :=
  let n := min n (d.domLen x idx sub inst - off)
  match idx, sub with
  | 0x1E00, 1 => (List.range n).map (fun i =>
      (evBytes (Map.get {} d.evt.log ((off + i) / 48))).getD ((off + i) % 48) 0)
  | 0x8002, 1 => (List.range n).map (fun i => (Map.get [] d.met.records ((off + i) / 6144)).getD ((off + i) % 6144) 0)
  | 0x1D02, 4 => match x with
    | some s => sliceB s.quote off n
    | none => []
  | _, _ => sliceB (d.domOf idx sub inst) off n

/-- R439: log records that a read covers count as read. -/
def markRead (d : Device) (off n : Nat) : Device :=
  forN (n / 48 + 1) d (fun d i =>
    let k := (off + 47) / 48 + i
    if 48 * k + 48 ≤ off + n ∧ k < 4096 ∧ (Map.get {} d.evt.log k).seq ≠ 0 then
      { d with evt := { d.evt with log := Map.upd {} d.evt.log k (fun r => { r with read := true }) } }
    else d)

/-- R418, R419, R422: whether a reader of a ceiling may read an address. -/
def readStatus (_ : Device) (ceil idx sub inst : Nat) : Nat :=
  if 0x9000 ≤ idx ∧ idx < 0xA000 then stLocked
  else match maxSub idx with
    | none => stAbsent
    | some _ =>
      if !instOk idx inst then stAbsent
      else if sub = 0 then stOK
      else match objRow idx sub with
        | none => stAbsent
        | some r =>
          if r.acc = .wo then stWriteOnly
          else if r.acc = .rp && ceil ≠ 2 && ceil ≠ 3 then stDenied
          else stOK

end Device

/-! ### Items (R432) -/

/-- Zeros up to a multiple of 4 bytes. -/
def pad4 (b : List Byte) : List Byte := b ++ List.replicate ((4 - b.length % 4) % 4) 0

/-- A read result. -/
def readResult (status type : Nat) (v : List Byte) : List Byte :=
  leBytes 1 status ++ leBytes 1 type ++ leBytes 2 v.length ++ pad4 v

/-- A write result. -/
def writeResult (status : Nat) : List Byte := leBytes 4 (status % 256)

/-- R432: the greatest size of an address item's result. -/
def resultSize (d : Device) (ceil : Nat) (a : ObjAddr) : Nat :=
  if d.readStatus ceil a.idx.toNat a.sub.toNat a.inst.toNat ≠ stOK then 4
  else match objRow a.idx.toNat a.sub.toNat with
    | some r => 4 + (tyBytes r.ty + 3) / 4 * 4
    | none => 8

/-- R421, R432: the result of one address item. -/
def readItem (d : Device) (ceil : Nat) (x : Option Session) (a : ObjAddr) : List Byte :=
  let idx := a.idx.toNat
  let sub := a.sub.toNat
  let inst := a.inst.toNat
  let st := d.readStatus ceil idx sub inst
  if st ≠ stOK then readResult st 0 []
  else if sub = 0 then readResult 0 1 (leBytes 1 ((maxSub idx).getD 0))
  else match objRow idx sub with
    | none => readResult stAbsent 0 []
    | some r =>
      if r.ty = .dom then readResult 0 0x0D (leBytes 4 (d.domLen x idx sub inst))
      else if r.ty = .str then readResult 0 0x0C (d.domOf idx sub inst)
      else readResult 0 (tyCode r.ty) (leBytes (tyBytes r.ty) (d.liveNum idx sub inst))

/-! ### Frames (R430) -/

/-- The bytes of a response frame. -/
def respBytes (r : DapResp) : List Byte :=
  leBytes 1 1 ++ leBytes 1 (r.op + 0x80) ++ leBytes 1 0 ++ leBytes 1 r.fstatus ++ leBytes 4 r.seq ++ leBytes 4 r.session ++
  leBytes 2 r.target ++ leBytes 2 r.count ++ r.body

/-- The operation code of a request (R431). -/
def reqOp : DapReq → Nat
  | .read _ => 2
  | .write _ => 3
  | .dread .. => 4
  | .dwrite .. => 5
  | .claim .. => 6
  | .subscribe .. => 7
  | .keepalive => 8
  | .bye => 9
  | .forward f => fieldB f 1 1

def addrBytes (a : ObjAddr) : List Byte :=
  leBytes 2 a.idx.toNat ++ leBytes 1 a.sub.toNat ++ leBytes 1 0 ++ leBytes 2 a.inst.toNat ++ leBytes 2 0

/-- The body of a request. -/
def reqBody : DapReq → List Byte
  | .read l => l.flatMap addrBytes
  | .write l => l.flatMap (fun w =>
      leBytes 2 w.addr.idx.toNat ++ leBytes 1 w.addr.sub.toNat ++ leBytes 1 w.type.toNat ++ leBytes 2 w.addr.inst.toNat ++
      leBytes 2 w.data.length ++ pad4 w.data)
  | .dread a off len => addrBytes a ++ leBytes 4 off ++ leBytes 4 len
  | .dwrite a b e off total data =>
      leBytes 2 a.idx.toNat ++ leBytes 1 a.sub.toNat ++ leBytes 1 (b2n b + 2 * b2n e) ++ leBytes 2 a.inst.toNat ++
      leBytes 2 data.length ++ leBytes 4 off ++ leBytes 4 total ++ data
  | .claim role force => leBytes 1 role ++ leBytes 1 (b2n force) ++ leBytes 2 0
  | .subscribe m c => leBytes 1 m ++ leBytes 1 0 ++ leBytes 2 c ++ leBytes 4 0
  | .keepalive => []
  | .bye => []
  | .forward _ => []

/-- The bytes of a request as it is sent on to another device: FWD = 1 (R440). -/
def forwardBytes (h : DapHdr) (req : DapReq) : List Byte :=
  match req with
  | .forward f => overB f 2 (leBytes 1 (fieldB f 2 1 ||| 4))
  | _ =>
    leBytes 1 h.ver.toNat ++ leBytes 1 (reqOp req) ++ leBytes 1 (h.flags.toNat ||| 4) ++ leBytes 1 0 ++
    leBytes 4 h.seq.toNat ++ leBytes 4 h.session.toNat ++ leBytes 2 h.target.toNat ++ leBytes 2 h.count.toNat ++ reqBody req

/-- An address item. -/
def parseAddr (b : List Byte) : ObjAddr :=
  { idx := BitVec.ofNat 16 (fieldB b 0 2), sub := BitVec.ofNat 8 (fieldB b 2 1), inst := BitVec.ofNat 16 (fieldB b 4 2) }

/-- Write items, as many as COUNT says; none where one crosses the frame end. -/
def parseItems : Nat → List Byte → Option (List WriteItem)
  | 0, _ => some []
  | n + 1, b =>
    let len := fieldB b 6 2
    if b.length < 8 + len then none
    else
      let w : WriteItem :=
        { addr := { idx := BitVec.ofNat 16 (fieldB b 0 2), sub := BitVec.ofNat 8 (fieldB b 2 1), inst := BitVec.ofNat 16 (fieldB b 4 2) }
          type := BitVec.ofNat 8 (fieldB b 3 1), data := sliceB b 8 len }
      (parseItems n (b.drop (8 + (len + 3) / 4 * 4))).map (w :: ·)

/-- A request from the bytes of a frame (R431 to R437); none where its body is malformed. -/
def parseReq (op count : Nat) (b : List Byte) : Option DapReq :=
  match op with
  | 2 =>
    if b.length < 8 * count || 170 < count then none
    else if (List.range count).any (fun i => fieldB b (8 * i + 3) 1 != 0 || fieldB b (8 * i + 6) 2 != 0) then none
    else some (.read ((List.range count).map (fun i => parseAddr (b.drop (8 * i)))))
  | 3 => (parseItems count b).map .write
  | 4 =>
    if b.length < 16 || fieldB b 3 1 != 0 || fieldB b 6 2 != 0 then none
    else some (.dread (parseAddr b) (fieldB b 8 4) (fieldB b 12 4))
  | 5 =>
    let len := fieldB b 6 2
    if b.length < 16 + len || 4 ≤ fieldB b 3 1 || 1360 < len then none
    else some (.dwrite (parseAddr b) (bitOf (fieldB b 3 1) 0) (bitOf (fieldB b 3 1) 1) (fieldB b 8 4) (fieldB b 12 4)
      (sliceB b 16 len))
  | 6 => if b.length < 4 || 2 ≤ fieldB b 1 1 || fieldB b 2 2 != 0 then none else some (.claim (fieldB b 0 1) (fieldB b 1 1 == 1))
  | 7 => if b.length < 8 || fieldB b 1 1 != 0 || fieldB b 4 4 != 0 then none else some (.subscribe (fieldB b 0 1) (fieldB b 2 2))
  | 8 => some .keepalive
  | 9 => some .bye
  | _ => none

/-- The header of a frame that arrives as bytes. -/
def parseDapHdr (link : DapLink) (b : List Byte) : DapHdr :=
  { link := link, ver := BitVec.ofNat 8 (fieldB b 0 1), flags := BitVec.ofNat 8 (fieldB b 2 1),
    fstatus := BitVec.ofNat 8 (fieldB b 3 1), seq := BitVec.ofNat 32 (fieldB b 4 4), session := BitVec.ofNat 32 (fieldB b 8 4),
    target := BitVec.ofNat 16 (fieldB b 12 2), count := BitVec.ofNat 16 (fieldB b 14 2) }

/-- The length of a request frame. -/
def frameLength (req : DapReq) : Nat :=
  match req with
  | .forward f => f.length
  | _ => 16 + (reqBody req).length

/-- R430, R433: what makes a request malformed: its length, its version, its flags, its FSTATUS, its count of items. -/
def hdrBad (h : DapHdr) (req : DapReq) : Bool :=
  decide (1400 < frameLength req) || h.ver != 1 || decide (8 ≤ h.flags.toNat) || h.fstatus != 0 ||
  (match req with
    | .read l => h.count.toNat != l.length || decide (170 < l.length)
    | .write l => h.count.toNat != l.length || l.any (fun w => decide (65535 < w.data.length))
    | .dwrite _ _ _ _ _ data => decide (1360 < data.length)
    | _ => false)

end Sys2Proof.Machine
end

