-- ==== Sys2Proof/Machine/MgmtPort.lean ====
section
/-! DEFINITION. What Linux and the dictionary server share (R429, R441, R443): the MAC addresses of M0 and M1, which frames each
gets, which addresses the server answers for, the hub cores that a plan takes. -/

namespace Sys2Proof.Machine

/-- R429: DAP runs over this UDP port. -/
def dapUdpPort : Nat := 50210

/-- R441: the MAC address of the dictionary server, or of Linux, on a port, from MGMT_MAC_BASE. -/
def macAddr (base port : Nat) (linux : Bool) : Nat := (base % 2 ^ 48 + 2 * port + b2n linux) % 2 ^ 48

/-- A broadcast or multicast address: the group bit is bit 0 of the first byte sent. -/
def macGroup (mac : Nat) : Bool := bitOf mac 40

namespace Device

/-- R441: the port steers a received frame by its destination MAC; broadcast and multicast go to both. -/
def steeredTo (d : Device) (port dst : Nat) (linux : Bool) : Bool :=
  macGroup dst || dst == macAddr (d.num 0x1001 1) port linux

/-- R441: a frame that Linux sends leaves only under Linux's own source MAC. -/
def linuxMaySend (d : Device) (port src : Nat) : Bool := src == macAddr (d.num 0x1001 1) port true

/-- R445: the MGMT_IP_CONFIG entry of a port: MODE, PLEN, ADDR. -/
def ipMode (d : Device) (port : Nat) : Nat := fieldB (d.domOf 0x1001 2) (48 * port) 1
def ipAddr (d : Device) (port : Nat) : List Byte := sliceB (d.domOf 0x1001 2) (48 * port + 4) 16

/-- R429: the IPv6 link-local address that the server holds at all times, formed from its MAC (log entry 44): fe80::/64 and the
address with ff:fe in its middle and the universal bit turned. The first byte comes first. -/
def linkLocal (d : Device) (port : Nat) : List Byte :=
  let m := macAddr (d.num 0x1001 1) port false
  let byte (i : Nat) : Nat := m / 256 ^ (5 - i) % 256
  ([0xFE, 0x80, 0, 0, 0, 0, 0, 0, Nat.xor (byte 0) 2, byte 1, byte 2, 0xFF, 0xFE, byte 3, byte 4, byte 5]).map (BitVec.ofNat 8)

/-- R429, R441: the server answers ARP (`v4`, four bytes) and Neighbor Discovery (16 bytes) only for its own addresses: the
link-local one, the static one, or the one that DHCP gave it. -/
def answersFor (d : Device) (port : Nat) (v4 : Bool) (addr : List Byte) (leased : Option (List Byte)) : Bool :=
  let mode := d.ipMode port
  (!v4 && addr == d.linkLocal port) ||
  (!v4 && mode == 1 && addr == d.ipAddr port) || (v4 && mode == 2 && addr == (d.ipAddr port).drop 12) ||
  (leased == some addr && ((v4 && mode == 3) || (!v4 && mode == 4)))

/-- R443: the plan has taken a hub core from Linux: one that it reserves, while RUN_STATE is RUNNING or STOPPING. Cores 0, 1, 16 and
17 always stay with Linux (0xA006). -/
def hubCoreTaken (d : Device) (n : Nat) : Bool :=
  (d.runState == 2 || d.runState == 3) && (match d.adm.facts with
    | some f => f.hubCores.contains n
    | none => false)

end Device

end Sys2Proof.Machine
end

