-- ==== Sys2Proof/Machine/Dap.lean ====
section
/-! DEFINITION. The dictionary server (R423, R429 to R440): connections, sessions, requests, forwarding. -/

namespace Sys2Proof.Machine

namespace Device

/-! ### The server and its answers -/

/-- R447: hub firmware runs from step 3 of the Thaw on; in ROM recovery the management ports are off (R457). -/
def serverUp (d : Device) : Bool := d.thaw.began && decide (3 ≤ d.num 0x1D04 2) && !d.thaw.romRecovery

/-- A frame can arrive on this link: an open DTLS connection, the local endpoint, a fragment from a peer. -/
def linkOpen (d : Device) : DapLink → Bool
  | .dtls c => d.mgmt.conns.any (fun x => x.1 == c)
  | .loc => true
  | .peer .. => true

/-- R433, R569: the source of a frame, and the low 64 bits of its address. -/
def sourceKey (d : Device) : DapLink → Nat × Nat
  | .dtls c =>
    let a := ((d.mgmt.conns.find? (fun x => x.1 == c)).map (fun x => x.2.1)).getD 0
    (2 + a, a)
  | .loc => (0, 0)
  | .peer src _ => (2 ^ 64 + 2 + src.toNat, src.toNat)

/-- R430, R440: a response goes back the way its request came. -/
def respond (d : Device) (link : DapLink) (r : DapResp) : Device :=
  match link with
  | .peer src ceiling => d.send (.dapFrag src.toNat ceiling.toNat (respBytes r))
  | l => d.send (.dapResp l r)

/-- A response with a frame status and no items, or with a body. -/
def respOf (h : DapHdr) (op fstatus count : Nat) (body : List Byte) : DapResp :=
  { op := op % 128, fstatus := fstatus, seq := h.seq.toNat, session := h.session.toNat, target := h.target.toNat,
    count := count, body := body }

/-- R433: a malformed frame: FSTATUS 12 where its SESSION and SEQ can be read, event 0x7043 at most once per second per
source. -/
def malformed (d : Device) (h : DapHdr) (op : Nat) (readable : Bool) : Device :=
  let s := d.sourceKey h.link
  let d := d.raiseEvery 1000000000 0x7043 s.1 0 0 h.session.toNat s.2
  if readable then d.respond h.link (respOf h op stMalformed 0 []) else d

/-! ### Sessions -/

/-- R436: a session id that is non-zero and of no open session. -/
def drawSid (d : Device) : Nat × Device :=
  let k := d.drawFree
  let v := (Config.sessionId k.1).toNat
  let ok (n : Nat) : Bool := n != 0 && (d.session n).isNone
  (if ok v then v else ((List.range 18).find? ok).getD 0, k.2)

/-- R438: a session opens; MGMT_SESSIONS counts it. -/
def openSession (d : Device) (x : Session) : Device :=
  let l := d.mgmt.sessions ++ [{ x with lastNs := d.time.nowNs }]
  { d with mgmt := { d.mgmt with sessions := l } }.setNum 0x1001 6 0 l.length

def modSession (d : Device) (sid : Nat) (f : Session → Session) : Device :=
  match d.session sid with
  | some x => d.setSession (f x)
  | none => d

/-- R423, R440: a session's writes go by its id; those of hub firmware of a member by that member. -/
def connOf (x : Session) : Conn :=
  match x.src with
  | some (dev, 0) => if x.ceil = 4 then .firmware (BitVec.ofNat 12 dev) else .session (BitVec.ofNat 32 x.sid)
  | _ => .session (BitVec.ofNat 32 x.sid)

/-- R434: the response is kept among the last 16. -/
def keep (d : Device) (sid : Nat) (r : DapResp) : Device :=
  d.modSession sid (fun x => { x with cache := ((r.seq, r) :: x.cache.filter (fun c => c.1 != r.seq)).take 16 })

/-! ### Requests -/

/-- R432: a READ whose greatest response would exceed one frame reads nothing. -/
def doRead (d : Device) (x : Session) (items : List ObjAddr) : Nat × List Byte :=
  if 1400 < 16 + (items.map (resultSize d x.ceil)).sum then (stTooLarge, [])
  else (stOK, items.flatMap (readItem d x.ceil (some x)))

/-- R434: WRITE: with ATOMIC every item is checked before any is applied. -/
def doWrite (d : Device) (c : Conn) (atomic : Bool) (items : List WriteItem) : Device × List Byte :=
  let checks := items.map (fun w => (writeItem c w d).2)
  if atomic && checks.any (· != stOK) then
    (d, checks.flatMap (fun s => writeResult (if s = stOK then stAborted else s)))
  else
    items.foldl (fun r w => let a := writeItem c w r.1; (a.1, r.2 ++ writeResult a.2)) (d, [])

/-- R435: DREAD; a quote not yet signed is refused with BUSY (R466). -/
def doDread (d : Device) (x : Session) (a : ObjAddr) (off len : Nat) : Device × List Byte :=
  let idx := a.idx.toNat
  let sub := a.sub.toNat
  let inst := a.inst.toNat
  let st := d.readStatus x.ceil idx sub inst
  let st := if st ≠ stOK then st
    else match objRow idx sub with
      | some r =>
        if sub = 0 || r.ty != .dom then stType
        else if idx = 0x1D02 ∧ sub = 4 ∧ x.nonce.isSome ∧ x.quote = [] then stBusy
        else stOK
      | none => stType
  if st ≠ stOK then (d, leBytes 1 st ++ leBytes 1 0 ++ leBytes 2 0 ++ leBytes 4 0)
  else
    let total := d.domLen (some x) idx sub inst
    let b := d.domSlice (some x) idx sub inst off (min len 1360)
    let d := if idx = 0x1E00 ∧ sub = 1 then d.markRead off b.length else d
    (d, leBytes 1 0 ++ leBytes 1 0 ++ leBytes 2 b.length ++ leBytes 4 total ++ b)

/-- R435: the commit of what a session has staged. -/
def commit (d : Device) (c : Conn) (sid : Nat) (g : Staging) : Device × Nat :=
  let d := d.modSession sid (fun x => { x with staging := none })
  if Map.get 0 d.mgmt.changes (okey g.idx g.sub g.inst) ≠ g.base || domStatus d c g.idx g.sub g.inst ≠ stOK
  then (d, stState)
  else domHook c g.idx g.sub g.inst g.data d

/-- R435: a segment joins what is staged; END commits. A refused segment leaves the staging as it is. -/
def segment (d : Device) (c : Conn) (sid : Nat) (g : Staging) (end_ : Bool) (off : Nat) (data : List Byte) : Device × Nat :=
  let n := g.data.length + data.length
  if off ≠ g.data.length || g.total < n || (end_ && n != g.total) then (d, stRange)
  else
    let g := { g with data := g.data ++ data }
    if end_ then d.commit c sid g
    else (d.modSession sid (fun x => { x with staging := some g }), stOK)

/-- R435: DWRITE. -/
def doDwrite (d : Device) (x : Session) (c : Conn) (a : ObjAddr) (begin_ end_ : Bool) (off total : Nat) (data : List Byte) :
    Device × Nat :=
  let idx := a.idx.toNat
  let sub := a.sub.toNat
  let inst := a.inst.toNat
  if begin_ then
    let st := domStatus d c idx sub inst
    if st ≠ stOK then (d, st)
    else if (domLimit idx sub).1 < total then (d, stRange)
    else
      d.segment c x.sid { idx := idx, sub := sub, inst := inst, total := total, data := [],
                          base := Map.get 0 d.mgmt.changes (okey idx sub inst) } end_ off data
  else match x.staging with
    | none => (d, stState)
    | some g =>
      if g.idx = idx ∧ g.sub = sub ∧ g.inst = inst then d.segment c x.sid g end_ off data else (d, stState)

/-- R437: CLAIM: the device, the status and the role held afterwards. -/
def doClaim (d : Device) (x : Session) (role : Nat) (force : Bool) : Device × Nat × Nat :=
  if role ≠ 2 ∧ role ≠ 3 then (d, stRange, x.role)
  else if x.ceil < role ∨ x.ceil = 4 then (d, stDenied, x.role)
  else
    let take (d : Device) := (d.setLease x.sid).modSession x.sid (fun y => { y with role := role })
    if d.lease = 0 ∨ d.lease = x.sid then (take d, stOK, role)
    else match d.session d.lease with
      | none => (take d, stOK, role)
      | some o =>
        if force ∧ o.ceil ≤ x.ceil then ((take d).raise 0x7041 0 0 x.sid, stOK, role) else (d, stBusy, x.role)

/-- The effect of a request of session `x` and its response (R431). -/
def runReq (d : Device) (x : Session) (h : DapHdr) (req : DapReq) : Device × DapResp :=
  let c := connOf x
  let op := reqOp req
  let ok (d : Device) (n : Nat) (b : List Byte) : Device × DapResp := (d, respOf h op stOK n b)
  match req with
  | .read items =>
    let r := d.doRead x items
    (d, respOf h op r.1 (if r.1 = stOK then h.count.toNat else 0) r.2)
  | .write items =>
    let r := d.doWrite c (bitOf h.flags.toNat 0) items
    ok r.1 h.count.toNat r.2
  | .dread a off len => let r := d.doDread x a off len; ok r.1 h.count.toNat r.2
  | .dwrite a b e off total data => let r := d.doDwrite x c a b e off total data; ok r.1 h.count.toNat (writeResult r.2)
  | .claim role force =>
    let r := d.doClaim x role force
    ok r.1 h.count.toNat (leBytes 1 r.2.1 ++ leBytes 1 r.2.2 ++ leBytes 2 0)
  | .subscribe m k =>
    ok (d.modSession x.sid (fun y => { y with
      sub := if k = 0 then none else some { minsev := m, mask := k, recSeq := d.num 0x1E00 2 } })) 0 []
  | .keepalive => ok d 0 []
  | .bye => ok d 0 []
  | .forward _ => (d, respOf h op stMalformed 0 [])

/-- R434: a frame in its turn: executed, counted, answered, its response kept; BYE closes the session after it. -/
def execReq (d : Device) (x : Session) (h : DapHdr) (req : DapReq) : Device :=
  let r := (d.addNum 0x1002 1 0 1).runReq x h req
  let d := (r.1.respond h.link r.2).keep x.sid r.2
  if req = .bye then d.closeSession x.sid else d

/-- R440: a frame for another device goes out with FWD = 1 under the source session's ceiling. -/
def forwardReq (d : Device) (x : Session) (h : DapHdr) (req : DapReq) : Device :=
  let key := (x.sid, h.seq.toNat)
  let f := d.mgmt.fwd.filter (fun e => (e.1, e.2.1) != key)
  { d with mgmt := { d.mgmt with fwd := f ++ [(x.sid, h.seq.toNat, reqOp req, h.target.toNat, d.time.nowNs)] } }.send
    (.dapFrag h.target.toNat x.ceil (forwardBytes h req))

/-- A frame for this device (R430, R436). -/
def mine (d : Device) (h : DapHdr) : Bool := h.target == 0xFFFF || h.target.toNat == d.devNo

/-- What the turn of a frame brings. -/
def turn (d : Device) (x : Session) (h : DapHdr) (req : DapReq) : Device :=
  if d.mine h then d.execReq x h req else d.forwardReq x h req

/-- R434: the next frames that were held, in SEQ order. -/
def drain : Nat → Device → Nat → Device
  | 0, d, _ => d
  | n + 1, d, sid =>
    match d.session sid with
    | none => d
    | some x =>
      match x.heldF.find? (fun f => f.hdr.seq.toNat == x.next) with
      | none => d
      | some f =>
        let x := { x with next := (x.next + 1) % 2 ^ 32, heldF := x.heldF.filter (fun g => g.hdr.seq != f.hdr.seq) }
        drain n ((d.setSession x).turn x f.hdr f.req) sid

/-- R434: the window of a session: an answered frame is answered again, the next one runs and then those held behind it,
1 to 15 ahead waits, the rest is dropped. A resent frame that was forwarded and not answered is forwarded again. -/
def window (d : Device) (x : Session) (h : DapHdr) (req : DapReq) : Device :=
  let d := d.modSession x.sid (fun y => { y with lastNs := d.time.nowNs })
  let x := { x with lastNs := d.time.nowNs }
  let q := h.seq.toNat
  let ahead := (q + 2 ^ 32 - x.next) % 2 ^ 32
  match x.cache.find? (fun c => c.1 == q) with
  | some c => d.respond h.link c.2
  | none =>
    if ahead = 0 then
      let x := { x with next := (x.next + 1) % 2 ^ 32 }
      drain 16 ((d.setSession x).turn x h req) x.sid
    else if ahead < 16 then
      if x.heldF.any (fun f => f.hdr.seq == h.seq) then d
      else d.setSession { x with heldF := x.heldF ++ [{ hdr := h, req := req, ns := d.time.nowNs }] }
    else if ¬ d.mine h ∧ 2 ^ 32 - 16 ≤ ahead then d.forwardReq x h req
    else d

/-- R440: a frame from a peer in its proxy session: SEQ values rise there with gaps, since the source session's frames to
other devices share its numbers. -/
def proxyWindow (d : Device) (x : Session) (h : DapHdr) (req : DapReq) : Device :=
  let d := d.modSession x.sid (fun y => { y with lastNs := d.time.nowNs })
  let x := { x with lastNs := d.time.nowNs }
  let q := h.seq.toNat
  match x.cache.find? (fun c => c.1 == q) with
  | some c => d.respond h.link c.2
  | none =>
    if q + 16 < x.next then d
    else
      let x := { x with next := max x.next (q + 1) }
      (d.setSession x).execReq x h req

/-- R440: the frame of a peer: for another device it is malformed; the first opens its proxy session; frames of hub firmware
come only from members of the number map. -/
def peerFrame (d : Device) (src ceiling : Nat) (h : DapHdr) (req : DapReq) : Device :=
  let sid := h.session.toNat
  let firm := sid = 0 ∧ ceiling = 4
  if !d.mine h then d.malformed h (reqOp req) true
  else if firm ∧ 4096 ≤ d.mapPos src then d
  else
    match d.mgmt.sessions.find? (fun s => s.src == some (src, sid)) with
    | some x => d.proxyWindow x h req
    | none =>
      if 16 ≤ d.mgmt.sessions.length then d.respond h.link (respOf h (reqOp req) stBusy 0 [])
      else
        let k := d.drawSid
        let x : Session := { sid := k.1, link := h.link, src := some (src, sid), next := h.seq.toNat,
                             ceil := if firm then 4 else min ceiling (d.num 0x1001 5), lastNs := d.time.nowNs }
        (k.2.openSession x).proxyWindow x h req

/-- R433, R434, R436: a request frame arrives. -/
def dapFrame (d : Device) (h : DapHdr) (req : DapReq) : Device :=
  if !d.serverUp || !d.linkOpen h.link then d
  else if hdrBad h req then d.malformed h (reqOp req) true
  else match h.link with
    | .peer src ceiling => d.peerFrame src.toNat ceiling.toNat h req
    | l =>
      match d.session h.session.toNat with
      | some x =>
        if x.link = l ∧ x.src = none then d.window x h req
        else d.respond l (respOf h (reqOp req) stNoSession 0 [])
      | none => d.respond l (respOf h (reqOp req) stNoSession 0 [])

/-- R436: HELLO opens a session. -/
def doHello (d : Device) (h : DapHdr) (gens role : Nat) (name : List Byte) : Device :=
  let bad := h.ver != 1 || h.fstatus != 0 || decide (8 ≤ h.flags.toNat) || h.session != 0 || h.seq != 0 ||
    h.target != 0xFFFF || role == 0 || decide (3 < role) || decide (16 < name.length)
  if !d.serverUp || !d.linkOpen h.link then d
  else match h.link with
    | .peer .. => d.malformed h 1 true
    | l =>
      if bad then d.malformed h 1 true
      else if !bitOf gens 0 then d.respond l (respOf h 1 stVersion 0 [])
      else if 16 ≤ d.mgmt.sessions.length then d.respond l (respOf h 1 stBusy 0 [])
      else
        let cred : Nat × List Byte := match l with
          | .dtls c => match d.mgmt.conns.find? (fun x => x.1 == c) with
            | some x => (x.2.2.1, x.2.2.2)
            | none => (0, [])
          | _ => (d.num 0x1001 4, [])
        let k := d.drawSid
        let ceil := min role cred.1
        let d := k.2.openSession { sid := k.1, link := l, ceil := ceil, ident := cred.2 }
        let d := d.addNum 0x1002 1 0 1
        let body := leBytes 1 1 ++ leBytes 1 ceil ++ leBytes 1 16 ++ leBytes 1 0 ++ leBytes 2 1400 ++ leBytes 2 d.devNo ++
          padTo 16 (d.domOf 0x1000 1) ++ padTo 4 (d.domOf 0x1000 2)
        d.respond l { respOf h 1 stOK 0 body with session := k.1 }

/-- R440: a response that returns to the device that forwarded its request goes to the client, and into its cache. -/
def returned (d : Device) (r : DapResp) : Device :=
  let hit (e : Nat × Nat × Nat × Nat × Nat) : Bool := e.1 == r.session && e.2.1 == r.seq
  if d.mgmt.fwd.any hit then
    let d := { d with mgmt := { d.mgmt with fwd := d.mgmt.fwd.filter (fun e => !hit e) } }
    match d.session r.session with
    | some x => (d.respond x.link r).keep x.sid r
    | none => d
  else d

/-- A frame that arrives as bytes: from a peer, or on its way to another device. -/
def frameBytes (d : Device) (link : DapLink) (b : List Byte) : Device :=
  let h := parseDapHdr link b
  let op := fieldB b 1 1
  if !d.serverUp || !d.linkOpen link then d
  else if b.length < 16 then d.malformed h op (decide (12 ≤ b.length))
  else if 128 ≤ op then
    d.returned { op := op % 128, fstatus := fieldB b 3 1, seq := h.seq.toNat, session := h.session.toNat,
                 target := h.target.toNat, count := h.count.toNat, body := b.drop 16 }
  else match parseReq op h.count.toNat (b.drop 16) with
    | none => d.malformed h op true
    | some req => d.dapFrame h req

end Device

/-! ### Commands -/

/-- R436. -/
def execHello (h : DapHdr) (gens role : Byte) (name : List Byte) (s : State) : Out :=
  s.run (fun d => d.doHello h gens.toNat role.toNat name)

/-- R432. -/
def execRead (h : DapHdr) (items : List ObjAddr) (s : State) : Out := s.run (fun d => d.dapFrame h (.read items))
/-- R434. -/
def execWrite (h : DapHdr) (items : List WriteItem) (s : State) : Out := s.run (fun d => d.dapFrame h (.write items))
/-- R435. -/
def execDread (h : DapHdr) (a : ObjAddr) (off len : BitVec 32) (s : State) : Out :=
  s.run (fun d => d.dapFrame h (.dread a off.toNat len.toNat))
/-- R435. -/
def execDwrite (h : DapHdr) (a : ObjAddr) (begin_ end_ : Bool) (off total : BitVec 32) (data : List Byte) (s : State) : Out :=
  s.run (fun d => d.dapFrame h (.dwrite a begin_ end_ off.toNat total.toNat data))
/-- R437. -/
def execClaim (h : DapHdr) (role : Byte) (force : Bool) (s : State) : Out := s.run (fun d => d.dapFrame h (.claim role.toNat force))
/-- R439. -/
def execSubscribe (h : DapHdr) (minsev : Byte) (classmask : BitVec 16) (s : State) : Out :=
  s.run (fun d => d.dapFrame h (.subscribe minsev.toNat classmask.toNat))
/-- R438. -/
def execKeepalive (h : DapHdr) (s : State) : Out := s.run (fun d => d.dapFrame h .keepalive)
/-- R431. -/
def execBye (h : DapHdr) (s : State) : Out := s.run (fun d => d.dapFrame h .bye)

/-- R433: a frame that is no request of R431. -/
def execMalformedFrame (h : DapHdr) (op : Byte) (readable : Bool) (s : State) : Out :=
  s.run (fun d => if d.serverUp && d.linkOpen h.link then d.malformed h op.toNat readable else d)

/-- R429: the PSK of the offered identity decides; a connection number in use is taken over by the new connection. After 16
failures from an address within 60 s the port ignores it for 60 s. -/
def handshake (d : Device) (port src conn : Nat) (ident key : List Byte) : Device :=
  let now := d.time.nowNs
  let who := 2 * src + port
  if !d.serverUp || d.mgmt.ignored.any (fun e => e.1 == who && decide (now < e.2)) then d
  else match d.creds.find? (fun e => Device.credIdent e == ident && e.drop 36 == key) with
    | some e =>
      let d := (d.mgmt.sessions.filter (fun s => s.link == .dtls conn)).foldl (fun d s => d.closeSession s.sid) d
      { d with mgmt := { d.mgmt with
        conns := d.mgmt.conns.filter (fun c => c.1 != conn) ++ [(conn, src % 2 ^ 64, fieldB e 0 1, ident)] } }
    | none =>
      let d := d.raise 0x7040 0 0 0 (src % 2 ^ 64)
      let fails := d.mgmt.fails.filter (fun e => decide (now < e.2 + 60000000000)) ++ [(who, now)]
      if 16 ≤ (fails.filter (fun e => e.1 == who)).length then
        { d with mgmt := { d.mgmt with
          fails := fails.filter (fun e => e.1 != who),
          ignored := d.mgmt.ignored.filter (fun e => e.1 != who) ++ [(who, now + 60000000000)] } }
      else { d with mgmt := { d.mgmt with fails := fails } }

/-- R429, R441: a handshake reaches the dictionary server at its own MAC address, or a group address, and UDP port 50210. -/
def execDtlsHandshake (port : Fin 2) (mac : BitVec 48) (udp : BitVec 16) (src : BitVec 128) (conn : Nat) (ident key : List Byte)
    (s : State) : Out :=
  s.run (fun d =>
    if d.steeredTo port.val mac.toNat false && udp.toNat == dapUdpPort then handshake d port.val src.toNat conn ident key else d)

/-- R438. -/
def sessionEnds (d : Device) (sid : Nat) : Device :=
  match d.session sid with
  | none => d
  | some x =>
    if d.time.nowNs < x.lastNs + d.num 0x1001 8 * 1000000000 then d
    else
      let held := d.lease = sid
      let d := d.closeSession sid
      if held then d.raise 0x7042 0 0 sid else d

def execSessionTimeout (sid : BitVec 32) (s : State) : Out := s.run (fun d => sessionEnds d sid.toNat)

/-- R434: 200 ms. -/
def execHeldFrameTimeout (sid seq : BitVec 32) (s : State) : Out :=
  s.run (fun d => d.modSession sid.toNat (fun x => { x with
    heldF := x.heldF.filter (fun f => !(f.hdr.seq == seq && decide (f.ns + 200000000 ≤ d.time.nowNs))) }))

/-- R439: a record that a subscription selects. -/
def selects (b : Subscr) (r : EvRec) : Bool :=
  r.seq != 0 && decide (b.minsev ≤ r.sev) && bitOf b.mask (r.code / 4096)

/-- R439: the records that wait for a session, those still in the log, oldest first. -/
def waiting (d : Device) (b : Subscr) : List EvRec :=
  let next := d.num 0x1E00 2
  let first := max b.recSeq (next - 4096)
  ((List.range (next - first)).map (fun i => Map.get {} d.evt.log ((first + i) % 4096))).filter (selects b)

/-- R439: an EVENT frame of at most 28 records, at most 100 frames per second and session; its records are read. -/
def eventFrame (d : Device) (sid : Nat) : Device :=
  match d.session sid with
  | none => d
  | some x => match x.sub with
    | none => d
    | some b =>
      let sec := d.time.nowNs / 1000000000
      let sent := if b.secStart = sec then b.sent else 0
      let l := waiting d b
      if l = [] ∨ 100 ≤ sent then d
      else
        let t := l.take 28
        let last := ((t.getLast?).map (·.seq)).getD 0
        let b := { b with frameSeq := b.frameSeq + 1, recSeq := last + 1, secStart := sec, sent := sent + 1 }
        let d := d.setSession { x with sub := some b }
        let d := t.foldl (fun d r => { d with evt := { d.evt with
          log := Map.upd {} d.evt.log (r.seq % 4096) (fun e => { e with read := true }) } }) d
        d.send (.eventFrame sid (b.frameSeq - 1) (decide (28 < l.length)) t)

def execEventFrameSend (sid : BitVec 32) (s : State) : Out := s.run (fun d => eventFrame d sid.toNat)

/-- R440: a frame of a client for another device; one for this device is run here. -/
def execDapForward (h : DapHdr) (f : List Byte) (s : State) : Out :=
  s.run (fun d =>
    if d.mine h then d.frameBytes h.link f
    else d.dapFrame h (.forward f))

/-- R440: the number that no fragment bears: the rest of a discarded frame is passed over. -/
def deadFrag : Nat := 256

/-- R440: a fragment joins the frame of its source; a gap discards the frame, counted once. -/
def fragment (d : Device) (src n : Nat) (first last : Bool) (ceiling : BitVec 3) (body : List Byte) : Device :=
  let old := d.mgmt.frags.find? (fun f => f.src == src)
  let rest := d.mgmt.frags.filter (fun f => f.src != src)
  let put (d : Device) (f : List FragBuf) : Device := { d with mgmt := { d.mgmt with frags := rest ++ f } }
  let done (d : Device) (b : List Byte) : Device := d.frameBytes (.peer (BitVec.ofNat 12 src) ceiling) b
  let dead : FragBuf := { src := src, next := deadFrag, ceiling := 0, data := [], ns := d.time.nowNs }
  let gap (d : Device) : Device := (put d (if last then [] else [dead])).addNum 0x1002 5 0 1
  if first && n == 0 then
    let d := match old with
      | some f => if f.next = deadFrag then d else d.addNum 0x1002 5 0 1
      | none => d
    if last then done (put d []) body
    else put d [{ src := src, next := 1, ceiling := ceiling.toNat, data := body, ns := d.time.nowNs }]
  else match old with
    | none => gap d
    | some f =>
      if f.next = deadFrag then (if last then put d [] else d)
      else if first || n != f.next || f.ceiling != ceiling.toNat then gap d
      else if last then done (put d []) (f.data ++ body)
      else put d [{ f with next := n + 1, data := f.data ++ body }]

def execDapFragmentReceive (p : Port) (target src : BitVec 12) (n : Byte) (first last : Bool) (ceiling : BitVec 3)
    (body : List Byte) (s : State) : Out :=
  s.run (fun d =>
    if d.num 0x70B0 1 (p.val + 1) = 2 ∧ target.toNat = d.devNo ∧ d.serverUp ∧ n.toNat < 140 then
      fragment d src.toNat n.toNat first last ceiling body
    else d)

/-- R440: 100 ms without the last fragment. -/
def execFragmentTimeout (src : BitVec 12) (s : State) : Out :=
  s.run (fun d =>
    let late (f : FragBuf) : Bool := f.src == src.toNat && decide (f.ns + 100000000 ≤ d.time.nowNs)
    match d.mgmt.frags.find? late with
    | none => d
    | some f =>
      let d := { d with mgmt := { d.mgmt with frags := d.mgmt.frags.filter (fun g => !late g) } }
      if f.next = deadFrag then d else d.addNum 0x1002 5 0 1)

/-- R440: 100 ms without the response. -/
def execForwardResponseTimeout (sid seq : BitVec 32) (s : State) : Out :=
  s.run (fun d =>
    let late (e : Nat × Nat × Nat × Nat × Nat) : Bool :=
      e.1 == sid.toNat && e.2.1 == seq.toNat && decide (e.2.2.2.2 + 100000000 ≤ d.time.nowNs)
    match d.mgmt.fwd.find? late with
    | none => d
    | some e =>
      let d := { d with mgmt := { d.mgmt with fwd := d.mgmt.fwd.filter (fun f => !late f) } }
      match d.session sid.toNat with
      | none => d
      | some x => d.respond x.link
          { op := e.2.2.1, fstatus := stUnreachable, seq := seq.toNat, session := sid.toNat, target := e.2.2.2.1, count := 0,
            body := [] })

end Sys2Proof.Machine
end

