-- ==== Sys2Proof/Machine/Island.lean ====
section
/-! DEFINITION. The metrology island (chapter 18): measurement, pulses, work frames, records, seal and keys; the work-counter
collector and what hub firmware does with the record link. -/

namespace Sys2Proof.Machine

namespace Device

/-- A change of a running island. -/
def onIsland (d : Device) (f : IslS → IslS) : Device := if d.isl.on then { d with isl := f d.isl } else d

end Device

/-! ### Measurement (R525 to R527) -/

/-- 1 µWh, in units of J × 2^-40 / 2500. -/
def uWh : Int := 9 * 2 ^ 40

/-- 120 A, 90 A and 60 mA summed over the 4,096 samples of a second, in 2^-14 A. -/
def clipCurrent : Int := 120 * 2 ^ 14
def overCurrent : Int := 90 * 2 ^ 14
def startCurrent : Int := 60 * 2 ^ 26 / 1000

/-- A sum of 4,096 samples of 2^-14 as a mean in units of 1/`k`, not below 0. -/
def meanOf (sum : Int) (k : Int) : Nat := (sum * k / 2 ^ 26).toNat

/-- R526, R533: the end of a second: its means, its energy, the crossings it brings. A second whose mean current is below 60 mA
adds nothing. -/
def secondEnd (i : IslS) : IslS :=
  let acc := if (i.iSum.natAbs : Int) < startCurrent then i.acc else i.acc + 2500 * i.pSum
  let whole := (acc / uWh).toNat
  let e := i.fig.energy + whole
  let pulses := e / 100000 - i.fig.energy / 100000
  let cv := meanOf i.vSum 100
  let w := (i.pSum / 2 ^ 40).toNat
  { i with
    acc := acc - whole * uWh, fig := { i.fig with energy := e },
    meanV := meanOf i.vSum 1000, meanI := meanOf i.iSum 1000, meanP := w,
    vMin := if i.secs = 0 then cv else min i.vMin cv, vMax := max i.vMax cv, pMax := max i.pMax w, secs := i.secs + 1,
    vrange := i.vrange || decide (i.vSum < 40 * 2 ^ 26) || decide (60 * 2 ^ 26 < i.vSum),
    vSum := 0, iSum := 0, pSum := 0,
    pulseQ := min 255 (i.pulseQ + pulses), pulseOver := i.pulseOver || decide (255 < i.pulseQ + pulses) }

/-- R525: a sample pair, in 2^-14 V and 2^-14 A; beyond 120 A it is clipped (R526). -/
def sample (i : IslS) (v a : Int) : IslS :=
  let a := max (-clipCurrent) (min clipCurrent a)
  let i := { i with
    sample := i.sample + 1, vSum := i.vSum + v, iSum := i.iSum + a, pSum := i.pSum + v * a,
    exceeds := i.exceeds || decide (overCurrent < (a.natAbs : Int)) }
  if i.sample % 4096 = 0 then secondEnd i else i

/-- R528: a queued pulse starts 20 ms (82 samples) after the end of the last one; without a key the output stays high (R538). -/
def startPulse (d : Device) : Device :=
  let i := d.isl
  if i.on && !i.noKey && !i.pulseLow && decide (0 < i.pulseQ) && (i.pulseEnd == 0 || decide (i.pulseEnd + 81 ≤ i.sample)) then
    ({ d with isl := { i with pulseQ := i.pulseQ - 1, pulseLow := true } }).send .pulse
  else d

def execAdcSample (v i : Int) (s : State) : Out :=
  s.run (fun d => startPulse (d.onIsland (fun x => sample x v i)))

/-- R528. -/
def execPulseEnd (s : State) : Out :=
  s.run (fun d => d.onIsland (fun i => if i.pulseLow then { i with pulseLow := false, pulseEnd := i.sample + 1 } else i))

/-- R527: 0.2 % of an ADC, 1 % of the clock. -/
def execIslandSelfCheck (adcDevPpm clkDevPpm : Nat) (s : State) : Out :=
  s.run (fun d => d.onIsland (fun i => { i with selfTest := decide (2000 < adcDevPpm) || decide (10000 < clkDevPpm) }))

/-! ### Records (R532, R533) -/

/-- R533: FLAGS: SELFTEST, OVERRANGE, PULSEQ, NOWORK, VRANGE, GAP. -/
def islFlags (i : IslS) : Nat :=
  b2n i.selfTest + 2 * b2n i.exceeds + 4 * b2n i.pulseOver + 8 * b2n i.noWork + 16 * b2n i.vrange + 32 * b2n i.lost

/-- R533: an interval figure; in an interval without a whole second the manual leaves it open. -/
def interval (i : IslS) (field w v : Nat) : List Byte :=
  leBytes w (if i.secs = 0 then (Config.emptyInterval field (i.rseq + 1)).toNat else v)

/-- The body with its CRC. -/
def closeBody (b : List Byte) : List Byte := b ++ leBytes 4 (crc32c b)

/-- R533: the body of a record, its last 4 bytes the CRC. -/
def recordBody (i : IslS) (kind flags rseq delta : Nat) (mid prev : List Byte) : List Byte :=
  let f := i.fig.frame.getD (List.replicate 96 0)
  closeBody (leBytes 4 0x4D525A41 ++ leBytes 1 1 ++ leBytes 1 kind ++ leBytes 2 flags ++ leBytes 4 rseq ++ leBytes 4 i.boots ++
    leBytes 8 (i.sample / 4096) ++ leBytes 8 i.fig.energy ++ leBytes 8 delta ++
    (List.range 5).flatMap (fun m => leBytes 8 (Map.get 0 i.fig.work m)) ++ leBytes 8 (fieldB f 0xC 8 % 2 ^ 48) ++
    leBytes 4 i.fig.clean ++ leBytes 4 i.fig.tainted ++ sliceB f 0x18 16 ++ sliceB f 4 4 ++ leBytes 4 i.fig.linkGap ++
    mid ++ leBytes 4 i.sealN ++ leBytes 4 i.calid ++ (List.range 32).map Config.islandRomDigest ++ prev ++
    List.replicate 52 0)

/-- R532, R533: a record of these KIND bits and those that wait. In the island second of a record not yet signed both are one,
with all bits set. The interval begins again; the figures are checkpointed. Without a key or an index there is no record. -/
def writeRecord (i : IslS) (kind : Nat) : IslS :=
  let kind := kind ||| i.moment
  let i := { i with moment := 0 }
  let now := i.sample / 4096
  if i.noKey || i.noSign || kind = 0 then i
  else
    let done (i : IslS) (b : List Byte) (l : List (Nat × List Byte)) : IslS :=
      { i with prev := some (shake256 b 32), prevEnergy := i.fig.energy, ck := i.fig, unsigned := l ++ [(now, b)],
               secs := 0, vMin := 0, vMax := 0, pMax := 0, exceeds := false, vrange := false, pulseOver := false, noWork := false,
               lost := false }
    match i.unsigned.getLast? with
    | some (t, b) =>
      if t = now then
        done i (recordBody i (kind ||| fieldB b 5 1) (islFlags i ||| fieldB b 6 2) i.rseq (fieldB b 0x20 8) (sliceB b 0x78 8)
          (sliceB b 0xA8 32)) i.unsigned.dropLast
      else fresh i kind done
    | none => fresh i kind done
where
  /-- A record of its own. -/
  fresh (i : IslS) (kind : Nat) (done : IslS → List Byte → List (Nat × List Byte) → IslS) : IslS :=
    let prev := i.prev.getD ((List.range 32).map Config.firstPrev)
    let mid := interval i 0 2 i.vMin ++ interval i 1 2 i.vMax ++ interval i 2 4 i.pMax
    let b := recordBody i kind (islFlags i) (i.rseq + 1) (i.fig.energy - i.prevEnergy) mid prev
    done { i with rseq := i.rseq + 1 } b i.unsigned

/-- R532: HOUR at each 3,600 s since the reset; else the record of the moments that wait. -/
def execRecordMoment (hour : Bool) (s : State) : Out :=
  s.run (fun d => d.onIsland (fun i =>
    let t := i.sample / 4096
    if hour ∧ i.hourAt < t ∧ t % 3600 = 0 then writeRecord { i with hourAt := t } 2 else writeRecord i 0))

/-- R534, R539: the oldest record not yet signed is signed and sent three times. An index block of 256 is reserved first where
the last one is used up; where that write fails the island stops signing. -/
def signRecord (d : Device) (flashOk : Bool) : Device :=
  let i := d.isl
  match i.unsigned with
  | [] => d
  | (_, b) :: rest =>
    if !i.on || i.noKey || i.noSign then d
    else if i.resv ≤ i.idx && (!flashOk || decide (2 ^ 40 ≤ i.idx)) then { d with isl := { i with noSign := true } }
    else
      let resv := if i.resv ≤ i.idx then min (i.idx + 256) (2 ^ 40) else i.resv
      let r := b ++ (leBytes 5 i.idx).reverse ++ (List.range 5600).map (fun k => Config.islandSignature i.idx b k)
      let old := if 64 ≤ i.records.length then i.records.drop 1 else i.records
      ({ d with isl := { i with resv := resv, idx := i.idx + 1, unsigned := rest, records := old ++ [r] } }).send
        (.islandRecord r 3)

def execRecordSigned (flashOk : Bool) (s : State) : Out := s.run (fun d => signRecord d flashOk)

/-- R534: the last 64 records in rotation while no new record is due. -/
def execRecordRotationSend (s : State) : Out :=
  s.run (fun d =>
    let i := d.isl
    let n := i.records.length
    if !i.on || n = 0 || !i.unsigned.isEmpty then d
    else ({ d with isl := { i with rot := (i.rot + 1) % n } }).send (.islandRecord (i.records.getD (i.rot % n) []) 1))

/-- R534: the status frame; without a key or an index it shows SELFTEST (R538, R539). Its layout is the model's (log entry 28). -/
def statusOf (i : IslS) : List Byte :=
  let flags := if i.noKey then 1 else islFlags i ||| b2n i.noSign
  let b := leBytes 8 i.fig.energy ++ leBytes 4 i.meanV ++ leBytes 4 i.meanI ++ leBytes 4 i.meanP ++ leBytes 4 flags ++
    leBytes 4 i.sealN ++ leBytes 4 i.calid ++ leBytes 4 i.boots ++ List.replicate 24 0
  closeBody b

def execStatusFrameSend (s : State) : Out :=
  s.run (fun d => if d.isl.on then d.send (.statusFrame (statusOf d.isl)) else d)

/-- R533. -/
def execIslandCheckpoint (s : State) : Out := s.run (fun d => d.onIsland (fun i => { i with ck := i.fig }))

/-! ### Reset, supply and seal (R524, R532, R536, R538, R539) -/

/-- R532, R538, R539: what the island flash holds stays; the key needs one good read of three; NEXT is the reservation's end. -/
def islandReset (i : IslS) (puf : List Bool) (calEn : Bool) : IslS :=
  let j : IslS :=
    { ck := i.ck, rseq := i.rseq, boots := i.boots + 1, sealN := i.sealN, calid := i.calid, resv := i.resv, prev := i.prev,
      prevEnergy := i.prevEnergy, records := i.records, cal := i.cal, lastStepRec := i.lastStepRec, lost := i.lost,
      on := true, calEn := calEn, noKey := !(puf.take 3).contains true, fig := i.ck, idx := i.resv }
  writeRecord j 8

def execIslandReset (pufReads : List Bool) (calEn : Bool) (s : State) : Out :=
  s.run (fun d => { d with isl := islandReset d.isl pufReads calEn })

/-- R524: energy drawn while the island is off is not measured. -/
def execIslandSupplyLoss (s : State) : Out :=
  s.run (fun d => d.onIsland (fun i => { i with on := false, lost := true, pulseLow := false }))

/-- R536: SEAL rises and its record is written before the access; a committed write adds 1 to CALID. -/
def execCalibrationSession (flashOk : Bool) (write : Option (List Byte)) (s : State) : Out :=
  s.run (fun d => d.onIsland (fun i =>
    if !i.calEn || !flashOk then i
    else
      let i := writeRecord { i with sealN := i.sealN + 1 } 4
      match write with
      | some b => { i with cal := b, calid := i.calid + 1 }
      | none => i))

/-! ### Work (R530, R531) -/

/-- R530: the collector's next frame; EPOCH is drawn with the first one of a Thaw. -/
def sendWork (d : Device) : Device :=
  if !d.thaw.began then d
  else
    let k := match d.work.epoch with
      | some e => (e, d)
      | none => let f := d.drawFree; ((Config.epoch f.1).setWidth 32, f.2)
    let d := { k.2 with work := { k.2.work with epoch := some k.1, seq := (k.2.work.seq + 1) % 2 ^ 32 } }
    d.send (.workFrame (closeBody (leBytes 4 0x574D5A41 ++ leBytes 4 k.1.toNat ++ leBytes 4 k.2.work.seq ++ leBytes 8 d.cad.step ++
      leBytes 4 d.stamp.toNat ++ padTo 16 (d.domOf 0x1300 6) ++
      (List.range 5).flatMap (fun m => leBytes 8 (Map.get 0 d.work.products m)) ++ leBytes 4 d.work.clean ++
      leBytes 4 d.work.tainted ++ leBytes 4 0)))

def execWorkFrameSend (s : State) : Out := s.run sendWork

/-- R531: a frame whose length, MAGIC and CRC are right. -/
def workGood (f : List Byte) : Bool := f.length == 96 && fieldB f 0 4 == 0x574D5A41 && crcTail f 96

/-- R531: totals of one EPOCH add their differences, those of a new one count from zero; SEQ values left out are counted. -/
def takeWork (g : IslFig) (f : List Byte) : IslFig :=
  let old := match g.frame with
    | some o => if fieldB o 4 4 = fieldB f 4 4 then some o else none
    | none => none
  let diff (off w : Nat) : Nat := match old with
    | some o => (fieldB f off w + 2 ^ (8 * w) - fieldB o off w) % 2 ^ (8 * w)
    | none => fieldB f off w
  let skipped := match old with
    | some o => (fieldB f 8 4 + 2 ^ 32 - fieldB o 8 4 - 1) % 2 ^ 32
    | none => fieldB f 8 4
  { g with
    work := forN 5 g.work (fun m i => Map.set 0 m i ((Map.get 0 m i + diff (0x28 + 8 * i) 8) % 2 ^ 64)),
    clean := (g.clean + diff 0x50 4) % 2 ^ 32, tainted := (g.tainted + diff 0x54 4) % 2 ^ 32,
    linkGap := (g.linkGap + skipped) % 2 ^ 32, frame := some f }

/-- R531, R532: a work frame at the island; a STEP that is a multiple of 1,024 and new is a moment. -/
def receiveWork (i : IslS) (f : List Byte) : IslS :=
  if !workGood f then { i with badFrames := i.badFrames + 1 }
  else
    let i := { i with fig := takeWork i.fig f, workAt := i.sample }
    let step := fieldB f 0xC 8 % 2 ^ 48
    if step % 1024 = 0 ∧ i.lastStepRec ≠ some step
    then { i with moment := i.moment ||| 1, lastStepRec := some step } else i

def execWorkFrameReceive (frame : List Byte) (s : State) : Out := s.run (fun d => d.onIsland (fun i => receiveWork i frame))

/-- R531: no valid frame for 2 s, which are 8,192 samples. -/
def execNoworkTimeout (s : State) : Out :=
  s.run (fun d => d.onIsland (fun i => if i.workAt + 8192 ≤ i.sample then { i with noWork := true } else i))

/-! ### Hub firmware at the record link (R535, R540, R541) -/

/-- R535: something valid arrived: 2 s of silence count from now. -/
def heardIsland (d : Device) : Device := { d with met := { d.met with silentNs := d.time.nowNs + 2000000000 } }

/-- Hub firmware runs (R447, R457). -/
def hubRuns (d : Device) : Bool := d.thaw.began && decide (3 ≤ d.num 0x1D04 2) && !d.thaw.romRecovery

/-- R535: a new record that passes goes to its slot; repeats are ignored. -/
def storeRecord (d : Device) (r : List Byte) (sigOk : Bool) : Device :=
  let rseq := fieldB r 8 4
  let flags := fieldB r 6 2
  let sealN := fieldB r 0x80 4
  let a1 := flags + sealN * 2 ^ 16
  let slot := Map.get [] d.met.records (rseq % 1024)
  if !hubRuns d || r.length ≠ 5861 || fieldB r 0 4 ≠ 0x4D525A41 || !crcTail (r.take 256) 256 then d
  else if !sigOk then d.raise 0x9002 0 0 rseq a1
  else
    let d := heardIsland d
    let d := { d with met := { d.met with recNs := d.time.nowNs } }
    if slot ≠ [] ∧ rseq ≤ fieldB slot 8 4 then d
    else
      let d := { d with met := { d.met with
        records := Map.set [] d.met.records (rseq % 1024) (padTo 6144 r) } }
      let newest := d.num 0x8002 2 < rseq
      let rose := match d.met.lastSeal with
        | some n => newest && decide (n < sealN)
        | none => false
      let d := if newest then { d.setNum 0x8002 2 0 rseq with met := { d.met with lastSeal := some sealN } } else d
      let d := d.addNum 0x8002 3 0 1
      let d := if rose then d.raise 0x9004 0 0 rseq a1 else d
      let d := if flags &&& 0x1E ≠ 0 then d.raise 0x9005 0 0 rseq a1 else d
      if bitOf (fieldB r 5 1) 3 then d.raise 0x9006 0 0 rseq a1 else d

def execHubRecordReceive (rec_ : List Byte) (sigOk : Bool) (s : State) : Out := s.run (fun d => storeRecord d rec_ sigOk)

/-- R535: 2 s of silence, then every further 60 s. -/
def execRecordLinkSilent (s : State) : Out :=
  s.run (fun d =>
    if hubRuns d ∧ d.met.silentNs ≤ d.time.nowNs then
      ({ d with met := { d.met with silentNs := d.time.nowNs + 60000000000 } }).raise 0x9001 0 0 (d.num 0x8002 2)
    else d)

/-- R538 to R540: the live values; SELFTEST without a record for 2 s shows that the island does not sign. -/
def execStatusFrameReceive (frame : List Byte) (s : State) : Out :=
  s.run (fun d =>
    if !hubRuns d || frame.length ≠ 64 || !crcTail frame 64 then d
    else
      let f (off w : Nat) : Nat := fieldB frame off w
      let d := heardIsland d
      let d := (((d.setNum 0x8001 1 0 (f 0 8)).setNum 0x8001 2 0 (f 0x10 4)).setNum 0x8001 3 0 (f 8 4)).setNum 0x8001 4 0 (f 0xC 4)
      let d := (((d.setNum 0x8001 5 0 (f 0x14 4 % 65536)).setNum 0x8001 6 0 (f 0x18 4)).setNum 0x8001 7 0 (f 0x1C 4)).setNum
        0x8001 8 0 (f 0x20 4)
      if !bitOf (f 0x14 4) 0 then { d with met := { d.met with selfTest := false } }
      else if d.met.selfTest || decide (d.time.nowNs < d.met.recNs + 2000000000) then d
      else ({ d with met := { d.met with selfTest := true } }).raise 0x9003 0 0 (d.num 0x8002 2)
        (f 0x14 4 % 65536 + f 0x18 4 * 2 ^ 16))

end Sys2Proof.Machine
end

