-- ==== Sys2Proof/Machine/Link.lean ====
section
/-! DEFINITION. Flisol links (chapter 13): training, codewords and replay, credits, packets and their answers, detours, the
control channel and the down-set. -/

namespace Sys2Proof.Machine

/-! ### Training (R396 to R398) -/

/-- The greatest binary32 values at most 10^-6 and at most 10^-5. -/
def berGate : Nat := 0x358637BD
def berLimit : Nat := 0x3727C5AC

namespace Device

/-- The port trains, for the first time or at run time. -/
def portTrains (d : Device) (p : Nat) : Bool :=
  (d.num 0x70B0 1 (p + 1) == 1 || d.num 0x70B0 1 (p + 1) == 3) && (d.port p).step != 0

/-- R397, R408: the IDENT message of a port. -/
def identBody (d : Device) (p : Nat) : Nat :=
  d.position + d.shape * 2 ^ 12 + portRail p * 2 ^ 24 + p * 2 ^ 25 + 2 ^ 29

/-- The next step begins: IDENT and LAT messages leave with steps 4 and 5. -/
def trainNext (d : Device) (p : Nat) : Device :=
  let n := (d.port p).step + 1
  let now := d.time.nowNs
  let d := d.modPort p (fun x => { x with step := n, stepNs := now })
  if n = 4 then d.send (.control p 0x0A (BitVec.ofNat 128 (d.identBody p)))
  else if n = 5 then d.send (.control p 9 (BitVec.ofNat 128 (1000 * d.time.nowNs)))
  else d

/-- R396 step 6: the milliseconds over which the gate measures: 1 s at the Thaw, FL_RT_GATE_MS in a run-time retrain. -/
def gateNeed (d : Device) (p : Nat) : Nat := if d.num 0x70B0 1 (p + 1) = 3 then d.force 0x1700 5 else 1000

/-- R396: the limit of the step in progress, in ns; step 6 is as long as it measures. -/
def stepLimitNs (d : Device) (p : Nat) : Nat :=
  match (d.port p).step with
  | 1 => 10000000
  | 2 => if d.num 0x70B0 1 (p + 1) = 3 then 50000000 else 200000000
  | 6 => 1000000 * d.gateNeed p
  | _ => 1000000

/-- R396: the training step in progress has run out of time. -/
def trainLate (d : Device) (p : Nat) : Bool :=
  d.portTrains p && decide ((d.port p).stepNs + d.stepLimitNs p ≤ d.time.nowNs)

/-- R396: a training step has done its work. Step 2 agrees on the precoder, lane by lane (R387), and keeps its coefficients; steps 4
and 5 end by what IDENT and LAT brought; step 6 goes on until it has measured long enough. -/
def trainStep (d : Device) (p : Nat) (res : TrainRes) : Device :=
  let x := d.port p
  if !d.portTrains p then d
  else if !res.ok then d.trainFail p
  else if x.step = 4 then (if x.identOk then d.trainNext p else d)
  else if x.step = 5 then
    (match x.latPs with
      | some l =>
        if x.latN < 64 then d
        else if 300000 < l then d.trainMiswired p
        else (d.setNum 0x70B0 3 (p + 1) (l / 2000)).trainNext p
      | none => d)
  else if x.step = 6 then
    if res.gateMs < d.gateNeed p then d else
    let d := (d.setNum 0x70B0 4 (p + 1) res.ber.toNat).addNum 0x70B0 5 (p + 1) res.uncorr
    if res.ber.toNat ≤ berGate ∧ res.uncorr = 0 then d.trainUp p else d.trainFail p
  else if x.step = 2 then (d.modPort p (fun x => { x with
    precoded := res.precodeHere &&& res.precodeThere, coeffs := res.coeffs })).trainNext p
  else d.trainNext p

/-- R397: the five checks of IDENT. -/
def identRight (d : Device) (p pos shape rail port gen : Nat) : Bool :=
  gen == 1 && shape == d.shape && rail == portRail p && port == portOpp p &&
  pos == neighbour d.shape d.position (portDim p) (portPlus p)

end Device

def execPortTrainingStepDone (p : Port) (res : TrainRes) (s : State) : Out := s.run (fun d => d.trainStep p.val res)

/-- R396: a step that runs out of time fails the attempt. -/
def execPortTrainingTimeout (p : Port) (s : State) : Out :=
  s.run (fun d => if d.trainLate p.val then d.trainFail p.val else d)

/-- R397. -/
def execIdent (p : Port) (pos shape : BitVec 12) (rail : Fin 2) (port : BitVec 4) (gen : BitVec 3) (s : State) : Out :=
  s.run (fun d =>
    if d.portTrains p.val ∧ (d.port p.val).step = 4 then
      let d := d.setNum 0x70B0 2 (p.val + 1) pos.toNat
      if d.identRight p.val pos.toNat shape.toNat rail.val port.toNat gen.toNat
      then d.modPort p.val (fun x => { x with identOk := true })
      else d.trainMiswired p.val
    else d)

/-- R396 step 5: an exchange: the round trip of the port's own stamp; the sender's stamp is echoed until 64 have come. A LAT that
echoes nothing, stamp 0, begins the far end's exchange and is none of this end's (DEDUCED, log entry 88). LAT that came again after a
retrain is out of date (R398). -/
def execLat (p : Port) (stampPs echoPs nowPs : Nat) (s : State) : Out :=
  s.run (fun d =>
    let x := d.port p.val
    if d.portTrains p.val ∧ x.step = 5 ∧ x.latN < 64 ∧ ¬ x.stale then
      let rt := nowPs - echoPs
      let best := match x.latPs with
        | some l => min l rt
        | none => rt
      let d := if echoPs = 0 then d else d.modPort p.val (fun x => { x with latN := x.latN + 1, latPs := some best })
      d.send (.control p.val 9 (BitVec.ofNat 128 (nowPs % 2 ^ 64 + stampPs % 2 ^ 64 * 2 ^ 64)))
    else d)

/-- R398: a window with too many errors starts a run-time retrain. -/
def execBerWindowCheck (p : Port) (berF32 : BitVec 32) (uncorr : Nat) (s : State) : Out :=
  s.run (fun d =>
    if d.portUp p.val then
      let d := d.setNum 0x70B0 4 (p.val + 1) berF32.toNat
      if berLimit < berF32.toNat ∨ 16 ≤ uncorr then
        (d.raise 0x5002 0x70B0 (p.val + 1) p.val berF32.toNat).trainStart p.val true
      else d
    else d)

/-! ### Codewords and credits (R389, R394, R395) -/

namespace Device

/-- An ACK moves the first codeword not acknowledged, if it lies among those sent. -/
def takeAck (x : PortS) (ack : Nat) : PortS :=
  let n := (ack + 1) % 512
  if (n + 512 - x.unacked % 512) % 512 ≤ (x.txNext + 512 - x.unacked % 512) % 512 then { x with unacked := n } else x

/-- R389, R395: what a message brings is held in the receive buffers: a header slot begins a packet of its class and VC, data slots
follow it. -/
def holdSlots (x : PortS) (m : Nat) : PortS :=
  forN 5 x (fun x s =>
    let take (x : PortS) : PortS := { x with rxUsed := Map.set 0 x.rxUsed x.rxCls (Map.get 0 x.rxUsed x.rxCls + 1) }
    if msgKind m s = 1 then take { x with rxCls := packetCls (parsePacket ((msgSlot m s).take 32)) }
    else if msgKind m s = 2 then take x
    else x)

/-- R394: a data codeword is accepted in order; the first uncorrectable one, and the expected one when it is uncorrectable again,
sends the NAK. What the message holds reaches the device as commands of their own, its ACK with NAK_RECEIVE where NAK is 1. -/
def codeword (d : Device) (p seq : Nat) (replayed : Bool) (word : Option (List Nat × Nat)) : Device :=
  let x := d.port p
  match word with
  | none =>
    let d := d.addNum 0x70B0 5 (p + 1) 1
    if x.nak && seq != x.rxNext then d
    else (d.modPort p (fun x => { x with nak := true, nakDue := true })).send (.nak p ((x.rxNext + 511) % 512))
  | some w =>
    if seq = x.rxNext then
      let m := messageOf w.1
      d.modPort p (fun x =>
        let x := holdSlots { x with nak := false, rxNext := (x.rxNext + 1) % 512, stale := replayed } m
        if msgNak m then x else takeAck x (msgAck m))
    else d

/-- R387, R388: a codeword position is received: an alignment codeword, which is not counted, or a data codeword, decoded from its
lanes. -/
def receive (d : Device) (p seq : Nat) (replayed : Bool) (rx : Levels) : Device :=
  let x := d.port p
  let d := d.modPort p (fun x => { x with rxPos := (x.rxPos + 1) % 4096, levels := lastLevels rx })
  if alignPosition x.rxPos then d else d.codeword p seq replayed (rsDecode (receiveLanes x.precoded x.levels rx))

end Device

/-- `seq` is the codeword's place in the sender's sequence, which it does not carry (R389), and `replayed` says that it comes again
after a run-time retrain (R398). -/
def execCodewordReceive (p : Port) (seq : Fin 512) (replayed : Bool) (rx : Levels) (s : State) : Out :=
  s.run (fun d => if d.portUp p.val then d.receive p.val seq.val replayed rx else d)

/-- R394: the replay from ACK + 1 is counted; 0x5005 at most once per millisecond and port. -/
def execNakReceive (p : Port) (ack : BitVec 9) (s : State) : Out :=
  s.run (fun d =>
    if d.portUp p.val then
      let d := d.modPort p.val (fun x => Device.takeAck x ack.toNat)
      (d.raiseEvery 1000000 0x5005 p.val 0x70B0 (p.val + 1) p.val).replayFrom p.val ((ack.toNat + 1) % 512)
    else d)

/-- R395, R410: freed slots and freed messages become credits again, up to the buffers of the far end. -/
def execCredit (p : Port) (freed : List (BitVec 16)) (ctl : List (BitVec 8)) (s : State) : Out :=
  s.run (fun d =>
    if d.portUp p.val then
      d.modPort p.val (fun x => { x with
        cred := forN 4 x.cred (fun m i => Map.set 0 m i (min 640 (Map.get 0 m i + (freed.getD i 0).toNat))),
        ctl := forN 3 x.ctl (fun m i => Map.set 0 m i (min 64 (Map.get 0 m i + (ctl.getD i 0).toNat))) })
    else d)

/-! ### Packets at their destination (R390 to R393) -/

/-- R391, R392: a reserved TYPE, a reserved field that is not zero, or a LEN out of range. -/
def badPacket (h : PktHdr) (data : List Byte) : Bool :=
  let n := h.len.toNat
  h.rsvd ||
  (match h.typ.toNat with
    | 0 => n == 0 || decide (4096 < n)
    | 1 => n == 0 || decide (512 < n) || data.length != n
    | 2 => n != 0
    | 3 => n == 0 || decide (512 < n) || data.length != n
    | _ => true)

namespace Device

/-- R370: space for the `n` slots of a response is free: at the injection points no more than the reserved space waits. -/
def responseRoom (d : Device) (n : Nat) : Bool :=
  let waits := ((List.range 12).map (fun q =>
    (((d.port q).loc.filter (fun y => decide (2 ≤ y.1.typ.toNat))).map (fun y => packetSlots y.1)).sum)).sum
  waits == 0 || decide (waits + n ≤ Config.responseSlots)

/-- The slots of the response to a request: CPLD packets of up to 512 bytes, or one CPL. -/
def responseSlots (h : PktHdr) : Nat :=
  if h.typ.toNat = 0 then h.len.toNat / 512 * 5 + (if h.len.toNat % 512 = 0 then 0 else 1 + (h.len.toNat % 512 - 96 + 127) / 128) else 1

/-- A packet of TYPE `ty` arrives at a port that is up: discarded with 0x500B where malformed, else handled, its buffer freed
(R392). The commands of the destination take only packets that name it; a packet of another TYPE is none of theirs. A request for
whose response no space is free stays in its buffer until the command comes again (R370, log entry 88). -/
def arrives (d : Device) (p ty : Nat) (h : PktHdr) (data : List Byte) (f : Device → Device) : Device :=
  if !d.portUp p then d
  else if badPacket h data then
    (d.raise 0x500B 0x70B0 (p + 1) p (h.typ.toNat + h.len.toNat * 2 ^ 16)).freed p h
  else if h.typ.toNat ≠ ty ∨ h.dest.toNat ≠ d.position then d
  else if decide (h.typ.toNat < 2) && !d.responseRoom (responseSlots h) then d
  else (f d).freed p h

/-- The answer to a request, of its traffic class (R363), on the request's rail where FL_ROUTES has mode 0 for SRC (R401). -/
def reply (d : Device) (p : Nat) (h : PktHdr) (typ len : Nat) (err last : Bool) (addr : Nat) (data : List Byte) : Device :=
  d.inject { typ := BitVec.ofNat 8 typ, tclass := h.tclass, err := err, last := last, dest := h.src, src := BitVec.ofNat 12 d.position,
             len := BitVec.ofNat 16 len, tag := h.tag, addr := BitVec.ofNat 43 addr } data (some (portRail p))

/-- R392: the answer to an RD: CPLD packets of up to 512 bytes in address order, zeros with ERR where R31 forbids the access, ERR
where a memory's error was uncorrectable (R375, R379). -/
def answerRead (d : Device) (p : Nat) (h : PktHdr) : Device :=
  let a := h.addr.toNat
  let n := h.len.toNat
  let ok := d.peerReach a n
  let d := if ok then d else d.reachNothing 0x70B0 (p + 1) a p
  let ps := Device.pieces 8 (if ok then d.bytes a n else List.replicate n 0)
  let err := !ok || d.poorIn a n
  ps.zipIdx.foldl (fun d x =>
    d.reply p h 3 x.1.length err (x.2 + 1 == ps.length) (a + 512 * x.2) x.1) d

/-- R392: the answer to a WR: one CPL. -/
def answerWrite (d : Device) (p : Nat) (h : PktHdr) (data : List Byte) : Device :=
  let a := h.addr.toNat
  let ok := d.peerReach a data.length
  let d := if ok then d.putW a data else d.reachNothing 0x70B0 (p + 1) a p
  d.reply p h 2 0 (!ok) true a []

/-- R252: what the head entry of a mover still has to ask for. -/
def askRests (d : Device) (m : Mover) : Device :=
  match d.mq m with
  | [] => d
  | e :: es =>
    let x := e.flight.foldl (fun (acc : Device × List InFlight) fl =>
      let y := acc.1.askRest m e fl
      (y.1, acc.2 ++ [y.2])) (d, [])
    x.1.setMq m ({ e with flight := x.2 } :: es)

/-- R393: what answers a request reaches the tile that waits for it, `f` on the bytes that it has; with the last of them the TAG is
free. -/
def answerTag (d : Device) (t : Nat) (r : Req) (left : Nat) (fin err : Bool) (f : List Byte → List Byte) : Device :=
  let d := { d with link := { d.link with
    tags := Map.set none d.link.tags t (if fin then none else some { r with left := left }) } }
  let add (fl : InFlight) : InFlight :=
    if fl.await.contains t then
      { fl with payload := if r.isHdr then fl.payload else f fl.payload,
                header := if r.isHdr then f fl.header else fl.header, err := fl.err || err,
                await := if fin then fl.await.filter (· != t) else fl.await }
    else fl
  let d := d.setMq r.mover ((d.mq r.mover).map (fun e => { e with flight := e.flight.map add }))
  if fin then d.askRests r.mover else d

/-- R392: a completion brings bytes, `err` its error status. -/
def arriveBytes (d : Device) (t : Nat) (r : Req) (data : List Byte) (last err : Bool) : Device :=
  let b := data.take r.left
  d.answerTag t r (r.left - b.length) (last || r.left - b.length == 0) err (fun have_ => have_ ++ b)

/-- R393: the access completes with zeros, what has come of it discarded. -/
def failBytes (d : Device) (t : Nat) (r : Req) : Device :=
  d.answerTag t r 0 true true (fun have_ => have_.take (have_.length - (r.total - r.left)) ++ List.replicate r.total 0)

/-- R392: a write is acknowledged at the head entry of its mover, `err` its error status. -/
def writeDone (d : Device) (t : Nat) (r : Req) (err : Bool) : Device :=
  let d := { d with link := { d.link with tags := Map.set none d.link.tags t none } }
  d.modEnt r.mover 0 (fun e => { e with wr := e.wr - 1, err := e.err || err })

/-- R393: no request holds the TAG any more: discarded and counted. -/
def lateCompletion (d : Device) : Device := d.addNum 0x1702 12 0 1

end Device

def execRd (p : Port) (h : PktHdr) (hits : Hits) (s : State) : Out :=
  s.runHits hits (fun d => d.arrives p.val 0 h [] (fun d => d.answerRead p.val h))

def execWr (p : Port) (h : PktHdr) (data : List Byte) (s : State) : Out :=
  s.run (fun d => d.arrives p.val 1 h data (fun d => d.answerWrite p.val h data))

/-- R393: a completion of the other kind is no answer to its TAG's request. -/
def execCpl (p : Port) (h : PktHdr) (s : State) : Out :=
  s.run (fun d => d.arrives p.val 2 h [] (fun d =>
    match Map.get none d.link.tags h.tag.toNat with
    | some r => if r.isWrite then d.writeDone h.tag.toNat r h.err else d
    | none => d.lateCompletion))

def execCpld (p : Port) (h : PktHdr) (data : List Byte) (s : State) : Out :=
  s.run (fun d => d.arrives p.val 3 h data (fun d =>
    match Map.get none d.link.tags h.tag.toNat with
    | some r => if r.isWrite then d else d.arriveBytes h.tag.toNat r data h.last h.err
    | none => d.lateCompletion))

/-- R413: the device number at a position. -/
def devAt (d : Device) (pos : Nat) : Nat :=
  if d.mapPos pos = pos then pos else ((List.range 4096).find? (fun n => d.mapPos n == pos)).getD 0

/-- R393: FL_CPL_TIMEOUT_US has passed since the request: the access completes with zeros and error status, event 0x5009 with the destination and the global address, and taints the step. -/
def execCompletionTimeout (tag : BitVec 16) (s : State) : Out :=
  s.run (fun d => match Map.get none d.link.tags tag.toNat with
    | none => d
    | some r =>
      if d.time.nowNs < r.sent + 1000 * d.force 0x1700 4 then d else
      let u := moverUnit r.mover
      let d := if r.isWrite then d.writeDone tag.toNat r true else d.failBytes tag.toNat r
      d.raise 0x5009 u.1 u.2.1 (0xF + r.pos * 2 ^ 16) (2 ^ 55 + devAt d r.pos * 2 ^ 43 + r.addr))

/-! ### Packets on their way (R399 to R405) -/

namespace Device

/-- R399, R400: the next hop from this position: the output port and the VC; a turn into another dimension starts on VC0. -/
def nextHop (d : Device) (rail : Nat) (from_ : Option Nat) (vc : Bool) (tgt : Nat) : Option (Nat × Bool) :=
  (nextDir d.shape d.position tgt).map (fun x =>
    (portOf rail x.1 x.2, (vc && from_ == some x.1) || dateline d.shape d.position x.1 x.2))

/-- R402: the bounce buffer of a class has room for a packet. -/
def bounceRoom (d : Device) (h : PktHdr) : Bool :=
  let cls (g : PktHdr) : Bool := decide (g.typ.toNat < 2)
  let used := ((d.link.bounce.filter (fun x => cls x.1 == cls h)).map (fun x => 128 * packetSlots x.1)).sum
  decide (used + 128 * packetSlots h ≤ 65536)

/-- R399, R402: a packet at an intermediate device: into the bounce buffer at VIA, or to the next port on its rail, where it waits in
the buffer that received it until it starts (R395). One for a port that is down is lost (R398). -/
def forward (d : Device) (p : Nat) (h : PktHdr) (data : List Byte) : Device :=
  if !d.portUp p then d
  else if badPacket h data then
    (d.raise 0x500B 0x70B0 (p + 1) p (h.typ.toNat + h.len.toNat * 2 ^ 16)).freed p h
  else
    let detour := !h.leg && h.via != h.dest && portRail p == 0
    if detour && h.via.toNat == d.position then
      if d.bounceRoom h then
        ({ d with link := { d.link with bounce := d.link.bounce ++ [({ h with leg := true }, data)] } }).freed p h
      else d
    else
      match d.nextHop (portRail p) (some (portDim p)) h.vc (if detour then h.via.toNat else h.dest.toNat) with
      | none => d
      | some (o, vc) =>
        if d.takesPackets o then
          d.modPort o (fun x => { x with
            fwd := x.fwd ++ [{ hdr := { h with vc := vc }, data := data, inPort := p, cls := packetCls h }] })
        else d.freed p h

/-- R395: the credits and the replay buffer of a port allow a packet of `n` slots in class `c`. -/
def mayStart (x : PortS) (n c : Nat) : Bool := decide (n ≤ Map.get 0 x.cred c) && !windowFull x

/-- The packet is one of `n` slots in class `c`. -/
def fits (h : PktHdr) (n c : Nat) : Bool := packetSlots h == n && packetCls h == c

/-- The oldest packet of `n` slots in class `c` that waits at the injection point of a port leaves it. -/
def takeLocal (d : Device) (p n c : Nat) : Option (Device × PktHdr × List Byte) :=
  let q := (d.port p).loc
  (q.findIdx? (fun y => fits y.1 n c)).bind (fun i => (q[i]?).map (fun y =>
    (d.modPort p (fun x => { x with loc := q.eraseIdx i }), y)))

/-- The same of the packets of other devices: its input buffer is free. -/
def takeTransit (d : Device) (p n c : Nat) : Option (Device × PktHdr × List Byte) :=
  let q := (d.port p).fwd
  (q.findIdx? (fun y => fits y.hdr n c)).bind (fun i => (q[i]?).map (fun y =>
    ((d.modPort p (fun x => { x with fwd := q.eraseIdx i })).freeSlots y.inPort y.cls n, y.hdr, y.data)))

/-- R402: the same of the bounce buffers, whose packets begin their second leg on rail 1. -/
def takeBounce (d : Device) (p n c : Nat) : Option (Device × PktHdr × List Byte) :=
  let out (x : PktHdr × List Byte) : Option (PktHdr × List Byte) :=
    match d.nextHop 1 none false x.1.dest.toNat with
    | some (o, vc) => if o = p ∧ fits { x.1 with vc := vc } n c then some ({ x.1 with vc := vc }, x.2) else none
    | none => none
  (d.link.bounce.findIdx? (fun x => (out x).isSome)).bind (fun i =>
    ((d.link.bounce[i]?).bind out).map (fun x => ({ d with link := { d.link with bounce := d.link.bounce.eraseIdx i } }, x)))

/-- R404, R405: the packet that a group has ready, as its arbiter picked it, and credits allow. -/
def ready (d : Device) (p : Nat) (fwd : Bool) (r : Option (Nat × Fin 4)) : Option (Device × PktHdr × List Byte) :=
  r.bind (fun g =>
    if !mayStart (d.port p) g.1 g.2.val then none
    else if fwd then (d.takeTransit p g.1 g.2.val).or (if portRail p = 1 then d.takeBounce p g.1 g.2.val else none)
    else d.takeLocal p g.1 g.2.val)

/-- R390, R405: a packet of a group starts: credits, balance, slots. -/
def startPacket (d : Device) (p : Nat) (fwd : Bool) (h : PktHdr) (data : List Byte) : Device :=
  let n := packetSlots h
  let c := packetCls h
  let share : Int := d.force 0x1700 3
  let step : Int := if fwd then 16 - share else -share
  let d := d.modPort p (fun x => { x with
    cred := Map.set 0 x.cred c (Map.get 0 x.cred c - n),
    balance := max (-256) (min 256 (x.balance + n * step)), ctlGap := min 15 (x.ctlGap + n) })
  ((d.addNum 0x70B0 (if fwd then 8 else 9) (p + 1) n).send (.packet p h data)).pushSlots p (slotsOf h data)

/-- R405: with a packet ready in both groups FORWARDED wins while B ≤ 0. A control slot that is due goes first (R407). -/
def pickPacket (d : Device) (p : Nat) (fwd loc : Option (Nat × Fin 4)) : Device :=
  let d := d.busyBoundary p
  match d.ready p true fwd, d.ready p false loc with
  | some f, some l =>
    if (d.port p).balance ≤ 0 then f.1.startPacket p true f.2.1 f.2.2 else l.1.startPacket p false l.2.1 l.2.2
  | some f, none => f.1.startPacket p true f.2.1 f.2.2
  | none, some l => l.1.startPacket p false l.2.1 l.2.2
  | none, none => d

end Device

def execPacketForward (p : Port) (h : PktHdr) (data : List Byte) (s : State) : Out :=
  s.run (fun d => d.forward p.val h data)

def execPacketStart (p : Port) (fwd loc : Option (Nat × Fin 4)) (s : State) : Out :=
  s.run (fun d => if d.portUp p.val then d.pickPacket p.val fwd loc else d)

/-! ### The control channel (R407 to R411) -/

/-- R411: a port of a position is down, or up again; the master sends it on to every member. -/
def execDownset (pos : BitVec 12) (port : BitVec 4) (down : Bool) (s : State) : Out :=
  s.run (fun d =>
    let d := if d.isMaster then d.send (.downset pos.toNat port.toNat down) else d
    (d.markLinks [pos.toNat + 4096 * port.toNat] down).raise 0x5007 0 0 (port.toNat + pos.toNat * 2 ^ 16))

/-- R409: the path latency: the parent's, the parent link's and the fixed 60 ns of forwarding; it goes on to the children. -/
def execPathlat (p : Port) (ns : BitVec 32) (s : State) : Out :=
  s.run (fun d =>
    if d.num 0x1700 7 = p.val then
      let l := (ns.toNat + d.num 0x70B0 3 (p.val + 1) + 60) % 2 ^ 32
      (d.setNum 0x1700 8 0 l).sendPathlat l
    else d)

namespace Device

/-- R410: a message leaves by a port against a control credit of its route. -/
def sendControl (d : Device) (p route typ : Nat) (body : BitVec 128) : Device :=
  (d.modPort p (fun x => { x with ctl := Map.set 0 x.ctl route (Map.get 0 x.ctl route - 1) })).send (.control p typ body)

/-- R408: an up or a down message, and at the root the down message that an up message becomes. DONE ends at the root, and of
the VERDICT messages only a refusal and a withdrawal go down again (R345). -/
def passControl (d : Device) (p typ : Nat) (body : BitVec 128) : Device :=
  let parent := d.num 0x1700 7
  let root := d.mapPos (d.num 0x1200 3) == d.position
  let others := (List.range 12).filter (fun q => d.portUp q && q != p)
  let room (q route : Nat) : Bool := decide (0 < Map.get 0 (d.port q).ctl route)
  let down : Device :=
    if others.all (fun q => room q 2) then
      (others.foldl (fun d q => d.sendControl q 2 typ body) d).send (.creditReturn p (if root then 5 else 6) 1)
    else d
  let turns := typ == 3 || typ == 6 || typ == 8 || (typ == 4 && bitsOf body.toNat 79 64 != 0)
  if !d.portUp p || !(typ == 2 || typ == 3 || typ == 4 || typ == 6 || typ == 8) then d
  else if root then (if turns then down else d.send (.creditReturn p 5 1))
  else if parent = p then (if typ = 2 then d else down)
  else if parent = 0xFF || !d.portUp parent then d
  else if room parent 1 then (d.sendControl parent 1 typ body).send (.creditReturn p 5 1)
  else d

end Device

def execDoneMessageForward (p : Port) (typ : Byte) (body : BitVec 128) (s : State) : Out :=
  s.run (fun d => d.passControl p.val typ.toNat body)

end Sys2Proof.Machine
end

