-- ==== Sys2Proof/Machine/Memory.lean ====
section
/-! DEFINITION. Memory errors, scrubbing and background work (R14, R21, R365, R375 to R380, R492 to R496). -/

namespace Sys2Proof.Machine

/-- R21. The edge number goes into ARG0 of both events: class 0x4 names no field for an edge. DESIGN CHOICE (log entry 47); a
Thaw-time raise gives 0. -/
def execD2dLaneFail (edge : Fin 8) (spareLeft : Bool) (s : State) : Out :=
  s.run (fun d => if spareLeft then d.raise 0x4009 0 0 edge else (d.raise 0x400A 0 0 edge).loseDevice)

/-- R375, R379: a burst of a memory is uncorrectable: it reads as zeros with error status until it is written again (log entry 26). -/
def Device.loseBurst (d : Device) (a n : Nat) : Device :=
  let b := a / n * n
  let d := d.put b (List.replicate n 0)
  { d with bg := { d.bg with poor := (b, n) :: d.bg.poor.filter (fun x => x.1 != b) } }

/-- R373: the address lies in channel `ch` of stack `h`. -/
def inChannel (h : Stack) (ch : Fin 32) (a : Nat) : Bool := a / 0x1800000000 == h.val && a / 256 % 32 == ch.val

/-- R375: the bytes are those of the channel that reports; an address elsewhere is none of its own. -/
def execHbmErrorReport (h : Stack) (ch : Fin 32) (kind : EccKind) (addr : BitVec 43) (s : State) : Out :=
  s.run (fun d => match kind with
    | .corrected => d.hbmCorrected h ch addr.toNat
    | .uncorrectable =>
      let d := d.hbmUncorrectable h addr.toNat
      if inChannel h ch addr.toNat then d.loseBurst addr.toNat 128 else d
    | .lost => d.hbmLost h addr.toNat)

/-- R379. -/
def execDdrUncorrectable (addr : BitVec 43) (s : State) : Out :=
  s.run (fun d => match d.region addr.toNat with
    | .ddr _ =>
      (d.loseBurst addr.toNat 64).ddrUncorrectable (Device.ddrChan addr.toNat) addr.toNat
    | _ => d)

/-- R379: a channel that is in service. -/
def execDdrChannelLoss (c : Chan) (s : State) : Out :=
  s.run (fun d => if d.num 0x70A1 1 (c + 1) = 0 then d.loseDdr c else d)

/-- R376. -/
def execDdrCorrectedError (c : Chan) (s : State) : Out := s.run (fun d => d.ddrCorrected c 0)

/-- R365: the granules of a bank in turn; a bank of a cluster that is not on is not scrubbed. -/
def execCsScrubSlot (k : Cluster) (bank : Fin 64) (ecc : EccRead) (s : State) : Out :=
  s.run (fun d =>
    if d.pdState (pdCl k) ≠ 0 then d
    else
      let key := 1024 + 64 * k.val + bank.val
      let i := d.scrubAt key
      (d.setScrub key ((i + 1) % 8192)).storeEcc k (2048 * i + 32 * bank.val) ecc)

/-- R380, R496: one read of a channel's pass, within the quota; a scrubber whose domain is not on pauses, and one whose write-back
waits makes that its next request. -/
def execHbmScrubRead (h : Stack) (ch : Fin 32) (ecc : EccRead) (s : State) : Out :=
  s.run (fun d =>
    let key := hbmChan h ch
    let i := d.scrubAt key
    if d.pdState (pdH h) ≠ 0 || Device.hbmReads ≤ i || (Map.get none d.bg.writeBack key).isSome then d
    else
      let r := d.bgTake key 1 4 1
      if !r.2 then r.1
      else
        let a := Device.hbmScrubAddr h ch i
        let d := r.1.setScrub key (i + 1)
        match ecc with
        | .clean => d
        | .corrected => (d.hbmCorrected h ch a).setWriteBack key (some (a, d.bytes a 128))
        | .uncorrectable => d.hbmUncorrectable h a)

def execDdrScrubRead (c : Chan) (ecc : EccRead) (s : State) : Out :=
  s.run (fun d =>
    let key := ddrKey c
    let i := d.scrubAt key
    if d.pdState (pdD (c / 6)) ≠ 0 || d.num 0x70A1 1 (c + 1) ≠ 0 || d.ddrReads c ≤ i ||
      (Map.get none d.bg.writeBack key).isSome then d
    else
      let r := d.bgTake key 1 5 1
      if !r.2 then r.1
      else
        let a := Device.ddrScrubAddr c i
        let d := r.1.setScrub key (i + 1)
        match ecc with
        | .clean => d
        | .corrected => (d.ddrCorrected c a).setWriteBack key (some (a, d.bytes a 64))
        | .uncorrectable => d.ddrUncorrectable c a)

/-- The channel that a scrubber serves. -/
def scrubKey : Scrubber → Nat
  | .hbm h ch => hbmChan h ch
  | .ddr c => ddrKey c

/-- R380: the write-back is the scrubber's next request, within the quota. -/
def execScrubWriteBack (x : Scrubber) (s : State) : Out :=
  s.run (fun d =>
    if (Map.get none d.bg.writeBack (scrubKey x)).isNone then d
    else
      let r := match x with
        | .hbm h ch => d.bgTake (hbmChan h ch) 1 4 1
        | .ddr c => d.bgTake (ddrKey c) 1 5 1
      if r.2 then r.1.doWriteBack (scrubKey x) else r.1)

/-- R380, R496: a pass that falls due starts, whether or not the one before has ended; not while the scrubber pauses, and none on a
DDR5 channel that is not in service. -/
def execScrubPassDue (x : Scrubber) (s : State) : Out :=
  s.run (fun d => match x with
    | .hbm h ch =>
      let key := hbmChan h ch
      if d.pdState (pdH h) ≠ 0 then d
      else
        let late := decide (d.scrubAt key < Device.hbmReads)
        (if late then d.raise 0x4012 0x70A0 (h + 1) else d).setScrub key 0
    | .ddr c =>
      let key := ddrKey c
      if d.pdState (pdD (c / 6)) ≠ 0 || d.num 0x70A1 1 (c + 1) ≠ 0 then d
      else
        let late := decide (d.scrubAt key < d.ddrReads c)
        (if late then d.raise 0x4012 0x70A1 (c + 1) else d).setScrub key 0)

def execHbmCalibration (h : Stack) (ch : Fin 32) (s : State) : Out := s.run (fun d => d.hbmCalibrate h ch)

def execZqCalibration (c : Chan) (s : State) : Out := s.run (fun d => d.zqCalibrate c)

/-- R493, R496. -/
def execTelemetrySnapshot (granted : Bool) (s : State) : Out :=
  s.run (fun d => if granted then d.snapshot else d.addNum 0x1C01 2 0 1)

/-- R495: the least- and the most-erased block, the lowest number where several are. -/
def eraseEnds (d : Device) : Nat × Nat :=
  (List.range 4096).foldl (fun m b =>
    let e (b : Nat) : Nat := Map.get 0 d.flash.erase b
    (if e b < e m.1 then b else m.1, if e m.2 < e b then b else m.2)) (0, 0)

/-- R495: the content of the least-erased block moves into the most-erased free one; its own block is erased. -/
def execWearLevelMove (s : State) : Out :=
  s.run (fun d =>
    let m := eraseEnds d
    let gap := Map.get 0 d.flash.erase m.2 - Map.get 0 d.flash.erase m.1
    let winter := d.planRuns && d.season = 3 && d.flash.movedStep ≠ d.cad.step + 1
    if 256 < gap && (d.isStopped || winter) then
      let d := if d.isStopped then d else { d with flash := { d.flash with movedStep := d.cad.step + 1 } }
      (d.eraseBlock m.1).addNum 0x1C01 5 0 1
    else d)

/-- R14. -/
def execUnitFailureDetected (u : FailedUnit) (s : State) : Out :=
  s.run (fun d => match u with
    | .engine g _ => d.failCore g
    | .coreState g => d.failCore g
    | .fixedFunction k _ => d.failCluster k
    | .monitor k => d.failCluster k)

/-- R486, R490: a falling margin starts a recalibration of the PHY, or a run-time retrain of a port that is up. -/
def execEyeMonitorReading (u : EyeUnit) (falling : Bool) (s : State) : Out :=
  s.run (fun d => if !falling then d
    else match u with
      | .hbm h ch => d.hbmCalibrate h ch
      | .lane p _ =>
        if d.num 0x70B0 1 (p + 1) = 2 then
          (d.raise 0x5002 0x70B0 (p + 1) p (d.num 0x70B0 4 (p + 1))).trainStart p true
        else d)

end Sys2Proof.Machine
end

