-- ==== Sys2Proof/Machine/Thaw.lean ====
section
/-! DEFINITION. The Thaw (R447 to R463, R470). -/

namespace Sys2Proof.Machine

/-- R550 to R552: the rising edge of RESET_N with PWRGOOD high. With the input below 40 V no Thaw starts. While RESET_N is
high already there is no edge. -/
def execResetNRise (straps : BitVec 7) (vinMv : Nat) (boot : BootFacts) (s : State) : Out :=
  s.run (fun d =>
    if d.pwr.resetn && d.pwr.pwrgood then d
    else
      let d := { d.wipe with pwr := { pwrgood := true, resetn := true, vinMv := vinMv } }
      if vinMv < 40000 then d
      else ({ d with thaw := { d.thaw with straps := straps.toNat } }).startThaw boot)

/-- R447: the step in progress completes and the next begins. Step 10 ends by START_UP_TEST_DONE, step 12 by THAW_READY
once memory is trained. -/
def execThawStepDone (boot : BootFacts) (s : State) : Out :=
  s.run (fun d =>
    if !d.thawing then d
    else match d.thawStep with
      | 3 => d.setThawStep 4
      | 4 => d.acceptRepair boot
      | 5 => d.startFabric boot
      | 7 => { d with thaw := { d.thaw with wave := 0, delayed := false, startNs := 0 } }.setThawStep 8
      | 8 => d.setThawStep 9
      | 9 => d.setThawStep 10
      | 11 => (d.numberUnits.settleSpares.recountUnits).setThawStep 12
      | 12 => d.memTrained boot
      | _ => d)

/-- R456: the units that an unfinished test leaves: clusters 0 to 99, cores from 100 on, by physical number. -/
def unfinishedUnits (l : List Nat) : List Nat × List Nat :=
  ((l.filter (fun u => decide (100 ≤ u))).map (fun u => u - 100), l.filter (fun u => decide (u < 100)))

/-- R447: a step exceeds its limit; one within it goes on. -/
def execThawStepLimit (step : Fin 13) (boot : BootFacts) (unfinished : List Nat) (s : State) : Out :=
  s.run (fun d =>
    if !d.thawing || !d.thawLate step.val then d
    else if step.val = 6 then d.memTrained boot
    else if d.thawStep ≠ step.val then d
    else match step.val with
      | 3 => d.slotFails boot
      | 4 => d.raise 0x7003 0 0 4
      | 5 => d.raise 0x400A
      | 7 => { d.holdOff false with thaw := { (d.holdOff false).thaw with wave := 0, delayed := false, startNs := 0 } }.setThawStep 8
      | 8 => (d.holdOff true).setThawStep 9
      | 9 => d.setThawStep 10
      | 10 => ((d.testFails (unfinishedUnits unfinished).1 (unfinishedUnits unfinished).2).settleEvents).setThawStep 11
      | 11 => d.slotFails boot
      | 12 =>
        let d := d.memTrained boot
        if d.runState = 4 then d
        else (forN 12 d (fun d p => if d.num 0x70B0 1 (p + 1) = 1 then
          (d.raise 0x5003 0x70B0 (p + 1) p (d.num 0x70B0 4 (p + 1))).portLost p else d)).thawReady
      | _ => d)

/-- R450: groups, and waves, start at least 50 µs apart. -/
def spaced (d : Device) : Bool := decide (d.thaw.startNs ≤ d.time.nowNs + 1 - 50000) || d.thaw.startNs == 0

/-- R450: a group starts once, the ninth after the other eight. -/
def groupDue (d : Device) (n : Nat) : Bool := !bitOf d.thaw.groups n && (decide (n < 8) || d.thaw.groups % 256 == 255) && spaced d

/-- R450: groups 0 to 7 bring up local clusters 3g to 3g + 2 of every die, group 8 the spare clusters. -/
def startGroup (d : Device) (n : Nat) : Device :=
    let d := { d with thaw := { d.thaw with groups := d.thaw.groups ||| 2 ^ n, startNs := d.time.nowNs + 1 } }
    if n = 8 then
      let rep := d.thaw.repair
      let l := ((List.range 4).filter (fun i => !Thaw.hidClBad rep i)).map (fun i => 25 * i + Thaw.hidCl rep i)
      { d with thaw := { d.thaw with clUp := dedupNat (d.thaw.clUp ++ l) } }
    else forN 12 d (fun d i =>
      let k := 24 * (i / 3) + 3 * n + i % 3
      if d.pdState (pdCl k) = 2 && !d.thaw.clBad.contains (Thaw.provCluster d.thaw.repair k) then d.pdBegin (pdCl k) 0 0 else d)

def execClusterStoreGroup (n : Fin 9) (s : State) : Out :=
  s.run (fun d => if d.thawing && d.thawStep == 7 && groupDue d n then startGroup d n else d)

/-- A core domain of the wave before is still coming up. -/
def waveBusy (d : Device) : Bool := (List.range 1536).any (fun g => d.pdState (pdCo g) == 3)

/-- R450, R451: waves in order, each once the one before reports domain-good and the rail lies in its window, 50 µs apart. -/
def execThawWave (w : Fin 18) (railInWindow : Bool) (s : State) : Out :=
  s.run (fun d =>
    if !(d.thawing && d.thawStep == 8) || w.val != d.thaw.wave || waveBusy d || !spaced d then d
    else if !railInWindow then
      if d.thaw.delayed then d else ({ d with thaw := { d.thaw with delayed := true } }).raise 0x7009 0 0 8
    else
      let rep := d.thaw.repair
      let d := { d with thaw := { d.thaw with wave := w.val + 1, delayed := false, startNs := d.time.nowNs + 1 } }
      if w.val < 16 then forN 96 d (fun d k =>
        let g := 16 * k + w.val
        if d.pdState (pdCl k) = 0 && d.pdState (pdCo g) = 2 && !d.thaw.coBad.contains (Thaw.provCore rep g)
        then d.pdBegin (pdCo g) 0 0 else d)
      else if w.val = 16 then
        let l := ((List.range 96).filter (fun k => d.pdState (pdCl k) == 0)).map (Thaw.provCluster rep)
        let l := (l.filter (fun c => !Thaw.hidCoBad rep c)).map (fun c => 17 * c + Thaw.hidCo rep c)
        { d with thaw := { d.thaw with coUp := dedupNat (d.thaw.coUp ++ l) } }
      else
        let l := (d.thaw.clUp.flatMap (fun c => (List.range 17).map (fun q => 17 * c + q))).filter
          (fun x => !d.thaw.coBad.contains x)
        { d with thaw := { d.thaw with coUp := dedupNat (d.thaw.coUp ++ l) } })

/-! ### Reaching the cores (R461 to R463) -/

/-- A core that is up, not yet released and not failed takes part in the broadcast of step 9, or, a substituted spare,
later by unicast (R456). -/
def coreListens (d : Device) (x : Nat) : Bool :=
  d.thaw.began && decide (9 ≤ d.thawStep) && d.corePosUp x && !(d.img x).released && !d.thaw.coBad.contains x

/-- Bits of the chunks that are missing below COUNT. -/
def missingMask (i : ImgS) : Nat := (2 ^ i.count - 1) - (i.bitmap &&& (2 ^ i.count - 1))

/-- R462: a core asks for what it misses, for each chunk at most 4 times. -/
def askChunks (d : Device) (x mask : Nat) : Device :=
  let i := d.img x
  let ks := (List.range 64).filter (fun k => bitOf mask k)
  if ks.any (fun k => decide (4 ≤ Map.get 0 i.asked k)) then d.failPos x
  else
    let asked := ks.foldl (fun m k => Map.upd 0 m k (· + 1)) i.asked
    (d.setImg x { i with asked := asked }).send (.chunkRequest x mask)

/-- R462: stream engine SE0 writes chunk `k` into the local memory of a core at 4,096 × k; that of a spare has no address (R27). -/
def writeChunk (d : Device) (x k : Nat) (b : List Byte) : Device :=
  match d.provLogical x with
  | some g => if k < 64 then d.put (Device.localAddr g (4096 * k)) ((b.drop 32).take 4096) else d
  | none => d

/-- R462: a chunk whose CRC passes sets its bit; one that came again counts as repaired. -/
def execChunkReceive (cp : CorePos) (chunk : List Byte) (s : State) : Out :=
  s.run (fun d =>
    let x := Device.posIdx cp
    let i := d.img x
    let k := fieldB chunk 2 2
    if !coreListens d x then d
    else
    let d := writeChunk d x k chunk
    if chunkGood chunk 1 then
      let fresh := !bitOf i.bitmap k
      let i' := { i with chunks := Map.set [] i.chunks k (chunk.drop 32), bitmap := i.bitmap ||| 2 ^ k }
      let d := d.setImg x i'
      if fresh && decide (1 ≤ Map.get 0 i.asked k) then d.addNum 0x1D04 3 0 1 else d
    else if i.count ≠ 0 && decide (k < i.count) && !bitOf i.bitmap k then askChunks d x (2 ^ k)
    else d)

/-- R462: END carries COUNT and the digest; a core that misses chunks asks its hub die. -/
def execChunkEnd (cp : CorePos) (chunk : List Byte) (s : State) : Out :=
  s.run (fun d =>
    let x := Device.posIdx cp
    let i := d.img x
    if !coreListens d x then d
    else if chunkGood chunk 2 then
      let i := { i with count := fieldB chunk 4 2, digest := chunk.drop 32 }
      let d := d.setImg x i
      if missingMask i = 0 then d else askChunks d x (missingMask i)
    else
      let n := Map.get 0 i.asked 64 + 1
      let d := d.setImg x { i with asked := Map.set 0 i.asked 64 n }
      if 4 ≤ n then d.failPos x else d.send (.chunkRequest x (2 ^ 64)))

/-- R462: the hub die answers with the chunks, out of the running slot's control image. -/
def execChunkRepairRequest (cp : CorePos) (mask : BitVec 64) (s : State) : Out :=
  s.run (fun d =>
    let im := slotImage (d.slotOf (d.num 0x1D00 1)) 2
    if !d.thaw.began || d.thawStep < 9 then d
    else (List.range 64).foldl (fun d k =>
      if mask.getLsbD k && decide (4096 * k < im.length) then d.send (.chunk (Device.posIdx cp) (chunkBytes im k)) else d) d)

/-- R463: the COUNT × 4,096 bytes that a core hashes. -/
def hashedBytes (i : ImgS) : List Byte :=
  (List.range i.count).flatMap (fun k => (Map.get [] i.chunks k ++ List.replicate 4096 0).take 4096)

/-- R463: the core is released, or asks for the whole image once; a second mismatch fails it. -/
def execImageHashDone (cp : CorePos) (s : State) : Out :=
  s.run (fun d =>
    let x := Device.posIdx cp
    let i := d.img x
    if !coreListens d x || i.count = 0 || missingMask i ≠ 0 then d
    else if shake256 (hashedBytes i) 32 = i.digest then
      let d := d.setImg x { i with released := true }
      match d.provLogical x with
      | some g => d.clearMem (Device.localAddr g 0) (Device.localAddr g 0 + 0x100000)
      | none => d
    else if i.wholeAsked then (d.raise 0x7006 0 0 d.thawStep (leNat (i.digest.take 8))).failPos x
    else (d.setImg x { i with chunks := [], bitmap := 0, wholeAsked := true }).send (.chunkRequest x (2 ^ i.count - 1)))

/-- R456: the test of step 10 ends. -/
def execStartUpTestDone (failedCores : List CorePos) (failedClusters : List ClPos) (s : State) : Out :=
  s.run (fun d =>
    if !(d.thawing && d.thawStep == 10) then d
    else
      let cl := failedClusters.map (fun c => 25 * c.die.val + c.pos.val)
      ((d.testFails (failedCores.map Device.posIdx) cl).settleEvents).setThawStep 11)

/-- R470: step 12 ends; the device is ready. -/
def execThawReady (s : State) : Out :=
  s.run (fun d => if d.thawing && d.thawStep == 12 && d.gateDone then d.thawReady else d)

end Sys2Proof.Machine
end

