-- ==== Sys2Proof/Machine/Sideband.lean ====
section
/-! DEFINITION. The sideband (R558, R559): its status register and the recovery of a firmware slot. -/

namespace Sys2Proof.Machine

namespace Device

/-- R558: the sideband answers while PWRGOOD and RESET_N are high. -/
def sbUp (d : Device) : Bool := d.pwr.pwrgood && d.pwr.resetn && d.thaw.began

/-- R558: the value of SB_STATUS. -/
def sbStatus (d : Device) : Nat :=
  2 * b2n d.alert + 4 * b2n (d.num 0x1600 4 != 0) + 8 * b2n d.pwr.trip + 16 * b2n d.thaw.romRecovery +
  32 * (d.runState % 8) + 256 * (d.thawStep % 256)

/-- The hottest HBM4 stack of the last reports, in °C; 0 before the first. -/
def hottestStack (d : Device) : Int :=
  let m := (List.range 16).foldl (fun m h => max m (Map.get 0 d.pwr.hbmT h)) 0
  if m = 0 then 0 else (m : Int) - 1000

/-- R558: the register that a read at an offset answers; `none` for the write-only ones. Any other offset reads zeros. Only
SB_STATUS changes anything when it is read, so only its read is a command. -/
def sbReg (d : Device) (off : Nat) : Option Nat :=
  match off with
  | 0x00 => some 0x00315A41
  | 0x04 => some d.sbStatus
  | 0x08 => some (d.num 0x1600 3 % 256 + 256 * ofSgn 8 d.hottestStack)
  | 0x0C => some (d.num 0x1605 4 / 10 % 65536 + 65536 * (d.num 0x1600 1 % 65536))
  | 0x10 => some (d.num 0x1100 4 % 65536 + 65536 * (d.num 0x1605 1 % 256))
  | 0x14 => some d.thaw.recLen
  | 0x18 => none
  | 0x1C => none
  | 0x20 => some (if d.thaw.romRecovery then d.thaw.recState else 0)
  | _ => some 0

/-- R559: a write to a recovery register counts only while the boot ROM awaits an image. -/
def inRecovery (d : Device) (f : ThawS → ThawS) : Device :=
  if d.sbUp && d.thaw.romRecovery then { d with thaw := f d.thaw } else d

/-- R559: the restarted Thaw keeps the straps; CFG_RECOVERY and CFG_ALT_SLOT count as 0. -/
def restartThaw (d : Device) (boot : BootFacts) : Device :=
  ({ d.wipe with pwr := { pwrgood := true, resetn := true, vinMv := d.pwr.vinMv },
                 thaw := { straps := d.thaw.straps, recovered := true } }).startThaw boot

end Device

/-- R558: the read clears ALERT. -/
def execSbStatus (s : State) : Out :=
  s.run (fun d => if d.sbUp then { d.send (.sbWord d.sbStatus) with alert := false } else d)

/-- R558. -/
def execSbRecovLen (v : BitVec 32) (s : State) : Out :=
  s.run (fun d => d.inRecovery (fun t => { t with recLen := v.toNat }))

/-- R559: before any BEGIN the words are ignored. -/
def execSbRecovData (v : BitVec 32) (s : State) : Out :=
  s.run (fun d => d.inRecovery (fun t =>
    if t.recState = 1 then { t with recData := t.recData ++ leBytes 4 v.toNat } else t))

/-- R559: BEGIN discards any earlier staging. -/
def execSbBegin (s : State) : Out :=
  s.run (fun d => d.inRecovery (fun t => { t with recState := 1, recData := [] }))

/-- R559: COMMIT with any other number of bytes than SB_RECOV_LEN is refused. -/
def execRecoveryCommit (s : State) : Out :=
  s.run (fun d => d.inRecovery (fun t =>
    if t.recState = 1 then { t with recState := if t.recData.length = t.recLen ∧ t.recLen ≤ 2 ^ 26 then 2 else 3 } else t))

/-- R457 to R459, R559: a valid image goes into the slot that failed first, which becomes the preferred one, and the Thaw
restarts at step 1; any other leaves both slots unchanged. -/
def execRecoveryVerifyDone (boot : BootFacts) (s : State) : Out :=
  s.run (fun d =>
    if !(d.sbUp && d.thaw.romRecovery && d.thaw.recState == 2) then d
    else
      let slot := d.thaw.firstBad
      if slotOk d.thaw.recData (d.flashNum .floor) then
        let d := d.setSlot slot d.thaw.recData
        let d := { d with flash := { d.flash with preferred := slot } }
        d.restartThaw boot
      else d.inRecovery (fun t => { t with recState := 3 }))

end Sys2Proof.Machine
end

