-- ==== Sys2Proof/Machine/Dispatch.lean ====
section
/-! DEFINITION. One arm per command: each calls the command's meaning once. -/

namespace Sys2Proof.Machine

def exec (i : Instr) (s : State) : Host.Outcome State Fault Refusal :=
  match i with
  -- Scalar
  | .movi g t rd imm => Sys2Proof.Machine.execMovi g t rd imm s
  | .movhi g t rd imm => Sys2Proof.Machine.execMovhi g t rd imm s
  | .add g t rd rs1 rs2 imm => Sys2Proof.Machine.execAdd g t rd rs1 rs2 imm s
  | .sub g t rd rs1 rs2 imm => Sys2Proof.Machine.execSub g t rd rs1 rs2 imm s
  | .andB g t rd rs1 rs2 imm => Sys2Proof.Machine.execAndB g t rd rs1 rs2 imm s
  | .orB g t rd rs1 rs2 imm => Sys2Proof.Machine.execOrB g t rd rs1 rs2 imm s
  | .xorB g t rd rs1 rs2 imm => Sys2Proof.Machine.execXorB g t rd rs1 rs2 imm s
  | .shl g t rd rs1 rs2 imm => Sys2Proof.Machine.execShl g t rd rs1 rs2 imm s
  | .shr g t rd rs1 rs2 imm => Sys2Proof.Machine.execShr g t rd rs1 rs2 imm s
  | .sra g t rd rs1 rs2 imm => Sys2Proof.Machine.execSra g t rd rs1 rs2 imm s
  | .mul g t rd rs1 rs2 imm => Sys2Proof.Machine.execMul g t rd rs1 rs2 imm s
  | .ldl g t rd rs1 imm ecc => Sys2Proof.Machine.execLdl g t rd rs1 imm ecc s
  | .stl g t rs1 rs2 imm => Sys2Proof.Machine.execStl g t rs1 rs2 imm s
  | .ldc g t rd rs1 imm ecc => Sys2Proof.Machine.execLdc g t rd rs1 imm ecc s
  | .stc g t rs1 rs2 imm => Sys2Proof.Machine.execStc g t rs1 rs2 imm s
  | .tld g t rs1 rs2 imm => Sys2Proof.Machine.execTld g t rs1 rs2 imm s
  | .tst g t rs1 rs2 imm => Sys2Proof.Machine.execTst g t rs1 rs2 imm s
  | .frel g t rs1 imm => Sys2Proof.Machine.execFrel g t rs1 imm s
  | .setstr g t rs1 => Sys2Proof.Machine.execSetstr g t rs1 s
  | .rdph g t rd => Sys2Proof.Machine.execRdph g t rd s
  | .rdid g t rd => Sys2Proof.Machine.execRdid g t rd s
  -- Control
  | .j g t imm => Sys2Proof.Machine.execJ g t imm s
  | .beq g t rs1 rs2 imm => Sys2Proof.Machine.execBeq g t rs1 rs2 imm s
  | .bne g t rs1 rs2 imm => Sys2Proof.Machine.execBne g t rs1 rs2 imm s
  | .bltu g t rs1 rs2 imm => Sys2Proof.Machine.execBltu g t rs1 rs2 imm s
  | .bgeu g t rs1 rs2 imm => Sys2Proof.Machine.execBgeu g t rs1 rs2 imm s
  | .blt g t rs1 rs2 imm => Sys2Proof.Machine.execBlt g t rs1 rs2 imm s
  | .bge g t rs1 rs2 imm => Sys2Proof.Machine.execBge g t rs1 rs2 imm s
  | .loop g t rd imm => Sys2Proof.Machine.execLoop g t rd imm s
  | .halt g t => Sys2Proof.Machine.execHalt g t s
  -- Sync
  | .wait g t rs1 imm => Sys2Proof.Machine.execWait g t rs1 imm s
  | .sig g t imm => Sys2Proof.Machine.execSig g t imm s
  | .bar g t => Sys2Proof.Machine.execBar g t s
  | .fence g t => Sys2Proof.Machine.execFence g t s
  | .aadd g t rd rs1 rs2 imm hits => Sys2Proof.Machine.execAadd g t rd rs1 rs2 imm hits s
  | .acas g t rd rs1 rs2 imm hits => Sys2Proof.Machine.execAcas g t rd rs1 rs2 imm hits s
  | .amax g t rd rs1 rs2 imm hits => Sys2Proof.Machine.execAmax g t rd rs1 rs2 imm hits s
  | .watch g t rs1 rs2 hits => Sys2Proof.Machine.execWatch g t rs1 rs2 hits s
  | .waitph g t rs1 => Sys2Proof.Machine.execWaitph g t rs1 s
  | .reservedInstruction g t => Sys2Proof.Machine.execReservedInstruction g t s
  -- Matrix
  | .accumulate g t f => Sys2Proof.Machine.execAccumulate g t f s
  | .drain g t f hits => Sys2Proof.Machine.execDrain g t f hits s
  | .tableLoad g t f => Sys2Proof.Machine.execTableLoad g t f s
  -- Vector
  | .vadd g t f hits => Sys2Proof.Machine.execVadd g t f hits s
  | .vsub g t f hits => Sys2Proof.Machine.execVsub g t f hits s
  | .vmul g t f hits => Sys2Proof.Machine.execVmul g t f hits s
  | .vfma g t f hits => Sys2Proof.Machine.execVfma g t f hits s
  | .vmax g t f hits => Sys2Proof.Machine.execVmax g t f hits s
  | .vmin g t f hits => Sys2Proof.Machine.execVmin g t f hits s
  | .vabs g t f hits => Sys2Proof.Machine.execVabs g t f hits s
  | .vexp2 g t f hits => Sys2Proof.Machine.execVexp2 g t f hits s
  | .vlog2 g t f hits => Sys2Proof.Machine.execVlog2 g t f hits s
  | .vrcp g t f hits => Sys2Proof.Machine.execVrcp g t f hits s
  | .vrsq g t f hits => Sys2Proof.Machine.execVrsq g t f hits s
  | .vrsum g t f hits => Sys2Proof.Machine.execVrsum g t f hits s
  | .vrmax g t f hits => Sys2Proof.Machine.execVrmax g t f hits s
  | .wupd g t f hits => Sys2Proof.Machine.execWupd g t f hits s
  -- CoreEvents
  | .queueEntryFreed g t => Sys2Proof.Machine.execQueueEntryFreed g t s
  | .waitSyncSatisfied g t => Sys2Proof.Machine.execWaitSyncSatisfied g t s
  | .fenceComplete g t => Sys2Proof.Machine.execFenceComplete g t s
  | .barrierRelease g grp => Sys2Proof.Machine.execBarrierRelease g grp s
  | .phaseStampReached g => Sys2Proof.Machine.execPhaseStampReached g s
  | .watchWake g t hits => Sys2Proof.Machine.execWatchWake g t hits s
  | .accumulateComplete g e hits => Sys2Proof.Machine.execAccumulateComplete g e hits s
  | .drainComplete g e hits => Sys2Proof.Machine.execDrainComplete g e hits s
  | .tableLoadComplete g e hits => Sys2Proof.Machine.execTableLoadComplete g e hits s
  | .scaleLineWritten k tsid hits => Sys2Proof.Machine.execScaleLineWritten k tsid hits s
  | .scaleWaitLimit w => Sys2Proof.Machine.execScaleWaitLimit w s
  | .scaleReportFlush g e tsid => Sys2Proof.Machine.execScaleReportFlush g e tsid s
  | .workListPoll g l hits => Sys2Proof.Machine.execWorkListPoll g l hits s
  | .launchGroupComplete g grp hits => Sys2Proof.Machine.execLaunchGroupComplete g grp hits s
  | .coreHangLimit g t => Sys2Proof.Machine.execCoreHangLimit g t s
  | .frameRelease g f => Sys2Proof.Machine.execFrameRelease g f s
  -- Stream
  | .tmove se ra hits => Sys2Proof.Machine.execTmove se ra hits s
  | .bmove se ra rb hits => Sys2Proof.Machine.execBmove se ra rb hits s
  | .qwait se => Sys2Proof.Machine.execQwait se s
  | .pass se ra rb drop => Sys2Proof.Machine.execPass se ra rb drop s
  | .moverSourceRead m hits => Sys2Proof.Machine.execMoverSourceRead m hits s
  | .tileDeliveryComplete m hits => Sys2Proof.Machine.execTileDeliveryComplete m hits s
  | .tileRefetchComplete m hits => Sys2Proof.Machine.execTileRefetchComplete m hits s
  | .carouselPassExecute se hits => Sys2Proof.Machine.execCarouselPassExecute se hits s
  | .moveDone m => Sys2Proof.Machine.execMoveDone m s
  -- Seq
  | .seqNop q => Sys2Proof.Machine.execSeqNop q s
  | .seqMovi q rd imm => Sys2Proof.Machine.execSeqMovi q rd imm s
  | .seqMovhi q rd imm => Sys2Proof.Machine.execSeqMovhi q rd imm s
  | .seqAdd q rd ra rb imm => Sys2Proof.Machine.execSeqAdd q rd ra rb imm s
  | .seqSub q rd ra rb imm => Sys2Proof.Machine.execSeqSub q rd ra rb imm s
  | .seqAnd q rd ra rb imm => Sys2Proof.Machine.execSeqAnd q rd ra rb imm s
  | .seqOr q rd ra rb imm => Sys2Proof.Machine.execSeqOr q rd ra rb imm s
  | .seqXor q rd ra rb imm => Sys2Proof.Machine.execSeqXor q rd ra rb imm s
  | .seqShl q rd ra rb imm => Sys2Proof.Machine.execSeqShl q rd ra rb imm s
  | .seqShr q rd ra rb imm => Sys2Proof.Machine.execSeqShr q rd ra rb imm s
  | .sltu q rd ra rb imm => Sys2Proof.Machine.execSltu q rd ra rb imm s
  | .seqLd q rd ra imm hits => Sys2Proof.Machine.execSeqLd q rd ra imm hits s
  | .seqSt q ra rb imm => Sys2Proof.Machine.execSeqSt q ra rb imm s
  | .seqAadd q rd ra rb hits => Sys2Proof.Machine.execSeqAadd q rd ra rb hits s
  | .seqJ q imm => Sys2Proof.Machine.execSeqJ q imm s
  | .seqBeq q ra rb imm => Sys2Proof.Machine.execSeqBeq q ra rb imm s
  | .seqBne q ra rb imm => Sys2Proof.Machine.execSeqBne q ra rb imm s
  | .seqBltu q ra rb imm => Sys2Proof.Machine.execSeqBltu q ra rb imm s
  | .waitw q ra rb imm hits => Sys2Proof.Machine.execWaitw q ra rb imm hits s
  | .seqWaitph q ra => Sys2Proof.Machine.execSeqWaitph q ra s
  | .seqSig q ra imm => Sys2Proof.Machine.execSeqSig q ra imm s
  | .seqRdph q rd => Sys2Proof.Machine.execSeqRdph q rd s
  | .seqDone q => Sys2Proof.Machine.execSeqDone q s
  | .seqFault q => Sys2Proof.Machine.execSeqFault q s
  | .seqWaitSatisfied q hits => Sys2Proof.Machine.execSeqWaitSatisfied q hits s
  | .seasonTrigger q n => Sys2Proof.Machine.execSeasonTrigger q n s
  | .stampTrigger q n => Sys2Proof.Machine.execStampTrigger q n s
  | .eventTrigger q n => Sys2Proof.Machine.execEventTrigger q n s
  | .seqRunStart q => Sys2Proof.Machine.execSeqRunStart q s
  -- Scale
  | .spub k rd ra rb hits => Sys2Proof.Machine.execSpub k rd ra rb hits s
  | .srst k ra hits => Sys2Proof.Machine.execSrst k ra hits s
  | .converterTake k hits => Sys2Proof.Machine.execConverterTake k hits s
  | .cvt k hits => Sys2Proof.Machine.execCvt k hits s
  | .axpby k hits => Sys2Proof.Machine.execAxpby k hits s
  | .axpbySq k hits => Sys2Proof.Machine.execAxpbySq k hits s
  | .cvtDescriptorDone k => Sys2Proof.Machine.execCvtDescriptorDone k s
  | .reductionTake k hits => Sys2Proof.Machine.execReductionTake k hits s
  | .sum k hits => Sys2Proof.Machine.execSum k hits s
  | .sumsq k hits => Sys2Proof.Machine.execSumsq k hits s
  | .maxabs k hits => Sys2Proof.Machine.execMaxabs k hits s
  | .redDescriptorDone k => Sys2Proof.Machine.execRedDescriptorDone k s
  | .tableRingTake k hits => Sys2Proof.Machine.execTableRingTake k hits s
  | .ltbDefault k => Sys2Proof.Machine.execLtbDefault k s
  | .ltbCopy k hits => Sys2Proof.Machine.execLtbCopy k hits s
  | .ltbScaled k hits => Sys2Proof.Machine.execLtbScaled k hits s
  -- Rng
  | .maskJob k hits => Sys2Proof.Machine.execMaskJob k hits s
  | .maskJobDone k => Sys2Proof.Machine.execMaskJobDone k s
  | .contextPrepared k u => Sys2Proof.Machine.execContextPrepared k u s
  | .rngRefillGrant k u row => Sys2Proof.Machine.execRngRefillGrant k u row s
  -- Sparse
  | .mcapt k rd ra hits => Sys2Proof.Machine.execMcapt k rd ra hits s
  | .mupd k rd ra hits => Sys2Proof.Machine.execMupd k rd ra hits s
  | .mapply k rd ra hits => Sys2Proof.Machine.execMapply k rd ra hits s
  | .cpack k rd ra hits => Sys2Proof.Machine.execCpack k rd ra hits s
  | .mcheck k rd ra hits => Sys2Proof.Machine.execMcheck k rd ra hits s
  | .predictorTake k hits => Sys2Proof.Machine.execPredictorTake k hits s
  | .predictorDone k hits => Sys2Proof.Machine.execPredictorDone k hits s
  -- Health
  | .hclose k ra hits => Sys2Proof.Machine.execHclose k ra hits s
  | .nchk k rd ra hits => Sys2Proof.Machine.execNchk k rd ra hits s
  | .hpost k ra hits => Sys2Proof.Machine.execHpost k ra hits s
  | .hcollect rd rb => Sys2Proof.Machine.execHcollect rd rb s
  | .lchk rd ra => Sys2Proof.Machine.execLchk rd ra s
  | .risk rd rb => Sys2Proof.Machine.execRisk rd rb s
  | .healthSummaryArrival k => Sys2Proof.Machine.execHealthSummaryArrival k s
  | .taintNoticeReceive step dev cause => Sys2Proof.Machine.execTaintNoticeReceive step dev cause s
  -- Cadence
  | .gateWordWrite k off val => Sys2Proof.Machine.execGateWordWrite k off val s
  | .doneReport => Sys2Proof.Machine.execDoneReport s
  | .doneReceive step season dev => Sys2Proof.Machine.execDoneReceive step season dev s
  | .cadenceWordSend => Sys2Proof.Machine.execCadenceWordSend s
  | .cadenceWordReceive p w => Sys2Proof.Machine.execCadenceWordReceive p w s
  | .boundaryReached => Sys2Proof.Machine.execBoundaryReached s
  | .boundaryRelease => Sys2Proof.Machine.execBoundaryRelease s
  | .boundaryWordReceive p w => Sys2Proof.Machine.execBoundaryWordReceive p w s
  | .holdLimit => Sys2Proof.Machine.execHoldLimit s
  | .cadenceLoss => Sys2Proof.Machine.execCadenceLoss s
  | .backupTakeover => Sys2Proof.Machine.execBackupTakeover s
  | .cutOff => Sys2Proof.Machine.execCutOff s
  | .cadenceInWord w periodNs => Sys2Proof.Machine.execCadenceInWord w periodNs s
  | .cadenceOutFrame => Sys2Proof.Machine.execCadenceOutFrame s
  -- Admission
  | .admPlan c image => Sys2Proof.Machine.execAdmPlan c image s
  | .check c => Sys2Proof.Machine.execCheck c s
  | .discard c => Sys2Proof.Machine.execDiscard c s
  | .admissionDone facts => Sys2Proof.Machine.execAdmissionDone facts s
  | .verdictReceive planId code dev fromMaster => Sys2Proof.Machine.execVerdictReceive planId code dev fromMaster s
  | .admittedTimeout => Sys2Proof.Machine.execAdmittedTimeout s
  | .stop c => Sys2Proof.Machine.execStop c s
  | .abort c => Sys2Proof.Machine.execAbort c s
  -- Dap
  | .hello h gens role name => Sys2Proof.Machine.execHello h gens role name s
  | .read h items => Sys2Proof.Machine.execRead h items s
  | .write h items => Sys2Proof.Machine.execWrite h items s
  | .dread h a off len => Sys2Proof.Machine.execDread h a off len s
  | .dwrite h a begin_ end_ off total data => Sys2Proof.Machine.execDwrite h a begin_ end_ off total data s
  | .claim h role force => Sys2Proof.Machine.execClaim h role force s
  | .subscribe h minsev classmask => Sys2Proof.Machine.execSubscribe h minsev classmask s
  | .keepalive h => Sys2Proof.Machine.execKeepalive h s
  | .bye h => Sys2Proof.Machine.execBye h s
  | .malformedFrame h op readable => Sys2Proof.Machine.execMalformedFrame h op readable s
  | .dtlsHandshake port mac udp src conn ident key => Sys2Proof.Machine.execDtlsHandshake port mac udp src conn ident key s
  | .sessionTimeout sid => Sys2Proof.Machine.execSessionTimeout sid s
  | .heldFrameTimeout sid seq => Sys2Proof.Machine.execHeldFrameTimeout sid seq s
  | .eventFrameSend sid => Sys2Proof.Machine.execEventFrameSend sid s
  | .dapForward h frame => Sys2Proof.Machine.execDapForward h frame s
  | .dapFragmentReceive p target src n first last ceiling body => Sys2Proof.Machine.execDapFragmentReceive p target src n first last ceiling body s
  | .fragmentTimeout src => Sys2Proof.Machine.execFragmentTimeout src s
  | .forwardResponseTimeout sid seq => Sys2Proof.Machine.execForwardResponseTimeout sid seq s
  | .objectWrite c w => Sys2Proof.Machine.execObjectWrite c w s
  -- Objects
  | .hlthTaintReq c v => Sys2Proof.Machine.execHlthTaintReq c v s
  | .scaleRecal c tsid => Sys2Proof.Machine.execScaleRecal c tsid s
  | .hlthLoss c v => Sys2Proof.Machine.execHlthLoss c v s
  | .hlthEvalLoss c v => Sys2Proof.Machine.execHlthEvalLoss c v s
  | .ageReplan c v => Sys2Proof.Machine.execAgeReplan c v s
  -- Power
  | .pdRequestOn src d => Sys2Proof.Machine.execPdRequestOn src d s
  | .pdRequestRetention src d => Sys2Proof.Machine.execPdRequestRetention src d s
  | .pdRequestOff src d => Sys2Proof.Machine.execPdRequestOff src d s
  | .offLocked src d => Sys2Proof.Machine.execOffLocked src d s
  | .pdRequestApply d => Sys2Proof.Machine.execPdRequestApply d s
  | .domainGood d => Sys2Proof.Machine.execDomainGood d s
  | .domainTransitionTimeout d => Sys2Proof.Machine.execDomainTransitionTimeout d s
  | .pwrDieTargetMhz c die mhz => Sys2Proof.Machine.execPwrDieTargetMhz c die mhz s
  | .pwrDieFreqMhz c die mhz => Sys2Proof.Machine.execPwrDieFreqMhz c die mhz s
  | .pwrDieVcore c die v => Sys2Proof.Machine.execPwrDieVcore c die v s
  | .vcoreSlewStep die => Sys2Proof.Machine.execVcoreSlewStep die s
  | .settleDone die => Sys2Proof.Machine.execSettleDone die s
  | .thermalSensorRead r => Sys2Proof.Machine.execThermalSensorRead r s
  | .throttleStep die => Sys2Proof.Machine.execThrottleStep die s
  | .hbmTempReport h tempC => Sys2Proof.Machine.execHbmTempReport h tempC s
  | .hardwareTrip cause die value => Sys2Proof.Machine.execHardwareTrip cause die value s
  | .inputUndervoltage mv => Sys2Proof.Machine.execInputUndervoltage mv s
  | .resetNLow => Sys2Proof.Machine.execResetNLow s
  | .pwrgoodLow => Sys2Proof.Machine.execPwrgoodLow s
  -- Thaw
  | .resetNRise straps vinMv boot => Sys2Proof.Machine.execResetNRise straps vinMv boot s
  | .thawStepLimit step boot unfinished => Sys2Proof.Machine.execThawStepLimit step boot unfinished s
  | .thawStepDone boot => Sys2Proof.Machine.execThawStepDone boot s
  | .clusterStoreGroup n => Sys2Proof.Machine.execClusterStoreGroup n s
  | .thawWave w railInWindow => Sys2Proof.Machine.execThawWave w railInWindow s
  | .chunkReceive cp chunk => Sys2Proof.Machine.execChunkReceive cp chunk s
  | .chunkEnd cp chunk => Sys2Proof.Machine.execChunkEnd cp chunk s
  | .chunkRepairRequest cp mask => Sys2Proof.Machine.execChunkRepairRequest cp mask s
  | .imageHashDone cp => Sys2Proof.Machine.execImageHashDone cp s
  | .startUpTestDone failedCores failedClusters => Sys2Proof.Machine.execStartUpTestDone failedCores failedClusters s
  | .thawReady => Sys2Proof.Machine.execThawReady s
  | .fwImage c data => Sys2Proof.Machine.execFwImage c data s
  | .fwVerify c => Sys2Proof.Machine.execFwVerify c s
  | .fwActivate c => Sys2Proof.Machine.execFwActivate c s
  | .fwCommit c => Sys2Proof.Machine.execFwCommit c s
  | .attNonce sid nonce => Sys2Proof.Machine.execAttNonce sid nonce s
  | .quoteSigned recordWriteOk => Sys2Proof.Machine.execQuoteSigned recordWriteOk s
  | .secCredWrite c data => Sys2Proof.Machine.execSecCredWrite c data s
  | .secCredDelete c ident => Sys2Proof.Machine.execSecCredDelete c ident s
  | .flashRecordWrite r data complete => Sys2Proof.Machine.execFlashRecordWrite r data complete s
  -- Arb
  | .arbPrio c cls v => Sys2Proof.Machine.execArbPrio c cls v s
  | .arbiterGrant a reqs blocks => Sys2Proof.Machine.execArbiterGrant a reqs blocks s
  -- Sideband
  | .sbStatus => Sys2Proof.Machine.execSbStatus s
  | .sbRecovLen v => Sys2Proof.Machine.execSbRecovLen v s
  | .sbRecovData v => Sys2Proof.Machine.execSbRecovData v s
  | .sbBegin => Sys2Proof.Machine.execSbBegin s
  | .recoveryCommit => Sys2Proof.Machine.execRecoveryCommit s
  | .recoveryVerifyDone boot => Sys2Proof.Machine.execRecoveryVerifyDone boot s
  -- Link
  | .portTrainingStepDone p res => Sys2Proof.Machine.execPortTrainingStepDone p res s
  | .portTrainingTimeout p => Sys2Proof.Machine.execPortTrainingTimeout p s
  | .ident p pos shape rail port gen => Sys2Proof.Machine.execIdent p pos shape rail port gen s
  | .lat p stampPs echoPs nowPs => Sys2Proof.Machine.execLat p stampPs echoPs nowPs s
  | .berWindowCheck p berF32 uncorr => Sys2Proof.Machine.execBerWindowCheck p berF32 uncorr s
  | .codewordReceive p seq replayed rx => Sys2Proof.Machine.execCodewordReceive p seq replayed rx s
  | .nakReceive p ack => Sys2Proof.Machine.execNakReceive p ack s
  | .credit p freed ctl => Sys2Proof.Machine.execCredit p freed ctl s
  | .rd p h hits => Sys2Proof.Machine.execRd p h hits s
  | .wr p h data => Sys2Proof.Machine.execWr p h data s
  | .cpl p h => Sys2Proof.Machine.execCpl p h s
  | .cpld p h data => Sys2Proof.Machine.execCpld p h data s
  | .packetForward p h data => Sys2Proof.Machine.execPacketForward p h data s
  | .packetStart p fwd loc => Sys2Proof.Machine.execPacketStart p fwd loc s
  | .completionTimeout tag => Sys2Proof.Machine.execCompletionTimeout tag s
  | .downset pos port down => Sys2Proof.Machine.execDownset pos port down s
  | .pathlat p ns => Sys2Proof.Machine.execPathlat p ns s
  | .doneMessageForward p typ body => Sys2Proof.Machine.execDoneMessageForward p typ body s
  -- Mem
  | .d2dLaneFail edge spareLeft => Sys2Proof.Machine.execD2dLaneFail edge spareLeft s
  | .hbmErrorReport h ch kind addr => Sys2Proof.Machine.execHbmErrorReport h ch kind addr s
  | .ddrUncorrectable addr => Sys2Proof.Machine.execDdrUncorrectable addr s
  | .ddrChannelLoss d => Sys2Proof.Machine.execDdrChannelLoss d s
  | .csScrubSlot k bank ecc => Sys2Proof.Machine.execCsScrubSlot k bank ecc s
  | .hbmScrubRead h ch ecc => Sys2Proof.Machine.execHbmScrubRead h ch ecc s
  | .ddrScrubRead d ecc => Sys2Proof.Machine.execDdrScrubRead d ecc s
  | .scrubWriteBack u => Sys2Proof.Machine.execScrubWriteBack u s
  | .scrubPassDue u => Sys2Proof.Machine.execScrubPassDue u s
  | .hbmCalibration h ch => Sys2Proof.Machine.execHbmCalibration h ch s
  | .zqCalibration d => Sys2Proof.Machine.execZqCalibration d s
  | .telemetrySnapshot granted => Sys2Proof.Machine.execTelemetrySnapshot granted s
  | .wearLevelMove => Sys2Proof.Machine.execWearLevelMove s
  -- Age
  | .canaryReading die slackPs meanMa minMa maxMa => Sys2Proof.Machine.execCanaryReading die slackPs meanMa minMa maxMa s
  | .ringOscReading die driftPpm => Sys2Proof.Machine.execRingOscReading die driftPpm s
  | .powerOnHour => Sys2Proof.Machine.execPowerOnHour s
  | .plannerRun die => Sys2Proof.Machine.execPlannerRun die s
  | .marginPlanApply die => Sys2Proof.Machine.execMarginPlanApply die s
  -- Harvest
  | .hvCommand c v => Sys2Proof.Machine.execHvCommand c v s
  | .hvRequest dev => Sys2Proof.Machine.execHvRequest dev s
  | .hvNext v => Sys2Proof.Machine.execHvNext v s
  | .announceAckTimeout => Sys2Proof.Machine.execAnnounceAckTimeout s
  | .harvestStop => Sys2Proof.Machine.execHarvestStop s
  | .harvestCopyDone stopMs hits => Sys2Proof.Machine.execHarvestCopyDone stopMs hits s
  | .hvCommit hnum => Sys2Proof.Machine.execHvCommit hnum s
  | .exportRegionReceive region data tileCrcOk lastRegion => Sys2Proof.Machine.execExportRegionReceive region data tileCrcOk lastRegion s
  | .hvKeepSealed hnum => Sys2Proof.Machine.execHvKeepSealed hnum s
  | .hvRestore v dev => Sys2Proof.Machine.execHvRestore v dev s
  | .restoreLoadDone crcOk taken => Sys2Proof.Machine.execRestoreLoadDone crcOk taken s
  -- Island
  | .islandReset pufReads calEn => Sys2Proof.Machine.execIslandReset pufReads calEn s
  | .adcSample v amp => Sys2Proof.Machine.execAdcSample v amp s
  | .pulseEnd => Sys2Proof.Machine.execPulseEnd s
  | .islandSelfCheck adcDevPpm clkDevPpm => Sys2Proof.Machine.execIslandSelfCheck adcDevPpm clkDevPpm s
  | .workFrameSend => Sys2Proof.Machine.execWorkFrameSend s
  | .workFrameReceive frame => Sys2Proof.Machine.execWorkFrameReceive frame s
  | .noworkTimeout => Sys2Proof.Machine.execNoworkTimeout s
  | .recordMoment hour => Sys2Proof.Machine.execRecordMoment hour s
  | .recordSigned flashOk => Sys2Proof.Machine.execRecordSigned flashOk s
  | .recordRotationSend => Sys2Proof.Machine.execRecordRotationSend s
  | .statusFrameSend => Sys2Proof.Machine.execStatusFrameSend s
  | .islandCheckpoint => Sys2Proof.Machine.execIslandCheckpoint s
  | .calibrationSession flashOk write => Sys2Proof.Machine.execCalibrationSession flashOk write s
  | .hubRecordReceive rec sigOk => Sys2Proof.Machine.execHubRecordReceive rec sigOk s
  | .recordLinkSilent => Sys2Proof.Machine.execRecordLinkSilent s
  -- Late
  | .unitFailureDetected u => Sys2Proof.Machine.execUnitFailureDetected u s
  | .ddrCorrectedError d => Sys2Proof.Machine.execDdrCorrectedError d s
  | .cadenceInSilence => Sys2Proof.Machine.execCadenceInSilence s
  | .neighbourDetect p => Sys2Proof.Machine.execNeighbourDetect p s
  | .fwVerifyDone boot => Sys2Proof.Machine.execFwVerifyDone boot s
  | .signingTreeRebuilt => Sys2Proof.Machine.execSigningTreeRebuilt s
  | .eyeMonitorReading u falling => Sys2Proof.Machine.execEyeMonitorReading u falling s
  | .statusFrameReceive frame => Sys2Proof.Machine.execStatusFrameReceive frame s
  | .islandSupplyLoss => Sys2Proof.Machine.execIslandSupplyLoss s

end Sys2Proof.Machine
end

