-- ==== Sys2Proof/Safety.lean ====
section
/-! DEFINITION. The terms that claims use: what a safe step is, what it is for a command to complete, and what a core
instruction leaves alone. -/

namespace Sys2Proof.Machine

/-- The step from `s` answers a next state. -/
def Safe (s : State) : Prop := ∃ t, step s = .next t

/-- Command `c` completes from `s`: exec answers a next state with the queue of `s` and a device of which `P` holds. -/
def Completes (c : Instr) (s : State) (P : Device → Prop) : Prop :=
  ∃ t, exec c s = .next t ∧ t.pending = s.pending ∧ P t.dev

/-- Thread `t` of core `g` can issue: the scheduler picks it, being the READY thread with the lowest number at or after its
pointer, and it has a next instruction (R111, R140). -/
def Issues (d : Device) (g t : Nat) : Prop := d.picks g t = true ∧ (d.thread g t).pc ≠ 8191

/-- What an instruction of thread `t` of core `g` leaves alone when it changes only that thread: all memory, every other
thread and core, what the core holds beside its threads and its scheduler's pointer, which moves past `t` (R111), every object
but CORE_ISSUED of the core (0x7020 sub 2), which it counts, and the rest of the device. -/
structure ThreadOnly (g t : Nat) (d d' : Device) : Prop where
  rest : d' = { d with dict := d'.dict, cores := d'.cores }
  mem : ∀ a, d'.byteAt a = d.byteAt a
  cores : ∀ h, h ≠ g → d'.core h = d.core h
  core : { d'.core g with thr := (d.core g).thr, ptr := (d.core g).ptr } = d.core g
  pointer : (d'.core g).ptr = (t + 1) % 1024
  threads : ∀ u, u ≠ t → d'.thread g u = d.thread g u
  dict : d'.dict = { d.dict with num := d'.dict.num }
  objects : ∀ v k, k ≠ okey 0x7020 2 (g + 1) → Map.get v d'.dict.num k = Map.get v d.dict.num k

/-- Scalar objects outside the list keep their values; an entry names an object by index, sub-index and instance. -/
def KeepsObjects (l : List (Nat × Nat × Nat)) (d d' : Device) : Prop :=
  ∀ v k, k ∉ l.map (fun o => okey (homeIdx o.1) o.2.1 o.2.2) → Map.get v d'.dict.num k = Map.get v d.dict.num k

/-- The event of a code is raised (R566): the device counts its raises, which EVENT triggers follow (R172). -/
def Raised (code : Nat) (d d' : Device) : Prop := Map.get 0 d'.evt.raised code = Map.get 0 d.evt.raised code + 1

/-- The objects that an event of a code at a unit instance can change: RUN_STATE and HALT_CAUSE, the taint record, the log's
counters, the counters of its class and its own, and those of 0x2207 where it taints. -/
def eventObjs (code ui : Nat) : List (Nat × Nat × Nat) :=
  [(0x1100, 1, 0), (0x1100, 4, 0), (0x1401, 1, 0), (0x1401, 2, 0), (0x1401, 3, 0), (0x1E00, 2, 0), (0x1E00, 3, 0),
   (0x1E00, 4, 0), (0x1E00, 5, 0), (0x1E00, 6, 0), (0x1E00, 7, 0), (0x1E01, code / 4096, 0), (0x1E01, 2, 0)] ++
  ((evRow code).ctr ++ (evRow 0x2207).ctr).map (fun c => (c.1, c.2, if objInsts c.1 = 0 then 0 else ui))

/-- From `d` to `d'` the event of a code is raised and nothing else happens than what raising it does: the log, the alert
line, the counters, and where it taints the step the taint record and the notice to the other devices (R308, R566). -/
structure EventOnly (code ui : Nat) (d d' : Device) : Prop where
  rest : d' = { d with dict := d'.dict, evt := d'.evt, alert := d'.alert, health := d'.health, out := d'.out }
  dict : d'.dict = { d.dict with num := d'.dict.num }
  objects : KeepsObjects (eventObjs code ui) d d'
  raised : Raised code d d'

/-- The device `d` but for what a store may change in `d'`: memory, and the count of writes to TAIL words (R135). -/
def stored (d d' : Device) : Device := { d with mem := d'.mem, work := { d.work with tails := d'.work.tails } }

/-- `v` is stored at addresses `a` to `a + n − 1`, lowest byte first; every other byte of memory stays. -/
def StoresBytes (a n v : Nat) (d d' : Device) : Prop :=
  ∀ x, d'.byteAt x = if a ≤ x ∧ x < a + n then BitVec.ofNat 8 (v / 256 ^ (x - a)) else d.byteAt x

/-- The thread goes on at the next instruction, its other parts as in `x`. -/
def goesOn (x y : Thread) : Prop := y.pc = x.pc + 1 ∧ y.st = .ready ∧ y.group = x.group

/-- `c` writes `v` to register `rd` of thread `t` of core `g` (register 0 discards it) and goes on. -/
def WritesReg (c : Instr) (s : State) (g t : Nat) (rd : Reg) (v : W64) : Prop :=
  Completes c s (fun d => ThreadOnly g t s.dev d ∧ goesOn (s.dev.thread g t) (d.thread g t) ∧
    (d.thread g t).handle = (s.dev.thread g t).handle ∧
    ∀ r, (d.thread g t).reg r = if r = rd ∧ rd.val ≠ 0 then v else (s.dev.thread g t).reg r)

/-- Of micro-sequencer `q` alone the registers, PC and state change; everything else of the block stays. -/
structure SqOnly (q : Nat) (d d' : Device) : Prop where
  rest : d' = { d with seqs := d'.seqs }
  others : ∀ p, p ≠ q → d'.sq p = d.sq p
  same : { d'.sq q with regs := (d.sq q).regs, pc := (d.sq q).pc, st := (d.sq q).st } = d.sq q

/-- Micro-sequencer `q` goes on at the next instruction, its 8-bit PC wrapping. -/
def sqGoesOn (x y : SqS) : Prop := y.pc = x.pc + 1 ∧ y.st = .running

/-- Micro-sequencer `q` can issue: it runs, at a word of its image (R168, R175). -/
def SqIssues (d : Device) (q : Nat) : Prop := (d.sq q).st = .running ∧ d.seqInside q = true

/-- `c` writes `v` to register `rd` of micro-sequencer `q` (register 0 discards it) and goes on. -/
def WritesSq (c : Instr) (s : State) (q : Nat) (rd : Reg) (v : W32) : Prop :=
  Completes c s (fun d => SqOnly q s.dev d ∧ sqGoesOn (s.dev.sq q) (d.sq q) ∧
    ∀ r, (d.sq q).reg r = if r = rd ∧ rd.val ≠ 0 then v else (s.dev.sq q).reg r)

/-- Scalar objects whose write is a command or keeps more than the value (R422 to R426). -/
def ownRule : List Nat :=
  [0x1300, 0x1100, 0x1401, 0x1404, 0x1912, 0x1C00, 0x1601, 0x4602, 0x70C0, 0x1501, 0x1D01, 0x1D03, 0x1700, 0x1502]

/-- DOMAIN objects whose commit is more than keeping the bytes. -/
def ownDomain : List Nat := [0x1300, 0x1D01, 0x1D02, 0x1D03, 0x7040, 0x1001]

/-- The core and thread that issue a core instruction. -/
def issuer : Instr → Option (CoreN × Thr)
  | .movi g t _ _ | .movhi g t _ _ | .rdph g t _ | .rdid g t _ | .setstr g t _ | .frel g t _ _ => some (g, t)
  | .add g t _ _ _ _ | .sub g t _ _ _ _ | .andB g t _ _ _ _ | .orB g t _ _ _ _ | .xorB g t _ _ _ _ | .shl g t _ _ _ _
  | .shr g t _ _ _ _ | .sra g t _ _ _ _ | .mul g t _ _ _ _ => some (g, t)
  | .ldl g t _ _ _ _ | .ldc g t _ _ _ _ | .stl g t _ _ _ | .stc g t _ _ _ | .tld g t _ _ _ | .tst g t _ _ _ => some (g, t)
  | .j g t _ | .beq g t _ _ _ | .bne g t _ _ _ | .bltu g t _ _ _ | .bgeu g t _ _ _ | .blt g t _ _ _ | .bge g t _ _ _
  | .loop g t _ _ | .halt g t => some (g, t)
  | .wait g t _ _ | .sig g t _ | .bar g t | .fence g t | .aadd g t _ _ _ _ _ | .acas g t _ _ _ _ _ | .amax g t _ _ _ _ _
  | .watch g t _ _ _ | .waitph g t _ | .reservedInstruction g t => some (g, t)
  | .accumulate g t _ | .drain g t _ _ | .tableLoad g t _ => some (g, t)
  | .vadd g t _ _ | .vsub g t _ _ | .vmul g t _ _ | .vfma g t _ _ | .vmax g t _ _ | .vmin g t _ _ | .vabs g t _ _ | .vexp2 g t _ _
  | .vlog2 g t _ _ | .vrcp g t _ _ | .vrsq g t _ _ | .vrsum g t _ _ | .vrmax g t _ _ | .wupd g t _ _ => some (g, t)
  | _ => none

/-- R113: the class of a core instruction. -/
def coreClass : Instr → Option Nat
  | .j .. | .beq .. | .bne .. | .bltu .. | .bgeu .. | .blt .. | .bge .. | .loop .. | .halt .. => some 0
  | .wait .. | .sig .. | .bar .. | .fence .. | .aadd .. | .acas .. | .amax .. | .watch .. | .waitph .. => some 1
  | .movi .. | .movhi .. | .add .. | .sub .. | .andB .. | .orB .. | .xorB .. | .shl .. | .shr .. | .sra .. | .mul ..
  | .ldl .. | .stl .. | .ldc .. | .stc .. | .tld .. | .tst .. | .frel .. | .setstr .. | .rdph .. | .rdid .. => some 2
  | .vadd .. | .vsub .. | .vmul .. | .vfma .. | .vmax .. | .vmin .. | .vabs .. | .vexp2 .. | .vlog2 .. | .vrcp ..
  | .vrsq .. | .vrsum .. | .vrmax .. | .wupd .. => some 3
  | .accumulate .. | .drain .. | .tableLoad .. => some 4
  | _ => none

/-- The core instructions that can write memory when they issue; a drain writes when its engine completes it. -/
def storesMem : Instr → Bool
  | .stl .. | .stc .. | .aadd .. | .acas .. | .amax .. => true
  | .vadd .. | .vsub .. | .vmul .. | .vfma .. | .vmax .. | .vmin .. | .vabs .. | .vexp2 .. | .vlog2 .. | .vrcp ..
  | .vrsq .. | .wupd .. => true
  | _ => false

/-- The micro-sequencer that carries out an instruction of a program (R178, R315). -/
def sequencer : Instr → Option Sq
  | .seqNop q | .seqMovi q _ _ | .seqMovhi q _ _ | .seqAdd q _ _ _ _ | .seqSub q _ _ _ _ | .seqAnd q _ _ _ _
  | .seqOr q _ _ _ _ | .seqXor q _ _ _ _ | .seqShl q _ _ _ _ | .seqShr q _ _ _ _ | .sltu q _ _ _ _ | .seqLd q _ _ _ _
  | .seqSt q _ _ _ | .seqAadd q _ _ _ _ | .seqJ q _ | .seqBeq q _ _ _ | .seqBne q _ _ _ | .seqBltu q _ _ _ | .waitw q _ _ _ _
  | .seqWaitph q _ | .seqSig q _ _ | .seqRdph q _ | .seqDone q | .seqFault q => some q
  | .tmove s _ _ | .bmove s _ _ _ | .qwait s | .pass s _ _ _ => some ⟨s.val, by omega⟩
  | .spub k _ _ _ _ | .srst k _ _ => some ⟨384 + k.val, by omega⟩
  | .mcapt k _ _ _ | .mupd k _ _ _ | .mapply k _ _ _ | .cpack k _ _ _ | .mcheck k _ _ _ => some ⟨480 + k.val, by omega⟩
  | .hclose k _ _ | .nchk k _ _ _ | .hpost k _ _ => some ⟨576 + k.val, by omega⟩
  | .hcollect _ _ | .lchk _ _ | .risk _ _ => some 672
  | _ => none

/-- What the command says SECDED finds in the words it reads. -/
def readHits : Instr → Hits
  | .aadd _ _ _ _ _ _ h | .acas _ _ _ _ _ _ h | .amax _ _ _ _ _ _ h | .watch _ _ _ _ h | .drain _ _ _ h
  | .vadd _ _ _ h | .vsub _ _ _ h | .vmul _ _ _ h | .vfma _ _ _ h | .vmax _ _ _ h | .vmin _ _ _ h | .vabs _ _ _ h
  | .vexp2 _ _ _ h | .vlog2 _ _ _ h | .vrcp _ _ _ h | .vrsq _ _ _ h | .vrsum _ _ _ h | .vrmax _ _ _ h
  | .wupd _ _ _ h | .watchWake _ _ h | .accumulateComplete _ _ h | .drainComplete _ _ h | .tableLoadComplete _ _ h
  | .scaleLineWritten _ _ h | .workListPoll _ _ h | .launchGroupComplete _ _ h | .tmove _ _ h | .bmove _ _ _ h
  | .moverSourceRead _ h | .tileDeliveryComplete _ h | .tileRefetchComplete _ h | .carouselPassExecute _ h
  | .seqLd _ _ _ _ h | .seqAadd _ _ _ _ h | .waitw _ _ _ _ h | .seqWaitSatisfied _ h | .spub _ _ _ _ h
  | .srst _ _ h | .converterTake _ h | .cvt _ h | .axpby _ h | .axpbySq _ h | .reductionTake _ h | .sum _ h
  | .sumsq _ h | .maxabs _ h | .tableRingTake _ h | .ltbCopy _ h | .ltbScaled _ h | .maskJob _ h | .mcapt _ _ _ h
  | .mupd _ _ _ h | .mapply _ _ _ h | .cpack _ _ _ h | .mcheck _ _ _ h | .predictorTake _ h | .predictorDone _ h
  | .hclose _ _ h | .nchk _ _ _ h | .hpost _ _ h | .rd _ _ h | .harvestCopyDone _ h => h
  | _ => []

/-- Every word that the command reads is without error. -/
def readsClean (c : Instr) : Bool :=
  (readHits c).isEmpty && (match c with
    | .ldl _ _ _ _ _ e => e == .clean
    | .ldc _ _ _ _ _ e => e == .clean
    | _ => true)

end Sys2Proof.Machine
end

