-- ==== Sys2Proof/Certificates/Slice0/Obligations.lean ====
section
/-! DEFINITION. The statements about the model, family by family. -/

open Sys2Proof Sys2Proof.Machine

/-! ### The block as a whole -/

/-- With command `c` at the front of the queue a step is `exec` of it on the queue's rest. -/
def Obligations.StepRunsFrontCommand : Prop :=
  ∀ (c : Instr) (rest : List Instr) (d : Device), step { pending := c :: rest, dev := d } = exec c { pending := rest, dev := d }

/-- Every command completes and leaves the queue of the others as it was: nothing a peer can send stops the block. The
model's choice (log entry 4): with nothing pending a step lets one microsecond pass. Wall time rises by 1,000 ns and the
engine clk of each die by its MHz, the step and phase counter may move, a hold counts stalls, control slots may leave the
ports and each port that is up and not full may send one idle codeword (log entry 88), and nothing else of the block
changes. -/
def Obligations.EveryStepGoesOn : Prop :=
  (∀ (c : Instr) (rest : List Instr) (d : Device), ∃ d',
    exec c { pending := rest, dev := d } = .next { pending := rest, dev := d' } ∧
    step { pending := c :: rest, dev := d } = .next { pending := rest, dev := d' }) ∧
  ∀ d : Device, ∃ t, step { pending := [], dev := d } = .next t ∧ t.pending = [] ∧
    t.dev = { d with
      time := { d.time with nowNs := d.time.nowNs + 1000 }
      pwr := { d.pwr with clk := t.dev.pwr.clk, idleFrom := t.dev.pwr.idleFrom }
      cad := t.dev.cad, dict := t.dev.dict, link := t.dev.link, out := t.dev.out } ∧
    (d.cad.stopped = true → d.cad.ahead = none → t.dev.cad = d.cad) ∧ (d.cad.held = false → t.dev.dict = d.dict) ∧
    (∀ i, i < 4 → Map.get 0 t.dev.pwr.clk i = Map.get 0 d.pwr.clk i + d.num 0x1602 (i + 1)) ∧
    ∃ l, t.dev.out = l ++ d.out ∧ ∀ m ∈ l, (∃ p b, m = .controlSlot p b) ∨ ∃ p lanes, m = .codeword p lanes

/-- Memory keeps its canonical form: rising addresses, no byte listed that holds what an unlisted address reads as. -/
def Obligations.StepKeepsMemoryCanonical : Prop :=
  ∀ s t : State, Map.wf 0 s.dev.mem = true → step s = .next t → Map.wf 0 t.dev.mem = true

/-! ### Instruction words -/

/-- R113: the word of every core instruction has the class of its family in bits [63:61], and a word of a RSVD class is no
instruction. Every core instruction is read back from its word, whose RSVD fields are 0. -/
def Obligations.CoreWordsRoundTrip : Prop :=
  (∀ (i : Instr) (w : W64) (g : CoreN) (t : Thr), encodeCore i = some w → issuer i = some (g, t) →
    coreClass i = some (w.extractLsb 63 61).toNat ∧ rsvdZero w = true ∧ ∃ ecc hits, decodeCore g t ecc hits w = i) ∧
  ∀ (g : CoreN) (t : Thr) (ecc : EccRead) (hits : Hits) (w : W64), 5 ≤ (w.extractLsb 63 61).toNat →
    decodeCore g t ecc hits w = .reservedInstruction g t

/-- R169 to R171, R192, R262 to R266, R317: the word of every micro-sequencer instruction is read back as it by the
instance that carries it out. -/
def Obligations.SequencerWordsRoundTrip : Prop :=
  ∀ (i : Instr) (w : W32) (q : Sq), encodeSeq i = some w → sequencer i = some q → ∃ hits, decodeSeq q hits w = i

/-! ### Scalar instructions of a core -/

/-- R109, R121; R121: The register results of the move operations of a thread that can issue. RS2 + IMM is formed first;
shifts take its low six bits. Register 0 stays 0. RDID names the thread and the core in RD[31:0] and SETSTR sets the
stream handle; RD[63:32] after RDID is a free value, of which nothing is said (log entry 20). -/
def Obligations.ScalarRegisterResults : Prop :=
  (∀ (s : State) (g : CoreN) (t : Thr) (rd a b : Reg) (imm : BitVec 32), Issues s.dev g t →
    let x := s.dev.thread g t
    let y := x.reg b + imm.signExtend 64
    WritesReg (.movi g t rd imm) s g t rd (imm.signExtend 64) ∧
    WritesReg (.movhi g t rd imm) s g t rd (imm ++ (x.reg rd).setWidth 32) ∧
    WritesReg (.add g t rd a b imm) s g t rd (x.reg a + y) ∧
    WritesReg (.sub g t rd a b imm) s g t rd (x.reg a - y) ∧
    WritesReg (.andB g t rd a b imm) s g t rd (x.reg a &&& y) ∧
    WritesReg (.orB g t rd a b imm) s g t rd (x.reg a ||| y) ∧
    WritesReg (.xorB g t rd a b imm) s g t rd (x.reg a ^^^ y) ∧
    WritesReg (.shl g t rd a b imm) s g t rd (x.reg a <<< (y.toNat % 64)) ∧
    WritesReg (.shr g t rd a b imm) s g t rd (x.reg a >>> (y.toNat % 64)) ∧
    WritesReg (.sra g t rd a b imm) s g t rd ((x.reg a).sshiftRight (y.toNat % 64)) ∧
    WritesReg (.mul g t rd a b imm) s g t rd (x.reg a * x.reg b) ∧
    WritesReg (.rdph g t rd) s g t rd (s.dev.stamp.setWidth 64) ∧
    x.reg 0 = 0) ∧
  ∀ (s : State) (g : CoreN) (t : Thr) (rd a : Reg), Issues s.dev g t →
    Completes (.rdid g t rd) s (fun d => ThreadOnly g t { s.dev with time := d.time } d ∧
      goesOn (s.dev.thread g t) (d.thread g t) ∧ (d.thread g t).handle = (s.dev.thread g t).handle ∧
      (rd.val ≠ 0 → ((d.thread g t).reg rd).setWidth 16 = BitVec.ofNat 16 t.val ∧
        (((d.thread g t).reg rd) >>> 16).setWidth 16 = BitVec.ofNat 16 g.val) ∧
      ∀ r, r ≠ rd → (d.thread g t).reg r = (s.dev.thread g t).reg r) ∧
    Completes (.setstr g t a) s (fun d => ThreadOnly g t s.dev d ∧
      d.thread g t = { s.dev.thread g t with
        handle := ((s.dev.thread g t).reg a).setWidth 32, pc := (s.dev.thread g t).pc + 1 })

/-- R108, R121; R31, R140: Aligned loads and stores inside local memory and inside the cluster store whose words SECDED
finds clean. A misaligned scalar access raises 0x7022 and is not carried out; one beyond local memory as well; one beyond
the cluster store raises 0x4008, a load then gives zeros. The thread goes on. -/
def Obligations.ScalarLoadsAndStores : Prop :=
  (∀ (s : State) (g : CoreN) (t : Thr) (rd a b : Reg) (imm : BitVec 32), Issues s.dev g t →
    let x := s.dev.thread g t
    let off := (x.reg a + imm.signExtend 64).toNat
    let la := Device.localAddr g off
    let sa := Device.storeAddr (g / 16) off
    off % 8 = 0 →
    (off < 0x100000 →
      WritesReg (.ldl g t rd a imm .clean) s g t rd (BitVec.ofNat 64 (s.dev.load la 8)) ∧
      Completes (.stl g t a b imm) s (fun d => ThreadOnly g t { s.dev with mem := d.mem } d ∧
        StoresBytes la 8 (x.reg b).toNat s.dev d ∧ d.thread g t = { x with pc := x.pc + 1 })) ∧
    (off < 0x1000000 →
      WritesReg (.ldc g t rd a imm .clean) s g t rd (BitVec.ofNat 64 (s.dev.load sa 8)) ∧
      Completes (.stc g t a b imm) s (fun d => ThreadOnly g t (stored s.dev d) d ∧
        StoresBytes sa 8 (x.reg b).toNat s.dev d ∧ d.thread g t = { x with pc := x.pc + 1 }))) ∧
  ∀ (s : State) (g : CoreN) (t : Thr) (rd a b : Reg) (imm : BitVec 32) (ecc : EccRead), Issues s.dev g t →
    let x := s.dev.thread g t
    let off := (x.reg a + imm.signExtend 64).toNat
    let refused (c : Instr) (code : Nat) := Completes c s (fun d => Raised code s.dev d ∧ d.mem = s.dev.mem ∧
      d.thread g t = { x with pc := x.pc + 1 })
    (off % 8 ≠ 0 ∨ 0x100000 ≤ off → refused (.ldl g t rd a imm ecc) 0x7022 ∧ refused (.stl g t a b imm) 0x7022) ∧
    (off % 8 ≠ 0 → refused (.ldc g t rd a imm ecc) 0x7022 ∧ refused (.stc g t a b imm) 0x7022) ∧
    (off % 8 = 0 → 0x1000000 ≤ off → refused (.stc g t a b imm) 0x4008 ∧
      Completes (.ldc g t rd a imm ecc) s (fun d => Raised 0x4008 s.dev d ∧ d.mem = s.dev.mem ∧
        goesOn x (d.thread g t) ∧ ∀ r, (d.thread g t).reg r = if r = rd then 0 else x.reg r))

/-- R108: errors in local memory. A correctable one is corrected in place with event 0x400D (INFO): the load takes the
word. An uncorrectable one gives zeros with event 0x400E (FAULT) and taints the step, the word reading as zeros until it
is written again (log entry 26); the second in the same bank within one run fails the core. What SECDED finds in the words
that any other command reads comes before the command's own effect on the words as they then read; an instruction that
does not issue reads nothing. -/
def Obligations.LocalMemoryErrors : Prop :=
  (evRow 0x400D).sev = 0 ∧ (evRow 0x400E).sev = 2 ∧
  (∀ (s : State) (g : CoreN) (t : Thr) (rd rs1 rs2 ra rb : Reg) (imm : BitVec 32) (f : DrainFields)
    (f' : VecFields) (e : Eng) (k : Cluster) (tsid : BitVec 16) (l : Fin 4) (grp : Grp) (se : Se) (m : Mover)
    (q : Sq) (imm' : BitVec 14) (p : Port) (h : PktHdr) (stopMs : Nat),
    let reads (c : Hits → Instr) : Prop := ∀ hits, exec (c hits) s = exec (c []) { s with dev := s.dev.sramHits hits }
    (s.dev.picks g t = true →
      reads (.aadd g t rd rs1 rs2 imm) ∧ reads (.acas g t rd rs1 rs2 imm) ∧ reads (.amax g t rd rs1 rs2 imm) ∧
      reads (.watch g t rs1 rs2) ∧ reads (.drain g t f) ∧ reads (.vadd g t f') ∧ reads (.vsub g t f') ∧
      reads (.vmul g t f') ∧ reads (.vfma g t f') ∧ reads (.vmax g t f') ∧ reads (.vmin g t f') ∧
      reads (.vabs g t f') ∧ reads (.vexp2 g t f') ∧ reads (.vlog2 g t f') ∧ reads (.vrcp g t f') ∧
      reads (.vrsq g t f') ∧ reads (.vrsum g t f') ∧ reads (.vrmax g t f') ∧ reads (.wupd g t f')) ∧
    (SqIssues s.dev q →
      reads (.seqLd q rd ra imm') ∧ reads (.seqAadd q rd ra rb) ∧ reads (.waitw q ra rb imm')) ∧
    (SqIssues s.dev se →
      reads (.tmove se ra) ∧ reads (.bmove se ra rb)) ∧
    (SqIssues s.dev (384 + k) →
      reads (.spub k rd ra rb) ∧ reads (.srst k ra)) ∧
    (SqIssues s.dev (480 + k) →
      reads (.mcapt k rd ra) ∧ reads (.mupd k rd ra) ∧ reads (.mapply k rd ra) ∧ reads (.cpack k rd ra) ∧
      reads (.mcheck k rd ra)) ∧
    (SqIssues s.dev (576 + k) →
      reads (.hclose k ra) ∧ reads (.hpost k ra)) ∧
    reads (.watchWake g t) ∧ reads (.accumulateComplete g e) ∧ reads (.drainComplete g e) ∧
    reads (.tableLoadComplete g e) ∧ reads (.scaleLineWritten k tsid) ∧ reads (.workListPoll g l) ∧
    reads (.launchGroupComplete g grp) ∧ reads (.moverSourceRead m) ∧ reads (.tileDeliveryComplete m) ∧
    reads (.tileRefetchComplete m) ∧ reads (.carouselPassExecute se) ∧ reads (.seqWaitSatisfied q) ∧
    reads (.converterTake k) ∧ reads (.cvt k) ∧ reads (.axpby k) ∧ reads (.axpbySq k) ∧ reads (.reductionTake k) ∧
    reads (.sum k) ∧ reads (.sumsq k) ∧ reads (.maxabs k) ∧ reads (.tableRingTake k) ∧ reads (.ltbCopy k) ∧
    reads (.ltbScaled k) ∧ reads (.maskJob k) ∧ reads (.predictorTake k) ∧ reads (.predictorDone k) ∧
    reads (.rd p h) ∧ reads (.harvestCopyDone stopMs)) ∧
  ∀ (s : State) (g : CoreN) (t : Thr) (rd a : Reg) (imm : BitVec 32), Issues s.dev g t →
    let x := s.dev.thread g t
    let off := (x.reg a + imm.signExtend 64).toNat
    let la := Device.localAddr g off
    let errs := Map.get 0 (s.dev.core g).bankErr (off / 64 % 32)
    let takes (d : Device) (v : W64) := goesOn x (d.thread g t) ∧
      ∀ r, (d.thread g t).reg r = if r = rd ∧ rd.val ≠ 0 then v else x.reg r
    off % 8 = 0 → off < 0x100000 → (s.dev.core g).failed = false →
    Completes (.ldl g t rd a imm .corrected) s (fun d => Raised 0x400D s.dev d ∧ d.mem = s.dev.mem ∧
      (d.core g).failed = false ∧ takes d (BitVec.ofNat 64 (s.dev.load la 8))) ∧
    Completes (.ldl g t rd a imm .uncorrectable) s (fun d => Raised 0x400E s.dev d ∧ d.num 0x1401 1 = 1 ∧
      StoresBytes la 8 0 s.dev d ∧
      (errs = 0 → (d.core g).failed = false ∧ takes d 0 ∧ Map.get 0 (d.core g).bankErr (off / 64 % 32) = 1) ∧
      (1 ≤ errs → (d.core g).failed = true ∧ Raised 0x8010 s.dev d))

/-- R112, R121: TLD and TST of an aligned store offset that a placement names enter the core's move queue while it has
room; FREL of a frame that is FULL with no read under way empties it. -/
def Obligations.TileMovesAndFrel : Prop :=
  ∀ (s : State) (g : CoreN) (t : Thr) (a b : Reg) (imm : BitVec 32) (h : Nat), Issues s.dev g t →
    let x := s.dev.thread g t
    let off := (x.reg a).toNat
    let f := (x.reg b).toNat % 256
    let sa := Device.storeAddr (g / 16) off
    let queued (c : Instr) (e : MoveEnt) := Completes c s (fun d =>
      (d.core g).moveq = (s.dev.core g).moveq ++ [{ e with thread := some t.val }] ∧
      d.thread g t = { x with pc := x.pc + 1 } ∧ d.mem = s.dev.mem ∧
      { d.core g with moveq := (s.dev.core g).moveq, thr := (s.dev.core g).thr, ptr := (s.dev.core g).ptr } = s.dev.core g)
    (off % 4096 = 0 → off < 0x1000000 → f < 240 → s.dev.headerOf sa = some h → (s.dev.core g).moveq.length < 16 →
      queued (.tld g t a b imm) { kind := .tiles, src := sa, srch := h, dst := Device.localAddr g (4096 * f), dsth := Device.localAddr g (0xF0000 + 16 * f), scnt := imm.toNat % 64, score := 2 ^ (g.val % 16), trans := imm.getLsbD 6 } ∧
      queued (.tst g t a b imm) { kind := .tiles, src := Device.localAddr g (4096 * f), srch := Device.localAddr g (0xF0000 + 16 * f), dst := sa, dsth := h, scnt := imm.toNat % 64, score := 2 ^ (g.val % 16), rel := imm.getLsbD 7 }) ∧
    (let fr := (x.reg a + imm.signExtend 64).toNat % 256
     fr < 240 → (s.dev.frame g fr).st = .full → (s.dev.frame g fr).carousel = false →
      Completes (.frel g t a imm) s (fun d => d.thread g t = { x with pc := x.pc + 1 } ∧ d.mem = s.dev.mem ∧
        d.frame g fr = (if (s.dev.frame g fr).reads = 0 then {} else { s.dev.frame g fr with release := true }) ∧
        ∀ o, o ≠ fr → d.frame g o = s.dev.frame g o))

/-! ### Control, sync and the reserved instruction -/

/-- R122; R124: The control operations, by their OP codes. The target is IMM[12:0]; LOOP counts RD down and jumps while it
is not 0; HALT frees the thread, which keeps its registers. The other OP codes of the class are reserved. The reserved
instruction raises event 0x7020, makes the issuing thread FAULTED and taints the step; the thread's registers and PC stay,
and so does every byte of memory and every other thread. -/
def Obligations.ControlFlow : Prop :=
  ((∀ (g : CoreN) (t : Thr) (rd a b : Reg) (imm : BitVec 32) (ecc : EccRead) (hits : Hits) (w : W64),
    let op (c : Instr) := (encodeCore c).map (fun w => ((w.extractLsb 63 61).toNat, (w.extractLsb 60 55).toNat))
    op (.j g t imm) = some (0, 0) ∧ op (.beq g t a b imm) = some (0, 1) ∧ op (.bne g t a b imm) = some (0, 2) ∧
    op (.bltu g t a b imm) = some (0, 3) ∧ op (.bgeu g t a b imm) = some (0, 4) ∧ op (.blt g t a b imm) = some (0, 5) ∧
    op (.bge g t a b imm) = some (0, 6) ∧ op (.loop g t rd imm) = some (0, 7) ∧ op (.halt g t) = some (0, 8) ∧
    ((w.extractLsb 63 61).toNat = 0 → 9 ≤ (w.extractLsb 60 55).toNat → decodeCore g t ecc hits w = .reservedInstruction g t)) ∧
  ∀ (s : State) (g : CoreN) (t : Thr) (rd a b : Reg) (imm : BitVec 32), Issues s.dev g t →
    let x := s.dev.thread g t
    let goes (c : Instr) (y : Thread) := Completes c s (fun d => ThreadOnly g t s.dev d ∧ d.thread g t = y)
    let pcTo (p : Bool) : Thread := { x with pc := if p then imm.setWidth 13 else x.pc + 1 }
    goes (.j g t imm) (pcTo true) ∧
    goes (.beq g t a b imm) (pcTo (decide (x.reg a = x.reg b))) ∧
    goes (.bne g t a b imm) (pcTo (decide (x.reg a ≠ x.reg b))) ∧
    goes (.bltu g t a b imm) (pcTo (decide ((x.reg a).toNat < (x.reg b).toNat))) ∧
    goes (.bgeu g t a b imm) (pcTo (decide ((x.reg b).toNat ≤ (x.reg a).toNat))) ∧
    goes (.blt g t a b imm) (pcTo (decide ((x.reg a).toInt < (x.reg b).toInt))) ∧
    goes (.bge g t a b imm) (pcTo (decide ((x.reg b).toInt ≤ (x.reg a).toInt))) ∧
    goes (.halt g t) { x with st := .free } ∧
    Completes (.loop g t rd imm) s (fun d => ThreadOnly g t s.dev d ∧
      (d.thread g t).pc = (if rd.val ≠ 0 ∧ x.reg rd ≠ 1 then imm.setWidth 13 else x.pc + 1) ∧
      (d.thread g t).st = .ready ∧ ∀ r, (d.thread g t).reg r = if r = rd ∧ rd.val ≠ 0 then x.reg rd - 1 else x.reg r)) ∧
  ∀ (s : State) (g : CoreN) (t : Thr), s.dev.picks g t = true →
    Completes (.reservedInstruction g t) s (fun d => Raised 0x7020 s.dev d ∧
      d.thread g t = { s.dev.thread g t with st := .faulted } ∧ d.num 0x1401 1 = 1 ∧ d.mem = s.dev.mem ∧
      (∀ h u, (h, u) ≠ (g.val, t.val) → d.thread h u = s.dev.thread h u))

/-- R123, R128, R129, R131; R123: The sync operations. WAIT, FENCE, WAITPH and WATCH go on at once where what they wait
for is there and wait otherwise, the thread's PC kept and the time noted from which it waits (R141); BAR waits; SIG adds
IMM[31:16] to a counter, SC0 never. The atomics on a naturally aligned word of the own cluster's store, 4 bytes or, with
IMM[0], 8: RD takes the old word; AADD stores its sum with RS2, ACAS stores RS2 where the old word equals RD, AMAX stores
the unsigned maximum. -/
def Obligations.SyncAndAtomicOperations : Prop :=
  (∀ (s : State) (g : CoreN) (t : Thr) (a b : Reg) (imm : BitVec 32), Issues s.dev g t →
    let x := s.dev.thread g t
    let n := imm.toNat % 64
    let w : W32 := (x.reg a).setWidth 32
    let goes (c : Instr) (y : Thread) := Completes c s (fun d => ThreadOnly g t s.dev d ∧ d.thread g t = y)
    let next : Thread := { x with pc := x.pc + 1 }
    let waits (st : ThState) : Thread := { x with st := st, sinceNs := s.dev.time.nowNs }
    goes (.wait g t a imm) (if 0 ≤ ((s.dev.core g).counter n - w).toInt then next else waits (.waitSync n w)) ∧
    goes (.bar g t) (waits .waitBar) ∧
    goes (.fence g t) (if (s.dev.core g).moveq.any (fun e => e.thread == some t.val) then waits .waitMem else next) ∧
    goes (.waitph g t a) (if 0 ≤ (s.dev.stamp - w).toInt then next else waits (.waitPhase w)) ∧
    Completes (.sig g t imm) s (fun d => d.thread g t = next ∧ d.mem = s.dev.mem ∧
      ∀ i, i < 64 → (d.core g).counter i =
        if i = n ∧ n ≠ 0 then (s.dev.core g).counter i + BitVec.ofNat 32 (imm.toNat / 65536) else (s.dev.core g).counter i) ∧
    (let off := (x.reg a).toNat
     off % 8 = 0 → off < 0x1000000 → (s.dev.core g).watch.length < 64 →
      Completes (.watch g t a b []) s (fun d => d.mem = s.dev.mem ∧
        if s.dev.load (Device.storeAddr (g / 16) off) 8 = (x.reg b).toNat then
          d.thread g t = waits (.waitWatch off (x.reg b)) ∧
          (d.core g).watch = (s.dev.core g).watch ++ [(t.val, off)]
        else d.thread g t = next ∧ (d.core g).watch = (s.dev.core g).watch))) ∧
  ∀ (s : State) (g : CoreN) (t : Thr) (rd a b : Reg) (imm : BitVec 32), Issues s.dev g t →
    let x := s.dev.thread g t
    let n := if imm.getLsbD 0 then 8 else 4
    let off := (x.reg a).toNat
    let sa := Device.storeAddr (g / 16) off
    let old := s.dev.load sa n
    let w := 2 ^ (8 * n)
    let swaps (c : Instr) (v : Nat) := Completes c s (fun d => ThreadOnly g t (stored s.dev d) d ∧
      StoresBytes sa n (v % w) s.dev d ∧ goesOn x (d.thread g t) ∧
      ∀ r, (d.thread g t).reg r = if r = rd ∧ rd.val ≠ 0 then BitVec.ofNat 64 old else x.reg r)
    off % n = 0 → off < 0x1000000 →
    swaps (.aadd g t rd a b imm []) (old + (x.reg b).toNat) ∧
    swaps (.acas g t rd a b imm []) (if old = (x.reg rd).toNat % w then (x.reg b).toNat else old) ∧
    swaps (.amax g t rd a b imm []) (max old ((x.reg b).toNat % w))

/-- R110, R111: Only the thread that the scheduler picks issues, the READY thread with the lowest number at or after its
pointer: an instruction of any other thread, and so of one that is not READY, changes nothing. What a core instruction
leaves alone in every state and form: every other core, the sequencers, the engines of the stream, the cadence, the plan,
sessions, links, power, flash, the Thaw and the island; and all memory where the instruction is no store, atomic or vector
write to memory. Stated for reads without errors, which come first (R108). -/
def Obligations.CoreInstructionFrame : Prop :=
  (∀ (c : Instr) (s : State) (g : CoreN) (t : Thr), issuer c = some (g, t) →
    (s.dev.picks g t = false → exec c s = .next s) ∧ ((s.dev.thread g t).st ≠ .ready → exec c s = .next s)) ∧
  ∀ (c : Instr) (s u : State) (g : CoreN) (t : Thr), issuer c = some (g, t) → readsClean c = true → exec c s = .next u →
    u.dev = { s.dev with
      time := u.dev.time, mem := u.dev.mem, dict := u.dev.dict, evt := u.dev.evt, cores := u.dev.cores,
      clus := u.dev.clus, health := u.dev.health, alert := u.dev.alert, out := u.dev.out, hv := u.dev.hv
      work := { s.dev.work with tails := u.dev.work.tails } } ∧
    (storesMem c = false → u.dev.work = s.dev.work) ∧
    (∀ h, h ≠ g.val → u.dev.core h = s.dev.core h) ∧
    (storesMem c = false → u.dev.mem = s.dev.mem)

/-! ### Matrix engine and vector unit -/

/-- R112, R115, R116, R188; R124, R140: An accumulate, drain or table load of legal codes and descriptors joins its
engine's queue of 8, with the register values and the stream handle as they stand; on a full queue the thread waits and
keeps its PC. A table load from beyond the store joins too and reads zeros (R31). An engine operation or vector operation
with a reserved code faults its thread with 0x7020; a descriptor or a span that does not fit raises 0x7022 and the thread
goes on. Neither writes memory. -/
def Obligations.EngineOperationsQueue : Prop :=
  (∀ (s : State) (g : CoreN) (t : Thr), Issues s.dev g t →
    let x := s.dev.thread g t
    let joins (c : Instr) (e : Nat) (op : EngOp) := Completes c s (fun d =>
      d.mem = s.dev.mem ∧ (∀ h u, (h, u) ≠ (g.val, t.val) → d.thread h u = s.dev.thread h u) ∧
      (∀ e', (d.core g).queue e' = if e' = e ∧ ((s.dev.core g).queue e).length < 8 then (s.dev.core g).queue e ++ [op]
        else (s.dev.core g).queue e') ∧
      d.thread g t = if ((s.dev.core g).queue e).length < 8 then { x with pc := x.pc + 1 }
        else { x with st := .waitQueue (.eng e), sinceNs := s.dev.time.nowNs })
    (∀ f : AccFields, f.mode.toNat < 4 → reservedFmt f.fmtA.toNat f.widthA.toNat = false →
      reservedFmt f.fmtB.toNat f.widthB.toNat = false →
      opDescBad true (contBits f.fmtA.toNat f.widthA.toNat) (opDesc (x.reg f.ra)) = false →
      opDescBad false (contBits f.fmtB.toNat f.widthB.toNat) (opDesc (x.reg f.rb)) = false →
      joins (.accumulate g t f) f.eng (.acc f (x.reg f.ra) (x.reg f.rb) x.handle)) ∧
    (∀ f : DrainFields, 1 ≤ f.fmtOut.toNat → f.fmtOut.toNat < 8 → reservedFmt f.fmtOut.toNat f.widthOut.toNat = false →
      f.rmode.toNat ≠ 3 → (outDesc (x.reg f.ro)).frame < 240 → (f.add = true → (outDesc (x.reg f.rd)).frame < 240) →
      (outDesc (x.reg f.ro)).sub < subCount (contBits f.fmtOut.toNat f.widthOut.toNat) →
      joins (.drain g t f []) f.eng
        (.drain f (x.reg f.ro) (x.reg f.rd) x.handle (s.dev.line (g / 16) (outDesc (x.reg f.ro)).tsid) 0 false)) ∧
    (∀ f : TableFields, (x.reg f.rs).toNat % 16 = 0 →
      joins (.tableLoad g t f) f.eng (.table f (x.reg f.rs)))) ∧
  ∀ (s : State) (g : CoreN) (t : Thr), Issues s.dev g t →
    let x := s.dev.thread g t
    let faults (c : Instr) := Completes c s (fun d => Raised 0x7020 s.dev d ∧ d.mem = s.dev.mem ∧
      d.thread g t = { x with st := .faulted })
    let refused (c : Instr) := Completes c s (fun d => Raised 0x7022 s.dev d ∧ d.mem = s.dev.mem ∧
      d.thread g t = { x with pc := x.pc + 1 })
    (∀ f : AccFields, (4 ≤ f.mode.toNat ∨ reservedFmt f.fmtA.toNat f.widthA.toNat = true →
        faults (.accumulate g t f)) ∧
      (f.mode.toNat < 4 → reservedFmt f.fmtA.toNat f.widthA.toNat = false →
        reservedFmt f.fmtB.toNat f.widthB.toNat = false → 240 ≤ (opDesc (x.reg f.ra)).frame →
        refused (.accumulate g t f))) ∧
    (∀ f : DrainFields, f.fmtOut.toNat = 0 ∨ 8 ≤ f.fmtOut.toNat ∨ f.rmode.toNat = 3 → faults (.drain g t f [])) ∧
    (∀ f : TableFields, (x.reg f.rs).toNat % 16 ≠ 0 → refused (.tableLoad g t f)) ∧
    (∀ f : VecFields, 2 ≤ f.fz.toNat ∨ f.rmode.toNat = 3 →
      faults (.vadd g t f []) ∧ faults (.vsub g t f []) ∧ faults (.vmul g t f []) ∧ faults (.vfma g t f []) ∧
      faults (.vmax g t f []) ∧ faults (.vmin g t f []) ∧ faults (.vabs g t f []) ∧ faults (.vexp2 g t f []) ∧
      faults (.vlog2 g t f []) ∧ faults (.vrcp g t f []) ∧ faults (.vrsq g t f [])) ∧
    (∀ f : VecFields, f.fz.toNat < 2 → f.rmode.toNat ≠ 3 → (x.reg f.rn).toNat % 64 ≠ 0 →
      refused (.vadd g t f []) ∧ refused (.vsub g t f []) ∧ refused (.vmul g t f []) ∧ refused (.vfma g t f []) ∧
      refused (.vmax g t f []) ∧ refused (.vmin g t f []) ∧ refused (.vabs g t f []) ∧ refused (.vexp2 g t f []) ∧
      refused (.vlog2 g t f []) ∧ refused (.vrcp g t f []) ∧ refused (.vrsq g t f []))

/-- R125, R126: the element-wise vector operations on n elements, a multiple of 64, whose sources and result lie in local
memory. Under RNE and RTZ the result is the binary32 value of the operation, VABS, VMAX and VMIN being exact, rounded once
into the output format; under every rounding mode only the 2n result bytes of memory change and the thread goes on. An
instruction under SR whose stream's lanes hold too few bits is held: no thread and no byte of memory changes (R237). -/
def Obligations.VectorElementwise : Prop :=
  ∀ (s : State) (g : CoreN) (t : Thr) (f : VecFields), Issues s.dev g t →
    let x := s.dev.thread g t
    let n := (x.reg f.rn).toNat
    let zo := Device.localAddr g (x.reg f.rz).toNat
    let xs := srcVals s.dev g f.fx.toNat (x.reg f.rx) n
    let ys := srcVals s.dev g f.fy.toNat (x.reg f.ry) n
    let ws := srcVals s.dev g f.fy.toNat (x.reg f.rw) n
    let q (v : Machine.Num) := (roundTo (outTarget f.fz.toNat f.sat) (rmodeOf f.rmode.toNat) (s.dev.force 0x1901 1) 0 v).bits
    let writes (c : Instr) (vs : List Machine.Num) := Completes c s (fun d =>
      if vecHeld s.dev g x.handle (outTarget f.fz.toNat f.sat) (rmodeOf f.rmode.toNat) vs then
        d.mem = s.dev.mem ∧ ∀ h u, d.thread h u = s.dev.thread h u
      else
        d.thread g t = { x with pc := x.pc + 1 } ∧ (∀ a, a < zo ∨ zo + 2 * n ≤ a → d.byteAt a = s.dev.byteAt a) ∧
        (f.rmode.toNat ≠ 1 → d.bytes zo (2 * n) = packElems 16 (vs.map q)))
    f.fz.toNat < 2 → f.rmode.toNat ≠ 3 → n % 64 = 0 → spanBad (x.reg f.rz).toNat 2 n = false →
    srcBad f.fx.toNat (x.reg f.rx).toNat n = false →
    (writes (.vabs g t f []) (xs.map vAbs) ∧ writes (.vexp2 g t f []) (xs.map vExp2) ∧ writes (.vlog2 g t f []) (xs.map vLog2) ∧
      writes (.vrcp g t f []) (xs.map vRcp) ∧ writes (.vrsq g t f []) (xs.map vRsq)) ∧
    (srcBad f.fy.toNat (x.reg f.ry).toNat n = false →
      writes (.vadd g t f []) (List.zipWith (fun a b => r32 (a.add b)) xs ys) ∧
      writes (.vsub g t f []) (List.zipWith (fun a b => r32 (a.add b.neg)) xs ys) ∧
      writes (.vmul g t f []) (List.zipWith (fun a b => r32 (a.mul b)) xs ys) ∧
      writes (.vmax g t f []) (List.zipWith vMax xs ys) ∧ writes (.vmin g t f []) (List.zipWith vMin xs ys) ∧
      (srcBad f.fy.toNat (x.reg f.rw).toNat n = false →
        writes (.vfma g t f []) ((List.zip xs (List.zip ys ws)).map (fun p => r32 ((p.1.mul p.2.1).add p.2.2)))))

/-- R126; R62, R63: The reductions put the binary32 result into RZ[31:0] and change no byte of memory: VRSUM the sum by
the tree of groups of 64, VRMAX the largest magnitude. RZ[63:32] is a free value (log entry 20). WUPD adds the deltas to
the stored weights with their carries. Under RNE each weight becomes the target rounded into E8M7 and its carry the
remainder; under both legal modes only the weights and the carries change. One under SR whose stream's lanes hold too few
bits is held: no thread and no byte of memory changes (R237). -/
def Obligations.ReductionsAndWeightUpdate : Prop :=
  (∀ (s : State) (g : CoreN) (t : Thr) (f : VecFields), Issues s.dev g t →
    let x := s.dev.thread g t
    let n := (x.reg f.rn).toNat
    let xs := srcVals s.dev g f.fx.toNat (x.reg f.rx) n
    let puts (c : Instr) (v : Machine.Num) := Completes c s (fun d => d.mem = s.dev.mem ∧ goesOn x (d.thread g t) ∧
      (f.rz.val ≠ 0 → ((d.thread g t).reg f.rz).setWidth 32 = BitVec.ofNat 32 (toF32 v)) ∧
      ∀ r, r ≠ f.rz → (d.thread g t).reg r = x.reg r)
    f.fz.toNat ≠ 2 → f.rmode.toNat ≠ 3 → n % 64 = 0 → srcBad f.fx.toNat (x.reg f.rx).toNat n = false →
    puts (.vrsum g t f []) (vrsum xs) ∧ puts (.vrmax g t f []) (xs.foldl (fun m v => vMax m (vAbs v)) Machine.Num.zero)) ∧
  ∀ (s : State) (g : CoreN) (t : Thr) (f : VecFields), Issues s.dev g t →
    let x := s.dev.thread g t
    let n := (x.reg f.rn).toNat
    let wo := Device.localAddr g (x.reg f.rx).toNat
    let co := Device.localAddr g (x.reg f.ry).toNat
    let wb := s.dev.bytes wo (2 * n)
    let cb := s.dev.bytes co n
    let ts := (srcVals s.dev g f.fy.toNat (x.reg f.rz) n).zipIdx.map
      (fun di => storeWeightTarget (elemAt wb 16 di.2) (elemAt cb 8 di.2) di.1)
    let ws := ts.map (fun v => (roundTo stateTarget .rne (s.dev.force 0x1901 1) 0 v).bits)
    f.rmode.toNat < 2 → f.fz.toNat ≠ 2 → n % 64 = 0 → spanBad (x.reg f.rx).toNat 2 n = false →
    spanBad (x.reg f.ry).toNat 1 n = false → srcBad f.fy.toNat (x.reg f.rz).toNat n = false →
    Completes (.wupd g t f []) s (fun d =>
      if vecHeld s.dev g x.handle stateTarget (rmodeOf f.rmode.toNat) ts then
        d.mem = s.dev.mem ∧ ∀ h u, d.thread h u = s.dev.thread h u
      else d.thread g t = { x with pc := x.pc + 1 } ∧
      (∀ a, (a < wo ∨ wo + 2 * n ≤ a) → (a < co ∨ co + n ≤ a) → d.byteAt a = s.dev.byteAt a) ∧
      (f.rmode.toNat = 0 → d.bytes co n = packElems 8 ((ts.zip ws).map (fun p => (carryOf p.1 p.2).1)) ∧
        (co + n ≤ wo ∨ wo + 2 * n ≤ co → d.bytes wo (2 * n) = packElems 16 ws)))

/-! ### What happens in a core without an instruction -/

/-- R110, R112, R123, R129, R131: the ends of waits. A thread goes on at its next instruction when what it waits for is
there; from a full queue it issues the same instruction again. Only the waiting threads change. -/
def Obligations.EndsOfWaits : Prop :=
  ∀ (s : State) (g : CoreN) (t : Thr) (grp : Grp),
    let x := s.dev.thread g t
    let only (c : Instr) (y : Thread) := Completes c s (fun d => d.thread g t = y ∧ d.mem = s.dev.mem ∧
      ∀ h u, (h, u) ≠ (g.val, t.val) → d.thread h u = s.dev.thread h u)
    let woken (y : Thread) (k : BitVec 13) : Thread := { y with st := .ready, pc := y.pc + k, sinceNs := s.dev.time.nowNs }
    (∀ q, x.st = .waitQueue q → queueFree (s.dev.core g) q = true → only (.queueEntryFreed g t) (woken x 0)) ∧
    (x.pc ≠ 8191 →
      (∀ sc tgt, x.st = .waitSync sc tgt → 0 ≤ ((s.dev.core g).counter sc - tgt).toInt →
        only (.waitSyncSatisfied g t) (woken x 1)) ∧
      (x.st = .waitMem → (s.dev.core g).moveq.any (fun e => e.thread == some t.val) = false → only (.fenceComplete g t) (woken x 1)) ∧
      (∀ off v, x.st = .waitWatch off v → BitVec.ofNat 64 (s.dev.load (Device.storeAddr (g / 16) off) 8) ≠ v →
        only (.watchWake g t []) (woken x 1))) ∧
    ((Map.get {} (s.dev.core g).groups grp.val).live = true →
      (∀ u ∈ unhalted (s.dev.core g) grp, (s.dev.thread g u).st = .waitBar ∧ (s.dev.thread g u).pc ≠ 8191) →
      Completes (.barrierRelease g grp) s (fun d => d.mem = s.dev.mem ∧ ∀ u, d.thread g u =
        if u ∈ unhalted (s.dev.core g) grp then woken (s.dev.thread g u) 1
        else s.dev.thread g u)) ∧
    ((∀ u, u < 1024 → (s.dev.thread g u).pc ≠ 8191) →
      Completes (.phaseStampReached g) s (fun d => d.mem = s.dev.mem ∧ ∀ u, u < 1024 →
        (∀ st, (s.dev.thread g u).st = .waitPhase st → 0 ≤ (s.dev.stamp - st).toInt →
          d.thread g u = woken (s.dev.thread g u) 1) ∧
        ((∀ st, (s.dev.thread g u).st = .waitPhase st → (s.dev.stamp - st).toInt < 0) → d.thread g u = s.dev.thread g u)))

/-- R77 to R79, R96, R99, R106: the first accumulate of an engine's queue, all its frames FULL and both operands
published, with no drain of its slots and no load of its table before it, leaves the queue. Its slot takes the products of
rows of A and columns of B; a CONT on a slot that does not hold the sum it continues raises 0x2022 and leaves the slot.
Memory changes only by reports that go out when the queue empties. -/
def Obligations.AccumulateCompletes : Prop :=
  ∀ (s : State) (g : CoreN) (e : Eng) (f : AccFields) (ra rb : W64) (h : W32) (i : Nat),
    let a := s.dev.gather g true (opDesc ra) f.fmtA.toNat f.widthA.toNat f.mode.toNat f.len.toNat
    let b := s.dev.gather g false (opDesc rb) f.fmtB.toNat f.widthB.toNat f.mode.toNat f.len.toNat
    let block := Device.accBlock f a b
    let q := (s.dev.core g).queue e
    let rest := q.eraseIdx i
    firstOp q EngOp.isAcc = some (i, .acc f ra rb h) → Device.tableAhead (q.take i) f = false →
    s.dev.drainAhead g e (q.take i) (Device.formSlots block f.slot) = false →
    (∀ fr ∈ a.frames ++ b.frames, (s.dev.frame g fr).st = .full) →
    s.dev.unpublished (g / 16) a.tsid = false → s.dev.unpublished (g / 16) b.tsid = false →
    Completes (.accumulateComplete g e []) s (fun d => (d.core g).queue e = rest ∧
      (∀ u, d.thread g u = s.dev.thread g u) ∧ (rest ≠ [] → d.mem = s.dev.mem) ∧
      match s.dev.accSlot g f a b block with
      | none => Raised 0x2022 s.dev d ∧ (d.core g).slots = (s.dev.core g).slots
      | some sl => ((d.core g).slot e f.slot).cells = s.dev.accCells g e f a b block sl ∧
          ((d.core g).slot e f.slot).a = sl.a ∧ ((d.core g).slot e f.slot).b = sl.b)

/-- R78, R85, R86, R99, R116, R119, R153, R189: the first drain of an engine's queue whose output frame is open, whose
addend frame is FULL with its SUB inside the tile and its line published, whose output line is there and whose slots no
accumulate before it uses leaves the queue. Its sub-block takes the slot's values with the addend, each times Q, rounded
into the output format; with PUB the frame becomes FULL and its header's CRC holds; CLEAR empties the slot; SC[CNT] rises
by 1. While more is queued and the report buffer has room, memory changes only in the sub-block and, with PUB, in the
header. Stated for RNE and RTZ, which wait for no random bits. -/
def Obligations.DrainCompletes : Prop :=
  ∀ (s : State) (g : CoreN) (e : Eng) (f : DrainFields) (ro rd : W64) (h : W32) (l : Line) (since : Nat)
    (late : Bool) (i : Nat),
    let o := outDesc ro
    let fr := s.dev.frame g o.frame
    let sl0 := (s.dev.core g).slot e f.slot
    let sl := if sl0.valid then sl0 else { sl0 with cells := List.replicate 256 {}, block := false }
    let tg : Target := { fmt := f.fmtOut.toNat, width := f.widthOut.toNat, signed := !s.dev.tensorUnsigned o.tsid, sat := f.sat }
    let q (v : Machine.Num) : Machine.Num := match v with
      | .fin .. => v.mul (e8m7 (if l.ok then l.q else 0x3F80))
      | v => v
    let es := (s.dev.drainValues g sl f (outDesc rd)).map (fun v =>
      (roundTo tg (rmodeOf f.rmode.toNat) (s.dev.force 0x1901 1) 0 (q v)).bits)
    let cb := contBits f.fmtOut.toNat f.widthOut.toNat
    let fa := Device.localAddr g (4096 * o.frame)
    let pa := fa + o.sub * (32 * cb)
    let ha := Device.localAddr g (0xF0000 + 16 * o.frame)
    let qu := (s.dev.core g).queue e
    let rest := qu.eraseIdx i
    firstOp qu EngOp.isDrain = some (i, .drain f ro rd h l since late) →
    s.dev.accAhead g (qu.take i) (Device.formSlots sl0.block f.slot) = false →
    fr.st ≠ .full → fr.fill = false → (f.add = true → (s.dev.frame g (outDesc rd).frame).st = .full ∧
      s.dev.addendBad g (outDesc rd) = false ∧ s.dev.unpublished (g / 16) (s.dev.addHdr g (outDesc rd)).tsid = false) →
    (s.dev.lineWaits (g / 16) o.tsid l = false ∨ late = true) → f.rmode.toNat ≠ 1 →
    Completes (.drainComplete g e []) s (fun d => (d.core g).queue e = rest ∧
      (∀ u, d.thread g u = s.dev.thread g u) ∧
      d.frame g o.frame = { fr with st := if o.pub then .full else .opened } ∧
      (1 ≤ f.fmtOut.toNat → f.fmtOut.toNat < 8 → reservedFmt f.fmtOut.toNat f.widthOut.toNat = false → o.frame < 240 →
        o.sub < subCount cb → rest ≠ [] → (Map.get [] (s.dev.core g).reports e.val).length < 4 →
        d.bytes pa (32 * cb) = packElems cb es ∧ (o.pub = true → crcOk (d.bytes fa 4096) (d.bytes ha 16) = true) ∧
        ∀ a, (a < pa ∨ pa + 32 * cb ≤ a) → (o.pub = false ∨ a < ha ∨ ha + 16 ≤ a) → d.byteAt a = s.dev.byteAt a) ∧
      (f.clear = true → (d.core g).slot e f.slot = {}) ∧
      (f.clear = false → (d.core g).slots = (s.dev.core g).slots) ∧
      (∀ i, i < 64 → (d.core g).counter i =
        if i = f.cnt.val ∧ i ≠ 0 then (s.dev.core g).counter i + 1 else (s.dev.core g).counter i))

/-- R94 to R96; R106, R189, R191: The first table load of an engine's queue, with no log accumulate before it that uses
its table, leaves it; its slot takes the record's eight entries where each lies within 2^-8 of 2^(f/8), and otherwise the
default table with event 0x2021; a record beyond the store reads as zeros with event 0x4008 (R31). SC[CNT] rises by 1. A
requested release of a FULL frame that nobody reads takes effect; a written line is read again by every queued drain that
waited for it; a drain or a conversion that has waited SCALE_WAIT_LIMIT goes on late with event 0x2106; a buffered report
goes to its line's maximum and saturation count. -/
def Obligations.TablesFramesAndReports : Prop :=
  (∀ (s : State) (g : CoreN) (e : Eng) (f : TableFields) (off : W64) (i : Nat),
    let q := (s.dev.core g).queue e
    let rest := q.eraseIdx i
    let here := off.toNat < 0x1000000
    let ts := (List.range 8).map (fun n =>
      if here then s.dev.load (Device.storeAddr (g / 16) off.toNat + 2 * n) 2 % 4096 else 0)
    firstOp q EngOp.isTable = some (i, .table f off) →
    (∀ x ra rb h, .acc x ra rb h ∈ q.take i → x.mode.toNat = 3 → x.table ≠ f.slot) →
    Completes (.tableLoadComplete g e []) s (fun d => (d.core g).queue e = rest ∧ (¬ here → Raised 0x4008 s.dev d) ∧
      (d.core g).table e f.slot = (if tableOk ts then ts else defaultTable) ∧
      (tableOk ts = false → Raised 0x2021 s.dev d) ∧
      (∀ i, i < 64 → (d.core g).counter i =
        if i = f.cnt.val ∧ i ≠ 0 then (s.dev.core g).counter i + 1 else (s.dev.core g).counter i))) ∧
  ∀ (s : State) (g : CoreN) (e : Eng) (fr : Fin 240) (k : Cluster) (tsid : BitVec 16),
    ((s.dev.frame g fr).st = .full → (s.dev.frame g fr).release = true → (s.dev.frame g fr).reads = 0 →
      (s.dev.frame g fr).carousel = false →
      Completes (.frameRelease g fr) s (fun d => d.frame g fr = {} ∧ (∀ o, o ≠ fr.val → d.frame g o = s.dev.frame g o) ∧
        d = { s.dev with cores := d.cores })) ∧
    (∀ f ro rd h l since i, firstOp ((s.dev.core g).queue e) EngOp.isDrain = some (i, .drain f ro rd h l since false) →
      s.dev.lineWaits (g / 16) (outDesc ro).tsid l = true → s.dev.scaleWaited since = true →
      Completes (.scaleWaitLimit (.eng g e)) s (fun d =>
        (d.core g).queue e = ((s.dev.core g).queue e).set i (.drain f ro rd h l since true) ∧
        Raised 0x2106 s.dev d ∧ d.mem = s.dev.mem)) ∧
    (∀ j, (s.dev.clu k).cvt = some j → j.worked = false → j.late = false →
      s.dev.lineWaits k (fieldB j.desc 0x30 2) (s.dev.line k (fieldB j.desc 0x30 2)) = true → s.dev.scaleWaited j.since = true →
      Completes (.scaleWaitLimit (.cvt k)) s (fun d => (d.clu k).cvt = some { j with late := true } ∧
        Raised 0x2106 s.dev d ∧ d.mem = s.dev.mem)) ∧
    Completes (.scaleLineWritten k tsid []) s (fun d => d = { s.dev with cores := d.cores } ∧
      ∀ l q, l < 16 → q < 8 → (d.core (16 * k + l)).queue q =
        ((s.dev.core (16 * k + l)).queue q).map (rereadOp s.dev k tsid.toNat)) ∧
    (∀ r, (Map.get [] (s.dev.core g).reports e.val).find? (fun r => r.tsid == tsid.toNat) = some r →
      tsid.toNat < s.dev.num 0x7050 2 (g / 16 + 1) →
      let a := Device.storeAddr (g / 16) (s.dev.num 0x7050 1 (g / 16 + 1) + 128 * tsid.toNat + 64)
      Completes (.scaleReportFlush g e tsid) s (fun d => d.load a 4 = max (s.dev.load a 4) r.smax % 2 ^ 32 ∧
        d.load (a + 4) 4 = (s.dev.load (a + 4) 4 + r.sats) % 2 ^ 32 ∧
        (∀ x, x < a ∨ a + 8 ≤ x → d.byteAt x = s.dev.byteAt x)))

/-- R132 to R137, R141: a poll of an attached list that is due, the lists before it not, takes its one published record
whose time has come and starts NTHR threads at ENTRY; on an empty list it claims nothing. A launch group whose threads
have all halted or faulted writes STATE 3, or 5 where one faulted, adds 1 to DONE and to SC[DONECNT] and is no longer
live; a thread that has waited CORE_HANG_LIMIT beyond its record's deadline and since it began to wait fails its core. -/
def Obligations.WorkLists : Prop :=
  ∀ (s : State) (g : CoreN) (t : Thr) (l : Fin 4) (grp : Grp),
    let hdr := s.dev.num 0x7021 (l + 1) (g + 1)
    let ha := Device.storeAddr (g / 16) hdr
    let y := Map.get {} (s.dev.core g).groups grp.val
    let ra := Device.storeAddr (g / 16) y.recOff
    let da := Device.storeAddr (g / 16) (y.header + 0x44)
    let h := listHdr s.dev (g / 16) hdr
    let o := h.base + h.head % h.cap * 64
    let a := Device.storeAddr (g / 16) o
    let r := parseRec (s.dev.bytes a 64)
    (hdr ≠ 0xFFFFFFFF → s.dev.planRuns = true → (s.dev.core g).failed = false → s.dev.coreUp g = true →
      hdr + 128 ≤ 0x1000000 → bitOf h.claimers (g % 16) = true → s.dev.pollDue g l = true →
      (∀ i, i < l.val → s.dev.pollDue g i = false) →
      (h.head = h.tail → Completes (.workListPoll g l []) s (fun d => d.mem = s.dev.mem ∧
        (∀ u, d.thread g u = s.dev.thread g u) ∧
        Map.get none (d.core g).armed l.val = none ∧ Map.get false (d.core g).lack l.val = false)) ∧
      (h.tail = (h.head + 1) % 2 ^ 32 → o + 64 ≤ 0x1000000 → o + 64 ≤ hdr ∨ hdr + 128 ≤ o → recBad r h.head = false →
        r.kind = 0 → r.nthr ≤ (s.dev.freeThreads g).length → (s.dev.liveGroups g).length < 64 →
        0 ≤ (s.dev.stamp - r.notBefore).toInt → Completes (.workListPoll g l []) s (fun d =>
          d.load (ha + 0x40) 4 = (h.head + 1) % 2 ^ 32 ∧ d.byteAt (a + 4) = 2 ∧ d.load (a + 0x38) 2 = g % 16 ∧
          (∀ u ∈ (s.dev.freeThreads g).take r.nthr, (d.thread g u).st = .ready ∧ (d.thread g u).pc = BitVec.ofNat 13 r.entry) ∧
          ∀ u, u ∉ (s.dev.freeThreads g).take r.nthr → d.thread g u = s.dev.thread g u))) ∧
    (y.live = true → unhalted (s.dev.core g) grp = [] →
      Completes (.launchGroupComplete g grp []) s (fun d => (Map.get {} (d.core g).groups grp.val).live = false ∧
        (∀ u, d.thread g u = s.dev.thread g u) ∧
        (y.recOff + 64 ≤ 0x1000000 → da + 4 ≤ ra + 4 ∨ ra + 5 ≤ da → d.byteAt (ra + 4) = if y.faulted then 5 else 3) ∧
        (ra + 4 < da ∨ da + 4 ≤ ra + 4 → d.load da 4 = (s.dev.load da 4 + 1) % 2 ^ 32) ∧
        (∀ a, a ≠ ra + 4 → (a < da ∨ da + 4 ≤ a) → d.byteAt a = s.dev.byteAt a) ∧
        (∀ i, i < 64 → (d.core g).counter i =
          if i = y.doneCnt % 64 ∧ i ≠ 0 then (s.dev.core g).counter i + 1 else (s.dev.core g).counter i))) ∧
    (s.dev.hangs g t = true → (s.dev.core g).failed = false →
      Completes (.coreHangLimit g t) s (fun d => (d.core g).failed = true ∧ Raised 0x8010 s.dev d ∧ d.mem = s.dev.mem ∧
        (∀ u, (d.thread g u).st = .free) ∧ (∀ q i, ((d.core g).slot q i).valid = false) ∧
        ∀ h, h ≠ g.val → d.core h = s.dev.core h))

/-! ### Micro-sequencers -/

/-- R168, R170: the register results of a running micro-sequencer. RB + IMM is formed first; shifts take its low five
bits. Register 0 stays 0 and the 8-bit PC wraps. -/
def Obligations.SequencerRegisterResults : Prop :=
  ∀ (s : State) (q : Sq) (rd a b : Reg) (imm : BitVec 14) (i18 : BitVec 18) (i16 : BitVec 16),
    SqIssues s.dev q →
    let x := s.dev.sq q
    let y := x.reg b + imm.signExtend 32
    WritesSq (.seqMovi q rd i18) s q rd (i18.signExtend 32) ∧
    WritesSq (.seqMovhi q rd i16) s q rd (i16 ++ (x.reg rd).setWidth 16) ∧
    WritesSq (.seqAdd q rd a b imm) s q rd (x.reg a + y) ∧
    WritesSq (.seqSub q rd a b imm) s q rd (x.reg a - y) ∧
    WritesSq (.seqAnd q rd a b imm) s q rd (x.reg a &&& y) ∧
    WritesSq (.seqOr q rd a b imm) s q rd (x.reg a ||| y) ∧
    WritesSq (.seqXor q rd a b imm) s q rd (x.reg a ^^^ y) ∧
    WritesSq (.seqShl q rd a b imm) s q rd (x.reg a <<< (y.toNat % 32)) ∧
    WritesSq (.seqShr q rd a b imm) s q rd (x.reg a >>> (y.toNat % 32)) ∧
    WritesSq (.sltu q rd a b imm) s q rd (if (x.reg a).toNat < y.toNat then 1 else 0) ∧
    WritesSq (.seqRdph q rd) s q rd s.dev.stamp ∧
    WritesSq (.seqNop q) s q 0 0

/-- R168, R170, R317: LD, ST and AADD inside the store an instance works on: its cluster's store, or for the device
monitor, number 672, the 64 KiB health store, which no address of memory reaches; none crosses a 4 KiB boundary (R29). -/
def Obligations.SequencerMemory : Prop :=
  ∀ (s : State) (q : Sq) (rd a b : Reg) (imm : BitVec 14), SqIssues s.dev q →
    let x := s.dev.sq q
    let off := (x.reg a + imm.signExtend 32).toNat
    let ao := (x.reg a).toNat
    let cs (o : Nat) := Device.storeAddr (sqCluster q) o
    let old : W32 := BitVec.ofNat 32 (leNat (s.dev.seqBytes q ao 4))
    (off % 4 = 0 → off + 4 ≤ sqLimit q →
      WritesSq (.seqLd q rd a imm []) s q rd (BitVec.ofNat 32 (leNat (s.dev.seqBytes q off 4))) ∧
      (q.val ≠ 672 → Completes (.seqSt q a b imm) s (fun d => StoresBytes (cs off) 4 (x.reg b).toNat s.dev d ∧
        SqOnly q (stored s.dev d) d ∧ d.sq q = { x with pc := x.pc + 1 })) ∧
      (q.val = 672 → Completes (.seqSt q a b imm) s (fun d => d.mem = s.dev.mem ∧ d.sq q = { x with pc := x.pc + 1 } ∧
        ∀ o, Map.get 0 d.health.store o = if off ≤ o ∧ o < off + 4 then BitVec.ofNat 8 ((x.reg b).toNat / 256 ^ (o - off))
          else Map.get 0 s.dev.health.store o))) ∧
    (Device.seqBad q ao = false → q.val ≠ 672 →
      Completes (.seqAadd q rd a b []) s (fun d => StoresBytes (cs ao) 4 (old + x.reg b).toNat s.dev d ∧
        SqOnly q (stored s.dev d) d ∧ sqGoesOn x (d.sq q) ∧
        ∀ r, (d.sq q).reg r = if r = rd ∧ rd.val ≠ 0 then old else x.reg r)) ∧
    (Device.seqBad q ao = false → q.val = 672 →
      Completes (.seqAadd q rd a b []) s (fun d => d.mem = s.dev.mem ∧ sqGoesOn x (d.sq q) ∧
        (∀ r, (d.sq q).reg r = if r = rd ∧ rd.val ≠ 0 then old else x.reg r) ∧
        ∀ o, Map.get 0 d.health.store o = if ao ≤ o ∧ o < ao + 4 then BitVec.ofNat 8 ((old + x.reg b).toNat / 256 ^ (o - ao))
          else Map.get 0 s.dev.health.store o))

/-- R170, R173, R174: jumps, branches, waits, SIG and the end of a run. WAITW and WAITPH go on at once where what they
wait for is there. A misaligned LD or ST and a reserved operation raise 0x7023, stop the run at that instruction and clear
its pending entries. Every instruction of an instance that has run past its image acts as DONE (R175), and one of an
instance that does not run changes nothing. -/
def Obligations.SequencerControl : Prop :=
  (∀ (s : State) (c : Instr) (q : Sq), sequencer c = some q →
    ((s.dev.sq q).st ≠ .running → exec c s = .next s) ∧
    ((s.dev.sq q).st = .running → s.dev.seqInside q = false →
      exec c s = .next { s with dev := s.dev.setSq q { s.dev.sq q with st := .idle } })) ∧
  ∀ (s : State) (q : Sq) (rd a b : Reg) (imm : BitVec 14), SqIssues s.dev q →
    let x := s.dev.sq q
    let goes (c : Instr) (y : SqS) := Completes c s (fun d => SqOnly q s.dev d ∧ d.sq q = y)
    let pcTo (p : Bool) : SqS := { x with pc := if p then imm.setWidth 8 else x.pc + 1 }
    let faults (c : Instr) := Completes c s (fun d => Raised 0x7023 s.dev d ∧ d.mem = s.dev.mem ∧
      d.sq q = { x with st := .idle, pend := 0 } ∧ ∀ p, p ≠ q.val → d.sq p = s.dev.sq p)
    goes (.seqJ q imm) (pcTo true) ∧
    goes (.seqBeq q a b imm) (pcTo (decide (x.reg a = x.reg b))) ∧
    goes (.seqBne q a b imm) (pcTo (decide (x.reg a ≠ x.reg b))) ∧
    goes (.seqBltu q a b imm) (pcTo (decide ((x.reg a).toNat < (x.reg b).toNat))) ∧
    goes (.seqDone q) { x with st := .idle } ∧
    goes (.seqWaitph q a) (if 0 ≤ (s.dev.stamp - x.reg a).toInt then { x with pc := x.pc + 1 }
      else { x with st := .waitPhase (x.reg a) }) ∧
    (Device.seqBad q (x.reg a).toNat = false →
      goes (.waitw q a b imm []) (if 0 ≤ (BitVec.ofNat 32 (leNat (s.dev.seqBytes q (x.reg a).toNat 4)) - x.reg b).toInt
        then { x with pc := x.pc + 1 } else { x with st := .waitWord (x.reg a).toNat (x.reg b) })) ∧
    (q.val ≠ 672 → Completes (.seqSig q a imm) s (fun d => d.sq q = { x with pc := x.pc + 1 } ∧
      d = { s.dev with seqs := d.seqs, cores := d.cores } ∧
      ∀ l n, l < 16 → n < 64 → (d.core (16 * sqCluster q + l)).counter n =
        if bitOf ((x.reg a).toNat % 65536) l ∧ n = imm.toNat % 64 ∧ n ≠ 0 then
          (s.dev.core (16 * sqCluster q + l)).counter n + BitVec.ofNat 32 (imm.toNat / 64)
        else (s.dev.core (16 * sqCluster q + l)).counter n)) ∧
    faults (.seqFault q) ∧
    ((x.reg a + imm.signExtend 32).toNat % 4 ≠ 0 → faults (.seqLd q rd a imm []) ∧ faults (.seqSt q a b imm))

/-- R172, R173: a SEASON entry fires in its season and a STAMP entry from its position on, each once a step and while a
plan runs; an EVENT entry fires for a raise it has not followed; an entry already pending raises 0x7024. An idle instance
starts at its lowest pending entry with its number in a1 and the stamp in a2. What an instance waits on lets it go on. -/
def Obligations.SequencerTriggersAndRuns : Prop :=
  (evRow 0x7024).sev = 1 ∧
  ∀ (s : State) (q : Sq) (n : Fin 8),
    let x := s.dev.sq q
    let tr := s.dev.trigger q n
    let fires (c : Instr) := Completes c s (fun d => (d.sq q).pend = x.pend ||| BitVec.ofNat 8 (2 ^ n.val) ∧
      (d.sq q).regs = x.regs ∧ (d.sq q).pc = x.pc ∧ (d.sq q).st = x.st ∧ d.mem = s.dev.mem ∧
      (x.pend.getLsbD n = true → Raised 0x7024 s.dev d) ∧ (x.pend.getLsbD n = false → d = { s.dev with seqs := d.seqs }))
    let fresh := Map.get 0 x.fired n.val ≠ s.dev.cad.step + 1
    (tr.1 = 1 → tr.2.2 % 4 = s.dev.season → s.dev.planRuns = true → fresh → fires (.seasonTrigger q n)) ∧
    (tr.1 = 2 → tr.2.2 % 2 ^ 24 ≤ s.dev.cad.phase → s.dev.planRuns = true → fresh → fires (.stampTrigger q n)) ∧
    (tr.1 = 3 → Map.get 0 x.seen n.val < Map.get 0 s.dev.evt.raised (tr.2.2 % 65536) → fires (.eventTrigger q n)) ∧
    (x.st = .idle → x.pend.getLsbD n = true → (∀ i, i < n.val → x.pend.getLsbD i = false) →
      Completes (.seqRunStart q) s (fun d => d = { s.dev with seqs := d.seqs } ∧ (∀ p, p ≠ q.val → d.sq p = s.dev.sq p) ∧
        (∀ r, r ≠ 1 → r ≠ 2 → (d.sq q).reg r = x.reg r) ∧ (d.sq q).st = .running ∧ (d.sq q).pc = BitVec.ofNat 8 tr.2.1 ∧ (d.sq q).reg 1 = BitVec.ofNat 32 n.val ∧
        (d.sq q).reg 2 = s.dev.stamp ∧ (d.sq q).pend.getLsbD n = false ∧
        ∀ i, i < 8 → i ≠ n.val → (d.sq q).pend.getLsbD i = x.pend.getLsbD i)) ∧
    (let goes (y : SqS) := Completes (.seqWaitSatisfied q []) s (fun d => SqOnly q s.dev d ∧ d.sq q = y)
     let next : SqS := { x with st := .running, pc := x.pc + 1 }
     (∀ off v, x.st = .waitWord off v → 0 ≤ (s.dev.seqWord q off - v).toInt → goes next) ∧
     (∀ st, x.st = .waitPhase st → 0 ≤ (s.dev.stamp - st).toInt → goes next) ∧
     (x.st = .waitQueue → s.dev.moves q = [] → goes next) ∧
     (x.st = .waitRoom → (s.dev.moves q).length < 4 → goes { x with st := .running }))

/-! ### Stream engines and movers -/

/-- R157, R158, R165, R171: TMOVE, BMOVE and PASS enter the stream engine's move queue of 4, or wait for room; QWAIT waits
until it is empty. A TMOVE or BMOVE takes its descriptor from the cluster's store. -/
def Obligations.StreamQueue : Prop :=
  ∀ (s : State) (se : Se) (a b : Reg) (drop : Bool), SqIssues s.dev se →
    let x := s.dev.sq se
    let off := (x.reg a).toNat
    let da := Device.storeAddr (se / 4) off
    let joins (c : Instr) (e : MoveEnt) := Completes c s (fun d => d = { s.dev with movq := d.movq, seqs := d.seqs } ∧
      if (s.dev.moves se).length < 4 then d.moves se = s.dev.moves se ++ [e] ∧ d.sq se = { x with pc := x.pc + 1 }
      else d.moves se = s.dev.moves se ∧ d.sq se = { x with st := .waitRoom })
    (off + 64 ≤ 0x1000000 → Device.crosses da 64 = false → joins (.tmove se a []) (moveDesc (s.dev.bytes da 64))) ∧
    (off + 16 ≤ 0x1000000 → Device.crosses da 16 = false → (x.reg b).toNat % 64 = 0 → (x.reg b).toNat ≤ 4096 →
      joins (.bmove se a b []) { kind := .bytes, src := s.dev.load da 8, dst := s.dev.load (da + 8) 8, nbytes := (x.reg b).toNat }) ∧
    joins (.pass se a b drop) { kind := .pass drop, src := Device.localAddr (passCore (se / 4) (x.reg a)) (4096 * passFrame (x.reg a)), dst := Device.localAddr (passCore (se / 4) (x.reg b)) (4096 * passFrame (x.reg b)), srch := Device.localAddr (passCore (se / 4) (x.reg a)) (0xF0000 + 16 * passFrame (x.reg a)) } ∧
    Completes (.qwait se) s (fun d => SqOnly se s.dev d ∧
      d.sq se = if s.dev.moves se = [] then { x with pc := x.pc + 1 } else { x with st := .waitQueue })

/-- R153, R157, R158: a mover reads the next tile of its first unfinished entry, from an address in this device that no
frame holds into a frame that is EMPTY: the tile is in flight and the frame waits for its fill. It reads the beats that
the header asks for, all 32 of a dense tile; the rest of the payload is zeros (R252). -/
def Obligations.MoverReadsTile : Prop :=
  ∀ (s : State) (m : Mover) (e : MoveEnt) (rest : List MoveEnt) (g f low hlow : Nat),
    s.dev.mq m = e :: rest → e.kind = .tiles → e.miss = false → e.issued < e.count →
    s.dev.dstFrame m e e.issued = some (g, f) → (s.dev.frame g f).st = .empty → (s.dev.frame g f).fill = false →
    s.dev.srcFrame m e e.issued = none →
    s.dev.resolve (e.src + e.issued * e.sstride) = .here low → s.dev.seReach (moverCluster m) low 4096 = true →
    s.dev.resolve (e.srch + 16 * e.issued * e.sstride / 4096) = .here hlow → s.dev.seReach (moverCluster m) hlow 16 = true →
    Completes (.moverSourceRead m []) s (fun d => d.mem = s.dev.mem ∧
      (d.frame g f).fill = true ∧ (d.frame g f).st = .empty ∧
      d.mq m = { e with issued := e.issued + 1, flight := e.flight ++ [{ k := e.issued, payload := Device.padTile (s.dev.bytes low (beatBytes (s.dev.bytes low 128) (s.dev.bytes hlow 16))), header := s.dev.bytes hlow 16 }] } :: rest)

/-- R105, R153, R157, R159: the tile at the head of a mover's flight that passes its checks arrives in its frame: payload
and header are written, the frame becomes FULL, the tile counts as delivered and each core that the entry names counts it.
Stated for a tile without block scales; nothing else of memory changes. Of a compressed tile what lies beyond the beats of
its TOTAL arrives as zeros (R252). -/
def Obligations.TileArrives : Prop :=
  ∀ (s : State) (m : Mover) (e : MoveEnt) (rest : List MoveEnt) (fl : InFlight) (more : List InFlight) (g f : Nat),
    let pa := Device.localAddr g (4096 * f)
    let ha := Device.localAddr g (0xF0000 + 16 * f)
    let p := seenPayload fl.payload fl.header
    s.dev.mq m = e :: rest → e.kind = .tiles → e.trans = false → e.flight = fl :: more → fl.await = [] →
    s.dev.dstFrame m e fl.k = some (g, f) → s.dev.srcFrame m e fl.k = none → tileCheck p fl.header = none →
    (parseHdr fl.header).bsi = 0xFFFFFFFF → fl.payload.length ≤ 4096 → fl.header.length = 16 → f < 240 →
    Completes (if fl.refetch then .tileRefetchComplete m [] else .tileDeliveryComplete m []) s (fun d =>
      (d.frame g f).st = .full ∧ (d.frame g f).poison = false ∧ d.bytes pa p.length = p ∧ d.bytes ha 16 = fl.header ∧
      (∀ a, (a < pa ∨ pa + 4096 ≤ a) → (a < ha ∨ ha + 16 ≤ a) → d.byteAt a = s.dev.byteAt a) ∧
      d.mq m = { e with done := e.done + 1, flight := more } :: rest ∧
      ∀ l n, l < 16 → n < 64 → (d.core (16 * moverCluster m + l)).counter n =
        if bitOf e.score l ∧ n = e.scnt % 64 ∧ n ≠ 0 then (s.dev.core (16 * moverCluster m + l)).counter n + 1
        else (s.dev.core (16 * moverCluster m + l)).counter n)

/-- R154, R254; R157, R165: A tile that fails its CRC is read once more and counted as retried; where the refetched tile
fails its CRC as well, the frame becomes FULL and poisoned and 0x4001 is raised. A PASS with DROP empties its carousel
frame once that frame's release has taken effect; an entry all of whose tiles are delivered and acknowledged leaves the
head of its queue. -/
def Obligations.BadTilesAndMoveEnds : Prop :=
  (∀ (s : State) (m : Mover) (e : MoveEnt) (rest : List MoveEnt) (fl : InFlight) (more : List InFlight) (g f : Nat),
    s.dev.mq m = e :: rest → e.kind = .tiles → e.flight = fl :: more → fl.await = [] →
    s.dev.dstFrame m e fl.k = some (g, f) → s.dev.srcFrame m e fl.k = none → tileCheck (seenPayload fl.payload fl.header) fl.header = some .crc →
    (fl.refetch = false → Completes (.tileDeliveryComplete m []) s (fun d => d.mem = s.dev.mem ∧
      (d.clu (moverCluster m)).retry = (s.dev.clu (moverCluster m)).retry + 1 ∧
      ∃ y, y.k = fl.k ∧ y.refetch = true ∧ d.mq m = { e with flight := y :: more } :: rest)) ∧
    (fl.refetch = true → Completes (.tileRefetchComplete m []) s (fun d => (d.frame g f).st = .full ∧
      (d.frame g f).poison = true ∧ Raised 0x4001 s.dev d ∧ d.mq m = { e with done := e.done + 1, flight := more } :: rest))) ∧
  ∀ (s : State) (se : Se) (m : Mover) (e : MoveEnt) (rest : List MoveEnt) (g f g' f' : Nat),
    (s.dev.moves se = e :: rest → e.kind = .pass true → e.done = 0 →
      s.dev.frameOfAddr (se / 4) e.src = some (g, f) → s.dev.frameOfAddr (se / 4) e.dst = some (g', f') →
      (s.dev.frame g f).st = .full → (s.dev.frame g f).release = true → (s.dev.frame g f).reads = 0 →
      (s.dev.core g).failed = false → Completes (.carouselPassExecute se []) s (fun d => d.frame g f = {} ∧ d.mem = s.dev.mem ∧
        d.moves se = { e with issued := 1, done := 1, flight := [] } :: rest ∧
        d.num 0x1841 7 = (s.dev.num 0x1841 7 + 1) % 2 ^ 64)) ∧
    (s.dev.mq m = e :: rest → e.count ≤ e.done → e.flight = [] → e.wr = 0 →
      Completes (.moveDone m) s (fun d => d.mq m = rest ∧ d = { s.dev with cores := d.cores, movq := d.movq }))

/-! ### Scale trackers, converters, reduction engines, table builders -/

/-- R192, R194: SPUB gives 2 for a line that is not readable and 1 for one whose home is elsewhere, and changes nothing
but its register; at home it gives 0, takes SMAX and SATCNT, and leaves a line whose CRC holds and whose step is RB + 1.
SRST clears SMAX and SATCNT of the local line and nothing else of memory. -/
def Obligations.ScalePublication : Prop :=
  ∀ (s : State) (k : Cluster) (rd a b : Reg), SqIssues s.dev (trackerSq k) →
    let q := trackerSq k
    let x := s.dev.sq q
    let t := (x.reg a).toNat % 65536
    let l := s.dev.line k t
    let la := Device.storeAddr k (s.dev.lineOff k t)
    (l.ok = false → WritesSq (.spub k rd a b []) s q rd 2) ∧
    (l.ok = true → l.home ≠ k.val → WritesSq (.spub k rd a b []) s q rd 1) ∧
    (l.ok = true → l.home = k.val → Completes (.spub k rd a b []) s (fun d => sqGoesOn x (d.sq q) ∧
      (∀ r, (d.sq q).reg r = if r = rd ∧ rd.val ≠ 0 then 0 else x.reg r) ∧
      (d.line k t).ok = true ∧ (d.line k t).pstep = ((x.reg b).toNat + 1) % 65536 ∧
      d.load (la + 64) 4 = 0 ∧ d.load (la + 68) 4 = 0)) ∧
    (t < s.dev.num 0x7050 2 (k + 1) → Completes (.srst k a []) s (fun d => d.sq q = { x with pc := x.pc + 1 } ∧
      StoresBytes (la + 64) 8 0 s.dev d ∧ d = { s.dev with mem := d.mem, seqs := d.seqs }))

/-- R197, R203, R210, R212: the descriptor rings. An idle engine takes the next published descriptor of its rings in turn;
one that breaks the rules is refused with the engine's event, and DONE of its ring rises by 1 all the same. A refused
table builder descriptor leaves the default table at its destination. -/
def Obligations.RingsTakeDescriptors : Prop :=
  ∀ (s : State) (k : Cluster) (r : Nat),
    let takes (c : Instr) (code : Nat) (h0 : Nat) (bad : Bool) (held : Device → Option Job) (j : Job) :=
      Completes c s (fun d => if bad then Raised code s.dev d ∧ held d = none ∧
          d.load (Device.storeAddr k (h0 + 64 * r + 0x24)) 4 =
            (s.dev.load (Device.storeAddr k (h0 + 64 * r + 0x24)) 4 + 1) % 2 ^ 32
        else held d = some j ∧ d.mem = s.dev.mem)
    (let h0 := s.dev.num 0x7050 3 (k + 1)
     let j := s.dev.ringJob k h0 r 128
     h0 ≠ 0xFFFFFFFF → (s.dev.clu k).cvt = none → s.dev.ringNext k h0 4 (s.dev.clu k).cvtNext = some r →
      takes (.converterTake k []) 0x2103 h0 (s.dev.cvtBad k (s.dev.ringSeq k h0 r) j.desc) (fun d => (d.clu k).cvt) j) ∧
    (let h0 := s.dev.num 0x7050 7 (k + 1)
     let j := s.dev.ringJob k h0 r 128
     h0 ≠ 0xFFFFFFFF → (s.dev.clu k).red = none → s.dev.ringNext k h0 4 (s.dev.clu k).redNext = some r →
      takes (.reductionTake k []) 0x2114 h0 (s.dev.redBad k (s.dev.ringSeq k h0 r) j.desc) (fun d => (d.clu k).red) j) ∧
    (let h0 := s.dev.num 0x7050 9 (k + 1)
     let j := s.dev.ringJob k h0 r 32
     let t := parseLtb j.desc
     let ta := Device.storeAddr k t.dst
     let da := Device.storeAddr k (h0 + 64 * r + 0x24)
     h0 ≠ 0xFFFFFFFF → (s.dev.clu k).ltb = none → s.dev.ringNext k h0 1 0 = some r →
      (ltbBad s.dev k (s.dev.ringSeq k h0 r) j.desc = false →
        takes (.tableRingTake k []) 0x2115 h0 false (fun d => (d.clu k).ltb) j) ∧
      (ltbBad s.dev k (s.dev.ringSeq k h0 r) j.desc = true → da + 4 ≤ ta ∨ ta + 16 ≤ da →
        Completes (.tableRingTake k []) s (fun d => Raised 0x2115 s.dev d ∧ (d.clu k).ltb = none ∧
          d.load da 4 = (s.dev.load da 4 + 1) % 2 ^ 32 ∧
          (t.dst + 16 ≤ 0x1000000 → d.bytes ta 16 = tableRecord [2048, 2233, 2435, 2656, 2896, 3158, 3444, 3756]))))

/-- R185, R189, R200, R208; R197, R199, R211: A taken descriptor whose scales are published, whose random bits are
prepared and whose input tiles have passed or been read twice is carried out once: its output stands in memory and the
engine waits to complete it. The completion of descriptors: DONE of the ring rises by 1, the sync counter named rises on
the cores named, the engine's counter rises by 1 and the engine is free. The log-table builder writes its record first:
the default table, a copy, or the scaled table. -/
def Obligations.DescriptorsRunAndComplete : Prop :=
  (∀ (s : State) (k : Cluster) (j : Job), j.worked = false →
    let c := parseCvt j.desc
    let l := s.dev.line k c.ztsid
    let l' : Line := if l.ok then l else { s := 0x3F80, q := 0x3F80 }
    let x := parseRed j.desc
    let nx := (s.dev.cvtIn k c c.xh).flatten.length
    let ny := if c.op = 0 then 0 else (s.dev.cvtIn k c c.yh).flatten.length
    let ts := (List.range x.nin).flatMap (fun i => tileOffs (x.xs.getD i 0) (x.xhs.getD i 0) x.tiles)
    let conv (i : Instr) (op : Nat) := c.op = op → Completes i s (fun d =>
      (∃ n, (d.clu k).cvt = some { j with worked := true, falls := n }) ∧ d.mem = (s.dev.convert k c l').mem)
    let red (i : Instr) (op : Nat) (out : Device) := x.op = op → Completes i s (fun d =>
      (d.clu k).red = some { j with worked := true } ∧ d.mem = out.mem)
    ((s.dev.clu k).cvt = some j → (s.dev.lineWaits k c.ztsid l = false ∨ j.late = true) →
      s.dev.inputWaits k c.xh nx = false → s.dev.inputWaits k c.yh ny = false →
      (rmodeOf c.rmode = .sr → noStream c.rstream = true ∨ s.dev.bitsReady k cvtUnit c.rstream (s.dev.force 0x1901 1) (fun _ => true) = true) →
      (c.rot ≠ 0 → noStream c.sstream = true ∨ s.dev.ctxReady k rotUnit c.sstream = true) →
      s.dev.firstReads k Device.cvtReads (tileOffs c.x c.xh nx ++ tileOffs c.y c.yh ny) = none →
      conv (.cvt k []) 0 ∧ conv (.axpby k []) 1 ∧ conv (.axpbySq k []) 2) ∧
    ((s.dev.clu k).red = some j → (∀ i, i < x.nin → s.dev.inputWaits k (x.xhs.getD i 0) x.tiles = false) →
      s.dev.firstReads k (fun h => redFmt h.fmt) ts = none →
      red (.sum k []) 0 (s.dev.redSum k x) ∧ red (.sumsq k []) 1 (s.dev.redSumsq k x) ∧
      red (.maxabs k []) 2 (s.dev.redMaxabs k x))) ∧
  ∀ (s : State) (k : Cluster) (j : Job),
    let doneAt (h0 : Nat) := Device.storeAddr k (h0 + 64 * j.ring + 0x24)
    let ends (c : Instr) (h0 sub cnt cores : Nat) (held : Device → Option Job) := Completes c s (fun d => held d = none ∧
      StoresBytes (doneAt h0) 4 ((s.dev.load (doneAt h0) 4 + 1) % 2 ^ 32) s.dev d ∧
      d.num 0x7050 sub (k + 1) = (s.dev.num 0x7050 sub (k + 1) + 1) % 2 ^ 64 ∧
      ∀ l n, l < 16 → n < 64 → (d.core (16 * k + l)).counter n =
        if bitOf cores l ∧ n = cnt % 64 ∧ n ≠ 0 then (s.dev.core (16 * k + l)).counter n + 1
        else (s.dev.core (16 * k + l)).counter n)
    let c := parseCvt j.desc
    let r := parseRed j.desc
    let t := parseLtb j.desc
    let ta := Device.storeAddr k t.dst
    let da := doneAt (s.dev.num 0x7050 9 (k + 1))
    let builds (i : Instr) (op : Nat) (ts : List Nat) := t.op = op → da + 4 ≤ ta ∨ ta + 16 ≤ da → ts.length = 8 →
      Completes i s (fun d => (d.clu k).ltb = none ∧ d.bytes ta 16 = tableRecord ts ∧
        d.load da 4 = (s.dev.load da 4 + 1) % 2 ^ 32 ∧
        (∀ a, (a < ta ∨ ta + 16 ≤ a) → (a < da ∨ da + 4 ≤ a) → d.byteAt a = s.dev.byteAt a))
    ((s.dev.clu k).cvt = some j → j.worked = true →
      ends (.cvtDescriptorDone k) (s.dev.num 0x7050 3 (k + 1)) 4 c.cnt c.cores (fun d => (d.clu k).cvt)) ∧
    ((s.dev.clu k).red = some j → j.worked = true →
      ends (.redDescriptorDone k) (s.dev.num 0x7050 7 (k + 1)) 8 r.cnt r.cores (fun d => (d.clu k).red)) ∧
    ((s.dev.clu k).ltb = some j →
      builds (.ltbDefault k) 0 [2048, 2233, 2435, 2656, 2896, 3158, 3444, 3756] ∧
      builds (.ltbCopy k []) 1 ((List.range 8).map (fun i => s.dev.load (Device.storeAddr k t.src + 2 * i) 2 % 4096)) ∧
      builds (.ltbScaled k []) 2 (scaledTable t.c))

/-! ### Random bits -/

/-- R233, R234, R237: mask jobs. A legal descriptor whose random bits are prepared is carried out: its tiles stand in
memory and the bank waits to complete it; an illegal one raises 0x2113 and is completed at once. DONE of the ring rises by
1 when a job is completed, and nothing but memory, sync counters and the bank changes. -/
def Obligations.MaskJobs : Prop :=
  ∀ (s : State) (k : Cluster),
    let h0 := s.dev.num 0x7060 5 (k + 1)
    let da := Device.storeAddr k (h0 + 0x24)
    let jn := s.dev.ringJob k h0 0 64
    let c := parseMask jn.desc
    (h0 ≠ 0xFFFFFFFF → (s.dev.clu k).mjob = none → s.dev.ringNext k h0 1 0 = some 0 →
      (maskBad s.dev k (s.dev.ringSeq k h0 0) jn.desc = false → s.dev.bitsReady k maskUnit c.handle 16 (fun _ => true) = true →
        Completes (.maskJob k []) s (fun d => (d.clu k).mjob = some { jn with worked := true } ∧
          d.mem = (maskRun s.dev k c).mem)) ∧
      (maskBad s.dev k (s.dev.ringSeq k h0 0) jn.desc = true →
        Completes (.maskJob k []) s (fun d => (d.clu k).mjob = none ∧ Raised 0x2113 s.dev d ∧
          StoresBytes da 4 ((s.dev.load da 4 + 1) % 2 ^ 32) s.dev d))) ∧
    ∀ j, (s.dev.clu k).mjob = some j → j.ring = 0 →
      Completes (.maskJobDone k) s (fun d => (d.clu k).mjob = none ∧
        StoresBytes da 4 ((s.dev.load da 4 + 1) % 2 ^ 32) s.dev d ∧
        d = { s.dev with mem := d.mem, cores := d.cores, clus := d.clus })

/-- R229, R235, R236: the contexts of a drawing unit. The next handle that its queued work names, where the stream table
has it, gets a shadow context with the seeds of the step, kept where it is prepared already; a refill gives 16 bits more
to each lane of the row that holds at most 16, of the current context or else of the shadow. Nothing else changes. -/
def Obligations.RngContexts : Prop :=
  ∀ (s : State) (k : Cluster) (u : Unit147),
    let x := s.dev.unitCtx k u
    let only (d : Device) := d = { s.dev with clus := d.clus }
    (∀ h e, (s.dev.queuedHandles k u).find? (fun h => (match x.cur with | some c => c.handle != h | none => true)) = some h →
      s.dev.stream k h = some e →
      Completes (.contextPrepared k u) s (fun d => only d ∧ (d.unitCtx k u).cur = x.cur ∧
        ((∃ c, x.shadow = some c ∧ c.handle = h ∧ c.step = s.dev.cad.step) → (d.unitCtx k u).shadow = x.shadow) ∧
        ((∀ c, x.shadow = some c → c.handle ≠ h ∨ c.step ≠ s.dev.cad.step) →
          (d.unitCtx k u).shadow = some (s.dev.deriveCtx h)))) ∧
    ∀ (row : Fin 16) (ctx : Ctx),
      let fills (c : Ctx) := c = { ctx with lanes := c.lanes } ∧ c.lanes.length = ctx.lanes.length ∧
        ∀ i, i < ctx.lanes.length → c.lanes.getD i {} =
          if i / 16 = row.val ∧ (ctx.lanes.getD i {}).n ≤ 16 then (ctx.lanes.getD i {}).refill else ctx.lanes.getD i {}
      (x.cur = some ctx → Completes (.rngRefillGrant k u row) s (fun d => only d ∧
        (d.unitCtx k u).shadow = x.shadow ∧ ∃ c, (d.unitCtx k u).cur = some c ∧ fills c)) ∧
      (x.cur = none → x.shadow = some ctx → Completes (.rngRefillGrant k u row) s (fun d => only d ∧
        (d.unitCtx k u).cur = none ∧ ∃ c, (d.unitCtx k u).shadow = some c ∧ fills c))

/-! ### Mask engine and predictor -/

/-- R261 to R266; R269 to R273: The operations of the mask engine. A legal job whose data tiles have passed or been read
twice is carried out, counted and gives 0; an illegal one raises 0x3004, changes no memory and gives 1. The predictor
takes the next descriptor; one that breaks the rules gets event 0x3006 and the default list of the first GMAX groups; a
completed descriptor's list stands at OUT before DONE of the ring rises. -/
def Obligations.MaskEngineAndPredictor : Prop :=
  (∀ (s : State) (k : Cluster) (rd a : Reg), SqIssues s.dev (maskSq k) →
    let q := maskSq k
    let x := s.dev.sq q
    let off := (x.reg a).toNat
    let c := parseMaskJob (s.dev.bytes (Device.storeAddr k off) 64)
    let gives (d : Device) (v : W32) := sqGoesOn x (d.sq q) ∧
      ∀ r, (d.sq q).reg r = if r = rd ∧ rd.val ≠ 0 then v else x.reg r
    let h := s.dev.maskHdr k c.srch
    let runs (i : Instr) (op : MaskOp) (out : Device) :=
      (s.dev.maskJobBad k off op = false →
        s.dev.firstReads k (fun _ => true) (Device.maskTiles op c (fmtBits h.fmt h.width)) = none → Completes i s (fun d => gives d 0 ∧ d.mem = out.mem ∧
        d.num 0x7070 5 (k + 1) = (s.dev.num 0x7070 5 (k + 1) + 1) % 2 ^ 64)) ∧
      (s.dev.maskJobBad k off op = true → Completes i s (fun d => gives d 1 ∧ d.mem = s.dev.mem ∧ Raised 0x3004 s.dev d))
    runs (.mcapt k rd a []) .capt (s.dev.mcapt k c) ∧ runs (.mupd k rd a []) .upd (s.dev.mupd k c) ∧
    runs (.mapply k rd a []) .apply (s.dev.mapply k c) ∧ runs (.cpack k rd a []) .pack (s.dev.cpack k c) ∧
    runs (.mcheck k rd a []) .check s.dev) ∧
  ∀ (s : State) (k : Cluster) (j : Job),
    let h0 := s.dev.num 0x7070 1 (k + 1)
    let jn := s.dev.ringJob k h0 0 128
    let c := parsePred jn.desc
    let bad := predBad (s.dev.ringSeq k h0 0) jn.desc
    let o := Device.storeAddr k (parsePred j.desc).out
    let da := Device.storeAddr k (h0 + 64 * j.ring + 0x24)
    (h0 ≠ 0xFFFFFFFF → (s.dev.clu k).pred = none → s.dev.ringNext k h0 1 0 = some 0 →
      (bad = true → Completes (.predictorTake k []) s (fun d => Raised 0x3006 s.dev d ∧ d.mem = s.dev.mem ∧
        (d.clu k).pred = some { jn with worked := true, list := listBytes c.seq 0 1 (List.range c.gmax) })) ∧
      (bad = false → s.dev.firstReads k Device.predReads (Device.predTiles c) = none →
        Completes (.predictorTake k []) s (fun d => d.mem = s.dev.mem ∧
        ∃ l, (d.clu k).pred = some { jn with worked := true, list := l }))) ∧
    ((s.dev.clu k).pred = some j → (parsePred j.desc).out + j.list.length ≤ 0x1000000 →
      da + 4 ≤ o ∨ o + j.list.length ≤ da →
      Completes (.predictorDone k []) s (fun d => (d.clu k).pred = none ∧ d.bytes o j.list.length = j.list ∧
        d.load da 4 = (s.dev.load da 4 + 1) % 2 ^ 32 ∧
        d.num 0x7070 2 (k + 1) = (s.dev.num 0x7070 2 (k + 1) + 1) % 2 ^ 64 ∧
        (∀ a, (a < o ∨ o + j.list.length ≤ a) → (a < da ∨ da + 4 ≤ a) → d.byteAt a = s.dev.byteAt a)))

/-- R263: what MUPD makes of one sub-block keeps every row and column of 16 at no more than k active positions, whatever
the weights and candidates, and regrows at most 16 positions. -/
def Obligations.MaskUpdateIsLegal : Prop :=
  ∀ (act cand : List Nat) (wk : Nat → Nat) (rho t k : Nat), (∀ p ∈ act, p < 256) → (∀ p ∈ cand, p < 256) →
    let u := (mupdSub act wk cand rho t k).1
    (∀ i, i < 16 → (u.new.filter (fun p => p / 16 == i)).length ≤ k ∧ (u.new.filter (fun p => p % 16 == i)).length ≤ k) ∧
    u.regrown ≤ 16 ∧ ∀ p ∈ u.new, p ∈ act ∨ p ∈ cand

/-! ### Numeric health -/

/-- R306, R316 to R319; R309, R319 to R323: The cluster monitor's operations. HCLOSE writes the summary of 256 bytes and
starts the step counters again from zero; HPOST sends a summary; NCHK puts the check's result into RD and raises 0x2201
for a jump; a summary that arrives stands at 256c of the health store and counts for its step. The device monitor's
operations. HCOLLECT counts the summaries of the step RB that have arrived and raises 0x2206 where one is missing; LCHK
checks the loss written for the step and gives 2 with event 0x2204 where none was; RISK leaves the new estimate in
HLTH_RISK and RD; a taint notice marks the step it names with cause 0x2207. -/
def Obligations.HealthMonitors : Prop :=
  (∀ (s : State) (k : Cluster) (rd a : Reg) (b : List Byte),
    let q := monitorSq k
    let x := s.dev.sq q
    let off := (x.reg a).toNat
    let at_ := Device.storeAddr k off
    (SqIssues s.dev q → off + 256 ≤ 0x1000000 →
      Completes (.hclose k a []) s (fun d => d.bytes at_ 256 = summaryBytes s.dev k ∧ (d.clu k).cnt = [] ∧ (d.clu k).clamps = 0 ∧
        (d.clu k).storms = 0 ∧ (d.clu k).predover = 0 ∧ (d.clu k).jumps = 0 ∧ (d.clu k).retry = 0 ∧ (d.clu k).corrected = 0 ∧
        (∀ y, y < at_ ∨ at_ + 256 ≤ y → d.byteAt y = s.dev.byteAt y) ∧ d.sq q = { x with pc := x.pc + 1 }) ∧
      Completes (.hpost k a []) s (fun d => Map.get [] d.health.posted k = s.dev.bytes at_ 256 ∧ d.mem = s.dev.mem ∧
        d.sq q = { x with pc := x.pc + 1 })) ∧
    (SqIssues s.dev q → off + 32 ≤ 0x1000000 → off % 4096 + 32 ≤ 4096 →
      let w := parseWatch (s.dev.bytes at_ 32)
      let r := nchk w (s.dev.load (Device.storeAddr k w.src) 4 / 65536) s.dev.stepTainted
      w.src + 4 ≤ 0x1000000 → w.src % 4096 + 4 ≤ 4096 →
      Completes (.nchk k rd a []) s (fun d => d.bytes at_ 32 = watchBytes r.1 ∧ sqGoesOn x (d.sq q) ∧
        (∀ i, (d.sq q).reg i = if i = rd ∧ rd.val ≠ 0 then BitVec.ofNat 32 r.2 else x.reg i) ∧
        (1 ≤ r.2 → r.2 ≤ 3 → Raised 0x2201 s.dev d) ∧
        (∀ y, y < at_ ∨ at_ + 32 ≤ y → d.byteAt y = s.dev.byteAt y))) ∧
    (Map.get [] s.dev.health.posted k = b → b.length = 256 →
      Completes (.healthSummaryArrival k) s (fun d => d = { s.dev with health := d.health } ∧ d.storedSummary k = b ∧
        Map.get [] d.health.posted k = [] ∧ Map.get 0 d.health.arrived k = fieldB b 0 4 + 1))) ∧
  ∀ (s : State) (rd a : Reg) (step : BitVec 48) (dev : BitVec 12) (cause : BitVec 16) (v : Nat),
    let x := s.dev.sq 672
    let ev := (x.reg a).getLsbD 0
    let gives (d : Device) (v : Nat) := sqGoesOn x (d.sq 672) ∧ d.mem = s.dev.mem ∧
      ∀ r, (d.sq 672).reg r = if r = rd ∧ rd.val ≠ 0 then BitVec.ofNat 32 v else x.reg r
    let det := if ev then s.dev.health.det1 else s.dev.health.det0
    let r := lchk det v (s.dev.force 0x1405 1) (s.dev.force 0x1405 2) (s.dev.force 0x1405 3) (s.dev.force 0x1405 4) s.dev.stepTainted
    let risk := riskOf (s.dev.num 0x1400 1) (s.dev.force 0x1400 3) ((List.range 16).map (fun i => s.dev.force 0x1402 (i + 1)))
      ((List.range 16).map (fun i => s.dev.force 0x1403 (i + 1))) s.dev.riskInputs
    (SqIssues s.dev 672 →
      Completes (.hcollect rd a) s (fun d => gives d (s.dev.summaries (x.reg a) true).length ∧
        (s.dev.summaries (x.reg a) false ≠ [] → Raised 0x2206 s.dev d)) ∧
      ((if ev then s.dev.health.evalLoss else s.dev.health.loss) = some (s.dev.cad.step % 2 ^ 32, v) →
        Completes (.lchk rd a) s (fun d => gives d r.2 ∧ (if ev then d.health.det1 else d.health.det0) = r.1 ∧
          (r.2 = 1 ∨ r.2 = 3 → Raised (if ev then 0x2203 else 0x2202) s.dev d))) ∧
      ((if ev then s.dev.health.evalLoss else s.dev.health.loss) = none →
        Completes (.lchk rd a) s (fun d => gives d 2 ∧ (if ev then d.health.det1 else d.health.det0) = det ∧
          Raised 0x2204 s.dev d)) ∧
      Completes (.risk rd a) s (fun d => gives d risk ∧ d.num 0x1400 1 = risk ∧ risk ≤ 65535 ∧
        (s.dev.num 0x1400 1 < s.dev.force 0x1400 2 → s.dev.force 0x1400 2 ≤ risk → Raised 0x2205 s.dev d ∧ d.num 0x1400 6 = 1) ∧
        d.health.uncounted = 0)) ∧
    (Map.get 0 s.dev.health.tainted step.toNat = 0 →
      Completes (.taintNoticeReceive step dev cause) s (fun d => Map.get 0 d.health.tainted step.toNat = 0x2207 + 1 ∧
        ((∀ e ∈ s.dev.health.tainted, e.1 ≤ step.toNat) → d.num 0x1401 2 = 0x2207 ∧ d.num 0x1401 3 = step.toNat) ∧ (step.toNat = s.dev.cad.step → d.num 0x1401 1 = 1) ∧
        d.mem = s.dev.mem))

/-! ### Step cadence -/

/-- R328, R331 to R333, R338, R339: cadence words, gates, DONE and boundaries. What a receiver uses of a word is read back
as it was sent. A member takes its parent's good words, forwards them and crosses a boundary on one with BND = 1; it
discards a bad one. The master stands before each boundary and releases it when every DONE has come. -/
def Obligations.CadenceWordsAndBoundaries : Prop :=
  (∀ (m se st ph : Nat) (h b : Bool), m < 2 ^ 12 → st < 2 ^ 48 → ph < 2 ^ 24 →
    parseWord (cadWordOf m h se b st ph) =
      { ok := true, ver := 1, master := m, hold := h, bnd := b, step := st, phase := ph }) ∧
  ∀ (s : State) (k : Cluster) (off : BitVec 24) (val : BitVec 32) (step : BitVec 48) (se : Fin 4) (dev : BitVec 12)
    (p : Port) (bits : BitVec 128),
    let c := s.dev.cad
    let w := parseWord bits.toNat
    let x := (step.toNat, se.val, dev.toNat)
    (off.toNat % 4 = 0 → Completes (.gateWordWrite k off val) s (fun d =>
      StoresBytes (Device.storeAddr k off.toNat) 4 val.toNat s.dev d ∧ d = stored s.dev d)) ∧
    (s.dev.planRuns = true → seasonDone s.dev = true → c.sent ≠ some (c.step, s.dev.season) →
      Completes .doneReport s (fun d =>
        if s.dev.isMaster then d = Device.tryRelease { s.dev with
          cad := { c with sent := some (c.step, s.dev.season), done := c.done ++ [(c.step, s.dev.season, s.dev.devNo)] } }
        else d = { s.dev with
          cad := { c with sent := some (c.step, s.dev.season) }
          out := .done c.step s.dev.season s.dev.devNo :: s.dev.out })) ∧
    (s.dev.isMaster = true → s.dev.planRuns = true → c.done.contains x = false →
      Completes (.doneReceive step se dev) s (fun d =>
        if c.held then d = Device.tryRelease { s.dev with cad := { c with done := c.done ++ [x] } }
        else d = { s.dev with cad := { c with done := c.done ++ [x] } })) ∧
    (s.dev.isMaster = true → s.dev.inPlan = true → Completes .cadenceWordSend s (fun d =>
      (∃ b rest, d.out = .cadWord b none :: rest ∧
        b = cadWordOf s.dev.devNo d.cad.held s.dev.season false c.step c.phase) ∧
      d.cad.step = c.step ∧ d.cad.phase = c.phase ∧
      (s.dev.planRuns = true → c.stopped = true → c.held = false → s.dev.missingDone ≠ [] →
        d.cad.held = true ∧ Raised 0x1004 s.dev d))) ∧
    (s.dev.inPlan = true → c.stopped = false → Completes .boundaryReached s (fun d => d.cad.stopped = true ∧
      d.cad.step = s.dev.lastBefore / 2 ^ 24 % 2 ^ 48 ∧ d.cad.phase = s.dev.lastBefore % 2 ^ 24 ∧ d.mem = s.dev.mem)) ∧
    (s.dev.isMaster = true → s.dev.inPlan = true → c.stopped = true → s.dev.admState = 4 →
      s.dev.absPos = s.dev.lastBefore → s.dev.missingDone = [] → Completes .boundaryRelease s (fun d =>
        d.cad.step = (s.dev.absPos + 1) / 2 ^ 24 % 2 ^ 48 ∧ d.cad.phase = (s.dev.absPos + 1) % 2 ^ 24 ∧
        ∃ b, .cadWord b none ∈ d.out ∧ bitOf b 76 = true)) ∧
    (s.dev.inPlan = true → s.dev.isMaster = false → (Map.get ({} : PortS) s.dev.link.ports p).stale = false →
      s.dev.num 0x1700 7 = p.val →
      (w.master = s.dev.num 0x1200 3 → badWord s.dev w = false →
        (w.bnd = false → Completes (.cadenceWordReceive p bits) s (fun d => d.cad.locked = true ∧
          d.cad.lastPos = some (w.step, w.phase) ∧ d.cad.lastNs = s.dev.time.nowNs ∧ d.cad.lossRaised = false ∧
          .cadWord bits.toNat (some p.val) ∈ d.out)) ∧
        (w.bnd = true → s.dev.absPos = s.dev.lastBefore → w.step * 2 ^ 24 + w.phase = s.dev.absPos + 1 →
          c.phase < 2 ^ 24 → Completes (.boundaryWordReceive p bits) s (fun d =>
            d.cad.step = w.step ∧ d.cad.phase = w.phase ∧ d.cad.lastPos = some (w.step, w.phase) ∧
            .cadWord bits.toNat (some p.val) ∈ d.out))) ∧
      (badWord s.dev w = true → Completes (.cadenceWordReceive p bits) s (fun d => d.cad = c ∧ d.mem = s.dev.mem ∧
        (Map.get 0 s.dev.evt.once (0x1008 * 2 ^ 40) ≠ c.step + 1 → Raised 0x1008 s.dev d)))) ∧
    (∀ b rest, s.dev.isMaster = true → c.outq = b :: rest → Completes .cadenceOutFrame s (fun d =>
      d = { s.dev with cad := { c with outq := rest }, out := .cadOut b :: s.dev.out }))

/-- R334, R335, R340: losses of the cadence and the synchronisation pairs. A hold beyond its limit raises 0x1006 and gives
the missing members up as lost; a member that hears nothing raises 0x1002, its backup takes over with 0x1003, and after
the hold limit it reports itself cut off; the master aligns to the pair at a plan start with 0x1001, follows it, leaves it
with 0x1007, and follows it again with 0x1001 after 16 steps of it, moving its own position no more. -/
def Obligations.CadenceLosses : Prop :=
  ∀ (s : State) (bits : BitVec 128) (per : Option Nat),
    let c := s.dev.cad
    let w := parseWord bits.toNat
    let short := per.any (tooShort s.dev)
    (s.dev.isMaster = true → s.dev.planRuns = true → c.held = true →
      c.holdNs.getD 0 + s.dev.holdLimitNs ≤ s.dev.time.nowNs → Completes .holdLimit s (fun d => Raised 0x1006 s.dev d ∧
        ∀ m ∈ s.dev.missingDone, m ∈ d.cad.lost)) ∧
    (s.dev.inPlan = true → s.dev.isMaster = false → c.lossRaised = false →
      s.dev.heardNs + s.dev.lossNs ≤ s.dev.time.nowNs → Completes .cadenceLoss s (fun d => Raised 0x1002 s.dev d ∧
        d.cad = { c with lossRaised := true } ∧ d.mem = s.dev.mem)) ∧
    (s.dev.inPlan = true → s.dev.num 0x1200 1 = 2 → c.lossRaised = true →
      s.dev.heardNs + 2 * s.dev.lossNs ≤ s.dev.time.nowNs → Completes .backupTakeover s (fun d =>
        Raised 0x1003 s.dev d ∧ d.num 0x1200 1 = 1 ∧ d.num 0x1200 3 = s.dev.devNo ∧
        d.cad.former = some (s.dev.num 0x1200 3) ∧ ∃ b, .cadWord b none ∈ d.out)) ∧
    (s.dev.inPlan = true → s.dev.isMaster = false → c.lossRaised = true → c.cutOff = false →
      s.dev.heardNs + s.dev.holdLimitNs ≤ s.dev.time.nowNs → Completes .cutOff s (fun d =>
        d = { s.dev with cad := { c with cutOff := true }, out := .reportCutOff :: s.dev.out })) ∧
    (s.dev.isMaster = true → s.dev.inPlan = true → s.dev.num 0x1200 2 = 0 → badWord s.dev w = false →
      let off := posDiff w.step w.phase c.step c.phase
      let fresh := ∀ l, c.pairPos = some l → 0 < posDiff w.step 0 l.1 0
      let heard (d : Device) := d.cad.pairPos = some (w.step, w.phase) ∧ d.cad.pairNs = s.dev.time.nowNs
      Completes (.cadenceInWord bits per) s (fun d =>
        (c.pairOn = true → short = true → heard d ∧ d.cad.pairOn = false ∧ Raised 0x1007 s.dev d) ∧
        (c.pairOn = true → short = false → c.locked = true → heard d ∧ d.cad.pairOn = true ∧
          d.num 0x1200 6 = off.toNat / 256 ∧ d.cad.step = c.step ∧ d.cad.phase = c.phase) ∧
        (c.pairOn = true → short = false → c.locked = false → ∃ e, heard e ∧ e.cad.locked = true ∧ Raised 0x1001 s.dev e ∧
          e.absPos = s.dev.absPos ∧ d = e.moveOn (min off.toNat (s.dev.lastBefore - s.dev.absPos))) ∧
        (c.pairOn = false → heard d ∧ d.cad.step = c.step ∧ d.cad.phase = c.phase ∧
          (short = true → d.cad.pairOn = false ∧ d.cad.pairGood = 0) ∧
          (short = false → fresh → c.pairGood < 15 → d.cad.pairOn = false ∧ d.cad.pairGood = c.pairGood + 1) ∧
          (short = false → fresh → 15 ≤ c.pairGood → d.cad.pairOn = true ∧ Raised 0x1001 s.dev d)))) ∧
    (c.pairNs + s.dev.lossNs ≤ s.dev.time.nowNs → Completes .cadenceInSilence s (fun d =>
      if s.dev.isMaster && s.dev.inPlan && s.dev.num 0x1200 2 == 0 && c.pairOn then
        d.cad.pairOn = false ∧ Raised 0x1007 s.dev d
      else d = { s.dev with cad := { c with pairGood := 0 } }))

/-! ### Admission and run control -/

/-- R343 to R345, R353, R427, R428: the admission of a plan and the control of its run. The image is loaded, checked, and
admitted or refused with its code; verdicts go to the master and down from it; STOP ends the run with a step and ABORT at
once, freeing every thread and emptying every queue. A command that its state forbids is answered STATE (6). -/
def Obligations.AdmissionAndRunControl : Prop :=
  ∀ (s : State) (c : Conn) (im : List Byte) (f : PlanFacts) (pid : BitVec 64) (code : BitVec 16) (dev : BitVec 12),
    let ans (d : Device) (i sub st : Nat) := d.out.head? = some (.answer i sub 0 st)
    let refused (d : Device) (k : Nat) := d.num 0x1300 3 = 5 ∧ d.num 0x1300 4 = k ∧ Raised k s.dev d ∧ d.cad.stopped = true
    let a := s.dev.admState
    let img := s.dev.domOf 0x1300 1
    let h := planHdr img
    let fs := factsOf img f
    let L := s.dev.loadPlan fs
    let same (d : Device) (i sub st : Nat) := d = { s.dev with out := .answer i sub 0 st :: s.dev.out }
    (s.dev.accessStatus c 0x1300 1 0 = stOK → im.length ≤ 2 ^ 28 → Completes (.admPlan c im) s (fun d =>
      d.domOf 0x1300 1 = im ∧ d.num 0x1300 3 = 1 ∧ d.adm.plan = none ∧ ans d 0x1300 1 stOK)) ∧
    (s.dev.valueStatus c 0x1300 2 0 1 = stOK → Completes (.check c) s (fun d =>
      if a = 1 then d.num 0x1300 3 = 2 ∧ ans d 0x1300 2 stOK ∧ d.mem = s.dev.mem else same d 0x1300 2 stState)) ∧
    (s.dev.valueStatus c 0x1300 2 0 2 = stOK → Completes (.discard c) s (fun d =>
      (a = 0 → same d 0x1300 2 stOK) ∧ (a = 2 ∨ a = 4 → same d 0x1300 2 stState) ∧
      (a = 1 ∨ a = 3 ∨ a = 5 → d.num 0x1300 3 = 0 ∧ d.domOf 0x1300 1 = [] ∧ d.adm.plan = none ∧ ans d 0x1300 2 stOK) ∧
      (a = 3 → .verdict 0xA00F s.dev.devNo true ∈ d.out ∧ (s.dev.runState ≠ 4 → d.num 0x1100 1 = 1)))) ∧
    (a = 2 →
      (∀ r, s.dev.checkPlan img fs = .error r → Completes (.admissionDone f) s (fun d => refused d r.code ∧
        d.domOf 0x1300 5 = Device.refuseDetail { r with member := s.dev.devNo } ∧
        ∃ up, d.out.head? = some (.verdict r.code s.dev.devNo up))) ∧
      (∀ sl, s.dev.checkPlan img fs = .ok sl → s.dev.hv.restore = none → s.dev.adm.restoreS0 = none → L.devNo ≠ h.master →
        Completes (.admissionDone f) s (fun d => d.num 0x1300 3 = 3 ∧ d.adm.plan = some h ∧ d.adm.facts = some fs ∧
          d.cad.s0 = h.s0 ∧ d.num 0x1200 4 = h.period ∧ d.num 0x1200 3 = h.master ∧
          d.num 0x1200 1 = (if L.devNo = h.backup then 2 else 0) ∧ .verdict 0 L.devNo true ∈ d.out))) ∧
    (s.dev.num 0x1200 1 = 1 → code.toNat = 0 → a ≠ 3 → Completes (.verdictReceive pid code dev false) s (fun d =>
      d = { s.dev with adm := { s.dev.adm with
        verdicts := s.dev.adm.verdicts.filter (fun v => v.1 != dev.toNat) ++ [(dev.toNat, 0)] } })) ∧
    (s.dev.num 0x1200 1 = 1 → code.toNat ≠ 0 → code.toNat ≠ 0xA00F → s.dev.adm.verdicts.all (fun v => v.2 == 0) = true →
      1 ≤ a → a ≤ 3 → Completes (.verdictReceive pid code dev false) s (fun d => refused d 0xA00F ∧
        .verdict code.toNat dev.toNat false ∈ d.out)) ∧
    (s.dev.isMaster = false → dev.toNat ≠ s.dev.devNo → 1 ≤ a → a ≤ 3 →
      Completes (.verdictReceive pid code dev true) s (fun d => refused d (if code.toNat = 0xA00E then 0xA00E else 0xA00F))) ∧
    (a = 3 → admittedLate s.dev = true → Completes .admittedTimeout s (fun d =>
      refused d (if s.dev.isMaster = true ∧ s.dev.adm.withdrawn ≠ none then 0xA00F else 0xA00E))) ∧
    (s.dev.valueStatus c 0x1100 2 0 1 = stOK → Completes (.stop c) s (fun d =>
      (s.dev.runState ≠ 2 → same d 0x1100 2 stState) ∧
      (s.dev.runState = 2 → ans d 0x1100 2 stOK ∧
        let n := s.dev.num 0x1100 3 % 2 ^ 48
        if a = 3 ∧ posDiff n 0 s.dev.cad.s0 0 < 0 then d.num 0x1100 1 = 1 ∧ d.num 0x1300 3 = 1
        else d.num 0x1100 1 = 3 ∧ d.cad.stopStep = some (if posDiff n 0 s.dev.cad.step 0 < 0 then s.dev.cad.step else n)))) ∧
    (s.dev.valueStatus c 0x1100 2 0 2 = stOK → Completes (.abort c) s (fun d =>
      (s.dev.runState ≠ 2 → same d 0x1100 2 stState) ∧
      (s.dev.runState = 2 → ans d 0x1100 2 stOK ∧ d.num 0x1100 1 = 1 ∧ d.num 0x1300 3 = 1 ∧ d.num 0x1401 1 = 1 ∧
        d.mem = s.dev.mem ∧ d.cad.stopped = true ∧ (∀ se, d.moves se = []) ∧ (∀ q, q < 673 → (d.sq q).st = .idle) ∧
        ∀ g, g < 1536 → (∀ t, (d.thread g t).st = .free) ∧ (d.core g).moveq = [] ∧ ∀ e, (d.core g).queue e = [])))

/-! ### Objects and the dictionary server -/

/-- R422 to R425, R433; R196, R322, R326, R490: Writes of objects. A writer without a session, without the role or without
the lease is refused; a read-only object takes nothing; an object that needs the device stopped is refused while it runs.
A refused write changes nothing but the answer; a write of an object with no rule of its own stores the value. The objects
with a command of their own, for a writer whom the access rules let through: the taint request, the recalibration of a
scale, the losses of a step, the start of the margin planner. A loss that names another step is counted and not kept. -/
def Obligations.ObjectWritesAndCommands : Prop :=
  (∀ (s : State) (sid : BitVec 32) (w : WriteItem) (r : ObjRow),
    let i := w.addr.idx.toNat
    let sub := w.addr.sub.toNat
    let inst := w.addr.inst.toNat
    let c : Conn := .session sid
    let answered (d : Device) (st : Nat) := d = { s.dev with out := .answer i sub inst st :: s.dev.out }
    (w.type.toNat ≠ 0x0D →
      (s.dev.writeStatus c i sub inst w.type.toNat w.data ≠ stOK → Completes (.objectWrite c w) s (fun d =>
        answered d (s.dev.writeStatus c i sub inst w.type.toNat w.data))) ∧
      (s.dev.writeStatus c i sub inst w.type.toNat w.data = stOK → i ∉ ownRule → Completes (.objectWrite c w) s (fun d =>
        d.num i sub inst = leNat w.data ∧ d = { s.dev with dict := d.dict, out := .answer i sub inst stOK :: s.dev.out } ∧
        KeepsObjects [(i, sub, inst)] s.dev d))) ∧
    (objRow i sub = some r → maxSub i ≠ none → instOk i inst = true → sub ≠ 0 → i < 0x8000 → i ≠ 0x1502 →
      (r.acc = .ro ∨ r.acc = .rp → s.dev.accessStatus c i sub inst = stReadOnly) ∧
      (r.acc = .rw ∨ r.acc = .wo ∨ r.acc = .rws → hasMirror i sub = false →
        (s.dev.session sid.toNat = none → s.dev.accessStatus c i sub inst = stNoSession) ∧
        ∀ z, s.dev.session sid.toNat = some z →
          (z.ceil < (if 0x4000 ≤ i ∧ i < 0x5000 then 3 else 2) ∨ s.dev.lease ≠ sid.toNat →
            s.dev.accessStatus c i sub inst = stDenied) ∧
          ((if 0x4000 ≤ i ∧ i < 0x5000 then 3 else 2) ≤ z.ceil → s.dev.lease = sid.toNat →
            s.dev.accessStatus c i sub inst = if r.acc = .rws ∧ s.dev.isStopped = false then
              (if s.dev.admState = 2 then stState else stNotStopped) else stOK)))) ∧
  ∀ (s : State) (c : Conn) (v : BitVec 64) (tsid : BitVec 16),
    let ans (d : Device) (i sub st : Nat) := d.out.head? = some (.answer i sub 0 st)
    let loss := some (v.toNat % 2 ^ 32, v.toNat / 2 ^ 32)
    let now := v.toNat % 2 ^ 32 = s.dev.cad.step % 2 ^ 32
    (s.dev.valueStatus c 0x1401 6 0 1 = stOK → Completes (.hlthTaintReq c 1) s (fun d => d.num 0x1401 1 = 1 ∧
      ans d 0x1401 6 stOK ∧ d.mem = s.dev.mem ∧ (s.dev.num 0x1401 1 ≠ 1 →
        d.num 0x1401 2 = 0 ∧ d.num 0x1401 3 = s.dev.cad.step ∧ Raised 0x2207 s.dev d))) ∧
    (s.dev.valueStatus c 0x1912 1 0 tsid.toNat = stOK → Completes (.scaleRecal c tsid) s (fun d =>
      d = { s.dev with recal := s.dev.recal ++ [tsid.toNat], out := .answer 0x1912 1 0 stOK :: s.dev.out })) ∧
    (s.dev.valueStatus c 0x1404 1 0 v.toNat = stOK → Completes (.hlthLoss c v) s (fun d => ans d 0x1404 1 stOK ∧
      (now → d.health = { s.dev.health with loss := loss }) ∧
      (¬now → d.health = s.dev.health ∧ d.num 0x1404 3 = (s.dev.num 0x1404 3 + 1) % 2 ^ 64))) ∧
    (s.dev.valueStatus c 0x1404 2 0 v.toNat = stOK → Completes (.hlthEvalLoss c v) s (fun d => ans d 0x1404 2 stOK ∧
      (now → d.health = { s.dev.health with evalLoss := loss }) ∧
      (¬now → d.health = s.dev.health ∧ d.num 0x1404 3 = (s.dev.num 0x1404 3 + 1) % 2 ^ 64))) ∧
    (s.dev.valueStatus c 0x1C00 4 0 1 = stOK → Completes (.ageReplan c 1) s (fun d => ans d 0x1C00 4 stOK ∧
      (∀ die, die < 4 → Map.get false d.age.due die = true) ∧ d.dict = s.dev.dict ∧ d.mem = s.dev.mem))

/-- R425: the device is stopped when RUN_STATE is STOPPED (1) and ADM_STATE is EMPTY (0), LOADED (1) or REFUSED (5). Else
a write of an RWS object, by a session that may write it, is refused, in CHECKING (2) with STATE and in every other state
with NOT_STOPPED, and the object keeps its value. -/
def Obligations.StoppedDevice : Prop :=
  (∀ d : Device, d.isStopped = true ↔ d.runState = 1 ∧ (d.admState = 0 ∨ d.admState = 1 ∨ d.admState = 5)) ∧
  ∀ (s : State) (sid : BitVec 32) (w : WriteItem) (r : ObjRow) (z : Session),
    let i := w.addr.idx.toNat
    let sub := w.addr.sub.toNat
    let inst := w.addr.inst.toNat
    let st := if s.dev.admState = 2 then stState else stNotStopped
    objRow i sub = some r → r.acc = .rws → maxSub i ≠ none → instOk i inst = true → sub ≠ 0 → i < 0x8000 → i ≠ 0x1502 →
    hasMirror i sub = false → s.dev.session sid.toNat = some z → (if 0x4000 ≤ i ∧ i < 0x5000 then 3 else 2) ≤ z.ceil →
    s.dev.lease = sid.toNat → s.dev.isStopped = false →
    s.dev.accessStatus (.session sid) i sub inst = st ∧
    (w.type.toNat ≠ 0x0D → Completes (.objectWrite (.session sid) w) s (fun d =>
      d = { s.dev with out := .answer i sub inst st :: s.dev.out }))

/-- R429, R433 to R436, R438 to R440: connections and sessions. HELLO opens a session under the ceiling of its role and
credential; a malformed frame is answered with status 12; a credential that fails raises 0x7040, at the server's MAC
address and UDP port alone; what is too late ends; an EVENT frame carries at most 28 records of the log. -/
def Obligations.DapSessions : Prop :=
  ∀ (s : State) (h : DapHdr) (op role : Byte) (name : List Byte) (port : Fin 2) (mac : BitVec 48) (udp : BitVec 16) (src : BitVec 128) (cn : Nat)
    (ident key : List Byte) (sid sq : BitVec 32) (n : Byte) (sd : BitVec 12) (ceil : BitVec 3) (p : Port) (body : List Byte),
    let now := s.dev.time.nowNs
    let local_ := h.link = .loc
    (local_ → s.dev.serverUp = true → h.ver = 1 → h.fstatus = 0 → h.flags.toNat < 8 → h.session = 0 → h.seq = 0 →
      h.target = 0xFFFF → 1 ≤ role.toNat → role.toNat ≤ 3 → name.length ≤ 16 → s.dev.mgmt.sessions.length < 16 →
      Completes (.hello h 1 role name) s (fun d => ∃ k z r, k ≠ 0 ∧ s.dev.session k = none ∧ d.session k = some z ∧
        z.ceil = min role.toNat (s.dev.num 0x1001 4) ∧ z.role = 1 ∧ z.link = .loc ∧
        d.num 0x1001 6 = s.dev.mgmt.sessions.length + 1 ∧ d.out.head? = some (.dapResp .loc r) ∧ r.session = k ∧
        r.fstatus = stOK ∧ r.op = 1)) ∧
    (local_ → s.dev.serverUp = true → Completes (.malformedFrame h op true) s (fun d =>
      d.out.head? = some (.dapResp .loc (Device.respOf h op.toNat stMalformed 0 [])) ∧ d.mgmt = s.dev.mgmt ∧
      (Map.get 0 s.dev.evt.last (0x7043 * 2 ^ 140) = 0 → Raised 0x7043 s.dev d))) ∧
    (s.dev.serverUp = true → s.dev.steeredTo port.val mac.toNat false = true → udp = 50210 →
      (s.dev.mgmt.ignored.any (fun e => e.1 == 2 * src.toNat + port.val && decide (now < e.2))) = false →
      (s.dev.creds.find? (fun e => Device.credIdent e == ident && e.drop 36 == key) = none →
        Completes (.dtlsHandshake port mac udp src cn ident key) s (fun d => Raised 0x7040 s.dev d ∧
          d.mgmt.conns = s.dev.mgmt.conns ∧ d.mgmt.sessions = s.dev.mgmt.sessions)) ∧
      (∀ e, s.dev.creds.find? (fun e => Device.credIdent e == ident && e.drop 36 == key) = some e →
        Completes (.dtlsHandshake port mac udp src cn ident key) s (fun d =>
          (cn, src.toNat % 2 ^ 64, fieldB e 0 1, ident) ∈ d.mgmt.conns ∧
          (∀ x ∈ d.mgmt.conns, x.1 = cn → x = (cn, src.toNat % 2 ^ 64, fieldB e 0 1, ident)) ∧
          ∀ z ∈ d.mgmt.sessions, z ∈ s.dev.mgmt.sessions))) ∧
    (∀ x, s.dev.session sid.toNat = some x →
      (x.lastNs + s.dev.num 0x1001 8 * 1000000000 ≤ now → Completes (.sessionTimeout sid) s (fun d =>
        d.session sid.toNat = none ∧ (s.dev.lease = sid.toNat → Raised 0x7042 s.dev d ∧ d.num 0x1001 7 = 0))) ∧
      Completes (.heldFrameTimeout sid sq) s (fun d => d = { s.dev with mgmt := d.mgmt } ∧
        d.session sid.toNat = some { x with
          heldF := x.heldF.filter (fun f => !(f.hdr.seq == sq && decide (f.ns + 200000000 ≤ now))) }) ∧
      (∀ b, x.sub = some b → waiting s.dev b ≠ [] → (b.secStart ≠ now / 1000000000 ∨ b.sent < 100) →
        Completes (.eventFrameSend sid) s (fun d => d.out = .eventFrame sid.toNat b.frameSeq
          (decide (28 < (waiting s.dev b).length)) ((waiting s.dev b).take 28) :: s.dev.out)) ∧
      (∀ e, s.dev.mgmt.fwd = [e] → e.1 = sid.toNat → e.2.1 = sq.toNat → e.2.2.2.2 + 100000000 ≤ now → x.link = .loc →
        Completes (.forwardResponseTimeout sid sq) s (fun d => d.mgmt = { s.dev.mgmt with fwd := [] } ∧
          ∃ r, d.out = .dapResp .loc r :: s.dev.out ∧ r.fstatus = stUnreachable ∧ r.seq = sq.toNat ∧ r.op = e.2.2.1))) ∧
    (s.dev.num 0x70B0 1 (p + 1) = 2 → s.dev.serverUp = true → s.dev.devNo < 4096 →
      let t := BitVec.ofNat 12 s.dev.devNo
      let others := s.dev.mgmt.frags.filter (fun f => f.src != sd.toNat)
      (Completes (.dapFragmentReceive p t sd 0 true false ceil body) s (fun d => d.mgmt.frags = others ++
        [{ src := sd.toNat, next := 1, ceiling := ceil.toNat, data := body, ns := now }] ∧ d.out = s.dev.out)) ∧
      (∀ f, s.dev.mgmt.frags.find? (fun f => f.src == sd.toNat) = some f → n.toNat = f.next → f.ceiling = ceil.toNat →
        n.toNat < 140 → Completes (.dapFragmentReceive p t sd n false false ceil body) s (fun d =>
          d = { s.dev with mgmt := { s.dev.mgmt with
            frags := others ++ [{ f with next := n.toNat + 1, data := f.data ++ body }] } }))) ∧
    (∀ f, s.dev.mgmt.frags = [f] → f.src = sd.toNat → f.ns + 100000000 ≤ now → f.next ≠ 256 →
      Completes (.fragmentTimeout sd) s (fun d => d.mgmt = { s.dev.mgmt with frags := [] } ∧
        d.num 0x1002 5 = (s.dev.num 0x1002 5 + 1) % 2 ^ 64))

/-- R430 to R437, R440: the requests of an open session of the local endpoint, the next in its window and none held behind
it. Each runs once, is counted and answered with its own SEQ, and the window moves on. A frame for another device goes out
as fragments under the session's ceiling. -/
def Obligations.DapRequests : Prop :=
  ∀ (s : State) (h : DapHdr) (x : Session) (a : ObjAddr) (w : WriteItem) (items : List ObjAddr) (off len : BitVec 32)
    (data f : List Byte) (role minsev : Byte) (mask : BitVec 16) (force : Bool),
    let y : Session := { x with lastNs := s.dev.time.nowNs, next := (x.next + 1) % 2 ^ 32 }
    let D0 : Device := { s.dev with mgmt := { s.dev.mgmt with
      sessions := s.dev.mgmt.sessions.map (fun z => if z.sid = x.sid then y else z) } }
    let D := D0.addNum 0x1002 1 0 1
    let aw := writeItem (Device.connOf x) w D
    let i := a.idx.toNat
    let sub := a.sub.toNat
    let inst := a.inst.toNat
    let good (r : DapReq) := hdrBad h r = false
    let answers (c : Instr) (r : DapReq) (st : Nat) (b : List Byte) (P : Device → Prop) := good r →
      Completes c s (fun d => (∃ n, d.out.head? = some (.dapResp .loc (Device.respOf h (reqOp r) st n b))) ∧ P d)
    let held (d : Device) (P : Session → Prop) := ∃ z, d.session x.sid = some z ∧ z.next = y.next ∧ z.lastNs = y.lastNs ∧ P z
    h.link = .loc → s.dev.serverUp = true → s.dev.session h.session.toNat = some x → x.link = .loc → x.src = none →
    x.heldF = [] → h.seq.toNat = x.next → x.cache.find? (fun e => e.1 == x.next) = none →
    (s.dev.mine h = true →
      (16 + (items.map (resultSize D x.ceil)).sum ≤ 1400 →
        answers (.read h items) (.read items) stOK (items.flatMap (readItem D x.ceil (some y)))
          (fun d => d.dict = D.dict ∧ d.mem = s.dev.mem)) ∧
      (1400 < 16 + (items.map (resultSize D x.ceil)).sum → answers (.read h items) (.read items) stTooLarge []
          (fun d => d.dict = D.dict ∧ d.mem = s.dev.mem)) ∧
      (bitOf h.flags.toNat 0 = false ∨ aw.2 = stOK →
        answers (.write h [w]) (.write [w]) stOK (writeResult aw.2) (fun d => d.dict = aw.1.dict ∧ d.mem = aw.1.mem)) ∧
      (s.dev.readStatus x.ceil i sub inst = stOK → sub ≠ 0 → (objRow i sub).any (fun r => r.ty == .dom) = true →
        i ≠ 0x1D02 → i ≠ 0x1E00 →
        let b := D.domSlice (some y) i sub inst off.toNat (min len.toNat 1360)
        answers (.dread h a off len) (.dread a off.toNat len.toNat) stOK
          (leBytes 1 0 ++ leBytes 1 0 ++ leBytes 2 b.length ++ leBytes 4 (D.domLen (some y) i sub inst) ++ b)
          (fun d => d.dict = D.dict ∧ d.mem = s.dev.mem)) ∧
      (domStatus s.dev (.session (BitVec.ofNat 32 x.sid)) i sub inst = stOK → i ∉ ownDomain → len.toNat = data.length →
        (domLimit i sub).1 = data.length →
        answers (.dwrite h a true true 0 len data) (.dwrite a true true 0 len.toNat data) stOK (writeResult stOK)
          (fun d => d.domOf i sub inst = Device.storedBytes i sub data ∧ d.mem = s.dev.mem)) ∧
      (2 ≤ role.toNat → role.toNat ≤ 3 → role.toNat ≤ x.ceil → x.ceil ≠ 4 → s.dev.lease = 0 ∨ s.dev.lease = x.sid →
        answers (.claim h role force) (.claim role.toNat force) stOK (leBytes 1 0 ++ leBytes 1 role.toNat ++ leBytes 2 0)
          (fun d => d.lease = x.sid ∧ held d (fun z => z.role = role.toNat))) ∧
      (mask.toNat ≠ 0 → answers (.subscribe h minsev mask) (.subscribe minsev.toNat mask.toNat) stOK [] (fun d =>
        held d (fun z => z.sub = some { minsev := minsev.toNat, mask := mask.toNat, recSeq := s.dev.num 0x1E00 2 }))) ∧
      answers (.keepalive h) .keepalive stOK [] (fun d => d.dict = D.dict ∧ held d (fun z => z.sub = x.sub)) ∧
      answers (.bye h) .bye stOK [] (fun d => d.session x.sid = none ∧ (s.dev.lease = x.sid → x.sid ≠ 0 → d.lease = 0))) ∧
    (s.dev.mine h = false → good (.forward f) → Completes (.dapForward h f) s (fun d =>
      d.out = .dapFrag h.target.toNat x.ceil (forwardBytes h (.forward f)) :: s.dev.out ∧ d.dict = s.dev.dict ∧
      (x.sid, h.seq.toNat, fieldB f 1 1, h.target.toNat, s.dev.time.nowNs) ∈ d.mgmt.fwd ∧ held d (fun _ => True)))

/-! ### Power -/

/-- R473 to R479, R500: power domains. A request that the controller refuses raises 0x6001 and changes no domain; one that
it takes starts the transition, after the parent's, with the wake source of who asked. A domain that reports good stands
in its new state; for a core, off loses its content and retention its working state; one that runs out of time is off,
with 0x6002. Times: a transition within its limit goes on. -/
def Obligations.PowerDomains : Prop :=
  ∀ (s : State) (src : PdSource) (dm : Dom) (p : Port),
    let i := dm.val + 1
    let x := s.dev.pdS i
    let stays (d : Device) (l : List Nat) := d.mem = s.dev.mem ∧ ∀ j, j ≤ 1667 → j ∉ l → d.pdState j = s.dev.pdState j
    let begun (d : Device) (j st so : Nat) := d.pdState j = 3 ∧ (d.pdS j).target = st ∧
      (d.pdS j).from_ = s.dev.pdState j ∧ (d.pdS j).source = so
    let parentOn (j : Nat) := ∀ q, pdParent j = some q → s.dev.pdState q = 0
    let passes (v : Nat) := ∀ c, src = .object c → s.dev.valueStatus c 0x70C0 2 i v = stOK
    let asks (c : Instr) (v st : Nat) := passes v →
      (s.dev.pdRefused i st = true → Completes c s (fun d => Raised 0x6001 s.dev d ∧ stays d [])) ∧
      (s.dev.pdRefused i st = false → s.dev.pdState i ≠ 3 → s.dev.pdState i ≠ st → parentOn i → Completes c s (fun d =>
        begun d i st (wakeCode src) ∧ d.num 0x70C0 2 i = v ∧ stays d [i]))
    asks (.pdRequestOn src dm) 0 0 ∧ asks (.pdRequestRetention src dm) 1 1 ∧ asks (.pdRequestOff src dm) 2 2 ∧
    asks (.offLocked src dm) 3 2 ∧
    (∀ q, pdParent i = some q → s.dev.pdState q = 1 ∨ s.dev.pdState q = 2 → parentOn q → s.dev.pdState i ≠ 0 → s.dev.pdRefused i 0 = false →
      passes 0 →
      Completes (.pdRequestOn src dm) s (fun d => begun d q 0 5 ∧ (d.pdS i).waiting = some (0, wakeCode src) ∧ stays d [q])) ∧
    (∀ st so, x.waiting = some (st, so) → s.dev.pdState i ≠ 3 → s.dev.pdState i ≠ st → s.dev.pdRefused i st = false →
      parentOn i → Completes (.pdRequestApply dm) s (fun d => begun d i st so ∧ (d.pdS i).waiting = none ∧ stays d [i])) ∧
    (s.dev.pdState i = 3 → s.dev.pwr.trip = false ∨ x.target = 2 → Completes (.domainGood dm) s (fun d => d.pdState i = x.target ∧
      d.num 0x70C0 6 i = (s.dev.num 0x70C0 6 i + 1) % 2 ^ 64 ∧ (∀ j, j ≤ 1667 → j ≠ i → d.pdState j = s.dev.pdState j) ∧
      (x.target = 0 → d.num 0x70C0 3 i = x.source ∧ d.num 0x70C0 4 i = s.dev.stamp.toNat ∧ d.mem = s.dev.mem) ∧
      ∀ g, domKind i = .core g →
        (x.target = 2 → (∀ off, off < 0x100000 → d.byteAt (Device.localAddr g off) = 0) ∧ (d.core g).frames = []) ∧
        (x.target = 1 → x.from_ = 0 → (d.core g).thr = [] ∧ (d.core g).slots = [] ∧
          (d.core g).frames = (s.dev.core g).frames ∧ d.mem = s.dev.mem))) ∧
    (s.dev.pdLate i = false → Completes (.domainTransitionTimeout dm) s (fun d => d = s.dev)) ∧
    (s.dev.pdLate i = true →
      (s.dev.runState ≠ 0 → s.dev.planRuns = false → Completes (.domainTransitionTimeout dm) s (fun d =>
        d.pdState i = 2 ∧ Raised 0x6002 s.dev d)) ∧
      (s.dev.runState = 0 → ∀ k, domKind i = .cluster k → Completes (.domainTransitionTimeout dm) s (fun d =>
        d.pdState i = 2 ∧ Thaw.provCluster s.dev.thaw.repair k ∈ d.thaw.clBad))) ∧
    (s.dev.pdState (pdP p) = 1 → Completes (.neighbourDetect p) s (fun d =>
      begun d (pdP p) 0 7 ∧ stays d [pdP p]))

/-- R480 to R485: clock and voltage of a die, and its protections. A legal point is taken, one below the plan's floor or
above what the voltage carries is refused with 0x6004 or 0x6003; the voltage moves by 2.5 mV a step; a hot die, a high
input power and a hot stack raise their events, and the clock falls by 50 MHz a step to its floor. -/
def Obligations.PowerClocksAndProtections : Prop :=
  ∀ (s : State) (c : Conn) (die : Die) (mhz v : BitVec 16) (t : Int) (h : Stack) (ms sec : Nat),
    let ans (d : Device) (i sub st : Nat) := d.out.head? = some (.answer i sub 0 st)
    let f := mhz.toNat
    let j := max (t + 1000).toNat (Map.get 0 s.dev.pwr.tj (4 + die.val / 2))
    let hot := s.dev.tThrottle ≤ s.dev.dieJunction die ∨ s.dev.pwr.exceeds ≠ none
    let flr := if 1105 ≤ s.dev.dieJunction die ∨ s.dev.pwr.overFloor = true then 550 else max 550 s.dev.clkFloor
    (s.dev.valueStatus c 0x1601 (die + 1) 0 f = stOK → Completes (.pwrDieTargetMhz c die mhz) s (fun d =>
      (isPoint f = false → d = { s.dev with out := .answer 0x1601 (die + 1) 0 stRange :: s.dev.out }) ∧
      (isPoint f = true → belowFloor s.dev f = true → Raised 0x6004 s.dev d ∧ ans d 0x1601 (die + 1) stRange) ∧
      (isPoint f = true → belowFloor s.dev f = false → d.num 0x1601 (die + 1) = f ∧ ans d 0x1601 (die + 1) stOK))) ∧
    (s.dev.valueStatus c 0x4602 (die + 1) 0 f = stOK → isPoint f = true → belowFloor s.dev f = false →
      Completes (.pwrDieFreqMhz c die mhz) s (fun d =>
        if s.dev.vcore die < s.dev.vplan die f then Raised 0x6003 s.dev d ∧ d.freq die = s.dev.freq die ∧
          ans d 0x4602 (die + 1) stState
        else d.freq die = f ∧ d.num 0x1601 (die + 1) = f ∧ d.dvSeq die = .idle ∧ ans d 0x4602 (die + 1) stOK)) ∧
    (s.dev.valueStatus c 0x4602 (die + 5) 0 v.toNat = stOK → v.toNat % 25 = 0 → Completes (.pwrDieVcore c die v) s (fun d =>
      if v.toNat < s.dev.vplan die (s.dev.freq die) then Raised 0x6003 s.dev d ∧ d.vcore die = s.dev.vcore die
      else d.vcore die = v.toNat ∧ d.dvSeq die = .idle ∧ ans d 0x4602 (die + 5) stOK)) ∧
    (s.dev.dvSeq die = .up (s.dev.dvGoal die) → Completes (.vcoreSlewStep die) s (fun d =>
      d.vcore die = s.dev.vcore die + 25 ∧ d.freq die = s.dev.freq die)) ∧
    (s.dev.dvSeq die = .down (s.dev.dvGoal die) → s.dev.vplan die (s.dev.dvGoal die) < s.dev.vcore die →
      Completes (.vcoreSlewStep die) s (fun d => d.vcore die = s.dev.vcore die - 25 ∧ d.freq die = s.dev.freq die)) ∧
    (s.dev.dvSeq die = .settle (s.dev.dvGoal die) → Completes (.settleDone die) s (fun d =>
      if s.dev.vcore die < s.dev.vplan die (s.dev.dvGoal die) then d.dvSeq die = .up (s.dev.dvGoal die) ∧ d.freq die = s.dev.freq die
      else d.freq die = s.dev.dvGoal die)) ∧
    Completes (.thermalSensorRead (.junction die t)) s (fun d => Map.get 0 d.pwr.tj die = (t + 1000).toNat ∧
      (s.dev.tThrottle ≤ j → Map.get false s.dev.pwr.episode die = false →
        Raised 0x6005 s.dev d ∧ Map.get false d.pwr.episode die = true) ∧
      (1105 ≤ j → Map.get false s.dev.pwr.hot die = false → Raised 0x6006 s.dev d)) ∧
    Completes (.thermalSensorRead (.input ms sec)) s (fun d => d.num 0x1600 1 = sec ∧
      (3300 < ms ∨ s.dev.force 0x1600 2 < sec → s.dev.pwr.exceeds = none →
        Raised 0x6008 s.dev d ∧ d.pwr.exceeds = some s.dev.time.nowNs)) ∧
    (hot → flr < s.dev.freq die → Completes (.throttleStep die) s (fun d =>
      Map.get 0 d.pwr.cap die = max flr (s.dev.freq die - 50) ∧ (s.dev.dvSeq die = .idle →
        d.freq die = min (min (s.dev.num 0x1601 (die + 1)) (s.dev.num 0x1603 (die + 1))) (max flr (s.dev.freq die - 50))))) ∧
    Completes (.hbmTempReport h t) s (fun d => d.num 0x70A0 4 (h + 1) = ofSgn 8 t ∧
      (95 < t → Map.get false d.pwr.hbmThr h = true ∧ (Map.get false s.dev.pwr.hbmThr h = false → Raised 0x6007 s.dev d)) ∧
      (t ≤ 90 → Map.get false d.pwr.hbmThr h = false))

/-! ### The Thaw, firmware and identity -/

/-- R547, R548, R551; R447 to R456, R470, R550 to R552: A trip switches every domain but PD_MGMT off, is kept and reported
with 0x600F, and the device is LOST. A reset, a lost PWRGOOD and an input below 38 V lose all state but the package flash
and the island. The steps of the Thaw. It starts with the rising edge of RESET_N at 40 V or more, reads the device key and
selects the preferred slot; each step completes into the next or ends at its limit as R447 says; groups and waves bring
the units up in order; after step 12 the device is READY. -/
def Obligations.ThawTripsAndResets : Prop :=
  (∀ (s : State) (cause : TripCause) (die : Die) (val mv : Nat),
    let wiped (c : Instr) (P : Device → Prop) := Completes c s (fun d => d.mem = [] ∧ d.dict = {} ∧ d.cores = [] ∧
      d.clus = [] ∧ d.seqs = [] ∧ d.mgmt = {} ∧ d.adm = {} ∧ d.cad = {} ∧ d.evt = {} ∧ d.flash = s.dev.flash ∧
      d.isl = s.dev.isl ∧ d.pwr.trip = false ∧ P d)
    (tripReached cause val = false → Completes (.hardwareTrip cause die val) s (fun d => d = s.dev)) ∧
    (s.dev.pwr.trip = false → tripReached cause val = true → Completes (.hardwareTrip cause die val) s (fun d => d.pwr.trip = true ∧ Raised 0x600F s.dev d ∧
      d.num 0x1605 1 = 2 ^ tripBit cause ∧ d.num 0x1605 2 = (s.dev.num 0x1605 2 + 1) % 2 ^ 32 ∧ d.num 0x1100 1 = 4 ∧
      d.alert = true ∧ .reportLost ∈ d.out ∧ d.mem = [] ∧ d.cores = [] ∧ ∀ i, i < 1666 → d.pdState (i + 1) = 2)) ∧
    (mv < 38000 → wiped (.inputUndervoltage mv) (fun d => d.pwr.vinMv = mv)) ∧
    wiped .resetNLow (fun d => d.pwr.resetn = false) ∧
    wiped .pwrgoodLow (fun d => d.pwr.pwrgood = false)) ∧
  ∀ (s : State) (straps : BitVec 7) (mv : Nat) (boot : BootFacts) (n : Fin 9) (w : Fin 18) (cs : List CorePos)
    (ks : List ClPos) (un : List Nat),
    let at_ (k : Nat) := s.dev.thawing = true ∧ s.dev.thawStep = k
    let rep := s.dev.thaw.repair
    let ser := s.dev.domOf 0x1000 4
    let done (P : Device → Prop) := Completes (.thawStepDone boot) s P
    (s.dev.pwr.resetn = false ∨ s.dev.pwr.pwrgood = false →
      (mv < 40000 → Completes (.resetNRise straps mv boot) s (fun d => d.thaw.began = false ∧ d.mem = [] ∧ d.dict = {})) ∧
      (40000 ≤ mv → (boot.puf.take 3).contains true = false → Completes (.resetNRise straps mv boot) s (fun d =>
        Map.get 0 d.evt.raised 0x7001 = 1 ∧ d.num 0x1100 1 = 4 ∧ d.thawStep = 1 ∧ d.num 0x1605 3 = straps.toNat)) ∧
      (let first := if bitOf straps.toNat 5 then 1 - s.dev.flash.preferred else s.dev.flash.preferred
       40000 ≤ mv → (boot.puf.take 3).contains true = true → bitOf straps.toNat 6 = false →
        slotOk (s.dev.slotOf first) (s.dev.flashNum .floor) = true → Completes (.resetNRise straps mv boot) s (fun d =>
          d.thawStep = 3 ∧ d.num 0x1D00 1 = first ∧ d.num 0x1605 3 = straps.toNat ∧ d.flash = s.dev.flash))) ∧
    (at_ 3 → done (fun d => d.thawStep = 4 ∧ d.mem = s.dev.mem)) ∧
    (at_ 4 → boot.repair.getD 0 false = true → repairOk s.dev.flash.repairA ser = true →
      done (fun d => d.thawStep = 5 ∧ d.thaw.repair = s.dev.flash.repairA)) ∧
    (at_ 4 → boot.repair.getD 0 false = false → boot.repair.getD 1 false = false →
      done (fun d => Raised 0x7003 s.dev d ∧ d.num 0x1100 1 = 4)) ∧
    (at_ 5 → boot.edgesOk = true → done (fun d => d.thawStep = 7 ∧ d.thaw.memPending = true ∧
      ∀ i, i < 4 → d.pdState (pdF i) = 0)) ∧
    (at_ 5 → boot.edgesOk = false → done (fun d => Raised 0x400A s.dev d)) ∧
    (at_ 7 → done (fun d => d.thawStep = 8 ∧ d.thaw.wave = 0)) ∧
    (at_ 8 → done (fun d => d.thawStep = 9)) ∧ (at_ 9 → done (fun d => d.thawStep = 10)) ∧
    (at_ 11 → done (fun d => d.thawStep = 12)) ∧
    (∀ k, s.dev.thawLate k.val = false → Completes (.thawStepLimit k boot un) s (fun d => d = s.dev)) ∧
    (at_ 4 → s.dev.thawLate 4 = true → Completes (.thawStepLimit 4 boot un) s (fun d => Raised 0x7003 s.dev d ∧ d.num 0x1100 1 = 4)) ∧
    (at_ 7 → s.dev.thawLate 7 = true → Completes (.thawStepLimit 7 boot un) s (fun d => d.thawStep = 8 ∧ ∀ k, k < 96 →
      d.pdState (pdCl k) = if s.dev.pdState (pdCl k) = 0 then 0 else 2)) ∧
    (at_ 9 → s.dev.thawLate 9 = true → Completes (.thawStepLimit 9 boot un) s (fun d => d.thawStep = 10)) ∧
    (at_ 7 → n.val < 8 → groupDue s.dev n = true → Completes (.clusterStoreGroup n) s (fun d => ∀ i, i < 12 →
      let k := 24 * (i / 3) + 3 * n.val + i % 3
      s.dev.pdState (pdCl k) = 2 → Thaw.provCluster rep k ∉ s.dev.thaw.clBad → d.pdState (pdCl k) = 3)) ∧
    (at_ 8 → w.val = s.dev.thaw.wave → waveBusy s.dev = false → spaced s.dev = true →
      (w.val < 16 → Completes (.thawWave w true) s (fun d => d.thaw.wave = w.val + 1 ∧ ∀ k, k < 96 →
        s.dev.pdState (pdCl k) = 0 → s.dev.pdState (pdCo (16 * k + w.val)) = 2 →
        Thaw.provCore rep (16 * k + w.val) ∉ s.dev.thaw.coBad → d.pdState (pdCo (16 * k + w.val)) = 3)) ∧
      (s.dev.thaw.delayed = false → Completes (.thawWave w false) s (fun d => Raised 0x7009 s.dev d ∧
        d.thaw = { s.dev.thaw with delayed := true }))) ∧
    (at_ 10 → Completes (.startUpTestDone cs ks) s (fun d => d.thawStep = 11 ∧ d.mem = s.dev.mem ∧
      ∀ cp ∈ cs, Device.posIdx cp ∈ d.thaw.coBad)) ∧
    (at_ 12 → s.dev.gateDone = true → Completes .thawReady s (fun d => d.thawStep = 13 ∧ d.num 0x1100 1 = 1 ∧
      d.num 0x1D04 1 = s.dev.time.nowNs / 1000000 ∧ Raised 0x700A s.dev d ∧ d.mem = s.dev.mem))

/-- R461 to R463: the control image reaches the cores. A good chunk sets its bit; END carries count and digest; the hub
die answers a repair request with the chunks; a core whose image hashes to its digest is released, and any other asks for
the whole image once. -/
def Obligations.ControlImages : Prop :=
  ∀ (s : State) (cp : CorePos) (b : List Byte) (mask : BitVec 64),
    let x := Device.posIdx cp
    let i := s.dev.img x
    let k := fieldB b 2 2
    let im := slotImage (s.dev.slotOf (s.dev.num 0x1D00 1)) 2
    (coreListens s.dev x = true →
      (chunkGood b 1 = true → Completes (.chunkReceive cp b) s (fun d => (d.img x).bitmap = i.bitmap ||| 2 ^ k ∧
        Map.get [] (d.img x).chunks k = b.drop 32 ∧ ∀ y, y ≠ x → d.img y = s.dev.img y)) ∧
      (chunkGood b 2 = true → Completes (.chunkEnd cp b) s (fun d => (d.img x).count = fieldB b 4 2 ∧
        (d.img x).digest = b.drop 32 ∧ (d.img x).chunks = i.chunks ∧ ∀ y, y ≠ x → d.img y = s.dev.img y)) ∧
      (i.count ≠ 0 → missingMask i = 0 → Completes (.imageHashDone cp) s (fun d =>
        (shake256 (hashedBytes i) 32 = i.digest → (d.img x).released = true ∧ d.dict = s.dev.dict) ∧
        (shake256 (hashedBytes i) 32 ≠ i.digest → i.wholeAsked = false → d.mem = s.dev.mem ∧ (d.img x).wholeAsked = true ∧
          (d.img x).bitmap = 0 ∧ .chunkRequest x (2 ^ i.count - 1) ∈ d.out) ∧
        (shake256 (hashedBytes i) 32 ≠ i.digest → i.wholeAsked = true → Raised 0x7006 s.dev d ∧ x ∈ d.thaw.coBad)))) ∧
    (s.dev.thaw.began = true → 9 ≤ s.dev.thawStep → Completes (.chunkRepairRequest cp mask) s (fun d =>
      d = { s.dev with out := d.out } ∧ ∀ n, n < 64 → mask.getLsbD n = true → 4096 * n < im.length →
        .chunk x (chunkBytes im n) ∈ d.out))

/-- R453, R460, R465 to R469: firmware slots, the quote and the credential store. FW_IMAGE fills the slot that is not
running; VERIFY judges it, ACTIVATE prefers it, COMMIT raises the floor; a nonce queues its session for a quote; a
signature uses up its index; the store takes and gives up entries; a completed record is what the flash then reads. -/
def Obligations.FirmwareAndIdentity : Prop :=
  ∀ (s : State) (c : Conn) (b nonce : List Byte) (boot : BootFacts) (sid : BitVec 32) (ok : Bool) (r : FlashRec),
    let ans (d : Device) (i sub st : Nat) := d.out.head? = some (.answer i sub 0 st)
    let staged := s.dev.num 0x1D01 3
    let floor_ := max (s.dev.num 0x1D00 3) (s.dev.num 0x1D00 4)
    let m := s.dev.slotOf s.dev.inactive
    let good := manifestOk m && [1, 2, 3].all (imageMatches m)
    let recent := s.dev.att.times.filter (fun t => decide (s.dev.time.nowNs < t + 1000000000))
    let n := fieldB b 1 1
    let ix := s.dev.num 0x1D02 6
    (s.dev.accessStatus c 0x1D01 1 0 = stOK → s.dev.att.verifying = false → b.length ≤ 2 ^ 26 →
      Completes (.fwImage c b) s (fun d => d.slotOf s.dev.inactive = b ∧ d.num 0x1D01 3 = 1 ∧
        (s.dev.num 0x1D00 1 < 2 → d.slotOf (s.dev.num 0x1D00 1) = s.dev.slotOf (s.dev.num 0x1D00 1)) ∧ ans d 0x1D01 1 stOK)) ∧
    (s.dev.valueStatus c 0x1D01 2 0 1 = stOK → Completes (.fwVerify c) s (fun d =>
      if staged = 0 then ans d 0x1D01 2 stState ∧ d.att = s.dev.att
      else ans d 0x1D01 2 stOK ∧ d.att = { s.dev.att with verifying := true })) ∧
    (s.dev.valueStatus c 0x1D01 2 0 2 = stOK → Completes (.fwActivate c) s (fun d =>
      if staged ≠ 2 then ans d 0x1D01 2 stState ∧ d.flash = s.dev.flash
      else ans d 0x1D01 2 stOK ∧ d.flash = { s.dev.flash with preferred := s.dev.inactive } ∧ d.num 0x1D01 3 = 4)) ∧
    (s.dev.valueStatus c 0x1D01 2 0 3 = stOK → s.dev.runState = 1 ∨ s.dev.runState = 2 → Completes (.fwCommit c) s (fun d =>
      ans d 0x1D01 2 stOK ∧ d.num 0x1D00 4 = floor_ ∧ d.flashNum .floor = floor_ % 2 ^ 32 ∧ Raised 0x700E s.dev d)) ∧
    (s.dev.att.verifying = true → Completes (.fwVerifyDone boot) s (fun d => d.att.verifying = false ∧
      d.num 0x1D01 3 = (if good = true ∧ s.dev.num 0x1D00 4 ≤ slotSvn m then 2 else 3) ∧
      (good = true → slotSvn m < s.dev.num 0x1D00 4 → Raised 0x700D s.dev d) ∧ d.flash = s.dev.flash)) ∧
    (∀ x, s.dev.session sid.toNat = some x → nonce.length = 32 → s.dev.num 0x1D02 5 = 0 → recent.length < 100 →
      Completes (.attNonce sid nonce) s (fun d => ans d 0x1D02 3 stOK ∧
        d.session sid.toNat = some { x with nonce := some nonce, quote := [] } ∧
        d.att.queue = s.dev.att.queue.filter (· != sid.toNat) ++ [sid.toNat])) ∧
    (∀ k rest x nn, s.dev.att.queue = k :: rest → s.dev.num 0x1D02 5 = 0 → ix < 2 ^ 40 → ix < s.dev.num 0x1D02 7 →
      s.dev.session k = some x → x.nonce = some nn → Completes (.quoteSigned ok) s (fun d => d.att.queue = rest ∧
        d.num 0x1D02 6 = ix + 1 ∧ d.flash = s.dev.flash ∧
        ∃ z tail, d.session k = some z ∧ z.quote = quoteBody s.dev nn ++ (leBytes 5 ix).reverse ++ tail)) ∧
    (∀ k rest, s.dev.att.queue = k :: rest → s.dev.num 0x1D02 5 = 0 → s.dev.num 0x1D02 7 ≤ ix →
      Completes (.quoteSigned false) s (fun d => d.num 0x1D02 5 = 2 ∧ Raised 0x700B s.dev d ∧ d.num 0x1D02 6 = ix)) ∧
    (s.dev.num 0x1D02 5 = 1 → Completes .signingTreeRebuilt s (fun d => d.num 0x1D02 5 = 0 ∧ d.att = s.dev.att)) ∧
    (s.dev.accessStatus c 0x1D03 1 0 = stOK → b.length = 84 → 1 ≤ fieldB b 0 1 → fieldB b 0 1 ≤ 3 → 1 ≤ n → n ≤ 32 →
      (b.drop (4 + n)).take (32 - n) = List.replicate (32 - n) 0 → fieldB b 0 1 ≤ s.dev.connCeil c →
      s.dev.creds.any (fun e => Device.credIdent e == Device.credIdent b) = false → s.dev.creds.length < 32 →
      Completes (.secCredWrite c b) s (fun d => d.creds = s.dev.creds ++ [b.take 2 ++ [0, 0] ++ b.drop 4] ∧ ans d 0x1D03 1 stOK)) ∧
    (s.dev.accessStatus c 0x1D03 2 0 = stOK → s.dev.creds.any (fun e => Device.credIdent e == b) = true →
      Completes (.secCredDelete c b) s (fun d => d.creds = s.dev.creds.filter (fun e => Device.credIdent e != b) ∧
        ans d 0x1D03 2 stOK ∧ ∀ z ∈ d.mgmt.conns, z.2.2.2 ≠ b)) ∧
    Completes (.flashRecordWrite r b true) s (fun d => d.flashRec r = some b ∧ d.mem = s.dev.mem ∧
      ∀ r', r' ≠ r → d.flashRec r' = s.dev.flashRec r')

/-- R558, R559; R359, R360: The sideband. SB_STATUS reads its fields and clears ALERT. While the boot ROM awaits an image,
BEGIN empties the staging, words join it, COMMIT takes it at the announced length; a valid image goes into the slot that
failed first and the Thaw starts again. A grant slot grants a pending request: the oldest on every N-th slot, else one of
the highest priority; the winner is one that waits. A request to an arbiter at which none waits is granted and no longer
pending. ARB_PRIO sets the priority of a class. -/
def Obligations.SidebandAndArbiters : Prop :=
  (∀ (s : State) (v : BitVec 32) (boot : BootFacts),
    let t := s.dev.thaw
    let x := s.dev.sbStatus
    let becomes (c : Instr) (y : ThawS) := s.dev.thaw.romRecovery = true → Completes c s (fun d => d = { s.dev with thaw := y })
    let ok := slotOk t.recData (s.dev.flashNum .floor)
    s.dev.sbUp = true →
    Completes .sbStatus s (fun d => d = { s.dev with alert := false, out := .sbWord x :: s.dev.out }) ∧
    bitOf x 1 = s.dev.alert ∧ bitOf x 2 = (s.dev.num 0x1600 4 != 0) ∧ bitOf x 3 = s.dev.pwr.trip ∧
    bitOf x 4 = t.romRecovery ∧ bitsOf x 7 5 = s.dev.runState % 8 ∧ bitsOf x 15 8 = s.dev.thawStep % 256 ∧
    becomes (.sbRecovLen v) { t with recLen := v.toNat } ∧
    (t.recState = 1 → becomes (.sbRecovData v) { t with recData := t.recData ++ leBytes 4 v.toNat }) ∧
    becomes .sbBegin { t with recState := 1, recData := [] } ∧
    (t.recState = 1 → becomes .recoveryCommit { t with
      recState := if t.recData.length = t.recLen ∧ t.recLen ≤ 2 ^ 26 then 2 else 3 }) ∧
    (t.romRecovery = true → t.recState = 2 → Completes (.recoveryVerifyDone boot) s (fun d =>
      if ok then d.slotOf t.firstBad = t.recData ∧ d.flash.preferred = t.firstBad ∧ d.thaw.recovered = true ∧
        d.thaw.straps = t.straps
      else d = { s.dev with thaw := { t with recState := 3 } }))) ∧
  (∀ (x : ArbS) (n : Nat) (prio : Nat → Nat), (∃ y ∈ x.inputs, y.2.cls.isSome = true) →
    ∃ w ∈ x.inputs, (arbitrate x n prio).2 = some w ∧ w.2.cls.isSome = true ∧
      (arbitrate x n prio).1.count = (x.count + 1) % n ∧
      ∀ y ∈ x.inputs, y.2.cls.isSome = true →
        (x.count = n - 1 → y.2.age ≤ w.2.age) ∧ (x.count ≠ n - 1 → prio (y.2.cls.getD 0) ≤ prio (w.2.cls.getD 0))) ∧
  ∀ (s : State) (c : Conn) (cls : Fin 7) (v : Byte) (a : Arb) (port k : Nat),
    (s.dev.valueStatus c 0x4F01 (cls + 1) 0 v.toNat = stOK → Completes (.arbPrio c cls v) s (fun d =>
      classPrio d cls = v.toNat ∧ d = { s.dev with dict := d.dict, out := .answer 0x4F01 (cls + 1) 0 stOK :: s.dev.out } ∧
      KeepsObjects [(0x4F01, cls + 1, 0)] s.dev d)) ∧
    ((s.dev.arb (arbKey a)).inputs = [] → port < arbR a → k < 4 → arbMasked s.dev a port = false →
      (∀ c b, a = .bank c b → s.dev.bg.storePorts = []) →
      Completes (.arbiterGrant a [(port, k)] []) s (fun d => d.mem = s.dev.mem ∧ .granted (arbKey a) port 0 ∈ d.out ∧
        (Map.get {} (d.arb (arbKey a)).inputs port).cls = none))

/-! ### Flisol links -/

/-- R396 to R398, R394, R395: training and codewords. A step that has done its work leads to the next; step 6 brings the
port up with full credits; an attempt that fails raises 0x5004 and the fourth marks the port down with 0x5003; IDENT that
does not fit marks it miswired; a window with too many errors, and an eye that closes, retrain it with 0x5002. A codeword
position is decoded from its lanes, every 4,096th holds alignment (R388); codewords are taken in order, the first that
cannot be corrected, and the expected one where it cannot be corrected again, is answered with a NAK, NAKs by replay,
credits given back up to the buffers. The model's choice (log entry 88): a LAT that echoes nothing is no exchange. -/
def Obligations.LinkTraining : Prop :=
  ∀ (s : State) (p : Port) (res : TrainRes) (pos shape : BitVec 12) (rail : Fin 2) (port : BitVec 4) (gen : BitVec 3)
    (st ec now : Nat) (ber : BitVec 32) (un : Nat) (seq : Fin 512) (rp : Bool) (rx : Levels) (ack : BitVec 9) (fr : List (BitVec 16))
    (ctl : List (BitVec 8)) (lane : Fin 8),
    let x := s.dev.port p
    let state (d : Device) := d.num 0x70B0 1 (p + 1)
    let right := s.dev.identRight p pos.toNat shape.toNat rail.val port.toNat gen.toNat
    let fails (c : Instr) := Completes c s (fun d => Raised 0x5004 s.dev d ∧ d.mem = s.dev.mem ∧
      (x.attempt < 4 → (d.port p).attempt = x.attempt + 1 ∧ state d = state s.dev) ∧
      (4 ≤ x.attempt → state d = 0 ∧ Raised 0x5003 s.dev d ∧ (d.port p).step = 0))
    (s.dev.portTrains p = true →
      (res.ok = false → fails (.portTrainingStepDone p res)) ∧
      (s.dev.trainLate p = true → fails (.portTrainingTimeout p)) ∧
      (s.dev.trainLate p = false → Completes (.portTrainingTimeout p) s (fun d => d = s.dev)) ∧
      (res.ok = true → x.step < 4 → Completes (.portTrainingStepDone p res) s (fun d => (d.port p).step = x.step + 1 ∧
        state d = state s.dev ∧ d.mem = s.dev.mem)) ∧
      (res.ok = true → x.step = 6 → res.ber.toNat ≤ berGate → res.uncorr = 0 → state s.dev = 1 → 1000 ≤ res.gateMs →
        Completes (.portTrainingStepDone p res) s (fun d => state d = 2 ∧ (d.port p).cred = fullCredits ∧
          (d.port p).txNext = 0 ∧ (d.port p).rxNext = 0 ∧ Raised 0x5001 s.dev d)) ∧
      (x.step = 4 → Completes (.ident p pos shape rail port gen) s (fun d => d.num 0x70B0 2 (p + 1) = pos.toNat ∧
        if right then (d.port p).identOk = true ∧ state d = state s.dev else state d = 5 ∧ Raised 0x5006 s.dev d)) ∧
      (x.step = 5 → x.latN < 64 → x.stale = false → Completes (.lat p st ec now) s (fun d =>
        d.port p = (if ec = 0 then x else { x with latN := x.latN + 1, latPs := some (match x.latPs with | some l => min l (now - ec) | none => now - ec) }) ∧
        d.out = .control p 9 (BitVec.ofNat 128 (now % 2 ^ 64 + st % 2 ^ 64 * 2 ^ 64)) :: s.dev.out))) ∧
    (s.dev.portUp p = true →
      Completes (.berWindowCheck p ber un) s (fun d => d.num 0x70B0 4 (p + 1) = ber.toNat ∧
        if berLimit < ber.toNat ∨ 16 ≤ un then state d = 3 ∧ Raised 0x5002 s.dev d ∧ (d.port p).step = 2
        else state d = 2 ∧ d.port p = x) ∧
      Completes (.eyeMonitorReading (.lane p lane) true) s (fun d => state d = 3 ∧ Raised 0x5002 s.dev d) ∧
      (let y : PortS := { x with rxPos := (x.rxPos + 1) % 4096, levels := lastLevels rx }
       let word := rsDecode (receiveLanes x.precoded x.levels rx)
       let takes (P : Device → Prop) := Completes (.codewordReceive p seq rp rx) s (fun d =>
         (d.port p).rxPos = y.rxPos ∧ (d.port p).levels = y.levels ∧ d.mem = s.dev.mem ∧ P d)
       (alignPosition x.rxPos = true → takes (fun d => d.port p = y ∧ d = { s.dev with link := d.link })) ∧
       (alignPosition x.rxPos = false →
        (∀ w, word = some w → seq.val = x.rxNext → takes (fun d => (d.port p).rxNext = (x.rxNext + 1) % 512 ∧
          (d.port p).nak = false ∧ (d.port p).stale = rp ∧ d.out = s.dev.out)) ∧
        (∀ w, word = some w → seq.val ≠ x.rxNext → takes (fun d => d.port p = y ∧ d.out = s.dev.out)) ∧
        (word = none → x.nak = true → seq.val ≠ x.rxNext → takes (fun d => d.port p = y ∧ d.out = s.dev.out)) ∧
        (word = none → x.nak = false ∨ seq.val = x.rxNext → takes (fun d => d.port p = { y with nak := true, nakDue := true } ∧
          d.num 0x70B0 5 (p + 1) = (s.dev.num 0x70B0 5 (p + 1) + 1) % 2 ^ 64 ∧
          d.out = .nak p ((x.rxNext + 511) % 512) :: s.dev.out)))) ∧
      Completes (.nakReceive p ack) s (fun d => d.out.head? = some (.replay p ((ack.toNat + 1) % 512)) ∧
        (Map.get 0 s.dev.evt.last (0x5005 * 2 ^ 140 + p.val) = 0 → Raised 0x5005 s.dev d)) ∧
      Completes (.credit p fr ctl) s (fun d => d = { s.dev with link := d.link } ∧
        ∀ i, i < 4 → Map.get 0 (d.port p).cred i = min 640 (Map.get 0 x.cred i + (fr.getD i 0).toNat)))

/-- R390 to R393, R395, R399, R405, R408, R409, R411: packets and control messages. A read is answered with the bytes, a
write stored and acknowledged; a completion serves its TAG, and one without a request is counted; a request that no
completion answers in FL_CPL_TIMEOUT_US ends with 0x5009. A packet waits for its credits: the answers at the injection
point, a packet for another device before its next hop. One starts only against the credits of its slots and while fewer
than 256 codewords are unacknowledged. A control slot that is due leaves first (R407). The model's choice (log entry 88): a
request for whose response no space is free changes nothing. -/
def Obligations.LinkPackets : Prop :=
  ∀ (s : State) (p : Port) (h : PktHdr) (data : List Byte) (tag : BitVec 16) (r : Req) (n : Nat) (cl : Fin 4)
    (pos : BitVec 12) (port : BitVec 4) (down : Bool) (ns : BitVec 32) (body : BitVec 128),
    let a := h.addr.toNat
    let mine (ty : Nat) (b : List Byte) := s.dev.portUp p = true ∧ badPacket h b = false ∧ h.typ.toNat = ty ∧
      h.dest.toNat = s.dev.position
    let room := s.dev.responseRoom (Device.responseSlots h) = true
    let frees (d : Device) := d.out.head? = some (.creditReturn p (packetCls h) (packetSlots h))
    let way := s.dev.routeMode h.src.toNat
    let replied (d : Device) (ty : Nat) (err : Bool) (b : List Byte) := way.2.1 = false →
      ∀ i plus, nextDir s.dev.shape s.dev.position (if way.1 = 3 then way.2.2 else h.src.toNat) = some (i, plus) →
      let q := portOf (if way.1 = 3 ∨ way.1 = 1 then 0 else if way.1 = 2 then 1 else portRail p) i plus
      s.dev.takesPackets q = true → ∃ k, (k, b) ∈ (d.port q).loc ∧ k.typ.toNat = ty ∧ k.tag = h.tag ∧
        k.tclass = h.tclass ∧ k.dest = h.src ∧ k.err = err ∧ k.last = true
    let whole := ∀ e, (s.dev.mq r.mover).head? = some e → ∀ fl ∈ e.flight, fl.more = false
    let held (d : Device) (t : Nat) := Map.get none d.link.tags t
    let counted (c : Instr) := Completes c s (fun d => frees d ∧ d.mem = s.dev.mem ∧
      d.num 0x1702 12 = (s.dev.num 0x1702 12 + 1) % 2 ^ 64)
    (mine 0 [] → h.len.toNat ≤ 512 → s.dev.peerReach a h.len.toNat = true → room → Completes (.rd p h []) s (fun d =>
      frees d ∧ d = { s.dev with link := d.link, out := d.out } ∧
      replied d 3 (s.dev.poorIn a h.len.toNat) (s.dev.bytes a h.len.toNat))) ∧
    (mine 0 [] → ¬ room → Completes (.rd p h []) s (fun d => d = s.dev)) ∧
    (mine 1 data → ¬ room → Completes (.wr p h data) s (fun d => d = s.dev)) ∧
    (mine 1 data → s.dev.peerReach a data.length = true → room → Completes (.wr p h data) s (fun d => frees d ∧
      d.bytes a data.length = data ∧ (∀ y, y < a ∨ a + data.length ≤ y → d.byteAt y = s.dev.byteAt y) ∧
      d = { stored s.dev d with link := d.link, out := d.out } ∧ replied d 2 false [])) ∧
    (mine 2 [] → (held s.dev h.tag.toNat = none → counted (.cpl p h)) ∧
      (held s.dev h.tag.toNat = some r → r.isWrite = true → Completes (.cpl p h) s (fun d => frees d ∧
        held d h.tag.toNat = none ∧ d.mem = s.dev.mem))) ∧
    (mine 3 data → (held s.dev h.tag.toNat = none → counted (.cpld p h data)) ∧
      (held s.dev h.tag.toNat = some r → r.isWrite = false → Completes (.cpld p h data) s (fun d => frees d ∧
        d.mem = s.dev.mem ∧ (whole → held d h.tag.toNat = (if h.last = true ∨ r.left ≤ data.length then none
          else some { r with left := r.left - data.length }))))) ∧
    (held s.dev tag.toNat = some r → Completes (.completionTimeout tag) s (fun d => d.mem = s.dev.mem ∧
      if s.dev.time.nowNs < r.sent + 1000 * s.dev.force 0x1700 4 then d = s.dev
      else Raised 0x5009 s.dev d ∧ d.num 0x1401 1 = 1 ∧ (whole → held d tag.toNat = none))) ∧
    (∀ o vc, s.dev.portUp p = true → badPacket h data = false → h.via = h.dest → s.dev.takesPackets o = true →
      s.dev.nextHop (portRail p) (some (portDim p)) h.vc h.dest.toNat = some (o, vc) →
      Completes (.packetForward p h data) s (fun d => d = { s.dev with link := d.link } ∧
        (d.port o).fwd = (s.dev.port o).fwd ++ [{ hdr := { h with vc := vc }, data := data, inPort := p, cls := packetCls h }] ∧
        ∀ q, q ≠ o → d.port q = s.dev.port q)) ∧
    (∀ y, s.dev.portUp p = true → (s.dev.port p).ctlGap < 15 →
      (s.dev.port p).loc.find? (fun z => packetSlots z.1 == n && packetCls z.1 == cl.val) = some y →
      Completes (.packetStart p none (some (n, cl))) s (fun d => d.mem = s.dev.mem ∧
        if n ≤ Map.get 0 (s.dev.port p).cred cl.val ∧ ((s.dev.port p).txNext + 512 - (s.dev.port p).unacked) % 512 < 256 then
          .packet p y.1 y.2 ∈ d.out ∧ Map.get 0 (d.port p).cred cl.val = Map.get 0 (s.dev.port p).cred cl.val - n ∧
          d.num 0x70B0 9 (p + 1) = (s.dev.num 0x70B0 9 (p + 1) + n) % 2 ^ 64
        else d.out = s.dev.out ∧ (d.port p).loc = (s.dev.port p).loc ∧ (d.port p).cred = (s.dev.port p).cred)) ∧
    (s.dev.portUp p = true → 15 ≤ (s.dev.port p).ctlGap → (s.dev.placeMessages.port p).ctlq ≠ [] →
      Device.windowFull (s.dev.placeMessages.port p) = false →
      Completes (.packetStart p none (some (n, cl))) s (fun d => d.mem = s.dev.mem ∧
        ∃ b, .controlSlot p b ∈ d.out ∧ b.length = 128)) ∧
    Completes (.downset pos port down) s (fun d => Raised 0x5007 s.dev d ∧
      d.downEntries.contains (pos.toNat + 4096 * port.toNat) = down ∧ d.mem = s.dev.mem) ∧
    (s.dev.num 0x1700 7 = p.val → Completes (.pathlat p ns) s (fun d =>
      d.num 0x1700 8 = (ns.toNat + s.dev.num 0x70B0 3 (p + 1) + 60) % 2 ^ 32 ∧ d.mem = s.dev.mem)) ∧
    (∀ q : Port, s.dev.portUp p = true → s.dev.mapPos (s.dev.num 0x1200 3) ≠ s.dev.position → s.dev.num 0x1700 7 = q.val →
      q ≠ p → s.dev.portUp q = true → 0 < Map.get 0 (s.dev.port q).ctl 1 → Completes (.doneMessageForward p 2 body) s (fun d =>
        d.out = .creditReturn p 5 1 :: .control q 2 body :: s.dev.out ∧
        Map.get 0 (d.port q).ctl 1 = Map.get 0 (s.dev.port q).ctl 1 - 1))

/-! ### Memory tiers and background work -/

/-- R14, R21, R375, R376, R379: errors of edges, stacks, channels and units. Each raises its event; what is uncorrectable
reads as zeros until it is written again (the model's choice, log entry 26); a lost channel empties the tier; an edge or a
stack that is lost stops all step work; a failed unit asks for a restore. -/
def Obligations.MemoryErrors : Prop :=
  ∀ (s : State) (edge : Fin 8) (h : Stack) (ch : Fin 32) (a : BitVec 43) (c : Chan) (g : CoreN) (e : Eng) (k : Cluster)
    (n : Fin 12),
    let stopped (d : Device) := d.cad.stopped = true ∧ d.out.head? = some .reportLost ∧
      ∀ m, m < 1536 → ∀ t, (d.thread m t).st = .free
    let ch12 := Device.ddrChan a.toNat
    let asks (d : Device) (code : Nat) := Raised code s.dev d ∧
      d.out.head? = some (.fwWrite (s.dev.num 0x1200 3) 0x1502 5 0 (code * 2 ^ 32))
    Completes (.d2dLaneFail edge true) s (fun d => Raised 0x4009 s.dev d ∧ d.mem = s.dev.mem ∧ d.cores = s.dev.cores) ∧
    Completes (.d2dLaneFail edge false) s (fun d => Raised 0x400A s.dev d ∧ stopped d) ∧
    (Map.get 0 s.dev.evt.last (0x4002 * 2 ^ 140 + hbmChan h ch) = 0 → Completes (.hbmErrorReport h ch .corrected a) s (fun d =>
      Raised 0x4002 s.dev d ∧ d.mem = s.dev.mem)) ∧
    Completes (.hbmErrorReport h ch .uncorrectable a) s (fun d => Raised 0x4003 s.dev d ∧
      ∀ y, d.byteAt y = if inChannel h ch a.toNat = true ∧ a.toNat / 128 = y / 128 then 0 else s.dev.byteAt y) ∧
    Completes (.hbmErrorReport h ch .lost a) s (fun d => Raised 0x4007 s.dev d ∧ d.num 0x70A0 1 (h + 1) = 1 ∧ stopped d) ∧
    (Map.get 0 s.dev.evt.last (0x4004 * 2 ^ 140 + ddrKey c) = 0 → Completes (.ddrCorrectedError c) s (fun d =>
      Raised 0x4004 s.dev d ∧ d.mem = s.dev.mem)) ∧
    (∀ off, s.dev.region a.toNat = .ddr off → (Map.get [] s.dev.bg.bursts ch12).length < 15 →
      Completes (.ddrUncorrectable a) s (fun d => Raised 0x4005 s.dev d ∧
        ∀ y, d.byteAt y = if a.toNat / 64 = y / 64 then 0 else s.dev.byteAt y)) ∧
    (s.dev.num 0x70A1 1 (c + 1) = 0 → Completes (.ddrChannelLoss c) s (fun d => d.num 0x70A1 1 (c + 1) = 2 ∧
      d.num 0x1800 3 = 2 ∧ Raised 0x4006 s.dev d ∧ d.out.head? = some .reportLost ∧
      ∀ y, d.byteAt y = if y < Device.ddrBase then s.dev.byteAt y else 0)) ∧
    ((s.dev.core g).failed = false → Completes (.unitFailureDetected (.engine g e)) s (fun d => asks d 0x8010 ∧
      (d.core g).failed = true ∧ (d.core g).thr = [] ∧ ∀ m, m ≠ g.val → d.core m = s.dev.core m)) ∧
    (s.dev.hv.failed.contains (true, k.val) = false →
      Completes (.unitFailureDetected (.fixedFunction k n)) s (fun d => asks d 0x8011 ∧ (true, k.val) ∈ d.hv.failed) ∧
      Completes (.unitFailureDetected (.monitor k)) s (fun d => asks d 0x8011 ∧ (true, k.val) ∈ d.hv.failed))

/-- R365, R380, R492 to R496: scrubbing, calibration, telemetry and wear. A scrubber reads its channel's addresses in turn
and writes back what was corrected unless the bytes have changed; a pass that is not finished when the next falls due
raises 0x4012. Stated while no plan runs, when no season sets a quota (the model's choice, log entry 27). -/
def Obligations.BackgroundWork : Prop :=
  ∀ (s : State) (k : Cluster) (bank : Fin 64) (h : Stack) (ch : Fin 32) (c : Chan) (u : Scrubber) (ec : EccRead)
    (x : Nat) (b : List Byte),
    let bk := 1024 + 64 * k.val + bank.val
    let now := s.dev.time.nowNs
    let due (key reads : Nat) (ui : Scrubber) := Completes (.scrubPassDue ui) s (fun d => d.scrubAt key = 0 ∧
      (s.dev.scrubAt key < reads → Raised 0x4012 s.dev d) ∧ d.mem = s.dev.mem)
    let wear := eraseEnds s.dev
    s.dev.planRuns = false →
    (s.dev.pdState (pdCl k) = 0 → Completes (.csScrubSlot k bank ec) s (fun d => d.mem = s.dev.mem ∧
      d.scrubAt bk = (s.dev.scrubAt bk + 1) % 8192 ∧ (ec = .corrected → Raised 0x4010 s.dev d) ∧
      (ec = .uncorrectable → Raised 0x4011 s.dev d))) ∧
    (s.dev.pdState (pdH h) = 0 →
      (Map.get none s.dev.bg.writeBack (hbmChan h ch) ≠ none → Completes (.hbmScrubRead h ch ec) s (fun d => d = s.dev)) ∧
      (s.dev.scrubAt (hbmChan h ch) < Device.hbmReads → Map.get none s.dev.bg.writeBack (hbmChan h ch) = none →
        Completes (.hbmScrubRead h ch ec) s (fun d => d.mem = s.dev.mem ∧
        d.scrubAt (hbmChan h ch) = s.dev.scrubAt (hbmChan h ch) + 1 ∧ (ec = .uncorrectable → Raised 0x4003 s.dev d) ∧
        (ec = .corrected → let ad := Device.hbmScrubAddr h ch (s.dev.scrubAt (hbmChan h ch))
          Map.get none d.bg.writeBack (hbmChan h ch) = some (ad, s.dev.bytes ad 128)))) ∧
      due (hbmChan h ch) Device.hbmReads (.hbm h ch) ∧
      Completes (.hbmCalibration h ch) s (fun d => Map.get 0 d.bg.cal (hbmChan h ch) = now + 1 ∧ d.mem = s.dev.mem) ∧
      Completes (.eyeMonitorReading (.hbm h ch) true) s (fun d => Map.get 0 d.bg.cal (hbmChan h ch) = now + 1)) ∧
    (s.dev.pdState (pdD (c / 6)) = 0 →
      (Map.get none s.dev.bg.writeBack (ddrKey c) ≠ none → Completes (.ddrScrubRead c ec) s (fun d => d = s.dev)) ∧
      (s.dev.num 0x70A1 1 (c + 1) = 0 → s.dev.scrubAt (ddrKey c) < s.dev.ddrReads c →
        Map.get none s.dev.bg.writeBack (ddrKey c) = none → Completes (.ddrScrubRead c ec) s (fun d => d.scrubAt (ddrKey c) = s.dev.scrubAt (ddrKey c) + 1 ∧
          (ec ≠ .uncorrectable → d.mem = s.dev.mem) ∧ (ec = .uncorrectable → Raised 0x4005 s.dev d) ∧
          (ec = .corrected → let ad := Device.ddrScrubAddr c (s.dev.scrubAt (ddrKey c))
            Map.get none d.bg.writeBack (ddrKey c) = some (ad, s.dev.bytes ad 64)))) ∧
      (s.dev.num 0x70A1 1 (c + 1) = 0 → due (ddrKey c) (s.dev.ddrReads c) (.ddr c)) ∧
      Completes (.zqCalibration c) s (fun d => Map.get 0 d.bg.cal (ddrKey c) = now + 1 ∧ d.mem = s.dev.mem)) ∧
    (Map.get none s.dev.bg.writeBack (scrubKey u) = some (x, b) → Completes (.scrubWriteBack u) s (fun d =>
      Map.get none d.bg.writeBack (scrubKey u) = none ∧ (∀ y, y < x ∨ x + b.length ≤ y → d.byteAt y = s.dev.byteAt y) ∧
      (s.dev.bytes x b.length = b → d.bytes x b.length = b) ∧ (s.dev.bytes x b.length ≠ b → d.mem = s.dev.mem))) ∧
    Completes (.telemetrySnapshot true) s (fun d => d = { s.dev with bg := d.bg } ∧ d.bg.telPrev = s.dev.counters ∧
      (0 < Device.telSlots → d.bg.telRing.head? = some (s.dev.counters.filterMap (fun y =>
        let v := (y.2 + 2 ^ 64 - Map.get 0 s.dev.bg.telPrev y.1) % 2 ^ 64
        if v = 0 then none else some (y.1, v))))) ∧
    Completes (.telemetrySnapshot false) s (fun d => d.bg = s.dev.bg ∧ d.num 0x1C01 2 = (s.dev.num 0x1C01 2 + 1) % 2 ^ 64) ∧
    (s.dev.isStopped = true → 256 < Map.get 0 s.dev.flash.erase wear.2 - Map.get 0 s.dev.flash.erase wear.1 →
      Completes .wearLevelMove s (fun d => d.num 0x1C01 5 = (s.dev.num 0x1C01 5 + 1) % 2 ^ 64 ∧
        Map.get 0 d.flash.erase wear.1 = Map.get 0 s.dev.flash.erase wear.1 + 1 ∧ d.flash.recs = s.dev.flash.recs))

/-- R486 to R491: ageing. A canary reading below 10 ps raises 0x600B, lifts the plan voltage and starts the planner, as
does a ring oscillator that falls past 2 %; an hour is counted and kept; the planner makes a plan of twelve points for its
die; a stopped device takes a whole plan and its highest clock. -/
def Obligations.Ageing : Prop :=
  ∀ (s : State) (die : Die) (ps mean lo hi : Nat) (ppm : Int),
    let i := die.val
    let new : List Nat := Map.get [] s.dev.age.next i
    Completes (.canaryReading die ps mean lo hi) s (fun d => d.mem = s.dev.mem ∧
      (ps < 10 → Raised 0x600B s.dev d ∧ Map.get false d.age.due i = true) ∧
      (loadClass lo ≠ loadClass hi → d.age.readings = s.dev.age.readings)) ∧
    Completes (.ringOscReading die ppm) s (fun d => d.num 0x70C1 6 (die + 1) = ofSgn 32 ppm ∧
      (ppm ≤ -20000 → -20000 < sgnOf 32 (s.dev.num 0x70C1 6 (die + 1)) → Map.get false d.age.due i = true)) ∧
    Completes .powerOnHour s (fun d => d.num 0x1C00 1 = (s.dev.num 0x1C00 1 + 1) % 2 ^ 32 ∧
      d.flashNum .hours = (s.dev.num 0x1C00 1 + 1) % 2 ^ 32 ∧ d.age.canaryHour = [] ∧ d.mem = s.dev.mem) ∧
    (Map.get false s.dev.age.due i = true → Completes (.plannerRun die) s (fun d => Map.get false d.age.due i = false ∧
      (Map.get [] d.age.next i).length = 12 ∧ (∀ v ∈ (Map.get [] d.age.next i : List Nat), 6200 ≤ v) ∧
      d.num 0x1C00 2 = s.dev.num 0x1C00 1)) ∧
    (s.dev.isStopped = true → new.length = 12 → (∀ v ∈ new, v < 65536) → Completes (.marginPlanApply die) s (fun d =>
      Raised 0x6009 s.dev d ∧ Map.get [] d.age.next i = [] ∧ d.num 0x1603 (die + 1) = Device.fmaxOf new ∧
      (Device.fmaxOf new = 0 → d.num 0x1100 1 = 4)))

/-! ### Harvests and restores -/

/-- R505 to R508, R511: when a Harvest is taken and what it leaves. HV_COMMAND is refused unless the device runs and else
goes to the master; the master announces the step 200 ms ahead; a member keeps an announcement whose Winter has not begun;
in the Winter of the target the member opens a slot with SEAL 0 and event 0x8001, copies its image there and seals it
last; the master's commit makes it the newest image with 0x8002 and sets the risk estimate to 0, or frees the slot with
0x8003. -/
def Obligations.Harvests : Prop :=
  ∀ (s : State) (c : Conn) (v : Byte) (dev : BitVec 16) (x : BitVec 64) (hnum : BitVec 32) (f : PlanFacts) (r : HvRun)
    (i : Image) (ms : Nat),
    let now := s.dev.cad.step
    let sends (d : Device) (n : Nat) := ∀ m ∈ s.dev.cad.members, .fwWrite m 0x1502 2 0 n ∈ d.out
    let master := s.dev.isMaster = true ∧ s.dev.planRuns = true
    let p := s.dev.num 0x1200 4
    let ahead := now + 1 + (200000000 + p - 1) / p
    let slot := s.dev.freeSlot f
    let seal_ := Device.slotBase f slot + 5
    let base := Device.slotBase f r.slot
    let m := s.dev.manifest r (s.dev.domOf 0x1300 1) f
    (s.dev.valueStatus c 0x1501 1 0 v.toNat = stOK → Completes (.hvCommand c v) s (fun d =>
      (s.dev.runState ≠ 2 → d = { s.dev with out := .answer 0x1501 1 0 stState :: s.dev.out }) ∧
      (s.dev.runState = 2 → d.hv = { s.dev.hv with commanded := true } ∧
        d.out = .answer 0x1501 1 0 stOK :: .fwWrite (s.dev.num 0x1200 3) 0x1502 1 0 s.dev.devNo :: s.dev.out))) ∧
    (master → s.dev.cad.members.contains dev.toNat = true → p ≠ 0 → s.dev.hv.announced = none →
      Completes (.hvRequest dev) s (fun d => d.hv = { s.dev.hv with announced := some ahead } ∧ sends d ahead ∧
        d.mem = s.dev.mem)) ∧
    Completes (.hvNext x) s (fun d =>
      if x.toNat % 2 ^ 48 < now ∨ (x.toNat % 2 ^ 48 = now ∧ s.dev.season = 3) then d = s.dev
      else d.num 0x1502 2 = x.toNat % 2 ^ 48 ∧ d = { s.dev with dict := d.dict } ∧ KeepsObjects [(0x1502, 2, 0)] s.dev d) ∧
    (master → s.dev.hv.announced = some (now + 1) → s.dev.season = 3 → Completes .announceAckTimeout s (fun d =>
      d.hv = { s.dev.hv with announced := some (now + 2) } ∧ sends d (now + 2) ∧ d.mem = s.dev.mem)) ∧
    (s.dev.adm.facts = some f →
      (s.dev.runState = 2 → s.dev.planRuns = true → s.dev.season = 3 → harvestDue s.dev = true → seasonDone s.dev = true → quiesced s.dev = true →
        s.dev.num 0x1210 4 ≤ s.dev.cad.phase → s.dev.hv.exporting = false → s.dev.hv.restore = none → s.dev.hv.run = none →
        (∀ y, s.dev.hv.slotA = some y ∨ s.dev.hv.slotB = some y → y.step ≠ now) →
        Completes .harvestStop s (fun d => Raised 0x8001 s.dev d ∧ d.byteAt seal_ = 0 ∧
          (∀ a, a ≠ seal_ → d.byteAt a = s.dev.byteAt a) ∧ d.slotImg slot = some { hnum := s.dev.nextHnum, step := now } ∧
          d.hv.run = some { slot := slot, step := now, hnum := s.dev.nextHnum })) ∧
      (s.dev.hv.run = some r → r.copied = false → Completes (.harvestCopyDone ms []) s (fun d =>
        d.hv.run = some { r with copied := true } ∧ d.num 0x1500 4 = ms % 2 ^ 32 ∧
        d.mem = ((s.dev.copyImage base (s.dev.domOf 0x1300 1) f).put base m).mem ∧ d.bytes base m.length = m ∧
        d.byteAt (base + 5) = 0xA5 ∧ d.slotImg r.slot = some { hnum := r.hnum, step := r.step, isSealed := true, det0 := s.dev.health.det0, det1 := s.dev.health.det1, risk := s.dev.num 0x1400 1, plan := some f }))) ∧
    (s.dev.hv.run = some r →
      (hnum = 0 → Completes (.hvCommit hnum) s (fun d => d.hv.run = none ∧ d.slotImg r.slot = none ∧ Raised 0x8003 s.dev d ∧
        d.num 0x1500 1 = s.dev.num 0x1500 1 ∧ d.hv.commanded = s.dev.hv.commanded)) ∧
      (hnum ≠ 0 → hnum.toNat = r.hnum → r.copied = true → s.dev.slotImg r.slot = some i → Completes (.hvCommit hnum) s (fun d =>
        d.hv.run = none ∧ d.slotImg r.slot = some { i with committed := true } ∧ Raised 0x8002 s.dev d ∧
        d.num 0x1500 1 = r.hnum ∧ d.num 0x1500 2 = r.step ∧ d.num 0x1500 3 = r.slot ∧ d.num 0x1400 1 = 0 ∧
        d.hv.commanded = false)))

/-- R512 to R514: exports and restores. The keeper opens its keep slot with SEAL 0, takes the regions that check, asks for
one that does not three times more and seals last; the ward learns of it with 0x8004 or 0x8005. A restore without a
restore point raises 0x8008; one with a point begins at the member, from there the local image, whose CRCs pass, comes back
with the detectors it saved; the second one that fails leaves none. -/
def Obligations.ExportsAndRestores : Prop :=
  ∀ (s : State) (f : PlanFacts) (w reg slot : Nat) (b : List Byte) (tok : Bool) (k : HvKeep) (hnum : BitVec 32)
    (v : BitVec 64) (dev : BitVec 12) (r : HvRestore) (i : Image),
    let nw := fieldB b 8 4
    let sl := exportSlot s.dev f
    let ks := Device.keepBase f sl
    let base := Device.keepBase f k.slot
    let e := s.dev.regionEntry base reg
    let good := b.length = e.1 ∧ tok = true ∧ (e.2 = 0 ∨ e.2 = crc32c b)
    let pa := base + s.dev.regionOff base reg
    let point := v.toNat % 2 ^ 32
    let cause := v.toNat / 2 ^ 32 % 2 ^ 16
    let active := s.dev.runState ≠ 0 ∧ s.dev.runState ≠ 4
    (s.dev.adm.facts = some f → wardIn f s.dev.devNo = some w →
      (64 ≤ b.length → Completes (.exportRegionReceive 0 b tok false) s (fun d =>
        d.hv.keep = some { slot := sl, hnum := nw } ∧ d.byteAt (ks + 5) = 0 ∧
        (∀ a, a < b.length → a ≠ 5 → d.byteAt (ks + a) = b.getD a 0) ∧
        ∀ a, a < ks ∨ ks + b.length ≤ a → d.byteAt a = s.dev.byteAt a)) ∧
      (reg ≠ 0 → s.dev.hv.keep = some k →
        (good → Completes (.exportRegionReceive reg b tok false) s (fun d => d.bytes pa b.length = b ∧
          (∀ a, a < pa ∨ pa + b.length ≤ a → d.byteAt a = s.dev.byteAt a) ∧
          d.hv = { s.dev.hv with keep := some { k with got := k.got ++ [reg], retries := 0 } } ∧ d.out = s.dev.out)) ∧
        (¬good → k.retries < 3 → Completes (.exportRegionReceive reg b tok false) s (fun d => d = { s.dev with
          hv := { s.dev.hv with keep := some { k with retries := k.retries + 1 } }
          out := .regionAgain w reg :: s.dev.out })) ∧
        (¬good → 3 ≤ k.retries → Completes (.exportRegionReceive reg b tok false) s (fun d => d = { s.dev with
          hv := { s.dev.hv with keep := none }
          out := .fwWrite w 0x1502 4 0 0 :: s.dev.out })))) ∧
    (s.dev.hv.exporting = true →
      (hnum = 0 → Completes (.hvKeepSealed hnum) s (fun d => Raised 0x8005 s.dev d ∧ d.hv = s.dev.hv)) ∧
      (hnum ≠ 0 → hnum.toNat = s.dev.num 0x1500 1 → Completes (.hvKeepSealed hnum) s (fun d => Raised 0x8004 s.dev d ∧
        d.num 0x1500 5 = hnum.toNat ∧ d.hv = { s.dev.hv with exporting := false }))) ∧
    (active → s.dev.num 0x1200 3 ≠ s.dev.devNo → dev.toNat = s.dev.num 0x1200 3 →
      (point = 0 → Completes (.hvRestore v dev) s (fun d => Raised 0x8008 s.dev d ∧ d.hv.restore = none ∧ d.hv.run = none)) ∧
      (point ≠ 0 → Completes (.hvRestore v dev) s (fun d => d.hv.restore = some { point := point, cause := cause } ∧
        d.hv.run = none ∧ d.hv.failed = [] ∧ d.num 0x1502 5 = point + cause * 2 ^ 32))) ∧
    (s.dev.hv.restore = some r → s.dev.admState ≠ 2 → s.dev.admState ≠ 3 → s.dev.admState ≠ 4 →
      (r.failures ≠ 0 → Completes (.restoreLoadDone false none) s (fun d => Raised 0x8008 s.dev d ∧ d.hv.restore = none)) ∧
      (s.dev.num 0x1500 6 ≠ 1 → s.dev.adm.facts = some f → s.dev.localImage r.point = some (slot, i) →
        (s.dev.imageIntact (Device.slotBase f slot) (s.dev.domOf 0x1300 1) f = true →
          Completes (.restoreLoadDone true none) s (fun d => d.health.det0 = i.det0 ∧ d.health.det1 = i.det1)) ∧
        (s.dev.imageIntact (Device.slotBase f slot) (s.dev.domOf 0x1300 1) f = false → r.failures ≠ 0 →
          Completes (.restoreLoadDone true none) s (fun d => Raised 0x8008 s.dev d ∧ d.hv.restore = none))))

/-! ### The metrology island -/

/-- R523, R525 to R528, R531, R533, R534: what a running island measures and receives. A second's energy joins the
register in whole microwatt hours, which never falls; a queued pulse starts when the last one ended 82 samples ago (the
model's choice); work totals of one EPOCH add their differences and those of a new one count from zero; a bad frame is
counted. An island without supply measures nothing. -/
def Obligations.IslandMeasures : Prop :=
  ∀ (s : State) (v a : Int) (adc clk m : Nat) (b : List Byte),
    let i := s.dev.isl
    let x : Int := max (-(120 * 2 ^ 14)) (min (120 * 2 ^ 14) a)
    let whole := (i.sample + 1) % 4096 = 0
    let cur := i.iSum + x
    let acc := if (cur.natAbs : Int) < startCurrent then i.acc else i.acc + 2500 * (i.pSum + v * x)
    let becomes (c : Instr) (j : IslS) := Completes c s (fun d => d = { s.dev with isl := j })
    let o := i.fig.frame.getD []
    let same := i.fig.frame ≠ none ∧ fieldB o 4 4 = fieldB b 4 4
    let step := fieldB b 0xC 8 % 2 ^ 48
    (i.on = false → becomes (.adcSample v a) i ∧ becomes (.workFrameReceive b) i ∧ becomes .pulseEnd i) ∧
    (i.on = true →
      Completes (.adcSample v a) s (fun d => d = { s.dev with isl := d.isl, out := d.out } ∧ d.isl.sample = i.sample + 1 ∧
        d.isl.exceeds = (i.exceeds || decide (90 * 2 ^ 14 < (x.natAbs : Int))) ∧
        (¬whole → d.isl.fig = i.fig ∧ d.isl.acc = i.acc ∧ d.isl.vSum = i.vSum + v ∧ d.isl.iSum = cur ∧
          d.isl.pSum = i.pSum + v * x) ∧
        (whole → d.isl.fig.energy = i.fig.energy + (acc / uWh).toNat ∧ (0 ≤ acc → d.isl.acc = acc % uWh) ∧
          (acc < 0 → d.isl.acc = acc) ∧ d.isl.vSum = 0 ∧ d.isl.iSum = 0 ∧ d.isl.pSum = 0 ∧ d.isl.secs = i.secs + 1) ∧
        (i.noKey = false → i.pulseLow = false → 0 < i.pulseQ → i.pulseEnd = 0 ∨ i.pulseEnd + 81 ≤ i.sample + 1 →
          d.isl.pulseLow = true ∧ d.out = .pulse :: s.dev.out)) ∧
      (i.pulseLow = true → becomes .pulseEnd { i with pulseLow := false, pulseEnd := i.sample + 1 }) ∧
      becomes (.islandSelfCheck adc clk) { i with selfTest := decide (2000 < adc ∨ 10000 < clk) } ∧
      becomes .noworkTimeout { i with noWork := i.noWork || decide (i.workAt + 8192 ≤ i.sample) } ∧ becomes .islandCheckpoint { i with ck := i.fig } ∧
      becomes .islandSupplyLoss { i with on := false, lost := true, pulseLow := false } ∧
      Completes .statusFrameSend s (fun d => d = { s.dev with out := .statusFrame (statusOf i) :: s.dev.out }) ∧
      (workGood b = false → becomes (.workFrameReceive b) { i with badFrames := i.badFrames + 1 }) ∧
      (workGood b = true → Completes (.workFrameReceive b) s (fun d => d = { s.dev with isl := d.isl } ∧
        d.isl.fig.frame = some b ∧ d.isl.workAt = i.sample ∧ d.isl.fig.energy = i.fig.energy ∧
        (m < 5 → Map.get 0 d.isl.fig.work m = (Map.get 0 i.fig.work m + if same then
            (fieldB b (0x28 + 8 * m) 8 + 2 ^ 64 - fieldB o (0x28 + 8 * m) 8) % 2 ^ 64
          else fieldB b (0x28 + 8 * m) 8) % 2 ^ 64) ∧
        (same → d.isl.fig.linkGap = (i.fig.linkGap + (fieldB b 8 4 + 2 ^ 32 - fieldB o 8 4 - 1) % 2 ^ 32) % 2 ^ 32) ∧
        d.isl.moment = if step % 1024 = 0 ∧ i.lastStepRec ≠ some step then i.moment ||| 1 else i.moment)))

/-- R532 to R536, R538 to R541: records, seal and the record link. A reset counts in BOOTS and writes the START record,
without a key none; an hour writes its record with the energy since the last one; a record is signed under the next index,
the block of 256 reserved first, and sent three times; a calibration session counts in SEAL and its committed write in
CALID. The hub keeps a new record that passes and raises 0x9002 for one that fails, 0x9001 for 2 s of silence. -/
def Obligations.IslandRecords : Prop :=
  ∀ (s : State) (puf : List Bool) (en ok : Bool) (t : Nat) (b rec_ fr : List Byte) (rest : List (Nat × List Byte))
    (w : Option (List Byte)) (e : BitVec 32),
    let i := s.dev.isl
    let now := i.sample / 4096
    let signs := i.on = true ∧ i.noKey = false ∧ i.noSign = false
    let rseq := fieldB rec_ 8 4
    let slot := Map.get [] s.dev.met.records (rseq % 1024)
    let passes := rec_.length = 5861 ∧ fieldB rec_ 0 4 = 0x4D525A41 ∧ crcTail (rec_.take 256) 256 = true
    Completes (.islandReset puf en) s (fun d => d = { s.dev with isl := d.isl } ∧ d.isl.boots = i.boots + 1 ∧ d.isl.on = true ∧
      d.isl.calEn = en ∧ d.isl.fig = i.ck ∧ d.isl.sealN = i.sealN ∧ d.isl.records = i.records ∧ d.isl.idx = i.resv ∧
      ((puf.take 3).contains true = false → d.isl.noKey = true ∧ d.isl.rseq = i.rseq ∧ d.isl.unsigned = []) ∧
      ((puf.take 3).contains true = true → d.isl.noKey = false ∧ d.isl.rseq = i.rseq + 1 ∧
        ∃ y, d.isl.unsigned = [(0, y)] ∧ fieldB y 5 1 = 8 ∧ fieldB y 8 4 = (i.rseq + 1) % 2 ^ 32 ∧
          fieldB y 0xC 4 = (i.boots + 1) % 2 ^ 32)) ∧
    (signs → i.moment = 0 → i.unsigned = [] → i.hourAt < now → now % 3600 = 0 → Completes (.recordMoment true) s (fun d =>
      d = { s.dev with isl := d.isl } ∧ d.isl.rseq = i.rseq + 1 ∧ d.isl.hourAt = now ∧ d.isl.prevEnergy = i.fig.energy ∧ d.isl.ck = i.fig ∧
      ∃ y, d.isl.unsigned = [(now, y)] ∧ d.isl.prev = some (shake256 y 32) ∧ fieldB y 5 1 = 2 ∧
        fieldB y 0x18 8 = i.fig.energy % 2 ^ 64 ∧ fieldB y 0x20 8 = (i.fig.energy - i.prevEnergy) % 2 ^ 64)) ∧
    (signs → i.unsigned = (t, b) :: rest →
      (i.idx < i.resv ∨ (ok = true ∧ i.idx < 2 ^ 40) → Completes (.recordSigned ok) s (fun d =>
        d.isl.idx = i.idx + 1 ∧ d.isl.unsigned = rest ∧
        d.isl.resv = (if i.idx < i.resv then i.resv else min (i.idx + 256) (2 ^ 40)) ∧
        ∃ y, d.isl.records.getLast? = some y ∧ y.take b.length = b ∧ d.out = .islandRecord y 3 :: s.dev.out)) ∧
      (i.resv ≤ i.idx → ok = false ∨ 2 ^ 40 ≤ i.idx → Completes (.recordSigned ok) s (fun d =>
        d = { s.dev with isl := { i with noSign := true } }))) ∧
    (i.on = true → i.records ≠ [] → i.unsigned = [] → Completes .recordRotationSend s (fun d =>
      d.out = .islandRecord (i.records.getD (i.rot % i.records.length) []) 1 :: s.dev.out ∧
      d.isl = { i with rot := (i.rot + 1) % i.records.length })) ∧
    (i.on = true → Completes (.calibrationSession ok w) s (fun d => d = { s.dev with isl := d.isl } ∧
      (i.calEn = false ∨ ok = false → d = s.dev) ∧
      (i.calEn = true → ok = true → d.isl.sealN = i.sealN + 1 ∧
        (∀ y, w = some y → d.isl.cal = y ∧ d.isl.calid = i.calid + 1) ∧ (w = none → d.isl.calid = i.calid)))) ∧
    (s.dev.thaw.began = true → s.dev.work.epoch = some e → Completes .workFrameSend s (fun d =>
      d = { s.dev with work := { s.dev.work with seq := (s.dev.work.seq + 1) % 2 ^ 32 }, out := d.out } ∧
      ∃ y, d.out = .workFrame y :: s.dev.out ∧ fieldB y 0 4 = 0x574D5A41 ∧ fieldB y 4 4 = e.toNat ∧
        fieldB y 8 4 = s.dev.work.seq % 2 ^ 32 ∧ fieldB y 0xC 8 = s.dev.cad.step % 2 ^ 64)) ∧
    (hubRuns s.dev = true →
      (passes → slot = [] → s.dev.num 0x8002 2 < rseq → Completes (.hubRecordReceive rec_ true) s (fun d =>
        Map.get [] d.met.records (rseq % 1024) = padTo 6144 rec_ ∧ d.num 0x8002 2 = rseq ∧
        d.num 0x8002 3 = (s.dev.num 0x8002 3 + 1) % 2 ^ 64 ∧ d.mem = s.dev.mem)) ∧
      (passes → Completes (.hubRecordReceive rec_ false) s (fun d => Raised 0x9002 s.dev d ∧ d.met = s.dev.met)) ∧
      (s.dev.met.silentNs ≤ s.dev.time.nowNs → Completes .recordLinkSilent s (fun d => Raised 0x9001 s.dev d ∧
        d.met = { s.dev.met with silentNs := s.dev.time.nowNs + 60000000000 })) ∧
      (fr.length = 64 → crcTail fr 64 = true → Completes (.statusFrameReceive fr) s (fun d =>
        d.num 0x8001 1 = fieldB fr 0 8 ∧ d.num 0x8001 2 = fieldB fr 0x10 4 ∧ d.num 0x8001 3 = fieldB fr 8 4 ∧
        d.num 0x8001 4 = fieldB fr 0xC 4 ∧ d.num 0x8001 6 = fieldB fr 0x18 4 ∧
        d.met.silentNs = s.dev.time.nowNs + 2000000000 ∧ d.mem = s.dev.mem)))

/-! ### Events and reset -/

/-- R566: every raised event adds 1 to EVT_BY_SEV and EVT_BY_CLASS, follows its EVENT triggers, and, once hub firmware
runs, enters the log; FAULT and FATAL set ALERT; FATAL makes the device LOST and RUN_LAST_FATAL takes the first of them.
Stated for the codes of classes 1 to 9 and 0xA whose record the log takes and for a log whose next place is free or has
been read. The exception is 0x7004, which leaves RUN_STATE and the log. -/
def Obligations.RaisedEvents : Prop :=
  (∀ (d : Device) (code ua ui a0 a1 : Nat), 0x1000 ≤ code → code < 0xB000 → code ≠ 0x7004 → 3 ≤ d.num 0x1D04 2 →
    let e := d.raiseRaw code ua ui a0 a1
    let sev := (evRow code).sev
    let sq := d.num 0x1E00 2
    let old : EvRec := Map.get {} d.evt.log (sq % 4096)
    Raised code d e ∧
    e.num 0x1E00 (4 + sev) = (d.num 0x1E00 (4 + sev) + 1) % 2 ^ 64 ∧
    e.num 0x1E01 (code / 4096) = (d.num 0x1E01 (code / 4096) + 1) % 2 ^ 64 ∧
    e.alert = (d.alert || decide (2 ≤ sev)) ∧
    (sev = 3 → e.num 0x1100 1 = 4 ∧ e.num 0x1100 4 = if d.num 0x1100 4 = 0 then code else d.num 0x1100 4) ∧
    (sev ≠ 3 → e.num 0x1100 1 = d.num 0x1100 1) ∧
    (old.seq = 0 ∨ old.read = true → e.num 0x1E00 2 = (sq + 1) % 2 ^ 32 ∧
      ∃ r : EvRec, Map.get {} e.evt.log (sq % 4096) = r ∧ r.seq = sq ∧ r.code = code ∧ r.sev = sev ∧
        r.step = d.cad.step ∧ r.phase = d.cad.phase ∧ r.flags = 0) ∧
    e.mem = d.mem ∧ e.cores = d.cores) ∧
  ∀ (d : Device) (ua ui a0 a1 : Nat), let e := d.raiseRaw 0x7004 ua ui a0 a1
    e.num 0x1100 1 = d.num 0x1100 1 ∧ e.num 0x1100 4 = (if d.num 0x1100 4 = 0 then 0x7004 else d.num 0x1100 4) ∧
    e.evt.log = d.evt.log ∧ e.alert = true

/-- R427, R129, R473, R551: right after reset RUN_STATE is 0 (THAWING), ADM_STATE 0, nothing is queued, sent, logged or in
flight, every thread is FREE, every sequencer idle, and no frame is held. That an unlisted byte reads 0 and a register
without a stated value holds 0 is the model's choice (log entries 1 and 2). -/
def Obligations.ResetValues : Prop :=
  let d := State.reset.dev
  State.reset.pending = [] ∧ Map.wf 0 d.mem = true ∧ (∀ a, d.byteAt a = 0) ∧ d.runState = 0 ∧ d.admState = 0 ∧
  d.out = [] ∧ d.alert = false ∧ d.evt.log = [] ∧ d.mgmt.sessions = [] ∧ d.lease = 0 ∧
  (∀ g t, (d.thread g t).st = .free ∧ ∀ r, (d.thread g t).reg r = 0) ∧
  (∀ g, (d.core g).moveq = [] ∧ (∀ e, (d.core g).queue e = []) ∧ (∀ n, (d.core g).counter n = 0) ∧
    ∀ f, (d.frame g f).st = .empty) ∧
  (∀ q, (d.sq q).st = .idle ∧ (d.sq q).pend = 0) ∧ (∀ se, d.moves se = []) ∧
  d.num 0x1200 2 = 2 ∧ d.num 0x1E00 2 = 1 ∧ d.num 0x1401 1 = 0 ∧ d.num 0x1700 7 = 0xFF ∧
  (∀ i s k, d.num i s k = objDefault i s k)
end

