-- ==== Sys2Proof/Laws/Map.lean ====
section
/-! SUPPORT. Laws of the sparse map: read after write, other keys, the canonical form kept. -/

namespace Sys2Proof.Map

variable {α : Type}

theorem get_nil (d : α) (k : Nat) : get d [] k = d := by simp [get]

theorem get_cons (d : α) (i : Nat) (v : α) (m : Map α) (k : Nat) :
    get d ((i, v) :: m) k = if i = k then v else get d m k := by simp [get]

theorem del_eq_filter (m : Map α) (k : Nat) : del m k = m.filter (fun e => e.1 != k) := by unfold del; rfl

theorem ins_nil (k : Nat) (v : α) : ins ([] : Map α) k v = [(k, v)] := by with_unfolding_all rfl

theorem ins_cons (i : Nat) (w : α) (m : Map α) (k : Nat) (v : α) : ins ((i, w) :: m) k v =
    if i = k then (k, v) :: m else if k < i then (k, v) :: (i, w) :: m else (i, w) :: ins m k v := by
  with_unfolding_all rfl

theorem get_del (d : α) (m : Map α) (k j : Nat) :
    get d (del m k) j = if k = j then d else get d m j := by
  rw [del_eq_filter]
  induction m with
  | nil => simp [get_nil]
  | cons e m ih =>
    obtain ⟨i, v⟩ := e
    by_cases h : i = k
    · subst h
      by_cases h' : i = j <;> simp_all [get_cons]
    · by_cases h' : i = j
      · subst h'
        simp [List.filter_cons, get_cons, h, Ne.symm h]
      · simp [List.filter_cons, get_cons, h, h', ih]

theorem get_ins (d : α) (m : Map α) (k j : Nat) (v : α) :
    get d (ins m k v) j = if k = j then v else get d m j := by
  induction m with
  | nil => simp [ins_nil, get_cons, get_nil]
  | cons e m ih =>
    obtain ⟨i, w⟩ := e
    by_cases h : i = k
    · subst h
      by_cases h' : i = j <;> simp [ins_cons, get_cons, h']
    · by_cases h2 : k < i
      · simp [ins_cons, h, h2, get_cons]
      · by_cases h' : i = j
        · subst h'
          simp [ins_cons, h, h2, get_cons, Ne.symm h]
        · simp [ins_cons, h, h2, get_cons, h', ih]

/-- Read after write. -/
theorem get_set [DecidableEq α] (d : α) (m : Map α) (k j : Nat) (v : α) :
    get d (set d m k v) j = if k = j then v else get d m j := by
  unfold set
  split
  · rename_i h
    subst h
    exact get_del _ m k j
  · exact get_ins d m k j v

@[simp] theorem get_set_same [DecidableEq α] (d : α) (m : Map α) (k : Nat) (v : α) :
    get d (set d m k v) k = v := by simp [get_set]

theorem get_set_ne [DecidableEq α] (d : α) (m : Map α) {k j : Nat} (v : α) (h : k ≠ j) :
    get d (set d m k v) j = get d m j := by simp [get_set, h]

/-- A write under another default leaves other keys alone as well. -/
theorem get_set_ne' [DecidableEq α] (d d' : α) (m : Map α) {k j : Nat} (v : α) (h : k ≠ j) :
    get d (set d' m k v) j = get d m j := by
  unfold set
  split
  · simp [get_del, h]
  · simp [get_ins, h]

@[simp] theorem get_upd_same [DecidableEq α] (d : α) (m : Map α) (k : Nat) (f : α → α) :
    get d (upd d m k f) k = f (get d m k) := by simp [upd]

theorem get_upd_ne [DecidableEq α] (d : α) (m : Map α) {k j : Nat} (f : α → α) (h : k ≠ j) :
    get d (upd d m k f) j = get d m j := by simp [upd, get_set_ne, h]

/-! ### The canonical form -/

theorem above_of_above {k i : Nat} {m : Map α} (h : above i m = true) (hk : k ≤ i) : above k m = true := by
  cases m with
  | nil => rfl
  | cons e m => simp [above] at *; omega

variable [DecidableEq α]

theorem wf_cons {d : α} {i : Nat} {v : α} {m : Map α} :
    wf d ((i, v) :: m) = true ↔ v ≠ d ∧ above i m = true ∧ wf d m = true := by
  simp [wf, and_assoc]

omit [DecidableEq α] in
theorem above_filter {k : Nat} {m : Map α} [DecidableEq α] {d : α} (hw : wf d m = true) (h : above k m = true)
    (p : Nat × α → Bool) : above k (m.filter p) = true := by
  induction m with
  | nil => rfl
  | cons e m ih =>
    obtain ⟨i, v⟩ := e
    rw [wf_cons] at hw
    simp only [List.filter_cons]
    split
    · simpa [above] using h
    · exact ih hw.2.2 (above_of_above hw.2.1 (by simp [above] at h; omega))

/-- Taking entries out keeps the canonical form. -/
theorem wf_filter {d : α} {m : Map α} (h : wf d m = true) (p : Nat × α → Bool) : wf d (m.filter p) = true := by
  induction m with
  | nil => exact h
  | cons e m ih =>
    obtain ⟨i, v⟩ := e
    rw [wf_cons] at h
    simp only [List.filter_cons]
    split
    · exact wf_cons.2 ⟨h.1, above_filter h.2.2 h.2.1 p, ih h.2.2⟩
    · exact ih h.2.2

omit [DecidableEq α] in
theorem above_ins {k i : Nat} {m : Map α} {v : α} (h : above k m = true) (hk : k < i) : above k (ins m i v) = true := by
  cases m with
  | nil => simpa [ins_nil, above] using hk
  | cons e m =>
    obtain ⟨j, w⟩ := e
    simp only [ins_cons]
    split
    · simpa [above] using hk
    · split
      · simpa [above] using hk
      · simpa [above] using h

theorem wf_ins {d : α} {m : Map α} {k : Nat} {v : α} (h : wf d m = true) (hv : v ≠ d) : wf d (ins m k v) = true := by
  induction m with
  | nil => simp [ins_nil, wf, above, hv]
  | cons e m ih =>
    obtain ⟨i, w⟩ := e
    rw [wf_cons] at h
    simp only [ins_cons]
    split
    · rename_i hi
      subst hi
      exact wf_cons.2 ⟨hv, h.2.1, h.2.2⟩
    · split
      · exact wf_cons.2 ⟨hv, by simpa [above], wf_cons.2 h⟩
      · exact wf_cons.2 ⟨h.1, above_ins h.2.1 (by omega), ih h.2.2⟩

/-- A write keeps the canonical form. -/
theorem wf_set {d : α} {m : Map α} (h : wf d m = true) (k : Nat) (v : α) : wf d (set d m k v) = true := by
  unfold set
  split
  · rw [del_eq_filter]
    exact wf_filter h _
  · exact wf_ins h ‹_›

end Sys2Proof.Map
end

