-- ==== Sys2Proof/Laws/State.lean ====
section
/-! SUPPORT. One lemma per field per named update of the device: what the update leaves alone. -/

namespace Sys2Proof.Machine.Device

variable (d : Device)

@[simp] theorem setNum_time (idx sub inst v : Nat) : (d.setNum idx sub inst v).time = d.time := by unfold setNum; rfl
@[simp] theorem setNum_mem (idx sub inst v : Nat) : (d.setNum idx sub inst v).mem = d.mem := by unfold setNum; rfl
@[simp] theorem setNum_evt (idx sub inst v : Nat) : (d.setNum idx sub inst v).evt = d.evt := by unfold setNum; rfl
@[simp] theorem setNum_cores (idx sub inst v : Nat) : (d.setNum idx sub inst v).cores = d.cores := by unfold setNum; rfl
@[simp] theorem setNum_clus (idx sub inst v : Nat) : (d.setNum idx sub inst v).clus = d.clus := by unfold setNum; rfl
@[simp] theorem setNum_movq (idx sub inst v : Nat) : (d.setNum idx sub inst v).movq = d.movq := by unfold setNum; rfl
@[simp] theorem setNum_seqs (idx sub inst v : Nat) : (d.setNum idx sub inst v).seqs = d.seqs := by unfold setNum; rfl
@[simp] theorem setNum_health (idx sub inst v : Nat) : (d.setNum idx sub inst v).health = d.health := by unfold setNum; rfl
@[simp] theorem setNum_cad (idx sub inst v : Nat) : (d.setNum idx sub inst v).cad = d.cad := by unfold setNum; rfl
@[simp] theorem setNum_adm (idx sub inst v : Nat) : (d.setNum idx sub inst v).adm = d.adm := by unfold setNum; rfl
@[simp] theorem setNum_mgmt (idx sub inst v : Nat) : (d.setNum idx sub inst v).mgmt = d.mgmt := by unfold setNum; rfl
@[simp] theorem setNum_alert (idx sub inst v : Nat) : (d.setNum idx sub inst v).alert = d.alert := by unfold setNum; rfl
@[simp] theorem setNum_out (idx sub inst v : Nat) : (d.setNum idx sub inst v).out = d.out := by unfold setNum; rfl
@[simp] theorem setNum_hv (idx sub inst v : Nat) : (d.setNum idx sub inst v).hv = d.hv := by unfold setNum; rfl
@[simp] theorem setNum_link (idx sub inst v : Nat) : (d.setNum idx sub inst v).link = d.link := by unfold setNum; rfl
@[simp] theorem setNum_pwr (idx sub inst v : Nat) : (d.setNum idx sub inst v).pwr = d.pwr := by unfold setNum; rfl
@[simp] theorem setNum_age (idx sub inst v : Nat) : (d.setNum idx sub inst v).age = d.age := by unfold setNum; rfl
@[simp] theorem setNum_bg (idx sub inst v : Nat) : (d.setNum idx sub inst v).bg = d.bg := by unfold setNum; rfl
@[simp] theorem setNum_flash (idx sub inst v : Nat) : (d.setNum idx sub inst v).flash = d.flash := by unfold setNum; rfl
@[simp] theorem setNum_thaw (idx sub inst v : Nat) : (d.setNum idx sub inst v).thaw = d.thaw := by unfold setNum; rfl
@[simp] theorem setNum_att (idx sub inst v : Nat) : (d.setNum idx sub inst v).att = d.att := by unfold setNum; rfl
@[simp] theorem setNum_isl (idx sub inst v : Nat) : (d.setNum idx sub inst v).isl = d.isl := by unfold setNum; rfl
@[simp] theorem setNum_work (idx sub inst v : Nat) : (d.setNum idx sub inst v).work = d.work := by unfold setNum; rfl
@[simp] theorem setNum_met (idx sub inst v : Nat) : (d.setNum idx sub inst v).met = d.met := by unfold setNum; rfl
@[simp] theorem setNum_recal (idx sub inst v : Nat) : (d.setNum idx sub inst v).recal = d.recal := by unfold setNum; rfl

@[simp] theorem addNum_time (idx sub inst k : Nat) : (d.addNum idx sub inst k).time = d.time := by unfold addNum; simp
@[simp] theorem addNum_mem (idx sub inst k : Nat) : (d.addNum idx sub inst k).mem = d.mem := by unfold addNum; simp
@[simp] theorem addNum_evt (idx sub inst k : Nat) : (d.addNum idx sub inst k).evt = d.evt := by unfold addNum; simp
@[simp] theorem addNum_cores (idx sub inst k : Nat) : (d.addNum idx sub inst k).cores = d.cores := by unfold addNum; simp
@[simp] theorem addNum_clus (idx sub inst k : Nat) : (d.addNum idx sub inst k).clus = d.clus := by unfold addNum; simp
@[simp] theorem addNum_movq (idx sub inst k : Nat) : (d.addNum idx sub inst k).movq = d.movq := by unfold addNum; simp
@[simp] theorem addNum_seqs (idx sub inst k : Nat) : (d.addNum idx sub inst k).seqs = d.seqs := by unfold addNum; simp
@[simp] theorem addNum_health (idx sub inst k : Nat) : (d.addNum idx sub inst k).health = d.health := by unfold addNum; simp
@[simp] theorem addNum_cad (idx sub inst k : Nat) : (d.addNum idx sub inst k).cad = d.cad := by unfold addNum; simp
@[simp] theorem addNum_adm (idx sub inst k : Nat) : (d.addNum idx sub inst k).adm = d.adm := by unfold addNum; simp
@[simp] theorem addNum_mgmt (idx sub inst k : Nat) : (d.addNum idx sub inst k).mgmt = d.mgmt := by unfold addNum; simp
@[simp] theorem addNum_alert (idx sub inst k : Nat) : (d.addNum idx sub inst k).alert = d.alert := by unfold addNum; simp
@[simp] theorem addNum_out (idx sub inst k : Nat) : (d.addNum idx sub inst k).out = d.out := by unfold addNum; simp
@[simp] theorem addNum_hv (idx sub inst k : Nat) : (d.addNum idx sub inst k).hv = d.hv := by unfold addNum; simp
@[simp] theorem addNum_link (idx sub inst k : Nat) : (d.addNum idx sub inst k).link = d.link := by unfold addNum; simp
@[simp] theorem addNum_pwr (idx sub inst k : Nat) : (d.addNum idx sub inst k).pwr = d.pwr := by unfold addNum; simp
@[simp] theorem addNum_age (idx sub inst k : Nat) : (d.addNum idx sub inst k).age = d.age := by unfold addNum; simp
@[simp] theorem addNum_bg (idx sub inst k : Nat) : (d.addNum idx sub inst k).bg = d.bg := by unfold addNum; simp
@[simp] theorem addNum_flash (idx sub inst k : Nat) : (d.addNum idx sub inst k).flash = d.flash := by unfold addNum; simp
@[simp] theorem addNum_thaw (idx sub inst k : Nat) : (d.addNum idx sub inst k).thaw = d.thaw := by unfold addNum; simp
@[simp] theorem addNum_att (idx sub inst k : Nat) : (d.addNum idx sub inst k).att = d.att := by unfold addNum; simp
@[simp] theorem addNum_isl (idx sub inst k : Nat) : (d.addNum idx sub inst k).isl = d.isl := by unfold addNum; simp
@[simp] theorem addNum_work (idx sub inst k : Nat) : (d.addNum idx sub inst k).work = d.work := by unfold addNum; simp
@[simp] theorem addNum_met (idx sub inst k : Nat) : (d.addNum idx sub inst k).met = d.met := by unfold addNum; simp
@[simp] theorem addNum_recal (idx sub inst k : Nat) : (d.addNum idx sub inst k).recal = d.recal := by unfold addNum; simp

@[simp] theorem setDom_time (idx sub inst : Nat) (v : List Byte) : (d.setDom idx sub inst v).time = d.time := rfl
@[simp] theorem setDom_mem (idx sub inst : Nat) (v : List Byte) : (d.setDom idx sub inst v).mem = d.mem := rfl
@[simp] theorem setDom_evt (idx sub inst : Nat) (v : List Byte) : (d.setDom idx sub inst v).evt = d.evt := rfl
@[simp] theorem setDom_cores (idx sub inst : Nat) (v : List Byte) : (d.setDom idx sub inst v).cores = d.cores := rfl
@[simp] theorem setDom_clus (idx sub inst : Nat) (v : List Byte) : (d.setDom idx sub inst v).clus = d.clus := rfl
@[simp] theorem setDom_movq (idx sub inst : Nat) (v : List Byte) : (d.setDom idx sub inst v).movq = d.movq := rfl
@[simp] theorem setDom_seqs (idx sub inst : Nat) (v : List Byte) : (d.setDom idx sub inst v).seqs = d.seqs := rfl
@[simp] theorem setDom_health (idx sub inst : Nat) (v : List Byte) : (d.setDom idx sub inst v).health = d.health := rfl
@[simp] theorem setDom_cad (idx sub inst : Nat) (v : List Byte) : (d.setDom idx sub inst v).cad = d.cad := rfl
@[simp] theorem setDom_adm (idx sub inst : Nat) (v : List Byte) : (d.setDom idx sub inst v).adm = d.adm := rfl
@[simp] theorem setDom_mgmt (idx sub inst : Nat) (v : List Byte) : (d.setDom idx sub inst v).mgmt = d.mgmt := rfl
@[simp] theorem setDom_alert (idx sub inst : Nat) (v : List Byte) : (d.setDom idx sub inst v).alert = d.alert := rfl
@[simp] theorem setDom_out (idx sub inst : Nat) (v : List Byte) : (d.setDom idx sub inst v).out = d.out := rfl
@[simp] theorem setDom_hv (idx sub inst : Nat) (v : List Byte) : (d.setDom idx sub inst v).hv = d.hv := rfl
@[simp] theorem setDom_link (idx sub inst : Nat) (v : List Byte) : (d.setDom idx sub inst v).link = d.link := rfl
@[simp] theorem setDom_pwr (idx sub inst : Nat) (v : List Byte) : (d.setDom idx sub inst v).pwr = d.pwr := rfl
@[simp] theorem setDom_age (idx sub inst : Nat) (v : List Byte) : (d.setDom idx sub inst v).age = d.age := rfl
@[simp] theorem setDom_bg (idx sub inst : Nat) (v : List Byte) : (d.setDom idx sub inst v).bg = d.bg := rfl
@[simp] theorem setDom_flash (idx sub inst : Nat) (v : List Byte) : (d.setDom idx sub inst v).flash = d.flash := rfl
@[simp] theorem setDom_thaw (idx sub inst : Nat) (v : List Byte) : (d.setDom idx sub inst v).thaw = d.thaw := rfl
@[simp] theorem setDom_att (idx sub inst : Nat) (v : List Byte) : (d.setDom idx sub inst v).att = d.att := rfl
@[simp] theorem setDom_isl (idx sub inst : Nat) (v : List Byte) : (d.setDom idx sub inst v).isl = d.isl := rfl
@[simp] theorem setDom_work (idx sub inst : Nat) (v : List Byte) : (d.setDom idx sub inst v).work = d.work := rfl
@[simp] theorem setDom_met (idx sub inst : Nat) (v : List Byte) : (d.setDom idx sub inst v).met = d.met := rfl
@[simp] theorem setDom_recal (idx sub inst : Nat) (v : List Byte) : (d.setDom idx sub inst v).recal = d.recal := rfl

@[simp] theorem send_time (m : OutMsg) : (d.send m).time = d.time := rfl
@[simp] theorem send_mem (m : OutMsg) : (d.send m).mem = d.mem := rfl
@[simp] theorem send_dict (m : OutMsg) : (d.send m).dict = d.dict := rfl
@[simp] theorem send_evt (m : OutMsg) : (d.send m).evt = d.evt := rfl
@[simp] theorem send_cores (m : OutMsg) : (d.send m).cores = d.cores := rfl
@[simp] theorem send_clus (m : OutMsg) : (d.send m).clus = d.clus := rfl
@[simp] theorem send_movq (m : OutMsg) : (d.send m).movq = d.movq := rfl
@[simp] theorem send_seqs (m : OutMsg) : (d.send m).seqs = d.seqs := rfl
@[simp] theorem send_health (m : OutMsg) : (d.send m).health = d.health := rfl
@[simp] theorem send_cad (m : OutMsg) : (d.send m).cad = d.cad := rfl
@[simp] theorem send_adm (m : OutMsg) : (d.send m).adm = d.adm := rfl
@[simp] theorem send_mgmt (m : OutMsg) : (d.send m).mgmt = d.mgmt := rfl
@[simp] theorem send_alert (m : OutMsg) : (d.send m).alert = d.alert := rfl
@[simp] theorem send_hv (m : OutMsg) : (d.send m).hv = d.hv := rfl
@[simp] theorem send_link (m : OutMsg) : (d.send m).link = d.link := rfl
@[simp] theorem send_pwr (m : OutMsg) : (d.send m).pwr = d.pwr := rfl
@[simp] theorem send_age (m : OutMsg) : (d.send m).age = d.age := rfl
@[simp] theorem send_bg (m : OutMsg) : (d.send m).bg = d.bg := rfl
@[simp] theorem send_flash (m : OutMsg) : (d.send m).flash = d.flash := rfl
@[simp] theorem send_thaw (m : OutMsg) : (d.send m).thaw = d.thaw := rfl
@[simp] theorem send_att (m : OutMsg) : (d.send m).att = d.att := rfl
@[simp] theorem send_isl (m : OutMsg) : (d.send m).isl = d.isl := rfl
@[simp] theorem send_work (m : OutMsg) : (d.send m).work = d.work := rfl
@[simp] theorem send_met (m : OutMsg) : (d.send m).met = d.met := rfl
@[simp] theorem send_recal (m : OutMsg) : (d.send m).recal = d.recal := rfl

@[simp] theorem put_time (a : Nat) (bs : List Byte) : (d.put a bs).time = d.time := rfl
@[simp] theorem put_dict (a : Nat) (bs : List Byte) : (d.put a bs).dict = d.dict := rfl
@[simp] theorem put_evt (a : Nat) (bs : List Byte) : (d.put a bs).evt = d.evt := rfl
@[simp] theorem put_cores (a : Nat) (bs : List Byte) : (d.put a bs).cores = d.cores := rfl
@[simp] theorem put_clus (a : Nat) (bs : List Byte) : (d.put a bs).clus = d.clus := rfl
@[simp] theorem put_movq (a : Nat) (bs : List Byte) : (d.put a bs).movq = d.movq := rfl
@[simp] theorem put_seqs (a : Nat) (bs : List Byte) : (d.put a bs).seqs = d.seqs := rfl
@[simp] theorem put_health (a : Nat) (bs : List Byte) : (d.put a bs).health = d.health := rfl
@[simp] theorem put_cad (a : Nat) (bs : List Byte) : (d.put a bs).cad = d.cad := rfl
@[simp] theorem put_adm (a : Nat) (bs : List Byte) : (d.put a bs).adm = d.adm := rfl
@[simp] theorem put_mgmt (a : Nat) (bs : List Byte) : (d.put a bs).mgmt = d.mgmt := rfl
@[simp] theorem put_alert (a : Nat) (bs : List Byte) : (d.put a bs).alert = d.alert := rfl
@[simp] theorem put_out (a : Nat) (bs : List Byte) : (d.put a bs).out = d.out := rfl
@[simp] theorem put_hv (a : Nat) (bs : List Byte) : (d.put a bs).hv = d.hv := rfl
@[simp] theorem put_link (a : Nat) (bs : List Byte) : (d.put a bs).link = d.link := rfl
@[simp] theorem put_pwr (a : Nat) (bs : List Byte) : (d.put a bs).pwr = d.pwr := rfl
@[simp] theorem put_age (a : Nat) (bs : List Byte) : (d.put a bs).age = d.age := rfl
@[simp] theorem put_bg (a : Nat) (bs : List Byte) : (d.put a bs).bg = d.bg := rfl
@[simp] theorem put_flash (a : Nat) (bs : List Byte) : (d.put a bs).flash = d.flash := rfl
@[simp] theorem put_thaw (a : Nat) (bs : List Byte) : (d.put a bs).thaw = d.thaw := rfl
@[simp] theorem put_att (a : Nat) (bs : List Byte) : (d.put a bs).att = d.att := rfl
@[simp] theorem put_isl (a : Nat) (bs : List Byte) : (d.put a bs).isl = d.isl := rfl
@[simp] theorem put_work (a : Nat) (bs : List Byte) : (d.put a bs).work = d.work := rfl
@[simp] theorem put_met (a : Nat) (bs : List Byte) : (d.put a bs).met = d.met := rfl
@[simp] theorem put_recal (a : Nat) (bs : List Byte) : (d.put a bs).recal = d.recal := rfl

@[simp] theorem store_time (a n v : Nat) : (d.store a n v).time = d.time := rfl
@[simp] theorem store_dict (a n v : Nat) : (d.store a n v).dict = d.dict := rfl
@[simp] theorem store_evt (a n v : Nat) : (d.store a n v).evt = d.evt := rfl
@[simp] theorem store_cores (a n v : Nat) : (d.store a n v).cores = d.cores := rfl
@[simp] theorem store_clus (a n v : Nat) : (d.store a n v).clus = d.clus := rfl
@[simp] theorem store_movq (a n v : Nat) : (d.store a n v).movq = d.movq := rfl
@[simp] theorem store_seqs (a n v : Nat) : (d.store a n v).seqs = d.seqs := rfl
@[simp] theorem store_health (a n v : Nat) : (d.store a n v).health = d.health := rfl
@[simp] theorem store_cad (a n v : Nat) : (d.store a n v).cad = d.cad := rfl
@[simp] theorem store_adm (a n v : Nat) : (d.store a n v).adm = d.adm := rfl
@[simp] theorem store_mgmt (a n v : Nat) : (d.store a n v).mgmt = d.mgmt := rfl
@[simp] theorem store_alert (a n v : Nat) : (d.store a n v).alert = d.alert := rfl
@[simp] theorem store_out (a n v : Nat) : (d.store a n v).out = d.out := rfl
@[simp] theorem store_hv (a n v : Nat) : (d.store a n v).hv = d.hv := rfl
@[simp] theorem store_link (a n v : Nat) : (d.store a n v).link = d.link := rfl
@[simp] theorem store_pwr (a n v : Nat) : (d.store a n v).pwr = d.pwr := rfl
@[simp] theorem store_age (a n v : Nat) : (d.store a n v).age = d.age := rfl
@[simp] theorem store_bg (a n v : Nat) : (d.store a n v).bg = d.bg := rfl
@[simp] theorem store_flash (a n v : Nat) : (d.store a n v).flash = d.flash := rfl
@[simp] theorem store_thaw (a n v : Nat) : (d.store a n v).thaw = d.thaw := rfl
@[simp] theorem store_att (a n v : Nat) : (d.store a n v).att = d.att := rfl
@[simp] theorem store_isl (a n v : Nat) : (d.store a n v).isl = d.isl := rfl
@[simp] theorem store_work (a n v : Nat) : (d.store a n v).work = d.work := rfl
@[simp] theorem store_met (a n v : Nat) : (d.store a n v).met = d.met := rfl
@[simp] theorem store_recal (a n v : Nat) : (d.store a n v).recal = d.recal := rfl

@[simp] theorem tailHit_time (a n : Nat) : (d.tailHit a n).time = d.time := rfl
@[simp] theorem tailHit_mem (a n : Nat) : (d.tailHit a n).mem = d.mem := rfl
@[simp] theorem tailHit_dict (a n : Nat) : (d.tailHit a n).dict = d.dict := rfl
@[simp] theorem tailHit_evt (a n : Nat) : (d.tailHit a n).evt = d.evt := rfl
@[simp] theorem tailHit_cores (a n : Nat) : (d.tailHit a n).cores = d.cores := rfl
@[simp] theorem tailHit_clus (a n : Nat) : (d.tailHit a n).clus = d.clus := rfl
@[simp] theorem tailHit_movq (a n : Nat) : (d.tailHit a n).movq = d.movq := rfl
@[simp] theorem tailHit_seqs (a n : Nat) : (d.tailHit a n).seqs = d.seqs := rfl
@[simp] theorem tailHit_health (a n : Nat) : (d.tailHit a n).health = d.health := rfl
@[simp] theorem tailHit_cad (a n : Nat) : (d.tailHit a n).cad = d.cad := rfl
@[simp] theorem tailHit_adm (a n : Nat) : (d.tailHit a n).adm = d.adm := rfl
@[simp] theorem tailHit_mgmt (a n : Nat) : (d.tailHit a n).mgmt = d.mgmt := rfl
@[simp] theorem tailHit_alert (a n : Nat) : (d.tailHit a n).alert = d.alert := rfl
@[simp] theorem tailHit_out (a n : Nat) : (d.tailHit a n).out = d.out := rfl
@[simp] theorem tailHit_hv (a n : Nat) : (d.tailHit a n).hv = d.hv := rfl
@[simp] theorem tailHit_link (a n : Nat) : (d.tailHit a n).link = d.link := rfl
@[simp] theorem tailHit_pwr (a n : Nat) : (d.tailHit a n).pwr = d.pwr := rfl
@[simp] theorem tailHit_age (a n : Nat) : (d.tailHit a n).age = d.age := rfl
@[simp] theorem tailHit_bg (a n : Nat) : (d.tailHit a n).bg = d.bg := rfl
@[simp] theorem tailHit_flash (a n : Nat) : (d.tailHit a n).flash = d.flash := rfl
@[simp] theorem tailHit_thaw (a n : Nat) : (d.tailHit a n).thaw = d.thaw := rfl
@[simp] theorem tailHit_att (a n : Nat) : (d.tailHit a n).att = d.att := rfl
@[simp] theorem tailHit_isl (a n : Nat) : (d.tailHit a n).isl = d.isl := rfl
@[simp] theorem tailHit_met (a n : Nat) : (d.tailHit a n).met = d.met := rfl
@[simp] theorem tailHit_recal (a n : Nat) : (d.tailHit a n).recal = d.recal := rfl

@[simp] theorem putW_time (a : Nat) (bs : List Byte) : (d.putW a bs).time = d.time := rfl
@[simp] theorem putW_dict (a : Nat) (bs : List Byte) : (d.putW a bs).dict = d.dict := rfl
@[simp] theorem putW_evt (a : Nat) (bs : List Byte) : (d.putW a bs).evt = d.evt := rfl
@[simp] theorem putW_cores (a : Nat) (bs : List Byte) : (d.putW a bs).cores = d.cores := rfl
@[simp] theorem putW_clus (a : Nat) (bs : List Byte) : (d.putW a bs).clus = d.clus := rfl
@[simp] theorem putW_movq (a : Nat) (bs : List Byte) : (d.putW a bs).movq = d.movq := rfl
@[simp] theorem putW_seqs (a : Nat) (bs : List Byte) : (d.putW a bs).seqs = d.seqs := rfl
@[simp] theorem putW_health (a : Nat) (bs : List Byte) : (d.putW a bs).health = d.health := rfl
@[simp] theorem putW_cad (a : Nat) (bs : List Byte) : (d.putW a bs).cad = d.cad := rfl
@[simp] theorem putW_adm (a : Nat) (bs : List Byte) : (d.putW a bs).adm = d.adm := rfl
@[simp] theorem putW_mgmt (a : Nat) (bs : List Byte) : (d.putW a bs).mgmt = d.mgmt := rfl
@[simp] theorem putW_alert (a : Nat) (bs : List Byte) : (d.putW a bs).alert = d.alert := rfl
@[simp] theorem putW_out (a : Nat) (bs : List Byte) : (d.putW a bs).out = d.out := rfl
@[simp] theorem putW_hv (a : Nat) (bs : List Byte) : (d.putW a bs).hv = d.hv := rfl
@[simp] theorem putW_link (a : Nat) (bs : List Byte) : (d.putW a bs).link = d.link := rfl
@[simp] theorem putW_pwr (a : Nat) (bs : List Byte) : (d.putW a bs).pwr = d.pwr := rfl
@[simp] theorem putW_age (a : Nat) (bs : List Byte) : (d.putW a bs).age = d.age := rfl
@[simp] theorem putW_bg (a : Nat) (bs : List Byte) : (d.putW a bs).bg = d.bg := rfl
@[simp] theorem putW_flash (a : Nat) (bs : List Byte) : (d.putW a bs).flash = d.flash := rfl
@[simp] theorem putW_thaw (a : Nat) (bs : List Byte) : (d.putW a bs).thaw = d.thaw := rfl
@[simp] theorem putW_att (a : Nat) (bs : List Byte) : (d.putW a bs).att = d.att := rfl
@[simp] theorem putW_isl (a : Nat) (bs : List Byte) : (d.putW a bs).isl = d.isl := rfl
@[simp] theorem putW_met (a : Nat) (bs : List Byte) : (d.putW a bs).met = d.met := rfl
@[simp] theorem putW_recal (a : Nat) (bs : List Byte) : (d.putW a bs).recal = d.recal := rfl

@[simp] theorem storeW_time (a n v : Nat) : (d.storeW a n v).time = d.time := rfl
@[simp] theorem storeW_dict (a n v : Nat) : (d.storeW a n v).dict = d.dict := rfl
@[simp] theorem storeW_evt (a n v : Nat) : (d.storeW a n v).evt = d.evt := rfl
@[simp] theorem storeW_cores (a n v : Nat) : (d.storeW a n v).cores = d.cores := rfl
@[simp] theorem storeW_clus (a n v : Nat) : (d.storeW a n v).clus = d.clus := rfl
@[simp] theorem storeW_movq (a n v : Nat) : (d.storeW a n v).movq = d.movq := rfl
@[simp] theorem storeW_seqs (a n v : Nat) : (d.storeW a n v).seqs = d.seqs := rfl
@[simp] theorem storeW_health (a n v : Nat) : (d.storeW a n v).health = d.health := rfl
@[simp] theorem storeW_cad (a n v : Nat) : (d.storeW a n v).cad = d.cad := rfl
@[simp] theorem storeW_adm (a n v : Nat) : (d.storeW a n v).adm = d.adm := rfl
@[simp] theorem storeW_mgmt (a n v : Nat) : (d.storeW a n v).mgmt = d.mgmt := rfl
@[simp] theorem storeW_alert (a n v : Nat) : (d.storeW a n v).alert = d.alert := rfl
@[simp] theorem storeW_out (a n v : Nat) : (d.storeW a n v).out = d.out := rfl
@[simp] theorem storeW_hv (a n v : Nat) : (d.storeW a n v).hv = d.hv := rfl
@[simp] theorem storeW_link (a n v : Nat) : (d.storeW a n v).link = d.link := rfl
@[simp] theorem storeW_pwr (a n v : Nat) : (d.storeW a n v).pwr = d.pwr := rfl
@[simp] theorem storeW_age (a n v : Nat) : (d.storeW a n v).age = d.age := rfl
@[simp] theorem storeW_bg (a n v : Nat) : (d.storeW a n v).bg = d.bg := rfl
@[simp] theorem storeW_flash (a n v : Nat) : (d.storeW a n v).flash = d.flash := rfl
@[simp] theorem storeW_thaw (a n v : Nat) : (d.storeW a n v).thaw = d.thaw := rfl
@[simp] theorem storeW_att (a n v : Nat) : (d.storeW a n v).att = d.att := rfl
@[simp] theorem storeW_isl (a n v : Nat) : (d.storeW a n v).isl = d.isl := rfl
@[simp] theorem storeW_met (a n v : Nat) : (d.storeW a n v).met = d.met := rfl
@[simp] theorem storeW_recal (a n v : Nat) : (d.storeW a n v).recal = d.recal := rfl

@[simp] theorem keepMem_time (p : Nat → Bool) : (d.keepMem p).time = d.time := rfl
@[simp] theorem keepMem_dict (p : Nat → Bool) : (d.keepMem p).dict = d.dict := rfl
@[simp] theorem keepMem_evt (p : Nat → Bool) : (d.keepMem p).evt = d.evt := rfl
@[simp] theorem keepMem_cores (p : Nat → Bool) : (d.keepMem p).cores = d.cores := rfl
@[simp] theorem keepMem_clus (p : Nat → Bool) : (d.keepMem p).clus = d.clus := rfl
@[simp] theorem keepMem_movq (p : Nat → Bool) : (d.keepMem p).movq = d.movq := rfl
@[simp] theorem keepMem_seqs (p : Nat → Bool) : (d.keepMem p).seqs = d.seqs := rfl
@[simp] theorem keepMem_health (p : Nat → Bool) : (d.keepMem p).health = d.health := rfl
@[simp] theorem keepMem_cad (p : Nat → Bool) : (d.keepMem p).cad = d.cad := rfl
@[simp] theorem keepMem_adm (p : Nat → Bool) : (d.keepMem p).adm = d.adm := rfl
@[simp] theorem keepMem_mgmt (p : Nat → Bool) : (d.keepMem p).mgmt = d.mgmt := rfl
@[simp] theorem keepMem_alert (p : Nat → Bool) : (d.keepMem p).alert = d.alert := rfl
@[simp] theorem keepMem_out (p : Nat → Bool) : (d.keepMem p).out = d.out := rfl
@[simp] theorem keepMem_hv (p : Nat → Bool) : (d.keepMem p).hv = d.hv := rfl
@[simp] theorem keepMem_link (p : Nat → Bool) : (d.keepMem p).link = d.link := rfl
@[simp] theorem keepMem_pwr (p : Nat → Bool) : (d.keepMem p).pwr = d.pwr := rfl
@[simp] theorem keepMem_age (p : Nat → Bool) : (d.keepMem p).age = d.age := rfl
@[simp] theorem keepMem_bg (p : Nat → Bool) : (d.keepMem p).bg = d.bg := rfl
@[simp] theorem keepMem_flash (p : Nat → Bool) : (d.keepMem p).flash = d.flash := rfl
@[simp] theorem keepMem_thaw (p : Nat → Bool) : (d.keepMem p).thaw = d.thaw := rfl
@[simp] theorem keepMem_att (p : Nat → Bool) : (d.keepMem p).att = d.att := rfl
@[simp] theorem keepMem_isl (p : Nat → Bool) : (d.keepMem p).isl = d.isl := rfl
@[simp] theorem keepMem_work (p : Nat → Bool) : (d.keepMem p).work = d.work := rfl
@[simp] theorem keepMem_met (p : Nat → Bool) : (d.keepMem p).met = d.met := rfl
@[simp] theorem keepMem_recal (p : Nat → Bool) : (d.keepMem p).recal = d.recal := rfl

@[simp] theorem setCore_time (g : Nat) (c : CoreS) : (d.setCore g c).time = d.time := rfl
@[simp] theorem setCore_mem (g : Nat) (c : CoreS) : (d.setCore g c).mem = d.mem := rfl
@[simp] theorem setCore_dict (g : Nat) (c : CoreS) : (d.setCore g c).dict = d.dict := rfl
@[simp] theorem setCore_evt (g : Nat) (c : CoreS) : (d.setCore g c).evt = d.evt := rfl
@[simp] theorem setCore_clus (g : Nat) (c : CoreS) : (d.setCore g c).clus = d.clus := rfl
@[simp] theorem setCore_movq (g : Nat) (c : CoreS) : (d.setCore g c).movq = d.movq := rfl
@[simp] theorem setCore_seqs (g : Nat) (c : CoreS) : (d.setCore g c).seqs = d.seqs := rfl
@[simp] theorem setCore_health (g : Nat) (c : CoreS) : (d.setCore g c).health = d.health := rfl
@[simp] theorem setCore_cad (g : Nat) (c : CoreS) : (d.setCore g c).cad = d.cad := rfl
@[simp] theorem setCore_adm (g : Nat) (c : CoreS) : (d.setCore g c).adm = d.adm := rfl
@[simp] theorem setCore_mgmt (g : Nat) (c : CoreS) : (d.setCore g c).mgmt = d.mgmt := rfl
@[simp] theorem setCore_alert (g : Nat) (c : CoreS) : (d.setCore g c).alert = d.alert := rfl
@[simp] theorem setCore_out (g : Nat) (c : CoreS) : (d.setCore g c).out = d.out := rfl
@[simp] theorem setCore_hv (g : Nat) (c : CoreS) : (d.setCore g c).hv = d.hv := rfl
@[simp] theorem setCore_link (g : Nat) (c : CoreS) : (d.setCore g c).link = d.link := rfl
@[simp] theorem setCore_pwr (g : Nat) (c : CoreS) : (d.setCore g c).pwr = d.pwr := rfl
@[simp] theorem setCore_age (g : Nat) (c : CoreS) : (d.setCore g c).age = d.age := rfl
@[simp] theorem setCore_bg (g : Nat) (c : CoreS) : (d.setCore g c).bg = d.bg := rfl
@[simp] theorem setCore_flash (g : Nat) (c : CoreS) : (d.setCore g c).flash = d.flash := rfl
@[simp] theorem setCore_thaw (g : Nat) (c : CoreS) : (d.setCore g c).thaw = d.thaw := rfl
@[simp] theorem setCore_att (g : Nat) (c : CoreS) : (d.setCore g c).att = d.att := rfl
@[simp] theorem setCore_isl (g : Nat) (c : CoreS) : (d.setCore g c).isl = d.isl := rfl
@[simp] theorem setCore_work (g : Nat) (c : CoreS) : (d.setCore g c).work = d.work := rfl
@[simp] theorem setCore_met (g : Nat) (c : CoreS) : (d.setCore g c).met = d.met := rfl
@[simp] theorem setCore_recal (g : Nat) (c : CoreS) : (d.setCore g c).recal = d.recal := rfl

@[simp] theorem modCore_time (g : Nat) (f : CoreS → CoreS) : (d.modCore g f).time = d.time := rfl
@[simp] theorem modCore_mem (g : Nat) (f : CoreS → CoreS) : (d.modCore g f).mem = d.mem := rfl
@[simp] theorem modCore_dict (g : Nat) (f : CoreS → CoreS) : (d.modCore g f).dict = d.dict := rfl
@[simp] theorem modCore_evt (g : Nat) (f : CoreS → CoreS) : (d.modCore g f).evt = d.evt := rfl
@[simp] theorem modCore_clus (g : Nat) (f : CoreS → CoreS) : (d.modCore g f).clus = d.clus := rfl
@[simp] theorem modCore_movq (g : Nat) (f : CoreS → CoreS) : (d.modCore g f).movq = d.movq := rfl
@[simp] theorem modCore_seqs (g : Nat) (f : CoreS → CoreS) : (d.modCore g f).seqs = d.seqs := rfl
@[simp] theorem modCore_health (g : Nat) (f : CoreS → CoreS) : (d.modCore g f).health = d.health := rfl
@[simp] theorem modCore_cad (g : Nat) (f : CoreS → CoreS) : (d.modCore g f).cad = d.cad := rfl
@[simp] theorem modCore_adm (g : Nat) (f : CoreS → CoreS) : (d.modCore g f).adm = d.adm := rfl
@[simp] theorem modCore_mgmt (g : Nat) (f : CoreS → CoreS) : (d.modCore g f).mgmt = d.mgmt := rfl
@[simp] theorem modCore_alert (g : Nat) (f : CoreS → CoreS) : (d.modCore g f).alert = d.alert := rfl
@[simp] theorem modCore_out (g : Nat) (f : CoreS → CoreS) : (d.modCore g f).out = d.out := rfl
@[simp] theorem modCore_hv (g : Nat) (f : CoreS → CoreS) : (d.modCore g f).hv = d.hv := rfl
@[simp] theorem modCore_link (g : Nat) (f : CoreS → CoreS) : (d.modCore g f).link = d.link := rfl
@[simp] theorem modCore_pwr (g : Nat) (f : CoreS → CoreS) : (d.modCore g f).pwr = d.pwr := rfl
@[simp] theorem modCore_age (g : Nat) (f : CoreS → CoreS) : (d.modCore g f).age = d.age := rfl
@[simp] theorem modCore_bg (g : Nat) (f : CoreS → CoreS) : (d.modCore g f).bg = d.bg := rfl
@[simp] theorem modCore_flash (g : Nat) (f : CoreS → CoreS) : (d.modCore g f).flash = d.flash := rfl
@[simp] theorem modCore_thaw (g : Nat) (f : CoreS → CoreS) : (d.modCore g f).thaw = d.thaw := rfl
@[simp] theorem modCore_att (g : Nat) (f : CoreS → CoreS) : (d.modCore g f).att = d.att := rfl
@[simp] theorem modCore_isl (g : Nat) (f : CoreS → CoreS) : (d.modCore g f).isl = d.isl := rfl
@[simp] theorem modCore_work (g : Nat) (f : CoreS → CoreS) : (d.modCore g f).work = d.work := rfl
@[simp] theorem modCore_met (g : Nat) (f : CoreS → CoreS) : (d.modCore g f).met = d.met := rfl
@[simp] theorem modCore_recal (g : Nat) (f : CoreS → CoreS) : (d.modCore g f).recal = d.recal := rfl

@[simp] theorem setThread_time (g t : Nat) (x : Thread) : (d.setThread g t x).time = d.time := rfl
@[simp] theorem setThread_mem (g t : Nat) (x : Thread) : (d.setThread g t x).mem = d.mem := rfl
@[simp] theorem setThread_dict (g t : Nat) (x : Thread) : (d.setThread g t x).dict = d.dict := rfl
@[simp] theorem setThread_evt (g t : Nat) (x : Thread) : (d.setThread g t x).evt = d.evt := rfl
@[simp] theorem setThread_clus (g t : Nat) (x : Thread) : (d.setThread g t x).clus = d.clus := rfl
@[simp] theorem setThread_movq (g t : Nat) (x : Thread) : (d.setThread g t x).movq = d.movq := rfl
@[simp] theorem setThread_seqs (g t : Nat) (x : Thread) : (d.setThread g t x).seqs = d.seqs := rfl
@[simp] theorem setThread_health (g t : Nat) (x : Thread) : (d.setThread g t x).health = d.health := rfl
@[simp] theorem setThread_cad (g t : Nat) (x : Thread) : (d.setThread g t x).cad = d.cad := rfl
@[simp] theorem setThread_adm (g t : Nat) (x : Thread) : (d.setThread g t x).adm = d.adm := rfl
@[simp] theorem setThread_mgmt (g t : Nat) (x : Thread) : (d.setThread g t x).mgmt = d.mgmt := rfl
@[simp] theorem setThread_alert (g t : Nat) (x : Thread) : (d.setThread g t x).alert = d.alert := rfl
@[simp] theorem setThread_out (g t : Nat) (x : Thread) : (d.setThread g t x).out = d.out := rfl
@[simp] theorem setThread_hv (g t : Nat) (x : Thread) : (d.setThread g t x).hv = d.hv := rfl
@[simp] theorem setThread_link (g t : Nat) (x : Thread) : (d.setThread g t x).link = d.link := rfl
@[simp] theorem setThread_pwr (g t : Nat) (x : Thread) : (d.setThread g t x).pwr = d.pwr := rfl
@[simp] theorem setThread_age (g t : Nat) (x : Thread) : (d.setThread g t x).age = d.age := rfl
@[simp] theorem setThread_bg (g t : Nat) (x : Thread) : (d.setThread g t x).bg = d.bg := rfl
@[simp] theorem setThread_flash (g t : Nat) (x : Thread) : (d.setThread g t x).flash = d.flash := rfl
@[simp] theorem setThread_thaw (g t : Nat) (x : Thread) : (d.setThread g t x).thaw = d.thaw := rfl
@[simp] theorem setThread_att (g t : Nat) (x : Thread) : (d.setThread g t x).att = d.att := rfl
@[simp] theorem setThread_isl (g t : Nat) (x : Thread) : (d.setThread g t x).isl = d.isl := rfl
@[simp] theorem setThread_work (g t : Nat) (x : Thread) : (d.setThread g t x).work = d.work := rfl
@[simp] theorem setThread_met (g t : Nat) (x : Thread) : (d.setThread g t x).met = d.met := rfl
@[simp] theorem setThread_recal (g t : Nat) (x : Thread) : (d.setThread g t x).recal = d.recal := rfl

@[simp] theorem setFrame_time (g f : Nat) (x : Frame) : (d.setFrame g f x).time = d.time := rfl
@[simp] theorem setFrame_mem (g f : Nat) (x : Frame) : (d.setFrame g f x).mem = d.mem := rfl
@[simp] theorem setFrame_dict (g f : Nat) (x : Frame) : (d.setFrame g f x).dict = d.dict := rfl
@[simp] theorem setFrame_evt (g f : Nat) (x : Frame) : (d.setFrame g f x).evt = d.evt := rfl
@[simp] theorem setFrame_clus (g f : Nat) (x : Frame) : (d.setFrame g f x).clus = d.clus := rfl
@[simp] theorem setFrame_movq (g f : Nat) (x : Frame) : (d.setFrame g f x).movq = d.movq := rfl
@[simp] theorem setFrame_seqs (g f : Nat) (x : Frame) : (d.setFrame g f x).seqs = d.seqs := rfl
@[simp] theorem setFrame_health (g f : Nat) (x : Frame) : (d.setFrame g f x).health = d.health := rfl
@[simp] theorem setFrame_cad (g f : Nat) (x : Frame) : (d.setFrame g f x).cad = d.cad := rfl
@[simp] theorem setFrame_adm (g f : Nat) (x : Frame) : (d.setFrame g f x).adm = d.adm := rfl
@[simp] theorem setFrame_mgmt (g f : Nat) (x : Frame) : (d.setFrame g f x).mgmt = d.mgmt := rfl
@[simp] theorem setFrame_alert (g f : Nat) (x : Frame) : (d.setFrame g f x).alert = d.alert := rfl
@[simp] theorem setFrame_out (g f : Nat) (x : Frame) : (d.setFrame g f x).out = d.out := rfl
@[simp] theorem setFrame_hv (g f : Nat) (x : Frame) : (d.setFrame g f x).hv = d.hv := rfl
@[simp] theorem setFrame_link (g f : Nat) (x : Frame) : (d.setFrame g f x).link = d.link := rfl
@[simp] theorem setFrame_pwr (g f : Nat) (x : Frame) : (d.setFrame g f x).pwr = d.pwr := rfl
@[simp] theorem setFrame_age (g f : Nat) (x : Frame) : (d.setFrame g f x).age = d.age := rfl
@[simp] theorem setFrame_bg (g f : Nat) (x : Frame) : (d.setFrame g f x).bg = d.bg := rfl
@[simp] theorem setFrame_flash (g f : Nat) (x : Frame) : (d.setFrame g f x).flash = d.flash := rfl
@[simp] theorem setFrame_thaw (g f : Nat) (x : Frame) : (d.setFrame g f x).thaw = d.thaw := rfl
@[simp] theorem setFrame_att (g f : Nat) (x : Frame) : (d.setFrame g f x).att = d.att := rfl
@[simp] theorem setFrame_isl (g f : Nat) (x : Frame) : (d.setFrame g f x).isl = d.isl := rfl
@[simp] theorem setFrame_work (g f : Nat) (x : Frame) : (d.setFrame g f x).work = d.work := rfl
@[simp] theorem setFrame_met (g f : Nat) (x : Frame) : (d.setFrame g f x).met = d.met := rfl
@[simp] theorem setFrame_recal (g f : Nat) (x : Frame) : (d.setFrame g f x).recal = d.recal := rfl

@[simp] theorem setClu_time (k : Nat) (c : ClusS) : (d.setClu k c).time = d.time := rfl
@[simp] theorem setClu_mem (k : Nat) (c : ClusS) : (d.setClu k c).mem = d.mem := rfl
@[simp] theorem setClu_dict (k : Nat) (c : ClusS) : (d.setClu k c).dict = d.dict := rfl
@[simp] theorem setClu_evt (k : Nat) (c : ClusS) : (d.setClu k c).evt = d.evt := rfl
@[simp] theorem setClu_cores (k : Nat) (c : ClusS) : (d.setClu k c).cores = d.cores := rfl
@[simp] theorem setClu_movq (k : Nat) (c : ClusS) : (d.setClu k c).movq = d.movq := rfl
@[simp] theorem setClu_seqs (k : Nat) (c : ClusS) : (d.setClu k c).seqs = d.seqs := rfl
@[simp] theorem setClu_health (k : Nat) (c : ClusS) : (d.setClu k c).health = d.health := rfl
@[simp] theorem setClu_cad (k : Nat) (c : ClusS) : (d.setClu k c).cad = d.cad := rfl
@[simp] theorem setClu_adm (k : Nat) (c : ClusS) : (d.setClu k c).adm = d.adm := rfl
@[simp] theorem setClu_mgmt (k : Nat) (c : ClusS) : (d.setClu k c).mgmt = d.mgmt := rfl
@[simp] theorem setClu_alert (k : Nat) (c : ClusS) : (d.setClu k c).alert = d.alert := rfl
@[simp] theorem setClu_out (k : Nat) (c : ClusS) : (d.setClu k c).out = d.out := rfl
@[simp] theorem setClu_hv (k : Nat) (c : ClusS) : (d.setClu k c).hv = d.hv := rfl
@[simp] theorem setClu_link (k : Nat) (c : ClusS) : (d.setClu k c).link = d.link := rfl
@[simp] theorem setClu_pwr (k : Nat) (c : ClusS) : (d.setClu k c).pwr = d.pwr := rfl
@[simp] theorem setClu_age (k : Nat) (c : ClusS) : (d.setClu k c).age = d.age := rfl
@[simp] theorem setClu_bg (k : Nat) (c : ClusS) : (d.setClu k c).bg = d.bg := rfl
@[simp] theorem setClu_flash (k : Nat) (c : ClusS) : (d.setClu k c).flash = d.flash := rfl
@[simp] theorem setClu_thaw (k : Nat) (c : ClusS) : (d.setClu k c).thaw = d.thaw := rfl
@[simp] theorem setClu_att (k : Nat) (c : ClusS) : (d.setClu k c).att = d.att := rfl
@[simp] theorem setClu_isl (k : Nat) (c : ClusS) : (d.setClu k c).isl = d.isl := rfl
@[simp] theorem setClu_work (k : Nat) (c : ClusS) : (d.setClu k c).work = d.work := rfl
@[simp] theorem setClu_met (k : Nat) (c : ClusS) : (d.setClu k c).met = d.met := rfl
@[simp] theorem setClu_recal (k : Nat) (c : ClusS) : (d.setClu k c).recal = d.recal := rfl

@[simp] theorem modClu_time (k : Nat) (f : ClusS → ClusS) : (d.modClu k f).time = d.time := rfl
@[simp] theorem modClu_mem (k : Nat) (f : ClusS → ClusS) : (d.modClu k f).mem = d.mem := rfl
@[simp] theorem modClu_dict (k : Nat) (f : ClusS → ClusS) : (d.modClu k f).dict = d.dict := rfl
@[simp] theorem modClu_evt (k : Nat) (f : ClusS → ClusS) : (d.modClu k f).evt = d.evt := rfl
@[simp] theorem modClu_cores (k : Nat) (f : ClusS → ClusS) : (d.modClu k f).cores = d.cores := rfl
@[simp] theorem modClu_movq (k : Nat) (f : ClusS → ClusS) : (d.modClu k f).movq = d.movq := rfl
@[simp] theorem modClu_seqs (k : Nat) (f : ClusS → ClusS) : (d.modClu k f).seqs = d.seqs := rfl
@[simp] theorem modClu_health (k : Nat) (f : ClusS → ClusS) : (d.modClu k f).health = d.health := rfl
@[simp] theorem modClu_cad (k : Nat) (f : ClusS → ClusS) : (d.modClu k f).cad = d.cad := rfl
@[simp] theorem modClu_adm (k : Nat) (f : ClusS → ClusS) : (d.modClu k f).adm = d.adm := rfl
@[simp] theorem modClu_mgmt (k : Nat) (f : ClusS → ClusS) : (d.modClu k f).mgmt = d.mgmt := rfl
@[simp] theorem modClu_alert (k : Nat) (f : ClusS → ClusS) : (d.modClu k f).alert = d.alert := rfl
@[simp] theorem modClu_out (k : Nat) (f : ClusS → ClusS) : (d.modClu k f).out = d.out := rfl
@[simp] theorem modClu_hv (k : Nat) (f : ClusS → ClusS) : (d.modClu k f).hv = d.hv := rfl
@[simp] theorem modClu_link (k : Nat) (f : ClusS → ClusS) : (d.modClu k f).link = d.link := rfl
@[simp] theorem modClu_pwr (k : Nat) (f : ClusS → ClusS) : (d.modClu k f).pwr = d.pwr := rfl
@[simp] theorem modClu_age (k : Nat) (f : ClusS → ClusS) : (d.modClu k f).age = d.age := rfl
@[simp] theorem modClu_bg (k : Nat) (f : ClusS → ClusS) : (d.modClu k f).bg = d.bg := rfl
@[simp] theorem modClu_flash (k : Nat) (f : ClusS → ClusS) : (d.modClu k f).flash = d.flash := rfl
@[simp] theorem modClu_thaw (k : Nat) (f : ClusS → ClusS) : (d.modClu k f).thaw = d.thaw := rfl
@[simp] theorem modClu_att (k : Nat) (f : ClusS → ClusS) : (d.modClu k f).att = d.att := rfl
@[simp] theorem modClu_isl (k : Nat) (f : ClusS → ClusS) : (d.modClu k f).isl = d.isl := rfl
@[simp] theorem modClu_work (k : Nat) (f : ClusS → ClusS) : (d.modClu k f).work = d.work := rfl
@[simp] theorem modClu_met (k : Nat) (f : ClusS → ClusS) : (d.modClu k f).met = d.met := rfl
@[simp] theorem modClu_recal (k : Nat) (f : ClusS → ClusS) : (d.modClu k f).recal = d.recal := rfl

@[simp] theorem setSq_time (q : Nat) (c : SqS) : (d.setSq q c).time = d.time := rfl
@[simp] theorem setSq_mem (q : Nat) (c : SqS) : (d.setSq q c).mem = d.mem := rfl
@[simp] theorem setSq_dict (q : Nat) (c : SqS) : (d.setSq q c).dict = d.dict := rfl
@[simp] theorem setSq_evt (q : Nat) (c : SqS) : (d.setSq q c).evt = d.evt := rfl
@[simp] theorem setSq_cores (q : Nat) (c : SqS) : (d.setSq q c).cores = d.cores := rfl
@[simp] theorem setSq_clus (q : Nat) (c : SqS) : (d.setSq q c).clus = d.clus := rfl
@[simp] theorem setSq_movq (q : Nat) (c : SqS) : (d.setSq q c).movq = d.movq := rfl
@[simp] theorem setSq_health (q : Nat) (c : SqS) : (d.setSq q c).health = d.health := rfl
@[simp] theorem setSq_cad (q : Nat) (c : SqS) : (d.setSq q c).cad = d.cad := rfl
@[simp] theorem setSq_adm (q : Nat) (c : SqS) : (d.setSq q c).adm = d.adm := rfl
@[simp] theorem setSq_mgmt (q : Nat) (c : SqS) : (d.setSq q c).mgmt = d.mgmt := rfl
@[simp] theorem setSq_alert (q : Nat) (c : SqS) : (d.setSq q c).alert = d.alert := rfl
@[simp] theorem setSq_out (q : Nat) (c : SqS) : (d.setSq q c).out = d.out := rfl
@[simp] theorem setSq_hv (q : Nat) (c : SqS) : (d.setSq q c).hv = d.hv := rfl
@[simp] theorem setSq_link (q : Nat) (c : SqS) : (d.setSq q c).link = d.link := rfl
@[simp] theorem setSq_pwr (q : Nat) (c : SqS) : (d.setSq q c).pwr = d.pwr := rfl
@[simp] theorem setSq_age (q : Nat) (c : SqS) : (d.setSq q c).age = d.age := rfl
@[simp] theorem setSq_bg (q : Nat) (c : SqS) : (d.setSq q c).bg = d.bg := rfl
@[simp] theorem setSq_flash (q : Nat) (c : SqS) : (d.setSq q c).flash = d.flash := rfl
@[simp] theorem setSq_thaw (q : Nat) (c : SqS) : (d.setSq q c).thaw = d.thaw := rfl
@[simp] theorem setSq_att (q : Nat) (c : SqS) : (d.setSq q c).att = d.att := rfl
@[simp] theorem setSq_isl (q : Nat) (c : SqS) : (d.setSq q c).isl = d.isl := rfl
@[simp] theorem setSq_work (q : Nat) (c : SqS) : (d.setSq q c).work = d.work := rfl
@[simp] theorem setSq_met (q : Nat) (c : SqS) : (d.setSq q c).met = d.met := rfl
@[simp] theorem setSq_recal (q : Nat) (c : SqS) : (d.setSq q c).recal = d.recal := rfl

@[simp] theorem setMoves_time (e : Nat) (l : List MoveEnt) : (d.setMoves e l).time = d.time := rfl
@[simp] theorem setMoves_mem (e : Nat) (l : List MoveEnt) : (d.setMoves e l).mem = d.mem := rfl
@[simp] theorem setMoves_dict (e : Nat) (l : List MoveEnt) : (d.setMoves e l).dict = d.dict := rfl
@[simp] theorem setMoves_evt (e : Nat) (l : List MoveEnt) : (d.setMoves e l).evt = d.evt := rfl
@[simp] theorem setMoves_cores (e : Nat) (l : List MoveEnt) : (d.setMoves e l).cores = d.cores := rfl
@[simp] theorem setMoves_clus (e : Nat) (l : List MoveEnt) : (d.setMoves e l).clus = d.clus := rfl
@[simp] theorem setMoves_seqs (e : Nat) (l : List MoveEnt) : (d.setMoves e l).seqs = d.seqs := rfl
@[simp] theorem setMoves_health (e : Nat) (l : List MoveEnt) : (d.setMoves e l).health = d.health := rfl
@[simp] theorem setMoves_cad (e : Nat) (l : List MoveEnt) : (d.setMoves e l).cad = d.cad := rfl
@[simp] theorem setMoves_adm (e : Nat) (l : List MoveEnt) : (d.setMoves e l).adm = d.adm := rfl
@[simp] theorem setMoves_mgmt (e : Nat) (l : List MoveEnt) : (d.setMoves e l).mgmt = d.mgmt := rfl
@[simp] theorem setMoves_alert (e : Nat) (l : List MoveEnt) : (d.setMoves e l).alert = d.alert := rfl
@[simp] theorem setMoves_out (e : Nat) (l : List MoveEnt) : (d.setMoves e l).out = d.out := rfl
@[simp] theorem setMoves_hv (e : Nat) (l : List MoveEnt) : (d.setMoves e l).hv = d.hv := rfl
@[simp] theorem setMoves_link (e : Nat) (l : List MoveEnt) : (d.setMoves e l).link = d.link := rfl
@[simp] theorem setMoves_pwr (e : Nat) (l : List MoveEnt) : (d.setMoves e l).pwr = d.pwr := rfl
@[simp] theorem setMoves_age (e : Nat) (l : List MoveEnt) : (d.setMoves e l).age = d.age := rfl
@[simp] theorem setMoves_bg (e : Nat) (l : List MoveEnt) : (d.setMoves e l).bg = d.bg := rfl
@[simp] theorem setMoves_flash (e : Nat) (l : List MoveEnt) : (d.setMoves e l).flash = d.flash := rfl
@[simp] theorem setMoves_thaw (e : Nat) (l : List MoveEnt) : (d.setMoves e l).thaw = d.thaw := rfl
@[simp] theorem setMoves_att (e : Nat) (l : List MoveEnt) : (d.setMoves e l).att = d.att := rfl
@[simp] theorem setMoves_isl (e : Nat) (l : List MoveEnt) : (d.setMoves e l).isl = d.isl := rfl
@[simp] theorem setMoves_work (e : Nat) (l : List MoveEnt) : (d.setMoves e l).work = d.work := rfl
@[simp] theorem setMoves_met (e : Nat) (l : List MoveEnt) : (d.setMoves e l).met = d.met := rfl
@[simp] theorem setMoves_recal (e : Nat) (l : List MoveEnt) : (d.setMoves e l).recal = d.recal := rfl

@[simp] theorem setPd_time (i : Nat) (x : DomS) : (d.setPd i x).time = d.time := rfl
@[simp] theorem setPd_mem (i : Nat) (x : DomS) : (d.setPd i x).mem = d.mem := rfl
@[simp] theorem setPd_dict (i : Nat) (x : DomS) : (d.setPd i x).dict = d.dict := rfl
@[simp] theorem setPd_evt (i : Nat) (x : DomS) : (d.setPd i x).evt = d.evt := rfl
@[simp] theorem setPd_cores (i : Nat) (x : DomS) : (d.setPd i x).cores = d.cores := rfl
@[simp] theorem setPd_clus (i : Nat) (x : DomS) : (d.setPd i x).clus = d.clus := rfl
@[simp] theorem setPd_movq (i : Nat) (x : DomS) : (d.setPd i x).movq = d.movq := rfl
@[simp] theorem setPd_seqs (i : Nat) (x : DomS) : (d.setPd i x).seqs = d.seqs := rfl
@[simp] theorem setPd_health (i : Nat) (x : DomS) : (d.setPd i x).health = d.health := rfl
@[simp] theorem setPd_cad (i : Nat) (x : DomS) : (d.setPd i x).cad = d.cad := rfl
@[simp] theorem setPd_adm (i : Nat) (x : DomS) : (d.setPd i x).adm = d.adm := rfl
@[simp] theorem setPd_mgmt (i : Nat) (x : DomS) : (d.setPd i x).mgmt = d.mgmt := rfl
@[simp] theorem setPd_alert (i : Nat) (x : DomS) : (d.setPd i x).alert = d.alert := rfl
@[simp] theorem setPd_out (i : Nat) (x : DomS) : (d.setPd i x).out = d.out := rfl
@[simp] theorem setPd_hv (i : Nat) (x : DomS) : (d.setPd i x).hv = d.hv := rfl
@[simp] theorem setPd_link (i : Nat) (x : DomS) : (d.setPd i x).link = d.link := rfl
@[simp] theorem setPd_age (i : Nat) (x : DomS) : (d.setPd i x).age = d.age := rfl
@[simp] theorem setPd_bg (i : Nat) (x : DomS) : (d.setPd i x).bg = d.bg := rfl
@[simp] theorem setPd_flash (i : Nat) (x : DomS) : (d.setPd i x).flash = d.flash := rfl
@[simp] theorem setPd_thaw (i : Nat) (x : DomS) : (d.setPd i x).thaw = d.thaw := rfl
@[simp] theorem setPd_att (i : Nat) (x : DomS) : (d.setPd i x).att = d.att := rfl
@[simp] theorem setPd_isl (i : Nat) (x : DomS) : (d.setPd i x).isl = d.isl := rfl
@[simp] theorem setPd_work (i : Nat) (x : DomS) : (d.setPd i x).work = d.work := rfl
@[simp] theorem setPd_met (i : Nat) (x : DomS) : (d.setPd i x).met = d.met := rfl
@[simp] theorem setPd_recal (i : Nat) (x : DomS) : (d.setPd i x).recal = d.recal := rfl

end Sys2Proof.Machine.Device
end

