-- ==== Sys2Proof/Laws/Ops.lean ====
section
/-! SUPPORT. What the shared operations do: a register of the dictionary, a core, a thread, a cluster, a sequencer read
after it was written; what raising an event leaves alone; what an issued instruction does. -/

namespace Sys2Proof.Machine.Device

variable (d : Device)

/-! ### Read after write -/

@[simp] theorem num_setNum_same (idx sub inst v : Nat) : (d.setNum idx sub inst v).num idx sub inst = v := by
  unfold setNum num; simp

theorem num_setNum_ne {i s k i' s' k' : Nat} (v : Nat) (h : okey (homeIdx i) s k ≠ okey (homeIdx i') s' k') :
    (d.setNum i s k v).num i' s' k' = d.num i' s' k' := by
  unfold setNum num; simp [Map.get_set_ne' _ _ _ _ h]

@[simp] theorem dom_setNum (idx sub inst v : Nat) : (d.setNum idx sub inst v).dict.dom = d.dict.dom := by
  unfold setNum; rfl

@[simp] theorem force_setNum (idx sub inst v : Nat) : (d.setNum idx sub inst v).dict.force = d.dict.force := by
  unfold setNum; rfl

@[simp] theorem dom_addNum (idx sub inst v : Nat) : (d.addNum idx sub inst v).dict.dom = d.dict.dom := by
  unfold addNum; simp

@[simp] theorem force_addNum (idx sub inst v : Nat) : (d.addNum idx sub inst v).dict.force = d.dict.force := by
  unfold addNum; simp

theorem key_setNum (i s k v w : Nat) {j : Nat} (h : okey (homeIdx i) s k ≠ j) :
    Map.get w (d.setNum i s k v).dict.num j = Map.get w d.dict.num j := by
  unfold setNum; simp [Map.get_set_ne' _ _ _ _ h]

theorem key_addNum (i s k v w : Nat) {j : Nat} (h : okey (homeIdx i) s k ≠ j) :
    Map.get w (d.addNum i s k v).dict.num j = Map.get w d.dict.num j := by
  unfold addNum; simp [key_setNum d _ _ _ _ _ h]

@[simp] theorem byteAt_setNum (i s k v a : Nat) : (d.setNum i s k v).byteAt a = d.byteAt a := by simp [byteAt]
@[simp] theorem byteAt_addNum (i s k v a : Nat) : (d.addNum i s k v).byteAt a = d.byteAt a := by simp [byteAt]
@[simp] theorem byteAt_setThread (g t : Nat) (x : Thread) (a : Nat) : (d.setThread g t x).byteAt a = d.byteAt a := rfl
@[simp] theorem core_setNum (i s k v g : Nat) : (d.setNum i s k v).core g = d.core g := by simp [core]
@[simp] theorem core_addNum (i s k v g : Nat) : (d.addNum i s k v).core g = d.core g := by simp [core]
@[simp] theorem thread_setNum (i s k v g t : Nat) : (d.setNum i s k v).thread g t = d.thread g t := by simp [thread]
@[simp] theorem thread_addNum (i s k v g t : Nat) : (d.addNum i s k v).thread g t = d.thread g t := by simp [thread]

/-- Object fields in their ranges have different keys. -/
theorem okey_ne {i s k i' s' k' : Nat} (hs : s < 256) (hk : k < 65536) (hs' : s' < 256) (hk' : k' < 65536)
    (h : (i, s, k) ≠ (i', s', k')) : okey i s k ≠ okey i' s' k' := by
  simp only [okey, ne_eq, Prod.mk.injEq, not_and] at *
  omega

@[simp] theorem domOf_setDom_same (idx sub inst : Nat) (v : List Byte) :
    (d.setDom idx sub inst v).domOf idx sub inst = v := by simp [setDom, domOf]

@[simp] theorem num_setDom (idx sub inst : Nat) (v : List Byte) (i s k : Nat) :
    (d.setDom idx sub inst v).num i s k = d.num i s k := by unfold num setDom; rfl

@[simp] theorem core_setCore_same (g : Nat) (c : CoreS) : (d.setCore g c).core g = c := by simp [setCore, core]

theorem core_setCore_ne {g h : Nat} (c : CoreS) (hg : g ≠ h) : (d.setCore g c).core h = d.core h := by
  simp [setCore, core, Map.get_set_ne _ _ _ hg]

@[simp] theorem core_modCore_same (g : Nat) (f : CoreS → CoreS) : (d.modCore g f).core g = f (d.core g) := by
  simp [modCore]

theorem core_modCore_ne {g h : Nat} (f : CoreS → CoreS) (hg : g ≠ h) : (d.modCore g f).core h = d.core h := by
  simp [modCore, core_setCore_ne _ _ hg]

@[simp] theorem thread_setThread_same (g t : Nat) (x : Thread) : (d.setThread g t x).thread g t = x := by
  simp [setThread, thread, CoreS.thread, CoreS.setThread]

theorem thread_setThread_ne {g t h u : Nat} (x : Thread) (hn : (g, t) ≠ (h, u)) :
    (d.setThread g t x).thread h u = d.thread h u := by
  by_cases hg : g = h
  · subst hg
    have hu : t ≠ u := fun e => hn (by rw [e])
    simp [setThread, thread, CoreS.thread, CoreS.setThread, Map.get_set_ne _ _ _ hu]
  · simp [setThread, thread, core_modCore_ne _ _ hg]

@[simp] theorem clu_setClu_same (k : Nat) (c : ClusS) : (d.setClu k c).clu k = c := by simp [setClu, clu]

theorem clu_setClu_ne {k j : Nat} (c : ClusS) (h : k ≠ j) : (d.setClu k c).clu j = d.clu j := by
  simp [setClu, clu, Map.get_set_ne _ _ _ h]

@[simp] theorem clu_modClu_same (k : Nat) (f : ClusS → ClusS) : (d.modClu k f).clu k = f (d.clu k) := by simp [modClu]

theorem clu_modClu_ne {k j : Nat} (f : ClusS → ClusS) (h : k ≠ j) : (d.modClu k f).clu j = d.clu j := by
  simp [modClu, clu_setClu_ne _ _ h]

@[simp] theorem sq_setSq_same (q : Nat) (x : SqS) : (d.setSq q x).sq q = x := by simp [setSq, sq]

theorem sq_setSq_ne {q p : Nat} (x : SqS) (h : q ≠ p) : (d.setSq q x).sq p = d.sq p := by
  simp [setSq, sq, Map.get_set_ne _ _ _ h]

@[simp] theorem moves_setMoves_same (e : Nat) (l : List MoveEnt) : (d.setMoves e l).moves e = l := by
  simp [setMoves, moves]

/-! ### Memory -/

theorem byteAt_put (a : Nat) (bs : List Byte) (x : Nat) :
    (d.put a bs).byteAt x = if a ≤ x ∧ x < a + bs.length then bs.getD (x - a) 0 else d.byteAt x := by
  have key : ∀ (bs : List Byte) (m : Map Byte) (a : Nat),
      Map.get 0 (memWrite m a bs) x = if a ≤ x ∧ x < a + bs.length then bs.getD (x - a) 0 else Map.get 0 m x := by
    intro bs
    induction bs with
    | nil => intro m a; simp [memWrite]
    | cons b bs ih =>
      intro m a
      simp only [memWrite, ih, Map.get_set]
      by_cases h1 : a = x
      · subst h1; simp
      · by_cases h2 : a + 1 ≤ x ∧ x < a + 1 + bs.length
        · have h3 : a ≤ x ∧ x < a + (b :: bs).length := by simp; omega
          have h4 : x - a = (x - (a + 1)) + 1 := by omega
          simp only [h2, h3, if_true, h4, List.getD_cons_succ, and_self]
        · have h3 : ¬ (a ≤ x ∧ x < a + (b :: bs).length) := by simp; omega
          simp only [h2, h3, if_false, h1]
  simpa [put, byteAt] using key bs d.mem a

@[simp] theorem byteAt_putW (a : Nat) (bs : List Byte) (x : Nat) : (d.putW a bs).byteAt x = (d.put a bs).byteAt x := rfl
@[simp] theorem byteAt_storeW (a n v x : Nat) : (d.storeW a n v).byteAt x = (d.store a n v).byteAt x := rfl

/-- Everything that a store does: its bytes, and the count of the TAIL words it meets (R135). -/
theorem storeW_eq (a n v : Nat) : d.storeW a n v =
    { d.store a n v with work := { d.work with tails := (d.storeW a n v).work.tails } } := rfl

/-- A write keeps the canonical form of memory. -/
theorem wf_memWrite (bs : List Byte) : ∀ (m : Map Byte) (a : Nat), Map.wf 0 m = true → Map.wf 0 (memWrite m a bs) = true := by
  induction bs with
  | nil => intro m a h; exact h
  | cons b bs ih => intro m a h; exact ih _ _ (Map.wf_set h a b)

theorem wf_put (h : Map.wf 0 d.mem = true) (a : Nat) (bs : List Byte) : Map.wf 0 (d.put a bs).mem = true :=
  wf_memWrite bs _ a h

theorem wf_putW (h : Map.wf 0 d.mem = true) (a : Nat) (bs : List Byte) : Map.wf 0 (d.putW a bs).mem = true :=
  wf_memWrite bs _ a h

theorem wf_keepMem (h : Map.wf 0 d.mem = true) (p : Nat → Bool) : Map.wf 0 (d.keepMem p).mem = true :=
  Map.wf_filter h _

end Sys2Proof.Machine.Device
end

