-- ==== Sys2Proof/Laws/Core.lean ====
section
/-! SUPPORT. What the shared operations of core instructions do: issue, the next instruction, a register write. -/

namespace Sys2Proof.Machine

namespace Device

theorem advance_of_ne (d : Device) (g t : Nat) (h : (d.thread g t).pc ≠ 8191) :
    d.advance g t = d.setThread g t { d.thread g t with pc := (d.thread g t).pc + 1 } := by
  unfold advance; exact if_neg h

/-- The device once thread `t` of core `g` issues: counted, the scheduler's pointer past it (R111). -/
theorem issue_of_picks (d : Device) (g t : Nat) (f : Device → Thread → Device) (h : d.picks g t = true) :
    d.issue g t f =
      f ((d.modCore g (fun c => { c with ptr := (t + 1) % 1024 })).addNum 0x7020 2 (g + 1) 1) (d.thread g t) := by
  simp [issue, h]

theorem issue_of_not_picks (d : Device) (g t : Nat) (f : Device → Thread → Device) (h : d.picks g t = false) :
    d.issue g t f = d := by
  simp [issue, h]

/-- The scheduler picks only a READY thread. -/
theorem ready_of_picks (d : Device) (g t : Nat) (h : d.picks g t = true) : (d.thread g t).st = .ready := by
  simp only [picks, Bool.and_eq_true, beq_iff_eq] at h
  exact h.1

@[simp] theorem thread_ptr (d : Device) (g p h t : Nat) :
    (d.modCore g (fun c => { c with ptr := p })).thread h t = d.thread h t := by
  by_cases e : g = h
  · subst e; simp [thread, CoreS.thread]
  · simp [thread, core_modCore_ne _ _ e]

end Device

@[simp] theorem Thread.setReg_pc (x : Thread) (r : Reg) (v : W64) : (x.setReg r v).pc = x.pc := by
  unfold Thread.setReg; split <;> rfl
@[simp] theorem Thread.setReg_st (x : Thread) (r : Reg) (v : W64) : (x.setReg r v).st = x.st := by
  unfold Thread.setReg; split <;> rfl
@[simp] theorem Thread.setReg_group (x : Thread) (r : Reg) (v : W64) : (x.setReg r v).group = x.group := by
  unfold Thread.setReg; split <;> rfl
@[simp] theorem Thread.setReg_handle (x : Thread) (r : Reg) (v : W64) : (x.setReg r v).handle = x.handle := by
  unfold Thread.setReg; split <;> rfl

/-- Register 0 reads as 0 and discards writes (R109). -/
theorem Thread.reg_setReg (x : Thread) (rd r : Reg) (v : W64) :
    (x.setReg rd v).reg r = if r = rd ∧ rd.val ≠ 0 then v else x.reg r := by
  unfold Thread.setReg Thread.reg
  by_cases h0 : rd.val = 0
  · simp [h0]
  · by_cases hr : r.val = 0
    · have : r ≠ rd := fun e => h0 (by rw [← e]; exact hr)
      simp [h0, hr, this]
    · by_cases he : r = rd
      · subst he; simp [h0]
      · have : rd.val ≠ r.val := fun e => he (Fin.ext e.symm)
        simp [h0, hr, he, Map.get_set_ne _ _ _ this]

/-- An instruction issues: it is counted and the pointer moves past its thread. -/
theorem ThreadOnly.issued (d : Device) (g t : Nat) :
    ThreadOnly g t d ((d.modCore g (fun c => { c with ptr := (t + 1) % 1024 })).addNum 0x7020 2 (g + 1) 1) where
  rest := by ext1 <;> simp [Device.modCore, Device.setCore]
  mem a := by simp [Device.modCore, Device.setCore, Device.byteAt]
  cores h hg := by simp [Device.core_modCore_ne _ _ (Ne.symm hg)]
  core := by simp
  pointer := by simp
  threads u _ := by simp
  dict := by ext1 <;> simp [Device.modCore, Device.setCore]
  objects v k hk := by
    have : okey (homeIdx 0x7020) 2 (g + 1) ≠ k := fun e => hk (by rw [← e]; rfl)
    simp [Device.key_addNum _ _ _ _ _ _ this, Device.modCore, Device.setCore]

/-- One more write of the thread. -/
theorem ThreadOnly.setThread {d d' : Device} {g t : Nat} (h : ThreadOnly g t d d') (x : Thread) :
    ThreadOnly g t d (d'.setThread g t x) where
  rest := by
    have := h.rest
    simp only [Device.ext_iff] at this ⊢
    simpa using this
  mem a := by simp [h.mem a]
  cores k hk := by
    rw [← h.cores k hk]
    simp [Device.setThread, Device.core_modCore_ne _ _ (Ne.symm hk)]
  core := by
    rw [← h.core]
    simp [Device.setThread, CoreS.setThread]
  pointer := by
    rw [← h.pointer]
    simp [Device.setThread, CoreS.setThread]
  threads u hu := by
    rw [← h.threads u hu]
    exact Device.thread_setThread_ne _ _ (by simpa using Ne.symm hu)
  dict := by
    have := h.dict
    simp only [DictS.ext_iff] at this ⊢
    simpa using this
  objects v k hk := by
    rw [← h.objects v k hk]
    simp

/-- What an instruction does that writes one register. -/
theorem completes_writeReg (c : Instr) (s : State) (g t : Nat) (rd : Reg) (v : W64) (hi : Issues s.dev g t)
    (he : exec c s = s.run (fun d => d.issue g t (fun d _ => d.writeReg g t rd v))) : WritesReg c s g t rd v := by
  refine ⟨_, he, rfl, ?_⟩
  simp only
  rw [Device.issue_of_picks _ _ _ _ hi.1]
  unfold Device.writeReg
  rw [Device.advance_of_ne _ _ _ (by simpa using hi.2)]
  refine ⟨((ThreadOnly.issued _ _ _).setThread _).setThread _, ?_, ?_, ?_⟩
  · simp [goesOn, Device.ready_of_picks _ _ _ hi.1]
  · simp
  · intro r
    simpa [Thread.reg] using Thread.reg_setReg _ _ _ _

end Sys2Proof.Machine
end

