-- ==== Sys2Proof/Laws/Events.lean ====
section
/-! SUPPORT. What raising an event does and what it leaves alone (R308, R566, R567). -/

namespace Sys2Proof.Machine

namespace Device

variable (d : Device)

/-- A fold of steps that each keep a value keeps it. -/
theorem foldl_same {α β γ : Type} (v : β → γ) (f : β → α → β) (h : ∀ x a, v (f x a) = v x) (l : List α) (x : β) :
    v (l.foldl f x) = v x := by
  induction l generalizing x with
  | nil => rfl
  | cons a l ih => simp [ih, h]

@[simp] theorem logRec_time (r : EvRec) : (d.logRec r).time = d.time := by simp [logRec, apply_ite Device.time]
@[simp] theorem logRec_mem (r : EvRec) : (d.logRec r).mem = d.mem := by simp [logRec, apply_ite Device.mem]
@[simp] theorem logRec_cores (r : EvRec) : (d.logRec r).cores = d.cores := by simp [logRec, apply_ite Device.cores]
@[simp] theorem logRec_clus (r : EvRec) : (d.logRec r).clus = d.clus := by simp [logRec, apply_ite Device.clus]
@[simp] theorem logRec_movq (r : EvRec) : (d.logRec r).movq = d.movq := by simp [logRec, apply_ite Device.movq]
@[simp] theorem logRec_seqs (r : EvRec) : (d.logRec r).seqs = d.seqs := by simp [logRec, apply_ite Device.seqs]
@[simp] theorem logRec_health (r : EvRec) : (d.logRec r).health = d.health := by simp [logRec, apply_ite Device.health]
@[simp] theorem logRec_cad (r : EvRec) : (d.logRec r).cad = d.cad := by simp [logRec, apply_ite Device.cad]
@[simp] theorem logRec_adm (r : EvRec) : (d.logRec r).adm = d.adm := by simp [logRec, apply_ite Device.adm]
@[simp] theorem logRec_mgmt (r : EvRec) : (d.logRec r).mgmt = d.mgmt := by simp [logRec, apply_ite Device.mgmt]
@[simp] theorem logRec_alert (r : EvRec) : (d.logRec r).alert = d.alert := by simp [logRec, apply_ite Device.alert]
@[simp] theorem logRec_out (r : EvRec) : (d.logRec r).out = d.out := by simp [logRec, apply_ite Device.out]
@[simp] theorem logRec_hv (r : EvRec) : (d.logRec r).hv = d.hv := by simp [logRec, apply_ite Device.hv]
@[simp] theorem logRec_link (r : EvRec) : (d.logRec r).link = d.link := by simp [logRec, apply_ite Device.link]
@[simp] theorem logRec_pwr (r : EvRec) : (d.logRec r).pwr = d.pwr := by simp [logRec, apply_ite Device.pwr]
@[simp] theorem logRec_age (r : EvRec) : (d.logRec r).age = d.age := by simp [logRec, apply_ite Device.age]
@[simp] theorem logRec_bg (r : EvRec) : (d.logRec r).bg = d.bg := by simp [logRec, apply_ite Device.bg]
@[simp] theorem logRec_flash (r : EvRec) : (d.logRec r).flash = d.flash := by simp [logRec, apply_ite Device.flash]
@[simp] theorem logRec_thaw (r : EvRec) : (d.logRec r).thaw = d.thaw := by simp [logRec, apply_ite Device.thaw]
@[simp] theorem logRec_att (r : EvRec) : (d.logRec r).att = d.att := by simp [logRec, apply_ite Device.att]
@[simp] theorem logRec_isl (r : EvRec) : (d.logRec r).isl = d.isl := by simp [logRec, apply_ite Device.isl]
@[simp] theorem logRec_work (r : EvRec) : (d.logRec r).work = d.work := by simp [logRec, apply_ite Device.work]
@[simp] theorem logRec_met (r : EvRec) : (d.logRec r).met = d.met := by simp [logRec, apply_ite Device.met]
@[simp] theorem logRec_recal (r : EvRec) : (d.logRec r).recal = d.recal := by simp [logRec, apply_ite Device.recal]

@[simp] theorem raiseRaw_time (c ua ui a b : Nat) : (d.raiseRaw c ua ui a b).time = d.time := by simp [raiseRaw, noteFatal, apply_ite Device.time]
@[simp] theorem raiseRaw_mem (c ua ui a b : Nat) : (d.raiseRaw c ua ui a b).mem = d.mem := by simp [raiseRaw, noteFatal, apply_ite Device.mem]
@[simp] theorem raiseRaw_cores (c ua ui a b : Nat) : (d.raiseRaw c ua ui a b).cores = d.cores := by simp [raiseRaw, noteFatal, apply_ite Device.cores]
@[simp] theorem raiseRaw_clus (c ua ui a b : Nat) : (d.raiseRaw c ua ui a b).clus = d.clus := by simp [raiseRaw, noteFatal, apply_ite Device.clus]
@[simp] theorem raiseRaw_movq (c ua ui a b : Nat) : (d.raiseRaw c ua ui a b).movq = d.movq := by simp [raiseRaw, noteFatal, apply_ite Device.movq]
@[simp] theorem raiseRaw_seqs (c ua ui a b : Nat) : (d.raiseRaw c ua ui a b).seqs = d.seqs := by simp [raiseRaw, noteFatal, apply_ite Device.seqs]
@[simp] theorem raiseRaw_health (c ua ui a b : Nat) : (d.raiseRaw c ua ui a b).health = d.health := by simp [raiseRaw, noteFatal, apply_ite Device.health]
@[simp] theorem raiseRaw_cad (c ua ui a b : Nat) : (d.raiseRaw c ua ui a b).cad = d.cad := by simp [raiseRaw, noteFatal, apply_ite Device.cad]
@[simp] theorem raiseRaw_adm (c ua ui a b : Nat) : (d.raiseRaw c ua ui a b).adm = d.adm := by simp [raiseRaw, noteFatal, apply_ite Device.adm]
@[simp] theorem raiseRaw_mgmt (c ua ui a b : Nat) : (d.raiseRaw c ua ui a b).mgmt = d.mgmt := by simp [raiseRaw, noteFatal, apply_ite Device.mgmt]
@[simp] theorem raiseRaw_out (c ua ui a b : Nat) : (d.raiseRaw c ua ui a b).out = d.out := by simp [raiseRaw, noteFatal, apply_ite Device.out]
@[simp] theorem raiseRaw_hv (c ua ui a b : Nat) : (d.raiseRaw c ua ui a b).hv = d.hv := by simp [raiseRaw, noteFatal, apply_ite Device.hv]
@[simp] theorem raiseRaw_link (c ua ui a b : Nat) : (d.raiseRaw c ua ui a b).link = d.link := by simp [raiseRaw, noteFatal, apply_ite Device.link]
@[simp] theorem raiseRaw_pwr (c ua ui a b : Nat) : (d.raiseRaw c ua ui a b).pwr = d.pwr := by simp [raiseRaw, noteFatal, apply_ite Device.pwr]
@[simp] theorem raiseRaw_age (c ua ui a b : Nat) : (d.raiseRaw c ua ui a b).age = d.age := by simp [raiseRaw, noteFatal, apply_ite Device.age]
@[simp] theorem raiseRaw_bg (c ua ui a b : Nat) : (d.raiseRaw c ua ui a b).bg = d.bg := by simp [raiseRaw, noteFatal, apply_ite Device.bg]
@[simp] theorem raiseRaw_flash (c ua ui a b : Nat) : (d.raiseRaw c ua ui a b).flash = d.flash := by simp [raiseRaw, noteFatal, apply_ite Device.flash]
@[simp] theorem raiseRaw_thaw (c ua ui a b : Nat) : (d.raiseRaw c ua ui a b).thaw = d.thaw := by simp [raiseRaw, noteFatal, apply_ite Device.thaw]
@[simp] theorem raiseRaw_att (c ua ui a b : Nat) : (d.raiseRaw c ua ui a b).att = d.att := by simp [raiseRaw, noteFatal, apply_ite Device.att]
@[simp] theorem raiseRaw_isl (c ua ui a b : Nat) : (d.raiseRaw c ua ui a b).isl = d.isl := by simp [raiseRaw, noteFatal, apply_ite Device.isl]
@[simp] theorem raiseRaw_work (c ua ui a b : Nat) : (d.raiseRaw c ua ui a b).work = d.work := by simp [raiseRaw, noteFatal, apply_ite Device.work]
@[simp] theorem raiseRaw_met (c ua ui a b : Nat) : (d.raiseRaw c ua ui a b).met = d.met := by simp [raiseRaw, noteFatal, apply_ite Device.met]
@[simp] theorem raiseRaw_recal (c ua ui a b : Nat) : (d.raiseRaw c ua ui a b).recal = d.recal := by simp [raiseRaw, noteFatal, apply_ite Device.recal]

@[simp] theorem countEvent_time (c ui : Nat) : (d.countEvent c ui).time = d.time := by unfold countEvent; exact foldl_same (fun d : Device => d.time) _ (by intros; simp) _ d
@[simp] theorem countEvent_mem (c ui : Nat) : (d.countEvent c ui).mem = d.mem := by unfold countEvent; exact foldl_same (fun d : Device => d.mem) _ (by intros; simp) _ d
@[simp] theorem countEvent_evt (c ui : Nat) : (d.countEvent c ui).evt = d.evt := by unfold countEvent; exact foldl_same (fun d : Device => d.evt) _ (by intros; simp) _ d
@[simp] theorem countEvent_cores (c ui : Nat) : (d.countEvent c ui).cores = d.cores := by unfold countEvent; exact foldl_same (fun d : Device => d.cores) _ (by intros; simp) _ d
@[simp] theorem countEvent_clus (c ui : Nat) : (d.countEvent c ui).clus = d.clus := by unfold countEvent; exact foldl_same (fun d : Device => d.clus) _ (by intros; simp) _ d
@[simp] theorem countEvent_movq (c ui : Nat) : (d.countEvent c ui).movq = d.movq := by unfold countEvent; exact foldl_same (fun d : Device => d.movq) _ (by intros; simp) _ d
@[simp] theorem countEvent_seqs (c ui : Nat) : (d.countEvent c ui).seqs = d.seqs := by unfold countEvent; exact foldl_same (fun d : Device => d.seqs) _ (by intros; simp) _ d
@[simp] theorem countEvent_health (c ui : Nat) : (d.countEvent c ui).health = d.health := by unfold countEvent; exact foldl_same (fun d : Device => d.health) _ (by intros; simp) _ d
@[simp] theorem countEvent_cad (c ui : Nat) : (d.countEvent c ui).cad = d.cad := by unfold countEvent; exact foldl_same (fun d : Device => d.cad) _ (by intros; simp) _ d
@[simp] theorem countEvent_adm (c ui : Nat) : (d.countEvent c ui).adm = d.adm := by unfold countEvent; exact foldl_same (fun d : Device => d.adm) _ (by intros; simp) _ d
@[simp] theorem countEvent_mgmt (c ui : Nat) : (d.countEvent c ui).mgmt = d.mgmt := by unfold countEvent; exact foldl_same (fun d : Device => d.mgmt) _ (by intros; simp) _ d
@[simp] theorem countEvent_alert (c ui : Nat) : (d.countEvent c ui).alert = d.alert := by unfold countEvent; exact foldl_same (fun d : Device => d.alert) _ (by intros; simp) _ d
@[simp] theorem countEvent_out (c ui : Nat) : (d.countEvent c ui).out = d.out := by unfold countEvent; exact foldl_same (fun d : Device => d.out) _ (by intros; simp) _ d
@[simp] theorem countEvent_hv (c ui : Nat) : (d.countEvent c ui).hv = d.hv := by unfold countEvent; exact foldl_same (fun d : Device => d.hv) _ (by intros; simp) _ d
@[simp] theorem countEvent_link (c ui : Nat) : (d.countEvent c ui).link = d.link := by unfold countEvent; exact foldl_same (fun d : Device => d.link) _ (by intros; simp) _ d
@[simp] theorem countEvent_pwr (c ui : Nat) : (d.countEvent c ui).pwr = d.pwr := by unfold countEvent; exact foldl_same (fun d : Device => d.pwr) _ (by intros; simp) _ d
@[simp] theorem countEvent_age (c ui : Nat) : (d.countEvent c ui).age = d.age := by unfold countEvent; exact foldl_same (fun d : Device => d.age) _ (by intros; simp) _ d
@[simp] theorem countEvent_bg (c ui : Nat) : (d.countEvent c ui).bg = d.bg := by unfold countEvent; exact foldl_same (fun d : Device => d.bg) _ (by intros; simp) _ d
@[simp] theorem countEvent_flash (c ui : Nat) : (d.countEvent c ui).flash = d.flash := by unfold countEvent; exact foldl_same (fun d : Device => d.flash) _ (by intros; simp) _ d
@[simp] theorem countEvent_thaw (c ui : Nat) : (d.countEvent c ui).thaw = d.thaw := by unfold countEvent; exact foldl_same (fun d : Device => d.thaw) _ (by intros; simp) _ d
@[simp] theorem countEvent_att (c ui : Nat) : (d.countEvent c ui).att = d.att := by unfold countEvent; exact foldl_same (fun d : Device => d.att) _ (by intros; simp) _ d
@[simp] theorem countEvent_isl (c ui : Nat) : (d.countEvent c ui).isl = d.isl := by unfold countEvent; exact foldl_same (fun d : Device => d.isl) _ (by intros; simp) _ d
@[simp] theorem countEvent_work (c ui : Nat) : (d.countEvent c ui).work = d.work := by unfold countEvent; exact foldl_same (fun d : Device => d.work) _ (by intros; simp) _ d
@[simp] theorem countEvent_met (c ui : Nat) : (d.countEvent c ui).met = d.met := by unfold countEvent; exact foldl_same (fun d : Device => d.met) _ (by intros; simp) _ d
@[simp] theorem countEvent_recal (c ui : Nat) : (d.countEvent c ui).recal = d.recal := by unfold countEvent; exact foldl_same (fun d : Device => d.recal) _ (by intros; simp) _ d

@[simp] theorem taint_time (c : Nat) : (d.taint c).time = d.time := by simp [taint, apply_ite Device.time]
@[simp] theorem taint_mem (c : Nat) : (d.taint c).mem = d.mem := by simp [taint, apply_ite Device.mem]
@[simp] theorem taint_cores (c : Nat) : (d.taint c).cores = d.cores := by simp [taint, apply_ite Device.cores]
@[simp] theorem taint_clus (c : Nat) : (d.taint c).clus = d.clus := by simp [taint, apply_ite Device.clus]
@[simp] theorem taint_movq (c : Nat) : (d.taint c).movq = d.movq := by simp [taint, apply_ite Device.movq]
@[simp] theorem taint_seqs (c : Nat) : (d.taint c).seqs = d.seqs := by simp [taint, apply_ite Device.seqs]
@[simp] theorem taint_cad (c : Nat) : (d.taint c).cad = d.cad := by simp [taint, apply_ite Device.cad]
@[simp] theorem taint_adm (c : Nat) : (d.taint c).adm = d.adm := by simp [taint, apply_ite Device.adm]
@[simp] theorem taint_mgmt (c : Nat) : (d.taint c).mgmt = d.mgmt := by simp [taint, apply_ite Device.mgmt]
@[simp] theorem taint_hv (c : Nat) : (d.taint c).hv = d.hv := by simp [taint, apply_ite Device.hv]
@[simp] theorem taint_link (c : Nat) : (d.taint c).link = d.link := by simp [taint, apply_ite Device.link]
@[simp] theorem taint_pwr (c : Nat) : (d.taint c).pwr = d.pwr := by simp [taint, apply_ite Device.pwr]
@[simp] theorem taint_age (c : Nat) : (d.taint c).age = d.age := by simp [taint, apply_ite Device.age]
@[simp] theorem taint_bg (c : Nat) : (d.taint c).bg = d.bg := by simp [taint, apply_ite Device.bg]
@[simp] theorem taint_flash (c : Nat) : (d.taint c).flash = d.flash := by simp [taint, apply_ite Device.flash]
@[simp] theorem taint_thaw (c : Nat) : (d.taint c).thaw = d.thaw := by simp [taint, apply_ite Device.thaw]
@[simp] theorem taint_att (c : Nat) : (d.taint c).att = d.att := by simp [taint, apply_ite Device.att]
@[simp] theorem taint_isl (c : Nat) : (d.taint c).isl = d.isl := by simp [taint, apply_ite Device.isl]
@[simp] theorem taint_work (c : Nat) : (d.taint c).work = d.work := by simp [taint, apply_ite Device.work]
@[simp] theorem taint_met (c : Nat) : (d.taint c).met = d.met := by simp [taint, apply_ite Device.met]
@[simp] theorem taint_recal (c : Nat) : (d.taint c).recal = d.recal := by simp [taint, apply_ite Device.recal]

@[simp] theorem raise_time (c ua ui a b : Nat) : (d.raise c ua ui a b).time = d.time := by simp [raise, apply_ite Device.time]
@[simp] theorem raise_mem (c ua ui a b : Nat) : (d.raise c ua ui a b).mem = d.mem := by simp [raise, apply_ite Device.mem]
@[simp] theorem raise_cores (c ua ui a b : Nat) : (d.raise c ua ui a b).cores = d.cores := by simp [raise, apply_ite Device.cores]
@[simp] theorem raise_clus (c ua ui a b : Nat) : (d.raise c ua ui a b).clus = d.clus := by simp [raise, apply_ite Device.clus]
@[simp] theorem raise_movq (c ua ui a b : Nat) : (d.raise c ua ui a b).movq = d.movq := by simp [raise, apply_ite Device.movq]
@[simp] theorem raise_seqs (c ua ui a b : Nat) : (d.raise c ua ui a b).seqs = d.seqs := by simp [raise, apply_ite Device.seqs]
@[simp] theorem raise_cad (c ua ui a b : Nat) : (d.raise c ua ui a b).cad = d.cad := by simp [raise, apply_ite Device.cad]
@[simp] theorem raise_adm (c ua ui a b : Nat) : (d.raise c ua ui a b).adm = d.adm := by simp [raise, apply_ite Device.adm]
@[simp] theorem raise_mgmt (c ua ui a b : Nat) : (d.raise c ua ui a b).mgmt = d.mgmt := by simp [raise, apply_ite Device.mgmt]
@[simp] theorem raise_hv (c ua ui a b : Nat) : (d.raise c ua ui a b).hv = d.hv := by simp [raise, apply_ite Device.hv]
@[simp] theorem raise_link (c ua ui a b : Nat) : (d.raise c ua ui a b).link = d.link := by simp [raise, apply_ite Device.link]
@[simp] theorem raise_pwr (c ua ui a b : Nat) : (d.raise c ua ui a b).pwr = d.pwr := by simp [raise, apply_ite Device.pwr]
@[simp] theorem raise_age (c ua ui a b : Nat) : (d.raise c ua ui a b).age = d.age := by simp [raise, apply_ite Device.age]
@[simp] theorem raise_bg (c ua ui a b : Nat) : (d.raise c ua ui a b).bg = d.bg := by simp [raise, apply_ite Device.bg]
@[simp] theorem raise_flash (c ua ui a b : Nat) : (d.raise c ua ui a b).flash = d.flash := by simp [raise, apply_ite Device.flash]
@[simp] theorem raise_thaw (c ua ui a b : Nat) : (d.raise c ua ui a b).thaw = d.thaw := by simp [raise, apply_ite Device.thaw]
@[simp] theorem raise_att (c ua ui a b : Nat) : (d.raise c ua ui a b).att = d.att := by simp [raise, apply_ite Device.att]
@[simp] theorem raise_isl (c ua ui a b : Nat) : (d.raise c ua ui a b).isl = d.isl := by simp [raise, apply_ite Device.isl]
@[simp] theorem raise_work (c ua ui a b : Nat) : (d.raise c ua ui a b).work = d.work := by simp [raise, apply_ite Device.work]
@[simp] theorem raise_met (c ua ui a b : Nat) : (d.raise c ua ui a b).met = d.met := by simp [raise, apply_ite Device.met]
@[simp] theorem raise_recal (c ua ui a b : Nat) : (d.raise c ua ui a b).recal = d.recal := by simp [raise, apply_ite Device.recal]

@[simp] theorem raiseOnce_time (c k ua ui a b : Nat) : (d.raiseOnce c k ua ui a b).time = d.time := by simp [raiseOnce, apply_ite Device.time]
@[simp] theorem raiseOnce_mem (c k ua ui a b : Nat) : (d.raiseOnce c k ua ui a b).mem = d.mem := by simp [raiseOnce, apply_ite Device.mem]
@[simp] theorem raiseOnce_cores (c k ua ui a b : Nat) : (d.raiseOnce c k ua ui a b).cores = d.cores := by simp [raiseOnce, apply_ite Device.cores]
@[simp] theorem raiseOnce_clus (c k ua ui a b : Nat) : (d.raiseOnce c k ua ui a b).clus = d.clus := by simp [raiseOnce, apply_ite Device.clus]
@[simp] theorem raiseOnce_movq (c k ua ui a b : Nat) : (d.raiseOnce c k ua ui a b).movq = d.movq := by simp [raiseOnce, apply_ite Device.movq]
@[simp] theorem raiseOnce_seqs (c k ua ui a b : Nat) : (d.raiseOnce c k ua ui a b).seqs = d.seqs := by simp [raiseOnce, apply_ite Device.seqs]
@[simp] theorem raiseOnce_cad (c k ua ui a b : Nat) : (d.raiseOnce c k ua ui a b).cad = d.cad := by simp [raiseOnce, apply_ite Device.cad]
@[simp] theorem raiseOnce_adm (c k ua ui a b : Nat) : (d.raiseOnce c k ua ui a b).adm = d.adm := by simp [raiseOnce, apply_ite Device.adm]
@[simp] theorem raiseOnce_mgmt (c k ua ui a b : Nat) : (d.raiseOnce c k ua ui a b).mgmt = d.mgmt := by simp [raiseOnce, apply_ite Device.mgmt]
@[simp] theorem raiseOnce_hv (c k ua ui a b : Nat) : (d.raiseOnce c k ua ui a b).hv = d.hv := by simp [raiseOnce, apply_ite Device.hv]
@[simp] theorem raiseOnce_link (c k ua ui a b : Nat) : (d.raiseOnce c k ua ui a b).link = d.link := by simp [raiseOnce, apply_ite Device.link]
@[simp] theorem raiseOnce_pwr (c k ua ui a b : Nat) : (d.raiseOnce c k ua ui a b).pwr = d.pwr := by simp [raiseOnce, apply_ite Device.pwr]
@[simp] theorem raiseOnce_age (c k ua ui a b : Nat) : (d.raiseOnce c k ua ui a b).age = d.age := by simp [raiseOnce, apply_ite Device.age]
@[simp] theorem raiseOnce_bg (c k ua ui a b : Nat) : (d.raiseOnce c k ua ui a b).bg = d.bg := by simp [raiseOnce, apply_ite Device.bg]
@[simp] theorem raiseOnce_flash (c k ua ui a b : Nat) : (d.raiseOnce c k ua ui a b).flash = d.flash := by simp [raiseOnce, apply_ite Device.flash]
@[simp] theorem raiseOnce_thaw (c k ua ui a b : Nat) : (d.raiseOnce c k ua ui a b).thaw = d.thaw := by simp [raiseOnce, apply_ite Device.thaw]
@[simp] theorem raiseOnce_att (c k ua ui a b : Nat) : (d.raiseOnce c k ua ui a b).att = d.att := by simp [raiseOnce, apply_ite Device.att]
@[simp] theorem raiseOnce_isl (c k ua ui a b : Nat) : (d.raiseOnce c k ua ui a b).isl = d.isl := by simp [raiseOnce, apply_ite Device.isl]
@[simp] theorem raiseOnce_work (c k ua ui a b : Nat) : (d.raiseOnce c k ua ui a b).work = d.work := by simp [raiseOnce, apply_ite Device.work]
@[simp] theorem raiseOnce_met (c k ua ui a b : Nat) : (d.raiseOnce c k ua ui a b).met = d.met := by simp [raiseOnce, apply_ite Device.met]
@[simp] theorem raiseOnce_recal (c k ua ui a b : Nat) : (d.raiseOnce c k ua ui a b).recal = d.recal := by simp [raiseOnce, apply_ite Device.recal]

@[simp] theorem raiseEvery_time (n c k ua ui a b : Nat) : (d.raiseEvery n c k ua ui a b).time = d.time := by simp [raiseEvery, apply_ite Device.time]
@[simp] theorem raiseEvery_mem (n c k ua ui a b : Nat) : (d.raiseEvery n c k ua ui a b).mem = d.mem := by simp [raiseEvery, apply_ite Device.mem]
@[simp] theorem raiseEvery_cores (n c k ua ui a b : Nat) : (d.raiseEvery n c k ua ui a b).cores = d.cores := by simp [raiseEvery, apply_ite Device.cores]
@[simp] theorem raiseEvery_clus (n c k ua ui a b : Nat) : (d.raiseEvery n c k ua ui a b).clus = d.clus := by simp [raiseEvery, apply_ite Device.clus]
@[simp] theorem raiseEvery_movq (n c k ua ui a b : Nat) : (d.raiseEvery n c k ua ui a b).movq = d.movq := by simp [raiseEvery, apply_ite Device.movq]
@[simp] theorem raiseEvery_seqs (n c k ua ui a b : Nat) : (d.raiseEvery n c k ua ui a b).seqs = d.seqs := by simp [raiseEvery, apply_ite Device.seqs]
@[simp] theorem raiseEvery_cad (n c k ua ui a b : Nat) : (d.raiseEvery n c k ua ui a b).cad = d.cad := by simp [raiseEvery, apply_ite Device.cad]
@[simp] theorem raiseEvery_adm (n c k ua ui a b : Nat) : (d.raiseEvery n c k ua ui a b).adm = d.adm := by simp [raiseEvery, apply_ite Device.adm]
@[simp] theorem raiseEvery_mgmt (n c k ua ui a b : Nat) : (d.raiseEvery n c k ua ui a b).mgmt = d.mgmt := by simp [raiseEvery, apply_ite Device.mgmt]
@[simp] theorem raiseEvery_hv (n c k ua ui a b : Nat) : (d.raiseEvery n c k ua ui a b).hv = d.hv := by simp [raiseEvery, apply_ite Device.hv]
@[simp] theorem raiseEvery_link (n c k ua ui a b : Nat) : (d.raiseEvery n c k ua ui a b).link = d.link := by simp [raiseEvery, apply_ite Device.link]
@[simp] theorem raiseEvery_pwr (n c k ua ui a b : Nat) : (d.raiseEvery n c k ua ui a b).pwr = d.pwr := by simp [raiseEvery, apply_ite Device.pwr]
@[simp] theorem raiseEvery_age (n c k ua ui a b : Nat) : (d.raiseEvery n c k ua ui a b).age = d.age := by simp [raiseEvery, apply_ite Device.age]
@[simp] theorem raiseEvery_bg (n c k ua ui a b : Nat) : (d.raiseEvery n c k ua ui a b).bg = d.bg := by simp [raiseEvery, apply_ite Device.bg]
@[simp] theorem raiseEvery_flash (n c k ua ui a b : Nat) : (d.raiseEvery n c k ua ui a b).flash = d.flash := by simp [raiseEvery, apply_ite Device.flash]
@[simp] theorem raiseEvery_thaw (n c k ua ui a b : Nat) : (d.raiseEvery n c k ua ui a b).thaw = d.thaw := by simp [raiseEvery, apply_ite Device.thaw]
@[simp] theorem raiseEvery_att (n c k ua ui a b : Nat) : (d.raiseEvery n c k ua ui a b).att = d.att := by simp [raiseEvery, apply_ite Device.att]
@[simp] theorem raiseEvery_isl (n c k ua ui a b : Nat) : (d.raiseEvery n c k ua ui a b).isl = d.isl := by simp [raiseEvery, apply_ite Device.isl]
@[simp] theorem raiseEvery_work (n c k ua ui a b : Nat) : (d.raiseEvery n c k ua ui a b).work = d.work := by simp [raiseEvery, apply_ite Device.work]
@[simp] theorem raiseEvery_met (n c k ua ui a b : Nat) : (d.raiseEvery n c k ua ui a b).met = d.met := by simp [raiseEvery, apply_ite Device.met]
@[simp] theorem raiseEvery_recal (n c k ua ui a b : Nat) : (d.raiseEvery n c k ua ui a b).recal = d.recal := by simp [raiseEvery, apply_ite Device.recal]

@[simp] theorem reachNothing_time (ua ui a b : Nat) : (d.reachNothing ua ui a b).time = d.time := by simp [reachNothing, apply_ite Device.time]
@[simp] theorem reachNothing_mem (ua ui a b : Nat) : (d.reachNothing ua ui a b).mem = d.mem := by simp [reachNothing, apply_ite Device.mem]
@[simp] theorem reachNothing_cores (ua ui a b : Nat) : (d.reachNothing ua ui a b).cores = d.cores := by simp [reachNothing, apply_ite Device.cores]
@[simp] theorem reachNothing_clus (ua ui a b : Nat) : (d.reachNothing ua ui a b).clus = d.clus := by simp [reachNothing, apply_ite Device.clus]
@[simp] theorem reachNothing_movq (ua ui a b : Nat) : (d.reachNothing ua ui a b).movq = d.movq := by simp [reachNothing, apply_ite Device.movq]
@[simp] theorem reachNothing_seqs (ua ui a b : Nat) : (d.reachNothing ua ui a b).seqs = d.seqs := by simp [reachNothing, apply_ite Device.seqs]
@[simp] theorem reachNothing_cad (ua ui a b : Nat) : (d.reachNothing ua ui a b).cad = d.cad := by simp [reachNothing, apply_ite Device.cad]
@[simp] theorem reachNothing_adm (ua ui a b : Nat) : (d.reachNothing ua ui a b).adm = d.adm := by simp [reachNothing, apply_ite Device.adm]
@[simp] theorem reachNothing_mgmt (ua ui a b : Nat) : (d.reachNothing ua ui a b).mgmt = d.mgmt := by simp [reachNothing, apply_ite Device.mgmt]
@[simp] theorem reachNothing_hv (ua ui a b : Nat) : (d.reachNothing ua ui a b).hv = d.hv := by simp [reachNothing, apply_ite Device.hv]
@[simp] theorem reachNothing_link (ua ui a b : Nat) : (d.reachNothing ua ui a b).link = d.link := by simp [reachNothing, apply_ite Device.link]
@[simp] theorem reachNothing_pwr (ua ui a b : Nat) : (d.reachNothing ua ui a b).pwr = d.pwr := by simp [reachNothing, apply_ite Device.pwr]
@[simp] theorem reachNothing_age (ua ui a b : Nat) : (d.reachNothing ua ui a b).age = d.age := by simp [reachNothing, apply_ite Device.age]
@[simp] theorem reachNothing_bg (ua ui a b : Nat) : (d.reachNothing ua ui a b).bg = d.bg := by simp [reachNothing, apply_ite Device.bg]
@[simp] theorem reachNothing_flash (ua ui a b : Nat) : (d.reachNothing ua ui a b).flash = d.flash := by simp [reachNothing, apply_ite Device.flash]
@[simp] theorem reachNothing_thaw (ua ui a b : Nat) : (d.reachNothing ua ui a b).thaw = d.thaw := by simp [reachNothing, apply_ite Device.thaw]
@[simp] theorem reachNothing_att (ua ui a b : Nat) : (d.reachNothing ua ui a b).att = d.att := by simp [reachNothing, apply_ite Device.att]
@[simp] theorem reachNothing_isl (ua ui a b : Nat) : (d.reachNothing ua ui a b).isl = d.isl := by simp [reachNothing, apply_ite Device.isl]
@[simp] theorem reachNothing_work (ua ui a b : Nat) : (d.reachNothing ua ui a b).work = d.work := by simp [reachNothing, apply_ite Device.work]
@[simp] theorem reachNothing_met (ua ui a b : Nat) : (d.reachNothing ua ui a b).met = d.met := by simp [reachNothing, apply_ite Device.met]
@[simp] theorem reachNothing_recal (ua ui a b : Nat) : (d.reachNothing ua ui a b).recal = d.recal := by simp [reachNothing, apply_ite Device.recal]

/-! ### What is raised, and which objects stay -/

@[simp] theorem logRec_raised (r : EvRec) : (d.logRec r).evt.raised = d.evt.raised := by
  unfold logRec; simp only []; split <;> simp

@[simp] theorem setNum_raised (i s k v : Nat) : (d.setNum i s k v).evt.raised = d.evt.raised := by simp

@[simp] theorem raiseRaw_raised (c ua ui a b : Nat) :
    (d.raiseRaw c ua ui a b).evt.raised = Map.upd 0 d.evt.raised c (· + 1) := by
  simp [raiseRaw, noteFatal, apply_ite Device.evt, apply_ite EvtS.raised]

theorem taint_raised (x : Nat) {c : Nat} (h : c ≠ 0x2207) :
    Map.get 0 (d.taint x).evt.raised c = Map.get 0 d.evt.raised c := by
  simp only [taint]
  split <;> simp [Map.get_upd_ne _ _ _ h.symm]

theorem raise_raised {c : Nat} (ua ui a b : Nat) (h : c ≠ 0x2207) : Raised c d (d.raise c ua ui a b) := by
  unfold Raised raise
  simp only []
  split
  · rw [taint_raised _ _ h]; simp
  · simp

end Device

open Device

theorem KeepsObjects.refl (l : List (Nat × Nat × Nat)) (d : Device) : KeepsObjects l d d := fun _ _ _ => rfl

theorem KeepsObjects.trans {l : List (Nat × Nat × Nat)} {d e f : Device} (h : KeepsObjects l d e)
    (h' : KeepsObjects l e f) : KeepsObjects l d f := fun v k hk => (h' v k hk).trans (h v k hk)

theorem KeepsObjects.mono {l m : List (Nat × Nat × Nat)} {d e : Device} (h : KeepsObjects l d e) (hs : l ⊆ m) :
    KeepsObjects m d e := fun v k hk => h v k (fun hx => hk (List.map_subset _ hs hx))

variable (d : Device)

/-- One object is set. -/
theorem keeps_setNum (i s k v : Nat) : KeepsObjects [(i, s, k)] d (d.setNum i s k v) := fun w j hj =>
  key_setNum d i s k v w (by simpa [eq_comm] using hj)

theorem keeps_addNum (i s k v : Nat) : KeepsObjects [(i, s, k)] d (d.addNum i s k v) := fun w j hj =>
  key_addNum d i s k v w (by simpa [eq_comm] using hj)

/-- Only the values of scalar objects count. -/
theorem KeepsObjects.of_num {l : List (Nat × Nat × Nat)} {d e : Device} (h : e.dict.num = d.dict.num) :
    KeepsObjects l d e := fun v k _ => by rw [h]

/-- An object that the list does not name keeps its value. -/
theorem KeepsObjects.num {l : List (Nat × Nat × Nat)} {d e : Device} (h : KeepsObjects l d e) (i s k : Nat)
    (hk : okey (homeIdx i) s k ∉ l.map (fun o => okey (homeIdx o.1) o.2.1 o.2.2)) : e.num i s k = d.num i s k := by
  unfold Device.num; exact h _ _ hk

theorem keeps_logRec (r : EvRec) : KeepsObjects [(0x1E00, 2, 0), (0x1E00, 3, 0)] d (d.logRec r) := by
  intro v k hk
  have h2 : okey (homeIdx 0x1E00) 2 0 ≠ k := fun e => hk (by simp [e])
  have h3 : okey (homeIdx 0x1E00) 3 0 ≠ k := fun e => hk (by simp [e])
  unfold logRec
  simp only []
  split <;> simp [key_addNum _ _ _ _ _ _ h2, key_addNum _ _ _ _ _ _ h3]

theorem keeps_countEvent (c ui : Nat) :
    KeepsObjects ((evRow c).ctr.map (fun c => (c.1, c.2, if objInsts c.1 = 0 then 0 else ui))) d (d.countEvent c ui) := by
  unfold countEvent
  generalize (evRow c).ctr = l
  induction l generalizing d with
  | nil => exact KeepsObjects.refl _ _
  | cons x l ih =>
    refine KeepsObjects.trans ((keeps_addNum d x.1 x.2 (if objInsts x.1 = 0 then 0 else ui) 1).mono (by simp)) ?_
    exact (ih _).mono (by simp)

theorem evRow_sev_le (c : Nat) : (evRow c).sev ≤ 3 := by
  unfold evRow
  split
  · simp
  · split
    · rename_i r h
      have hm := List.mem_of_find?_eq_some h
      have : ∀ r ∈ evRows, r.sev ≤ 3 := by decide +kernel
      exact this r hm
    · simp

/-- The objects of an event apart from its own counters and its taint. -/
def rawObjs (c : Nat) : List (Nat × Nat × Nat) :=
  [(0x1100, 1, 0), (0x1100, 4, 0), (0x1E00, 2, 0), (0x1E00, 3, 0),
   (0x1E00, 4, 0), (0x1E00, 5, 0), (0x1E00, 6, 0), (0x1E00, 7, 0), (0x1E01, c / 4096, 0)]

theorem keeps_raiseRaw (c ua ui a b : Nat) : KeepsObjects (rawObjs c) d (d.raiseRaw c ua ui a b) := by
  have hs := evRow_sev_le c
  have hm : (0x1E00, 4 + (evRow c).sev, 0) ∈ rawObjs c := by
    have : (evRow c).sev = 0 ∨ (evRow c).sev = 1 ∨ (evRow c).sev = 2 ∨ (evRow c).sev = 3 := by omega
    rcases this with h | h | h | h <;> simp [rawObjs, h]
  have key : ∀ (e f : Device), KeepsObjects (rawObjs c) e f → f.dict.num = e.dict.num ∨ True → True := by simp
  unfold raiseRaw
  simp only []
  have h1 : ∀ e : Device, e.dict = d.dict → KeepsObjects (rawObjs c) d
      ((e.addNum 0x1E00 (4 + (evRow c).sev) 0 1).addNum 0x1E01 (c / 4096) 0 1) := fun e he =>
    ((KeepsObjects.of_num (by rw [he])).trans ((keeps_addNum e _ _ _ _).mono (by simpa using hm))).trans
      ((keeps_addNum _ _ _ _ _).mono (by simp [rawObjs]))
  have h2 : ∀ (e : Device) (r : EvRec), KeepsObjects (rawObjs c) d e → KeepsObjects (rawObjs c) d (e.logRec r) :=
    fun e r he => he.trans ((keeps_logRec e r).mono (by simp [rawObjs]))
  have h3 : ∀ (e f : Device), KeepsObjects (rawObjs c) d e → f.dict = e.dict → KeepsObjects (rawObjs c) d f :=
    fun e f he hf => he.trans (KeepsObjects.of_num (by rw [hf]))
  have h4 : ∀ (e : Device) (s v : Nat), KeepsObjects (rawObjs c) d e → s = 1 ∨ s = 4 →
      KeepsObjects (rawObjs c) d (e.setNum 0x1100 s 0 v) := fun e s v he hs' =>
    he.trans ((keeps_setNum e _ _ _ _).mono (by rcases hs' with rfl | rfl <;> simp [rawObjs]))
  have h5 : ∀ e : Device, KeepsObjects (rawObjs c) d e → KeepsObjects (rawObjs c) d (e.noteFatal c) := by
    intro e he
    unfold noteFatal
    simp only []
    split <;> split
    · exact h4 _ _ _ he (by simp)
    · exact he
    · exact h4 _ _ _ (h4 _ _ _ he (by simp)) (by simp)
    · exact h4 _ _ _ he (by simp)
  repeat' split
  all_goals first
    | exact h1 _ rfl
    | exact h3 _ _ (h1 _ rfl) rfl
    | exact h2 _ _ (h1 _ rfl)
    | exact h3 _ _ (h2 _ _ (h1 _ rfl)) rfl
    | exact h5 _ (h1 _ rfl)
    | exact h5 _ (h3 _ _ (h1 _ rfl) rfl)
    | exact h5 _ (h2 _ _ (h1 _ rfl))
    | exact h5 _ (h3 _ _ (h2 _ _ (h1 _ rfl)) rfl)

/-- The objects of the taint record and of event 0x2207. -/
def taintObjs : List (Nat × Nat × Nat) :=
  [(0x1401, 1, 0), (0x1401, 2, 0), (0x1401, 3, 0)] ++
    (evRow 0x2207).ctr.map (fun c => (c.1, c.2, if objInsts c.1 = 0 then 0 else 0)) ++ rawObjs 0x2207

theorem keeps_taint (c : Nat) : KeepsObjects taintObjs d (d.taint c) := by
  unfold taint
  simp only []
  split
  · exact KeepsObjects.refl _ _
  · have h4 : ∀ (e : Device) (s v : Nat), s = 1 ∨ s = 2 ∨ s = 3 → KeepsObjects taintObjs e (e.setNum 0x1401 s 0 v) :=
      fun e s v hs => (keeps_setNum e _ _ _ _).mono (by rcases hs with rfl | rfl | rfl <;> simp [taintObjs])
    refine KeepsObjects.trans ?_ (KeepsObjects.of_num (d := Device.raiseRaw _ _ _ _ _ _) rfl)
    refine KeepsObjects.trans ?_ ((keeps_raiseRaw _ _ _ _ _ _).mono (List.subset_append_right _ _))
    refine KeepsObjects.trans ?_ ((keeps_countEvent _ _ _).mono
      (fun o ho => List.mem_append_left _ (List.mem_append_right _ ho)))
    refine KeepsObjects.trans ?_ (KeepsObjects.of_num (d := Device.setNum _ _ _ _ _) rfl)
    exact ((h4 d 1 1 (by simp)).trans (h4 _ 2 c (by simp))).trans (h4 _ 3 _ (by simp))

theorem evRow_2207 : evRow 0x2207 = ⟨0x2207, 0, false, [(0x1401, 4)]⟩ := by with_unfolding_all rfl

theorem taintObjs_sub (c ui : Nat) : taintObjs ⊆ eventObjs c ui := by
  intro o ho
  rcases List.mem_append.1 ho with ho | ho
  · rcases List.mem_append.1 ho with ho | ho
    · simp at ho
      rcases ho with rfl | rfl | rfl <;> simp [eventObjs]
    · rw [evRow_2207] at ho
      simp at ho
      subst ho
      refine List.mem_append_right _ (List.mem_map.2 ⟨(0x1401, 4), ?_, ?_⟩)
      · rw [evRow_2207]; simp
      · simp [show objInsts 0x1401 = 0 by decide +kernel]
  · simp [rawObjs] at ho
    rcases ho with rfl | rfl | rfl | rfl | rfl | rfl | rfl | rfl | rfl <;> simp [eventObjs]

theorem keeps_raise (c ua ui a b : Nat) : KeepsObjects (eventObjs c ui) d (d.raise c ua ui a b) := by
  have h1 : KeepsObjects (eventObjs c ui) d ((d.countEvent c ui).raiseRaw c ua ui a b) :=
    ((keeps_countEvent d c ui).mono (fun o ho => List.mem_append_right _ (by rw [List.map_append]; exact List.mem_append_left _ ho))).trans
      ((keeps_raiseRaw _ _ _ _ _ _).mono (by intro o ho; simp only [rawObjs, List.mem_append, List.mem_cons] at *; tauto))
  unfold raise
  simp only []
  split
  · exact h1.trans ((keeps_taint _ _).mono (taintObjs_sub _ _))
  · exact h1

theorem dict_countEvent (c ui : Nat) : (d.countEvent c ui).dict = { d.dict with num := (d.countEvent c ui).dict.num } := by
  have h1 := foldl_same (fun d : Device => d.dict.dom) (fun (d : Device) (x : Nat × Nat) => d.addNum x.1 x.2 (if objInsts x.1 = 0 then 0 else ui) 1)
    (by intros; simp) (evRow c).ctr d
  have h2 := foldl_same (fun d : Device => d.dict.force) (fun (d : Device) (x : Nat × Nat) => d.addNum x.1 x.2 (if objInsts x.1 = 0 then 0 else ui) 1)
    (by intros; simp) (evRow c).ctr d
  exact DictS.ext rfl h1 h2

/-- Everything that raising an event can do (R308, R566). -/
theorem raise_eventOnly (c ua ui a b : Nat) (h : c ≠ 0x2207) : EventOnly c ui d (d.raise c ua ui a b) where
  rest := by ext1 <;> simp
  dict := by
    have hc : ∀ (e : Device) x y, (e.countEvent x y).dict.dom = e.dict.dom ∧ (e.countEvent x y).dict.force = e.dict.force :=
      fun e x y => ⟨by rw [dict_countEvent], by rw [dict_countEvent]⟩
    have hl : ∀ (e : Device) r, (e.logRec r).dict.dom = e.dict.dom ∧ (e.logRec r).dict.force = e.dict.force := by
      intro e r; unfold logRec; simp only []; split <;> simp
    have hr : ∀ (e : Device) x ua ui a b, (e.raiseRaw x ua ui a b).dict.dom = e.dict.dom ∧
        (e.raiseRaw x ua ui a b).dict.force = e.dict.force := by
      intro e x ua ui a b
      simp [raiseRaw, noteFatal, apply_ite Device.dict, apply_ite DictS.dom, apply_ite DictS.force, hl]
    have ht : ∀ (e : Device) x, (e.taint x).dict.dom = e.dict.dom ∧ (e.taint x).dict.force = e.dict.force := by
      intro e x
      simp only [taint]
      split
      · simp
      · simp [Device.send, hr, hc]
    have : (d.raise c ua ui a b).dict.dom = d.dict.dom ∧ (d.raise c ua ui a b).dict.force = d.dict.force := by
      simp only [raise]
      split <;> simp [ht, hr, hc]
    exact DictS.ext rfl this.1 this.2
  objects := keeps_raise _ _ _ _ _ _
  raised := raise_raised _ _ _ _ _ h

end Sys2Proof.Machine
end

