-- ==== Sys2Proof/WellFormed.lean ====
section
/-! DEFINITION. Checks on commands that their types do not make: a DAP frame carries at most 1,400 bytes (R430), a READ at
most 170 items (R432), a DOMAIN segment at most 1,360 bytes (R435), a step plan image at most 256 MiB (R341). -/

namespace Sys2Proof

/-- R432: the bytes of a write item: 8 bytes and the value padded to a multiple of 4. -/
def WriteItem.size (w : WriteItem) : Nat := 8 + (w.data.length + 3) / 4 * 4

/-- The command could be sent by a peer that keeps the frame formats. -/
def Instr.wf : Instr → Bool
  | .read h items => h.count.toNat == items.length && decide (items.length ≤ 170)
  | .write h items =>
    h.count.toNat == items.length && decide (16 + (items.map WriteItem.size).sum ≤ 1400)
  | .dwrite _ _ _ _ _ _ data => decide (data.length ≤ 1360)
  | .hello _ _ _ name => decide (name.length ≤ 16)
  | .admPlan _ image => decide (image.length ≤ 2 ^ 28)
  | .fwImage _ data => decide (data.length ≤ 2 ^ 26)
  | .attNonce _ nonce => nonce.length == 32
  | .dapFragmentReceive _ _ _ n _ _ _ body => decide (n.toNat < 140) && decide (body.length ≤ 10)
  | .wr _ _ data => decide (data.length ≤ 4096)
  | .cpld _ _ data => decide (data.length ≤ 4096)
  | .workFrameReceive frame => frame.length == 96
  | _ => true

end Sys2Proof
end

