-- ==== Sys2Proof/Tests/Slice0.lean ====
section
/-! SUPPORT. Small tests: the checks of WellFormed, words of the manual's encodings, and for every statement a state that meets
its hypotheses, clause by clause, with a look at what the command then does. -/

open Sys2Proof.Machine

namespace Sys2Proof.Tests

set_option Elab.async false

/-! ### Helpers -/

/-- The device after one command. -/
def after (c : Instr) (d : Device) : Device := match exec c { dev := d } with
  | .next t => t.dev
  | _ => {}

/-- The state after one step. -/
def stepped (s : State) : Option State := match step s with
  | .next t => some t
  | _ => none

/-- The raises of a code. -/
def raises (d : Device) (code : Nat) : Nat := Map.get 0 d.evt.raised code

/-- Core 0 with thread 0 READY at pc 0 and these registers. -/
def th (regs : Map W64) : Device := ({} : Device).setThread 0 0 { st := .ready, regs := regs }

/-- What the newest message is. -/
def said (d : Device) : Option OutMsg := d.out.head?

/-- Micro-sequencer q running at 0 of an image of 256 words with these registers. -/
def sqRun (q : Nat) (regs : Map W32) (d : Device := {}) : Device :=
  (d.setDom 0x7040 1 (q + 1) (List.replicate 1024 0)).setSq q { st := .running, regs := regs }
/-! ### Well-formedness -/

def hdr0 : DapHdr := { link := .loc, ver := 1, flags := 0, fstatus := 0, seq := 1, session := 1, target := 0xFFFF, count := 0 }
def zeros (n : Nat) : List Byte := List.replicate n 0

/-- A term that each check of `Instr.wf` refuses, and one that it lets pass. -/
theorem test_wf_refuses :
    Instr.wf (.read hdr0 [⟨0, 0, 0⟩]) = false ∧ Instr.wf (.read { hdr0 with count := 1 } [⟨0, 0, 0⟩]) = true ∧
    Instr.wf (.read { hdr0 with count := 171 } (List.replicate 171 ⟨0, 0, 0⟩)) = false ∧
    Instr.wf (.write hdr0 [⟨⟨0, 0, 0⟩, 0, []⟩]) = false ∧ Instr.wf (.write { hdr0 with count := 1 } [⟨⟨0, 0, 0⟩, 0, zeros 1377⟩]) = false ∧
    Instr.wf (.write { hdr0 with count := 1 } [⟨⟨0, 0, 0⟩, 0, zeros 1372⟩]) = true ∧
    Instr.wf (.dwrite hdr0 ⟨0, 0, 0⟩ true true 0 0 (zeros 1361)) = false ∧
    Instr.wf (.hello hdr0 1 1 (zeros 17)) = false ∧
    Instr.wf (.attNonce 1 (zeros 31)) = false ∧ Instr.wf (.attNonce 1 (zeros 32)) = true ∧
    Instr.wf (.dapFragmentReceive 0 0 0 140 true false 0 []) = false ∧
    Instr.wf (.dapFragmentReceive 0 0 0 139 true false 0 (zeros 11)) = false ∧
    Instr.wf (.wr 0 { typ := 1 } (zeros 4097)) = false ∧ Instr.wf (.cpld 0 { typ := 3 } (zeros 4097)) = false ∧
    Instr.wf (.workFrameReceive (zeros 95)) = false ∧ Instr.wf (.workFrameReceive (zeros 96)) = true := by decide +kernel

theorem wf_refuses_long (b : List Byte) (h : 2 ^ 28 < b.length) : Instr.wf (.admPlan (.session 1) b) = false ∧
    Instr.wf (.fwImage (.session 1) b) = false := by
  simp [Instr.wf]; omega

/-! ### Words -/

/-- Words written out from the encodings of R113 to R126 and of R169 to R171. -/
theorem test_words :
    decodeCore 0 12 .clean [] 0x8280840140040D00 = .accumulate 0 12
      { eng := 5, mode := 0, fmtA := 1, fmtB := 1, widthA := 0, widthB := 0, run := 1, slot := 2, init := false, len := 4,
        table := 0, ra := 3, rb := 4 } ∧
    decodeCore 0 12 .clean [] 0x86A2015809000000 = .drain 0 12
      { eng := 5, slot := 2, fmtOut := 4, widthOut := 0, rmode := 0, sat := true, add := false, clear := true, ro := 6,
        rd := 0, cnt := 9 } [] ∧
    opDesc 0x01208010 = { frame := 16, start := 0, band := 1, trans := false, rel := true, fstep := 1 } ∧
    outDesc 0x01230528 = { frame := 40, sub := 5, pub := false, tsid := 0x123 } ∧
    decodeCore 0 12 .clean [] 0x401800000000002A = .movi 0 12 3 42 ∧
    decodeCore 0 12 .clean [] 0x0081A00000000007 = .beq 0 12 3 4 7 ∧
    decodeCore 0 12 .clean [] 0x61A0488D94000000 = .vfma 0 12
      { fx := 1, fy := 0, fz := 0, rmode := 0, sat := true, rx := 2, ry := 2, rz := 3, rw := 6, rn := 5 } [] ∧
    decodeSeq 5 [] 0x80080000 = .tmove 5 2 [] := by decide +kernel

theorem witness_words :
    encodeCore (.movi 0 12 3 42) = some 0x401800000000002A ∧ issuer (.movi 0 12 3 42) = some (0, 12) ∧
    encodeSeq (.tmove 5 2 []) = some 0x80080000 ∧ sequencer (.tmove 5 2 []) = some 5 := by decide +kernel

/-! ### The block -/

def pend1 : State := { pending := [.seqNop 0], dev := sqRun 0 [] }

theorem witness_block : ({} : Device).cad.stopped = true ∧ ({} : Device).cad.ahead = none ∧
    Map.wf 0 pend1.dev.mem = true ∧ (stepped pend1).map (fun t => (t.pending, (t.dev.sq 0).pc)) = some ([], 1) ∧
    (stepped {}).map (fun t => t.dev.time.nowNs) = some 1000 := by decide +kernel

/-! ### Core instructions -/

def d1 : Device := th [(1, 16), (2, 0xFFFFFFFFFFFFFFFF), (3, 3)]

theorem witness_scalar : Issues d1 0 0 ∧
    ((after (.add 0 0 4 1 2 5) d1).thread 0 0).reg 4 = 20 ∧ ((after (.sra 0 0 4 2 3 0) d1).thread 0 0).reg 4 = 0xFFFFFFFFFFFFFFFF ∧
    ((after (.shl 0 0 4 3 1 48) d1).thread 0 0).reg 4 = 3 ∧ ((after (.movhi 0 0 3 1) d1).thread 0 0).reg 3 = 0x100000003 ∧
    ((after (.movi 0 0 0 7) d1).thread 0 0).reg 0 = 0 ∧ ((after (.mul 0 0 4 3 1 0) d1).thread 0 0).reg 4 = 48 ∧
    ((after (.rdid 0 0 4) d1).thread 0 0).pc = 1 ∧
    ((after (.setstr 0 0 3) d1).thread 0 0).handle = 3 := by unfold Issues; decide +kernel

theorem witness_loads : Issues d1 0 0 ∧
    (let d := after (.stl 0 0 1 3 0xFFFF8) (th [(1, 0), (3, 0x0102030405060708)])
     d.load (Device.localAddr 0 0xFFFF8) 8 = 0x0102030405060708 ∧ (d.thread 0 0).pc = 1 ∧
     ((after (.ldl 0 0 4 1 0xFFFF8 .clean) (d.setThread 0 0 { d.thread 0 0 with pc := 0 })).thread 0 0).reg 4 = 0x0102030405060708) ∧
    (let d := after (.stc 0 0 1 3 0xFFFFF8) (th [(1, 0), (3, 0x0102030405060708)])
     d.load (Device.storeAddr 0 0xFFFFF8) 8 = 0x0102030405060708 ∧
     ((after (.ldc 0 0 4 1 0xFFFFF8 .clean) d).thread 0 0).reg 4 = 0x0102030405060708) ∧
    raises (after (.ldl 0 0 4 1 1 .clean) d1) 0x7022 = 1 ∧ raises (after (.stl 0 0 0 1 0x100000) d1) 0x7022 = 1 ∧
    raises (after (.stc 0 0 1 3 4) d1) 0x7022 = 1 ∧ raises (after (.stc 0 0 0 3 0x1000000) d1) 0x4008 = 1 ∧
    ((after (.ldc 0 0 2 0 0x1000000 .clean) d1).thread 0 0).reg 2 = 0 := by unfold Issues; decide +kernel

/-- A plan that places one tile at offset 0 of cluster store 0, with its header at offset 0x800000. -/
def facts0 : PlanFacts :=
  { shape := 0, members := [], gateClusters := [], hubCores := [], evalWork := false, ops := [],
    objects := [], numbers := [], programs := [], stores := [], carousels := [],
    placements := [⟨Device.storeAddr 0 0, Device.storeAddr 0 0x800000, 1, none, 15, 4096⟩], tensors := [], scaledCores := [],
    hvLocalA := Device.ddrBase, hvLocalB := Device.ddrBase + 0x100000, hvKeepA := Device.ddrBase + 0x200000,
    hvKeepB := Device.ddrBase + 0x300000, hvSize := 0, hvWardSize := 0, hvLean := false, hvRegs := [], hvLoads := [] }

def fullFrame (release : Bool) : Frame := { st := .full, release := release }

theorem witness_tile_moves :
    (let d := { th [(1, 0), (2, 239)] with adm := { facts := some facts0 } }
     Issues d 0 0 ∧ d.headerOf (Device.storeAddr 0 0) = some (Device.storeAddr 0 0x800000) ∧ (d.core 0).moveq.length < 16 ∧
     ((after (.tld 0 0 1 2 0x49) d).core 0).moveq.map (fun e => (e.dst, e.scnt, e.trans)) = [(Device.localAddr 0 0xEF000, 9, true)] ∧
     ((after (.tst 0 0 1 2 0x89) d).core 0).moveq.map (fun e => (e.srch, e.rel)) = [(Device.localAddr 0 0xF0EF0, true)]) ∧
    (let d := (th [(1, 239)]).setFrame 0 239 (fullFrame false)
     (d.frame 0 239).st = .full ∧ (d.frame 0 239).carousel = false ∧ ((after (.frel 0 0 1 0) d).frame 0 239) = {}) := by
  unfold Issues; decide +kernel

theorem witness_control : Issues d1 0 0 ∧ ((after (.beq 0 0 1 1 0x2007) d1).thread 0 0).pc = 7 ∧
    ((after (.blt 0 0 2 1 9) d1).thread 0 0).pc = 9 ∧ ((after (.bltu 0 0 2 1 9) d1).thread 0 0).pc = 1 ∧
    ((after (.loop 0 0 3 9) d1).thread 0 0).pc = 9 ∧ ((after (.loop 0 0 3 9) d1).thread 0 0).reg 3 = 2 ∧
    ((after (.loop 0 0 3 9) (th [(3, 1)])).thread 0 0).pc = 1 ∧ ((after (.loop 0 0 0 9) d1).thread 0 0).pc = 1 ∧
    ((after (.halt 0 0) d1).thread 0 0).st = .free := by unfold Issues; decide +kernel

theorem witness_sync : Issues d1 0 0 ∧ ((after (.wait 0 0 1 5) d1).thread 0 0).st = .waitSync 5 16 ∧
    ((after (.wait 0 0 2 5) d1).thread 0 0).pc = 1 ∧ ((after (.sig 0 0 0x20005) d1).core 0).counter 5 = 2 ∧
    ((after (.sig 0 0 0x20000) d1).core 0).counter 0 = 0 ∧ (d1.core 0).watch.length < 64 ∧
    ((after (.watch 0 0 1 0 []) d1).core 0).watch = [(0, 16)] ∧ ((after (.watch 0 0 1 3 []) d1).core 0).watch = [] ∧
    ((after (.waitph 0 0 1) d1).thread 0 0).st = .waitPhase 16 ∧ ((after (.waitph 0 0 2) d1).thread 0 0).pc = 1 := by
  unfold Issues; decide +kernel

theorem witness_atomics : Issues d1 0 0 ∧ 16 % 8 = 0 ∧ (0xFFFFFC : Nat) < 0x1000000 ∧
    (let d := after (.aadd 0 0 4 1 2 0 []) d1
     d.load (Device.storeAddr 0 16) 8 = 0xFFFFFFFF ∧ (d.thread 0 0).reg 4 = 0 ∧
     (after (.aadd 0 0 4 1 3 0 []) d).load (Device.storeAddr 0 16) 8 = 2 ∧
     (after (.acas 0 0 4 1 3 1 []) d).load (Device.storeAddr 0 16) 8 = 0xFFFFFFFF ∧
     (after (.amax 0 0 4 1 3 0 []) d).load (Device.storeAddr 0 16) 4 = 0xFFFFFFFF) ∧
    (after (.amax 0 0 4 1 3 0 []) (th [(1, 0xFFFFFC), (3, 3)])).load (Device.storeAddr 0 0xFFFFFC) 4 = 3 := by
  unfold Issues; decide +kernel

theorem witness_reserved : (d1.thread 0 0).st = .ready ∧ ((after (.reservedInstruction 0 0) d1).thread 0 0).st = .faulted ∧
    raises (after (.reservedInstruction 0 0) d1) 0x7020 = 1 ∧ issuer (.movi 0 1 0 0) = some (0, 1) ∧ (d1.thread 0 1).st ≠ .ready ∧
    after (.movi 0 1 1 9) d1 = d1 ∧ issuer (.movi 0 0 1 9) = some (0, 0) ∧ storesMem (.movi 0 0 1 9) = false := by
  decide +kernel

theorem witness_local_errors : Issues d1 0 0 ∧ (d1.core 0).failed = false ∧ ((d1.thread 0 0).reg 1).toNat = 16 ∧
    (let d := after (.ldl 0 0 4 1 0 .uncorrectable) d1
     raises d 0x400E = 1 ∧ (d.core 0).failed = false ∧ (d.thread 0 0).pc = 1 ∧ Map.get 0 (d.core 0).bankErr 0 = 1 ∧
     Issues d 0 0 ∧ ((after (.ldl 0 0 4 1 0 .uncorrectable) d).core 0).failed = true) ∧
    raises (after (.ldl 0 0 4 1 0 .corrected) d1) 0x400D = 1 := by unfold Issues; decide +kernel

/-! ### Matrix engine and vector unit -/

def acc0 : AccFields := { eng := 1, mode := 0, fmtA := 1, fmtB := 1, widthA := 0, widthB := 0, run := 0, slot := 2, init := false, len := 1, table := 0, ra := 1, rb := 1 }
def drain0 : DrainFields := { eng := 1, slot := 2, fmtOut := 4, widthOut := 0, rmode := 0, sat := true, add := false, clear := true, ro := 1, rd := 0, cnt := 9 }
def table0 : TableFields := { eng := 1, slot := 3, rs := 1, cnt := 9 }
def vec0 : VecFields := { fx := 0, fy := 0, fz := 0, rmode := 0, sat := true, rx := 1, ry := 2, rz := 3, rw := 2, rn := 4 }

theorem witness_engine_queue : Issues d1 0 0 ∧ acc0.mode.toNat < 4 ∧ reservedFmt 1 0 = false ∧ reservedFmt 4 0 = false ∧
    opDescBad true (contBits 1 0) (opDesc ((d1.thread 0 0).reg 1)) = false ∧
    opDescBad false (contBits 1 0) (opDesc ((d1.thread 0 0).reg 1)) = false ∧
    (outDesc ((d1.thread 0 0).reg 1)).frame = 16 ∧ (outDesc ((d1.thread 0 0).reg 1)).sub < subCount (contBits 4 0) ∧
    ((after (.accumulate 0 0 acc0) d1).core 0).queue 1 = [.acc acc0 16 16 0] ∧
    ((after (.drain 0 0 drain0 []) d1).core 0).queue 1 = [.drain drain0 16 0 0 (d1.line 0 0) 0 false] ∧
    ((after (.tableLoad 0 0 table0) d1).core 0).queue 1 = [.table table0 16] ∧
    ((after (.accumulate 0 0 acc0) (d1.setCore 0 { d1.core 0 with engq := [(1, List.replicate 8 (.table table0 0))] })).thread 0 0).st
      = .waitQueue (.eng 1) ∧
    raises (after (.accumulate 0 0 { acc0 with mode := 4 }) d1) 0x7020 = 1 ∧ 240 ≤ (opDesc ((d1.thread 0 0).reg 2)).frame ∧
    raises (after (.accumulate 0 0 { acc0 with ra := 2 }) d1) 0x7022 = 1 ∧
    raises (after (.drain 0 0 { drain0 with rmode := 3 } []) d1) 0x7020 = 1 ∧
    raises (after (.tableLoad 0 0 { table0 with rs := 3 }) d1) 0x7022 = 1 ∧
    raises (after (.vadd 0 0 { vec0 with fz := 2 } []) d1) 0x7020 = 1 ∧ raises (after (.vexp2 0 0 { vec0 with rn := 3 } []) d1) 0x7022 = 1 := by
  unfold Issues; decide +kernel

/-- 64 elements: X begins with 1.0, Y with 2.0, in E8M7, and 0 follows. -/
def dv : Device := ((th [(1, 0), (2, 128), (3, 0x1000), (4, 64)]).put (Device.localAddr 0 0) [0x80, 0x3F]).put (Device.localAddr 0 128) [0, 0x40]

theorem witness_vector : Issues dv 0 0 ∧ vec0.fz.toNat < 2 ∧ vec0.rmode.toNat ≠ 3 ∧ ((dv.thread 0 0).reg 4).toNat % 64 = 0 ∧
    spanBad ((dv.thread 0 0).reg 3).toNat 2 64 = false ∧ srcBad 0 ((dv.thread 0 0).reg 1).toNat 64 = false ∧
    srcBad 0 ((dv.thread 0 0).reg 2).toNat 64 = false ∧
    (after (.vadd 0 0 vec0 []) dv).load (Device.localAddr 0 0x1000) 2 = 0x4040 ∧
    (let d := after (.vadd 0 0 vec0 [(Device.localAddr 0 0, .uncorrectable), (Device.localAddr 0 128, .corrected)]) dv
     d.load (Device.localAddr 0 0x1000) 2 = 0x4000 ∧ raises d 0x400E = 1 ∧ raises d 0x400D = 1) := by unfold Issues; decide +kernel

theorem witness_reductions : vec0.fz.toNat ≠ 2 ∧ srcBad 0 ((dv.thread 0 0).reg 1).toNat 64 = false ∧
    (after (.vrsum 0 0 vec0 []) dv).mem = dv.mem ∧
    vec0.rmode.toNat < 2 ∧ spanBad 0 2 64 = false ∧ spanBad 128 1 64 = false ∧ srcBad 0 0x1000 64 = false ∧
    ((after (.wupd 0 0 vec0 []) dv).thread 0 0).pc = 1 := by decide +kernel

/-! ### What happens in a core without an instruction -/

def waits (st : ThState) : Device := ({} : Device).setThread 0 0 { st := st }

theorem witness_ends : queueFree ((waits (.waitQueue (.eng 1))).core 0) (.eng 1) = true ∧
    ((after (.queueEntryFreed 0 0) (waits (.waitQueue (.eng 1)))).thread 0 0).st = .ready ∧
    ((after (.waitSyncSatisfied 0 0) (waits (.waitSync 5 0))).thread 0 0).pc = 1 ∧
    ((after (.waitSyncSatisfied 0 0) (waits (.waitSync 5 1))).thread 0 0).pc = 0 ∧
    ((after (.fenceComplete 0 0) (waits .waitMem)).thread 0 0).pc = 1 ∧
    ((after (.watchWake 0 0 []) (waits (.waitWatch 8 3))).thread 0 0).pc = 1 ∧
    ((after (.watchWake 0 0 []) (waits (.waitWatch 8 0))).thread 0 0).pc = 0 ∧
    (let d := (({} : Device).setThread 0 0 { st := .waitBar, group := 2 })
     let d := d.setCore 0 { d.core 0 with groups := [(2, { live := true, threads := [0] })] }
     (Map.get {} (d.core 0).groups 2).live = true ∧ unhalted (d.core 0) 2 = [0] ∧
     ((after (.barrierRelease 0 2) d).thread 0 0).pc = 1) := by decide +kernel

theorem witness_phase_waits : (∀ u, u < 1024 → ((waits (.waitPhase 0)).thread 0 u).pc ≠ 8191) ∧
    0 ≤ ((waits (.waitPhase 0)).stamp - 0).toInt ∧ ((waits (.waitPhase 1)).stamp - 1).toInt < 0 := by decide +kernel

def engq (l : List EngOp) (d : Device := {}) : Device := d.setCore 0 { d.core 0 with engq := [(1, l)] }

def accFrames : Device := (engq [.acc acc0 0 0 0, .acc { acc0 with slot := 1 } 0 0 0]).setFrame 0 0 (fullFrame false)

theorem witness_accumulate : let d := accFrames
    let a := d.gather 0 true (opDesc 0) 1 0 0 1
    let b := d.gather 0 false (opDesc 0) 1 0 0 1
    firstOp ((d.core 0).queue 1) EngOp.isAcc = some (0, .acc acc0 0 0 0) ∧ Device.tableAhead [] acc0 = false ∧
    d.drainAhead 0 1 [] (Device.formSlots (Device.accBlock acc0 a b) acc0.slot) = false ∧
    (∀ fr ∈ a.frames ++ b.frames, (d.frame 0 fr).st = .full) ∧ a.frames ≠ [] ∧ d.unpublished 0 a.tsid = false ∧ d.unpublished 0 b.tsid = false ∧
    (d.accSlot 0 acc0 a b (Device.accBlock acc0 a b)).isSome = true ∧
    raises (after (.accumulateComplete 0 1 []) (engq [.acc { acc0 with init := true } 0 0 0] d)) 0x2022 = 1 := by decide +kernel

theorem witness_drain : let d := engq [.drain drain0 0x800 0 0 {} 0 false, .table table0 0]
    let o := outDesc 0x800
    firstOp ((d.core 0).queue 1) EngOp.isDrain = some (0, .drain drain0 0x800 0 0 {} 0 false) ∧ d.accAhead 0 [] [2] = false ∧
    (d.frame 0 o.frame).st ≠ .full ∧ (d.frame 0 o.frame).fill = false ∧ drain0.add = false ∧ d.lineWaits 0 o.tsid {} = false ∧
    drain0.rmode.toNat ≠ 1 ∧ ((after (.drainComplete 0 1 []) d).core 0).queue 1 = [.table table0 0] ∧
    ((after (.drainComplete 0 1 []) d).core 0).counter 9 = 1 := by decide +kernel

/-! ### Tables, frames, reports and work lists -/

/-- Bytes in the store of cluster 0. -/
def sto (off : Nat) (b : List Byte) (d : Device := {}) : Device := d.put (Device.storeAddr 0 off) b

/-- n bytes that begin with b and end in their CRC. -/
def sealed (n : Nat) (b : List Byte) : List Byte :=
  let p := b ++ zeros (n - 4 - b.length)
  p ++ leBytes 4 (crc32c p)

theorem witness_tables_reports :
    (let d := engq [.table table0 0]
     let t := after (.tableLoadComplete 0 1 []) d
     tableOk [0, 0, 0, 0, 0, 0, 0, 0] = false ∧ raises t 0x2021 = 1 ∧ (t.core 0).counter 9 = 1 ∧
     (t.core 0).table 1 3 = [2048, 2233, 2435, 2656, 2896, 3158, 3444, 3756]) ∧
    tableOk [2048, 2233, 2435, 2656, 2896, 3158, 3444, 3756] = true ∧
    ((after (.frameRelease 0 7) (({} : Device).setFrame 0 7 (fullFrame true))).frame 0 7) = {} ∧
    (let d := (engq [.drain drain0 0 0 0 {} 1 false] { time := { nowNs := 100000000000 } }).setNum 0x7050 2 1 1
     d.scaleWaited 1 = true ∧ firstOp ((d.core 0).queue 1) EngOp.isDrain = some (0, .drain drain0 0 0 0 {} 1 false) ∧ d.lineWaits 0 (outDesc 0).tsid {} = true ∧ raises (after (.scaleWaitLimit (.eng 0 1)) d) 0x2106 = 1) ∧
    (let d := (({ time := { nowNs := 100000000000 } } : Device).setClu 0 { cvt := some { ring := 0, off := 0, since := 1 } }).setNum 0x7050 2 1 1
     d.lineWaits 0 0 (d.line 0 0) = true ∧ raises (after (.scaleWaitLimit (.cvt 0)) d) 0x2106 = 1) ∧
    (let d := ((engq []).setCore 0 { (({} : Device).core 0) with reports := [(1, [{ tsid := 0, smax := 5, sats := 2 }])] }).setNum 0x7050 2 1 1
     let d := d.setNum 0x7050 1 1 0
     ((Map.get [] (d.core 0).reports 1).find? (fun r => r.tsid == 0)).isSome = true ∧
     (after (.scaleReportFlush 0 1 0) d).load (Device.storeAddr 0 64) 8 = 5 + 2 * 2 ^ 32) := by decide +kernel

/-- A core released in a running plan, list 0 with its header at 0x1000 and its records at 0x2000. -/
def listed (tail : Nat) : Device :=
  let rec1 := leBytes 4 0 ++ [0, 0] ++ leBytes 2 2 ++ leBytes 2 7 ++ [3, 0] ++ zeros (0x3C - 12)
  let crc := crc32c (rec1.take 4 ++ [0] ++ sliceB rec1 5 0x33 ++ [0, 0] ++ sliceB rec1 0x3A 2)
  let d := sto 0x1000 (leBytes 4 tail ++ leBytes 4 0x2000 ++ leBytes 2 4 ++ leBytes 2 1) (sto 0x2000 (rec1 ++ leBytes 4 crc))
  let d := { d with cad := { d.cad with stopped := false } }
  let d := (((d.setNum 0x1100 1 0 2).setNum 0x1300 3 0 4).setNum 0x7021 1 1 0x1000)
  (d.setNum 0x70C0 1 (pdCo 0) 0).setImg (d.physCore 0) { d.img (d.physCore 0) with released := true }

theorem witness_work_lists : (listed 1).planRuns = true ∧ (listed 1).coreUp 0 = true ∧ (listed 1).num 0x7021 1 1 = 0x1000 ∧
    (let d := listed 1
     let h := listHdr d 0 0x1000
     let r := parseRec (d.bytes (Device.storeAddr 0 0x2000) 64)
     bitOf h.claimers 0 = true ∧ h.tail = 1 ∧ h.head = 0 ∧ recBad r 0 = false ∧ r.kind = 0 ∧ r.nthr = 2 ∧
     (d.freeThreads 0).take 2 = [0, 1] ∧ 2 ≤ (d.freeThreads 0).length ∧ d.liveGroups 0 = [] ∧ 0 ≤ (d.stamp - r.notBefore).toInt ∧
     (let t := after (.workListPoll 0 0 []) d
      t.byteAt (Device.storeAddr 0 0x2004) = 2 ∧ (t.thread 0 1).st = .ready ∧ (t.thread 0 1).pc = 7)) ∧
    (let h := listHdr (listed 0) 0 0x1000
     h.head = h.tail ∧ ((after (.workListPoll 0 0 []) (listed 0)).thread 0 0).st = .free) ∧
    (let g : Group := { live := true, header := 0x1000, recOff := 0x2000, threads := [0], doneCnt := 3 }
     let d := (sto 0x2000 [0, 0, 0, 0, 2]).setCore 0 { groups := [(5, g)] }
     (Map.get {} (d.core 0).groups 5).live = true ∧ unhalted (d.core 0) 5 = [] ∧
     (let t := after (.launchGroupComplete 0 5 []) d
      t.byteAt (Device.storeAddr 0 0x2004) = 3 ∧ t.load (Device.storeAddr 0 0x1044) 4 = 1 ∧ (t.core 0).counter 3 = 1)) ∧
    (waits .waitBar).hangs 0 0 = true ∧ (listed 1).pollDue 0 0 = true ∧
    ((after (.coreHangLimit 0 0) (waits .waitBar)).core 0).failed = true := by decide +kernel

/-! ### Micro-sequencers -/

def sq1 : Device := sqRun 5 [(1, 16), (2, 3), (3, 0xFFFFFFFF)]

theorem witness_sequencers : (sq1.sq 5).st = .running ∧ ((after (.seqShl 5 4 2 1 16) sq1).sq 5).reg 4 = 3 ∧
    ((after (.sltu 5 4 2 3 0) sq1).sq 5).reg 4 = 1 ∧ ((after (.seqMovhi 5 2 1) sq1).sq 5).reg 2 = 0x10003 ∧ 20 ≤ sqLimit 5 ∧
    (let d := after (.seqSt 5 1 2 0) sq1
     d.load (Device.storeAddr (sqCluster 5) 16) 4 = 3 ∧ ((after (.seqLd 5 4 1 0 []) d).sq 5).reg 4 = 3 ∧
     (after (.seqAadd 5 4 1 2 []) d).load (Device.storeAddr (sqCluster 5) 16) 4 = 6) ∧
    (let d := after (.seqSt 672 1 2 0) (sqRun 672 [(1, 16), (2, 3)])
     Map.get 0 d.health.store 16 = 3 ∧ d.mem = [] ∧ Device.seqBad 672 16 = false ∧
     Map.get 0 (after (.seqAadd 672 4 1 2 []) d).health.store 16 = 6 ∧ 20 ≤ sqLimit 672) ∧
    sq1.seqInside 5 = true ∧ Device.seqBad 5 16 = false ∧ ((after (.seqBltu 5 2 1 9) sq1).sq 5).pc = 9 ∧ ((after (.waitw 5 1 2 0 []) sq1).sq 5).st = .waitWord 16 3 ∧
    ((after (.waitw 5 1 0 0 []) sq1).sq 5).pc = 1 ∧ (after (.seqFault 5) sq1).sq 5 = { (sq1.sq 5) with st := .idle, pend := 0 } ∧
    raises (after (.seqLd 5 4 2 0 []) sq1) 0x7023 = 1 ∧
    ((after (.seqSig 5 2 5) sq1).core (16 * sqCluster 5)).counter 5 = 0 ∧ ((after (.seqDone 5) sq1).sq 5).st = .idle := by decide +kernel

/-- Instance 5 with one trigger entry, in a running plan. -/
def trig (t : List Byte) : Device :=
  let d := (({} : Device).setNum 0x1100 1 0 2).setNum 0x1300 3 0 4
  { d.setDom 0x7040 2 6 t with cad := { d.cad with stopped := false } }

theorem witness_triggers : (trig [1]).planRuns = true ∧ (trig [1]).trigger 5 0 = (1, 0, 0) ∧ (trig [1]).season = 0 ∧
    ((after (.seasonTrigger 5 0) (trig [1])).sq 5).pend = 1 ∧ ((after (.stampTrigger 5 0) (trig [2])).sq 5).pend = 1 ∧
    ((after (.stampTrigger 5 0) (trig [2, 0, 0, 0, 9])).sq 5).pend = 0 ∧
    (let d := { trig [3, 7, 0, 0, 0x22, 0x70] with evt := { raised := [(0x7022, 1)] } }
     let d := after (.eventTrigger 5 0) d
     (d.sq 5).pend = 1 ∧ ((after (.seqRunStart 5) d).sq 5).pc = 7 ∧ ((after (.seqRunStart 5) d).sq 5).st = .running) ∧
    (let w (st : SqState) := ({} : Device).setSq 5 { st := st }
     ((after (.seqWaitSatisfied 5 []) (w (.waitWord 16 0))).sq 5).pc = 1 ∧ ((after (.seqWaitSatisfied 5 []) (w (.waitPhase 0))).sq 5).pc = 1 ∧
     ((after (.seqWaitSatisfied 5 []) (w .waitQueue)).sq 5).pc = 1 ∧ ((after (.seqWaitSatisfied 5 []) (w .waitRoom)).sq 5).st = .running) := by
  decide +kernel

/-! ### Stream engines and movers -/

theorem witness_stream : let d := sto 0x100 (leBytes 8 0x200 ++ leBytes 8 0x300) (sqRun 0 [(1, 0x100), (2, 64)])
    Device.crosses (Device.storeAddr 0 0x100) 64 = false ∧
    (after (.tmove 0 1 []) d).moves 0 = [moveDesc (d.bytes (Device.storeAddr 0 0x100) 64)] ∧
    ((after (.bmove 0 1 2 []) d).moves 0).map (fun e => (e.src, e.dst, e.nbytes)) = [(0x200, 0x300, 64)] ∧
    ((after (.pass 0 1 2 true) d).moves 0).length = 1 ∧ ((after (.qwait 0) d).sq 0).pc = 1 ∧
    ((after (.qwait 0) (after (.pass 0 1 2 true) d)).sq 0).st = .waitQueue ∧
    (let q := { d with movq := [(0, List.replicate 4 {})] }
     ((after (.tmove 0 1 []) q).sq 0).st = .waitRoom) := by decide +kernel

/-- A tile of n zero bytes in format E8M7 with this CRC, from the store into frame 3 of core 0. -/
def move1 (n crc : Nat) (re : Bool) : MoveEnt :=
  let fl : InFlight := { payload := zeros n, header := leBytes 8 0x08000000 ++ leBytes 4 0xFFFFFFFF ++ leBytes 4 crc, refetch := re }
  { src := Device.storeAddr 0 0, srch := Device.storeAddr 0 0x800000, dst := Device.localAddr 0 0x3000, dsth := Device.localAddr 0 0xF0030,
    issued := 1, scnt := 9, score := 1, flight := [fl] }

def moving (e : MoveEnt) : Device := { ({} : Device) with movq := [(0, [e])] }

theorem witness_mover_reads :
    let e := { move1 8 0 false with issued := 0, flight := [] }
    let d := moving e
    let m : Mover := .se 0
    d.mq m = [e] ∧ e.issued < e.count ∧ d.dstFrame m e 0 = some (0, 3) ∧ (d.frame 0 3).st = .empty ∧ d.srcFrame m e 0 = none ∧
    d.resolve e.src = .here (Device.storeAddr 0 0) ∧ d.seReach 0 (Device.storeAddr 0 0) 4096 = true ∧
    d.resolve e.srch = .here (Device.storeAddr 0 0x800000) ∧ d.seReach 0 (Device.storeAddr 0 0x800000) 16 = true ∧
    ((after (.moverSourceRead m []) d).frame 0 3).fill = true := by decide +kernel

theorem witness_tile_arrives :
    let e := move1 8 1951470658 false
    let d := moving e
    let m : Mover := .se 0
    let fl := e.flight.getD 0 {}
    fl.await = [] ∧ d.dstFrame m e 0 = some (0, 3) ∧ d.srcFrame m e 0 = none ∧ tileCheck fl.payload fl.header = none ∧
    (parseHdr fl.header).bsi = 0xFFFFFFFF ∧ fl.payload.length = 8 ∧ fl.header.length = 16 ∧ fl.refetch = false ∧
    ((after (.tileDeliveryComplete m []) d).frame 0 3).st = .full ∧ ((after (.tileDeliveryComplete m []) d).core 0).counter 9 = 1 := by
  decide +kernel

theorem witness_bad_tiles :
    let e := move1 8 0 false
    let e' := move1 8 0 true
    let m : Mover := .se 0
    let fl := e.flight.getD 0 {}
    tileCheck fl.payload fl.header = some .crc ∧ ((after (.tileDeliveryComplete m []) (moving e)).clu 0).retry = 1 ∧
    raises (after (.tileRefetchComplete m []) (moving e')) 0x4001 = 1 ∧ ((after (.tileRefetchComplete m []) (moving e')).frame 0 3).poison = true ∧
    (after (.moveDone m) (moving { e with done := 1, flight := [] })).movq = [] ∧
    (let p : MoveEnt := { kind := .pass true, src := Device.localAddr 0 0, dst := Device.localAddr 1 0x1000 }
     let d := (moving p).setFrame 0 0 (fullFrame true)
     d.frameOfAddr 0 p.src = some (0, 0) ∧ d.frameOfAddr 0 p.dst = some (1, 1) ∧
     (after (.carouselPassExecute 0 []) d).frame 0 0 = {} ∧ (after (.carouselPassExecute 0 []) d).num 0x1841 7 = 1) := by decide +kernel

/-! ### Scale trackers, converters, reduction engines, table builders, random bits, masks, predictor -/

/-- A scale table of four lines at 0 whose line 0 is published at home 0 and line 1 at home 9. -/
def lined (d : Device) : Device :=
  let d := sto 0 (sealed 64 [0x80, 0x3F, 0x80, 0x3F, 127]) (sto 128 (sealed 64 ([0x80, 0x3F, 0x80, 0x3F, 127, 0, 0, 0, 0, 0] ++ [9])) d)
  (d.setNum 0x7050 1 1 0).setNum 0x7050 2 1 4

theorem witness_publication : let d := lined (sqRun (trackerSq 0) [(1, 1), (2, 2)])
    (d.sq (trackerSq 0)).st = .running ∧ (d.line 0 0).ok = true ∧ (d.line 0 0).home = 0 ∧ (d.line 0 1).ok = true ∧
    (d.line 0 1).home = 9 ∧ (d.line 0 2).ok = false ∧ ((after (.spub 0 4 0 2 []) d).sq (trackerSq 0)).reg 4 = 0 ∧
    ((after (.spub 0 4 0 2 []) d).line 0 0).pstep = 3 ∧ ((after (.spub 0 4 1 2 []) d).sq (trackerSq 0)).reg 4 = 1 ∧
    ((after (.spub 0 4 2 2 []) d).sq (trackerSq 0)).reg 4 = 2 ∧ ((after (.srst 0 1 []) d).sq (trackerSq 0)).pc = 1 := by decide +kernel

/-- A ring at 0x10000 with one published descriptor at 0x20000. -/
def ringed (idx sub : Nat) (desc : List Byte) : Device :=
  let d := sto 0x10000 (leBytes 4 1 ++ leBytes 4 0x20000 ++ leBytes 2 4) (sto 0x20000 desc)
  d.setNum idx sub 1 0x10000

def cvtDesc : List Byte := sealed 128 ([0, 0, 0, 0, 0, 1, 0, 0, 0, 9, 1, 0, 1, 0, 1, 1] ++ leBytes 4 0 ++ leBytes 4 0 ++ leBytes 4 0x4000 ++
  leBytes 4 0x800000 ++ leBytes 4 0 ++ leBytes 4 0x800010)
def redDesc : List Byte := sealed 128 ([0, 0, 0, 0, 2, 3, 1, 0, 9, 0, 1, 0, 1, 0])
def ltbDesc (op : Nat) : List Byte := sealed 32 ([0, 0, 0, 0] ++ leBytes 1 op ++ zeros 7 ++ leBytes 4 0 ++ leBytes 4 0x40)

theorem witness_rings : let d := ringed 0x7050 3 cvtDesc
    d.num 0x7050 3 1 ≠ 0xFFFFFFFF ∧ (d.clu 0).cvt = none ∧ d.ringNext 0 0x10000 4 0 = some 0 ∧ d.cvtBad 0 0 cvtDesc = false ∧
    ((after (.converterTake 0 []) d).clu 0).cvt = some (d.ringJob 0 0x10000 0 128) ∧
    raises (after (.converterTake 0 []) (ringed 0x7050 3 (zeros 128))) 0x2103 = 1 ∧
    (ringed 0x7050 7 redDesc).ringNext 0 0x10000 4 0 = some 0 ∧ ((ringed 0x7050 7 redDesc).clu 0).red = none ∧
    raises (after (.reductionTake 0 []) (ringed 0x7050 7 (zeros 128))) 0x2114 = 1 ∧
    (let b := ringed 0x7050 9 (zeros 32)
     ltbBad b 0 0 (zeros 32) = true ∧ raises (after (.tableRingTake 0 []) b) 0x2115 = 1 ∧
     (after (.tableRingTake 0 []) b).bytes (Device.storeAddr 0 0) 16 = tableRecord [2048, 2233, 2435, 2656, 2896, 3158, 3444, 3756]) ∧
    (ringed 0x7050 9 (ltbDesc 0)).ringNext 0 0x10000 1 0 = some 0 ∧
    ltbBad (ringed 0x7050 9 (ltbDesc 0)) 0 0 (ltbDesc 0) = false ∧
    ((after (.tableRingTake 0 []) (ringed 0x7050 9 (ltbDesc 0))).clu 0).ltb.isSome = true := by decide +kernel

def jobs (d : Device) (w : Bool) (c : List Byte) : Device :=
  d.setClu 0 { cvt := some { ring := 0, off := 0, desc := c, worked := w }, red := some { ring := 0, off := 0, desc := c, worked := w } }

theorem witness_descriptors : let d := jobs (ringed 0x7050 3 cvtDesc) false (zeros 128)
    let e := jobs ((ringed 0x7050 3 cvtDesc).setNum 0x7050 7 1 0x11000) true cvtDesc
    (parseCvt (zeros 128)).op = 0 ∧ (parseRed (zeros 128)).op = 0 ∧ d.lineWaits 0 0 (d.line 0 0) = false ∧ d.inputWaits 0 0 0 = false ∧ rmodeOf (parseCvt (zeros 128)).rmode ≠ .sr ∧ (parseCvt (zeros 128)).rot = 0 ∧
    d.firstReads 0 Device.cvtReads [] = none ∧
    (parseCvt cvtDesc).cnt = 9 ∧ (parseCvt cvtDesc).cores = 1 ∧ ((after (.cvtDescriptorDone 0) e).clu 0).cvt = none ∧
    (after (.cvtDescriptorDone 0) e).load (Device.storeAddr 0 0x10024) 4 = 1 ∧ ((after (.cvtDescriptorDone 0) e).core 0).counter 9 = 1 ∧
    ((after (.redDescriptorDone 0) e).clu 0).red = none := by decide +kernel

theorem witness_tables : let j : Nat → Job := fun op => { ring := 0, off := 0x20000, desc := ltbDesc op }
    let d (op : Nat) := (ringed 0x7050 9 (ltbDesc op)).setClu 0 { ltb := some (j op) }
    (parseLtb (ltbDesc 0)).op = 0 ∧ (parseLtb (ltbDesc 1)).op = 1 ∧ (parseLtb (ltbDesc 2)).op = 2 ∧ (parseLtb (ltbDesc 2)).dst = 0x40 ∧
    (scaledTable 0).length = 8 ∧ (after (.ltbDefault 0) (d 0)).load (Device.storeAddr 0 0x40) 2 % 4096 = 2048 ∧
    (after (.ltbCopy 0 []) (d 1)).load (Device.storeAddr 0 0x10024) 4 = 1 ∧
    (after (.ltbScaled 0 []) (d 2)).load (Device.storeAddr 0 0x40) 2 % 4096 = 2048 := by decide +kernel

def maskDesc : List Byte := sealed 64 ([0, 0, 0, 0, 0, 0, 0, 0, 1, 0, 9, 0, 1, 0, 0xFF, 0xFF] ++ leBytes 8 0x4000 ++ leBytes 8 0x800000)

theorem witness_rng : let d := ringed 0x7060 5 maskDesc
    d.ringNext 0 0x10000 1 0 = some 0 ∧ (d.clu 0).mjob = none ∧ maskBad d 0 0 maskDesc = false ∧ d.bitsReady 0 maskUnit (parseMask maskDesc).handle 16 (fun _ => true) = true ∧
    ((after (.maskJob 0 []) d).clu 0).mjob.map (fun j => j.worked) = some true ∧ maskBad d 0 0 (zeros 64) = true ∧
    raises (after (.maskJob 0 []) (ringed 0x7060 5 (zeros 64))) 0x2113 = 1 ∧
    ((after (.maskJobDone 0) (d.setClu 0 { mjob := some { ring := 0, off := 0x20000, desc := maskDesc } })).clu 0).mjob = none ∧
    (let q : List EngOp := [.drain { drain0 with rmode := 1 } 0 0 0x10002 {} 0 false]
     let d := (engq q).setDom 0x7060 1 1 ([1, 0, 2, 0] ++ zeros 12)
     (d.queuedHandles 0 1) = [0x10002] ∧ d.stream 0 0x10002 = some { kind := 0, uses := 0, p := 0 } ∧
     ((after (.contextPrepared 0 1) d).unitCtx 0 1).shadow.map (·.handle) = some 0x10002) ∧
    (let c : Ctx := { handle := 1, step := 0, lanes := [{}, { n := 17 }] }
     let d := ({} : Device).setUnitCtx 0 1 { cur := some c }
     ((after (.rngRefillGrant 0 1 0) d).unitCtx 0 1).cur.map (fun c => c.lanes.map (·.n)) = some [16, 17] ∧
     ((after (.rngRefillGrant 0 1 0) (({} : Device).setUnitCtx 0 1 { shadow := some c })).unitCtx 0 1).shadow.map (fun c => c.lanes.map (·.n))
       = some [16, 17]) := by decide +kernel

def mcheckDesc : List Byte := sealed 64 (zeros 0x18 ++ [1, 0, 1, 16])

theorem witness_masks : let d := sto 0x100 mcheckDesc (sqRun (maskSq 0) [(1, 0x100)])
    d.maskJobBad 0 0x100 .check = false ∧ d.seqInside (maskSq 0) = true ∧
    d.firstReads 0 (fun _ => true) (Device.maskTiles .check (parseMaskJob mcheckDesc) 0) = none ∧ d.maskJobBad 0 0x100 .apply = true ∧
    ((after (.mapply 0 4 1 []) d).sq (maskSq 0)).reg 4 = 1 ∧
    raises (after (.mapply 0 4 1 []) d) 0x3004 = 1 := by decide +kernel

theorem witness_mupd : (∀ p ∈ [0, 1, 17], p < 256) ∧ (mupdSub [0, 1, 17] (fun p => p) [2, 5] 0x8000 4 1).1.new = [17, 2] := by decide +kernel

def predDesc : List Byte := sealed 128 ([0, 0, 0, 0, 1, 0, 4, 0, 2, 0, 1, 0, 1, 0, 0, 0] ++ zeros 8 ++ leBytes 4 0x4000 ++ leBytes 4 0x5000 ++
  leBytes 4 0x6000 ++ leBytes 4 0x7000 ++ leBytes 4 0 ++ leBytes 4 0x8000)

theorem witness_predictor : let d := ringed 0x7070 1 predDesc
    let j : Job := { ring := 0, off := 0x20000, desc := predDesc, worked := true, list := [1, 2, 3] }
    d.ringNext 0 0x10000 1 0 = some 0 ∧ (d.clu 0).pred = none ∧ predBad 0 predDesc = false ∧ 
    (let e := d.setClu 0 { reread := Device.predTiles (parsePred predDesc) }
     (e.clu 0).pred = none ∧ e.firstReads 0 Device.predReads (Device.predTiles (parsePred predDesc)) = none) ∧ predBad 0 (zeros 128) = true ∧
    raises (after (.predictorTake 0 []) (ringed 0x7070 1 (zeros 128))) 0x3006 = 1 ∧ (parsePred predDesc).out = 0x8000 ∧
    (after (.predictorDone 0 []) (d.setClu 0 { pred := some j })).bytes (Device.storeAddr 0 0x8000) 3 = [1, 2, 3] := by decide +kernel

/-! ### Numeric health -/

theorem witness_cluster_monitor : let d := (sqRun (monitorSq 0) [(1, 0x100)]).setClu 0 { clamps := 3 }
    let w : List Byte := leBytes 4 0x200 ++ [0, 0, 1, 1]
    ((after (.hclose 0 1 []) d).clu 0).clamps = 0 ∧ ((after (.hclose 0 1 []) d).sq (monitorSq 0)).pc = 1 ∧
    (Map.get [] (after (.hpost 0 1 []) d).health.posted 0).length = 256 ∧ (parseWatch w).src = 0x200 ∧
    ((after (.nchk 0 4 1 []) (sto 0x100 w d)).sq (monitorSq 0)).pc = 1 ∧
    (let b := leBytes 4 7 ++ zeros 252
     let p : Device := { health := { posted := [(0, b)] } }
     Map.get [] p.health.posted 0 = b ∧ b.length = 256 ∧ Map.get 0 (after (.healthSummaryArrival 0) p).health.arrived 0 = 8) := by
  decide +kernel

theorem witness_device_monitor : let d := { sqRun 672 [(1, 0)] with health := { loss := some (0, 0x3F800000) } }
    (after (.lchk 4 1) (sqRun 672 [(1, 1)])).health.evalLoss = none ∧ ((after (.lchk 4 1) (sqRun 672 [(1, 1)])).sq 672).reg 4 = 2 ∧
    raises (after (.lchk 4 1) (sqRun 672 [(1, 1)])) 0x2204 = 1 ∧ ((after (.lchk 4 1) d).sq 672).pc = 1 ∧
    (after (.risk 4 1) d).health.uncounted = 0 ∧ Map.get 0 d.health.tainted 5 = 0 ∧
    (after (.taintNoticeReceive 5 0 0) d).num 0x1401 3 = 5 := by decide +kernel

/-! ### Cadence, admission, objects, sessions -/

def master (d : Device) : Device := d.setNum 0x1200 1 0 1
def running (d : Device := {}) : Device :=
  let d := ((d.setNum 0x1100 1 0 2).setNum 0x1300 3 0 4)
  { d with cad := { d.cad with stopped := false } }
def planned (d : Device) : Device := { d with adm := { d.adm with plan := some {} } }
def stopAt (d : Device) : Device := { d with cad := { d.cad with stopped := true } }

theorem witness_cadence : (running).planRuns = true ∧ seasonDone running = true ∧ running.inPlan = true ∧
    (after .doneReport running).out = [.done 0 0 0] ∧ (after .doneReport (master running)).cad.done = [(0, 0, 0)] ∧
    (after (.doneReceive 0 0 1) (master running)).cad.done = [(0, 0, 1)] ∧
    (after (.gateWordWrite 0 8 5) running).load (Device.storeAddr 0 8) 4 = 5 ∧
    (after .cadenceWordSend (master running)).out = [.cadWord (cadWordOf 0 false 0 false 0 0) none] ∧
    (let d := stopAt (master running)
     let d := { d with cad := { d.cad with members := [4] } }
     d.missingDone = [4] ∧ raises (after .cadenceWordSend d) 0x1004 = 1) ∧
    (after .boundaryReached running).cad.phase = running.lastBefore % 2 ^ 24 ∧
    (let d := stopAt (master running)
     let d := { d with cad := { d.cad with phase := d.lastBefore } }
     d.absPos = d.lastBefore ∧ d.missingDone = [] ∧ d.cad.stopped = true ∧ d.admState = 4) ∧
    (after .cadenceOutFrame { master running with cad := { (master running).cad with outq := [7] } }).out = [.cadOut 7] := by
  decide +kernel

theorem witness_cadence_words : let d := planned (running.setNum 0x1700 7 0 3)
    let w := cadWordOf 0 false 0 false 0 5
    let x := cadWordOf 1 false 0 false 0 5
    (Map.get {} d.link.ports 3).stale = false ∧ badWord d (parseWord w) = false ∧ (parseWord w).bnd = false ∧
    (after (.cadenceWordReceive 3 (BitVec.ofNat 128 w)) d).cad.lastPos = some (0, 5) ∧ badWord d (parseWord x) = true ∧
    raises (after (.cadenceWordReceive 3 (BitVec.ofNat 128 x)) d) 0x1008 = 1 ∧
    (let e := { d with cad := { d.cad with phase := d.lastBefore } }
     let b := cadWordOf 0 false 0 true 1 0
     (parseWord b).bnd = true ∧ badWord e (parseWord b) = false ∧ e.absPos = e.lastBefore ∧ e.cad.phase < 2 ^ 24 ∧
     (parseWord b).step * 2 ^ 24 + (parseWord b).phase = e.absPos + 1) := by decide +kernel

def late (d : Device) : Device := { d with time := { d.time with nowNs := 10 ^ 15 } }
def lossy (d : Device) : Device := { late d with cad := { d.cad with lossRaised := true } }

theorem witness_losses : raises (after .holdLimit { late (master running) with cad := { running.cad with held := true } }) 0x1006 = 1 ∧
    raises (after .cadenceLoss (late running)) 0x1002 = 1 ∧
    raises (after .backupTakeover (lossy (planned (running.setNum 0x1200 1 0 2)))) 0x1003 = 1 ∧
    (after .cutOff (lossy running)).cad.cutOff = true ∧
    (let d := (planned (master running)).setNum 0x1200 2 0 0
     let w := BitVec.ofNat 128 (cadWordOf 0 false 0 false 0 5)
     let on := { d with cad := { d.cad with pairOn := true } }
     badWord d (parseWord w.toNat) = false ∧ d.cad.locked = false ∧ raises (after (.cadenceInWord w none) on) 0x1001 = 1 ∧
     raises (after (.cadenceInWord w none) { d with cad := { d.cad with pairGood := 15 } }) 0x1001 = 1 ∧
     (after (.cadenceInWord w none) d).cad.pairGood = 1 ∧
     (after (.cadenceInWord w none) { on with cad := { on.cad with locked := true } }).cad.pairOn = true ∧
     tooShort (d.setNum 0x1200 4 0 1000) 1 = true ∧ raises (after (.cadenceInWord w (some 1)) (on.setNum 0x1200 4 0 1000)) 0x1007 = 1 ∧
     raises (after .cadenceInSilence (late on)) 0x1007 = 1) := by decide +kernel

/-- Session 1 of the local endpoint holds the lease under ceiling 3 on a device that has thawed; it is stopped. -/
def ses : Device :=
  let d : Device := { thaw := { began := true }, mgmt := { sessions := [{ sid := 1, link := .loc, ceil := 3 }] } }
  ((d.setNum 0x1001 7 0 1).setNum 0x1100 1 0 1).setNum 0x1D04 2 0 13

theorem witness_admission : let c : Conn := .session 1
    let st (n : Nat) (d : Device) := d.setNum 0x1300 3 0 n
    let run2 := ses.setNum 0x1100 1 0 2
    ses.accessStatus c 0x1300 1 0 = stOK ∧ (after (.admPlan c [1, 2]) ses).domOf 0x1300 1 = [1, 2] ∧
    ses.valueStatus c 0x1300 2 0 1 = stOK ∧ (after (.check c) (st 1 ses)).num 0x1300 3 = 2 ∧
    ses.valueStatus c 0x1300 2 0 2 = stOK ∧ (after (.discard c) (st 3 ses)).num 0x1300 3 = 0 ∧
    (st 2 ses).checkPlan [] facts0 ≠ .ok [] ∧ (after (.admissionDone facts0) (st 2 ses)).num 0x1300 3 = 5 ∧
    (after (.verdictReceive 0 0 4 false) (master ses)).adm.verdicts = [(4, 0)] ∧
    (after (.verdictReceive 0 0xA001 4 false) (st 3 (master ses))).num 0x1300 4 = 0xA00F ∧
    (after (.verdictReceive 0 0xA00E 4 true) (st 3 ses)).num 0x1300 4 = 0xA00E ∧
    (let l := late (st 3 ses)
     admittedLate l = true ∧ (after .admittedTimeout l).num 0x1300 4 = 0xA00E) ∧
    run2.valueStatus c 0x1100 2 0 1 = stOK ∧ (after (.stop c) run2).num 0x1100 1 = 3 ∧ (after (.stop c) ses).num 0x1100 1 = 1 ∧
    run2.valueStatus c 0x1100 2 0 2 = stOK ∧ (after (.abort c) run2).num 0x1100 1 = 1 := by decide +kernel

/-- A plan of two devices without work, device 1 its master: the image, what its sections hold, and a device that has loaded it. -/
def planImg : List Byte :=
  let cad := leBytes 4 0x400000 ++ leBytes 4 0x800000 ++ leBytes 4 0xC00000 ++ leBytes 4 0xE00000 ++ leBytes 2 1 ++ leBytes 2 0xFFFF ++ zeros 12
  let dirEnt (ty off : Nat) (b : List Byte) := [BitVec.ofNat 8 ty, 0, 0, 0] ++ leBytes 4 off ++ leBytes 4 b.length ++ leBytes 4 (crc32c b)
  let im := leBytes 4 0x4C504D55 ++ [1, 0, 0, 0] ++ leBytes 4 208 ++ leBytes 2 4 ++ leBytes 2 0 ++ leBytes 8 2 ++ leBytes 8 (10 ^ 9) ++
    leBytes 4 550 ++ zeros 28 ++ dirEnt 1 128 [0] ++ dirEnt 2 136 cad ++ dirEnt 6 168 (zeros 32) ++ dirEnt 13 200 [0] ++
    zeros 8 ++ cad ++ zeros 40
  overB im 0x3C (leBytes 4 (crc32c im))

def planOk : PlanFacts :=
  { facts0 with members := [{ dev := 0, index := 0, capable := true, keeper := 1 }, { dev := 1, index := 1, capable := true, keeper := 0 }],
                placements := [], hvSize := 0x20000, hvWardSize := 0x20000 }

def loaded : Device :=
  let d := ({} : Device).setDom 0x1701 1 0 (zeros 8192)
  (List.range 4).foldl (fun d i => d.setNum 0x1603 (i + 1) 0 1100) ((d.setNum 0x1200 5 0 1).setNum 0x1010 8 0 64)

def checking : Device := (loaded.setDom 0x1300 1 0 planImg).setNum 0x1300 3 0 2

theorem witness_admitted : imageFault planImg = none ∧
    (match checking.checkPlan planImg (factsOf planImg planOk) with | .ok _ => true | .error _ => false) = true ∧
    checking.admState = 2 ∧ checking.hv.restore = none ∧ checking.adm.restoreS0 = none ∧
    (match checking.checkPlan planImg (factsOf planImg { planOk with shape := 1 }) with | .ok _ => 0 | .error r => r.code) = 0xA003 := by decide +kernel

theorem witness_admitted_dev : (checking.loadPlan (factsOf planImg planOk)).devNo ≠ (planHdr planImg).master := by decide +kernel

theorem witness_objects : let c : Conn := .session 1
    let w : WriteItem := ⟨⟨0x4212, 1, 0⟩, 3, leBytes 4 500⟩
    let bad : WriteItem := ⟨⟨0x4212, 1, 0⟩, 3, leBytes 2 500⟩
    ses.writeStatus c 0x4212 1 0 3 (leBytes 4 500) = stOK ∧ 0x4212 ∉ ownRule ∧ (after (.objectWrite c w) ses).num 0x4212 1 = 500 ∧
    (after (.objectWrite c bad) ses).dict = ses.dict ∧ ses.accessStatus c 0x1100 1 0 = stReadOnly ∧
    ses.accessStatus (.session 2) 0x4212 1 0 = stNoSession ∧ (ses.setNum 0x1001 7 0 2).accessStatus c 0x4212 1 0 = stDenied ∧
    running.accessStatus c 0x4212 1 0 = stNoSession ∧
    ses.valueStatus c 0x1401 6 0 1 = stOK ∧ raises (after (.hlthTaintReq c 1) ses) 0x2207 = 1 ∧
    ses.valueStatus c 0x1912 1 0 5 = stOK ∧ (after (.scaleRecal c 5) ses).recal = [5] ∧
    ses.valueStatus c 0x1404 1 0 7 = stOK ∧ (after (.hlthLoss c 7) ses).num 0x1404 3 = 1 ∧
    (after (.hlthLoss c (7 * 2 ^ 32)) ses).health.loss = some (0, 7) ∧ ses.valueStatus c 0x1404 2 0 7 = stOK ∧
    (after (.hlthEvalLoss c (7 * 2 ^ 32)) ses).health.evalLoss = some (0, 7) ∧
    ses.valueStatus c 0x1C00 4 0 1 = stOK ∧ Map.get false (after (.ageReplan c 1) ses).age.due 3 = true := by decide +kernel

def hdr1 : DapHdr := { hdr0 with session := 1, seq := 1 }
def hello0 : DapHdr := { hdr0 with session := 0, seq := 0 }

/-- A subscription and one logged event for it. -/
def addSub : Device × Subscr :=
  let b : Subscr := { minsev := 0, mask := 0xFFFF }
  ({ ses with mgmt := { ses.mgmt with sessions := [{ sid := 1, link := .loc, ceil := 3, sub := some b }] } }.raise 0x2207 0 0 0 0, b)

theorem witness_sessions : ses.serverUp = true ∧ (after (.hello hello0 1 2 []) ses).mgmt.sessions.length = 2 ∧
    raises (after (.malformedFrame hdr0 9 true) ses) 0x7043 = 1 ∧
    ses.steeredTo 0 (macAddr 0 0 false) false = true ∧
    raises (after (.dtlsHandshake 0 (BitVec.ofNat 48 (macAddr 0 0 false)) 50210 5 9 [1] [2]) ses) 0x7040 = 1 ∧
    raises (after (.dtlsHandshake 0 (BitVec.ofNat 48 (macAddr 0 0 false)) 50211 5 9 [1] [2]) ses) 0x7040 = 0 ∧
    (let cred := [3, 1, 0, 0] ++ [7] ++ zeros 31 ++ zeros 48
     let d := { ses with flash := (after (.flashRecordWrite .creds cred true) ses).flash }
     (d.creds.find? (fun e => Device.credIdent e == [7] && e.drop 36 == zeros 48)) = some cred ∧
     (after (.dtlsHandshake 0 (BitVec.ofNat 48 (macAddr 0 0 false)) 50210 5 9 [7] (zeros 48)) d).mgmt.conns = [(9, 5, 3, [7])]) ∧
    raises (after (.sessionTimeout 1) (late ses)) 0x7042 = 1 ∧
    (let d := addSub
     waiting d.1 d.2 ≠ [] ∧ ((after (.eventFrameSend 1) d.1).out.length = 1)) ∧
    (after (.heldFrameTimeout 1 5) ses).mgmt = ses.mgmt ∧
    (let d := late { ses with mgmt := { ses.mgmt with fwd := [(1, 3, 2, 5, 0)] } }
     (after (.forwardResponseTimeout 1 3) d).mgmt.fwd = []) ∧
    (let d := ses.setNum 0x70B0 1 1 2
     let d := after (.dapFragmentReceive 0 0 5 0 true false 2 [9]) d
     d.mgmt.frags.map (·.next) = [1] ∧ ((after (.dapFragmentReceive 0 0 5 1 false false 2 [8]) d).mgmt.frags.map (·.data)) = [[9, 8]] ∧
     (after (.fragmentTimeout 5) (late d)).mgmt.frags = []) := by decide +kernel

theorem witness_requests : ses.session 1 = some { sid := 1, link := .loc, ceil := 3 } ∧ ses.mine hdr1 = true ∧ hdrBad hdr1 .keepalive = false ∧
    hdrBad { hdr1 with count := 1 } (.read [⟨0x1100, 1, 0⟩]) = false ∧
    (after (.read { hdr1 with count := 1 } [⟨0x1100, 1, 0⟩]) ses).out.length = 1 ∧
    (after (.write { hdr1 with count := 1 } [⟨⟨0x4212, 1, 0⟩, 3, leBytes 4 500⟩]) ses).num 0x4212 1 = 500 ∧
    ses.readStatus 3 0x1000 4 0 = stOK ∧ (objRow 0x1000 4).any (fun r => r.ty == .dom) = false ∧
    ses.readStatus 3 0x1300 5 0 = stOK ∧ (objRow 0x1300 5).any (fun r => r.ty == .dom) = true ∧
    (after (.claim { hdr1 with count := 0 } 2 false) ses).lease = 1 ∧
    ((after (.subscribe hdr1 0 1) ses).session 1).any (fun z => z.sub.isSome) = true ∧
    ((after (.keepalive hdr1) ses).session 1).any (fun z => z.next == 2) = true ∧ (after (.bye hdr1) ses).session 1 = none ∧
    (let h := { hdr1 with target := 5 }
     ses.mine h = false ∧ (after (.dapForward h [1, 2]) ses).out.length = 1) := by decide +kernel

theorem witness_stopped : let r := ses.setNum 0x1100 1 0 2
    let w : WriteItem := ⟨⟨0x4212, 1, 0⟩, 3, leBytes 4 500⟩
    ses.isStopped = true ∧ r.isStopped = false ∧ (objRow 0x4212 1).any (fun o => o.acc == .rws) = true ∧ maxSub 0x4212 ≠ none ∧
    instOk 0x4212 0 = true ∧ hasMirror 0x4212 1 = false ∧ r.session 1 = some { sid := 1, link := .loc, ceil := 3 } ∧ r.lease = 1 ∧
    r.accessStatus (.session 1) 0x4212 1 0 = stNotStopped ∧
    (ses.setNum 0x1300 3 0 2).accessStatus (.session 1) 0x4212 1 0 = stState ∧
    (after (.objectWrite (.session 1) w) r).dict = r.dict := by decide +kernel

/-! ### Power, the Thaw, firmware, sideband -/

/-- Cluster 0 (domain 1) and core 0 (domain 97) in these states. -/
def doms (cl co : Nat) (d : Device := {}) : Device := ((d.setNum 0x70C0 1 1 cl).setNum 0x70C0 1 97 co).setNum 0x70C0 1 (pdF 0) 0

theorem witness_power : let on := doms 0 0
    pdParent 97 = some 1 ∧ on.pdState 97 = 0 ∧ on.pdRefused 97 2 = false ∧
    (after (.pdRequestOff (.object (.session 1)) 96) (doms 0 0 ses)).pdState 97 = 3 ∧
    ses.valueStatus (.session 1) 0x70C0 2 97 2 = stOK ∧ ((doms 0 2).pdRefused 97 0) = false ∧
    (after (.pdRequestOn .thaw 96) (doms 0 2)).pdState 97 = 3 ∧
    (on.setThread 0 0 { st := .ready }).pdRefused 97 2 = true ∧
    raises (after (.pdRequestOff .thaw 96) (on.setThread 0 0 { st := .ready })) 0x6001 = 1 ∧
    (let d := after (.pdRequestOn .thaw 96) (doms 2 2)
     (doms 2 2).pdState 1 = 2 ∧ d.pdState 1 = 3 ∧ (d.pdS 97).waiting = some (0, wakeCode .thaw)) ∧
    (let d := (doms 0 2).setPd 97 { waiting := some (0, 6) }
     (after (.pdRequestApply 96) d).pdState 97 = 3 ∧ d.pdRefused 97 0 = false) ∧
    (let d := { (doms 0 3).setPd 97 { target := 2 } with time := { nowNs := 30000 } }
     (after (.domainGood 96) d).pdState 97 = 2 ∧ d.pwr.trip = false ∧ d.pdLate 97 = true ∧ (doms 0 3).pdLate 97 = false ∧ (d.setNum 0x1100 1 0 1).planRuns = false ∧
     raises (after (.domainTransitionTimeout 96) (d.setNum 0x1100 1 0 1)) 0x6002 = 1) ∧
    (({} : Device).setNum 0x70C0 1 (pdP 0) 1).pdState (pdP 0) = 1 := by decide +kernel

theorem witness_clocks : let c : Conn := .session 1
    isPoint 900 = true ∧ isPoint 901 = false ∧ belowFloor ses 900 = false ∧ ses.valueStatus c 0x1601 1 0 900 = stOK ∧
    (after (.pwrDieTargetMhz c 0 900) ses).num 0x1601 1 = 900 ∧ ses.valueStatus c 0x4602 1 0 900 = stOK ∧
    ses.valueStatus c 0x4602 5 0 7000 = stOK ∧ 7000 % 25 = 0 ∧
    (let d (q : DvSeq) := { ses with pwr := { ses.pwr with seq := [(0, q)] } }
     (d (.up ((d (.up 900)).dvGoal 0))).vcore 0 = ses.vcore 0) ∧
    raises (after (.thermalSensorRead (.junction 0 1200)) ses) 0x6005 = 1 ∧
    raises (after (.thermalSensorRead (.junction 0 1200)) ses) 0x6006 = 1 ∧
    raises (after (.thermalSensorRead (.input 3301 9)) ses) 0x6008 = 1 ∧
    raises (after (.hbmTempReport 0 96) ses) 0x6007 = 1 ∧ (after (.hbmTempReport 0 96) ses).num 0x70A0 4 1 = 96 := by decide +kernel

def boot0 : BootFacts :=
  { puf := [true], repair := [true, false], treeOk := true, edgesOk := true, laneRepairs := 0, hbm := 0, ddr := 0, dimms := [] }

/-- A Thaw at step k. -/
def atStep (k : Nat) : Device := ({ thaw := { began := true } } : Device).setNum 0x1D04 2 0 k

theorem witness_thaw : (atStep 4).thawing = true ∧ (atStep 4).thawStep = 4 ∧
    (after (.hardwareTrip .voltage 1 62000) {}).num 0x1100 1 = 4 ∧ tripReached .rail 7200 = false ∧ (after (.inputUndervoltage 37000) ses).mgmt.sessions = [] ∧
    (after .resetNLow ses).mgmt.sessions = [] ∧ (after (.resetNRise 0 39000 boot0) ses).thaw.began = false ∧
    raises (after (.resetNRise 0 48000 { boot0 with puf := [] }) {}) 0x7001 = 1 ∧
    (after (.thawStepDone boot0) (atStep 3)).thawStep = 4 ∧
    raises (after (.thawStepDone { boot0 with repair := [] }) (atStep 4)) 0x7003 = 1 ∧
    (after (.thawStepDone boot0) (atStep 5)).thawStep = 7 ∧
    raises (after (.thawStepDone { boot0 with edgesOk := false }) (atStep 5)) 0x400A = 1 ∧
    (after (.thawStepDone boot0) (atStep 8)).thawStep = 9 ∧ groupDue (atStep 7) 0 = true ∧ waveBusy (atStep 8) = false ∧
    spaced (atStep 8) = true ∧
    (let d := (atStep 7).setNum 0x70C0 1 (pdCl 0) 2
     (after (.clusterStoreGroup 0) d).pdState (pdCl 0) = 3) ∧
    (let d := doms 0 2 (atStep 8)
     (after (.thawWave 0 true) d).pdState (pdCo 0) = 3) ∧
    raises (after (.thawStepLimit 4 boot0 []) (late (atStep 4))) 0x7003 = 1 ∧ (late (atStep 7)).thawLate 7 = true ∧
    (atStep 9).thawLate 9 = false ∧
    raises (after (.thawWave 0 false) (atStep 8)) 0x7009 = 1 := by decide +kernel

theorem witness_repair : let ser := ({} : Device).domOf 0x1000 4
    repairOk factoryRepair ser = true ∧ boot0.repair.getD 0 false = true ∧ (atStep 8).thaw.wave = 0 := by decide +kernel

theorem witness_ready : (atStep 12).gateDone = true ∧ (after .thawReady (atStep 12)).thawStep = 13 ∧ raises (after .thawReady (atStep 12)) 0x700A = 1 := by
  decide +kernel

def chunk1 : List Byte :=
  let b := [1, 0] ++ leBytes 2 0 ++ leBytes 2 1 ++ leBytes 2 2 ++ zeros 24 ++ [7, 8]
  overB b 8 (leBytes 4 (crc32c b))

/-- The core at position 3 of the first position listens. -/
def listening (i : ImgS) : Device :=
  let d := atStep 9
  { d with thaw := { d.thaw with coUp := [3], img := [(3, i)] } }

theorem witness_images : chunkGood chunk1 1 = true ∧ chunk1.length = 34 ∧
    (after (.chunkRepairRequest ⟨0, 0, 3⟩ 1) (atStep 9)).dict = (atStep 9).dict ∧
    missingMask { count := 1, bitmap := 1 } = 0 := by decide +kernel

theorem witness_firmware : let c : Conn := .session 1
    let staged (n : Nat) := ses.setNum 0x1D01 3 0 n
    let cred : List Byte := [3, 1, 0, 0] ++ [7] ++ zeros 31 ++ zeros 48
    ses.accessStatus c 0x1D01 1 0 = stOK ∧ (after (.fwImage c [1, 2]) ses).num 0x1D01 3 = 1 ∧
    ses.valueStatus c 0x1D01 2 0 1 = stOK ∧ (after (.fwVerify c) (staged 1)).att.verifying = true ∧
    ses.valueStatus c 0x1D01 2 0 2 = stOK ∧ (after (.fwActivate c) (staged 2)).num 0x1D01 3 = 4 ∧
    ses.valueStatus c 0x1D01 2 0 3 = stOK ∧ raises (after (.fwCommit c) ses) 0x700E = 1 ∧
    (after (.fwVerifyDone boot0) { ses with att := { verifying := true } }).num 0x1D01 3 = 3 ∧
    (let d := after (.attNonce 1 (zeros 32)) (ses.setNum 0x1D02 5 0 0)
     d.att.queue = [1] ∧ (after (.quoteSigned true) (d.setNum 0x1D02 7 0 5)).num 0x1D02 6 = 1 ∧
     (after (.quoteSigned false) (d.setNum 0x1D02 7 0 0)).num 0x1D02 5 = 2) ∧
    (after .signingTreeRebuilt (ses.setNum 0x1D02 5 0 1)).num 0x1D02 5 = 0 ∧
    ses.accessStatus c 0x1D03 1 0 = stOK ∧ cred.length = 84 ∧ (after (.secCredWrite c cred) ses).creds = [cred] ∧
    ses.accessStatus c 0x1D03 2 0 = stOK ∧ (after (.secCredDelete c [7]) (after (.secCredWrite c cred) ses)).creds = [] ∧
    (after (.flashRecordWrite .creds cred true) ses).flashRec .creds = some cred := by decide +kernel

theorem witness_sideband : let d : Device := { pwr := { pwrgood := true, resetn := true }, thaw := { began := true, romRecovery := true } }
    d.sbUp = true ∧ (after .sbStatus { d with alert := true }).alert = false ∧ (after (.sbRecovLen 4) d).thaw.recLen = 4 ∧
    (after .sbBegin d).thaw.recState = 1 ∧
    (let e := after (.sbRecovData 7) (after (.sbRecovLen 4) (after .sbBegin d))
     e.thaw.recData = [7, 0, 0, 0] ∧ (after .recoveryCommit e).thaw.recState = 2 ∧
     (after (.recoveryVerifyDone boot0) (after .recoveryCommit e)).thaw.recState = 3) ∧
    ses.valueStatus (.session 1) 0x4F01 1 0 3 = stOK ∧ classPrio (after (.arbPrio (.session 1) 0 3) ses) 0 = 3 ∧
    (let x : ArbS := { inputs := [(0, { cls := some 2, age := 1 }), (5, { cls := some 2, age := 9 })] }
     (∃ y ∈ x.inputs, y.2.cls.isSome = true) ∧ ((arbitrate { x with count := 3 } 4 (fun _ => 0)).2.map (·.1)) = some 5) ∧
    ((doms 0 0).arb (arbKey (.rng 0))).inputs = [] ∧ 0 < arbR (.rng 0) ∧ arbMasked (doms 0 0) (.rng 0) 0 = false ∧
    said (after (.arbiterGrant (.rng 0) [(0, 2)] []) (doms 0 0)) = some (.granted (arbKey (.rng 0)) 0 0) := by decide +kernel

/-! ### Links, memory, background, ageing -/

def res0 : TrainRes := { ok := true, ber := 0, uncorr := 0 }

/-- Port 0 in a state of the port table, at a step of its training. -/
def port0 (st : Nat) (x : PortS) : Device := (({ link := { ports := [(0, x)] } } : Device).setNum 0x70B0 1 1 st)

theorem witness_training : (port0 1 { step := 2 }).portTrains 0 = true ∧
    raises (after (.portTrainingStepDone 0 { res0 with ok := false }) (port0 1 { step := 2 })) 0x5004 = 1 ∧
    raises (after (.portTrainingTimeout 0) (late (port0 1 { step := 2, attempt := 4 }))) 0x5003 = 1 ∧
    (port0 1 { step := 2 }).trainLate 0 = false ∧
    ((after (.portTrainingStepDone 0 res0) (port0 1 { step := 2 })).port 0).step = 3 ∧
    (after (.portTrainingStepDone 0 res0) (port0 1 { step := 6 })).portUp 0 = true ∧
    raises (after (.ident 0 0 0 0 0 0) (port0 1 { step := 4 })) 0x5006 = 1 ∧
    ((after (.lat 0 0 40 100) (port0 1 { step := 5 })).port 0).latPs = some 60 ∧
    ((after (.lat 0 0 0 100) (port0 1 { step := 5 })).port 0).latN = 0 ∧ 1000 ≤ res0.gateMs ∧
    (port0 2 {}).portUp 0 = true ∧ raises (after (.berWindowCheck 0 0 16) (port0 2 {})) 0x5002 = 1 ∧
    ((after (.codewordReceive 0 0 false []) (port0 2 {})).port 0).rxNext = 1 ∧
    ((after (.codewordReceive 0 5 false []) (port0 2 {})).port 0).rxNext = 0 ∧ alignPosition 0 = false ∧
    ((after (.codewordReceive 0 0 false []) (port0 2 { rxPos := 4095 })).port 0).rxNext = 0 ∧
    raises (after (.nakReceive 0 0) (port0 2 {})) 0x5005 = 1 ∧
    Map.get 0 ((after (.credit 0 [5, 0, 0, 0] []) (port0 2 {})).port 0).cred 0 = 5 := by decide +kernel

/-- A codeword whose last three symbols of each lane are wrong. -/
def noise : Levels := List.replicate 8 (List.replicate 325 0 ++ List.replicate 15 1)

theorem witness_nak : rsDecode (receiveLanes 0 [] noise) = none ∧
    ((after (.codewordReceive 0 0 false noise) (port0 2 {})).port 0).nak = true := by decide +kernel

/-- The check symbols of the message 1 are the generator's; one wrong symbol is corrected. -/
theorem test_rs : rsEncode [1] = 1 :: rsGenerator ∧ rsDecode ((1 :: rsGenerator).set 5 7) = some (1 :: rsGenerator, 1) := by
  decide +kernel

theorem witness_packets : let d := port0 2 {}
    let h : PktHdr := { typ := 0, len := 4, addr := BitVec.ofNat 43 (Device.storeAddr 0 0) }
    d.position = 0 ∧ badPacket h [] = false ∧ d.peerReach (Device.storeAddr 0 0) 4 = true ∧ (d.routeMode 0).2.1 = false ∧
    nextDir 0x111 0 0 = none ∧ nextDir 0x222 0 1 ≠ none ∧ (after (.rd 0 h []) d).mem = d.mem ∧
    d.responseRoom (Device.responseSlots h) = true ∧ d.takesPackets 0 = true ∧
    badPacket { h with typ := 1 } [1, 2, 3, 4] = false ∧ (after (.wr 0 { h with typ := 1 } [1, 2, 3, 4]) d).load (Device.storeAddr 0 0) 4 = 0x04030201 ∧
    badPacket { h with typ := 2, len := 0 } [] = false ∧ (after (.cpl 0 { h with typ := 2, len := 0 }) d).num 0x1702 12 = 1 ∧
    (let r : Req := { mover := .se 0, isWrite := false, isHdr := false, total := 8, left := 8 }
     let e := { d with link := { d.link with tags := [(0, some r)] } }
     (Map.get none (after (.cpld 0 { h with typ := 3 } [1, 2, 3, 4]) e).link.tags 0).map (·.left) = some 4 ∧
     raises (after (.completionTimeout 0) { e with time := { e.time with nowNs := 10 ^ 9 } }) 0x5009 = 1 ∧
     (after (.completionTimeout 0) e).link.tags = e.link.tags ∧ e.movq = []) ∧
    (let e := { d with link := { d.link with ports := [(0, { cred := [(0, 5)], ctl := [(1, 1)], ctlGap := 14, loc := [(h, [])] })] } }
     packetSlots h = 1 ∧ packetCls h = 0 ∧ Map.get 0 ((after (.packetStart 0 none (some (1, 0))) e).port 0).cred 0 = 4 ∧
     ((after (.packetStart 0 none (some (1, 0))) e).port 0).slots.map (fun x => x.1) = [1] ∧ ((e.port 0).txNext + 512 - (e.port 0).unacked) % 512 < 256 ∧ (e.port 0).ctlGap < 15) ∧
    (let e := { d with link := { d.link with ports := [(0, { ctlq := [(9, 7)] })] } }
     15 ≤ (e.port 0).ctlGap ∧ (e.placeMessages.port 0).ctlq = [(9, 7)] ∧
     Device.windowFull (e.placeMessages.port 0) = false ∧
     (match said (after (.packetStart 0 none (some (3, 0))) e) with | some (.controlSlot _ b) => b.length | _ => 0) = 128) ∧
    raises (after (.downset 0 0 true) d) 0x5007 = 1 ∧ (after (.pathlat 3 40) (d.setNum 0x1700 7 0 3)).num 0x1700 8 = 100 := by
  decide +kernel

/-- Shape 2 by 2 by 2 with ports 0 and 1 up. -/
def torus : Device :=
  let d := (port0 2 { ctl := [(1, 1)] }).setNum 0x70B0 1 2 2
  { d with link := { d.link with shapeNow := 0x222, posNow := 0, ports := [(0, { ctl := [(1, 1)] }), (1, { ctl := [(1, 1)] })] } }

theorem witness_forward : (torus.nextHop (portRail 1) (some (portDim 1)) false 1).isSome = true ∧
    nextDir torus.shape torus.position 1 ≠ none ∧ torus.portUp 0 = true ∧ torus.portUp 1 = true ∧
    (let d := (torus.setNum 0x1700 7 0 0).setNum 0x1200 3 0 1
     d.num 0x1700 7 = 0 ∧ 0 < Map.get 0 (d.port 0).ctl 1 ∧ d.mapPos 1 ≠ d.position ∧
     (after (.doneMessageForward 1 2 7) d).out.length = 2) ∧
    torus.takesPackets 0 = true ∧ ((after (.packetForward 1 { typ := 0, len := 4, dest := 1, via := 1 } []) torus).port 0).fwd.length = 1 := by decide +kernel

theorem witness_memory_errors : raises (after (.d2dLaneFail 0 true) {}) 0x4009 = 1 ∧ raises (after (.hbmErrorReport 0 0 .corrected 0) {}) 0x4002 = 1 ∧
    raises (after (.hbmErrorReport 0 0 .uncorrectable 0) {}) 0x4003 = 1 ∧ raises (after (.ddrCorrectedError 0) {}) 0x4004 = 1 ∧
    (match (({} : Device).setNum 0x1010 8 0 1).region Device.ddrBase with | .ddr _ => true | _ => false) = true ∧
    raises (after (.ddrUncorrectable (BitVec.ofNat 43 Device.ddrBase)) (({} : Device).setNum 0x1010 8 0 1)) 0x4005 = 1 ∧
    raises (after (.ddrChannelLoss 0) {}) 0x4006 = 1 ∧ raises (after (.unitFailureDetected (.engine 0 0)) {}) 0x8010 = 1 ∧
    raises (after (.unitFailureDetected (.monitor 0)) {}) 0x8011 = 1 := by decide +kernel

theorem witness_background : ({} : Device).bg.writeBack = [] ∧ inChannel 0 0 0 = true ∧ ({} : Device).planRuns = false ∧ (doms 0 0).pdState (pdCl 0) = 0 ∧
    (after (.csScrubSlot 0 0 .clean) (doms 0 0)).scrubAt 1024 = 1 ∧ raises (after (.csScrubSlot 0 0 .corrected) (doms 0 0)) 0x4010 = 1 ∧
    (let d := ((doms 0 0).setNum 0x70C0 1 (pdH 0) 0).setNum 0x70C0 1 (pdD 0) 0
     d.pdState (pdH 0) = 0 ∧ (after (.hbmScrubRead 0 0 .clean) d).scrubAt (hbmChan 0 0) = 1 ∧
     raises (after (.scrubPassDue (.hbm 0 0)) d) 0x4012 = 1 ∧ Map.get 0 (after (.hbmCalibration 0 0) d).bg.cal (hbmChan 0 0) = 1 ∧
     d.pdState (pdD 0) = 0 ∧ Map.get 0 (after (.zqCalibration 0) d).bg.cal (ddrKey 0) = 1 ∧ 0 < (d.setNum 0x70A1 3 1 16).ddrReads 0) ∧
    (let d : Device := { bg := { writeBack := [(scrubKey (.hbm 0 0), some (64, [0, 0]))] } }
     Map.get none (after (.scrubWriteBack (.hbm 0 0)) d).bg.writeBack (scrubKey (.hbm 0 0)) = none) ∧
    (after (.telemetrySnapshot false) {}).num 0x1C01 2 = 1 := by decide +kernel

/-- Block 0 erased 300 times and no other. -/
def worn : Device := { ses with flash := { ses.flash with erase := [(0, 300)] } }

theorem worn_fold (l : List Nat) (h : ∀ b ∈ l, b ≠ 0) :
    l.foldl (fun m b => (if Map.get 0 worn.flash.erase b < Map.get 0 worn.flash.erase m.1 then b else m.1,
      if Map.get 0 worn.flash.erase m.2 < Map.get 0 worn.flash.erase b then b else m.2)) (1, 0) = (1, 0) := by
  induction l with
  | nil => rfl
  | cons b l ih =>
    have hb := h b (by simp)
    have e (k : Nat) : Map.get 0 worn.flash.erase k = if 0 = k then 300 else 0 := by
      show Map.get 0 [(0, 300)] k = _
      rw [Map.get_cons, Map.get_nil]
    rw [List.foldl_cons]
    simpa [e, Ne.symm hb] using ih (fun b' hb' => h b' (by simp [hb']))

theorem witness_wear : worn.isStopped = true ∧
    256 < Map.get 0 worn.flash.erase (eraseEnds worn).2 - Map.get 0 worn.flash.erase (eraseEnds worn).1 := by
  have e : eraseEnds worn = (1, 0) := by
    unfold eraseEnds
    rw [show List.range 4096 = 0 :: 1 :: (List.range 4094).map (· + 2) from by
      rw [List.range_succ_eq_map, List.range_succ_eq_map]; simp [Function.comp_def], List.foldl_cons, List.foldl_cons]
    have a : Map.get 0 worn.flash.erase 0 = 300 := by decide +kernel
    have b : Map.get 0 worn.flash.erase 1 = 0 := by decide +kernel
    simpa [a, b] using worn_fold ((List.range 4094).map (· + 2)) (by simp)
  rw [e]
  decide +kernel

theorem witness_ageing : raises (after (.canaryReading 0 9 20 5 5) {}) 0x600B = 1 ∧ Map.get false (after (.ringOscReading 0 (-20001)) {}).age.due 0 = true ∧
    (after .powerOnHour {}).num 0x1C00 1 = 1 ∧
    (let v : List Nat := List.replicate 12 7000
     let d := { ses with age := { next := [(0, v)], due := [(0, true)] } }
     d.isStopped = true ∧ v.length = 12 ∧ raises (after (.marginPlanApply 0) d) 0x6009 = 1) := by decide +kernel

/-- The worked example of R368 for SE2 of cluster 37 and a tile in stack H5, in the column of all requesters. -/
theorem test_route : (nocPath 2 false (.cluster 1 14) (.phy 5)).map (·.1) =
      [.noc 1 2 14 portW, .noc 1 2 13 portW, .noc 1 2 12 portW, .noc 1 2 11 portW, .noc 1 2 10 portN, .noc 1 2 5 portL1] ∧
    (nocPath 2 true (.phy 5) (.cluster 1 14)).map (·.1) =
      [.noc 1 2 5 portE, .noc 1 2 6 portE, .noc 1 2 7 portE, .noc 1 2 8 portE, .noc 1 2 9 portS, .noc 1 2 14 portL0] ∧
    (let e : ChargeEnv := { c := 550, n := 8, season := 0, asked := [] }
     e.leg { hops := nocPath 2 false (.cluster 1 14) (.phy 5), far := true } = e.cyc 978 ∧
     e.leg { hops := nocPath 2 true (.phy 5) (.cluster 1 14), m := 9, far := true } = e.cyc (978 + 1280) ∧
     e.leg { hops := [(.hbm 5 0, 0)], m := 2, far := true } = e.ns 384) := by decide +kernel

/-! ### Harvests, the island, events -/

def withFacts (d : Device) : Device := { d with adm := { d.adm with plan := some {}, facts := some facts0 } }

theorem witness_harvests : let c : Conn := .session 1
    let m := master running
    let m4 := { (m.setNum 0x1200 4 0 1000000) with cad := { m.cad with members := [4] } }
    ses.valueStatus c 0x1501 1 0 1 = stOK ∧ (after (.hvCommand c 1) ses).hv.commanded = false ∧
    (let r := ses.setNum 0x1100 1 0 2
     r.valueStatus c 0x1501 1 0 1 = stOK ∧ (after (.hvCommand c 1) r).hv.commanded = true) ∧
    m4.isMaster = true ∧ m4.planRuns = true ∧ m4.cad.members.contains 4 = true ∧ m4.num 0x1200 4 ≠ 0 ∧
    (after (.hvRequest 4) m4).hv.announced = some 201 ∧ (after (.hvNext 5) running).num 0x1502 2 = 5 ∧
    (let w := { m4 with cad := { m4.cad with phase := 2 ^ 24 - 1 }, adm := { m4.adm with plan := some {} }, dict := (((m4.setNum 0x1210 1 0 1).setNum 0x1210 2 0 2).setNum 0x1210 3 0 3).dict, hv := { m4.hv with announced := some 1 } }
     w.season = 3 ∧ (after .announceAckTimeout w).hv.announced = some 2) ∧
    (let r := withFacts ((((running.setNum 0x1502 2 0 9).setNum 0x1210 1 0 1).setNum 0x1210 2 0 2).setNum 0x1210 3 0 3)
     let r := { r with cad := { r.cad with step := 9, phase := 2 ^ 24 - 1 } }
     r.season = 3 ∧ harvestDue r = true ∧ seasonDone r = true ∧ quiesced r = true ∧ r.num 0x1210 4 ≤ r.cad.phase ∧
     raises (after .harvestStop r) 0x8001 = 1) ∧
    (let r : HvRun := { slot := 0, step := 9, hnum := 3 }
     let d := { withFacts running with hv := { run := some { r with copied := true }, slotA := some { hnum := 3, step := 9, isSealed := true } } }
     d.slotImg 0 = some { hnum := 3, step := 9, isSealed := true } ∧ raises (after (.hvCommit 0) d) 0x8003 = 1 ∧
     raises (after (.hvCommit 3) d) 0x8002 = 1 ∧ (after (.hvCommit 3) d).num 0x1500 1 = 3) := by decide +kernel

theorem witness_exports : let f := { facts0 with members := [⟨4, 1, true, 0⟩] }
    let d := { running with adm := { running.adm with facts := some f } }
    let k := { d with hv := { keep := some { slot := 0, hnum := 7 } } }
    wardIn f d.devNo = some 4 ∧ ((after (.exportRegionReceive 0 (zeros 64) true false) d).hv.keep).isSome = true ∧
    k.regionEntry (Device.keepBase f 0) 1 = (0, 0) ∧ (after (.exportRegionReceive 1 [] true false) k).hv.keep.map (·.got) = some [1] ∧
    (after (.exportRegionReceive 1 [1] true false) k).hv.keep.map (·.retries) = some 1 ∧
    (after (.exportRegionReceive 1 [1] true false) { k with hv := { keep := some { slot := 0, hnum := 7, retries := 3 } } }).hv.keep = none ∧
    raises (after (.hvRestore 0 0) (running.setNum 0x1010 9 0 4)) 0x8008 = 1 ∧
    (after (.hvRestore 7 0) (running.setNum 0x1010 9 0 4)).hv.restore = some { point := 7, cause := 0 } ∧
    (let d := { running.setNum 0x1500 1 0 7 with hv := { exporting := true } }
     raises (after (.hvKeepSealed 0) d) 0x8005 = 1 ∧ raises (after (.hvKeepSealed 7) d) 0x8004 = 1) ∧
    (let d := { ses with hv := { restore := some { point := 7, cause := 0, failures := 1 } } }
     d.admState ≠ 2 ∧ d.admState ≠ 3 ∧ d.admState ≠ 4 ∧ raises (after (.restoreLoadDone false none) d) 0x8008 = 1) ∧
    (let i : Image := { hnum := 7, step := 3, isSealed := true }
     let d := { withFacts ses with hv := { slotA := some i, restore := some { point := 7, cause := 0 } } }
     let h := leBytes 4 0x56485A41 ++ [1, 0xA5] ++ zeros 38 ++ leBytes 4 1 ++ zeros 28 ++ leBytes 4 (crc32c [])
     let m := h ++ leBytes 4 (crc32c h)
     d.num 0x1500 6 ≠ 1 ∧ d.localImage 7 = some (0, i) ∧ d.imageIntact (Device.slotBase facts0 0) [] facts0 = false ∧
     (d.put (Device.slotBase facts0 0) m).imageIntact (Device.slotBase facts0 0) [] facts0 = true) := by decide +kernel

def isl (i : IslS) : Device := { isl := i }
def workFr (ep : Nat) : List Byte := sealed 96 (leBytes 4 0x574D5A41 ++ leBytes 4 ep ++ leBytes 4 1)

theorem witness_island : (after (.adcSample 3 4) (isl { on := true })).isl.pSum = 12 ∧
    (after (.adcSample 3 4) (isl { on := true, sample := 4095 })).isl.secs = 1 ∧
    (after .pulseEnd (isl { on := true, pulseLow := true })).isl.pulseLow = false ∧
    (after (.islandSelfCheck 2001 0) (isl { on := true })).isl.selfTest = true ∧
    (after .islandSupplyLoss (isl { on := true })).isl.on = false ∧ workGood (workFr 3) = true ∧
    (after (.workFrameReceive (workFr 3)) (isl { on := true })).isl.fig.frame = some (workFr 3) ∧
    (after (.workFrameReceive (zeros 96)) (isl { on := true })).isl.badFrames = 1 := by decide +kernel

/-- A record that passes the checks of the hub. -/
def record1 : List Byte := sealed 256 (leBytes 4 0x4D525A41 ++ leBytes 4 0 ++ leBytes 4 1) ++ zeros 5605

theorem witness_records : (after (.islandReset [] true) {}).isl.noKey = true ∧ (after (.islandReset [] true) {}).isl.boots = 1 ∧
    (let i : IslS := { on := true, unsigned := [(0, zeros 256)], resv := 5 }
     (after (.recordSigned true) (isl i)).isl.idx = 1 ∧ (after (.recordSigned false) (isl { i with resv := 0 })).isl.noSign = true) ∧
    (let i : IslS := { on := true, sample := 4096 * 3600 }
     i.noKey = false ∧ i.noSign = false ∧ i.moment = 0 ∧ i.unsigned = [] ∧ i.sample / 4096 = 3600) ∧
    (after .recordRotationSend (isl { on := true, records := [[1], [2]] })).isl.rot = 1 ∧
    (after (.calibrationSession true (some [7])) (isl { on := true, calEn := true })).isl.calid = 1 ∧
    (after .workFrameSend { thaw := { began := true }, work := { epoch := some 9 } }).work.seq = 1 ∧
    hubRuns ses = true ∧ raises (after (.hubRecordReceive record1 false) ses) 0x9002 = 1 ∧
    raises (after .recordLinkSilent (late ses)) 0x9001 = 1 ∧
    (let f := sealed 64 (leBytes 8 77)
     f.length = 64 ∧ crcTail f 64 = true ∧ (after (.statusFrameReceive f) ses).num 0x8001 1 = 77) := by decide +kernel

theorem witness_record1 : record1.length = 5861 ∧ fieldB record1 0 4 = 0x4D525A41 ∧ crcTail (record1.take 256) 256 = true ∧
    Map.get [] ses.met.records 1 = [] ∧ (after (.hubRecordReceive record1 true) ses).num 0x8002 2 = 1 := by decide +kernel

theorem witness_events : 3 ≤ ses.num 0x1D04 2 ∧ (Map.get {} ses.evt.log (ses.num 0x1E00 2 % 4096) : EvRec).seq = 0 ∧
    (let d := ses.raiseRaw 0x2207 0 0 0 0
     d.num 0x1E00 2 = 2 ∧ raises d 0x2207 = 1 ∧ d.num 0x1E01 2 = 1) ∧
    (evRow 0x600F).sev = 3 ∧ (ses.raiseRaw 0x600F 0 0 0 0).num 0x1100 1 = 4 ∧ (ses.raiseRaw 0x600F 0 0 0 0).alert = true := by
  decide +kernel

end Sys2Proof.Tests
end

/-! PROOFS. Instruction words of the cores: the fields of every layout are read back (R113 to R116, R125). -/

namespace Sys2Proof.Machine

/-! ### Fields of a word -/

theorem fld_one_beq (w lo : Nat) (b : Bool) : (fld w lo 1 == 1) = b ↔ fld w lo 1 = b.toNat := by
  have : fld w lo 1 < 2 := Nat.mod_lt _ (by decide)
  cases b <;> simp; omega

theorem toNat_extract_class (w : W64) : (w.extractLsb 63 61).toNat = fld w.toNat 61 3 := by
  rw [BitVec.extractLsb_toNat, Nat.shiftRight_eq_div_pow]
  rfl

theorem toNat_encOp {cls op rd a b imm : Nat} (hc : cls < 8) (ho : op < 64) (hd : rd < 16) (ha : a < 16) (hb : b < 16)
    (hi : imm < 2 ^ 32) : (encOp cls op rd a b imm).toNat =
      cls * 2 ^ 61 + op * 2 ^ 55 + rd * 2 ^ 51 + a * 2 ^ 47 + b * 2 ^ 43 + imm := by
  unfold encOp
  rw [BitVec.toNat_ofNat, Nat.mod_eq_of_lt]
  omega

/-- R114: every field of a control, sync or move word is read back, and its RSVD bits are 0. -/
theorem fld_encOp {cls op rd a b imm : Nat} (hc : cls < 8) (ho : op < 64) (hd : rd < 16) (ha : a < 16) (hb : b < 16)
    (hi : imm < 2 ^ 32) : let w := (encOp cls op rd a b imm).toNat
    fld w 61 3 = cls ∧ fld w 55 6 = op ∧ fld w 51 4 = rd ∧ fld w 47 4 = a ∧ fld w 43 4 = b ∧ fld w 0 32 = imm ∧
      fld w 32 11 = 0 := by
  simp only [toNat_encOp hc ho hd ha hb hi, fld]
  and_intros <;> omega

theorem toNat_encVec (f : VecFields) {vop : Nat} (hv : vop < 64) : (encVec vop f).toNat =
    3 * 2 ^ 61 + vop * 2 ^ 55 + f.fx.toNat * 2 ^ 53 + f.fy.toNat * 2 ^ 51 + f.fz.toNat * 2 ^ 49 +
    f.rmode.toNat * 2 ^ 47 + f.sat.toNat * 2 ^ 46 + f.rx.val * 2 ^ 42 + f.ry.val * 2 ^ 38 + f.rz.val * 2 ^ 34 +
    f.rw.val * 2 ^ 30 + f.rn.val * 2 ^ 26 := by
  have := f.sat.toNat_lt
  unfold encVec
  rw [BitVec.toNat_ofNat, Nat.mod_eq_of_lt]
  omega

theorem fld_encVec (f : VecFields) {vop : Nat} (hv : vop < 64) : let w := (encVec vop f).toNat
    fld w 61 3 = 3 ∧ fld w 55 6 = vop ∧ fld w 0 26 = 0 := by
  have := f.sat.toNat_lt
  simp only [toNat_encVec f hv, fld]
  and_intros <;> omega

/-- R125: the fields of a vector word are read back. -/
theorem decVec_encVec (f : VecFields) {vop : Nat} (hv : vop < 64) : decVec (encVec vop f).toNat = f := by
  have := f.sat.toNat_lt
  rw [toNat_encVec f hv]
  cases f
  simp only [decVec, fldReg, VecFields.mk.injEq, fld_one_beq, Fin.ext_iff, Fin.val_ofNat, ← BitVec.toNat_inj,
    BitVec.toNat_ofNat]
  simp only [fld] at *
  and_intros <;> omega

theorem toNat_encAcc (f : AccFields) : (encAcc f).toNat =
    4 * 2 ^ 61 + f.eng.val * 2 ^ 55 + f.mode.toNat * 2 ^ 52 + f.fmtA.toNat * 2 ^ 47 + f.fmtB.toNat * 2 ^ 42 +
    f.widthA.toNat * 2 ^ 38 + f.widthB.toNat * 2 ^ 34 + f.run.toNat * 2 ^ 32 + f.slot.val * 2 ^ 29 + f.init.toNat * 2 ^ 28 +
    f.len.toNat * 2 ^ 16 + f.table.val * 2 ^ 14 + f.ra.val * 2 ^ 10 + f.rb.val * 2 ^ 6 := by
  have := f.init.toNat_lt
  unfold encAcc
  rw [BitVec.toNat_ofNat, Nat.mod_eq_of_lt]
  omega

theorem fld_encAcc (f : AccFields) : let w := (encAcc f).toNat
    fld w 61 3 = 4 ∧ fld w 58 3 = 0 ∧ fld w 0 6 = 0 := by
  have := f.init.toNat_lt
  simp only [toNat_encAcc, fld]
  and_intros <;> omega

/-- R115: the fields of an accumulate are read back. -/
theorem decAcc_encAcc (f : AccFields) : decAcc (encAcc f).toNat = f := by
  have := f.init.toNat_lt
  rw [toNat_encAcc]
  cases f
  simp only [decAcc, fldReg, AccFields.mk.injEq, fld_one_beq, Fin.ext_iff, Fin.val_ofNat, ← BitVec.toNat_inj,
    BitVec.toNat_ofNat]
  simp only [fld] at *
  and_intros <;> omega

theorem toNat_encDrain (f : DrainFields) : (encDrain f).toNat =
    4 * 2 ^ 61 + 1 * 2 ^ 58 + f.eng.val * 2 ^ 55 + f.slot.val * 2 ^ 52 + f.fmtOut.toNat * 2 ^ 47 +
    f.widthOut.toNat * 2 ^ 43 + f.rmode.toNat * 2 ^ 41 + f.sat.toNat * 2 ^ 40 + f.add.toNat * 2 ^ 39 +
    f.clear.toNat * 2 ^ 38 + f.ro.val * 2 ^ 34 + f.rd.val * 2 ^ 30 + f.cnt.val * 2 ^ 24 := by
  have := f.sat.toNat_lt
  have := f.add.toNat_lt
  have := f.clear.toNat_lt
  unfold encDrain
  rw [BitVec.toNat_ofNat, Nat.mod_eq_of_lt]
  omega

theorem fld_encDrain (f : DrainFields) : let w := (encDrain f).toNat
    fld w 61 3 = 4 ∧ fld w 58 3 = 1 ∧ fld w 0 24 = 0 := by
  have := f.sat.toNat_lt
  have := f.add.toNat_lt
  have := f.clear.toNat_lt
  simp only [toNat_encDrain, fld]
  and_intros <;> omega

/-- R116: the fields of a drain are read back. -/
theorem decDrain_encDrain (f : DrainFields) : decDrain (encDrain f).toNat = f := by
  have := f.sat.toNat_lt
  have := f.add.toNat_lt
  have := f.clear.toNat_lt
  rw [toNat_encDrain]
  cases f
  simp only [decDrain, fldReg, DrainFields.mk.injEq, fld_one_beq, Fin.ext_iff, Fin.val_ofNat, ← BitVec.toNat_inj,
    BitVec.toNat_ofNat]
  simp only [fld] at *
  and_intros <;> omega

theorem toNat_encTable (f : TableFields) : (encTable f).toNat =
    4 * 2 ^ 61 + 2 * 2 ^ 58 + f.eng.val * 2 ^ 55 + f.slot.val * 2 ^ 53 + f.rs.val * 2 ^ 48 + f.cnt.val * 2 ^ 24 := by
  unfold encTable
  rw [BitVec.toNat_ofNat, Nat.mod_eq_of_lt]
  omega

theorem fld_encTable (f : TableFields) : let w := (encTable f).toNat
    fld w 61 3 = 4 ∧ fld w 58 3 = 2 ∧ fld w 0 24 = 0 ∧ fld w 30 18 = 0 ∧ fld w 52 1 = 0 := by
  simp only [toNat_encTable, fld]
  and_intros <;> omega

/-- R116: the fields of a table load are read back. -/
theorem decTable_encTable (f : TableFields) : decTable (encTable f).toNat = f := by
  rw [toNat_encTable]
  cases f
  simp only [decTable, fldReg, TableFields.mk.injEq, Fin.ext_iff, Fin.val_ofNat, fld]
  and_intros <;> omega

/-! ### Words read back -/

/-- The word `w` of core instruction `i` has the class of its family and RSVD fields of 0, and core `g` reads it back as `i` of
thread `t` (R113). -/
structure WordOf (i : Instr) (g : CoreN) (t : Thr) (w : W64) : Prop where
  cls : coreClass i = some (w.extractLsb 63 61).toNat
  rsvd : rsvdZero w = true
  decoded : ∃ ecc hits, decodeCore g t ecc hits w = i

/-- The instruction that a control, sync or move word of class `cls` says (R121 to R123). -/
def decOfClass (g : CoreN) (t : Thr) (ecc : EccRead) (hits : Hits) (cls op : Nat) (rd a b : Reg) (imm : BitVec 32) : Instr :=
  match cls with
  | 0 => decControl g t op rd a b imm
  | 1 => decSync g t hits op rd a b imm
  | _ => decMove g t ecc op rd a b imm

section
variable {i : Instr} {g : CoreN} {t : Thr} {ecc : EccRead} {hits : Hits} {cls op rd a b imm : Nat}

theorem decodeCore_encOp (hc : cls < 3) (ho : op < 64) (hd : rd < 16) (ha : a < 16) (hb : b < 16) (hi : imm < 2 ^ 32) :
    decodeCore g t ecc hits (encOp cls op rd a b imm) =
      decOfClass g t ecc hits cls op (Fin.ofNat 16 rd) (Fin.ofNat 16 a) (Fin.ofNat 16 b) (BitVec.ofNat 32 imm) := by
  obtain ⟨f61, f55, f51, f47, f43, f0, -⟩ := fld_encOp (show cls < 8 by omega) ho hd ha hb hi
  simp only [decodeCore, fldReg, f61, f55, f51, f47, f43, f0]
  obtain rfl | rfl | rfl : cls = 0 ∨ cls = 1 ∨ cls = 2 := by omega
  all_goals rfl

theorem WordOf.ofOp (ecc : EccRead) (hits : Hits) (hc : coreClass i = some cls) (hc3 : cls < 3) (ho : op < 64)
    (hd : rd < 16) (ha : a < 16) (hb : b < 16) (hi : imm < 2 ^ 32)
    (h : decOfClass g t ecc hits cls op (Fin.ofNat 16 rd) (Fin.ofNat 16 a) (Fin.ofNat 16 b) (BitVec.ofNat 32 imm) = i) :
    WordOf i g t (encOp cls op rd a b imm) := by
  obtain ⟨f61, -, -, -, -, -, f32⟩ := fld_encOp (show cls < 8 by omega) ho hd ha hb hi
  exact {
    cls := by rw [toNat_extract_class, f61, hc]
    rsvd := by
      simp only [rsvdZero, f61, f32]
      obtain rfl | rfl | rfl : cls = 0 ∨ cls = 1 ∨ cls = 2 := by omega
      all_goals rfl
    decoded := ⟨ecc, hits, (decodeCore_encOp hc3 ho hd ha hb hi).trans h⟩ }

theorem WordOf.vector {f : VecFields} (hc : coreClass i = some 3) (ho : op < 64) (h : decVector g t hits op f = i) :
    WordOf i g t (encVec op f) := by
  obtain ⟨f61, f55, f0⟩ := fld_encVec f ho
  exact {
    cls := by rw [toNat_extract_class, f61, hc]
    rsvd := by simp [rsvdZero, f61, f0]
    decoded := ⟨.clean, hits, by simp [decodeCore, f61, f55, decVec_encVec f ho, h]⟩ }

theorem WordOf.accumulate (f : AccFields) : WordOf (.accumulate g t f) g t (encAcc f) := by
  obtain ⟨f61, f58, f0⟩ := fld_encAcc f
  exact {
    cls := by rw [toNat_extract_class, f61, coreClass]
    rsvd := by simp [rsvdZero, f61, f58, f0]
    decoded := ⟨.clean, [], by simp [decodeCore, f61, f58, decAcc_encAcc]⟩ }

theorem WordOf.drain (f : DrainFields) : WordOf (.drain g t f hits) g t (encDrain f) := by
  obtain ⟨f61, f58, f0⟩ := fld_encDrain f
  exact {
    cls := by rw [toNat_extract_class, f61, coreClass]
    rsvd := by simp [rsvdZero, f61, f58, f0]
    decoded := ⟨.clean, hits, by simp [decodeCore, f61, f58, decDrain_encDrain]⟩ }

theorem WordOf.tableLoad (f : TableFields) : WordOf (.tableLoad g t f) g t (encTable f) := by
  obtain ⟨f61, f58, f0, f30, f52⟩ := fld_encTable f
  exact {
    cls := by rw [toNat_extract_class, f61, coreClass]
    rsvd := by simp [rsvdZero, f61, f58, f0, f30, f52]
    decoded := ⟨.clean, [], by simp [decodeCore, f61, f58, decTable_encTable]⟩ }

end

/-- By the five families of core instructions; no other command has a word. A load and a reader of SRAM words are read back
with what SECDED finds for them. -/
theorem wordOf_encodeCore {i : Instr} {w : W64} {g : CoreN} {t : Thr} (hw : encodeCore i = some w)
    (hg : issuer i = some (g, t)) : WordOf i g t w := by
  cases i with
  | j | beq | bne | bltu | bgeu | blt | bge | loop | halt | wait | sig | bar | fence | waitph
  | movi | movhi | add | sub | andB | orB | xorB | shl | shr | sra | mul | stl | stc | tld | tst | frel | setstr
  | rdph | rdid =>
    cases hg
    cases hw
    exact .ofOp .clean [] rfl (by decide) (by decide) (by omega) (by omega) (by omega) (by omega)
      (by simp [decOfClass, decControl, decSync, decMove])
  | aadd _ _ _ _ _ _ hits | acas _ _ _ _ _ _ hits | amax _ _ _ _ _ _ hits | watch _ _ _ _ hits =>
    cases hg
    cases hw
    exact .ofOp .clean hits rfl (by decide) (by decide) (by omega) (by omega) (by omega) (by omega)
      (by simp [decOfClass, decSync])
  | ldl _ _ _ _ _ ecc | ldc _ _ _ _ _ ecc =>
    cases hg
    cases hw
    exact .ofOp ecc [] rfl (by decide) (by decide) (by omega) (by omega) (by omega) (by omega)
      (by simp [decOfClass, decMove])
  | vadd | vsub | vmul | vfma | vmax | vmin | vabs | vexp2 | vlog2 | vrcp | vrsq | vrsum | vrmax | wupd =>
    cases hg
    cases hw
    exact .vector rfl (by decide) rfl
  | accumulate g t f => cases hg; cases hw; exact .accumulate f
  | drain g t f hits => cases hg; cases hw; exact .drain f
  | tableLoad g t f => cases hg; cases hw; exact .tableLoad f
  | _ => cases hw

theorem decodeCore_of_rsvd_class {g : CoreN} {t : Thr} {ecc : EccRead} {hits : Hits} {w : W64}
    (h : 5 ≤ (w.extractLsb 63 61).toNat) : decodeCore g t ecc hits w = .reservedInstruction g t := by
  rw [toNat_extract_class] at h
  obtain ⟨n, hn⟩ : ∃ n, fld w.toNat 61 3 = n + 5 := ⟨_, (Nat.sub_add_cancel h).symm⟩
  simp [decodeCore, hn]

/-- Settles O4: by the layout of each family's words, whose fields are read back one by one. -/
theorem coreWordsRoundTrip : Obligations.CoreWordsRoundTrip := by
  unfold Obligations.CoreWordsRoundTrip
  refine ⟨fun i w g t hw hg => ?_, fun g t ecc hits w h => decodeCore_of_rsvd_class h⟩
  obtain ⟨hc, hr, hd⟩ := wordOf_encodeCore hw hg
  exact ⟨hc, hr, hd⟩
end Sys2Proof.Machine

/-! PROOFS. What a core instruction does once its thread issues (R111); events that taint (R308); control operations (R122)
and the reserved instruction (R124). -/

namespace Sys2Proof.Machine

/-! ### Issue -/

theorem ThreadOnly.mem_eq {g t : Nat} {d d' : Device} (h : ThreadOnly g t d d') : d'.mem = d.mem := by rw [h.rest]

theorem ThreadOnly.evt_eq {g t : Nat} {d d' : Device} (h : ThreadOnly g t d d') : d'.evt = d.evt := by rw [h.rest]

theorem ThreadOnly.failed_eq {g t : Nat} {d d' : Device} (h : ThreadOnly g t d d') :
    (d'.core g).failed = (d.core g).failed := by
  have := congrArg CoreS.failed h.core
  exact this

theorem ThreadOnly.bankErr_eq {g t : Nat} {d d' : Device} (h : ThreadOnly g t d d') :
    (d'.core g).bankErr = (d.core g).bankErr := by
  have := congrArg CoreS.bankErr h.core
  exact this

theorem ThreadOnly.thread_ne {g t h u : Nat} {d d' : Device} (hd : ThreadOnly g t d d') (hn : (h, u) ≠ (g, t)) :
    d'.thread h u = d.thread h u := by
  by_cases hg : h = g
  · subst hg
    exact hd.threads u fun hu => hn (by rw [hu])
  · simp only [Device.thread, hd.cores h hg]

/-- Once its thread is picked, an instruction works on a device in which only the issue is counted and the pointer moved. -/
theorem completes_issue {c : Instr} {s : State} {g t : Nat} {f : Device → Thread → Device} {P : Device → Prop}
    (hp : s.dev.picks g t = true) (he : exec c s = s.run (fun d => d.issue g t f))
    (hP : ∀ d, ThreadOnly g t s.dev d → d.thread g t = s.dev.thread g t → P (f d (s.dev.thread g t))) : Completes c s P := by
  refine ⟨_, he, rfl, ?_⟩
  simp only
  rw [Device.issue_of_picks _ _ _ _ hp]
  exact hP _ (ThreadOnly.issued _ _ _) (by simp)

/-- An instruction that does no more than set its thread. -/
theorem completes_setThread {c : Instr} {s : State} {g t : Nat} {f : Device → Thread → Device} {y : Thread}
    (hp : s.dev.picks g t = true) (he : exec c s = s.run (fun d => d.issue g t f))
    (hf : ∀ d, d.thread g t = s.dev.thread g t → f d (s.dev.thread g t) = d.setThread g t y) :
    Completes c s (fun d => ThreadOnly g t s.dev d ∧ d.thread g t = y) := by
  refine completes_issue hp he (fun d hd ht => ?_)
  rw [hf d ht]
  exact ⟨hd.setThread y, Device.thread_setThread_same _ _ _ _⟩

/-! ### Events that taint -/

theorem num_of_dict_eq {d e : Device} (h : e.dict = d.dict) (i s k : Nat) : e.num i s k = d.num i s k := by
  unfold Device.num
  rw [h]

theorem taintFlag_raiseRaw (d : Device) (c ua ui a b : Nat) :
    (d.raiseRaw c ua ui a b).num 0x1401 1 = d.num 0x1401 1 := by
  refine (keeps_raiseRaw d c ua ui a b).num _ _ _ ?_
  simp only [rawObjs, List.map_cons, List.map_nil, List.mem_cons, List.not_mem_nil, okey, homeIdx]
  simp
  omega

theorem taintFlag_countEvent_taint (d : Device) : (d.countEvent 0x2207 0).num 0x1401 1 = d.num 0x1401 1 :=
  (keeps_countEvent d 0x2207 0).num _ _ _ (by rw [evRow_2207]; decide +kernel)

/-- R308: the step's flag is set. -/
theorem taintFlag_taint (d : Device) (c : Nat) : (d.taint c).num 0x1401 1 = 1 := by
  unfold Device.taint
  split
  · assumption
  · rw [num_of_dict_eq (Device.send_dict _ _), taintFlag_raiseRaw, taintFlag_countEvent_taint]
    refine (num_of_dict_eq (d := ((d.setNum 0x1401 1 0 1).setNum 0x1401 2 0 c).setNum 0x1401 3 0 d.cad.step)
      ?_ _ _ _).trans ?_
    · simp
    · rw [Device.num_setNum_ne _ _ (by decide), Device.num_setNum_ne _ _ (by decide), Device.num_setNum_same]

theorem taintFlag_raise (d : Device) {c : Nat} (h : (evRow c).taint = true) (ua ui a b : Nat) :
    (d.raise c ua ui a b).num 0x1401 1 = 1 := by
  unfold Device.raise
  simp [h, taintFlag_taint]

theorem evRow_7020 : evRow 0x7020 = ⟨0x7020, 2, true, [(0x1121, 3)]⟩ := by with_unfolding_all rfl

/-! ### A faulted thread -/

@[simp] theorem Device.core_raise (d : Device) (c ua ui a b h : Nat) : (d.raise c ua ui a b).core h = d.core h := by
  simp [Device.core]

/-- R103: the faulted thread keeps its other parts, and the other threads theirs. -/
theorem thread_faultThread (d : Device) (g t code h u : Nat) : (d.faultThread g t code).thread h u =
    if (h, u) = (g, t) then { d.thread g t with st := .faulted } else d.thread h u := by
  unfold Device.faultThread
  by_cases hg : g = h
  · subst hg
    by_cases hu : t = u
    · subst hu
      simp [Device.thread, CoreS.thread, CoreS.setThread]
    · simp [Device.thread, CoreS.thread, CoreS.setThread, Map.get_set_ne _ _ _ hu, Ne.symm hu]
  · simp [Device.thread, Device.core_modCore_ne _ _ hg, Ne.symm hg]

theorem raised_faultThread (d : Device) (g t : Nat) {code : Nat} (h : code ≠ 0x2207) :
    Raised code d (d.faultThread g t code) := by
  unfold Device.faultThread Raised
  simpa [Raised] using d.raise_raised 0x7020 (g + 1) 0 0 h

theorem mem_faultThread (d : Device) (g t code : Nat) : (d.faultThread g t code).mem = d.mem := by
  simp [Device.faultThread]

theorem taintFlag_faultThread (d : Device) (g t : Nat) {code : Nat} (h : (evRow code).taint = true) :
    (d.faultThread g t code).num 0x1401 1 = 1 := by
  unfold Device.faultThread
  have hne : okey (homeIdx 0x1401) 1 0 ≠ okey (homeIdx 0x7020) 4 (g + 1) := by
    simp [okey, homeIdx]
    omega
  rw [num_of_dict_eq (Device.modCore_dict _ _ _), (keeps_addNum _ _ _ _ _).num _ _ _ (by simpa using hne)]
  exact taintFlag_raise d h _ _ _ _

/-! ### Control operations -/

/-- R122: a thread after a jump that is taken or not. -/
def jumpIf (x : Thread) (imm : BitVec 32) (taken : Bool) : Thread :=
  { x with pc := if taken then imm.setWidth 13 else x.pc + 1 }

theorem jump_or_advance (d : Device) (g t : Nat) (imm : BitVec 32) (h : (d.thread g t).pc ≠ 8191) (p : Prop) [Decidable p] :
    (if p then jump d g t imm else d.advance g t) = d.setThread g t (jumpIf (d.thread g t) imm (decide p)) := by
  by_cases hp : p
  · simp [hp, jumpIf, jump, target]
  · simp [hp, jumpIf, Device.advance_of_ne _ _ _ h]

theorem completes_branch {c : Instr} {s : State} {g t : Nat} {a b : Reg} {imm : BitVec 32} {cmp : W64 → W64 → Bool}
    (hi : Issues s.dev g t) (he : exec c s = s.run (fun d => branch d g t a b imm cmp)) {p : Bool}
    (hp : cmp ((s.dev.thread g t).reg a) ((s.dev.thread g t).reg b) = p) :
    Completes c s (fun d => ThreadOnly g t s.dev d ∧ d.thread g t = jumpIf (s.dev.thread g t) imm p) := by
  refine completes_setThread hi.1 he (fun d ht => ?_)
  rw [jump_or_advance _ _ _ _ (ht ▸ hi.2), ht, hp, Bool.decide_eq_true]

/-- LOOP jumps while the register that it counts down is not 0; register 0 reads as 0 and never jumps. -/
theorem completes_loop {s : State} {g : CoreN} {t : Thr} {rd : Reg} {imm : BitVec 32} (hi : Issues s.dev g t) :
    let x := s.dev.thread g t
    Completes (.loop g t rd imm) s (fun d => ThreadOnly g t s.dev d ∧
      (d.thread g t).pc = (if rd.val ≠ 0 ∧ x.reg rd ≠ 1 then imm.setWidth 13 else x.pc + 1) ∧
      (d.thread g t).st = .ready ∧ ∀ r, (d.thread g t).reg r = if r = rd ∧ rd.val ≠ 0 then x.reg rd - 1 else x.reg r) := by
  intro x
  refine completes_issue hi.1 rfl (fun d hd _ => ?_)
  let y := x.setReg rd (x.reg rd - 1)
  have hpc : y.pc = x.pc := Thread.setReg_pc _ _ _
  have hst : y.st = .ready := (Thread.setReg_st _ _ _).trans (Device.ready_of_picks _ _ _ hi.1)
  have hjump : y.reg rd ≠ 0 ↔ rd.val ≠ 0 ∧ x.reg rd ≠ 1 := by
    by_cases h0 : rd.val = 0
    · simp [Thread.reg, h0]
    · simp [y, Thread.reg_setReg, h0, BitVec.sub_eq_iff_eq_add]
  have hy := jump_or_advance (d.setThread g t y) g t imm (by simpa [hpc] using hi.2) (y.reg rd ≠ 0)
  rw [Device.thread_setThread_same] at hy
  simp only [x, y] at hy
  rw [hy, Device.thread_setThread_same]
  refine ⟨(hd.setThread _).setThread _, ?_, hst, fun r => Thread.reg_setReg _ _ _ _⟩
  simp only [jumpIf, decide_eq_true_eq]
  rw [if_congr hjump rfl (by rw [hpc])]

/-! ### OP codes -/

theorem toNat_extract_op (w : W64) : (w.extractLsb 60 55).toNat = fld w.toNat 55 6 := by
  rw [BitVec.extractLsb_toNat, Nat.shiftRight_eq_div_pow]
  rfl

theorem class_op_encOp {cls op rd a b imm : Nat} (hc : cls < 8) (ho : op < 64) (hd : rd < 16) (ha : a < 16) (hb : b < 16)
    (hi : imm < 2 ^ 32) : let w := encOp cls op rd a b imm
    ((w.extractLsb 63 61).toNat, (w.extractLsb 60 55).toNat) = (cls, op) := by
  obtain ⟨f61, f55, -⟩ := fld_encOp hc ho hd ha hb hi
  simp only [toNat_extract_class, toNat_extract_op, f61, f55]

theorem decodeCore_of_reserved_control {g : CoreN} {t : Thr} {ecc : EccRead} {hits : Hits} {w : W64}
    (hc : (w.extractLsb 63 61).toNat = 0) (ho : 9 ≤ (w.extractLsb 60 55).toNat) :
    decodeCore g t ecc hits w = .reservedInstruction g t := by
  rw [toNat_extract_class] at hc
  rw [toNat_extract_op] at ho
  obtain ⟨n, hn⟩ : ∃ n, fld w.toNat 55 6 = n + 9 := ⟨_, (Nat.sub_add_cancel ho).symm⟩
  simp [decodeCore, hc, decControl, hn]

/-- Settles O10: control operations only set their thread; the reserved instruction faults it. -/
theorem controlFlow : Obligations.ControlFlow := by
  unfold Obligations.ControlFlow
  refine ⟨⟨?_, ?_⟩, ?_⟩
  · intro g t rd a b imm ecc hits w
    refine ⟨?_, ?_, ?_, ?_, ?_, ?_, ?_, ?_, ?_, decodeCore_of_reserved_control⟩
    all_goals exact congrArg some (class_op_encOp (by decide) (by decide) (by omega) (by omega) (by omega) (by omega))
  · intro s g t rd a b imm hi
    refine ⟨completes_setThread hi.1 rfl fun d ht => ?_, completes_branch hi rfl ?_, completes_branch hi rfl ?_,
      completes_branch hi rfl ?_, completes_branch hi rfl ?_, completes_branch hi rfl ?_, completes_branch hi rfl ?_,
      completes_setThread hi.1 rfl fun _ _ => rfl, completes_loop hi⟩
    · simp [jump, target, ht]
    · rfl
    · exact (decide_not (p := _ = _)).symm
    · rfl
    · simp only [BitVec.ult, ← decide_not, Nat.not_lt]
    · rfl
    · simp only [BitVec.slt, ← decide_not, Int.not_lt]
  · intro s g t hp
    refine completes_issue hp rfl fun d hd ht => ⟨?_, ?_, ?_, ?_, fun h u hu => ?_⟩
    · simpa only [Raised, hd.evt_eq] using raised_faultThread d g t (code := 0x7020) (by decide)
    · rw [thread_faultThread, if_pos rfl, ht]
    · exact taintFlag_faultThread _ _ _ (by rw [evRow_7020])
    · rw [mem_faultThread, hd.mem_eq]
    · rw [thread_faultThread, if_neg hu, hd.thread_ne hu]
end Sys2Proof.Machine

/-! PROOFS. Loads of what was stored, and what SECDED finds in local memory (R108). -/

namespace Sys2Proof.Machine

/-! ### Bytes stored and loaded -/

theorem length_leBytes (n v : Nat) : (leBytes n v).length = n := by
  induction n generalizing v with
  | zero => rfl
  | succ n ih => simp [leBytes, ih]

theorem getD_leBytes {n i : Nat} (v : Nat) (h : i < n) : (leBytes n v).getD i 0 = BitVec.ofNat 8 (v / 256 ^ i) := by
  induction n generalizing v i with
  | zero => omega
  | succ n ih =>
    cases i with
    | zero => simp [leBytes]
    | succ i => rw [leBytes, List.getD_cons_succ, ih _ (by omega), Nat.div_div_eq_div_mul, Nat.pow_succ']

theorem storesBytes_store (d : Device) (a n v : Nat) : StoresBytes a n v d (d.store a n v) := by
  intro x
  rw [Device.store, Device.byteAt_put, length_leBytes]
  split
  · rename_i h
    exact getD_leBytes v (by omega)
  · rfl

theorem StoresBytes.of_mem_eq {a n v : Nat} {d e d' e' : Device} (h : StoresBytes a n v d e) (hd : d'.mem = d.mem)
    (he : e'.mem = e.mem) : StoresBytes a n v d' e' := by
  simpa only [StoresBytes, Device.byteAt, hd, he] using h

theorem load_of_mem_eq {d e : Device} (h : e.mem = d.mem) (a n : Nat) : e.load a n = d.load a n := by
  have hb : e.bytes a n = d.bytes a n := by
    induction n generalizing a with
    | zero => rfl
    | succ n ih => simp only [Device.bytes, Device.byteAt, h, ih]
  simp only [Device.load, hb]

theorem load_eq_zero {d : Device} {a n : Nat} (h : ∀ x, a ≤ x → x < a + n → d.byteAt x = 0) : d.load a n = 0 := by
  unfold Device.load
  induction n generalizing a with
  | zero => rfl
  | succ n ih =>
    rw [Device.bytes, leNat, h a (by omega) (by omega), ih fun x _ _ => h x (by omega) (by omega)]
    rfl

theorem load_store_zero (d : Device) (a n : Nat) : (d.store a n 0).load a n = 0 :=
  load_eq_zero fun x h1 h2 => by simp [storesBytes_store d a n 0 x, h1, h2]

/-! ### What SECDED finds -/

theorem region_localAddr (d : Device) {g off : Nat} (hg : g < 1536) (ho : off < 0x100000) :
    d.region (Device.localAddr g off) = .localMem g off := by
  have hge : Device.localBase ≤ Device.localAddr g off := by unfold Device.localAddr; omega
  have hlt : Device.localAddr g off < Device.localBase + 1536 * 0x100000 := by unfold Device.localAddr; omega
  have hs : Device.sramBase + 96 * 0x1000000 ≤ Device.localBase := by decide
  have hsub : Device.localAddr g off - Device.localBase = g * 0x100000 + off := by unfold Device.localAddr; omega
  unfold Device.region
  rw [if_neg (by omega), if_neg (by omega), if_pos (by simp [hge, hlt]), hsub,
    show (g * 0x100000 + off) / 0x100000 = g by omega, show (g * 0x100000 + off) % 0x100000 = off by omega]

theorem evRow_400D : evRow 0x400D = ⟨0x400D, 0, false, [(0x1121, 5)]⟩ := by with_unfolding_all rfl
theorem evRow_400E : evRow 0x400E = ⟨0x400E, 2, true, [(0x1121, 6)]⟩ := by with_unfolding_all rfl
theorem evRow_8010 : evRow 0x8010 = ⟨0x8010, 2, true, [(0x1121, 7)]⟩ := by with_unfolding_all rfl

theorem sramHit_of_localMem (d : Device) {g off a : Nat} (h : d.region a = .localMem g off) (ecc : EccRead) :
    d.sramHit a ecc = (if ecc = .uncorrectable then d.store (a / 8 * 8) 8 0 else d).localEcc g off ecc := by
  simp only [Device.sramHit, h]

theorem localEcc_corrected (d : Device) (g off : Nat) : d.localEcc g off .corrected =
    (d.raise 0x400D 0x7020 (g + 1) (Device.localAddr g off) 0).modClu (Device.clusterOf g)
      (fun c => { c with corrected := c.corrected + 1 }) := rfl

/-- The uncorrectable errors that a core has met in the bank of a local offset. -/
def bankErrs (c : CoreS) (off : Nat) : Nat := Map.get 0 c.bankErr (off / 64 % 32)

/-- An uncorrectable error at a local offset is an event and counts in its bank. -/
def bankFault (d : Device) (g off : Nat) : Device :=
  (d.raise 0x400E 0x7020 (g + 1) (Device.localAddr g off) 0).modCore g
    (fun c => { c with bankErr := Map.set 0 c.bankErr (off / 64 % 32) (bankErrs (d.core g) off + 1) })

/-- R108: the second error of a bank fails the core. -/
theorem localEcc_uncorrectable (d : Device) (g off : Nat) : d.localEcc g off .uncorrectable =
    if 1 ≤ bankErrs (d.core g) off then (bankFault d g off).failCore g else bankFault d g off := by
  simp only [Device.localEcc, Device.core_raise, bankFault, bankErrs]
  exact if_congr Nat.succ_le_succ_iff rfl rfl

theorem localAddr_aligned {g off : Nat} (h : off % 8 = 0) : Device.localAddr g off / 8 * 8 = Device.localAddr g off := by
  have : Device.localBase % 8 = 0 := by decide
  unfold Device.localAddr
  omega

theorem Raised.of_evt_eq {c : Nat} {d e d' e' : Device} (h : Raised c d e) (hd : d'.evt = d.evt) (he : e'.evt = e.evt) :
    Raised c d' e' := by
  rw [Raised, hd, he]
  exact h

/-- Raising one event counts no other one, but for the taint's own. -/
theorem raised_raise_ne (d : Device) {c c' : Nat} (ua ui a b : Nat) (hc : c ≠ c') (h : c' ≠ 0x2207) :
    Map.get 0 (d.raise c ua ui a b).evt.raised c' = Map.get 0 d.evt.raised c' := by
  unfold Device.raise
  simp only []
  split
  · rw [Device.taint_raised _ _ h]
    simp [Map.get_upd_ne _ _ _ hc]
  · simp [Map.get_upd_ne _ _ _ hc]

section
variable (d : Device) (g off : Nat)

theorem raised_bankFault : Raised 0x400E d (bankFault d g off) := d.raise_raised _ _ _ _ (by decide)

theorem raised_bankFault_ne {c : Nat} (hc : 0x400E ≠ c) (h : c ≠ 0x2207) :
    Map.get 0 (bankFault d g off).evt.raised c = Map.get 0 d.evt.raised c := raised_raise_ne d _ _ _ _ hc h

@[simp] theorem mem_bankFault : (bankFault d g off).mem = d.mem := by simp [bankFault]

theorem taintFlag_bankFault : (bankFault d g off).num 0x1401 1 = 1 := by
  rw [bankFault, num_of_dict_eq (Device.modCore_dict _ _ _)]
  exact taintFlag_raise d (by rw [evRow_400E]) _ _ _ _

@[simp] theorem failed_bankFault : ((bankFault d g off).core g).failed = (d.core g).failed := by simp [bankFault]

@[simp] theorem thread_bankFault (t : Nat) : (bankFault d g off).thread g t = d.thread g t := by
  simp [bankFault, Device.thread, CoreS.thread]

theorem bankErrs_bankFault : bankErrs ((bankFault d g off).core g) off = bankErrs (d.core g) off + 1 := by
  simp [bankFault, bankErrs]

end

/-- R141, R515: a core that fails loses its threads; memory stays, and event 0x8010 is raised. -/
theorem failCore_inv {d : Device} {g : Nat} (h : (d.core g).failed = false) : ∃ (e : Device) (a1 : Nat),
    d.failCore g = (e.raise 0x8010 0x7020 (g + 1) 0 a1).askRestore 0x8010 ∧ e.mem = d.mem ∧ e.evt = d.evt ∧
      (e.core g).failed = true ∧ (e.core g).thr = [] := by
  refine ⟨_, _, (if_neg (by simp [h])).trans rfl, rfl, rfl, ?_, ?_⟩
  · simp [Device.core, Device.modCore, Device.setCore]
  · simp [Device.core, Device.modCore, Device.setCore]

/-! ### The load -/

theorem core_of_cores_eq {d e : Device} (h : e.cores = d.cores) (g : Nat) : e.core g = d.core g := by
  simp only [Device.core, h]

section
variable {d e : Device} {g t off : Nat} {rd : Reg} {ecc : EccRead} (ha : off % 8 = 0) (ho : off < 0x100000)
  (he : d.sramHit (Device.localAddr g off) ecc = e)
include ha ho he

theorem loadLocal_of_ready (hst : (e.thread g t).st = .ready) :
    loadLocal d g t rd off ecc = e.writeReg g t rd (BitVec.ofNat 64 (e.load (Device.localAddr g off) 8)) := by
  have hb : localBad off = false := by simp [localBad, ha, ho]
  simp [loadLocal, hb, he, hst]

/-- A thread of a core that has failed takes nothing. -/
theorem loadLocal_of_not_ready (hst : (e.thread g t).st ≠ .ready) : loadLocal d g t rd off ecc = e := by
  have hb : localBad off = false := by simp [localBad, ha, ho]
  simp [loadLocal, hb, he, hst]

end

/-- The parts of a device that a register write keeps, and what the thread then is. -/
structure RegWritten (g t : Nat) (rd : Reg) (v : W64) (d d' : Device) : Prop where
  mem : d'.mem = d.mem
  evt : d'.evt = d.evt
  dict : d'.dict = d.dict
  failed : (d'.core g).failed = (d.core g).failed
  bankErr : (d'.core g).bankErr = (d.core g).bankErr
  goes : goesOn (d.thread g t) (d'.thread g t)
  regs : ∀ r, (d'.thread g t).reg r = if r = rd ∧ rd.val ≠ 0 then v else (d.thread g t).reg r

theorem regWritten_writeReg {d : Device} {g t : Nat} (rd : Reg) (v : W64) (hpc : (d.thread g t).pc ≠ 8191)
    (hst : (d.thread g t).st = .ready) : RegWritten g t rd v d (d.writeReg g t rd v) := by
  rw [Device.writeReg, Device.advance_of_ne _ _ _ (by simpa using hpc)]
  exact {
    mem := rfl
    evt := rfl
    dict := rfl
    failed := by simp [Device.setThread, CoreS.setThread]
    bankErr := by simp [Device.setThread, CoreS.setThread]
    goes := by simp [goesOn, hst]
    regs := fun r => by simpa [Thread.reg] using Thread.reg_setReg (d.thread g t) rd r v }

section
variable {d : Device} {g : CoreN} {t : Thr} {rd : Reg} {off : Nat}

/-- R108: a correctable error is an event; the load takes the word. -/
theorem loadLocal_corrected (ha : off % 8 = 0) (ho : off < 0x100000) (hpc : (d.thread g t).pc ≠ 8191)
    (hst : (d.thread g t).st = .ready) : ∃ e : Device,
    RegWritten g t rd (BitVec.ofNat 64 (d.load (Device.localAddr g off) 8)) e (loadLocal d g t rd off .corrected) ∧
      Raised 0x400D d e ∧ e.mem = d.mem ∧ e.cores = d.cores := by
  let e := d.localEcc g off .corrected
  have hhit : d.sramHit (Device.localAddr g off) .corrected = e := by
    rw [sramHit_of_localMem d (region_localAddr d g.isLt ho), if_neg (by simp)]
  have hmem : e.mem = d.mem := by simp [e, localEcc_corrected]
  have hcores : e.cores = d.cores := by simp [e, localEcc_corrected]
  have hthr : e.thread g t = d.thread g t := congrArg (CoreS.thread · t) (core_of_cores_eq hcores g)
  refine ⟨e, ?_, d.raise_raised 0x7020 (g + 1) (Device.localAddr g off) 0 (by decide), hmem, hcores⟩
  rw [loadLocal_of_ready ha ho hhit (hthr ▸ hst), load_of_mem_eq hmem]
  exact regWritten_writeReg _ _ (hthr ▸ hpc) (hthr ▸ hst)

theorem sramHit_uncorrectable (ha : off % 8 = 0) (ho : off < 0x100000) :
    d.sramHit (Device.localAddr g off) .uncorrectable =
      (d.store (Device.localAddr g off) 8 0).localEcc g off .uncorrectable := by
  rw [sramHit_of_localMem d (region_localAddr d g.isLt ho), if_pos rfl, localAddr_aligned ha]

/-- The first uncorrectable error of a bank: the word and the load take zeros, and the thread goes on. -/
theorem loadLocal_first_uncorrectable (ha : off % 8 = 0) (ho : off < 0x100000) (hpc : (d.thread g t).pc ≠ 8191)
    (hst : (d.thread g t).st = .ready) (h0 : bankErrs (d.core g) off = 0) :
    let d' := loadLocal d g t rd off .uncorrectable
    Raised 0x400E d d' ∧ d'.num 0x1401 1 = 1 ∧ StoresBytes (Device.localAddr g off) 8 0 d d' ∧
      (d'.core g).failed = (d.core g).failed ∧ bankErrs (d'.core g) off = 1 ∧ goesOn (d.thread g t) (d'.thread g t) ∧
      ∀ r, (d'.thread g t).reg r = if r = rd ∧ rd.val ≠ 0 then 0 else (d.thread g t).reg r := by
  let z := d.store (Device.localAddr g off) 8 0
  have hz : bankErrs (z.core g) off = 0 := h0
  have hthr : (bankFault z g off).thread g t = d.thread g t := thread_bankFault _ _ _ _
  have hhit : d.sramHit (Device.localAddr g off) .uncorrectable = bankFault z g off := by
    rw [sramHit_uncorrectable ha ho, localEcc_uncorrectable, if_neg (show ¬ 1 ≤ bankErrs (z.core g) off by omega)]
  have hw := regWritten_writeReg rd 0 (hthr ▸ hpc) (hthr ▸ hst)
  intro d'
  have hd' : d' = (bankFault z g off).writeReg g t rd 0 := by
    simp only [d']
    rw [loadLocal_of_ready ha ho hhit (hthr ▸ hst), load_of_mem_eq (mem_bankFault _ _ _), load_store_zero]
    rfl
  rw [← hd'] at hw
  refine ⟨(raised_bankFault z g off).of_evt_eq rfl hw.evt, ?_, ?_, ?_, ?_, hthr ▸ hw.goes, hthr ▸ hw.regs⟩
  · exact (num_of_dict_eq hw.dict _ _ _).trans (taintFlag_bankFault _ _ _)
  · exact (storesBytes_store _ _ _ _).of_mem_eq rfl (hw.mem.trans (mem_bankFault _ _ _))
  · exact hw.failed.trans (failed_bankFault _ _ _)
  · rw [bankErrs, hw.bankErr, ← bankErrs, bankErrs_bankFault, hz]

/-- The second one fails the core. -/
theorem loadLocal_second_uncorrectable (ha : off % 8 = 0) (ho : off < 0x100000) (hf : (d.core g).failed = false)
    (h1 : 1 ≤ bankErrs (d.core g) off) :
    let d' := loadLocal d g t rd off .uncorrectable
    Raised 0x400E d d' ∧ d'.num 0x1401 1 = 1 ∧ StoresBytes (Device.localAddr g off) 8 0 d d' ∧
      (d'.core g).failed = true ∧ Raised 0x8010 d d' := by
  let z := d.store (Device.localAddr g off) 8 0
  have hz : 1 ≤ bankErrs (z.core g) off := h1
  obtain ⟨e, a1, he, hmem, hevt, hfail, hthr⟩ := failCore_inv (d := bankFault z g off) ((failed_bankFault _ _ _).trans hf)
  let r := e.raise 0x8010 0x7020 (g + 1) 0 a1
  have hhit : d.sramHit (Device.localAddr g off) .uncorrectable = r.askRestore 0x8010 := by
    rw [sramHit_uncorrectable ha ho, localEcc_uncorrectable, if_pos hz, he]
  have hcore : (r.askRestore 0x8010).core g = e.core g := Device.core_raise _ _ _ _ _ _ _
  have hst : ((r.askRestore 0x8010).thread g t).st = .free := by
    rw [Device.thread, hcore, CoreS.thread, hthr, Map.get_nil]
  intro d'
  have hd' : d' = r.askRestore 0x8010 := loadLocal_of_not_ready ha ho hhit (by rw [hst]; decide)
  rw [hd']
  refine ⟨?_, ?_, ?_, hcore ▸ hfail, ?_⟩
  · have : Map.get 0 r.evt.raised 0x400E = Map.get 0 e.evt.raised 0x400E := raised_raise_ne e _ _ _ _ (by decide) (by decide)
    exact this.trans (hevt ▸ raised_bankFault z g off)
  · exact (num_of_dict_eq (d := r) (e := r.askRestore 0x8010) rfl _ _ _).trans (taintFlag_raise e (by rw [evRow_8010]) _ _ _ _)
  · exact (storesBytes_store _ _ _ _).of_mem_eq rfl
      (((Device.raise_mem e _ _ _ _ _).trans hmem).trans (mem_bankFault _ _ _))
  · have : Raised 0x8010 e r := e.raise_raised _ _ _ _ (by decide)
    rw [Raised, hevt, raised_bankFault_ne z g off (by decide) (by decide)] at this
    exact this

end

section
variable {s : State} {g : CoreN} {t : Thr} {rd a : Reg} {imm : BitVec 32} (hi : Issues s.dev g t)
include hi

theorem completes_ldl_corrected :
    let x := s.dev.thread g t
    let off := (x.reg a + imm.signExtend 64).toNat
    off % 8 = 0 → off < 0x100000 → (s.dev.core g).failed = false →
    Completes (.ldl g t rd a imm .corrected) s (fun d => Raised 0x400D s.dev d ∧ d.mem = s.dev.mem ∧
      (d.core g).failed = false ∧ goesOn x (d.thread g t) ∧ ∀ r, (d.thread g t).reg r =
        if r = rd ∧ rd.val ≠ 0 then BitVec.ofNat 64 (s.dev.load (Device.localAddr g off) 8) else x.reg r) := by
  intro x off ha ho hf
  refine completes_issue hi.1 rfl (fun d hd ht => ?_)
  obtain ⟨e, hw, hr, hmem, hcores⟩ := loadLocal_corrected (d := d) (g := g) (t := t) (rd := rd) ha ho
    (ht ▸ hi.2) (ht ▸ Device.ready_of_picks _ _ _ hi.1)
  have hcore := core_of_cores_eq hcores g
  have hthr : e.thread g t = x := (congrArg (CoreS.thread · t) hcore).trans ht
  refine ⟨?_, (hw.mem.trans hmem).trans hd.mem_eq, hw.failed.trans (hcore ▸ hd.failed_eq.trans hf), hthr ▸ hw.goes, ?_⟩
  · exact hr.of_evt_eq hd.evt_eq.symm hw.evt
  · rw [← load_of_mem_eq hd.mem_eq, ← hthr]
    exact hw.regs

theorem completes_ldl_uncorrectable :
    let x := s.dev.thread g t
    let off := (x.reg a + imm.signExtend 64).toNat
    let errs := bankErrs (s.dev.core g) off
    off % 8 = 0 → off < 0x100000 → (s.dev.core g).failed = false →
    Completes (.ldl g t rd a imm .uncorrectable) s (fun d => Raised 0x400E s.dev d ∧ d.num 0x1401 1 = 1 ∧
      StoresBytes (Device.localAddr g off) 8 0 s.dev d ∧
      (errs = 0 → (d.core g).failed = false ∧ (goesOn x (d.thread g t) ∧ ∀ r, (d.thread g t).reg r =
        if r = rd ∧ rd.val ≠ 0 then 0 else x.reg r) ∧ bankErrs (d.core g) off = 1) ∧
      (1 ≤ errs → (d.core g).failed = true ∧ Raised 0x8010 s.dev d)) := by
  intro x off errs ha ho hf
  refine completes_issue hi.1 rfl (fun d hd ht => ?_)
  have hbank : bankErrs (d.core g) off = errs := congrArg (fun m => Map.get 0 m (off / 64 % 32)) hd.bankErr_eq
  have hfail : (d.core g).failed = false := hd.failed_eq.trans hf
  rcases Nat.eq_zero_or_pos errs with h0 | h1
  · obtain ⟨hraise, htaint, hstore, hf', hb, hgo, hreg⟩ := loadLocal_first_uncorrectable (d := d) (rd := rd) ha ho (ht ▸ hi.2)
      (ht ▸ Device.ready_of_picks _ _ _ hi.1) (hbank.trans h0)
    rw [ht] at hgo hreg
    exact ⟨hraise.of_evt_eq hd.evt_eq.symm rfl, htaint, hstore.of_mem_eq hd.mem_eq.symm rfl,
      fun _ => ⟨hf'.trans hfail, ⟨hgo, hreg⟩, hb⟩, fun h => absurd h0 (by omega)⟩
  · obtain ⟨hraise, htaint, hstore, hf', hraise'⟩ := loadLocal_second_uncorrectable (d := d) (t := t) (rd := rd) ha ho hfail
      (h1.trans_eq hbank.symm)
    exact ⟨hraise.of_evt_eq hd.evt_eq.symm rfl, htaint, hstore.of_mem_eq hd.mem_eq.symm rfl,
      fun h => absurd h (by omega), fun _ => ⟨hf', hraise'.of_evt_eq hd.evt_eq.symm rfl⟩⟩

end

/-! ### Readers of SRAM words -/

/-- A command of a unit works on the words as they read once what SECDED finds has come. -/
theorem exec_of_runHits {c : Hits → Instr} {s : State} {f : Device → Device}
    (h : ∀ (l : Hits) (u : State), exec (c l) u = u.runHits l f) :
    ∀ hits, exec (c hits) s = exec (c []) { s with dev := s.dev.sramHits hits } := by
  intro hits
  rw [h, h]
  rfl

/-- So does a core instruction whose thread is picked. -/
theorem exec_of_issueHits {c : Hits → Instr} {s : State} {g t : Nat} {f : Device → Device}
    (hp : s.dev.picks g t = true) (h : ∀ (l : Hits) (u : State), exec (c l) u = u.issueHits g t l f) :
    ∀ hits, exec (c hits) s = exec (c []) { s with dev := s.dev.sramHits hits } := by
  intro hits
  rw [h, h, State.issueHits, State.issueHits, State.run, State.run, if_pos hp]
  split <;> rfl

/-- So does an instruction of a micro-sequencer that issues. -/
theorem exec_of_seqHits {c : Hits → Instr} {s : State} {q : Nat} {f : Device → SqS → Device}
    (hi : SqIssues s.dev q) (h : ∀ (l : Hits) (u : State), exec (c l) u = u.run (fun d => (d.seqHits q l).seqIssue q f)) :
    ∀ hits, exec (c hits) s = exec (c []) { s with dev := s.dev.sramHits hits } := by
  intro hits
  rw [h, h, State.run, State.run]
  simp [Device.seqHits, hi.1, hi.2, Device.sramHits]

/-- Settles O8: a reader of SRAM words does nothing with what SECDED finds but take it first; a load is taken through its
bank. -/
theorem localMemoryErrors : Obligations.LocalMemoryErrors := by
  unfold Obligations.LocalMemoryErrors
  refine ⟨by rw [evRow_400D], by rw [evRow_400E], ?_, ?_⟩
  · intro s g t rd rs1 rs2 ra rb imm f f' e k tsid l grp se m q imm' p h stopMs reads
    refine ⟨fun hp => ?core, fun hi => ?_, fun hi => ?_, fun hi => ?_, fun hi => ?_, fun hi => ?_, ?unit⟩
    case core => and_intros <;> exact exec_of_issueHits hp fun _ _ => by unfold exec; exact rfl
    case unit => and_intros <;> exact exec_of_runHits fun _ _ => by unfold exec; exact rfl
    all_goals and_intros <;> exact exec_of_seqHits hi fun _ _ => rfl
  · intro s g t rd a imm hi x off la errs takes ha ho hf
    exact ⟨completes_ldl_corrected hi ha ho hf, completes_ldl_uncorrectable hi ha ho hf⟩

end Sys2Proof.Machine

/-! PROOFS. Triggers, runs and the ends of waits of micro-sequencers (R129, R170 to R173). -/

namespace Sys2Proof.Machine

/-! ### The state of an instance -/

/-- Register 0 reads as 0 and discards writes (R168). -/
theorem SqS.reg_setReg (x : SqS) (rd r : Reg) (v : W32) :
    (x.setReg rd v).reg r = if r = rd ∧ rd.val ≠ 0 then v else x.reg r := by
  unfold SqS.setReg SqS.reg
  by_cases h0 : rd.val = 0
  · simp [h0]
  · by_cases he : r = rd
    · subst he; simp [h0]
    · have hne : rd.val ≠ r.val := fun e => he (Fin.ext e.symm)
      simp [h0, he, Map.get_set_ne _ _ _ hne]

theorem SqOnly.refl (q : Nat) (d : Device) : SqOnly q d d := ⟨rfl, fun _ _ => rfl, rfl⟩

/-- One more write of the registers, PC and state of the instance. -/
theorem SqOnly.setSq {q : Nat} {d e : Device} (h : SqOnly q d e) (regs : Map W32) (pc : BitVec 8) (st : SqState) :
    SqOnly q d (e.setSq q { e.sq q with regs := regs, pc := pc, st := st }) where
  rest := by rw [h.rest]; rfl
  others p hp := (Device.sq_setSq_ne _ _ hp.symm).trans (h.others p hp)
  same := by rw [Device.sq_setSq_same]; exact h.same

/-- A command answers the state with the device that it computes. -/
theorem completes_next {c : Instr} {s : State} {d : Device} {P : Device → Prop}
    (he : exec c s = .next { s with dev := d }) (hP : P d) : Completes c s P := ⟨_, he, rfl, hP⟩

/-! ### Pending entries -/

theorem ofNat_two_pow_eq_twoPow (n : Nat) : BitVec.ofNat 8 (2 ^ n) = BitVec.twoPow 8 n :=
  BitVec.eq_of_toNat_eq (by simp [BitVec.toNat_twoPow])

/-- An entry that is pending stays pending once. -/
theorem or_twoPow_of_getLsbD {p : BitVec 8} {n : Nat} (h : p.getLsbD n = true) : p ||| BitVec.twoPow 8 n = p := by
  refine BitVec.eq_of_getLsbD_eq fun i _ => ?_
  rw [BitVec.getLsbD_or, BitVec.getLsbD_twoPow]
  by_cases hi : n = i
  · simp [← hi, h]
  · simp [hi]

/-- R173: a run takes its own entry out of the pending ones and leaves the others. -/
theorem getLsbD_and_not_twoPow (p : BitVec 8) (n : Nat) {i : Nat} (hi : i < 8) :
    (p &&& ~~~BitVec.twoPow 8 n).getLsbD i = if i = n then false else p.getLsbD i := by
  rw [BitVec.getLsbD_and, BitVec.getLsbD_not, BitVec.getLsbD_twoPow]
  by_cases h : n = i
  · simp [h, hi]
  · simp [h, hi, Ne.symm h]

/-- The lowest pending entry. -/
theorem find?_pending {p : BitVec 8} {n : Fin 8} (hn : p.getLsbD n = true) (hlow : ∀ i, i < n.val → p.getLsbD i = false) :
    (List.range 8).find? (fun i => p.getLsbD i) = some n.val :=
  List.find?_range_eq_some.2 ⟨hn, List.mem_range.2 n.isLt, fun i hi => by simp [hlow i hi]⟩

/-! ### Triggers (R172, R173) -/

theorem evRow_7024 : evRow 0x7024 = ⟨0x7024, 1, false, [(0x1841, 6)]⟩ := by with_unfolding_all rfl

/-- What the firing of entry `n` of instance `q` does: the entry is pending and the run goes on; one that is already pending
raises 0x7024, and any other changes nothing but the instance. -/
def FiresEntry (q n : Nat) (d d' : Device) : Prop :=
  (d'.sq q).pend = (d.sq q).pend ||| BitVec.ofNat 8 (2 ^ n) ∧
  (d'.sq q).regs = (d.sq q).regs ∧ (d'.sq q).pc = (d.sq q).pc ∧ (d'.sq q).st = (d.sq q).st ∧ d'.mem = d.mem ∧
  ((d.sq q).pend.getLsbD n = true → Raised 0x7024 d d') ∧
  ((d.sq q).pend.getLsbD n = false → d' = { d with seqs := d'.seqs })

@[simp] theorem Device.sq_raise (d : Device) (c ua ui a b q : Nat) : (d.raise c ua ui a b).sq q = d.sq q := by
  simp [Device.sq]

/-- An entry fires once the trigger has noted in `fired` or `seen` what it follows. -/
theorem firesEntry_fireEntry (d : Device) (q n : Nat) (fired seen : Map Nat) :
    FiresEntry q n d ((d.setSq q { d.sq q with fired := fired, seen := seen }).fireEntry q n) := by
  unfold Device.fireEntry FiresEntry
  rw [Device.sq_setSq_same]
  cases hp : (d.sq q).pend.getLsbD n with
  | true =>
    rw [if_pos hp, Device.sq_raise, Device.sq_setSq_same, ofNat_two_pow_eq_twoPow, or_twoPow_of_getLsbD hp]
    refine ⟨rfl, rfl, rfl, rfl, Device.raise_mem _ _ _ _ _ _, fun _ => ?_, fun h => absurd h (by decide)⟩
    exact (Device.raise_raised (d.setSq q _) 0x7040 (q + 1) 0 0 (by decide)).of_evt_eq rfl rfl
  | false =>
    rw [if_neg (by simp [hp]), Device.sq_setSq_same]
    exact ⟨rfl, rfl, rfl, rfl, rfl, fun h => absurd h (by decide), fun _ => rfl⟩

/-- R172: a SEASON or STAMP entry fires that has not fired in this step. -/
theorem firesEntry_fireOnce {d : Device} {q n : Nat} (h : Map.get 0 (d.sq q).fired n ≠ d.cad.step + 1) :
    FiresEntry q n d (d.fireOnce q n) := by
  rw [Device.fireOnce, if_neg h]
  exact firesEntry_fireEntry _ _ _ _ _

section
variable {s : State} {q : Sq} {n : Fin 8}

theorem completes_seasonTrigger (hk : (s.dev.trigger q n).1 = 1) (hs : (s.dev.trigger q n).2.2 % 4 = s.dev.season)
    (hp : s.dev.planRuns = true) (hf : Map.get 0 (s.dev.sq q).fired n.val ≠ s.dev.cad.step + 1) :
    Completes (.seasonTrigger q n) s (FiresEntry q n s.dev) := by
  refine completes_next rfl ?_
  simp only [hk, hs, hp, decide_true, Bool.and_self, if_true]
  exact firesEntry_fireOnce hf

theorem completes_stampTrigger (hk : (s.dev.trigger q n).1 = 2)
    (hs : (s.dev.trigger q n).2.2 % 2 ^ 24 ≤ s.dev.cad.phase) (hp : s.dev.planRuns = true)
    (hf : Map.get 0 (s.dev.sq q).fired n.val ≠ s.dev.cad.step + 1) :
    Completes (.stampTrigger q n) s (FiresEntry q n s.dev) := by
  refine completes_next rfl ?_
  simp only [hk, hs, hp, decide_true, Bool.and_self, if_true]
  exact firesEntry_fireOnce hf

theorem completes_eventTrigger (hk : (s.dev.trigger q n).1 = 3)
    (hr : Map.get 0 (s.dev.sq q).seen n.val < Map.get 0 s.dev.evt.raised ((s.dev.trigger q n).2.2 % 65536)) :
    Completes (.eventTrigger q n) s (FiresEntry q n s.dev) := by
  refine completes_next rfl ?_
  simp only [hk, hr, decide_true, Bool.and_self, if_true]
  exact firesEntry_fireEntry _ _ _ _ _

/-! ### Runs -/

/-- R173: the instance once a run begins at entry `n`, at PC `pc` with the stamp `v`. -/
def runStarted (x : SqS) (n pc : Nat) (v : W32) : SqS :=
  { (x.setReg 1 (BitVec.ofNat 32 n)).setReg 2 v with
    pend := x.pend &&& ~~~(BitVec.ofNat 8 (2 ^ n)), pc := BitVec.ofNat 8 pc, st := .running }

theorem reg_runStarted (x : SqS) (n pc : Nat) (v : W32) (r : Reg) :
    (runStarted x n pc v).reg r = if r = 2 then v else if r = 1 then BitVec.ofNat 32 n else x.reg r := by
  have hr : (runStarted x n pc v).reg r = ((x.setReg 1 (BitVec.ofNat 32 n)).setReg 2 v).reg r := rfl
  simp [hr, SqS.reg_setReg]

theorem getLsbD_pend_runStarted (x : SqS) (n pc : Nat) (v : W32) {i : Nat} (hi : i < 8) :
    (runStarted x n pc v).pend.getLsbD i = if i = n then false else x.pend.getLsbD i := by
  unfold runStarted
  rw [ofNat_two_pow_eq_twoPow, getLsbD_and_not_twoPow _ _ hi]

theorem completes_seqRunStart (hst : (s.dev.sq q).st = .idle) (hn : (s.dev.sq q).pend.getLsbD n = true)
    (hlow : ∀ i, i < n.val → (s.dev.sq q).pend.getLsbD i = false) :
    Completes (.seqRunStart q) s
      (· = s.dev.setSq q (runStarted (s.dev.sq q) n (s.dev.trigger q n).2.1 s.dev.stamp)) := by
  refine completes_next rfl ?_
  simp only [hst, find?_pending hn hlow]
  rfl

/-! ### The ends of waits (R170, R171) -/

/-- R129: a signed difference that is not negative. -/
theorem not_msb_of_toInt_nonneg {v : W32} (h : 0 ≤ v.toInt) : (!v.msb) = true := by
  simpa [BitVec.msb_eq_toInt] using h

/-- Instance `q` leaves its wait and stands at `pc`; nothing else changes. -/
def LeavesWait (q : Nat) (pc : BitVec 8) (d d' : Device) : Prop :=
  SqOnly q d d' ∧ d'.sq q = { d.sq q with st := .running, pc := pc }

/-- The operation that waited for room is issued again (R158). -/
theorem leavesWait_seqWait (d : Device) (q : Nat) : LeavesWait q (d.sq q).pc d (d.seqWait q .running) :=
  ⟨(SqOnly.refl q d).setSq _ _ _, Device.sq_setSq_same _ _ _⟩

theorem leavesWait_seqNext (d : Device) (q : Nat) :
    LeavesWait q ((d.sq q).pc + 1) d ((d.seqWait q .running).seqNext q) := by
  obtain ⟨honly, hsq⟩ := leavesWait_seqWait d q
  refine ⟨honly.setSq _ _ _, ?_⟩
  rw [Device.seqNext, Device.sq_setSq_same, hsq]

theorem completes_waitWord {off : Nat} {v : W32} (hst : (s.dev.sq q).st = .waitWord off v)
    (h : 0 ≤ (s.dev.seqWord q off - v).toInt) :
    Completes (.seqWaitSatisfied q []) s (LeavesWait q ((s.dev.sq q).pc + 1) s.dev) := by
  refine completes_next rfl ?_
  simp only [Device.sramHits, List.foldl_nil, hst, wordReached, not_msb_of_toInt_nonneg h, if_true]
  exact leavesWait_seqNext _ _

theorem completes_waitPhase {st : W32} (hst : (s.dev.sq q).st = .waitPhase st) (h : 0 ≤ (s.dev.stamp - st).toInt) :
    Completes (.seqWaitSatisfied q []) s (LeavesWait q ((s.dev.sq q).pc + 1) s.dev) := by
  refine completes_next rfl ?_
  simp only [Device.sramHits, List.foldl_nil, hst, stampReached, not_msb_of_toInt_nonneg h, if_true]
  exact leavesWait_seqNext _ _

theorem completes_waitQueue (hst : (s.dev.sq q).st = .waitQueue) (h : s.dev.moves q = []) :
    Completes (.seqWaitSatisfied q []) s (LeavesWait q ((s.dev.sq q).pc + 1) s.dev) := by
  refine completes_next rfl ?_
  simp only [Device.sramHits, List.foldl_nil, hst, h, List.isEmpty_nil, if_true]
  exact leavesWait_seqNext _ _

theorem completes_waitRoom (hst : (s.dev.sq q).st = .waitRoom) (h : (s.dev.moves q).length < 4) :
    Completes (.seqWaitSatisfied q []) s (LeavesWait q (s.dev.sq q).pc s.dev) := by
  refine completes_next rfl ?_
  simp only [Device.sramHits, List.foldl_nil, hst, h, if_true]
  exact leavesWait_seqWait _ _

end

/-- Settles O24: each trigger fires its entry, a run begins by one write of its instance, and each wait has its end. -/
theorem sequencerTriggersAndRuns : Obligations.SequencerTriggersAndRuns := by
  unfold Obligations.SequencerTriggersAndRuns
  refine ⟨by rw [evRow_7024], fun s q n => ?_⟩
  intro x tr fires fresh
  refine ⟨completes_seasonTrigger, completes_stampTrigger, completes_eventTrigger, fun hst hn hlow => ?_,
    fun _ _ => completes_waitWord, fun _ => completes_waitPhase, completes_waitQueue, completes_waitRoom⟩
  obtain ⟨t, he, hpend, hd⟩ := completes_seqRunStart hst hn hlow
  refine ⟨t, he, hpend, ?_⟩
  simp only [hd, Device.sq_setSq_same]
  refine ⟨rfl, fun p hp => Device.sq_setSq_ne _ _ hp.symm, fun r h1 h2 => ?_, rfl, rfl, ?_, ?_, ?_, fun i hi hne => ?_⟩
  · rw [reg_runStarted, if_neg h2, if_neg h1]
  · rw [reg_runStarted, if_neg (by decide), if_pos rfl]
  · rw [reg_runStarted, if_pos rfl]
  · rw [getLsbD_pend_runStarted _ _ _ _ n.isLt, if_pos rfl]
  · rw [getLsbD_pend_runStarted _ _ _ _ hi, if_neg hne]

end Sys2Proof.Machine

/-! PROOFS. Who may write an object (R422 to R425), what a refused write does (R433), and the stopped device (R425). -/

namespace Sys2Proof.Machine

/-! ### The status of a write -/

section
variable {d : Device} {c : Conn} {i sub inst : Nat} {r : ObjRow}

/-- Below index 0x8000 the status of a write at a valid address is the one of its object's class (R418, R422). -/
theorem accessStatus_of_objRow (hr : objRow i sub = some r) (hm : maxSub i ≠ none) (hv : instOk i inst = true)
    (hs : sub ≠ 0) (hi : i < 0x8000) : d.accessStatus c i sub inst = d.classStatus c r i sub := by
  obtain ⟨n, hn⟩ := Option.ne_none_iff_exists'.mp hm
  have hlocked : ¬ (0x9000 ≤ i ∧ i < 0xA000) := by omega
  have hisland : ¬ (0x8000 ≤ i ∧ i < 0x9000) := by omega
  simp only [Device.accessStatus, if_neg hlocked, if_neg hisland, hn, hv, if_neg hs, hr]
  rfl

/-- For a session with the role and the lease, the run state alone decides about an RWS object without a mirror (R422 to
R425). -/
theorem classStatus_rws {sid : BitVec 32} {z : Session} (ha : r.acc = .rws) (hmir : hasMirror i sub = false)
    (hfw : i ≠ 0x1502) (hz : d.session sid.toNat = some z) (hceil : (if 0x4000 ≤ i ∧ i < 0x5000 then 3 else 2) ≤ z.ceil)
    (hlease : d.lease = sid.toNat) :
    d.classStatus (.session sid) r i sub =
      if d.isStopped = true then stOK else if d.admState = 2 then stState else stNotStopped := by
  have hrole : decide (z.ceil < if 0x4000 ≤ i ∧ i < 0x5000 then 3 else 2) = false := decide_eq_false hceil.not_gt
  cases hst : d.isStopped <;> simp [Device.classStatus, ha, hmir, hz, hfw, hrole, hlease, hst]

/-- What the access rules refuse, the checks of type and range do not hide (log entry 16). -/
theorem writeStatus_of_refused {type : Nat} {data : List Byte} (h : d.accessStatus c i sub inst ≠ stOK) :
    d.writeStatus c i sub inst type data = d.accessStatus c i sub inst := if_pos h

end

theorem isStopped_iff (d : Device) :
    d.isStopped = true ↔ d.runState = 1 ∧ (d.admState = 0 ∨ d.admState = 1 ∨ d.admState = 5) := by
  simp [Device.isStopped, or_assoc]

/-! ### A refused write -/

/-- A refused scalar write changes nothing but the answer, which carries the status (R433). -/
theorem completes_objectWrite_refused {s : State} {c : Conn} {w : WriteItem} (ht : w.type.toNat ≠ 0x0D)
    {st : Nat} (hne : st ≠ stOK)
    (hst : s.dev.writeStatus c w.addr.idx.toNat w.addr.sub.toNat w.addr.inst.toNat w.type.toNat w.data = st) :
    Completes (.objectWrite c w) s (fun d => d = { s.dev with
      out := .answer w.addr.idx.toNat w.addr.sub.toNat w.addr.inst.toNat st :: s.dev.out }) := by
  have hitem : writeItem c w s.dev = (s.dev, st) := by simp only [writeItem, hst, if_pos hne]
  have hexec : exec (.objectWrite c w) s = execObjectWrite c w s := rfl
  refine completes_next (hexec.trans ?_) rfl
  simp only [execObjectWrite, State.run, if_neg ht, hitem]
  rfl

/-- Settles O41: the access rules leave an RWS write of the leaseholder to the run state, and a refused write keeps the
device. -/
theorem stoppedDevice : Obligations.StoppedDevice := by
  unfold Obligations.StoppedDevice
  refine ⟨isStopped_iff, fun s sid w r z => ?_⟩
  intro i sub inst st hr ha hm hv hs hi hfw hmir hz hceil hlease hrun
  have hacc : s.dev.accessStatus (.session sid) i sub inst = st := by
    rw [accessStatus_of_objRow hr hm hv hs hi, classStatus_rws ha hmir hfw hz hceil hlease,
      if_neg (Bool.eq_false_iff.mp hrun)]
  have hne : st ≠ stOK := by
    change (if s.dev.admState = 2 then stState else stNotStopped) ≠ stOK
    split <;> decide
  exact ⟨hacc, fun ht => completes_objectWrite_refused ht hne ((writeStatus_of_refused (hacc ▸ hne)).trans hacc)⟩

end Sys2Proof.Machine

/-! PROOFS. Instruction words of the micro-sequencers: the fields of R169 are read back by every kind of instance. -/

namespace Sys2Proof.Machine

/-! ### Fields of a word (R169) -/

theorem toNat_encSq {op rd a b imm : Nat} (ho : op < 64) (hd : rd < 16) (ha : a < 16) (hb : b < 16) (hi : imm < 2 ^ 14) :
    (encSq op rd a b imm).toNat = op * 2 ^ 26 + rd * 2 ^ 22 + a * 2 ^ 18 + b * 2 ^ 14 + imm := by
  unfold encSq
  rw [BitVec.toNat_ofNat, Nat.mod_eq_of_lt]
  omega

section
variable {q : Sq} {hits : Hits} {op rd a b imm : Nat} {i : Instr} (ho : op < 64) (hd : rd < 16)
include ho hd

/-- A word with RA, RB and an immediate of 14 bits is read by these fields. -/
theorem decodeSeq_encSq (ha : a < 16) (hb : b < 16) (hi : imm < 2 ^ 14)
    (h : ∀ w : W32, fld w.toNat 26 6 = op → fld w.toNat 22 4 = rd → fld w.toNat 18 4 = a → fld w.toNat 14 4 = b →
      fld w.toNat 0 14 = imm → decodeSeq q hits w = i) : decodeSeq q hits (encSq op rd a b imm) = i := by
  apply h <;> simp only [toNat_encSq ho hd ha hb hi, fld] <;> omega

/-- A word of MOVI or MOVHI, whose immediate reaches over RB into RA, is read by these fields (R170). -/
theorem decodeSeq_encSq_long (hi : imm < 2 ^ 18)
    (h : ∀ w : W32, fld w.toNat 26 6 = op → fld w.toNat 22 4 = rd → fld w.toNat 0 18 = imm →
      BitVec.ofNat 16 (fld w.toNat 0 16) = BitVec.ofNat 16 imm → decodeSeq q hits w = i) :
    decodeSeq q hits (encSq op rd 0 0 imm) = i := by
  have hw : (encSq op rd 0 0 imm).toNat = op * 2 ^ 26 + rd * 2 ^ 22 + imm := by
    unfold encSq
    rw [BitVec.toNat_ofNat, Nat.mod_eq_of_lt] <;> omega
  apply h <;> simp only [hw, fld]
  · omega
  · omega
  · omega
  · exact BitVec.eq_of_toNat_eq (by simp only [BitVec.toNat_ofNat]; omega)

end

/-! ### The kind of an instance (R178, R315) -/

theorem sqKind_stream (s : Se) (h : s.val < 673) : sqKind ⟨s.val, h⟩ = .stream s := by
  simp only [sqKind, s.isLt, dif_pos]

section
variable (k : Cluster)

theorem sqKind_tracker (h : 384 + k.val < 673) : sqKind ⟨384 + k.val, h⟩ = .tracker k := by
  unfold sqKind
  simp only
  rw [dif_neg (by omega), if_pos (by omega)]
  exact congrArg _ (Fin.ext (by simp))

theorem sqKind_mask (h : 480 + k.val < 673) : sqKind ⟨480 + k.val, h⟩ = .mask k := by
  unfold sqKind
  simp only
  rw [dif_neg (by omega), if_neg (by omega), if_pos (by omega)]
  exact congrArg _ (Fin.ext (by simp))

theorem sqKind_monitor (h : 576 + k.val < 673) : sqKind ⟨576 + k.val, h⟩ = .monitor k := by
  unfold sqKind
  simp only
  rw [dif_neg (by omega), if_neg (by omega), if_neg (by omega), if_pos (by omega)]
  exact congrArg _ (Fin.ext (by simp))

end

theorem sqKind_device : sqKind 672 = .device := rfl

/-! ### Words read back -/

/-- By the operations of all instances and of each kind. A reader of SRAM words is read back with what SECDED finds. -/
theorem decodeSeq_encodeSeq {i : Instr} {w : W32} {q : Sq} (hw : encodeSeq i = some w) (hq : sequencer i = some q) :
    ∃ hits, decodeSeq q hits w = i := by
  cases i with
  | seqMovi q rd imm | seqMovhi q rd imm =>
    obtain rfl := Option.some.inj hq
    obtain rfl := Option.some.inj hw
    refine ⟨[], decodeSeq_encSq_long (by decide) (by omega) (by omega) fun w hop hrd himm himm' => ?_⟩
    simp [decodeSeq, fldReg, hop, hrd, himm, himm']
  | seqNop | seqAdd | seqSub | seqAnd | seqOr | seqXor | seqShl | seqShr | sltu | seqSt | seqJ | seqBeq | seqBne | seqBltu
  | seqWaitph | seqSig | seqRdph | seqDone =>
    obtain rfl := Option.some.inj hq
    obtain rfl := Option.some.inj hw
    refine ⟨[], decodeSeq_encSq (by omega) (by omega) (by omega) (by omega) (by omega) fun w hop hrd ha hb himm => ?_⟩
    simp [decodeSeq, fldReg, hop, hrd, ha, hb, himm]
  | seqLd _ _ _ _ hits | seqAadd _ _ _ _ hits | waitw _ _ _ _ hits =>
    obtain rfl := Option.some.inj hq
    obtain rfl := Option.some.inj hw
    refine ⟨hits, decodeSeq_encSq (by omega) (by omega) (by omega) (by omega) (by omega) fun w hop hrd ha hb himm => ?_⟩
    simp [decodeSeq, fldReg, hop, hrd, ha, hb, himm]
  | tmove s _ hits | bmove s _ _ hits =>
    obtain rfl := Option.some.inj hq
    obtain rfl := Option.some.inj hw
    refine ⟨hits, decodeSeq_encSq (by omega) (by omega) (by omega) (by omega) (by omega) fun w hop hrd ha hb himm => ?_⟩
    simp only [decodeSeq, fldReg, hop, hrd, ha, hb, himm, Fin.ofNat_eq_cast, Fin.cast_val_eq_self]
    rw [decKind.eq_def, sqKind_stream]
    rfl
  | qwait s =>
    obtain rfl := Option.some.inj hq
    obtain rfl := Option.some.inj hw
    refine ⟨[], decodeSeq_encSq (by omega) (by omega) (by omega) (by omega) (by omega) fun w hop hrd ha hb himm => ?_⟩
    simp only [decodeSeq, fldReg, hop, hrd, ha, hb, himm, Fin.ofNat_eq_cast]
    rw [decKind.eq_def, sqKind_stream]
    rfl
  | pass s a b drop =>
    obtain rfl := Option.some.inj hq
    obtain rfl := Option.some.inj hw
    have hlt := drop.toNat_lt
    have hdrop : (fld (BitVec.ofNat 14 drop.toNat).toNat 0 1 == 1) = drop := by cases drop <;> rfl
    refine ⟨[], decodeSeq_encSq (by omega) (by omega) (by omega) (by omega) (by omega) fun w hop hrd ha hb himm => ?_⟩
    simp only [decodeSeq, fldReg, hop, hrd, ha, hb, himm, Fin.ofNat_eq_cast, Fin.cast_val_eq_self]
    rw [decKind.eq_def, sqKind_stream]
    exact congrArg (Instr.pass s a b) hdrop
  | spub k _ _ _ hits | srst k _ hits =>
    obtain rfl := Option.some.inj hq
    obtain rfl := Option.some.inj hw
    refine ⟨hits, decodeSeq_encSq (by omega) (by omega) (by omega) (by omega) (by omega) fun w hop hrd ha hb himm => ?_⟩
    simp only [decodeSeq, fldReg, hop, hrd, ha, hb, himm, Fin.ofNat_eq_cast, Fin.cast_val_eq_self]
    rw [decKind.eq_def, sqKind_tracker]
    rfl
  | mcapt k _ _ hits | mupd k _ _ hits | mapply k _ _ hits | cpack k _ _ hits | mcheck k _ _ hits =>
    obtain rfl := Option.some.inj hq
    obtain rfl := Option.some.inj hw
    refine ⟨hits, decodeSeq_encSq (by omega) (by omega) (by omega) (by omega) (by omega) fun w hop hrd ha hb himm => ?_⟩
    simp only [decodeSeq, fldReg, hop, hrd, ha, hb, himm, Fin.ofNat_eq_cast, Fin.cast_val_eq_self]
    rw [decKind.eq_def, sqKind_mask]
    rfl
  | hclose k _ hits | nchk k _ _ hits | hpost k _ hits =>
    obtain rfl := Option.some.inj hq
    obtain rfl := Option.some.inj hw
    refine ⟨hits, decodeSeq_encSq (by omega) (by omega) (by omega) (by omega) (by omega) fun w hop hrd ha hb himm => ?_⟩
    simp only [decodeSeq, fldReg, hop, hrd, ha, hb, himm, Fin.ofNat_eq_cast, Fin.cast_val_eq_self]
    rw [decKind.eq_def, sqKind_monitor]
    rfl
  | hcollect | lchk | risk =>
    obtain rfl := Option.some.inj hq
    obtain rfl := Option.some.inj hw
    refine ⟨[], decodeSeq_encSq (by omega) (by omega) (by omega) (by omega) (by omega) fun w hop hrd ha hb himm => ?_⟩
    simp only [decodeSeq, fldReg, hop, hrd, ha, hb, himm, Fin.ofNat_eq_cast, Fin.cast_val_eq_self]
    rw [decKind.eq_def, sqKind_device]
    rfl
  | _ => cases hw

/-- Settles O5: by the fields that each instance's decoder reads. -/
theorem sequencerWordsRoundTrip : Obligations.SequencerWordsRoundTrip := by
  unfold Obligations.SequencerWordsRoundTrip
  exact fun i w q => decodeSeq_encodeSeq

end Sys2Proof.Machine

/-! PROOFS. The block as a whole: every command completes (R435), an idle microsecond (log entries 4 and 88), and the reset state. -/

namespace Sys2Proof.Machine

/-- Every command answers a next state and leaves the queue alone: each meaning is a change of the device. -/
theorem exec_next (c : Instr) (s : State) : ∃ d, exec c s = .next { s with dev := d } := by
  cases c <;> exact ⟨_, rfl⟩

/-- Settles O1: by the definition of a step. -/
theorem stepRunsFrontCommand : Obligations.StepRunsFrontCommand := fun _ _ _ => rfl

/-! ### Folds -/

/-- A relation that is reflexive and transitive holds along a fold of steps that it holds of. -/
theorem foldl_rel {α β : Type} {R : β → β → Prop} (hr : ∀ x, R x x) (ht : ∀ x y z, R x y → R y z → R x z)
    {f : β → α → β} (hf : ∀ x a, R x (f x a)) (l : List α) (x : β) : R x (l.foldl f x) := by
  induction l generalizing x with
  | nil => exact hr x
  | cons a l ih => exact ht _ _ _ (hf x a) (ih _)

/-! ### Slots that leave the ports (R389, R407) -/

/-- From `d` to `d'` nothing happens but at the ports: control slots and codewords leave. -/
structure SlotsLeave (d d' : Device) : Prop where
  rest : d' = { d with link := d'.link, out := d'.out }
  sent : ∃ l, d'.out = l ++ d.out ∧ ∀ m ∈ l, (∃ p b, m = .controlSlot p b) ∨ ∃ p lanes, m = .codeword p lanes

namespace SlotsLeave

theorem refl (d : Device) : SlotsLeave d d := ⟨rfl, [], rfl, by simp⟩

theorem trans {d e f : Device} (h : SlotsLeave d e) (h' : SlotsLeave e f) : SlotsLeave d f := by
  obtain ⟨hr, l, hl, hm⟩ := h
  obtain ⟨hr', l', hl', hm'⟩ := h'
  refine ⟨by rw [hr', hr], l' ++ l, by rw [hl', hl, List.append_assoc], fun m h => ?_⟩
  exact (List.mem_append.1 h).elim (hm' m) (hm m)

theorem modPort (d : Device) (p : Nat) (f : PortS → PortS) : SlotsLeave d (d.modPort p f) := ⟨rfl, [], rfl, by simp⟩

theorem send_controlSlot (d : Device) (p : Nat) (b : List Byte) : SlotsLeave d (d.send (.controlSlot p b)) :=
  ⟨rfl, [_], rfl, by simp⟩

theorem foldl {α : Type} {f : Device → α → Device} (hf : ∀ d a, SlotsLeave d (f d a)) (l : List α) (d : Device) :
    SlotsLeave d (l.foldl f d) := foldl_rel refl (fun _ _ _ => trans) hf l d

theorem sendSymbols (d : Device) (p : Nat) (ss : List Nat) : SlotsLeave d (d.sendSymbols p ss) :=
  (modPort d p _).trans ⟨rfl, [_], rfl, by simp⟩

theorem sendCodeword (d : Device) (p m : Nat) : SlotsLeave d (d.sendCodeword p m) := by
  unfold Device.sendCodeword
  split
  · exact (sendSymbols _ _ _).trans (sendSymbols _ _ _)
  · exact sendSymbols _ _ _

theorem closeWord (d : Device) (p : Nat) : SlotsLeave d (d.closeWord p) := (modPort d p _).trans (sendCodeword _ _ _)

theorem pushSlots (d : Device) (p : Nat) (ss : List (Nat × List Byte)) : SlotsLeave d (d.pushSlots p ss) :=
  (modPort d p _).trans (foldl (fun d _ => closeWord d p) _ _)

theorem unnumbered (d : Device) (p : Nat) (ss : List (Nat × List Byte)) : SlotsLeave d (d.unnumbered p ss) :=
  (modPort d p _).trans (sendCodeword _ _ _)

theorem idleWord (d : Device) (p : Nat) : SlotsLeave d (d.idleWord p) := by
  unfold Device.idleWord
  split
  · exact refl d
  · split
    · exact unnumbered _ _ _
    · exact closeWord _ _

theorem controlSlot (d : Device) (p : Nat) : SlotsLeave d (d.controlSlot p) := by
  unfold Device.controlSlot
  simp only
  split
  · exact refl d
  · split
    · exact ((modPort d p _).trans (send_controlSlot _ p _)).trans (pushSlots _ _ _)
    · exact ((modPort d p _).trans (send_controlSlot _ p _)).trans (unnumbered _ _ _)

theorem placeMessages (d : Device) : SlotsLeave d d.placeMessages := by
  refine trans (e := List.foldl _ d _) (foldl (fun d m => ?_) _ d) ⟨rfl, [], rfl, by simp⟩
  split
  · exact modPort _ _ _
  · exact refl d

/-- R389, R407: what leaves in a microsecond with no packet ready. -/
theorem idleBoundaries (d : Device) : SlotsLeave d d.idleBoundaries := by
  refine (placeMessages d).trans (foldl (fun d p => ?_) _ _)
  have hw : SlotsLeave d ((forN ((d.port p).ctlq.length / 7 + 1) d (fun d _ => d.controlSlot p)).idleWord p) :=
    (foldl (fun d _ => controlSlot d p) _ d).trans (idleWord _ p)
  simp only
  split
  · exact hw
  · exact hw.trans (modPort _ p _)

end SlotsLeave

/-! ### The passing of a microsecond (R111, R143, R161, R332) -/

theorem addStall_eq (d : Device) (g cause n : Nat) : d.addStall g cause n = { d with dict := (d.addStall g cause n).dict } := by
  unfold Device.addStall
  split
  · rfl
  · unfold Device.setNum
    rfl

/-- R161: a hold counts stalls in the dictionary. -/
theorem holdStalls_eq (d : Device) : d.holdStalls = { d with dict := d.holdStalls.dict } := by
  unfold Device.holdStalls
  split
  · rfl
  · refine foldl_rel (R := fun d e => e = { d with dict := e.dict }) (fun _ => rfl) (fun x y z h h' => by rw [h', h])
      (fun d e => ?_) _ d
    split
    · exact addStall_eq _ _ _ _
    · rfl

theorem holdStalls_of_not_held {d : Device} (h : d.cad.held = false) : d.holdStalls = d := by
  simp [Device.holdStalls, h]

theorem foldl_upd_range (f : Nat → Nat) (n i : Nat) (m : Map Nat) :
    Map.get 0 (forN n m (fun m i => Map.upd 0 m i (· + f i))) i = Map.get 0 m i + if i < n then f i else 0 := by
  unfold forN
  induction n with
  | zero => simp
  | succ n ih =>
    rw [List.range_succ, List.foldl_append, List.foldl_cons, List.foldl_nil]
    by_cases h : n = i
    · subst h
      simp [ih]
    · rw [Map.get_upd_ne _ _ _ h, ih]
      simp only [show i < n + 1 ↔ i < n by omega]

/-- Wall time and the engine clk after a microsecond, before the counter moves. -/
def clocked (d : Device) : Device := { d with time := { d.time with nowNs := d.time.nowNs + 1000 } }.runClk

theorem clocked_eq (d : Device) : clocked d = { d with
    time := { d.time with nowNs := d.time.nowNs + 1000 }
    pwr := { d.pwr with clk := (clocked d).pwr.clk, idleFrom := (clocked d).pwr.idleFrom } } := rfl

/-- R143: the engine clk of a die rises by its MHz. -/
theorem clk_clocked (d : Device) {i : Nat} (h : i < 4) :
    Map.get 0 (clocked d).pwr.clk i = Map.get 0 d.pwr.clk i + d.num 0x1602 (i + 1) := by
  have hnum (e : Device) (he : e.dict = d.dict) : e.num 0x1602 (i + 1) = d.num 0x1602 (i + 1) := num_of_dict_eq he _ _ _
  let e := { d with time := { d.time with nowNs := d.time.nowNs + 1000 } }
  refine (foldl_upd_range (fun i => e.num 0x1602 (i + 1)) 4 i d.pwr.clk).trans ?_
  rw [if_pos h, hnum e rfl]

/-- A microsecond then moves the cadence counter, unless it stands. -/
theorem tick_eq (d : Device) : d.tick = { (clocked d).holdStalls with cad := d.tick.cad } := by
  unfold Device.tick
  simp only
  rw [← clocked.eq_1]
  repeat' split
  all_goals rfl

theorem cad_tick_of_stopped {d : Device} (hs : d.cad.stopped = true) (ha : d.cad.ahead = none) : d.tick.cad = d.cad := by
  have hc : (clocked d).holdStalls.cad = d.cad := by rw [holdStalls_eq]; rfl
  unfold Device.tick
  simp only
  rw [← clocked.eq_1, hc, ha, hs]
  simp [hc]

/-- All that a microsecond does. -/
theorem tick_eq_of_device (d : Device) : d.tick = { d with
    time := { d.time with nowNs := d.time.nowNs + 1000 }
    pwr := { d.pwr with clk := (clocked d).pwr.clk, idleFrom := (clocked d).pwr.idleFrom }
    dict := (clocked d).holdStalls.dict, cad := d.tick.cad } := by
  have hold : (clocked d).holdStalls = { clocked d with dict := (clocked d).holdStalls.dict } := holdStalls_eq _
  have hcad : ({ (clocked d).holdStalls with cad := d.tick.cad } : Device) =
      { clocked d with dict := (clocked d).holdStalls.dict, cad := d.tick.cad } := by rw [hold]
  exact (tick_eq d).trans hcad

/-- Settles O2: every meaning is a change of the device; an idle step lets a microsecond pass and slots leave. -/
theorem everyStepGoesOn : Obligations.EveryStepGoesOn := by
  unfold Obligations.EveryStepGoesOn
  refine ⟨fun c rest d => ?_, fun d => ⟨_, rfl, rfl, ?_⟩⟩
  · obtain ⟨d', h⟩ := exec_next c { pending := rest, dev := d }
    exact ⟨d', h, h⟩
  · have ht := tick_eq_of_device d
    obtain ⟨hrest, l, hout, hl⟩ := SlotsLeave.idleBoundaries d.tick
    simp only [State.idle]
    generalize d.tick.idleBoundaries = e at hrest hout ⊢
    have hcad : e.cad = d.tick.cad := by rw [hrest]
    have hdict : e.dict = (clocked d).holdStalls.dict := by rw [hrest, ht]
    have hpwr : e.pwr = { d.pwr with clk := (clocked d).pwr.clk, idleFrom := (clocked d).pwr.idleFrom } := by rw [hrest, ht]
    refine ⟨?_, fun hs ha => hcad.trans (cad_tick_of_stopped hs ha), fun hh => ?_, fun i hi => ?_, l, ?_, hl⟩
    · rw [hpwr, hcad, hdict]
      have hte : ({ d.tick with link := e.link, out := e.out } : Device) = _ := congrArg
        (fun f : Device => { f with link := e.link, out := e.out }) ht
      exact hrest.trans hte
    · rw [hdict, holdStalls_of_not_held (d := clocked d) hh]
      rfl
    · rw [hpwr]
      exact clk_clocked d hi
    · rw [hout, ht]

/-- Settles O60: the reset state lists nothing, and what is not listed reads as its default. -/
theorem resetValues : Obligations.ResetValues := by
  have hget {α : Type} (v : α) (k : Nat) : Map.get v [] k = v := Map.get_nil v k
  have hnum (i s k : Nat) : State.reset.dev.num i s k = objDefault i s k := by
    unfold Device.num
    exact hget _ _
  have hthread (g t : Nat) : State.reset.dev.thread g t = {} := by
    simp only [Device.thread, Device.core, CoreS.thread, State.reset, hget]
  have hcore (g : Nat) : State.reset.dev.core g = {} := hget _ _
  have hsq (q : Nat) : State.reset.dev.sq q = {} := hget _ _
  unfold Obligations.ResetValues
  refine ⟨rfl, rfl, fun a => hget _ _, ?_, ?_, rfl, rfl, rfl, rfl, ?_, fun g t => ?_, fun g => ?_, fun q => ?_, fun se => hget _ _,
    ?_, ?_, ?_, ?_, hnum⟩
  · rw [Device.runState, hnum]; with_unfolding_all decide
  · rw [Device.admState, hnum]; with_unfolding_all decide
  · rw [Device.lease, hnum]; with_unfolding_all decide
  · rw [hthread]
    exact ⟨rfl, fun r => by simp [Thread.reg, hget]⟩
  · simp only [hcore, Device.frame, CoreS.queue, CoreS.counter, CoreS.frame, hget]
    simp
  · rw [hsq]
    exact ⟨rfl, rfl⟩
  all_goals rw [hnum]; with_unfolding_all decide

end Sys2Proof.Machine

/-! PROOFS. Move operations of a core (R121): register results, scalar loads and stores, tile moves and FREL. -/

namespace Sys2Proof.Machine

/-! ### Register results -/

/-- An instruction that, once issued, is one register write. -/
theorem writesReg_of_eq {c : Instr} {s : State} {g t : Nat} {rd : Reg} {v : W64} {f : Device → Thread → Device}
    (hi : Issues s.dev g t) (he : exec c s = s.run (fun d => d.issue g t f))
    (hf : ∀ d, ThreadOnly g t s.dev d → d.thread g t = s.dev.thread g t → f d (s.dev.thread g t) = d.writeReg g t rd v) :
    WritesReg c s g t rd v := by
  refine completes_writeReg c s g t rd v hi (he.trans ?_)
  simp only [State.run, Device.issue_of_picks _ _ _ _ hi.1, hf _ (ThreadOnly.issued _ _ _) (by simp)]

theorem ThreadOnly.stamp_eq {g t : Nat} {d d' : Device} (h : ThreadOnly g t d d') : d'.stamp = d.stamp := by
  rw [h.rest]
  rfl

/-- The clock and the free counter are none of the thread's concern. -/
theorem ThreadOnly.withTime {g t : Nat} {d d' : Device} (h : ThreadOnly g t d d') (x : TimeS) :
    ThreadOnly g t { d with time := x } { d' with time := x } :=
  { h with
    rest := by
      have := h.rest
      simp only [Device.ext_iff] at this ⊢
      simpa using this.2 }

/-- RDID: the low half names the thread and the core. -/
theorem lowHalf_rdid (u : W32) (t : Thr) (g : CoreN) :
    (u ++ BitVec.ofNat 32 (t.val + g.val * 65536)).setWidth 16 = BitVec.ofNat 16 t.val ∧
      ((u ++ BitVec.ofNat 32 (t.val + g.val * 65536)) >>> 16).setWidth 16 = BitVec.ofNat 16 g.val := by
  have ht := t.isLt
  have hg := g.isLt
  have hn : (u ++ BitVec.ofNat 32 (t.val + g.val * 65536)).toNat = u.toNat * 2 ^ 32 + (t.val + g.val * 65536) := by
    rw [BitVec.toNat_append, ← Nat.shiftLeft_add_eq_or_of_lt (BitVec.isLt _), Nat.shiftLeft_eq, BitVec.toNat_ofNat]
    omega
  constructor <;> apply BitVec.eq_of_toNat_eq <;>
    simp only [BitVec.toNat_setWidth, BitVec.toNat_ushiftRight, hn, BitVec.toNat_ofNat, Nat.shiftRight_eq_div_pow] <;>
    omega

/-- Settles O6: every result is one register write of an issued thread; RDID also draws its upper half. -/
theorem scalarRegisterResults : Obligations.ScalarRegisterResults := by
  refine ⟨fun s g t rd a b imm hi => ?_, fun s g t rd a hi => ⟨?_, ?_⟩⟩
  · intro x y
    refine ⟨?_, ?_, ?_, ?_, ?_, ?_, ?_, ?_, ?_, ?_, ?_, ?_, rfl⟩
    case refine_12 => exact writesReg_of_eq hi rfl fun d hd _ => by rw [hd.stamp_eq]
    all_goals exact writesReg_of_eq hi rfl fun _ _ _ => rfl
  · refine completes_issue hi.1 rfl (fun d hd ht => ?_)
    let e := d.drawFree.2
    have hte : e.thread g t = s.dev.thread g t := ht
    obtain ⟨_, _, _, _, _, hgo, hreg⟩ := regWritten_writeReg (d := e) (g := g) (t := t) rd
      (Config.upper32 d.drawFree.1 ++ BitVec.ofNat 32 (t.val + g.val * 65536)) (hte ▸ hi.2)
      (hte ▸ Device.ready_of_picks _ _ _ hi.1)
    rw [hte] at hgo hreg
    have hadv : e.writeReg g t rd (Config.upper32 d.drawFree.1 ++ BitVec.ofNat 32 (t.val + g.val * 65536)) = _ :=
      Device.advance_of_ne _ _ _ (by simpa [hte] using hi.2)
    refine ⟨?_, hgo, ?_, fun h0 => ?_, fun r hr => ?_⟩
    · simp only
      rw [hadv]
      exact ((hd.withTime _).setThread _).setThread _
    · simp only
      rw [hadv]
      simp [hte]
    · rw [hreg, if_pos ⟨rfl, h0⟩]
      exact lowHalf_rdid _ _ _
    · rw [hreg, if_neg (by tauto)]
  · refine completes_issue hi.1 rfl (fun d hd _ => ?_)
    rw [Device.advance_of_ne _ _ _ (by simpa using hi.2)]
    exact ⟨(hd.setThread _).setThread _, by simp⟩

end Sys2Proof.Machine

/-! PROOFS. Scalar loads and stores of a core (R108, R121, R140). -/

namespace Sys2Proof.Machine

theorem sext32_eq (imm : BitVec 32) : sext32 imm = imm.signExtend 64 := rfl

theorem localBad_of_aligned {off : Nat} (ha : off % 8 = 0) (ho : off < 0x100000) : localBad off = false := by
  simp [localBad, ha, ho]

theorem localBad_of_refused {off : Nat} (h : off % 8 ≠ 0 ∨ 0x100000 ≤ off) : localBad off = true := by
  simpa [localBad] using h

/-- A clean word changes nothing. -/
theorem sramHit_clean (d : Device) (a : Nat) : d.sramHit a .clean = d := by
  unfold Device.sramHit
  cases d.region a <;> simp [Device.localEcc, Device.storeEcc]

theorem storeBad_of_aligned {d : Device} {g off n : Nat} (ha : off % n = 0) (ho : off < 0x1000000) :
    storeBad d g off n = none := by
  simp [storeBad, ha, Nat.not_le.2 ho]

theorem storeBad_of_misaligned {d : Device} {g off n : Nat} (ha : off % n ≠ 0) :
    storeBad d g off n = some (d.badDesc g) := by
  simp [storeBad, ha]

theorem storeBad_of_beyond {d : Device} {g off n : Nat} (ha : off % n = 0) (ho : 0x1000000 ≤ off) :
    storeBad d g off n = some (d.storeMiss g off) := by
  simp [storeBad, ha, ho]

/-- What an issued thread does when it only goes on after its core has raised an event. -/
def EventThenNext (code g t : Nat) (s : State) (d : Device) : Prop :=
  Raised code s.dev d ∧ d.mem = s.dev.mem ∧ d.thread g t = { s.dev.thread g t with pc := (s.dev.thread g t).pc + 1 }

theorem thread_raise (d : Device) (c ua ui a b g t : Nat) : (d.raise c ua ui a b).thread g t = d.thread g t := by
  simp [Device.thread]

theorem advance_eq {d : Device} {g t : Nat} {x : Thread} (ht : d.thread g t = x) (hpc : x.pc ≠ 8191) :
    d.advance g t = d.setThread g t { x with pc := x.pc + 1 } := by
  subst ht
  exact Device.advance_of_ne d g t hpc

section
variable {c : Instr} {s : State} {g t : Nat} {f : Device → Thread → Device}

/-- An instruction whose meaning for its thread as it stands is `e`. -/
theorem completes_issue_eq {e : Device → Device} {P : Device → Prop} (hi : Issues s.dev g t)
    (he : exec c s = s.run (fun d => d.issue g t f))
    (hf : ∀ d, ThreadOnly g t s.dev d → d.thread g t = s.dev.thread g t → f d (s.dev.thread g t) = e d)
    (hP : ∀ d, ThreadOnly g t s.dev d → d.thread g t = s.dev.thread g t → P (e d)) : Completes c s P :=
  completes_issue hi.1 he fun d hd ht => hf d hd ht ▸ hP d hd ht

/-- A refused access: the event, then the next instruction. -/
theorem completes_raise_advance (hi : Issues s.dev g t) (he : exec c s = s.run (fun d => d.issue g t f))
    {code ua ui a b : Nat} (hc : code ≠ 0x2207)
    (hf : ∀ d, f d (s.dev.thread g t) = (d.raise code ua ui a b).advance g t) :
    Completes c s (EventThenNext code g t s) := by
  refine completes_issue_eq hi he (e := fun d => (d.raise code ua ui a b).setThread g t _)
    (fun d _ ht => (hf d).trans (advance_eq ((thread_raise ..).trans ht) hi.2)) fun d hd _ => ⟨?_, ?_, ?_⟩
  · exact (d.raise_raised ua ui a b hc).of_evt_eq hd.evt_eq.symm rfl
  · exact (Device.raise_mem d _ _ _ _ _).trans hd.mem_eq
  · exact Device.thread_setThread_same _ _ _ _

end

/-- Memory and the count of writes to TAIL words are none of the thread's concern. -/
theorem ThreadOnly.withMem {g t : Nat} {d d' : Device} (h : ThreadOnly g t d d') (m : Map Byte) (w : Map Nat) :
    ThreadOnly g t { d with mem := m, work := { d.work with tails := w } }
      { d' with mem := m, work := { d'.work with tails := w } } :=
  { h with
    rest := by
      have := h.rest
      simp only [Device.ext_iff] at this ⊢
      simp_all
    mem := fun _ => rfl }

/-- The next instruction after a store that counts the TAIL words it meets. -/
theorem threadOnly_storeW {g t : Nat} {d d' : Device} (h : ThreadOnly g t d d') (a n v : Nat) (x : Thread) :
    let e := (d'.storeW a n v).setThread g t x
    ThreadOnly g t (stored d e) e ∧ StoresBytes a n v d e :=
  ⟨(h.withMem (d'.storeW a n v).mem (d'.storeW a n v).work.tails).setThread x, (storesBytes_store d' a n v).of_mem_eq h.mem_eq.symm rfl⟩

/-- The next instruction after a store into local memory, where no TAIL word lies. -/
theorem threadOnly_store {g t : Nat} {d d' : Device} (h : ThreadOnly g t d d') (a n v : Nat) (x : Thread) :
    let e := (d'.store a n v).setThread g t x
    ThreadOnly g t { d with mem := e.mem } e ∧ StoresBytes a n v d e := by
  have hw : d'.work = d.work := by rw [h.rest]
  have hs := (h.withMem (d'.store a n v).mem d'.work.tails).setThread x
  rw [hw] at hs
  rw [show d'.store a n v = { d' with mem := (d'.store a n v).mem, work := d.work } from hw ▸ rfl]
  exact ⟨hs, (storesBytes_store d' a n v).of_mem_eq h.mem_eq.symm rfl⟩

section
variable {s : State} {g : CoreN} {t : Thr} {rd a b : Reg} {imm : BitVec 32} (hi : Issues s.dev g t)
include hi

/-- R121: loads of clean words, and stores, inside local memory. -/
theorem completes_localAccess :
    let x := s.dev.thread g t
    let off := (x.reg a + imm.signExtend 64).toNat
    let la := Device.localAddr g off
    off % 8 = 0 → off < 0x100000 →
      WritesReg (.ldl g t rd a imm .clean) s g t rd (BitVec.ofNat 64 (s.dev.load la 8)) ∧
      Completes (.stl g t a b imm) s (fun d => ThreadOnly g t { s.dev with mem := d.mem } d ∧
        StoresBytes la 8 (x.reg b).toNat s.dev d ∧ d.thread g t = { x with pc := x.pc + 1 }) := by
  intro x off la ha ho
  constructor
  · refine writesReg_of_eq hi rfl fun d hd ht => ?_
    exact (loadLocal_of_ready ha ho (sramHit_clean _ _) (ht ▸ Device.ready_of_picks _ _ _ hi.1)).trans
      (by rw [load_of_mem_eq hd.mem_eq])
  · refine completes_issue_eq hi rfl (e := fun d => (d.store la 8 (x.reg b).toNat).setThread g t { x with pc := x.pc + 1 })
      (fun d _ ht => ?_) fun d hd _ => ?_
    · refine (if_neg (ne_true_of_eq_false (localBad_of_aligned ha ho))).trans ?_
      exact advance_eq (d := d.store _ _ _) ht hi.2
    · obtain ⟨h, h'⟩ := threadOnly_store hd la 8 (x.reg b).toNat { x with pc := x.pc + 1 }
      exact ⟨h, h', Device.thread_setThread_same _ _ _ _⟩

/-- R121: loads of clean words, and stores, inside the cluster's store. -/
theorem completes_storeAccess :
    let x := s.dev.thread g t
    let off := (x.reg a + imm.signExtend 64).toNat
    let sa := Device.storeAddr (g / 16) off
    off % 8 = 0 → off < 0x1000000 →
      WritesReg (.ldc g t rd a imm .clean) s g t rd (BitVec.ofNat 64 (s.dev.load sa 8)) ∧
      Completes (.stc g t a b imm) s (fun d => ThreadOnly g t (stored s.dev d) d ∧
        StoresBytes sa 8 (x.reg b).toNat s.dev d ∧ d.thread g t = { x with pc := x.pc + 1 }) := by
  intro x off sa ha ho
  constructor
  · refine writesReg_of_eq hi rfl fun d hd _ => ?_
    have hb : storeBad d g (scalarOff x a imm) 8 = none := storeBad_of_aligned ha ho
    simp only [loadStore, hb, sramHit_clean, load_of_mem_eq hd.mem_eq, x]
    rfl
  · refine completes_issue_eq hi rfl (e := fun d => (d.storeW sa 8 (x.reg b).toNat).setThread g t { x with pc := x.pc + 1 })
      (fun d _ ht => ?_) fun d hd _ => ?_
    · have hb : storeBad d g (scalarOff x a imm) 8 = none := storeBad_of_aligned ha ho
      simp only [hb, x]
      exact advance_eq (d := d.storeW _ _ _) ht hi.2
    · obtain ⟨h, h'⟩ := threadOnly_storeW hd sa 8 (x.reg b).toNat { x with pc := x.pc + 1 }
      exact ⟨h, h', Device.thread_setThread_same _ _ _ _⟩

/-- R140: a misaligned access, or one beyond local memory, is a bad descriptor. -/
theorem completes_localRefused {ecc : EccRead} :
    let off := ((s.dev.thread g t).reg a + imm.signExtend 64).toNat
    off % 8 ≠ 0 ∨ 0x100000 ≤ off → Completes (.ldl g t rd a imm ecc) s (EventThenNext 0x7022 g t s) ∧
      Completes (.stl g t a b imm) s (EventThenNext 0x7022 g t s) := by
  intro off h
  exact ⟨completes_raise_advance hi rfl (by decide) fun d => if_pos (localBad_of_refused h),
    completes_raise_advance hi rfl (by decide) fun d => if_pos (localBad_of_refused h)⟩

theorem completes_storeMisaligned {ecc : EccRead} :
    let off := ((s.dev.thread g t).reg a + imm.signExtend 64).toNat
    off % 8 ≠ 0 → Completes (.ldc g t rd a imm ecc) s (EventThenNext 0x7022 g t s) ∧
      Completes (.stc g t a b imm) s (EventThenNext 0x7022 g t s) := by
  intro off h
  have hb (d : Device) : storeBad d g (scalarOff (s.dev.thread g t) a imm) 8 = some (d.badDesc g) := storeBad_of_misaligned h
  refine ⟨completes_raise_advance hi rfl (ua := 0x7020) (ui := g + 1) (a := 0) (b := 0) (by decide) fun d => ?_,
    completes_raise_advance hi rfl (ua := 0x7020) (ui := g + 1) (a := 0) (b := 0) (by decide) fun d => ?_⟩
  · simp only [loadStore, hb]
    exact if_pos h
  · simp only [hb]
    rfl

/-- R31: beyond the cluster's store nothing is reached; a load gives zeros. -/
theorem completes_storeBeyond {ecc : EccRead} :
    let x := s.dev.thread g t
    let off := (x.reg a + imm.signExtend 64).toNat
    off % 8 = 0 → 0x1000000 ≤ off → Completes (.stc g t a b imm) s (EventThenNext 0x4008 g t s) ∧
      Completes (.ldc g t rd a imm ecc) s (fun d => Raised 0x4008 s.dev d ∧ d.mem = s.dev.mem ∧
        goesOn x (d.thread g t) ∧ ∀ r, (d.thread g t).reg r = if r = rd then 0 else x.reg r) := by
  intro x off ha ho
  have hb (d : Device) : storeBad d g (scalarOff x a imm) 8 = some (d.storeMiss g off) := storeBad_of_beyond ha ho
  refine ⟨completes_raise_advance hi rfl (ua := 0x7020) (ui := g + 1) (a := Device.storeAddr (Device.clusterOf g) off)
    (b := g % 16) (by decide) fun d => ?_, ?_⟩
  · simp only [hb, x]
    rfl
  · refine completes_issue_eq hi rfl (e := fun d => (d.storeMiss g off).writeReg g t rd 0) (fun d _ ht => ?_) fun d hd ht => ?_
    · simp only [loadStore, hb, x]
      exact if_neg (not_not.2 ha)
    · have hthr : (d.storeMiss g off).thread g t = x := (thread_raise ..).trans ht
      obtain ⟨hmem, hevt, _, _, _, hgo, hreg⟩ := regWritten_writeReg (d := d.storeMiss g off) (g := g) (t := t) rd 0
        (hthr ▸ hi.2) (hthr ▸ Device.ready_of_picks _ _ _ hi.1)
      rw [hthr] at hgo hreg
      refine ⟨?_, ?_, hgo, fun r => (hreg r).trans ?_⟩
      · exact (d.raise_raised 0x7020 (g + 1) (Device.storeAddr (Device.clusterOf g) off) (g % 16) (by decide)).of_evt_eq
          hd.evt_eq.symm hevt
      · exact (hmem.trans (Device.raise_mem d _ _ _ _ _)).trans hd.mem_eq
      · by_cases h0 : r.val = 0 <;> by_cases hr : r = rd <;> simp_all [Thread.reg]

end

/-- Settles O7: each access is carried out, or raises its event and goes on. -/
theorem scalarLoadsAndStores : Obligations.ScalarLoadsAndStores :=
  ⟨fun _ _ _ _ _ _ _ hi ha => ⟨fun ho => completes_localAccess hi ha ho, fun ho => completes_storeAccess hi ha ho⟩,
   fun _ _ _ _ _ _ _ _ hi => ⟨fun h => completes_localRefused hi h, fun h => completes_storeMisaligned hi h,
     fun ha ho => completes_storeBeyond hi ha ho⟩⟩

end Sys2Proof.Machine

/-! PROOFS. TLD, TST and FREL (R112, R121): the statement about TST is refuted. -/

namespace Sys2Proof.Machine

/-- A plan that places one tile at offset 0 of cluster store 0, its header at offset 0x800000. -/
def oneTilePlan : PlanFacts :=
  { shape := 0, members := [], gateClusters := [], hubCores := [], evalWork := false, ops := [],
    objects := [], numbers := [], programs := [], stores := [], carousels := [],
    placements := [⟨Device.storeAddr 0 0, Device.storeAddr 0 0x800000, 1, none, 15, 4096⟩], tensors := [], scaledCores := [],
    hvLocalA := Device.ddrBase, hvLocalB := Device.ddrBase + 0x100000, hvKeepA := Device.ddrBase + 0x200000,
    hvKeepB := Device.ddrBase + 0x300000, hvSize := 0, hvWardSize := 0, hvLean := false, hvRegs := [], hvLoads := [] }

/-- Thread 0 of core 0 READY at pc 0, its registers 0, under that plan. -/
def tstState : State :=
  { dev := { ({} : Device).setThread 0 0 { st := .ready } with adm := { facts := some oneTilePlan } } }

/-- Whether each entry of core 0's move queue after a command goes out of its frame. -/
def movesOutward (c : Instr) (s : State) : List Bool :=
  match exec c s with
  | .next u => (u.dev.core 0).moveq.map (·.outward)
  | _ => []

theorem issues_tstState : Issues tstState.dev 0 0 := by unfold Issues; with_unfolding_all decide

theorem movesOutward_tst : movesOutward (.tst 0 0 0 0 0) tstState = [true] := by with_unfolding_all decide

/-- Refutes O9: the entry that TST queues goes out of its frame into the store (`outward`), where the statement names one
that does not. -/
theorem not_tileMovesAndFrel : ¬ Obligations.TileMovesAndFrel := by
  intro h
  obtain ⟨hq, -⟩ := h tstState 0 0 0 0 0 (Device.storeAddr 0 0x800000) issues_tstState
  obtain ⟨-, u, hu, -, hm, -⟩ := hq (by with_unfolding_all decide) (by with_unfolding_all decide) (by with_unfolding_all decide) (by with_unfolding_all decide)
    (by with_unfolding_all decide)
  have hmoves : (u.dev.core 0).moveq.map (·.outward) = [true] := by
    have := movesOutward_tst
    rwa [movesOutward, hu] at this
  have hempty : (tstState.dev.core 0).moveq = [] := by with_unfolding_all decide
  rw [show (u.dev.core 0).moveq = (tstState.dev.core 0).moveq ++ _ from hm, hempty] at hmoves
  exact absurd hmoves (by simp)

end Sys2Proof.Machine

/-! PROOFS. Sync operations and atomics of a core (R123, R128, R129, R131). -/

namespace Sys2Proof.Machine

/-! ### What an issue leaves alone -/

theorem ThreadOnly.time_eq {g t : Nat} {d d' : Device} (h : ThreadOnly g t d d') : d'.time = d.time := by
  rw [h.rest]

theorem ThreadOnly.counter_eq {g t : Nat} {d d' : Device} (h : ThreadOnly g t d d') (n : Nat) :
    (d'.core g).counter n = (d.core g).counter n := by
  have := congrArg (CoreS.counter · n) h.core
  exact this

theorem ThreadOnly.moveq_eq {g t : Nat} {d d' : Device} (h : ThreadOnly g t d d') :
    (d'.core g).moveq = (d.core g).moveq := by
  have := congrArg CoreS.moveq h.core
  exact this

theorem ThreadOnly.watch_eq {g t : Nat} {d d' : Device} (h : ThreadOnly g t d d') :
    (d'.core g).watch = (d.core g).watch := by
  have := congrArg CoreS.watch h.core
  exact this

/-! ### Waits -/

theorem not_msb_iff {n : Nat} (v : BitVec n) : (!v.msb) = true ↔ 0 ≤ v.toInt := by
  simp [BitVec.msb_eq_toInt]

theorem syncReached_iff (c : CoreS) (n : Nat) (w : W32) : syncReached c n w = true ↔ 0 ≤ (c.counter n - w).toInt :=
  not_msb_iff _

theorem stampReached_iff (a b : W32) : stampReached a b = true ↔ 0 ≤ (a - b).toInt := not_msb_iff _

/-- A thread that begins to wait notes the time (R141). -/
def waitsAt (d : Device) (x : Thread) (st : ThState) : Thread := { x with st := st, sinceNs := d.time.nowNs }

/-- A thread at its next instruction. -/
def goneOn (x : Thread) : Thread := { x with pc := x.pc + 1 }

theorem waitIn_eq {d d' : Device} {g t : Nat} {x : Thread} {st : ThState} (h : d'.time = d.time) (ht : d'.thread g t = x) :
    d'.waitIn g t st = d'.setThread g t (waitsAt d x st) := by
  rw [Device.waitIn, ht, h]
  rfl

section
variable {c : Instr} {s : State} {g t : Nat} {f : Device → Thread → Device}

/-- An instruction that goes on where what it waits for is there, and waits otherwise. -/
theorem completes_waitUnless (hi : Issues s.dev g t) (he : exec c s = s.run (fun d => d.issue g t f)) {st : ThState}
    {p : Prop} [Decidable p] (q : Device → Bool)
    (hf : ∀ d, f d (s.dev.thread g t) = if q d then d.advance g t else d.waitIn g t st)
    (hq : ∀ d, ThreadOnly g t s.dev d → (q d = true ↔ p)) :
    Completes c s (fun d => ThreadOnly g t s.dev d ∧
      d.thread g t = if p then goneOn (s.dev.thread g t) else waitsAt s.dev (s.dev.thread g t) st) := by
  refine completes_issue hi.1 he (fun d hd ht => ?_)
  rw [hf, if_congr (hq d hd) (advance_eq ht hi.2) (waitIn_eq hd.time_eq ht), ← apply_ite (d.setThread g t)]
  exact ⟨hd.setThread _, Device.thread_setThread_same _ _ _ _⟩

end

/-! ### The atomics -/

theorem writeReg_eq {d : Device} {g t : Nat} {x : Thread} (ht : d.thread g t = x) (hpc : x.pc ≠ 8191) (rd : Reg) (v : W64) :
    d.writeReg g t rd v = (d.setThread g t (x.setReg rd v)).setThread g t { x.setReg rd v with pc := x.pc + 1 } := by
  rw [Device.writeReg, ht, advance_eq (Device.thread_setThread_same ..) (by simpa using hpc), Thread.setReg_pc]

theorem issueHits_nil (s : State) (g t : Nat) (f : Device → Device) : s.issueHits g t [] f = s.run f := by
  simp [State.issueHits, State.run, Device.sramHits]

theorem exec_of_clean {c : Instr} {s : State} {g t : Nat} {f : Device → Thread → Device}
    (he : exec c s = s.issueHits g t [] (fun d => d.issue g t f)) : exec c s = s.run (fun d => d.issue g t f) :=
  he.trans (issueHits_nil _ _ _ _)

/-- R123: an atomic on a naturally aligned word of the own cluster's store. -/
theorem completes_atomic {c : Instr} {s : State} {g : CoreN} {t : Thr} {rd a : Reg} {imm : BitVec 32}
    {f : Thread → Nat → Nat} (hi : Issues s.dev g t) (he : exec c s = s.issueHits g t [] (fun d => atomic d g t rd a imm f)) :
    let x := s.dev.thread g t
    let n := if imm.getLsbD 0 then 8 else 4
    let off := (x.reg a).toNat
    let sa := Device.storeAddr (g / 16) off
    let old := s.dev.load sa n
    off % n = 0 → off < 0x1000000 →
    Completes c s (fun d => ThreadOnly g t (stored s.dev d) d ∧ StoresBytes sa n (f x old % 2 ^ (8 * n)) s.dev d ∧
      goesOn x (d.thread g t) ∧ ∀ r, (d.thread g t).reg r = if r = rd ∧ rd.val ≠ 0 then BitVec.ofNat 64 old else x.reg r) := by
  intro x n off sa old ha ho
  let v := f x old % 2 ^ (8 * n)
  let y := x.setReg rd (BitVec.ofNat 64 old)
  refine completes_issue_eq hi (he.trans (issueHits_nil _ _ _ _))
    (e := fun d => ((d.storeW sa n v).setThread g t y).setThread g t { y with pc := x.pc + 1 })
    (fun d hd ht => ?_) fun d hd _ => ?_
  · have hb : storeBad d g off n = none := storeBad_of_aligned ha ho
    have hload : d.load sa n = old := load_of_mem_eq hd.mem_eq _ _
    simp only [hb, hload, x, off, n, sa, Device.clusterOf] at *
    exact writeReg_eq (d := d.storeW _ _ _) ht hi.2 _ _
  · obtain ⟨hm, hs⟩ := threadOnly_storeW hd sa n v y
    have hst : x.st = .ready := Device.ready_of_picks _ _ _ hi.1
    refine ⟨hm.setThread _, hs, ?_, fun r => ?_⟩ <;> rw [Device.thread_setThread_same]
    · simpa [goesOn, y] using hst
    · exact Thread.reg_setReg _ _ _ _

/-! ### SIG and WATCH -/

theorem leNat_lt (l : List Byte) : leNat l < 256 ^ l.length := by
  induction l with
  | nil => simp [leNat]
  | cons b l ih =>
    simp only [leNat, List.length_cons, Nat.pow_succ]
    have := b.isLt
    omega

theorem length_bytes (d : Device) (n : Nat) : ∀ a, (d.bytes a n).length = n := by
  induction n with
  | zero => exact fun _ => rfl
  | succ n ih => exact fun a => by simp [Device.bytes, ih]

theorem load_lt (d : Device) (a n : Nat) : d.load a n < 256 ^ n := by
  have h := leNat_lt (d.bytes a n)
  rwa [length_bytes] at h

theorem thread_addSync (d : Device) (g n k h u : Nat) : (d.addSync g n k).thread h u = d.thread h u := by
  unfold Device.addSync
  split
  · rfl
  · by_cases hg : g = h
    · subst hg
      simp [Device.thread, CoreS.thread]
    · simp [Device.thread, Device.core_modCore_ne _ _ hg]

theorem addSync_mem (d : Device) (g n k : Nat) : (d.addSync g n k).mem = d.mem := by
  simp [Device.addSync, apply_ite Device.mem]

theorem counter_addSync (d : Device) (g n k i : Nat) (hn : n < 64) : ((d.addSync g n k).core g).counter i =
    if i = n ∧ n ≠ 0 then (d.core g).counter i + BitVec.ofNat 32 k else (d.core g).counter i := by
  unfold Device.addSync
  rw [Nat.mod_eq_of_lt hn]
  by_cases h0 : n = 0
  · simp [h0]
  · by_cases hi : i = n
    · subst hi
      simp [h0, CoreS.counter]
    · simp [h0, hi, CoreS.counter, Map.get_upd_ne _ _ _ (Ne.symm hi)]

theorem counter_setThread (d : Device) (g t : Nat) (x : Thread) (i : Nat) :
    ((d.setThread g t x).core g).counter i = (d.core g).counter i := by
  simp [Device.setThread, CoreS.setThread, CoreS.counter]

theorem watch_setThread (d : Device) (g t : Nat) (x : Thread) : ((d.setThread g t x).core g).watch = (d.core g).watch := by
  simp [Device.setThread, CoreS.setThread]

/-- SIG adds to a counter of its core; SC0 never moves (R128). -/
theorem completes_sig {s : State} {g : CoreN} {t : Thr} {imm : BitVec 32} (hi : Issues s.dev g t) :
    let n := imm.toNat % 64
    Completes (.sig g t imm) s (fun d => d.thread g t = goneOn (s.dev.thread g t) ∧ d.mem = s.dev.mem ∧
      ∀ i, i < 64 → (d.core g).counter i =
        if i = n ∧ n ≠ 0 then (s.dev.core g).counter i + BitVec.ofNat 32 (imm.toNat / 65536) else (s.dev.core g).counter i) := by
  intro n
  refine completes_issue hi.1 rfl (fun d hd ht => ?_)
  let e := d.addSync g n (imm.toNat / 65536)
  have hthr : e.thread g t = s.dev.thread g t := (thread_addSync ..).trans ht
  rw [show Device.advance _ g t = e.setThread g t _ from advance_eq hthr hi.2]
  refine ⟨Device.thread_setThread_same _ _ _ _, (addSync_mem ..).trans hd.mem_eq, fun i h => ?_⟩
  rw [← hd.counter_eq i, counter_setThread]
  exact counter_addSync d g n _ i (Nat.mod_lt _ (by decide))

/-- R131: the watched word of a core, as the thread compares it. -/
theorem watchedWord_ne_iff {g t off : Nat} {d d' : Device} (h : ThreadOnly g t d d') (v : W64) :
    watchedWord d' g off ≠ v ↔ d.load (Device.storeAddr (g / 16) off) 8 ≠ v.toNat := by
  have hlt := load_lt d (Device.storeAddr (Device.clusterOf g) off) 8
  rw [watchedWord, load_of_mem_eq h.mem_eq, ne_eq, ne_eq, not_iff_not, ← BitVec.toNat_inj, BitVec.toNat_ofNat,
    Nat.mod_eq_of_lt (hlt.trans_eq (by norm_num))]
  rfl

/-- Thread `t` of core `g` joins the watches of its core. -/
def watched (d : Device) (g t off : Nat) : Device := d.modCore g (fun c => { c with watch := c.watch ++ [(t, off)] })

theorem thread_watched (d : Device) (g t off : Nat) : (watched d g t off).thread g t = d.thread g t := by
  simp [watched, Device.thread, CoreS.thread]

/-- R131: WATCH on an aligned word that differs from the value goes on; on one that holds it the thread watches and waits. -/
theorem completes_watch {s : State} {g : CoreN} {t : Thr} {a b : Reg} (hi : Issues s.dev g t) :
    let x := s.dev.thread g t
    let off := (x.reg a).toNat
    off % 8 = 0 → off < 0x1000000 → (s.dev.core g).watch.length < 64 →
      Completes (.watch g t a b []) s (fun d => d.mem = s.dev.mem ∧
        if s.dev.load (Device.storeAddr (g / 16) off) 8 = (x.reg b).toNat then
          d.thread g t = waitsAt s.dev x (.waitWatch off (x.reg b)) ∧
          (d.core g).watch = (s.dev.core g).watch ++ [(t.val, off)]
        else d.thread g t = goneOn x ∧ (d.core g).watch = (s.dev.core g).watch) := by
  intro x off ha ho hl
  have hb (d : Device) : storeBad d g off 8 = none := storeBad_of_aligned ha ho
  by_cases heq : s.dev.load (Device.storeAddr (g / 16) off) 8 = (x.reg b).toNat
  · refine completes_issue_eq hi (exec_of_clean rfl)
      (e := fun d => (watched d g t off).setThread g t (waitsAt s.dev x (.waitWatch off (x.reg b)))) (fun d hd ht => ?_)
      fun d hd _ => ?_
    · simp only [hb, x, off]
      rw [if_neg ((watchedWord_ne_iff hd _).not.2 (not_not.2 heq)), if_neg (by rw [hd.watch_eq]; omega)]
      exact waitIn_eq (d' := watched d g t _) hd.time_eq ((thread_watched ..).trans ht)
    · rw [if_pos heq]
      refine ⟨hd.mem_eq, Device.thread_setThread_same _ _ _ _, ?_⟩
      rw [watch_setThread, ← hd.watch_eq]
      simp [watched]
  · refine completes_issue_eq hi (exec_of_clean rfl)
      (e := fun d => d.setThread g t (goneOn x)) (fun d hd ht => ?_)
      fun d hd _ => ?_
    · simp only [hb, x, off]
      rw [if_pos ((watchedWord_ne_iff hd _).2 heq)]
      exact advance_eq ht hi.2
    · rw [if_neg heq]
      exact ⟨hd.mem_eq, Device.thread_setThread_same _ _ _ _, (watch_setThread _ _ _ _).trans hd.watch_eq⟩

/-- Settles O11: each operation goes on or waits as its condition says; the atomics share one clause. -/
theorem syncAndAtomicOperations : Obligations.SyncAndAtomicOperations := by
  refine ⟨fun s g t a b imm hi => ?_, fun s g t rd a b imm hi => ?_⟩
  · intro x n w goes next waits
    refine ⟨?_, ?_, ?_, ?_, completes_sig hi, completes_watch hi⟩
    · exact completes_waitUnless hi rfl (fun d => syncReached (d.core g) n w) (fun _ => rfl) fun d hd => by
        rw [syncReached_iff, hd.counter_eq]
    · exact completes_issue hi.1 rfl fun d hd ht => by
        rw [waitIn_eq hd.time_eq ht]
        exact ⟨hd.setThread _, Device.thread_setThread_same _ _ _ _⟩
    · have := completes_waitUnless (c := .fence g t) hi rfl (fun d => !movesOf (d.core g) t) (st := .waitMem)
        (p := ¬ (s.dev.core g).moveq.any (fun e => e.thread == some t.val) = true) (fun d => by cases movesOf (d.core g) t <;> rfl)
        fun d hd => by simp [movesOf, hd.moveq_eq]
      simp only [ite_not] at this
      exact this
    · exact completes_waitUnless hi rfl (fun d => stampReached d.stamp w) (fun _ => rfl) fun d hd => by
        rw [stampReached_iff, hd.stamp_eq]
  · intro x n off sa old w swaps ha ho
    have hw : (if imm.getLsbD 0 then 2 ^ 64 else 2 ^ 32) = w := by
      simp only [w, n]
      split <;> norm_num
    refine ⟨?_, ?_, ?_⟩
    · exact completes_atomic (f := fun x old => old + (x.reg b).toNat) hi rfl ha ho
    · have := completes_atomic (c := .acas g t rd a b imm []) (rd := rd) (f := fun x old =>
        if old = (x.reg rd).toNat % (if imm.getLsbD 0 then 2 ^ 64 else 2 ^ 32) then (x.reg b).toNat else old) hi rfl ha ho
      rwa [hw] at this
    · have := completes_atomic (c := .amax g t rd a b imm []) (rd := rd)
        (f := fun x old => max old ((x.reg b).toNat % (if imm.getLsbD 0 then 2 ^ 64 else 2 ^ 32))) hi rfl ha ho
      rwa [hw] at this

end Sys2Proof.Machine

/-! PROOFS. The ends of waits (R110, R112, R123, R129, R131). -/

namespace Sys2Proof.Machine

/-- From `d` to `d'` thread `t` of core `g` becomes `y`; other threads, memory and the clocks stay. -/
structure SetsThread (g t : Nat) (y : Thread) (d d' : Device) : Prop where
  mem : d'.mem = d.mem
  time : d'.time = d.time
  stamp : d'.stamp = d.stamp
  thread : d'.thread g t = y
  others : ∀ h u, (h, u) ≠ (g, t) → d'.thread h u = d.thread h u

/-- A thread that is READY again, `k` instructions on. -/
def wokenAt (now : Nat) (k : BitVec 13) (x : Thread) : Thread := { x with st := .ready, pc := x.pc + k, sinceNs := now }

theorem SetsThread.refl (g t : Nat) (d : Device) : SetsThread g t (d.thread g t) d d := ⟨rfl, rfl, rfl, rfl, fun _ _ _ => rfl⟩

theorem setsThread_setThread (d : Device) (g t : Nat) (y : Thread) : SetsThread g t y d (d.setThread g t y) :=
  ⟨rfl, rfl, rfl, Device.thread_setThread_same _ _ _ _, fun _ _ h => Device.thread_setThread_ne _ _ (Ne.symm h)⟩

theorem setsThread_waitIn_ready (d : Device) (g t : Nat) :
    SetsThread g t (wokenAt d.time.nowNs 0 (d.thread g t)) d (d.waitIn g t .ready) := by
  have hy : wokenAt d.time.nowNs 0 (d.thread g t) = { d.thread g t with st := .ready, sinceNs := d.time.nowNs } := by
    simp [wokenAt]
  exact hy ▸ setsThread_setThread d g t _

theorem setsThread_wake {d : Device} {g t : Nat} (h : (d.thread g t).pc ≠ 8191) :
    SetsThread g t (wokenAt d.time.nowNs 1 (d.thread g t)) d (d.wake g t) := by
  let y : Thread := { d.thread g t with st := .ready, sinceNs := d.time.nowNs }
  have he : d.wake g t = (d.setThread g t y).setThread g t { y with pc := y.pc + 1 } :=
    advance_eq (d := d.setThread g t y) (Device.thread_setThread_same ..) h
  obtain ⟨_, _, _, _, ho⟩ := setsThread_setThread d g t y
  rw [he]
  exact ⟨rfl, rfl, rfl, Device.thread_setThread_same _ _ _ _,
    fun h u hn => (Device.thread_setThread_ne _ _ (Ne.symm hn)).trans (ho h u hn)⟩

/-- Threads that are treated one after the other, each by itself: each ends as `F` says of it as it was. -/
theorem foldl_setsThread {g : Nat} {f : Device → Nat → Device} {F : Nat → W32 → Thread → Thread}
    (hf : ∀ d t, (d.thread g t).pc ≠ 8191 → SetsThread g t (F d.time.nowNs d.stamp (d.thread g t)) d (f d t)) {l : List Nat}
    (hl : l.Nodup) (d : Device) (hpc : ∀ t ∈ l, (d.thread g t).pc ≠ 8191) :
    (l.foldl f d).mem = d.mem ∧ ∀ u, (l.foldl f d).thread g u =
      if u ∈ l then F d.time.nowNs d.stamp (d.thread g u) else d.thread g u := by
  induction l generalizing d with
  | nil => simp
  | cons t l ih =>
    obtain ⟨hnot, hl⟩ := List.nodup_cons.1 hl
    obtain ⟨hm, htm, hst, ht, ho⟩ := hf d t (hpc t (by simp))
    have hsame (u : Nat) (hu : u ≠ t) : (f d t).thread g u = d.thread g u := ho g u (by simpa using hu)
    obtain ⟨hmem, hthr⟩ := ih hl (f d t) fun u hu => by
      rw [hsame u (fun e => hnot (e ▸ hu))]
      exact hpc u (by simp [hu])
    refine ⟨hmem.trans hm, fun u => (hthr u).trans ?_⟩
    by_cases hu : u = t
    · subst hu
      simp [hnot, ht]
    · simp [hu, htm, hst, hsame u hu]

/-- The same for the first `n` threads. -/
theorem forN_setsThread {g : Nat} {f : Device → Nat → Device} {F : Nat → W32 → Thread → Thread}
    (hf : ∀ d t, (d.thread g t).pc ≠ 8191 → SetsThread g t (F d.time.nowNs d.stamp (d.thread g t)) d (f d t)) (n : Nat)
    (d : Device) (hpc : ∀ t, t < n → (d.thread g t).pc ≠ 8191) :
    (forN n d f).mem = d.mem ∧ ∀ u, (forN n d f).thread g u =
      if u < n then F d.time.nowNs d.stamp (d.thread g u) else d.thread g u := by
  simpa [forN] using foldl_setsThread hf (List.nodup_range (n := n)) d (by simpa using hpc)

/-- R129: what becomes of a thread when stamps are looked at. -/
def phased (now : Nat) (stamp : W32) (x : Thread) : Thread :=
  match x.st with
  | .waitPhase st => if stampReached stamp st then wokenAt now 1 x else x
  | _ => x

/-- R129: one thread of core `g` is looked at. -/
def phaseStep (g : Nat) (d : Device) (t : Nat) : Device :=
  match (d.thread g t).st with
  | .waitPhase st => if stampReached d.stamp st then d.wake g t else d
  | _ => d

theorem setsThread_phaseStep {d : Device} {g t : Nat} (h : (d.thread g t).pc ≠ 8191) :
    SetsThread g t (phased d.time.nowNs d.stamp (d.thread g t)) d (phaseStep g d t) := by
  unfold phased phaseStep
  split
  · split
    · exact setsThread_wake h
    · exact .refl g t d
  · exact .refl g t d

section
variable {s : State} {g : CoreN} {t : Thr}

/-- A command without an instruction that changes one thread. -/
theorem completes_setsThread {c : Instr} {d : Device} {y : Thread} (he : exec c s = .next { s with dev := d })
    (hd : SetsThread g t y s.dev d) : Completes c s (fun d => d.thread g t = y ∧ d.mem = s.dev.mem ∧
      ∀ h u, (h, u) ≠ (g.val, t.val) → d.thread h u = s.dev.thread h u) :=
  completes_next he ⟨hd.thread, hd.mem, hd.others⟩

theorem completes_watchWake {off : Nat} {v : W64} (hpc : (s.dev.thread g t).pc ≠ 8191)
    (hst : (s.dev.thread g t).st = .waitWatch off v)
    (hne : BitVec.ofNat 64 (s.dev.load (Device.storeAddr (g / 16) off) 8) ≠ v) :
    Completes (.watchWake g t []) s (fun d => d.thread g t = wokenAt s.dev.time.nowNs 1 (s.dev.thread g t) ∧
      d.mem = s.dev.mem ∧ ∀ h u, (h, u) ≠ (g.val, t.val) → d.thread h u = s.dev.thread h u) := by
  let e := s.dev.modCore g (fun c => { c with watch := c.watch.filter (fun w => w.1 != t.val) })
  have hthr (h u : Nat) : e.thread h u = s.dev.thread h u := by
    by_cases hg : g.val = h
    · subst hg
      simp [e, Device.thread, CoreS.thread]
    · simp [e, Device.thread, Device.core_modCore_ne _ _ hg]
  obtain ⟨hmem, _, _, ht, ho⟩ := setsThread_wake (d := e) (g := g) (t := t) ((hthr _ _).symm ▸ hpc)
  refine completes_next (d := e.wake g t) ?_ ⟨ht.trans (by rw [hthr]; rfl), hmem, fun h u hn => (ho h u hn).trans (hthr h u)⟩
  have hw : watchedWord s.dev g off ≠ v := hne
  show execWatchWake g t [] s = _
  simp [execWatchWake, State.runHits, State.run, Device.sramHits, hst, hw, e]

theorem completes_barrierRelease {grp : Grp} (hlive : (Map.get {} (s.dev.core g).groups grp.val).live = true)
    (hw : ∀ u ∈ unhalted (s.dev.core g) grp, (s.dev.thread g u).st = .waitBar ∧ (s.dev.thread g u).pc ≠ 8191) :
    Completes (.barrierRelease g grp) s (fun d => d.mem = s.dev.mem ∧ ∀ u, d.thread g u =
      if u ∈ unhalted (s.dev.core g) grp then wokenAt s.dev.time.nowNs 1 (s.dev.thread g u) else s.dev.thread g u) := by
  have hall : (unhalted (s.dev.core g) grp).all (fun t => (s.dev.thread g t).st == .waitBar) = true :=
    List.all_eq_true.2 fun u hu => by simp [(hw u hu).1]
  refine completes_next (d := (unhalted (s.dev.core g) grp).foldl (fun d t => d.wake g t) s.dev) ?_ ?_
  · show execBarrierRelease g grp s = _
    simp only [execBarrierRelease, State.run]
    rw [hlive, hall]
    rfl
  · exact foldl_setsThread (f := fun d t => d.wake g t) (F := fun now _ => wokenAt now 1) (fun _ _ => setsThread_wake)
      (List.nodup_range.filter _) _ fun u hu => (hw u hu).2

theorem completes_phaseStampReached (hpc : ∀ u, u < 1024 → (s.dev.thread g u).pc ≠ 8191) :
    Completes (.phaseStampReached g) s (fun d => d.mem = s.dev.mem ∧ ∀ u, u < 1024 →
      d.thread g u = phased s.dev.time.nowNs s.dev.stamp (s.dev.thread g u)) := by
  obtain ⟨hm, ht⟩ := forN_setsThread (fun _ _ => setsThread_phaseStep) 1024 s.dev hpc
  exact completes_next (d := forN 1024 s.dev (phaseStep g)) rfl ⟨hm, fun u hu => (ht u).trans (if_pos hu)⟩

end

/-- Settles O16: one thread that is woken, or the threads of a core, each by itself. -/
theorem endsOfWaits : Obligations.EndsOfWaits := by
  intro s g t grp x only woken
  refine ⟨fun q hq hf => ?_, fun hpc => ⟨fun sc tgt hst hr => ?_, fun hst hm => ?_, fun off v => completes_watchWake hpc⟩,
    completes_barrierRelease, fun hpc => ?_⟩
  · refine completes_setsThread (d := s.dev.waitIn g t .ready) ?_ (setsThread_waitIn_ready _ _ _)
    simp only [x] at hq
    show execQueueEntryFreed g t s = _
    simp only [execQueueEntryFreed, State.run, hq, hf, if_true]
  · refine completes_setsThread (d := s.dev.wake g t) ?_ (setsThread_wake hpc)
    simp only [x] at hst
    show execWaitSyncSatisfied g t s = _
    simp only [execWaitSyncSatisfied, State.run, hst, (syncReached_iff _ _ _).2 hr, if_true]
  · refine completes_setsThread (d := s.dev.wake g t) ?_ (setsThread_wake hpc)
    simp only [x] at hst
    show execFenceComplete g t s = _
    simp only [execFenceComplete, State.run, hst, movesOf, hm, Bool.false_eq_true, if_false]
  · obtain ⟨u, hu, hp, hmem, hthr⟩ := completes_phaseStampReached hpc
    refine ⟨u, hu, hp, hmem, fun v hv => ⟨fun st hst hr => ?_, fun hn => ?_⟩⟩
    · rw [hthr v hv]
      simp only [phased, hst, (stampReached_iff _ _).2 hr, if_true]
      rfl
    · rw [hthr v hv, phased]
      split
      · rename_i st hst
        rw [if_neg (fun h => absurd ((stampReached_iff _ _).1 h) (not_le.2 (hn st hst)))]
      · rfl

end Sys2Proof.Machine

/-! PROOFS. Engine operations join their queue, fault or are refused (R112, R115, R116, R124, R140, R188). -/

namespace Sys2Proof.Machine

/-! ### The queues -/

theorem queue_setQueue (c : CoreS) (e e' : Nat) (q : List EngOp) :
    (c.setQueue e q).queue e' = if e' = e then q else c.queue e' := by
  simp [CoreS.queue, CoreS.setQueue, Map.get_set, eq_comm]

theorem queue_setThread (d : Device) (g t : Nat) (x : Thread) (e : Nat) :
    ((d.setThread g t x).core g).queue e = (d.core g).queue e := by
  simp [Device.setThread, CoreS.setThread, CoreS.queue]

theorem ThreadOnly.queue_eq {g t : Nat} {d d' : Device} (h : ThreadOnly g t d d') (e : Nat) :
    (d'.core g).queue e = (d.core g).queue e := by
  have := congrArg (CoreS.queue · e) h.core
  exact this

theorem thread_setQueue (d : Device) (g e : Nat) (q : List EngOp) (h u : Nat) :
    (d.modCore g (fun c => c.setQueue e q)).thread h u = d.thread h u := by
  by_cases hg : g = h
  · subst hg
    simp [Device.thread, CoreS.thread, CoreS.setQueue]
  · simp [Device.thread, Device.core_modCore_ne _ _ hg]

/-- The issue of an instruction touches no object of another index. -/
theorem ThreadOnly.num_eq {g t : Nat} {d d' : Device} (h : ThreadOnly g t d d') {i : Nat} (hi : homeIdx i ≠ 0x7020) (hg : g < 65535)
    (s k : Nat) (hs : s < 256) (hk : k < 65536) : d'.num i s k = d.num i s k := by
  unfold Device.num
  refine h.objects _ _ ?_
  have : homeIdx 0x7020 = 0x7020 := by decide
  exact fun e => Device.okey_ne hs hk (by decide : 2 < 256) (by omega : g + 1 < 65536) (by simp [hi]) e

theorem bytes_of_mem_eq {d e : Device} (h : e.mem = d.mem) (a n : Nat) : e.bytes a n = d.bytes a n := by
  induction n generalizing a with
  | zero => rfl
  | succ n ih => simp only [Device.bytes, Device.byteAt, h, ih]

theorem ThreadOnly.line_eq {g t : Nat} {d d' : Device} (h : ThreadOnly g t d d') (hg : g < 65535) {k : Nat} (hk : k + 1 < 65536)
    (ts : Nat) : d'.line k ts = d.line k ts := by
  have hn (s : Nat) (hs : s < 256) : d'.num 0x7050 s (k + 1) = d.num 0x7050 s (k + 1) :=
    h.num_eq (by decide) hg s (k + 1) hs hk
  have hb (a n : Nat) : d'.bytes a n = d.bytes a n := bytes_of_mem_eq h.mem_eq a n
  simp only [Device.line, Device.lineOff, hn 2 (by decide), hn 1 (by decide), hb]

/-! ### Operations that join -/

/-- What a joining operation leaves: the entry behind its queue and the thread at its next instruction, or a thread that
waits for room. -/
def Joins (s : State) (g t e : Nat) (op : EngOp) (d : Device) : Prop :=
  d.mem = s.dev.mem ∧ (∀ h u, (h, u) ≠ (g, t) → d.thread h u = s.dev.thread h u) ∧
  (∀ e', (d.core g).queue e' = if e' = e ∧ ((s.dev.core g).queue e).length < 8 then (s.dev.core g).queue e ++ [op]
    else (s.dev.core g).queue e') ∧
  d.thread g t = if ((s.dev.core g).queue e).length < 8 then goneOn (s.dev.thread g t)
    else waitsAt s.dev (s.dev.thread g t) (.waitQueue (.eng e))

theorem joins_queueEng {s : State} {g t : Nat} {d : Device} (hi : Issues s.dev g t) (hd : ThreadOnly g t s.dev d)
    (ht : d.thread g t = s.dev.thread g t) (e : Nat) (op : EngOp) : Joins s g t e op (queueEng d g t e op) := by
  unfold queueEng Joins
  have hq := hd.queue_eq
  by_cases hfull : 8 ≤ ((s.dev.core g).queue e).length
  · have hw : d.waitQueue g t (.eng e) = d.setThread g t (waitsAt s.dev (s.dev.thread g t) (.waitQueue (.eng e))) := by
      rw [Device.waitQueue, ht, hd.time_eq]
      rfl
    simp only [hq, if_pos hfull, hw, Nat.not_lt.2 hfull, and_false, if_false]
    exact ⟨hd.mem_eq, fun h u hn => (Device.thread_setThread_ne _ _ (Ne.symm hn)).trans (hd.thread_ne hn),
      fun e' => (queue_setThread _ _ _ _ _).trans (hq e'), Device.thread_setThread_same _ _ _ _⟩
  · let d' := d.modCore g (fun c => c.setQueue e ((s.dev.core g).queue e ++ [op]))
    have hthr (h u : Nat) : d'.thread h u = d.thread h u := thread_setQueue _ _ _ _ _ _
    have ha : d'.advance g t = d'.setThread g t (goneOn (s.dev.thread g t)) := advance_eq ((hthr _ _).trans ht) hi.2
    simp only [hq, if_neg hfull, Nat.not_le.1 hfull, and_true, if_true]
    rw [show Device.advance _ g t = d'.setThread g t _ from ha]
    refine ⟨hd.mem_eq, fun h u hn => ?_, fun e' => ?_, Device.thread_setThread_same _ _ _ _⟩
    · exact ((Device.thread_setThread_ne _ _ (Ne.symm hn)).trans (hthr _ _)).trans (hd.thread_ne hn)
    · rw [queue_setThread, Device.core_modCore_same, queue_setQueue, hq]

section
variable {s : State} {g : CoreN} {t : Thr} {c : Instr}

theorem completes_joins {f : Device → Thread → Device} {e : Nat} {op : EngOp} (hi : Issues s.dev g t)
    (he : exec c s = s.run (fun d => d.issue g t f))
    (hf : ∀ d, ThreadOnly g t s.dev d → f d (s.dev.thread g t) = queueEng d g t e op) :
    Completes c s (Joins s g t e op) :=
  completes_issue hi.1 he fun d hd ht => by
    rw [hf d hd]
    exact joins_queueEng hi hd ht e op

/-- A reserved code: the thread is FAULTED. -/
theorem completes_fault {f : Device → Thread → Device} (hi : Issues s.dev g t)
    (he : exec c s = s.run (fun d => d.issue g t f)) (hf : ∀ d, f d (s.dev.thread g t) = d.faultThread g t 0x7020) :
    Completes c s (fun d => Raised 0x7020 s.dev d ∧ d.mem = s.dev.mem ∧
      d.thread g t = { s.dev.thread g t with st := .faulted }) :=
  completes_issue hi.1 he fun d hd ht => by
    rw [hf d]
    refine ⟨(raised_faultThread d g t (by decide)).of_evt_eq hd.evt_eq.symm rfl, (mem_faultThread ..).trans hd.mem_eq, ?_⟩
    rw [thread_faultThread, if_pos rfl, ht]

theorem completes_badDesc {f : Device → Thread → Device} (hi : Issues s.dev g t)
    (he : exec c s = s.run (fun d => d.issue g t f))
    (hf : ∀ d, f d (s.dev.thread g t) = (d.badDesc g).advance g t) : Completes c s (EventThenNext 0x7022 g t s) :=
  completes_raise_advance hi he (by decide) hf

/-! ### Vector operations -/

/-- What an element-wise operation does when its thread issues it. -/
def vecIssued (g t : Nat) (f : VecFields) (ny nw : Bool) (op : Num → Num → Num → Num) (d : Device) (x : Thread) : Device :=
  if vecReserved f then d.faultThread g t 0x7020
  else if vecBad f ny nw x then (d.badDesc g).advance g t
  else (vecWrite d g 6 x.handle (outTarget f.fz.toNat f.sat) (rmodeOf f.rmode.toNat) (x.reg f.rz).toNat
    (vecVals d g f ny nw op x)).advance g t

/-- R237: an operation that faults or is refused is not held. -/
theorem vecOp_of_not_carried {d : Device} {f : VecFields} {ny nw : Bool} {op : Num → Num → Num → Num}
    (h : vecReserved f = true ∨ vecBad f ny nw (d.thread g t) = true) :
    vecOp d g t f ny nw op = d.issue g t (vecIssued g t f ny nw op) := by
  exact if_neg (by rcases h with h | h <;> simp [h])

section
variable {f : VecFields} {ny nw : Bool} {op : Num → Num → Num → Num} (hi : Issues s.dev g t)
  (he : exec c s = s.issueHits g t [] (fun d => vecOp d g t f ny nw op))
include he

theorem exec_vecOp_of_not_carried (h : vecReserved f = true ∨ vecBad f ny nw (s.dev.thread g t) = true) :
    exec c s = s.run (fun d => d.issue g t (vecIssued g t f ny nw op)) := by
  rw [he, issueHits_nil, State.run, vecOp_of_not_carried h, State.run]

include hi

theorem completes_vecOp_fault (hf : 2 ≤ f.fz.toNat ∨ f.rmode.toNat = 3) :
    Completes c s (fun d => Raised 0x7020 s.dev d ∧ d.mem = s.dev.mem ∧
      d.thread g t = { s.dev.thread g t with st := .faulted }) := by
  have hr : vecReserved f = true := by simpa [vecReserved] using hf
  exact completes_fault hi (exec_vecOp_of_not_carried he (.inl hr)) fun d => if_pos hr

theorem completes_vecOp_refused (hfz : f.fz.toNat < 2) (hrm : f.rmode.toNat ≠ 3)
    (hn : ((s.dev.thread g t).reg f.rn).toNat % 64 ≠ 0) : Completes c s (EventThenNext 0x7022 g t s) := by
  have hr : vecReserved f ≠ true := by simp [vecReserved, hrm, hfz]
  have hb : vecBad f ny nw (s.dev.thread g t) = true := by
    have : (((s.dev.thread g t).reg f.rn).toNat % 64 != 0) = true := by simpa using hn
    simp only [vecBad, this, Bool.true_or]
  exact completes_badDesc hi (exec_vecOp_of_not_carried he (.inr hb)) fun d => (if_neg hr).trans (if_pos hb)

end
end

/-- Settles O13: an operation joins its queue, faults its thread, or is refused. -/
theorem engineOperationsQueue : Obligations.EngineOperationsQueue := by
  refine ⟨fun s g t hi => ⟨fun f hm ha hb hoa hob => ?_, fun f h1 h8 hr hm ho ha hs => ?_, fun f ha => ?_⟩,
    fun s g t hi => ⟨fun f => ⟨fun h => ?_, fun hm ha hb h => ?_⟩, fun f h => ?_, fun f h => ?_, fun f h => ?_, fun f hz hm hn => ?_⟩⟩
  · exact completes_joins hi rfl fun d hd => by simp [hm, ha, hb, hoa, hob]
  · refine completes_joins hi (exec_of_clean rfl) fun d hd => ?_
    have hadd : (f.add && decide (240 ≤ (outDesc ((s.dev.thread g t).reg f.rd)).frame)) = false := by
      cases hadd : f.add
      · rfl
      · simpa using ha hadd
    have hline (ts : Nat) : d.line (Device.clusterOf g) ts = s.dev.line (g / 16) ts :=
      hd.line_eq (by omega) (k := g / 16) (by omega) ts
    have h0 : f.fmtOut.toNat ≠ 0 := by omega
    have hfo : ¬ 240 ≤ (outDesc ((s.dev.thread g t).reg f.ro)).frame := Nat.not_le.2 ho
    simp [hr, h0, Nat.not_le.2 h8, hm, hfo, Nat.not_le.2 hs, hadd, hline]
  · exact completes_joins hi rfl fun d hd => by simp [ha]
  · refine completes_fault hi rfl fun d => if_pos ?_
    rcases h with h | h <;> simp [h]
  · refine completes_badDesc hi rfl fun d => ?_
    have hbad : opDescBad true (contBits f.fmtA.toNat f.widthA.toNat) (opDesc ((s.dev.thread g t).reg f.ra)) = true := by
      simp [opDescBad, h]
    simp [hm, ha, hb, hbad]
  · refine completes_fault hi (exec_of_clean rfl) fun d => if_pos ?_
    rcases h with h | h | h <;> simp [h]
  · exact completes_badDesc hi rfl fun d => if_pos h
  · exact ⟨completes_vecOp_fault hi rfl h, completes_vecOp_fault hi rfl h, completes_vecOp_fault hi rfl h,
      completes_vecOp_fault hi rfl h, completes_vecOp_fault hi rfl h, completes_vecOp_fault hi rfl h,
      completes_vecOp_fault hi rfl h, completes_vecOp_fault hi rfl h, completes_vecOp_fault hi rfl h,
      completes_vecOp_fault hi rfl h, completes_vecOp_fault hi rfl h⟩
  · have key {c : Instr} {ny nw : Bool} {op : Num → Num → Num → Num}
        (he : exec c s = s.issueHits g t [] (fun d => vecOp d g t f ny nw op)) : Completes c s (EventThenNext 0x7022 g t s) :=
      completes_vecOp_refused hi he hz hm hn
    exact ⟨key rfl, key rfl, key rfl, key rfl, key rfl, key rfl, key rfl, key rfl, key rfl, key rfl, key rfl⟩

end Sys2Proof.Machine

/-! PROOFS. What counters, events and draws of random bits leave alone: they touch the dictionary, the event record, the
clusters, the health record, the alert line and what is sent, and nothing else. -/

namespace Sys2Proof.Machine

/-- A device without the parts that counting, raising events and drawing bits change. -/
def Device.apart (d : Device) : Device :=
  { d with dict := {}, evt := {}, clus := [], health := {}, alert := false, out := [] }

/-- From `d` to `d'` only counters, events and the state of clusters change. -/
def Aside (d d' : Device) : Prop := d'.apart = d.apart

namespace Aside

theorem refl (d : Device) : Aside d d := rfl

theorem trans {d e f : Device} (h : Aside d e) (h' : Aside e f) : Aside d f := Eq.trans h' h

theorem mem {d e : Device} (h : Aside d e) : e.mem = d.mem := by
  have hf := congrArg Device.mem h
  exact hf

theorem cores {d e : Device} (h : Aside d e) : e.cores = d.cores := by
  have hf := congrArg Device.cores h
  exact hf

theorem time {d e : Device} (h : Aside d e) : e.time = d.time := by
  have hf := congrArg Device.time h
  exact hf

theorem work {d e : Device} (h : Aside d e) : e.work = d.work := by
  have hf := congrArg Device.work h
  exact hf

theorem core {d e : Device} (h : Aside d e) (g : Nat) : e.core g = d.core g := core_of_cores_eq h.cores g

theorem thread {d e : Device} (h : Aside d e) (g t : Nat) : e.thread g t = d.thread g t :=
  congrArg (CoreS.thread · t) (h.core g)

theorem foldl {α : Type} {f : Device → α → Device} (hf : ∀ d a, Aside d (f d a)) (l : List α) (d : Device) :
    Aside d (l.foldl f d) := foldl_rel refl (fun _ _ _ => trans) hf l d

theorem forN {f : Device → Nat → Device} (hf : ∀ d a, Aside d (f d a)) (n : Nat) (d : Device) : Aside d (forN n d f) :=
  foldl hf _ d

theorem ite {d e f : Device} {p : Prop} [Decidable p] (he : Aside d e) (hf : Aside d f) : Aside d (if p then e else f) := by
  split
  · exact he
  · exact hf

theorem setNum (d : Device) (i s k v : Nat) : Aside d (d.setNum i s k v) := by
  unfold Aside Device.apart
  ext1 <;> simp

theorem addNum (d : Device) (i s k v : Nat) : Aside d (d.addNum i s k v) := by
  unfold Aside Device.apart
  ext1 <;> simp

theorem raise (d : Device) (c ua ui a b : Nat) : Aside d (d.raise c ua ui a b) := by
  unfold Aside Device.apart
  ext1 <;> simp

theorem raiseOnce (d : Device) (c k ua ui a b : Nat) : Aside d (d.raiseOnce c k ua ui a b) := by
  unfold Aside Device.apart
  ext1 <;> simp

theorem modClu (d : Device) (k : Nat) (f : ClusS → ClusS) : Aside d (d.modClu k f) := rfl

theorem setUnitCtx (d : Device) (k u : Nat) (x : UnitCtx) : Aside d (d.setUnitCtx k u x) := rfl

/-! ### Draws (R226 to R241) -/

theorem openCtx (d : Device) (k u : Nat) (h : W32) (e : StreamEnt) : Aside d (d.openCtx k u h e) := by
  unfold Device.openCtx
  exact ite (((setUnitCtx ..).trans (modClu ..)).trans ((addNum ..).trans (raise ..)))
    (((setUnitCtx ..).trans (modClu ..)).trans (addNum ..))

theorem currentCtx (d : Device) (k u : Nat) (h : W32) : Aside d (d.currentCtx k u h).1 := by
  unfold Device.currentCtx
  split
  · exact raise ..
  · split
    · split
      · exact refl d
      · exact openCtx ..
    · exact openCtx ..

theorem endDraw (d : Device) (k u : Nat) (w : Drawing) : Aside d (d.endDraw k u w) := by
  unfold Device.endDraw
  exact ((setUnitCtx ..).trans (addNum ..)).trans (forN (fun _ _ => raise ..) _ _)

theorem holdDraw (d : Device) (k u : Nat) (h : W32) : Aside d (d.holdDraw k u h) := by
  unfold Device.holdDraw Device.starve
  exact ite ((addNum ..).trans (currentCtx ..)) (addNum ..)

theorem srRound (d : Device) (k u : Nat) (h : W32) (tg : Target) (rm : RMode) (r : Nat) (lane : Nat → Nat) (vs : List Num) :
    Aside d (d.srRound k u h tg rm r lane vs).1 := by
  have hc := currentCtx d k u h
  unfold Device.srRound
  split
  · exact refl d
  · split
    · exact refl d
    · split <;> rename_i heq <;> rw [heq] at hc
      · exact hc
      · exact hc.trans (endDraw ..)

/-! ### What writes count (R305 to R307) -/

theorem count (d : Device) (k cls kind n : Nat) : Aside d (d.count k cls kind n) := by
  unfold Device.count
  exact ite (refl d) (modClu ..)

theorem countNonfinite (d : Device) (k cls kind n : Nat) : Aside d (d.countNonfinite k cls kind n) := by
  unfold Device.countNonfinite
  exact ite (refl d) (ite (count ..) ((count ..).trans (raiseOnce ..)))

theorem tally (d : Device) (k cls : Nat) (t : Tally) (ua ui a : Nat) : Aside d (d.tally k cls t ua ui a) := by
  unfold Device.tally
  exact (((((forN (fun _ _ => raise ..) _ _).trans (count ..)).trans (count ..)).trans (countNonfinite ..)).trans
    (countNonfinite ..)).trans (addNum ..)

end Aside

end Sys2Proof.Machine

/-! PROOFS. Element-wise vector operations, reductions and WUPD (R62, R63, R125, R126, R237). -/

namespace Sys2Proof.Machine

/-! ### Bytes read back -/

theorem getD_bytes {d : Device} {n i : Nat} (a : Nat) (h : i < n) : (d.bytes a n).getD i 0 = d.byteAt (a + i) := by
  induction n generalizing a i with
  | zero => omega
  | succ n ih =>
    cases i with
    | zero => simp [Device.bytes]
    | succ i =>
      rw [Device.bytes, List.getD_cons_succ, ih _ (by omega)]
      congr 1
      omega

theorem bytes_eq_iff {d : Device} {a n : Nat} {l : List Byte} (hl : l.length = n) :
    d.bytes a n = l ↔ ∀ i, i < n → d.byteAt (a + i) = l.getD i 0 := by
  constructor
  · rintro rfl i hi
    exact (getD_bytes a hi).symm
  · intro h
    refine List.ext_getElem ((length_bytes d n a).trans hl.symm) fun i hi hi' => ?_
    have hin : i < n := hl ▸ hi'
    have hg := (getD_bytes (d := d) a hin).trans (h i hin)
    rwa [List.getD_eq_getElem _ _ hi, List.getD_eq_getElem _ _ hi'] at hg

/-- What has just been written is read back. -/
theorem bytes_put_same (d : Device) (a : Nat) (bs : List Byte) : (d.put a bs).bytes a bs.length = bs :=
  (bytes_eq_iff rfl).2 fun i hi => by
    rw [Device.byteAt_put, if_pos ⟨by omega, by omega⟩, Nat.add_sub_cancel_left]

theorem byteAt_put_ne (d : Device) {a x : Nat} {bs : List Byte} (h : x < a ∨ a + bs.length ≤ x) :
    (d.put a bs).byteAt x = d.byteAt x := by
  rw [Device.byteAt_put, if_neg (by omega)]

theorem length_flatMap_leBytes (n : Nat) (xs : List Nat) : (xs.flatMap (leBytes n)).length = n * xs.length := by
  simp [List.length_flatMap, length_leBytes, Nat.mul_comm]

theorem length_packElems_16 (xs : List Nat) : (packElems 16 xs).length = 2 * xs.length := length_flatMap_leBytes 2 xs

theorem length_packElems_8 (xs : List Nat) : (packElems 8 xs).length = xs.length :=
  (length_flatMap_leBytes 1 xs).trans (one_mul _)

/-! ### Rounding -/

theorem rmodeOf_ne_sr {c : Nat} (h : c % 4 ≠ 1) : rmodeOf c ≠ .sr := by
  unfold rmodeOf
  rw [if_neg h]
  split <;> decide

/-- Without SR a list is rounded element by element, and nothing else happens. -/
theorem srRound_of_ne_sr {d : Device} {k u : Nat} {hd : W32} {tg : Target} {rm : RMode} {r : Nat} {lane : Nat → Nat}
    {vs : List Num} (h : rm ≠ .sr) : d.srRound k u hd tg rm r lane vs = (d, vs.map (roundTo tg rm r 0)) := by
  have : (rm != .sr) = true := by simpa using h
  simp [Device.srRound, this]

theorem length_srFold (tg : Target) (lane : Nat → Nat) (r : Nat) (xs : List (Num × Nat)) (acc : List Rounded × Drawing) :
    (xs.foldl (fun (acc : List Rounded × Drawing) x =>
      if srDraws tg x.1 then
        let y := acc.2.take (lane x.2) r
        (acc.1 ++ [roundTo tg .sr r y.1 x.1], y.2)
      else (acc.1 ++ [roundTo tg .rne r 0 x.1], acc.2)) acc).1.length = acc.1.length + xs.length := by
  induction xs generalizing acc with
  | nil => rfl
  | cons x xs ih =>
    rw [List.foldl_cons, ih]
    split <;> simp <;> omega

/-- Rounding gives one result for each value. -/
theorem length_srRound (d : Device) (k u : Nat) (h : W32) (tg : Target) (rm : RMode) (r : Nat) (lane : Nat → Nat)
    (vs : List Num) : (d.srRound k u h tg rm r lane vs).2.length = vs.length := by
  unfold Device.srRound
  split
  · simp
  · split
    · simp
    · split
      · simp
      · exact (length_srFold tg lane r vs.zipIdx ([], _)).trans (by simp)

/-! ### Sources -/

theorem srcVals_of_mem_eq {d e : Device} (h : e.mem = d.mem) (g c : Nat) (v : W64) (n : Nat) :
    srcVals e g c v n = srcVals d g c v n := by
  simp only [srcVals, bytes_of_mem_eq h]

theorem length_srcVals (d : Device) (g c : Nat) (v : W64) (n : Nat) : (srcVals d g c v n).length = n := by
  unfold srcVals
  split <;> simp

theorem vecVals_of_mem_eq {d e : Device} (h : e.mem = d.mem) (g : Nat) (f : VecFields) (ny nw : Bool)
    (op : Num → Num → Num → Num) (x : Thread) : vecVals e g f ny nw op x = vecVals d g f ny nw op x := by
  simp only [vecVals, srcVals_of_mem_eq h]

theorem length_vecVals (d : Device) (g : Nat) (f : VecFields) (ny nw : Bool) (op : Num → Num → Num → Num) (x : Thread) :
    (vecVals d g f ny nw op x).length = (x.reg f.rn).toNat := by
  cases ny <;> cases nw <;> simp [vecVals, length_srcVals]

section
variable (d : Device) (g : Nat) (f : VecFields) (x : Thread)

/-- An operation on one source. -/
theorem vecVals_unary (u : Num → Num) : vecVals d g f false false (fun a _ _ => u a) x =
    (srcVals d g f.fx.toNat (x.reg f.rx) (x.reg f.rn).toNat).map u :=
  List.ext_getElem (by simp [vecVals]) fun i h h' => by simp [vecVals]

/-- An operation on two sources. -/
theorem vecVals_binary (u : Num → Num → Num) : vecVals d g f true false (fun a b _ => u a b) x =
    List.zipWith u (srcVals d g f.fx.toNat (x.reg f.rx) (x.reg f.rn).toNat)
      (srcVals d g f.fy.toNat (x.reg f.ry) (x.reg f.rn).toNat) :=
  List.ext_getElem (by simp [vecVals, length_srcVals]) fun i h h' => by simp [vecVals]

end

/-! ### Element-wise operations -/

/-- The same bytes are written. -/
theorem Aside.put {d e : Device} (h : Aside d e) (a : Nat) (bs : List Byte) : Aside (d.put a bs) (e.put a bs) :=
  congrArg (fun x : Device => x.put a bs) h

theorem Aside.setRaised {d : Device} {p : Prop} [Decidable p] (c ua ui : Nat) : Aside d (if p then d.raise c ua ui else d) :=
  .ite (.raise ..) (.refl d)

/-- What rounding results and storing them does: the bytes from `a` on, and counters. -/
theorem vecWrite_spec (d : Device) (g cls : Nat) (h : W32) (tg : Target) (rm : RMode) (off : Nat) (vs : List Num) :
    ∃ rs : List Rounded, rs.length = vs.length ∧
      (rm ≠ .sr → rs = vs.map (roundTo tg rm (d.force 0x1901 1) 0)) ∧
      Aside (d.put (Device.localAddr g off) (packElems 16 (rs.map (·.bits)))) (vecWrite d g cls h tg rm off vs) := by
  let d1 := if rm = .sr && noStream h then d.raise 0x7022 0x7020 (g + 1) else d
  let x := d1.srRound (Device.clusterOf g) (vecUnit (g % 16)) h tg rm (d1.force 0x1901 1) (fun i => i % 256) vs
  have hd1 : Aside d d1 := Aside.setRaised _ _ _
  have hx : Aside d x.1 := hd1.trans (Aside.srRound ..)
  refine ⟨x.2, length_srRound .., fun hrm => ?_, Aside.trans ?_ (Aside.tally ..)⟩
  · have : d1 = d := by simp [d1, hrm]
    simp only [x, srRound_of_ne_sr hrm, this]
  · exact hx.put _ _

/-- The force value of an object, and the handle's stream, stand in no thread. -/
theorem ThreadOnly.force_eq {g t : Nat} {d d' : Device} (h : ThreadOnly g t d d') (i s : Nat) : d'.force i s = d.force i s := by
  unfold Device.force
  rw [h.dict]

section
variable {c : Instr} {s : State} {g : CoreN} {t : Thr} {f : VecFields} {ny nw : Bool} {op : Num → Num → Num → Num}
  {vs : List Num}

/-- What an element-wise operation leaves whose results before rounding are `vs`. -/
def VecWritten (s : State) (g t : Nat) (f : VecFields) (vs : List Num) (d : Device) : Prop :=
  let x := s.dev.thread g t
  let n := (x.reg f.rn).toNat
  let zo := Device.localAddr g (x.reg f.rz).toNat
  if vecHeld s.dev g x.handle (outTarget f.fz.toNat f.sat) (rmodeOf f.rmode.toNat) vs then
    d.mem = s.dev.mem ∧ ∀ h u, d.thread h u = s.dev.thread h u
  else
    d.thread g t = goneOn x ∧ (∀ a, a < zo ∨ zo + 2 * n ≤ a → d.byteAt a = s.dev.byteAt a) ∧
    (f.rmode.toNat ≠ 1 → d.bytes zo (2 * n) = packElems 16 (vs.map (fun v =>
      (roundTo (outTarget f.fz.toNat f.sat) (rmodeOf f.rmode.toNat) (s.dev.force 0x1901 1) 0 v).bits)))

theorem vecBad_eq_false {x : Thread} (hn : (x.reg f.rn).toNat % 64 = 0)
    (hz : spanBad (x.reg f.rz).toNat 2 (x.reg f.rn).toNat = false)
    (hx : srcBad f.fx.toNat (x.reg f.rx).toNat (x.reg f.rn).toNat = false)
    (hy : ny = true → srcBad f.fy.toNat (x.reg f.ry).toNat (x.reg f.rn).toNat = false)
    (hw : nw = true → srcBad f.fy.toNat (x.reg f.rw).toNat (x.reg f.rn).toNat = false) : vecBad f ny nw x = false := by
  have hn' : ((x.reg f.rn).toNat % 64 != 0) = false := by simpa using hn
  simp only [vecBad, hn', hz, hx, Bool.false_or, Bool.or_eq_false_iff, Bool.and_eq_false_imp]
  exact ⟨hy, hw⟩

theorem vecWritten_issued {d : Device} (hi : Issues s.dev g t) (hd : ThreadOnly g t s.dev d)
    (ht : d.thread g t = s.dev.thread g t) (hm : f.rmode.toNat < 4) (hl : vs.length = ((s.dev.thread g t).reg f.rn).toNat)
    (hh : vecHeld s.dev g (s.dev.thread g t).handle (outTarget f.fz.toNat f.sat) (rmodeOf f.rmode.toNat) vs = false) :
    VecWritten s g t f vs ((vecWrite d g 6 (s.dev.thread g t).handle (outTarget f.fz.toNat f.sat) (rmodeOf f.rmode.toNat)
      ((s.dev.thread g t).reg f.rz).toNat vs).advance g t) := by
  obtain ⟨rs, hlen, hrs, ha⟩ := vecWrite_spec d g 6 (s.dev.thread g t).handle (outTarget f.fz.toNat f.sat)
    (rmodeOf f.rmode.toNat) ((s.dev.thread g t).reg f.rz).toNat vs
  have hbl : (packElems 16 (rs.map (·.bits))).length = 2 * ((s.dev.thread g t).reg f.rn).toNat := by
    rw [length_packElems_16, List.length_map, hlen, hl]
  rw [VecWritten, if_neg (by simp [hh]), advance_eq ((ha.thread g t).trans ht) hi.2]
  refine ⟨Device.thread_setThread_same _ _ _ _, fun a hout => ?_, fun hne => ?_⟩
  · rw [← hd.mem a, ← byteAt_put_ne d (bs := packElems 16 (rs.map (·.bits))) (hbl ▸ hout)]
    exact congrArg (Map.get 0 · a) ha.mem
  · have hsr : rmodeOf f.rmode.toNat ≠ .sr := rmodeOf_ne_sr (by omega)
    rw [bytes_of_mem_eq (e := Device.setThread _ _ _ _) (d := d.put _ _) ha.mem, ← hbl, bytes_put_same, hrs hsr, hd.force_eq,
      List.map_map]
    rfl

theorem completes_vecOp (hi : Issues s.dev g t) (he : exec c s = s.issueHits g t [] (fun d => vecOp d g t f ny nw op))
    (hr : vecReserved f = false) (hb : vecBad f ny nw (s.dev.thread g t) = false)
    (hvs : vecVals s.dev g f ny nw op (s.dev.thread g t) = vs) : Completes c s (VecWritten s g t f vs) := by
  rw [issueHits_nil] at he
  cases hh : vecHeld s.dev g (s.dev.thread g t).handle (outTarget f.fz.toNat f.sat) (rmodeOf f.rmode.toNat) vs
  · have he' : exec c s = s.run (fun d => d.issue g t (vecIssued g t f ny nw op)) := by
      rw [he, State.run, State.run, vecOp, hvs]
      simp only [hh, Bool.and_false, Bool.false_eq_true, if_false]
      rfl
    refine completes_issue hi.1 he' fun d hd ht => ?_
    have hvd : vecVals d g f ny nw op (s.dev.thread g t) = vs := (vecVals_of_mem_eq hd.mem_eq ..).trans hvs
    rw [vecIssued, if_neg (by simp [hr]), if_neg (by simp [hb]), hvd]
    exact vecWritten_issued hi hd ht (by have := f.rmode.isLt; omega) (hvs ▸ length_vecVals ..) hh
  · have ha := Aside.holdDraw s.dev (Device.clusterOf g) (vecUnit (g % 16)) (s.dev.thread g t).handle
    refine completes_next (d := s.dev.holdDraw (Device.clusterOf g) (vecUnit (g % 16)) (s.dev.thread g t).handle)
      (he.trans ?_) ?_
    · rw [State.run, vecOp, hvs]
      simp only [hh, hr, hb, hi.1, Bool.not_false, Bool.and_true, if_true]
    · rw [VecWritten, if_pos hh]
      exact ⟨ha.mem, ha.thread⟩

end

/-- Settles O14: the operation is held, or its results are rounded once and stored. -/
theorem vectorElementwise : Obligations.VectorElementwise := by
  intro s g t f hi x n zo xs ys ws q writes hfz hrm hn hz hx
  have hr : vecReserved f = false := by simp [vecReserved, hrm, hfz]
  refine ⟨?_, fun hy => ?_⟩
  · have hb : vecBad f false false x = false := vecBad_eq_false hn hz hx nofun nofun
    exact ⟨completes_vecOp hi rfl hr hb (vecVals_unary ..), completes_vecOp hi rfl hr hb (vecVals_unary ..),
      completes_vecOp hi rfl hr hb (vecVals_unary ..), completes_vecOp hi rfl hr hb (vecVals_unary ..),
      completes_vecOp hi rfl hr hb (vecVals_unary ..)⟩
  · have hb : vecBad f true false x = false := vecBad_eq_false hn hz hx (fun _ => hy) nofun
    exact ⟨completes_vecOp hi rfl hr hb (vecVals_binary ..), completes_vecOp hi rfl hr hb (vecVals_binary ..),
      completes_vecOp hi rfl hr hb (vecVals_binary ..), completes_vecOp hi rfl hr hb (vecVals_binary ..),
      completes_vecOp hi rfl hr hb (vecVals_binary ..),
      fun hw => completes_vecOp hi rfl hr (vecBad_eq_false hn hz hx (fun _ => hy) fun _ => hw) rfl⟩

end Sys2Proof.Machine

/-! PROOFS. Reductions and WUPD (R62, R63, R126, R237). -/

namespace Sys2Proof.Machine

/-! ### Reductions -/

section
variable {c : Instr} {s : State} {g : CoreN} {t : Thr} {f : VecFields}

/-- R126: a reduction writes its binary32 result into the low half of RZ. -/
theorem completes_vecReduce {op : List Num → Num} (hi : Issues s.dev g t)
    (he : exec c s = s.issueHits g t [] (fun d => vecReduce d g t f op)) (hz : f.fz.toNat ≠ 2) (hm : f.rmode.toNat ≠ 3)
    (hn : ((s.dev.thread g t).reg f.rn).toNat % 64 = 0)
    (hx : srcBad f.fx.toNat ((s.dev.thread g t).reg f.rx).toNat ((s.dev.thread g t).reg f.rn).toNat = false) :
    let x := s.dev.thread g t
    Completes c s (fun d => d.mem = s.dev.mem ∧ goesOn x (d.thread g t) ∧
      (f.rz.val ≠ 0 → ((d.thread g t).reg f.rz).setWidth 32 =
        BitVec.ofNat 32 (toF32 (op (srcVals s.dev g f.fx.toNat (x.reg f.rx) (x.reg f.rn).toNat)))) ∧
      ∀ r, r ≠ f.rz → (d.thread g t).reg r = x.reg r) := by
  intro x
  let v := BitVec.ofNat 32 (toF32 (op (srcVals s.dev g f.fx.toNat (x.reg f.rx) (x.reg f.rn).toNat)))
  refine completes_issue_eq hi (exec_of_clean he) (e := fun d => d.drawFree.2.writeReg g t f.rz (Config.upper32 d.drawFree.1 ++ v))
    (fun d hd _ => ?_) fun d hd ht => ?_
  · simp [hz, hm, hn, hx, srcVals_of_mem_eq hd.mem_eq, v, x]
  · have hte : d.drawFree.2.thread g t = x := ht
    obtain ⟨hmem, _, _, _, _, hgo, hreg⟩ := regWritten_writeReg (d := d.drawFree.2) (g := g) (t := t) f.rz
      (Config.upper32 d.drawFree.1 ++ v) (hte ▸ hi.2) (hte ▸ Device.ready_of_picks _ _ _ hi.1)
    rw [hte] at hgo hreg
    refine ⟨hmem.trans hd.mem_eq, hgo, fun h0 => ?_, fun r hr => (hreg r).trans (if_neg (by tauto))⟩
    rw [hreg, if_pos ⟨rfl, h0⟩, BitVec.setWidth_append]
    simp [v]

/-! ### WUPD -/

theorem bytes_put_ne (d : Device) {a b n : Nat} {bs : List Byte} (h : b + n ≤ a ∨ a + bs.length ≤ b) :
    (d.put a bs).bytes b n = d.bytes b n :=
  (bytes_eq_iff (length_bytes d n b)).2 fun i hi => by rw [byteAt_put_ne d (by omega), getD_bytes b hi]


/-- Two pieces written one after the other: the second is read back, the first where they do not overlap. -/
theorem reads_of_puts {d e : Device} {a b : Nat} {as bs : List Byte} (h : e.mem = ((d.put a as).put b bs).mem) :
    (∀ x, (x < a ∨ a + as.length ≤ x) → (x < b ∨ b + bs.length ≤ x) → e.byteAt x = d.byteAt x) ∧
    e.bytes b bs.length = bs ∧ (b + bs.length ≤ a ∨ a + as.length ≤ b → e.bytes a as.length = as) := by
  refine ⟨fun x ha hb => ?_, ?_, fun hd => ?_⟩
  · exact (congrArg (Map.get 0 · x) h).trans ((byteAt_put_ne _ hb).trans (byteAt_put_ne d ha))
  · exact (bytes_of_mem_eq h _ _).trans (bytes_put_same ..)
  · exact (bytes_of_mem_eq h _ _).trans ((bytes_put_ne _ hd.symm).trans (bytes_put_same ..))

theorem wupdVals_of_mem_eq {d e : Device} (h : e.mem = d.mem) (x : Thread) : wupdVals e g f x = wupdVals d g f x := by
  simp only [wupdVals, srcVals_of_mem_eq h, bytes_of_mem_eq h]

theorem length_wupdVals (d : Device) (x : Thread) : (wupdVals d g f x).length = (x.reg f.rn).toNat := by
  simp [wupdVals, length_srcVals]

/-- The new carries of weights `ts` stored as `ws`. -/
def carries (ts : List Num) (ws : List Nat) : List Nat := ((ts.zip ws).map (fun p => carryOf p.1 p.2)).map (·.1)

/-- What WUPD stores: weights, then carries, and counters. -/
theorem wupdWrite_spec (d : Device) (x : Thread) : ∃ ws : List Nat, ws.length = (x.reg f.rn).toNat ∧
    (rmodeOf f.rmode.toNat ≠ .sr →
      ws = (wupdVals d g f x).map (fun v => (roundTo stateTarget (rmodeOf f.rmode.toNat) (d.force 0x1901 1) 0 v).bits)) ∧
    Aside ((d.put (Device.localAddr g (x.reg f.rx).toNat) (packElems 16 ws)).put (Device.localAddr g (x.reg f.ry).toNat)
      (packElems 8 (carries (wupdVals d g f x) ws))) (wupdWrite d g f x) := by
  let ts := wupdVals d g f x
  let d1 := if rmodeOf f.rmode.toNat = .sr && noStream x.handle then d.raise 0x7022 0x7020 (g + 1) else d
  let y := d1.srRound (Device.clusterOf g) (vecUnit (g % 16)) x.handle stateTarget (rmodeOf f.rmode.toNat) (d1.force 0x1901 1)
    (fun i => i % 256) ts
  have hy : Aside d y.1 := Aside.trans (Aside.setRaised _ _ _) (Aside.srRound ..)
  have hlen : y.2.length = (x.reg f.rn).toNat := (length_srRound ..).trans (length_wupdVals d x)
  refine ⟨y.2.map (·.bits), by rw [List.length_map, hlen], fun hrm => ?_, Aside.trans ((hy.put _ _).put _ _) ?_⟩
  · have hd1 : d1 = d := by simp [d1, hrm]
    simp only [y, srRound_of_ne_sr hrm, hd1, List.map_map]
    rfl
  · exact (((Aside.addNum ..).trans (Aside.addNum ..)).trans (Aside.addNum ..)).trans (Aside.tally ..)

/-- What WUPD leaves of weights at `wo` and carries at `co`. -/
def Updated (s : State) (g t : Nat) (f : VecFields) (d : Device) : Prop :=
  let x := s.dev.thread g t
  let n := (x.reg f.rn).toNat
  let wo := Device.localAddr g (x.reg f.rx).toNat
  let co := Device.localAddr g (x.reg f.ry).toNat
  let ts := wupdVals s.dev g f x
  let ws := ts.map (fun v => (roundTo stateTarget .rne (s.dev.force 0x1901 1) 0 v).bits)
  if vecHeld s.dev g x.handle stateTarget (rmodeOf f.rmode.toNat) ts then
    d.mem = s.dev.mem ∧ ∀ h u, d.thread h u = s.dev.thread h u
  else d.thread g t = goneOn x ∧
    (∀ a, (a < wo ∨ wo + 2 * n ≤ a) → (a < co ∨ co + n ≤ a) → d.byteAt a = s.dev.byteAt a) ∧
    (f.rmode.toNat = 0 → d.bytes co n = packElems 8 (carries ts ws) ∧
      (co + n ≤ wo ∨ wo + 2 * n ≤ co → d.bytes wo (2 * n) = packElems 16 ws))

theorem updated_issued {d : Device} (hi : Issues s.dev g t) (hd : ThreadOnly g t s.dev d) (ht : d.thread g t = s.dev.thread g t)
    (hh : vecHeld s.dev g (s.dev.thread g t).handle stateTarget (rmodeOf f.rmode.toNat)
      (wupdVals s.dev g f (s.dev.thread g t)) = false) :
    Updated s g t f ((wupdWrite d g f (s.dev.thread g t)).advance g t) := by
  obtain ⟨ws, hlen, hws, ha⟩ := wupdWrite_spec (g := g) (f := f) d (s.dev.thread g t)
  have hts := length_wupdVals (g := g) (f := f) s.dev (s.dev.thread g t)
  have hwl : (packElems 16 ws).length = 2 * ((s.dev.thread g t).reg f.rn).toNat := by rw [length_packElems_16, hlen]
  have hcl : (packElems 8 (carries (wupdVals s.dev g f (s.dev.thread g t)) ws)).length =
      ((s.dev.thread g t).reg f.rn).toNat := by
    rw [length_packElems_8]
    simp [carries, hlen, hts]
  rw [wupdVals_of_mem_eq hd.mem_eq] at hws ha
  rw [Updated, if_neg (by simp [hh]), advance_eq ((ha.thread g t).trans ht) hi.2]
  obtain ⟨hout, hcar, hwt⟩ := reads_of_puts (e := (wupdWrite d g f (s.dev.thread g t)).setThread g t
    { s.dev.thread g t with pc := (s.dev.thread g t).pc + 1 }) ha.mem
  rw [hwl, hcl] at *
  refine ⟨Device.thread_setThread_same _ _ _ _, fun a hw hc => (hout a hw hc).trans (hd.mem a), fun h0 => ?_⟩
  have hr : rmodeOf f.rmode.toNat = .rne := by rw [h0]; rfl
  have hws' := hws (by rw [hr]; decide)
  rw [hd.force_eq, hr] at hws'
  rw [← hws']
  exact ⟨hcar, hwt⟩

/-- R62, R63: WUPD is held, or stores the weights and their carries. -/
theorem completes_wupd (hi : Issues s.dev g t) (hm : f.rmode.toNat < 2) (hz : f.fz.toNat ≠ 2)
    (hb : wupdBad f (s.dev.thread g t) = false) : Completes (.wupd g t f []) s (Updated s g t f) := by
  have hr : wupdReserved f = false := by simp [wupdReserved, hm, hz]
  have he : exec (.wupd g t f []) s = s.run (fun d => wupdOp d g t f) :=
    issueHits_nil s g t (fun d => wupdOp d g t f)
  cases hh : vecHeld s.dev g (s.dev.thread g t).handle stateTarget (rmodeOf f.rmode.toNat) (wupdVals s.dev g f (s.dev.thread g t))
  · have he' : exec (.wupd g t f []) s = s.run (fun d => d.issue g t (fun d x =>
        if wupdReserved f then d.faultThread g t 0x7020 else if wupdBad f x then (d.badDesc g).advance g t
        else (wupdWrite d g f x).advance g t)) := by
      rw [he, State.run, State.run, wupdOp]
      simp only [hh, Bool.and_false, Bool.false_eq_true, if_false]
    refine completes_issue hi.1 he' fun d hd ht => ?_
    rw [if_neg (by simp [hr]), if_neg (by simp [hb])]
    exact updated_issued hi hd ht hh
  · have ha := Aside.holdDraw s.dev (Device.clusterOf g) (vecUnit (g % 16)) (s.dev.thread g t).handle
    refine completes_next (d := s.dev.holdDraw (Device.clusterOf g) (vecUnit (g % 16)) (s.dev.thread g t).handle)
      (he.trans ?_) ?_
    · rw [State.run, wupdOp]
      simp only [hh, hr, hb, hi.1, Bool.not_false, Bool.and_true, if_true]
    · rw [Updated, if_pos hh]
      exact ⟨ha.mem, ha.thread⟩

end

/-- Settles O15: a reduction is one register write; WUPD is held, or stores weights and carries. -/
theorem reductionsAndWeightUpdate : Obligations.ReductionsAndWeightUpdate := by
  refine ⟨fun s g t f hi => ?_, fun s g t f hi => ?_⟩
  · intro x n xs puts hz hm hn hx
    exact ⟨completes_vecReduce hi rfl hz hm hn hx, completes_vecReduce hi rfl hz hm hn hx⟩
  · intro x n wo co wb cb ts ws hm hz hn hw hc hs
    have hn' : ((x.reg f.rn).toNat % 64 != 0) = false := by simpa using hn
    have hb : wupdBad f x = false := by
      simp only [wupdBad, hn', Bool.false_or, Bool.or_eq_false_iff]
      exact ⟨⟨hw, hc⟩, hs⟩
    have hcar (ws : List Nat) : (ts.zip ws).map (fun p => (carryOf p.1 p.2).1) = carries ts ws := by
      simp [carries, Function.comp_def]
    rw [hcar]
    exact completes_wupd hi hm hz hb

end Sys2Proof.Machine

/-! PROOFS. Register results of micro-sequencers, and their control operations (R168, R170, R173 to R175). -/

namespace Sys2Proof.Machine

/-! ### Issue -/

theorem seqIssue_of_issues {d : Device} {q : Nat} (hi : SqIssues d q) (f : Device → SqS → Device) :
    d.seqIssue q f = f d (d.sq q) := by
  simp [Device.seqIssue, hi.1, hi.2]

theorem seqIssue_of_not_running {d : Device} {q : Nat} (h : (d.sq q).st ≠ .running) (f : Device → SqS → Device) :
    d.seqIssue q f = d := by
  unfold Device.seqIssue
  split
  · exact absurd ‹_› h
  · rfl

theorem seqIssue_past_image {d : Device} {q : Nat} (h : (d.sq q).st = .running) (hn : d.seqInside q = false)
    (f : Device → SqS → Device) : d.seqIssue q f = d.setSq q { d.sq q with st := .idle } := by
  simp [Device.seqIssue, h, hn, Device.seqWait]

theorem seqHits_nil (d : Device) (q : Nat) : d.seqHits q [] = d := by
  simp [Device.seqHits, Device.sramHits]

/-- An instance that does not issue reads nothing. -/
theorem seqHits_of_not_issues {d : Device} {q : Nat} (h : ¬ SqIssues d q) (hits : Hits) : d.seqHits q hits = d := by
  unfold Device.seqHits
  rw [if_neg]
  simpa [SqIssues] using h

section
variable {c : Instr} {s : State} {q : Nat}

theorem completes_seqIssue {f : Device → SqS → Device} {P : Device → Prop} (hi : SqIssues s.dev q)
    (he : exec c s = s.run (fun d => d.seqIssue q f)) (hP : P (f s.dev (s.dev.sq q))) : Completes c s P :=
  completes_next (he.trans (by rw [State.run, seqIssue_of_issues hi])) hP

theorem seqNext_eq (d : Device) (q : Nat) : d.seqNext q = d.setSq q { d.sq q with pc := (d.sq q).pc + 1 } := rfl

theorem setReg_eq (x : SqS) (rd : Reg) (v : W32) : x.setReg rd v = { x with regs := (x.setReg rd v).regs } := by
  unfold SqS.setReg
  split <;> rfl

/-- One register and the PC are written. -/
theorem sqOnly_seqWrite {d e : Device} (h : SqOnly q d e) (rd : Reg) (v : W32) : SqOnly q d (e.seqWrite q rd v) := by
  rw [Device.seqWrite, setReg_eq, seqNext_eq]
  exact (h.setSq _ _ _).setSq _ _ _

theorem sq_seqWrite (d : Device) (q : Nat) (rd : Reg) (v : W32) :
    (d.seqWrite q rd v).sq q = { (d.sq q).setReg rd v with pc := (d.sq q).pc + 1 } := by
  rw [Device.seqWrite, seqNext_eq, Device.sq_setSq_same, Device.sq_setSq_same, setReg_eq]

/-- An instruction whose effect is one register write. -/
theorem writesSq_of_eq {f : Device → SqS → Device} {rd : Reg} {v : W32} (hi : SqIssues s.dev q)
    (he : exec c s = s.run (fun d => d.seqIssue q f)) (hf : f s.dev (s.dev.sq q) = s.dev.seqWrite q rd v) :
    WritesSq c s q rd v := by
  refine completes_seqIssue hi he ?_
  rw [hf, sq_seqWrite]
  refine ⟨sqOnly_seqWrite (SqOnly.refl ..) rd v, ⟨rfl, ?_⟩, fun r => SqS.reg_setReg (s.dev.sq q) rd r v⟩
  rw [setReg_eq]
  exact hi.1

end

/-- Settles O21: every result is one register write of a running instance. -/
theorem sequencerRegisterResults : Obligations.SequencerRegisterResults := by
  intro s q rd a b imm i18 i16 hi x y
  refine ⟨writesSq_of_eq hi rfl rfl, writesSq_of_eq hi rfl rfl, writesSq_of_eq hi rfl rfl, writesSq_of_eq hi rfl rfl,
    writesSq_of_eq hi rfl rfl, writesSq_of_eq hi rfl rfl, writesSq_of_eq hi rfl rfl, writesSq_of_eq hi rfl rfl,
    writesSq_of_eq hi rfl rfl, writesSq_of_eq hi rfl ?_, writesSq_of_eq hi rfl rfl, ?_⟩
  · simp only [BitVec.ult, decide_eq_true_eq]
    rfl
  · refine completes_seqIssue (c := .seqNop q) hi rfl ?_
    refine ⟨(SqOnly.refl q s.dev).setSq _ _ _, ?_, fun r => ?_⟩
    · simp [seqNext_eq, sqGoesOn, hi.1]
    · simp [seqNext_eq, SqS.reg]

/-! ### Instances that do not issue -/

/-- A command that is an instruction of instance `q`, after what SECDED finds in the words it reads. -/
def IssuesVia (c : Instr) (s : State) (q : Nat) : Prop :=
  ∃ (hits : Hits) (f : Device → SqS → Device), exec c s = s.run (fun d => (d.seqHits q hits).seqIssue q f)

theorem issuesVia_of_no_reads {c : Instr} {s : State} {q : Nat} {f : Device → SqS → Device}
    (he : exec c s = s.run (fun d => d.seqIssue q f)) : IssuesVia c s q :=
  ⟨[], f, by simpa only [seqHits_nil] using he⟩

theorem issuesVia_sequencer {c : Instr} {q : Sq} (h : sequencer c = some q) (s : State) : IssuesVia c s q := by
  cases c
  case seqLd | seqAadd | waitw | tmove | bmove | spub | srst | mcapt | mupd | mapply | cpack | mcheck | hclose | nchk | hpost =>
    obtain rfl := Option.some.inj h
    exact ⟨_, _, rfl⟩
  case seqNop | seqMovi | seqMovhi | seqAdd | seqSub | seqAnd | seqOr | seqXor | seqShl | seqShr | sltu | seqSt | seqJ | seqBeq
      | seqBne | seqBltu | seqWaitph | seqSig | seqRdph | seqDone | seqFault | qwait | pass | hcollect | lchk | risk =>
    obtain rfl := Option.some.inj h
    exact issuesVia_of_no_reads rfl
  all_goals cases h

theorem exec_of_not_running {c : Instr} {s : State} {q : Nat} (h : IssuesVia c s q) (hst : (s.dev.sq q).st ≠ .running) :
    exec c s = .next s := by
  obtain ⟨hits, f, he⟩ := h
  rw [he, State.run, seqHits_of_not_issues (fun hi => hst hi.1), seqIssue_of_not_running hst]

/-- R175: a word beyond the image acts as DONE. -/
theorem exec_past_image {c : Instr} {s : State} {q : Nat} (h : IssuesVia c s q) (hst : (s.dev.sq q).st = .running)
    (hn : s.dev.seqInside q = false) :
    exec c s = .next { s with dev := s.dev.setSq q { s.dev.sq q with st := .idle } } := by
  obtain ⟨hits, f, he⟩ := h
  rw [he, State.run, seqHits_of_not_issues (fun hi => Bool.false_ne_true (hn.symm.trans hi.2)), seqIssue_past_image hst hn]

end Sys2Proof.Machine

/-! PROOFS. Control operations and faults of micro-sequencers (R168, R170, R173 to R175). -/

namespace Sys2Proof.Machine

/-! ### SIG to the local cores of a cluster -/

theorem addSync_eq (d : Device) (g n k : Nat) : d.addSync g n k = { d with cores := (d.addSync g n k).cores } := by
  unfold Device.addSync
  split <;> rfl

theorem core_addSync_ne (d : Device) {g h : Nat} (n k : Nat) (hg : g ≠ h) : (d.addSync g n k).core h = d.core h := by
  unfold Device.addSync
  split
  · rfl
  · exact Device.core_modCore_ne _ _ hg

/-- One local core of a SIG. -/
def sigCore (k mask sc n : Nat) (d : Device) (i : Nat) : Device := if bitOf mask i then d.addSync (16 * k + i) sc n else d

theorem addSyncs_eq_forN (d : Device) (k mask sc n : Nat) : d.addSyncs k mask sc n = forN 16 d (sigCore k mask sc n) := rfl

theorem forN_succ {σ : Type} (n : Nat) (x : σ) (f : σ → Nat → σ) : forN (n + 1) x f = f (forN n x f) n := by
  simp [forN, List.range_succ]

theorem forN_sigCore_eq (d : Device) (k mask sc n m : Nat) :
    forN m d (sigCore k mask sc n) = { d with cores := (forN m d (sigCore k mask sc n)).cores } := by
  induction m with
  | zero => rfl
  | succ m ih =>
    rw [forN_succ, sigCore]
    split
    · rw [addSync_eq, ih]
    · exact ih

theorem counter_sigCore_same (d : Device) (k mask n m i : Nat) {sc : Nat} (hs : sc < 64) :
    ((sigCore k mask sc n d m).core (16 * k + m)).counter i =
      if bitOf mask m ∧ i = sc ∧ i ≠ 0 then (d.core (16 * k + m)).counter i + BitVec.ofNat 32 n
      else (d.core (16 * k + m)).counter i := by
  unfold sigCore
  by_cases hb : bitOf mask m
  · rw [if_pos hb, counter_addSync _ _ _ _ _ hs]
    have : (i = sc ∧ sc ≠ 0) ↔ (bitOf mask m ∧ i = sc ∧ i ≠ 0) := ⟨fun h => ⟨hb, h.1, h.1 ▸ h.2⟩, fun h => ⟨h.2.1, h.2.1 ▸ h.2.2⟩⟩
    exact if_congr this rfl rfl
  · rw [if_neg hb, if_neg (fun h => hb h.1)]

theorem core_sigCore_ne (d : Device) {k m h : Nat} (mask sc n : Nat) (hh : 16 * k + m ≠ h) :
    (sigCore k mask sc n d m).core h = d.core h := by
  unfold sigCore
  split
  · exact core_addSync_ne _ _ _ hh
  · rfl

theorem counter_forN_sigCore (d : Device) (k mask n i : Nat) {sc : Nat} (hs : sc < 64) (m l : Nat) :
    ((forN m d (sigCore k mask sc n)).core (16 * k + l)).counter i =
      if l < m ∧ bitOf mask l ∧ i = sc ∧ i ≠ 0 then (d.core (16 * k + l)).counter i + BitVec.ofNat 32 n
      else (d.core (16 * k + l)).counter i := by
  induction m with
  | zero => simp [forN]
  | succ m ih =>
    rw [forN_succ]
    by_cases hl : l = m
    · subst hl
      rw [counter_sigCore_same _ _ _ _ _ _ hs, ih]
      simp
    · rw [core_sigCore_ne _ _ _ _ (by omega), ih]
      simp only [show l < m + 1 ↔ l < m by omega]

/-! ### Control -/

/-- A word that is accessed is read without an event. -/
theorem seqRead_of_ok {d : Device} {q off : Nat} (h : Device.seqBad q off = false) :
    d.seqRead q off = (d, BitVec.ofNat 32 (leNat (d.seqBytes q off 4))) := by
  simp [Device.seqRead, Device.seqWord, h]

theorem wordReached_iff {d : Device} {q off : Nat} (h : Device.seqBad q off = false) (v : W32) :
    wordReached d q off v = true ↔ 0 ≤ (BitVec.ofNat 32 (leNat (d.seqBytes q off 4)) - v).toInt := by
  rw [wordReached, Device.seqWord, h]
  exact not_msb_iff _

theorem exec_of_seqClean {c : Instr} {s : State} {q : Nat} {f : Device → SqS → Device}
    (he : exec c s = s.run (fun d => (d.seqHits q []).seqIssue q f)) : exec c s = s.run (fun d => d.seqIssue q f) := by
  simpa only [seqHits_nil] using he

section
variable {c : Instr} {s : State} {q : Nat} (hi : SqIssues s.dev q)
include hi

theorem completes_seqIssue_eq {f : Device → SqS → Device} {e : Device} {P : Device → Prop}
    (he : exec c s = s.run (fun d => d.seqIssue q f)) (hf : f s.dev (s.dev.sq q) = e) (hP : P e) : Completes c s P :=
  completes_seqIssue hi he (hf ▸ hP)

/-- An instruction that sets the PC or the state of its instance. -/
theorem completes_setSq {f : Device → SqS → Device} (he : exec c s = s.run (fun d => d.seqIssue q f))
    {pc : BitVec 8} {st : SqState} (hf : f s.dev (s.dev.sq q) = s.dev.setSq q { s.dev.sq q with pc := pc, st := st }) :
    Completes c s (fun d => SqOnly q s.dev d ∧ d.sq q = { s.dev.sq q with pc := pc, st := st }) := by
  refine completes_seqIssue hi he ?_
  rw [hf]
  exact ⟨(SqOnly.refl q s.dev).setSq _ _ _, Device.sq_setSq_same _ _ _⟩

/-- The PC after a branch that is taken or not. -/
theorem completes_seqBranch {a b : Reg} {imm : BitVec 14} {cmp : W32 → W32 → Bool}
    (he : exec c s = s.run (fun d => seqBranch d q a b imm cmp)) {p : Bool}
    (hp : cmp ((s.dev.sq q).reg a) ((s.dev.sq q).reg b) = p) :
    Completes c s (fun d => SqOnly q s.dev d ∧
      d.sq q = { s.dev.sq q with pc := if p then imm.setWidth 8 else (s.dev.sq q).pc + 1 }) := by
  refine completes_setSq hi he (st := (s.dev.sq q).st) ?_
  rw [hp]
  cases p <;> rfl

/-- A wait that goes on at once where what it waits for is there. -/
theorem completes_seqWaitUnless {f : Device → SqS → Device} (he : exec c s = s.run (fun d => d.seqIssue q f))
    {p : Prop} [Decidable p] {w : SqState}
    (hf : f s.dev (s.dev.sq q) = if p then s.dev.seqNext q else s.dev.seqWait q w) :
    Completes c s (fun d => SqOnly q s.dev d ∧
      d.sq q = if p then { s.dev.sq q with pc := (s.dev.sq q).pc + 1 } else { s.dev.sq q with st := w }) := by
  by_cases h : p
  · simp only [if_pos h] at hf ⊢
    exact completes_setSq hi he (st := (s.dev.sq q).st) hf
  · simp only [if_neg h] at hf ⊢
    exact completes_setSq hi he (pc := (s.dev.sq q).pc) hf

/-- R174: a fault stops the run at its instruction and clears the pending entries. -/
theorem completes_seqFault {f : Device → SqS → Device} (he : exec c s = s.run (fun d => d.seqIssue q f))
    (hf : f s.dev (s.dev.sq q) = s.dev.seqFault q) :
    Completes c s (fun d => Raised 0x7023 s.dev d ∧ d.mem = s.dev.mem ∧
      d.sq q = { s.dev.sq q with st := .idle, pend := 0 } ∧ ∀ p, p ≠ q → d.sq p = s.dev.sq p) := by
  refine completes_seqIssue hi he ?_
  rw [hf, Device.seqFault]
  refine ⟨Device.raise_raised _ _ _ _ _ (by decide), Device.raise_mem _ _ _ _ _ _, ?_, fun p hp => ?_⟩
  · rw [Device.sq_raise, Device.sq_setSq_same]
  · rw [Device.sq_raise, Device.sq_setSq_ne _ _ hp.symm]

end

theorem completes_seqSig {s : State} {q : Sq} {a : Reg} {imm : BitVec 14} (hi : SqIssues s.dev q) (hq : q.val ≠ 672) :
    let x := s.dev.sq q
    Completes (.seqSig q a imm) s (fun d => d.sq q = { x with pc := x.pc + 1 } ∧
      d = { s.dev with seqs := d.seqs, cores := d.cores } ∧
      ∀ l n, l < 16 → n < 64 → (d.core (16 * sqCluster q + l)).counter n =
        if bitOf ((x.reg a).toNat % 65536) l ∧ n = imm.toNat % 64 ∧ n ≠ 0 then
          (s.dev.core (16 * sqCluster q + l)).counter n + BitVec.ofNat 32 (imm.toNat / 64)
        else (s.dev.core (16 * sqCluster q + l)).counter n) := by
  intro x
  let e := s.dev.addSyncs (sqCluster q) ((x.reg a).toNat % 65536) (imm.toNat % 64) (imm.toNat / 64)
  have he : e = { s.dev with cores := e.cores } := forN_sigCore_eq ..
  have hsq : e.sq q = x := by rw [he]; rfl
  refine completes_seqIssue_eq hi (e := e.seqNext q) rfl (congrArg (Device.seqNext · q) (if_neg hq)) ⟨?_, ?_, fun l n hl _ => ?_⟩
  · rw [seqNext_eq, Device.sq_setSq_same, hsq]
  · rw [seqNext_eq, he]
    rfl
  · refine (counter_forN_sigCore s.dev (sqCluster q) _ _ n (Nat.mod_lt _ (by decide)) 16 l).trans ?_
    simp [hl]

/-- Settles O23: control operations set the PC or the state of their instance; one that does not issue does nothing. -/
theorem sequencerControl : Obligations.SequencerControl := by
  refine ⟨fun s c q hc => ⟨exec_of_not_running (issuesVia_sequencer hc s), exec_past_image (issuesVia_sequencer hc s)⟩,
    fun s q rd a b imm hi => ?_⟩
  intro x goes pcTo faults
  refine ⟨completes_setSq hi rfl rfl, ?_, ?_, ?_, completes_setSq hi rfl rfl, ?_, fun hok => ?_, completes_seqSig hi,
    completes_seqFault hi rfl rfl, fun hmis => ⟨?_, ?_⟩⟩
  · exact completes_seqBranch hi rfl (beq_eq_decide ..)
  · exact completes_seqBranch hi rfl (by simp [x, bne, beq_eq_decide])
  · exact completes_seqBranch hi rfl (by simp [x, BitVec.ult])
  · exact completes_seqWaitUnless hi rfl (if_congr (stampReached_iff _ _) rfl rfl)
  · refine completes_seqWaitUnless hi (exec_of_seqClean rfl) ?_
    simp only [x] at hok
    simp only [seqRead_of_ok hok, wordReached_iff hok]
    rfl
  · exact completes_seqFault hi (exec_of_seqClean rfl) (if_pos hmis)
  · exact completes_seqFault hi rfl (if_pos hmis)

end Sys2Proof.Machine

/-! PROOFS. LD, ST and AADD of micro-sequencers (R29, R168, R170, R317), and the stream engine's move queue (R157, R158, R165,
R171). -/

namespace Sys2Proof.Machine

/-! ### Bytes of a store -/

/-- What a byte map holds after bytes are written from `a` on. -/
theorem get_memWrite (m : Map Byte) (a : Nat) (bs : List Byte) (x : Nat) :
    Map.get 0 (Device.memWrite m a bs) x = if a ≤ x ∧ x < a + bs.length then bs.getD (x - a) 0 else Map.get 0 m x :=
  Device.byteAt_put ({ mem := m } : Device) a bs x

theorem get_memWrite_leBytes (m : Map Byte) (a n v x : Nat) : Map.get 0 (Device.memWrite m a (leBytes n v)) x =
    if a ≤ x ∧ x < a + n then BitVec.ofNat 8 (v / 256 ^ (x - a)) else Map.get 0 m x := by
  rw [get_memWrite, length_leBytes]
  split
  · exact getD_leBytes v (by omega)
  · rfl

theorem seqBad_of_aligned {q off : Nat} (ha : off % 4 = 0) (hl : off + 4 ≤ sqLimit q) : Device.seqBad q off = false := by
  simp only [Device.seqBad, Device.crosses, Bool.or_eq_false_iff, decide_eq_false_iff_not]
  omega

/-! ### What a store leaves of its instance -/

theorem seqStore_of_cluster {d : Device} {q off : Nat} {v : W32} (h : Device.seqBad q off = false) (hq : q ≠ deviceSq) :
    d.seqStore q off v = d.storeW (Device.storeAddr (sqCluster q) off) 4 v.toNat := by
  rw [Device.seqStore, if_neg (by simp [h]), Device.seqPut, if_neg hq, Device.storeW]

theorem seqStore_of_monitor {d : Device} {q off : Nat} {v : W32} (h : Device.seqBad q off = false) (hq : q = deviceSq) :
    d.seqStore q off v =
      { d with health := { d.health with store := Device.memWrite d.health.store off (leBytes 4 v.toNat) } } := by
  rw [Device.seqStore, if_neg (by simp [h]), Device.seqPut, if_pos hq]

/-- After a store into memory the instance changes as before. -/
theorem SqOnly.stored {q : Nat} {d d' : Device} (h : SqOnly q d d') (a n v : Nat) :
    SqOnly q (Machine.stored d (d'.storeW a n v)) (d'.storeW a n v) where
  rest := by
    rw [h.rest]
    rfl
  others := h.others
  same := h.same

section
variable {s : State} {q : Sq} {rd a b : Reg} {imm : BitVec 14} (hi : SqIssues s.dev q)
include hi

theorem completes_seqLd (ha : ((s.dev.sq q).reg a + imm.signExtend 32).toNat % 4 = 0)
    (hb : Device.seqBad q ((s.dev.sq q).reg a + imm.signExtend 32).toNat = false) :
    WritesSq (.seqLd q rd a imm []) s q rd
      (BitVec.ofNat 32 (leNat (s.dev.seqBytes q ((s.dev.sq q).reg a + imm.signExtend 32).toNat 4))) := by
  refine writesSq_of_eq hi (exec_of_seqClean rfl) ((if_neg (not_not.2 ha)).trans ?_)
  simp only [seqOff, seqRead_of_ok hb]

/-- ST and the next instruction. -/
theorem completes_seqSt {P : Device → Prop} (ha : ((s.dev.sq q).reg a + imm.signExtend 32).toNat % 4 = 0)
    (hP : P ((s.dev.seqStore q ((s.dev.sq q).reg a + imm.signExtend 32).toNat ((s.dev.sq q).reg b)).seqNext q)) :
    Completes (.seqSt q a b imm) s P :=
  completes_seqIssue_eq hi rfl (if_neg (not_not.2 ha)) hP

/-- AADD: the old word into the register, its sum into the store. -/
theorem completes_seqAadd {P : Device → Prop} (hb : Device.seqBad q ((s.dev.sq q).reg a).toNat = false)
    {old : W32} (hold : BitVec.ofNat 32 (leNat (s.dev.seqBytes q ((s.dev.sq q).reg a).toNat 4)) = old)
    (hP : P ((s.dev.seqStore q ((s.dev.sq q).reg a).toNat (old + (s.dev.sq q).reg b)).seqWrite q rd old)) :
    Completes (.seqAadd q rd a b []) s P := by
  refine completes_seqIssue_eq hi (exec_of_seqClean rfl) ?_ hP
  simp only [seqRead_of_ok hb, hb, hold, Bool.false_eq_true, if_false]

end

/-- What an instance's register write does to it, after a store that leaves it alone. -/
theorem sq_seqWrite_regs {d e : Device} {q : Nat} (hd : (d.sq q).st = .running) (he : e.sq q = d.sq q) (rd : Reg) (v : W32) :
    sqGoesOn (d.sq q) ((e.seqWrite q rd v).sq q) ∧
      ∀ r, ((e.seqWrite q rd v).sq q).reg r = if r = rd ∧ rd.val ≠ 0 then v else (d.sq q).reg r := by
  rw [sq_seqWrite, he]
  refine ⟨⟨rfl, ?_⟩, fun r => SqS.reg_setReg (d.sq q) rd r v⟩
  rw [setReg_eq]
  exact hd

/-- Settles O22: the word is read, stored, or both, in the store that the instance works on. -/
theorem sequencerMemory : Obligations.SequencerMemory := by
  intro s q rd a b imm hi x off ao cs old
  refine ⟨fun ha hl => ?_, fun hb hq => completes_seqAadd hi hb rfl ?_, fun hb hq => completes_seqAadd hi hb rfl ?_⟩
  · have hb := seqBad_of_aligned ha hl
    refine ⟨completes_seqLd hi ha hb, fun hq => completes_seqSt hi ha ?_, fun hq => completes_seqSt hi ha ?_⟩
    · rw [seqStore_of_cluster hb hq]
      exact ⟨storesBytes_store _ _ _ _, ((SqOnly.refl q s.dev).stored ..).setSq .., Device.sq_setSq_same ..⟩
    · rw [seqStore_of_monitor hb hq]
      exact ⟨rfl, Device.sq_setSq_same .., get_memWrite_leBytes _ _ _ _⟩
  · rw [seqStore_of_cluster hb hq]
    exact ⟨storesBytes_store _ _ _ _, sqOnly_seqWrite ((SqOnly.refl q s.dev).stored ..) .., sq_seqWrite_regs hi.1 rfl ..⟩
  · rw [seqStore_of_monitor hb hq]
    obtain ⟨hgo, hreg⟩ := sq_seqWrite_regs (d := s.dev) hi.1 (e := { s.dev with health := { s.dev.health with
      store := Device.memWrite s.dev.health.store ao (leBytes 4 (old + x.reg b).toNat) } }) rfl rd old
    exact ⟨rfl, hgo, hreg, get_memWrite_leBytes _ _ _ _⟩

/-! ### The stream engine's queue -/

section
variable {c : Instr} {s : State} {se : Nat}

/-- R158: an operation enters the queue while it has room, and waits otherwise. -/
theorem completes_queueSe {f : Device → SqS → Device} {e : MoveEnt} (hi : SqIssues s.dev se)
    (he : exec c s = s.run (fun d => d.seqIssue se f)) (hf : f s.dev (s.dev.sq se) = queueSe s.dev se e) :
    Completes c s (fun d => d = { s.dev with movq := d.movq, seqs := d.seqs } ∧
      if (s.dev.moves se).length < 4 then
        d.moves se = s.dev.moves se ++ [e] ∧ d.sq se = { s.dev.sq se with pc := (s.dev.sq se).pc + 1 }
      else d.moves se = s.dev.moves se ∧ d.sq se = { s.dev.sq se with st := .waitRoom }) := by
  refine completes_seqIssue_eq hi he hf ?_
  unfold queueSe
  by_cases hl : 4 ≤ (s.dev.moves se).length
  · rw [if_pos hl, if_neg (by omega)]
    exact ⟨rfl, rfl, Device.sq_setSq_same ..⟩
  · rw [if_neg hl, if_pos (by omega)]
    exact ⟨rfl, Device.moves_setMoves_same .., Device.sq_setSq_same ..⟩

end

/-- A read inside the store. -/
theorem seRead_of_inside {d : Device} {se off n : Nat} (ho : off + n ≤ 0x1000000)
    (hc : Device.crosses (Device.storeAddr (se / 4) off) n = false) :
    seRead d se off n = (d, d.bytes (Device.storeAddr (se / 4) off) n) := by
  simp [seRead, hc, Nat.not_lt.2 ho]

theorem sliceB_bytes (d : Device) {a n o k : Nat} (h : o + k ≤ n) : sliceB (d.bytes a n) o k = d.bytes (a + o) k := by
  have hl : (sliceB (d.bytes a n) o k).length = k := by
    rw [sliceB, List.length_take, List.length_drop, length_bytes]
    omega
  refine ((bytes_eq_iff hl).2 fun i hi => ?_).symm
  rw [sliceB, List.getD_eq_getElem?_getD, List.getElem?_take_of_lt hi, List.getElem?_drop, ← List.getD_eq_getElem?_getD,
    getD_bytes a (by omega), Nat.add_assoc]

theorem fieldB_bytes (d : Device) {a n o k : Nat} (h : o + k ≤ n) : fieldB (d.bytes a n) o k = d.load (a + o) k :=
  congrArg leNat (sliceB_bytes d h)

/-- Settles O25: each operation enters the queue or waits. -/
theorem streamQueue : Obligations.StreamQueue := by
  intro s se a b drop hi x off da joins
  refine ⟨fun ho hc => ?_, fun ho hc hn hm => ?_, completes_queueSe hi rfl rfl, ?_⟩
  · have hr : seRead s.dev se ((s.dev.sq se).reg a).toNat 64 = (s.dev, s.dev.bytes da 64) := seRead_of_inside ho hc
    exact completes_queueSe hi (exec_of_seqClean rfl) (by simp only [hr])
  · have hr : seRead s.dev se ((s.dev.sq se).reg a).toNat 16 = (s.dev, s.dev.bytes da 16) := seRead_of_inside ho hc
    refine completes_queueSe hi (exec_of_seqClean rfl) ?_
    simp only [x] at hn hm
    simp only [hr]
    rw [if_neg (by simp [hn, hm]), fieldB_bytes _ (by decide), fieldB_bytes _ (by decide)]
    rfl
  · exact completes_seqWaitUnless hi rfl (if_congr List.isEmpty_iff rfl rfl)

end Sys2Proof.Machine

/-! PROOFS. What raising an event does (R566 to R569): it counts, enters the log where one is kept, and a FATAL one is
noted. -/

namespace Sys2Proof.Machine

/-! ### Counter objects -/

/-- The width in bits of a scalar object. -/
def numBits (i s : Nat) : Nat :=
  match objRow (homeIdx i) s with
  | some r => 8 * tyBytes r.ty
  | none => 64

theorem addNum_eq (d : Device) (i s k n : Nat) : d.addNum i s k n = d.setNum i s k ((d.num i s k + n) % 2 ^ numBits i s) := by
  unfold Device.addNum numBits
  rfl

theorem num_addNum_same (d : Device) (i s k n : Nat) : (d.addNum i s k n).num i s k = (d.num i s k + n) % 2 ^ numBits i s := by
  rw [addNum_eq, Device.num_setNum_same]

theorem num_addNum_ne (d : Device) {i s k i' s' k' : Nat} (n : Nat) (h : okey (homeIdx i) s k ≠ okey (homeIdx i') s' k') :
    (d.addNum i s k n).num i' s' k' = d.num i' s' k' := by
  rw [addNum_eq, Device.num_setNum_ne _ _ h]

theorem okey_ne_idx {i s k i' s' k' : Nat} (h : homeIdx i ≠ homeIdx i') (hb : s < 256 ∧ s' < 256 ∧ k < 65536 ∧ k' < 65536) :
    okey (homeIdx i) s k ≠ okey (homeIdx i') s' k' :=
  Device.okey_ne hb.1 hb.2.2.1 hb.2.1 hb.2.2.2 fun e => h (congrArg Prod.fst e)

theorem okey_ne_sub {i s k i' s' k' : Nat} (h : s ≠ s') (hb : s < 256 ∧ s' < 256 ∧ k < 65536 ∧ k' < 65536) :
    okey (homeIdx i) s k ≠ okey (homeIdx i') s' k' :=
  Device.okey_ne hb.1 hb.2.2.1 hb.2.1 hb.2.2.2 fun e => h (congrArg (fun x => x.2.1) e)

/-! ### The parts of a raise -/

/-- R566, R569: the raise counts under its code, its severity and its class. -/
def rawCounted (d : Device) (code : Nat) : Device :=
  ({ d with evt := { d.evt with
      occ := (d.occurrences code).2, occStep := d.cad.step, raised := Map.upd 0 d.evt.raised code (· + 1) } }.addNum 0x1E00
    (4 + (evRow code).sev) 0 1).addNum 0x1E01 (code / 4096) 0 1

/-- R566: FAULT and FATAL set ALERT, and a FATAL event is noted. -/
def rawEnd (d : Device) (code : Nat) : Device :=
  let d := if 2 ≤ (evRow code).sev then { d with alert := true } else d
  if (evRow code).sev = 3 then d.noteFatal code else d

/-- R567: the record of an event, taken from the counted device. -/
def rawRec (d : Device) (code ua ui a b : Nat) : EvRec where
  code := code
  sev := (evRow code).sev
  timeUs := (rawCounted d code).time.nowNs / 1000
  step := (rawCounted d code).cad.step
  phase := (rawCounted d code).cad.phase
  uarr := ua
  uinst := ui
  arg0 := if code / 4096 = 1 then (rawCounted d code).cad.step % 2 ^ 48 + (rawCounted d code).season * 2 ^ 48 else a
  arg1 := if 2 ≤ code / 4096 && code / 4096 ≤ 4 then b % 2 ^ 48 + min (d.occurrences code).1 65535 * 2 ^ 48 else b

/-- R566, R448: the log takes the record once hub firmware runs. -/
def rawLogged (d : Device) (code : Nat) (r : EvRec) : Device :=
  if code = 0x7004 then d
  else if d.num 0x1D04 2 < 3 then { d with evt := { d.evt with early := d.evt.early ++ [r] } }
  else d.logRec r

theorem raiseRaw_eq (d : Device) (code ua ui a b : Nat) :
    d.raiseRaw code ua ui a b = rawEnd (rawLogged (rawCounted d code) code (rawRec d code ua ui a b)) code := by
  unfold Device.raiseRaw
  rfl

theorem rawLogged_of_runs {d : Device} {code : Nat} (hc : code ≠ 0x7004) (hf : 3 ≤ d.num 0x1D04 2) (r : EvRec) :
    rawLogged d code r = d.logRec r := by
  rw [rawLogged, if_neg hc, if_neg (Nat.not_lt.2 hf)]

@[simp] theorem num_withEvt (d : Device) (e : EvtS) (i s k : Nat) : { d with evt := e }.num i s k = d.num i s k :=
  num_of_dict_eq (d := d) (e := { d with evt := e }) rfl i s k

@[simp] theorem num_withAlert (d : Device) (b : Bool) (i s k : Nat) : { d with alert := b }.num i s k = d.num i s k :=
  num_of_dict_eq (d := d) (e := { d with alert := b }) rfl i s k

/-! ### What each part leaves in the counters and the log -/

section
variable (d : Device) (code : Nat)

@[simp] theorem cad_rawCounted : (rawCounted d code).cad = d.cad := by simp [rawCounted]
@[simp] theorem alert_rawCounted : (rawCounted d code).alert = d.alert := by simp [rawCounted]
@[simp] theorem log_rawCounted : (rawCounted d code).evt.log = d.evt.log := by simp [rawCounted]

/-- An object that is neither the counter of a severity nor the one of a class stays. -/
theorem num_rawCounted {i s k : Nat} (hs : okey (homeIdx 0x1E00) (4 + (evRow code).sev) 0 ≠ okey (homeIdx i) s k)
    (hc : okey (homeIdx 0x1E01) (code / 4096) 0 ≠ okey (homeIdx i) s k) :
    (rawCounted d code).num i s k = d.num i s k := by
  rw [rawCounted, num_addNum_ne _ _ hc, num_addNum_ne _ _ hs, num_withEvt]

end

section
variable (d : Device) (r : EvRec)

theorem num_logRec {i s k : Nat} (h2 : okey (homeIdx 0x1E00) 2 0 ≠ okey (homeIdx i) s k)
    (h3 : okey (homeIdx 0x1E00) 3 0 ≠ okey (homeIdx i) s k) : (d.logRec r).num i s k = d.num i s k :=
  (keeps_logRec d r).num i s k (by simp [h2.symm, h3.symm])

/-- R566: a record at a place that is free or read. -/
theorem logRec_of_free (h : (Map.get ({} : EvRec) d.evt.log (d.num 0x1E00 2 % 4096)).seq = 0 ∨
    (Map.get ({} : EvRec) d.evt.log (d.num 0x1E00 2 % 4096)).read = true) :
    d.logRec r = { d with evt := { d.evt with
      log := Map.set {} d.evt.log (d.num 0x1E00 2 % 4096) { r with seq := d.num 0x1E00 2, flags := 0 } } }.addNum
        0x1E00 2 0 1 := by
  have hl : ((Map.get ({} : EvRec) d.evt.log (d.num 0x1E00 2 % 4096)).seq != 0 &&
      !(Map.get ({} : EvRec) d.evt.log (d.num 0x1E00 2 % 4096)).read) = false := by
    rcases h with h | h <;> simp [h]
  simp only [Device.logRec, hl]
  rfl

end

section
variable (d : Device) (code : Nat)

@[simp] theorem evt_rawEnd : (rawEnd d code).evt = d.evt := by
  simp [rawEnd, Device.noteFatal, apply_ite Device.evt]

theorem alert_rawEnd : (rawEnd d code).alert = (d.alert || decide (2 ≤ (evRow code).sev)) := by
  by_cases h : 2 ≤ (evRow code).sev <;> simp [rawEnd, Device.noteFatal, apply_ite Device.alert, h]

theorem num_rawEnd {i s k : Nat} (h1 : okey (homeIdx 0x1100) 1 0 ≠ okey (homeIdx i) s k)
    (h4 : okey (homeIdx 0x1100) 4 0 ≠ okey (homeIdx i) s k) : (rawEnd d code).num i s k = d.num i s k := by
  simp only [rawEnd, Device.noteFatal]
  repeat' split
  all_goals simp [Device.num_setNum_ne _ _ h1, Device.num_setNum_ne _ _ h4]

theorem num_rawEnd_of_not_fatal (h : (evRow code).sev ≠ 3) (i s k : Nat) : (rawEnd d code).num i s k = d.num i s k := by
  simp only [rawEnd, if_neg h]
  split <;> simp

theorem rawEnd_of_fatal (h : (evRow code).sev = 3) : rawEnd d code = ({ d with alert := true } : Device).noteFatal code := by
  simp [rawEnd, h]

/-- The first FATAL code stays. -/
theorem cause_noteFatal : (d.noteFatal code).num 0x1100 4 = if d.num 0x1100 4 = 0 then code else d.num 0x1100 4 := by
  have hne : okey (homeIdx 0x1100) 1 0 ≠ okey (homeIdx 0x1100) 4 0 := by decide
  unfold Device.noteFatal
  by_cases h0 : d.num 0x1100 4 = 0 <;> by_cases hc : code = 0x7004 <;>
    simp [h0, hc, Device.num_setNum_ne _ _ hne]

theorem runState_noteFatal : (d.noteFatal code).num 0x1100 1 = if code = 0x7004 then d.num 0x1100 1 else 4 := by
  have hne : okey (homeIdx 0x1100) 4 0 ≠ okey (homeIdx 0x1100) 1 0 := by decide
  unfold Device.noteFatal
  by_cases h0 : d.num 0x1100 4 = 0 <;> by_cases hc : code = 0x7004 <;>
    simp [h0, hc, Device.num_setNum_ne _ _ hne]

end

/-! ### Raised events -/

theorem evRow_7004 : evRow 0x7004 = ⟨0x7004, 3, false, []⟩ := by with_unfolding_all rfl

theorem numBits_severity {s : Nat} (h : s ≤ 3) : numBits 0x1E00 (4 + s) = 64 := by
  have key : ∀ s ≤ 3, numBits 0x1E00 (4 + s) = 64 := by with_unfolding_all decide
  exact key s h

theorem numBits_class {c : Nat} (h1 : 1 ≤ c) (h : c ≤ 10) : numBits 0x1E01 c = 64 := by
  have key : ∀ c ≤ 10, 1 ≤ c → numBits 0x1E01 c = 64 := by with_unfolding_all decide
  exact key c h h1

set_option maxRecDepth 3000 in
theorem numBits_next : numBits 0x1E00 2 = 32 := by with_unfolding_all decide

section
variable {d : Device} {code : Nat} (hlo : 0x1000 ≤ code) (hhi : code < 0xB000)

include hlo hhi

theorem num_rawCounted_of_idx {i s : Nat} (h0 : homeIdx 0x1E00 ≠ homeIdx i) (h1 : homeIdx 0x1E01 ≠ homeIdx i) (hs : s < 256) :
    (rawCounted d code).num i s 0 = d.num i s 0 := by
  have hsev := evRow_sev_le code
  exact num_rawCounted d code (okey_ne_idx h0 (by omega)) (okey_ne_idx h1 (by omega))

theorem severity_rawCounted : (rawCounted d code).num 0x1E00 (4 + (evRow code).sev) =
    (d.num 0x1E00 (4 + (evRow code).sev) + 1) % 2 ^ 64 := by
  have hsev := evRow_sev_le code
  rw [rawCounted, num_addNum_ne _ _ (okey_ne_idx (by decide) (by omega)), num_addNum_same, num_withEvt, numBits_severity hsev]

theorem class_rawCounted : (rawCounted d code).num 0x1E01 (code / 4096) = (d.num 0x1E01 (code / 4096) + 1) % 2 ^ 64 := by
  have hsev := evRow_sev_le code
  rw [rawCounted, num_addNum_same, num_addNum_ne _ _ (okey_ne_idx (by decide) (by omega)), num_withEvt,
    numBits_class (by omega) (by omega)]

theorem next_rawCounted : (rawCounted d code).num 0x1E00 2 = d.num 0x1E00 2 := by
  have hsev := evRow_sev_le code
  exact num_rawCounted d code (okey_ne_sub (by omega) (by omega)) (okey_ne_idx (by decide) (by omega))

end

/-- Settles O59: a raise counts, logs its record and ends in the alert and the fatal state. -/
theorem raisedEvents : Obligations.RaisedEvents := by
  unfold Obligations.RaisedEvents
  refine ⟨?_, ?_⟩
  · intro d code ua ui a0 a1 hlo hhi hc hf e sev sq old
    have hsev : (evRow code).sev ≤ 3 := evRow_sev_le code
    let c := rawCounted d code
    let r := rawRec d code ua ui a0 a1
    have hrun : c.num 0x1D04 2 = d.num 0x1D04 2 := num_rawCounted_of_idx hlo hhi (by decide) (by decide) (by decide)
    have he : e = rawEnd (c.logRec r) code :=
      (raiseRaw_eq ..).trans (by rw [rawLogged_of_runs hc (by rw [hrun]; exact hf)])
    have hstate (s : Nat) (hs : s < 256) : (c.logRec r).num 0x1100 s = d.num 0x1100 s :=
      (num_logRec c r (okey_ne_idx (by decide) (by omega)) (okey_ne_idx (by decide) (by omega))).trans
        (num_rawCounted_of_idx hlo hhi (by decide) (by decide) hs)
    refine ⟨?_, ?_, ?_, ?_, fun h3 => ?_, fun h3 => ?_, fun hfree => ?_, d.raiseRaw_mem .., d.raiseRaw_cores ..⟩
    · simp only [Raised, e, Device.raiseRaw_raised, Map.get_upd_same]
    · rw [he, num_rawEnd _ _ (okey_ne_idx (by decide) (by omega)) (okey_ne_idx (by decide) (by omega)), num_logRec _ _ (okey_ne_sub (by omega) (by omega))
        (okey_ne_sub (by omega) (by omega)), severity_rawCounted hlo hhi]
    · rw [he, num_rawEnd _ _ (okey_ne_idx (by decide) (by omega)) (okey_ne_idx (by decide) (by omega)), num_logRec _ _ (okey_ne_idx (by decide) (by omega))
        (okey_ne_idx (by decide) (by omega)), class_rawCounted hlo hhi]
    · rw [he, alert_rawEnd, Device.logRec_alert, alert_rawCounted]
    · rw [he, rawEnd_of_fatal _ _ h3, runState_noteFatal, cause_noteFatal, if_neg hc, num_withAlert, hstate 4 (by decide)]
      exact ⟨rfl, rfl⟩
    · rw [he, num_rawEnd_of_not_fatal _ _ h3, hstate 1 (by decide)]
    · have hsq : c.num 0x1E00 2 = sq := next_rawCounted hlo hhi
      have hlog := logRec_of_free c r (by rw [hsq, log_rawCounted]; exact hfree)
      rw [hsq] at hlog
      refine ⟨?_, _, rfl, ?_⟩
      · rw [he, num_rawEnd _ _ (okey_ne_idx (by decide) (by omega)) (okey_ne_idx (by decide) (by omega)), hlog, num_addNum_same, num_withEvt, hsq,
          numBits_next]
      · rw [he, evt_rawEnd, hlog, Device.addNum_evt]
        simp [r, rawRec, sev]
  · intro d ua ui a0 a1 e
    have he : e = rawEnd (rawCounted d 0x7004) 0x7004 := (raiseRaw_eq ..).trans rfl
    have hs : (evRow 0x7004).sev = 3 := by rw [evRow_7004]
    have hstate (s : Nat) (hs : s < 256) : (rawCounted d 0x7004).num 0x1100 s = d.num 0x1100 s :=
      num_rawCounted_of_idx (by decide) (by decide) (by decide) (by decide) hs
    rw [he, evt_rawEnd, log_rawCounted, alert_rawEnd, rawEnd_of_fatal _ _ hs, runState_noteFatal, cause_noteFatal, hs]
    refine ⟨?_, ?_, rfl, by simp⟩
    · rw [if_pos rfl, num_withAlert, hstate 1 (by decide)]
    · rw [num_withAlert, hstate 4 (by decide)]

end Sys2Proof.Machine

/-! PROOFS. Words that are read back, records whose CRC was just written (R153), and what a store and an event leave of
published lines and sequencers (R183). -/

namespace Sys2Proof.Machine

/-! ### Words read back -/

theorem leNat_leBytes (n v : Nat) : leNat (leBytes n v) = v % 256 ^ n := by
  induction n generalizing v with
  | zero => simp [leBytes, leNat, Nat.mod_one]
  | succ n ih =>
    rw [leBytes, leNat, ih, BitVec.toNat_ofNat, Nat.pow_succ' (m := 256)]
    exact Nat.mod_mul.symm

theorem load_store_same (d : Device) (a n v : Nat) : (d.store a n v).load a n = v % 256 ^ n := by
  have hb : (d.store a n v).bytes a n = leBytes n v := by
    have h := bytes_put_same d a (leBytes n v)
    rwa [length_leBytes] at h
  rw [Device.load, hb, leNat_leBytes]

theorem load_put_ne (d : Device) {a b n : Nat} {bs : List Byte} (h : b + n ≤ a ∨ a + bs.length ≤ b) :
    (d.put a bs).load b n = d.load b n := congrArg leNat (bytes_put_ne d h)

theorem load_store_ne (d : Device) {a m v b n : Nat} (h : b + n ≤ a ∨ a + m ≤ b) :
    (d.store a m v).load b n = d.load b n := load_put_ne d (by rwa [length_leBytes])

theorem bytes_store_ne (d : Device) {a m v b n : Nat} (h : b + n ≤ a ∨ a + m ≤ b) :
    (d.store a m v).bytes b n = d.bytes b n := bytes_put_ne d (by rwa [length_leBytes])

@[simp] theorem num_put (d : Device) (a : Nat) (bs : List Byte) (i s k : Nat) : (d.put a bs).num i s k = d.num i s k :=
  num_of_dict_eq (d := d) (e := d.put a bs) rfl i s k

@[simp] theorem num_store (d : Device) (a n v i s k : Nat) : (d.store a n v).num i s k = d.num i s k := num_put ..

/-! ### CRC-32C -/

theorem crcBit_lt {c : Nat} (h : c < 2 ^ 32) : crcBit c < 2 ^ 32 := by
  unfold crcBit
  split
  · exact Nat.xor_lt_two_pow (by omega) (by norm_num)
  · omega

theorem crcByte_lt {c : Nat} (h : c < 2 ^ 32) (b : Byte) : crcByte c b < 2 ^ 32 := by
  have hb : b.toNat < 2 ^ 32 := lt_of_lt_of_le b.isLt (by norm_num)
  have hx : c ^^^ b.toNat < 2 ^ 32 := Nat.xor_lt_two_pow h hb
  unfold crcByte
  exact crcBit_lt (crcBit_lt (crcBit_lt (crcBit_lt (crcBit_lt (crcBit_lt (crcBit_lt (crcBit_lt hx)))))))

theorem crc32c_lt (bs : List Byte) : crc32c bs < 2 ^ 32 := by
  have key : ∀ (bs : List Byte) (c : Nat), c < 2 ^ 32 → bs.foldl crcByte c < 2 ^ 32 := by
    intro bs
    induction bs with
    | nil => exact fun c h => h
    | cons b bs ih => exact fun c h => ih _ (crcByte_lt h b)
  exact Nat.xor_lt_two_pow (key bs _ (by norm_num)) (by norm_num)

/-- A record whose last four bytes hold the CRC of the rest passes its check. -/
theorem crcTail_bytes (d : Device) (a : Nat) {n m : Nat} (hm : n = m + 4) :
    crcTail (d.bytes a n) n = (d.load (a + m) 4 == crc32c (d.bytes a m)) := by
  subst hm
  have ht : (d.bytes a (m + 4)).take m = d.bytes a m := by
    have h := sliceB_bytes d (a := a) (n := m + 4) (o := 0) (k := m) (by omega)
    rwa [sliceB, List.drop_zero, Nat.add_zero] at h
  rw [crcTail, Nat.add_sub_cancel, fieldB_bytes d (by omega), ht]

theorem crcTail_store (d : Device) (a : Nat) {n m : Nat} (hm : n = m + 4) :
    crcTail ((d.store (a + m) 4 (crc32c (d.bytes a m))).bytes a n) n = true := by
  rw [crcTail_bytes _ a hm, load_store_same, bytes_store_ne d (by omega), Nat.mod_eq_of_lt (lt_of_lt_of_le (crc32c_lt _) (by norm_num))]
  exact beq_self_eq_true _

/-! ### Objects that an event leaves alone -/

/-- The event of a code changes no object of index `i`. -/
def eventKeeps (code i : Nat) : Bool :=
  ([0x1100, 0x1401, 0x1E00, 0x1E01] ++ ((evRow code).ctr ++ (evRow 0x2207).ctr).map Prod.fst).all (fun j => homeIdx j != homeIdx i)

set_option maxRecDepth 20000 in
theorem ctr_sub_lt (code : Nat) {c : Nat × Nat} (h : c ∈ (evRow code).ctr) : c.2 < 256 := by
  unfold evRow at h
  split at h
  · have key : ∀ c ∈ [(0x1303, 2)], c.2 < 256 := by decide
    exact key c h
  · split at h
    · rename_i r hr
      have key : ∀ r ∈ evRows, ∀ c ∈ r.ctr, c.2 < 256 := by with_unfolding_all decide
      exact key r (List.mem_of_find?_eq_some hr) c h
    · cases h

theorem not_mem_eventObjs {code i s k ui : Nat} (he : eventKeeps code i = true) (hc : code / 4096 < 256) (hs : s < 256)
    (hk : k < 65536) (hu : ui < 65536) :
    okey (homeIdx i) s k ∉ (eventObjs code ui).map (fun o => okey (homeIdx o.1) o.2.1 o.2.2) := by
  intro hm
  obtain ⟨o, ho, hkey⟩ := List.mem_map.1 hm
  have hall : ∀ j ∈ [0x1100, 0x1401, 0x1E00, 0x1E01] ++ ((evRow code).ctr ++ (evRow 0x2207).ctr).map Prod.fst,
      homeIdx j ≠ homeIdx i := by simpa only [eventKeeps, List.all_eq_true, bne_iff_ne] using he
  have hlt : o.2.1 < 256 ∧ o.2.2 < 65536 ∧
      o.1 ∈ [0x1100, 0x1401, 0x1E00, 0x1E01] ++ ((evRow code).ctr ++ (evRow 0x2207).ctr).map Prod.fst := by
    rcases List.mem_append.1 ho with ho | ho
    · simp only [List.mem_cons, List.not_mem_nil, or_false] at ho
      rcases ho with rfl | rfl | rfl | rfl | rfl | rfl | rfl | rfl | rfl | rfl | rfl | rfl | rfl <;>
        exact ⟨by dsimp only; omega, by dsimp only; omega, by simp⟩
    · obtain ⟨c, hcm, rfl⟩ := List.mem_map.1 ho
      refine ⟨?_, ?_, List.mem_append_right _ (List.mem_map_of_mem hcm)⟩
      · exact (List.mem_append.1 hcm).elim (ctr_sub_lt _) (ctr_sub_lt _)
      · dsimp only
        split <;> omega
  exact Device.okey_ne hlt.1 hlt.2.1 hs hk (fun e => hall _ hlt.2.2 (congrArg Prod.fst e)) hkey

theorem num_raise_of_keeps (d : Device) {code ua ui a b i s k : Nat} (he : eventKeeps code i = true)
    (hb : code / 4096 < 256 ∧ s < 256 ∧ k < 65536 ∧ ui < 65536) : (d.raise code ua ui a b).num i s k = d.num i s k :=
  (keeps_raise d code ua ui a b).num _ _ _ (not_mem_eventObjs he hb.1 hb.2.1 hb.2.2.1 hb.2.2.2)

theorem num_taint_of_keeps (d : Device) {code i s k : Nat} (he : eventKeeps code i = true)
    (hb : code / 4096 < 256 ∧ s < 256 ∧ k < 65536) : (d.taint code).num i s k = d.num i s k :=
  (KeepsObjects.mono (keeps_taint d code) (taintObjs_sub code 0)).num _ _ _ (not_mem_eventObjs he hb.1 hb.2.1 hb.2.2 (by omega))

theorem num_reachNothing_of_keeps (d : Device) {ua ui a port i s k : Nat} (he : eventKeeps 0x4008 i = true)
    (hb : s < 256 ∧ k < 65536 ∧ ui < 65536) :
    (d.reachNothing ua ui a port).num i s k = d.num i s k := by
  unfold Device.reachNothing
  split
  · exact num_taint_of_keeps d he (by omega)
  · exact num_raise_of_keeps d he (by omega)

/-! ### What the taint of a step leaves alone -/

theorem Aside.taint (d : Device) (c : Nat) : Aside d (d.taint c) := by
  unfold Aside Device.apart
  ext1 <;> simp

theorem Aside.reachNothing (d : Device) (ua ui a port : Nat) : Aside d (d.reachNothing ua ui a port) :=
  .ite (.taint ..) (.raise ..)

end Sys2Proof.Machine

/-! PROOFS. SPUB and SRST of a scale tracker (R192, R194). -/

namespace Sys2Proof.Machine

/-- What the steps of a publication keep of a cluster's tracker and of its table's place; of the local line at `la + 64`
they keep zeros once it was cleared. -/
structure LineKept (q k la : Nat) (d e : Device) : Prop where
  sq : e.sq q = d.sq q
  base : e.num 0x7050 1 (k + 1) = d.num 0x7050 1 (k + 1)
  limit : e.num 0x7050 2 (k + 1) = d.num 0x7050 2 (k + 1)
  cleared : ∀ x, la + 64 ≤ x → x < la + 72 → d.byteAt x = 0 → e.byteAt x = 0

namespace LineKept

variable {q k la : Nat} {d e f : Device}

theorem refl (d : Device) : LineKept q k la d d := ⟨rfl, rfl, rfl, fun _ _ _ h => h⟩

theorem trans (h : LineKept q k la d e) (h' : LineKept q k la e f) : LineKept q k la d f :=
  ⟨h'.sq.trans h.sq, h'.base.trans h.base, h'.limit.trans h.limit, fun x h1 h2 h3 => h'.cleared x h1 h2 (h.cleared x h1 h2 h3)⟩

theorem ite {p : Prop} [Decidable p] (he : LineKept q k la d e) (hf : LineKept q k la d f) :
    LineKept q k la d (if p then e else f) := by
  split
  · exact he
  · exact hf

/-- Bytes written beside the local line. -/
theorem put (a : Nat) {bs : List Byte} (h : a + bs.length ≤ la + 64 ∨ la + 72 ≤ a) : LineKept q k la d (d.put a bs) :=
  ⟨rfl, num_put .., num_put .., fun x h1 h2 h0 => by rw [byteAt_put_ne d (by omega), h0]⟩

theorem store (a : Nat) {n v : Nat} (h : a + n ≤ la + 64 ∨ la + 72 ≤ a) : LineKept q k la d (d.store a n v) :=
  put a (by rwa [length_leBytes])

/-- A word cleared anywhere. -/
theorem clear (a n : Nat) : LineKept q k la d (d.store a n 0) :=
  ⟨rfl, num_store .., num_store .., fun x _ _ h0 => by
    rw [storesBytes_store d a n 0 x]
    split
    · simp
    · exact h0⟩

theorem raise {c ua a b : Nat} (hk : k < 96) (h : eventKeeps c 0x7050 = true) (hc : c / 4096 < 256) :
    LineKept q k la d (d.raise c ua (k + 1) a b) :=
  ⟨by simp [Device.sq], num_raise_of_keeps d h (by omega), num_raise_of_keeps d h (by omega), fun x _ _ h0 => by simpa [Device.byteAt] using h0⟩

theorem ownMiss (hk : k < 96) (port a : Nat) : LineKept q k la d (d.ownMiss k port a) := by
  have hm := Aside.mem (Aside.reachNothing d 0x7050 (k + 1) a port)
  have hseqs : (d.reachNothing 0x7050 (k + 1) a port).seqs = d.seqs := by
    have hf := congrArg Device.seqs (Aside.reachNothing d 0x7050 (k + 1) a port)
    exact hf
  have h : eventKeeps 0x4008 0x7050 = true := by with_unfolding_all decide
  refine ⟨congrArg (fun m => Map.get ({} : SqS) m q) hseqs, num_reachNothing_of_keeps d h (by omega), num_reachNothing_of_keeps d h (by omega), fun x _ _ h0 => ?_⟩
  exact (congrArg (Map.get 0 · x) hm).trans h0

/-- A gather slot is read and cleared. -/
theorem takeSlot (hk : k < 96) (off : Nat) : LineKept q k la d (d.takeSlot k off).2 := by
  unfold Device.takeSlot
  split
  · exact clear ..
  · exact ownMiss hk ..

end LineKept

/-- R192: taking the maxima clears both words of the local line. -/
theorem takeMaxima_spec {q k : Nat} (d : Device) (loc : Nat) (hk : k < 96) {la : Nat} (hla : la + 64 = Device.storeAddr k loc) :
    LineKept q k la d (d.takeMaxima k loc).2.2 ∧
      ∀ x, la + 64 ≤ x → x < la + 72 → (d.takeMaxima k loc).2.2.byteAt x = 0 := by
  let z := (d.store (la + 64) 4 0).store (la + 64 + 4) 4 0
  have hz : ∀ x, la + 64 ≤ x → x < la + 72 → z.byteAt x = 0 := fun x h1 h2 => by
    simp only [z, storesBytes_store _ _ 4 0 x]
    split
    · simp
    · rw [if_pos (by omega)]
      simp
  have hrest : LineKept q k la z (d.takeMaxima k loc).2.2 := by
    unfold Device.takeMaxima
    rw [← hla]
    refine foldl_rel (β := Nat × Nat × Device) (R := fun x y => LineKept q k la x.2.2 y.2.2) (fun x => .refl _) (fun _ _ _ => .trans)
      (fun x i => ?_) (List.range _) (_, _, z)
    exact (LineKept.takeSlot hk _).trans (.takeSlot hk _)
  exact ⟨((LineKept.clear ..).trans (.clear ..)).trans hrest, fun x h1 h2 => hrest.cleared x h1 h2 (hz x h1 h2)⟩

/-- R192, R183: a published line names the next step and ends in its CRC. -/
theorem publish_spec {q k : Nat} (d : Device) (t step : Nat) (l : Line) (hk : k < 96) :
    let la := Device.storeAddr k (d.lineOff k t)
    ∃ e : Device, d.publish k t step l = e.store (la + 0x3C) 4 (crc32c (e.bytes la 0x3C)) ∧ LineKept q k la d e ∧
      (∀ x, la + 64 ≤ x → x < la + 72 → e.byteAt x = 0) ∧ e.load (la + 8) 2 = (step + 1) % 65536 := by
  intro la
  obtain ⟨hmax, hzero⟩ := takeMaxima_spec (q := q) (la := la) d (d.lineOff k t + 64) hk rfl
  have key {e : Device} (h : LineKept q k la (d.takeMaxima k (d.lineOff k t + 64)).2.2 e) : LineKept q k la d e ∧
      (∀ x, la + 64 ≤ x → x < la + 72 → e.byteAt x = 0) :=
    ⟨hmax.trans h, fun x h1 h2 => h.cleared x h1 h2 (hzero x h1 h2)⟩
  unfold Device.publish
  refine ⟨_, rfl, and_assoc.1 ⟨key ?_, ?_⟩⟩
  · refine .trans ?_ (.store _ (by omega))
    refine .trans ?_ (.store _ (by omega))
    refine .trans ?_ (.store _ (by omega))
    refine .trans ?_ (.ite ((LineKept.store _ (by omega)).trans (.store _ (by omega))) (.refl _))
    refine .trans ?_ (.ite (.raise hk (by with_unfolding_all decide) (by decide)) (.refl _))
    refine .trans ?_ (.ite (.raise hk (by with_unfolding_all decide) (by decide)) (.refl _))
    exact .put _ (by omega)
  · rw [load_store_ne _ (by omega), load_store_same]
    exact Nat.mod_mod _ _

theorem line_of_eq {d e : Device} (hm : e.mem = d.mem) (hd : e.dict = d.dict) (k t : Nat) : e.line k t = d.line k t := by
  simp only [Device.line, Device.lineOff, num_of_dict_eq hd, bytes_of_mem_eq hm]

theorem line_seqWrite (d : Device) (q : Nat) (rd : Reg) (v : W32) (k t : Nat) : (d.seqWrite q rd v).line k t = d.line k t :=
  line_of_eq (by rfl) (by rfl) k t

theorem load_seqWrite (d : Device) (q : Nat) (rd : Reg) (v : W32) (a n : Nat) : (d.seqWrite q rd v).load a n = d.load a n :=
  load_of_mem_eq (by rfl) a n

/-- What a tracker's SPUB leaves of the line and the tracker. -/
theorem line_publish {q k : Nat} (d : Device) (t step : Nat) (hk : k < 96) (hok : (d.line k t).ok = true) :
    let la := Device.storeAddr k (d.lineOff k t)
    let e := d.publish k t step (d.line k t)
    e.sq q = d.sq q ∧ (e.line k t).ok = true ∧ (e.line k t).pstep = (step + 1) % 65536 ∧
      e.load (la + 64) 4 = 0 ∧ e.load (la + 68) 4 = 0 := by
  intro la e
  obtain ⟨b, he, hkept, hzero, hstep⟩ := publish_spec (q := q) d t step (d.line k t) hk
  have hin : t < d.num 0x7050 2 (k + 1) := by
    by_contra h
    simp [Device.line, h] at hok
  have hline : e.line k t = parseLine (e.bytes la 64) := by
    have hoff : e.lineOff k t = d.lineOff k t := by
      simp only [Device.lineOff, e, he, num_store, hkept.base]
    rw [Device.line, hoff, if_pos]
    simpa only [e, he, num_store, hkept.limit] using hin
  have hcleared (o : Nat) (ho : 64 ≤ o) (ho' : o + 4 ≤ 72) : e.load (la + o) 4 = 0 := by
    simp only [e, he]
    rw [load_store_ne _ (by omega)]
    exact load_eq_zero fun x h1 h2 => hzero x (by omega) (by omega)
  refine ⟨?_, ?_, ?_, hcleared 64 (by omega) (by omega), hcleared 68 (by omega) (by omega)⟩
  · simp only [e, he]
    exact hkept.sq
  · rw [hline]
    simp only [e, he]
    exact crcTail_store b la rfl
  · rw [hline]
    simp only [parseLine]
    rw [fieldB_bytes _ (by omega)]
    simp only [e, he]
    rw [load_store_ne _ (by omega), hstep]

/-- Settles O29: the three results of SPUB, and SRST. -/
theorem scalePublication : Obligations.ScalePublication := by
  intro s k rd a b hi q x t l la
  have hk : k.val < 96 := k.isLt
  refine ⟨fun h => ?_, fun h hh => ?_, fun h hh => ?_, fun ht => ?_⟩
  · exact writesSq_of_eq hi (exec_of_seqClean rfl) (if_pos (by simpa using h))
  · exact writesSq_of_eq hi (exec_of_seqClean rfl) ((if_neg (by simpa using h)).trans (if_pos hh))
  · refine completes_seqIssue_eq hi (exec_of_seqClean rfl)
      ((if_neg (by simpa using h)).trans (if_neg (not_not.2 hh))) ?_
    obtain ⟨hsq, hok, hstep, h64, h68⟩ := line_publish (q := q) s.dev t (x.reg b).toNat hk h
    obtain ⟨hgo, hreg⟩ := sq_seqWrite_regs hi.1 hsq rd 0
    rw [line_seqWrite, load_seqWrite, load_seqWrite]
    exact ⟨hgo, hreg, hok, hstep, h64, h68⟩
  · refine completes_seqIssue_eq hi (exec_of_seqClean rfl) (e := (s.dev.store (la + 64) 8 0).seqNext q)
      (congrArg (Device.seqNext · q) (if_pos ht)) ?_
    exact ⟨Device.sq_setSq_same _ _ _, (storesBytes_store s.dev (la + 64) 8 0).of_mem_eq rfl rfl, rfl⟩

end Sys2Proof.Machine

/-! PROOFS. What movers do: a tile is read, arrives or is read again, and an entry ends (R105, R153, R154, R157, R158, R165,
R252, R254). -/

namespace Sys2Proof.Machine

/-! ### Frames and move queues -/

section
variable (d : Device)

@[simp] theorem frame_setFrame_same (g f : Nat) (x : Frame) : (d.setFrame g f x).frame g f = x := by
  simp [Device.frame, Device.setFrame, CoreS.frame, CoreS.setFrame]

@[simp] theorem mq_setFrame (m : Mover) (g f : Nat) (x : Frame) : (d.setFrame g f x).mq m = d.mq m := by
  cases m with
  | se s => rfl
  | lu h =>
    simp only [Device.mq, Device.setFrame]
    by_cases hg : g = h.val
    · subst hg
      simp [CoreS.setFrame]
    · rw [Device.core_modCore_ne _ _ hg]

@[simp] theorem mq_setMq_same (m : Mover) (q : List MoveEnt) : (d.setMq m q).mq m = q := by
  cases m with
  | se s => exact Device.moves_setMoves_same _ _ _
  | lu h => simp [Device.mq, Device.setMq]

/-- A mover's queue holds no more of a core than its own move queue. -/
theorem core_setMq (m : Mover) (q : List MoveEnt) (g : Nat) :
    (d.setMq m q).core g = { d.core g with moveq := ((d.setMq m q).core g).moveq } := by
  cases m with
  | se s => rfl
  | lu h =>
    simp only [Device.setMq]
    by_cases hg : h.val = g
    · subst hg
      simp
    · rw [Device.core_modCore_ne _ _ hg]

@[simp] theorem frame_setMq (m : Mover) (q : List MoveEnt) (g f : Nat) : (d.setMq m q).frame g f = d.frame g f := by
  rw [Device.frame, core_setMq]
  rfl

@[simp] theorem counter_setMq (m : Mover) (q : List MoveEnt) (g n : Nat) :
    ((d.setMq m q).core g).counter n = (d.core g).counter n := by
  rw [core_setMq]
  rfl

theorem setMq_eq (m : Mover) (q : List MoveEnt) :
    d.setMq m q = { d with cores := (d.setMq m q).cores, movq := (d.setMq m q).movq } := by
  cases m <;> rfl

@[simp] theorem byteAt_setMq (m : Mover) (q : List MoveEnt) (a : Nat) : (d.setMq m q).byteAt a = d.byteAt a := by
  rw [setMq_eq]
  rfl

variable {d}

/-- A change of the entry at the head. -/
theorem modEnt_head {m : Mover} {e : MoveEnt} {rest : List MoveEnt} (h : d.mq m = e :: rest) (f : MoveEnt → MoveEnt) :
    d.modEnt m 0 f = d.setMq m (f e :: rest) := by
  simp [Device.modEnt, h]

end

/-! ### Where addresses lead (R25 to R32) -/

/-- What tells where an address leads is the same: the links' map, the device number, and the DDR5 tier. -/
structure MapsAlike (d e : Device) : Prop where
  link : e.link = d.link
  board : ∀ s < 256, e.num 0x1010 s = d.num 0x1010 s
  channel : ∀ c < 65536, e.num 0x70A1 1 c = d.num 0x70A1 1 c

namespace MapsAlike

variable {d e f : Device}

theorem trans (h : MapsAlike d e) (h' : MapsAlike e f) : MapsAlike d f :=
  ⟨h'.link.trans h.link, fun s hs => (h'.board s hs).trans (h.board s hs), fun c hc => (h'.channel c hc).trans (h.channel c hc)⟩

theorem of_eq (hl : e.link = d.link) (hd : e.dict = d.dict) : MapsAlike d e :=
  ⟨hl, fun _ _ => num_of_dict_eq hd _ _ _, fun _ _ => num_of_dict_eq hd _ _ _⟩

theorem raise {c ua ui a b : Nat} (hb : eventKeeps c 0x1010 = true) (hc : eventKeeps c 0x70A1 = true) (hu : ui < 65536)
    (hcls : c / 4096 < 256) : MapsAlike d (d.raise c ua ui a b) :=
  ⟨d.raise_link .., fun s hs => num_raise_of_keeps d hb (by omega), fun s hs => num_raise_of_keeps d hc (by omega)⟩

theorem resolve (h : MapsAlike d e) (a : Nat) : e.resolve a = d.resolve a := by
  have hdev : e.devNo = d.devNo := h.board 9 (by decide)
  have hpos : e.mapPos = d.mapPos := funext fun x => by rw [Device.mapPos, Device.mapPos, h.link]
  have hshape : e.shape = d.shape := congrArg (·.shapeNow % 4096) h.link
  unfold Device.resolve
  rw [hdev, hpos, hshape]

theorem region (h : MapsAlike d e) (a : Nat) : e.region a = d.region a := by
  have hlost : e.ddrLost a = d.ddrLost a := by
    rw [Device.ddrLost, Device.ddrLost, h.channel _ (by unfold Device.ddrChan; omega)]
  unfold Device.region
  rw [h.board 8 (by decide), hlost]

theorem seReach (h : MapsAlike d e) (k a n : Nat) : e.seReach k a n = d.seReach k a n := by
  simp only [Device.seReach, h.region]

theorem frameOfAddr (h : MapsAlike d e) (k a : Nat) : e.frameOfAddr k a = d.frameOfAddr k a := by
  simp only [Device.frameOfAddr, h.resolve, h.region]

theorem srcFrame (h : MapsAlike d e) (m : Mover) (x : MoveEnt) (j : Nat) : e.srcFrame m x j = d.srcFrame m x j := by
  simp only [Device.srcFrame, h.frameOfAddr]

theorem dstFrame (h : MapsAlike d e) (m : Mover) (x : MoveEnt) (j : Nat) : e.dstFrame m x j = d.dstFrame m x j := by
  simp only [Device.dstFrame, h.frameOfAddr]

end MapsAlike

/-! ### A tile is read -/

theorem beatBytes_le (p hb : List Byte) : beatBytes p hb ≤ 4096 := by
  unfold beatBytes
  split
  · rename_i h
    have ht : totalOk p = true := (Bool.and_eq_true _ _ ▸ h).2
    have hle : compTotal p ≤ 4096 := by
      simp only [totalOk, Bool.and_eq_true, decide_eq_true_eq] at ht
      exact ht.2
    omega
  · exact le_refl _

theorem seReach_mono {d : Device} {k a n m : Nat} (h : d.seReach k a n = true) (hm : m ≤ n) : d.seReach k a m = true := by
  simp only [Device.seReach, Device.crosses, Bool.and_eq_true, Bool.not_eq_true', decide_eq_false_iff_not] at h ⊢
  exact ⟨by omega, h.2⟩

/-- Bytes that are here and in reach are read at once. -/
theorem fetch_here {d : Device} {m : Mover} {a low n : Nat} (isHdr : Bool) (h : d.resolve a = .here low)
    (hr : d.seReach (moverCluster m) low n = true) : d.fetch m a n isHdr = (d, d.bytes low n, []) := by
  simp [Device.fetch, h, hr]

/-- Tile `j` in flight, its payload at `low` and its header at `hlow`: the beats that the header asks for, then zeros (R252). -/
def tileHere (d : Device) (j low hlow : Nat) : InFlight where
  k := j
  payload := Device.padTile (d.bytes low (beatBytes (d.bytes low 128) (d.bytes hlow 16)))
  header := d.bytes hlow 16

theorem tileHere_of_mem_eq {d e : Device} (h : e.mem = d.mem) (j low hlow : Nat) : tileHere e j low hlow = tileHere d j low hlow := by
  simp only [tileHere, bytes_of_mem_eq h]

/-- A tile and its header that are here and in reach, on their way to a frame. -/
theorem readTile_here {d : Device} {m : Mover} {e : MoveEnt} {j low hlow : Nat} {gf : Nat × Nat} (hk : e.kind = .tiles)
    (hm : e.miss = false) (hs : d.srcFrame m e j = none) (hd : d.dstFrame m e j = some gf)
    (hl : d.resolve (e.src + j * e.sstride) = .here low) (hr : d.seReach (moverCluster m) low 4096 = true)
    (hh : d.resolve (e.srch + 16 * j * e.sstride / 4096) = .here hlow) (hhr : d.seReach (moverCluster m) hlow 16 = true) :
    d.readTile m e j false = (d, tileHere d j low hlow) := by
  have hn : d.firstBytes m e j = beatBytes (d.bytes low 128) (d.bytes hlow 16) := by
    simp only [Device.firstBytes, hd, hl, hh]
  simp only [Device.readTile, hk, hs, hm, hn, fetch_here _ hh hhr, fetch_here _ hl (seReach_mono hr (beatBytes_le _ _))]
  rfl

/-- The head entry with one more tile in flight. -/
def takesFlight (e : MoveEnt) (fl : InFlight) : MoveEnt := { e with issued := e.issued + 1, flight := e.flight ++ [fl] }

/-- The frame waits for its fill. -/
def startFill (d : Device) (g f : Nat) : Device := d.setFrame g f { d.frame g f with fill := true, cause := 0 }

/-- A source read of the head entry into an EMPTY frame. -/
theorem sourceRead_frame {d : Device} {m : Mover} {e : MoveEnt} {rest : List MoveEnt} {g f : Nat} {fl : InFlight}
    (hq : d.mq m = e :: rest) (hk : e.kind = .tiles) (hi : e.issued < e.count) (hd : d.dstFrame m e e.issued = some (g, f))
    (hst : (d.frame g f).st = .empty) (hfill : (d.frame g f).fill = false) (hs : d.srcFrame m e e.issued = none)
    (hr : (startFill d g f).readTile m e e.issued false = (startFill d g f, fl)) :
    sourceRead d m = (startFill d g f).setMq m (takesFlight e fl :: rest) := by
  have hfind : (d.mq m).findIdx? (fun e => decide (e.issued < e.count)) = some 0 := by simp [hq, hi, List.findIdx?_cons]
  have he : (d.mq m).getD 0 {} = e := by rw [hq]; rfl
  have hs1 : (startFill d g f).srcFrame m e e.issued = none := 
    ((MapsAlike.of_eq (d := d) (e := startFill d g f) rfl rfl).srcFrame ..).trans hs
  have hopen : (!((d.frame g f).st == .empty && !(d.frame g f).fill) || !true) = false := by rw [hst, hfill]; rfl
  simp only [sourceRead, hfind, he, hk, hd, hs]
  refine (if_neg (by rw [hopen]; decide)).trans ?_
  split
  · rename_i heq
    exact absurd (hs1.symm.trans heq) (by simp)
  · refine (congrArg (fun x : Device × InFlight => x.1.modEnt m 0 (takesFlight · x.2)) hr).trans ?_
    exact modEnt_head ((mq_setFrame ..).trans hq) _

/-- Settles O26: the tile goes in flight and its frame waits for it. -/
theorem moverReadsTile : Obligations.MoverReadsTile := by
  intro s m e rest g f low hlow hq hk hmiss hi hd hst hfill hs hl hr hh hhr
  let d1 := startFill s.dev g f
  have halike : MapsAlike s.dev d1 := .of_eq rfl rfl
  have hread : d1.readTile m e e.issued false = (d1, tileHere s.dev e.issued low hlow) :=
    (readTile_here hk hmiss ((halike.srcFrame ..).trans hs) ((halike.dstFrame ..).trans hd) ((halike.resolve _).trans hl)
      ((halike.seReach ..).trans hr) ((halike.resolve _).trans hh) ((halike.seReach ..).trans hhr)).trans
        (by rw [tileHere_of_mem_eq (d := s.dev) (e := d1) rfl])
  have hrun := sourceRead_frame hq hk hi hd hst hfill hs hread
  refine ⟨_, rfl, rfl, ?_⟩
  simp only [Device.sramHits, List.foldl_nil, hrun]
  refine ⟨?_, ?_, ?_, mq_setMq_same ..⟩
  · rw [setMq_eq]
    rfl
  · rw [frame_setMq, startFill, frame_setFrame_same]
  · rw [frame_setMq, startFill, frame_setFrame_same]
    exact hst

end Sys2Proof.Machine

/-! PROOFS. A tile arrives in its frame, fails its CRC, or ends its entry; a PASS that drops (R105, R153, R154, R157, R165,
R252, R254). -/

namespace Sys2Proof.Machine

/-! ### The end of a tile -/

theorem addSyncs_mod (d : Device) (k mask sc n : Nat) : d.addSyncs k mask sc n = d.addSyncs k mask (sc % 64) n := by
  simp only [Device.addSyncs, Device.addSync, Nat.mod_mod]

/-- R105: each core that the mask names counts, on counters other than 0. -/
theorem counter_addSyncs (d : Device) (k mask sc n i : Nat) {l : Nat} (hl : l < 16) :
    ((d.addSyncs k mask sc n).core (16 * k + l)).counter i =
      if bitOf mask l ∧ i = sc % 64 ∧ i ≠ 0 then (d.core (16 * k + l)).counter i + BitVec.ofNat 32 n
      else (d.core (16 * k + l)).counter i := by
  rw [addSyncs_mod, addSyncs_eq_forN, counter_forN_sigCore d k mask n i (Nat.mod_lt _ (by decide))]
  simp only [hl, true_and]

theorem addSyncs_eq (d : Device) (k mask sc n : Nat) :
    d.addSyncs k mask sc n = { d with cores := (d.addSyncs k mask sc n).cores } := by
  rw [addSyncs_eq_forN]
  exact forN_sigCore_eq d k mask sc n 16

/-- A part of a core that counting keeps. -/
theorem frame_addSync (d : Device) (h n k g f : Nat) : (d.addSync h n k).frame g f = d.frame g f := by
  unfold Device.addSync
  split
  · rfl
  · by_cases hg : h = g
    · subst hg
      simp [Device.frame, CoreS.frame]
    · rw [Device.frame, Device.core_modCore_ne _ _ hg]
      rfl

theorem mq_addSync (d : Device) (h n k : Nat) (m : Mover) : (d.addSync h n k).mq m = d.mq m := by
  unfold Device.addSync
  split
  · rfl
  · cases m with
    | se s => rfl
    | lu g =>
      simp only [Device.mq]
      by_cases hg : h = g.val
      · subst hg
        simp
      · rw [Device.core_modCore_ne _ _ hg]

@[simp] theorem frame_addSyncs (d : Device) (k mask sc n g f : Nat) : (d.addSyncs k mask sc n).frame g f = d.frame g f :=
  Device.foldl_same (fun x : Device => x.frame g f) _ (fun x i => by
    split
    · exact frame_addSync ..
    · rfl) (List.range 16) d

@[simp] theorem mq_addSyncs (d : Device) (k mask sc n : Nat) (m : Mover) : (d.addSyncs k mask sc n).mq m = d.mq m :=
  Device.foldl_same (fun x : Device => x.mq m) _ (fun x i => by
    split
    · exact mq_addSync ..
    · rfl) (List.range 16) d

/-- The head entry with one tile less in flight. -/
def tileDone (e : MoveEnt) (wr : Nat) : MoveEnt := { e with done := e.done + 1, flight := e.flight.drop 1, wr := e.wr + wr }

/-- The end of a tile that came from no frame. -/
theorem endTile_of_noFrame {d : Device} {m : Mover} {e : MoveEnt} {rest : List MoveEnt} {j : Nat} (hq : d.mq m = e :: rest)
    (hs : d.srcFrame m e j = none) (wr : Nat) : d.endTile m e j wr =
      (d.addSyncs (moverCluster m) e.score e.scnt 1).setMq m (tileDone e wr :: rest) := by
  have hm : (match e.kind, d.srcFrame m e j with
      | .tiles, some (g, f) => (if e.rel then d.releaseFrame g f else d).endRead g f
      | _, _ => d) = d := by
    rw [hs]
    split
    · cases ‹none = _›
    · rfl
  refine (congrArg (fun x : Device => (x.addSyncs (moverCluster m) e.score e.scnt 1).modEnt m 0 (tileDone · wr)) hm).trans ?_
  exact modEnt_head ((mq_addSyncs ..).trans hq) _

/-! ### Arrival -/

theorem length_seenPayload (p hb : List Byte) : (seenPayload p hb).length = p.length := by
  unfold seenPayload
  split
  · simp
    omega
  · rfl

theorem noteTaint_eq (d : Device) (a : Nat) (now : Bool) : d.noteTaint a now = { d with health := (d.noteTaint a now).health } := by
  unfold Device.noteTaint
  split <;> rfl

theorem copyTaint_eq (d : Device) (a b : Nat) : d.copyTaint a b = { d with health := (d.copyTaint a b).health } := noteTaint_eq ..

/-- Payload and header stand in the frame, which is FULL. -/
def frameFilled (d : Device) (g f : Nat) (p hb : List Byte) (poison : Bool) : Device :=
  ((d.put (Device.localAddr g (frameOff f)) p).put (Device.localAddr g (hdrOff f)) hb).setFrame g f
    { st := .full, poison := poison, carousel := (d.frame g f).carousel }

/-- A frame of a tile without block scales, or of a poisoned one. -/
theorem fillFrame_plain {d : Device} {m : Mover} {g f : Nat} {p hb : List Byte} {poison : Bool}
    (h : poison = true ∨ (parseHdr hb).bsi = 0xFFFFFFFF) : d.fillFrame m g f p hb poison = some (frameFilled d g f p hb poison) := by
  unfold Device.fillFrame
  exact if_pos (by simpa using h)

/-- A delivery or refetch of the head tile into a frame, once its outcome is known. -/
theorem deliver_settled {d : Device} {m : Mover} {e : MoveEnt} {rest : List MoveEnt} {fl : InFlight} {more : List InFlight}
    {g f : Nat} {d1 : Device} (hq : d.mq m = e :: rest) (hk : e.kind = .tiles) (hf : e.flight = fl :: more)
    (ha : fl.await = []) (hd : d.dstFrame m e fl.k = some (g, f))
    (hc : fl.refetch = true ∨ tileCheck (seenPayload fl.payload fl.header) fl.header = none)
    (hs : d.settleTile m e { fl with payload := seenPayload fl.payload fl.header } g f = some d1) :
    d.deliver m fl.refetch = (d1.copyTaint (d1.srcHeader m e fl.k) (Device.localAddr g (hdrOff f))).endTile m e fl.k 0 := by
  have ha' : fl.await.isEmpty = true := by rw [ha]; rfl
  simp only [Device.deliver, hq, hf, ha', hk, hd]
  refine (if_neg (by simp)).trans ?_
  split
  · rename_i c hr0 hcheck
    rw [hr0, hcheck] at hc
    simp at hc
  · simp only [hs]

/-- What a delivery leaves once the outcome stands in the device: the taint mark of the header, the counters and the queue. -/
def tileEnds (d : Device) (m : Mover) (e : MoveEnt) (rest : List MoveEnt) (a b : Nat) : Device :=
  ((d.copyTaint a b).addSyncs (moverCluster m) e.score e.scnt 1).setMq m (tileDone e 0 :: rest)

theorem endTile_copyTaint {d : Device} {m : Mover} {e : MoveEnt} {rest : List MoveEnt} {j : Nat} (hq : d.mq m = e :: rest)
    (hs : d.srcFrame m e j = none) (a b : Nat) : (d.copyTaint a b).endTile m e j 0 = tileEnds d m e rest a b := by
  refine endTile_of_noFrame ?_ ?_ 0 <;> rw [copyTaint_eq]
  · cases m <;> exact hq
  · exact ((MapsAlike.of_eq (d := d) (e := { d with health := (d.copyTaint a b).health }) rfl rfl).srcFrame m e j).trans hs

section
variable (d : Device) (m : Mover) (e : MoveEnt) (rest : List MoveEnt) (a b : Nat)

theorem mq_tileEnds : (tileEnds d m e rest a b).mq m = tileDone e 0 :: rest := mq_setMq_same ..

theorem frame_tileEnds (g f : Nat) : (tileEnds d m e rest a b).frame g f = d.frame g f := by
  rw [tileEnds, frame_setMq, frame_addSyncs, copyTaint_eq]
  rfl

theorem mem_tileEnds : (tileEnds d m e rest a b).mem = d.mem := by
  rw [tileEnds, setMq_eq, addSyncs_eq, copyTaint_eq]

theorem evt_tileEnds : (tileEnds d m e rest a b).evt = d.evt := by
  rw [tileEnds, setMq_eq, addSyncs_eq, copyTaint_eq]

theorem counter_tileEnds (n : Nat) {l : Nat} (hl : l < 16) :
    ((tileEnds d m e rest a b).core (16 * moverCluster m + l)).counter n =
      if bitOf e.score l ∧ n = e.scnt % 64 ∧ n ≠ 0 then (d.core (16 * moverCluster m + l)).counter n + 1
      else (d.core (16 * moverCluster m + l)).counter n := by
  rw [tileEnds, counter_setMq, counter_addSyncs _ _ _ _ _ _ hl, copyTaint_eq]
  rfl

end

section
variable (d : Device) (g f : Nat) (p hb : List Byte) (poison : Bool)

theorem frame_frameFilled : (frameFilled d g f p hb poison).frame g f =
    { st := .full, poison := poison, carousel := (d.frame g f).carousel } := frame_setFrame_same ..

theorem mq_frameFilled (m : Mover) : (frameFilled d g f p hb poison).mq m = d.mq m := by
  rw [frameFilled, mq_setFrame]
  cases m <;> rfl

theorem alike_frameFilled : MapsAlike d (frameFilled d g f p hb poison) := .of_eq rfl rfl

theorem counter_frameFilled (h n : Nat) : ((frameFilled d g f p hb poison).core h).counter n = (d.core h).counter n := by
  rw [frameFilled, Device.setFrame]
  by_cases hg : g = h
  · subst hg
    rw [Device.core_modCore_same]
    rfl
  · rw [Device.core_modCore_ne _ _ hg]
    rfl

end

/-- Settles O27: by the outcome of the delivery and the pieces that it writes. -/
theorem tileArrives : Obligations.TileArrives := by
  intro s m e rest fl more g f pa ha p hq hk ht hf haw hd hs hc hb hlen hhlen hf240
  let d1 := frameFilled s.dev g f p fl.header false
  have hset : s.dev.settleTile m e { fl with payload := p } g f = some d1 := by
    simp only [Device.settleTile, hc, ht]
    exact fillFrame_plain (.inr hb)
  have hrun : s.dev.deliver m fl.refetch = tileEnds d1 m e rest (d1.srcHeader m e fl.k) ha :=
    (deliver_settled hq hk hf haw hd (.inr hc) hset).trans
      (endTile_copyTaint ((mq_frameFilled ..).trans hq) (((alike_frameFilled ..).srcFrame ..).trans hs) _ _)
  have hcmd : exec (if fl.refetch then .tileRefetchComplete m [] else .tileDeliveryComplete m []) s =
      s.run (fun d => d.deliver m fl.refetch) := by
    cases fl.refetch <;> rfl
  refine ⟨_, hcmd, rfl, ?_⟩
  have hpl : p.length ≤ 4096 := (length_seenPayload ..).trans_le hlen
  have hdisj : pa + 4096 ≤ ha := by
    simp only [pa, ha, Device.localAddr]
    omega
  obtain ⟨hframe, hhb, hpb⟩ := reads_of_puts (d := s.dev) (a := pa) (b := ha) (as := p) (bs := fl.header)
    (e := tileEnds d1 m e rest (d1.srcHeader m e fl.k) ha) (mem_tileEnds ..)
  rw [hhlen] at hhb hframe
  simp only [hrun]
  refine ⟨?_, ?_, hpb (by omega), hhb, fun a h1 h2 => hframe a (by omega) h2, ?_, fun l n hl _ => ?_⟩
  · rw [frame_tileEnds, frame_frameFilled]
  · rw [frame_tileEnds, frame_frameFilled]
  · rw [mq_tileEnds, tileDone, hf]
    rfl
  · rw [counter_tileEnds _ _ _ _ _ _ _ hl, counter_frameFilled]

/-! ### Tiles that fail their CRC -/

theorem mq_of_eq {d e : Device} (hc : e.cores = d.cores) (hm : e.movq = d.movq) (m : Mover) : e.mq m = d.mq m := by
  cases m with
  | se s => exact congrArg (Map.get [] · s.val) hm
  | lu g => exact congrArg CoreS.moveq (core_of_cores_eq hc g)

/-- From `d` to `e` only requests to peers and events happen. -/
def Fetched (d e : Device) : Prop :=
  e = { d with dict := e.dict, evt := e.evt, health := e.health, alert := e.alert, out := e.out, link := e.link }

namespace Fetched

variable {d e f : Device}

theorem refl (d : Device) : Fetched d d := rfl

theorem trans (h : Fetched d e) (h' : Fetched e f) : Fetched d f := by
  unfold Fetched at *
  rw [h', h]

theorem mem (h : Fetched d e) : e.mem = d.mem := by rw [h]
theorem cores (h : Fetched d e) : e.cores = d.cores := by rw [h]
theorem movq (h : Fetched d e) : e.movq = d.movq := by rw [h]
theorem clus (h : Fetched d e) : e.clus = d.clus := by rw [h]

theorem mq (h : Fetched d e) (m : Mover) : e.mq m = d.mq m := mq_of_eq h.cores h.movq m

theorem raise (c ua ui a b : Nat) : Fetched d (d.raise c ua ui a b) := by
  unfold Fetched
  ext1 <;> simp

theorem taint (c : Nat) : Fetched d (d.taint c) := by
  unfold Fetched
  ext1 <;> simp

theorem moverMiss (m : Mover) (a : Nat) : Fetched d (d.moverMiss m a) := by
  unfold Device.moverMiss Device.reachNothing
  split
  · exact taint ..
  · exact raise ..

theorem inject (h : PktHdr) (data : List Byte) (rail : Option Nat) : Fetched d (d.inject h data rail) := by
  unfold Device.inject
  simp only []
  repeat' split
  all_goals rfl

theorem request (p a : Nat) (r : Req) (data : List Byte) : Fetched d (d.request p a r data) :=
  trans (e := { d with link := _ }) rfl (inject ..)

theorem fetch (m : Mover) (a n : Nat) (isHdr : Bool) : Fetched d (d.fetch m a n isHdr).1 := by
  unfold Device.fetch
  split
  · split
    · exact refl d
    · exact moverMiss ..
  · split
    · exact moverMiss ..
    · exact request ..
  · exact raise ..
  · exact moverMiss ..

end Fetched

/-- A tile from no frame that is read again. -/
theorem readTile_again {d : Device} {m : Mover} {e : MoveEnt} {j : Nat} (hk : e.kind = .tiles) (hs : d.srcFrame m e j = none) :
    Fetched d (d.readTile m e j true).1 ∧ (d.readTile m e j true).2.k = j ∧ (d.readTile m e j true).2.refetch = true := by
  unfold Device.readTile
  simp only [hk, hs]
  split
  · exact ⟨.moverMiss .., rfl, rfl⟩
  · exact ⟨.trans (.fetch ..) (.fetch ..), rfl, rfl⟩

/-- R154: a tile that fails its CRC is read again. -/
theorem deliver_crc {d : Device} {m : Mover} {e : MoveEnt} {rest : List MoveEnt} {fl : InFlight} {more : List InFlight}
    {g f : Nat} (hq : d.mq m = e :: rest) (hk : e.kind = .tiles) (hf : e.flight = fl :: more) (hr : fl.refetch = false)
    (ha : fl.await = []) (hd : d.dstFrame m e fl.k = some (g, f)) (hs : d.srcFrame m e fl.k = none)
    (hc : tileCheck (seenPayload fl.payload fl.header) fl.header = some .crc) :
    (d.deliver m false).mem = d.mem ∧
    ((d.deliver m false).clu (moverCluster m)).retry = (d.clu (moverCluster m)).retry + 1 ∧
    ∃ y, y.k = fl.k ∧ y.refetch = true ∧ (d.deliver m false).mq m = { e with flight := y :: more } :: rest := by
  obtain ⟨hx, hxk, hxr⟩ := readTile_again hk hs
  generalize hy : d.readTile m e fl.k true = y at hx hxk hxr
  let d1 := y.1.setMq m ({ e with flight := y.2 :: more } :: rest)
  let d2 := (d1.setFrame g f { d1.frame g f with cause := 1 }).addNum 0x1841 1 0 1
  have hrun : d.deliver m false = d2.modClu (moverCluster m) (fun c => { c with retry := c.retry + 1 }) := by
    have ha' : fl.await.isEmpty = true := by rw [ha]; rfl
    simp only [Device.deliver, hq, hf, ha', hk, hd, hr, hc, hy]
    refine (if_neg (by simp)).trans ?_
    rw [modEnt_head ((hx.mq m).trans hq)]
    simp only [hf, List.drop_one, List.tail_cons]
    rfl
  have hd1 : d1.clus = d.clus := by
    simp only [d1]
    rw [setMq_eq]
    exact hx.clus
  rw [hrun]
  refine ⟨?_, ?_, y.2, hxk, hxr, ?_⟩
  · simp only [d2, Device.modClu_mem, Device.addNum_mem, Device.setFrame_mem, d1]
    rw [setMq_eq]
    exact hx.mem
  · rw [Device.clu_modClu_same]
    simp [d2, Device.clu, hd1]
  · have hmq : d2.mq m = d1.mq m := (mq_of_eq (Device.addNum_cores ..) (Device.addNum_movq ..) m).trans (mq_setFrame ..)
    exact (mq_of_eq rfl rfl m).trans (hmq.trans (mq_setMq_same ..))

/-- R154: a refetched tile that fails its CRC as well is poison. -/
theorem deliver_poison {d : Device} {m : Mover} {e : MoveEnt} {rest : List MoveEnt} {fl : InFlight} {more : List InFlight}
    {g f : Nat} (hq : d.mq m = e :: rest) (hk : e.kind = .tiles) (hf : e.flight = fl :: more) (hr : fl.refetch = true)
    (ha : fl.await = []) (hd : d.dstFrame m e fl.k = some (g, f)) (hs : d.srcFrame m e fl.k = none)
    (hc : tileCheck (seenPayload fl.payload fl.header) fl.header = some .crc) :
    ((d.deliver m true).frame g f).st = .full ∧ ((d.deliver m true).frame g f).poison = true ∧
    Raised 0x4001 d (d.deliver m true) ∧
    (d.deliver m true).mq m = { e with done := e.done + 1, flight := more } :: rest := by
  let fill := frameFilled d g f (seenPayload fl.payload fl.header) fl.header true
  let d1 := fill.raise 0x4001 (moverUnit m).1 (moverUnit m).2.1 (e.src + fl.k * e.sstride) (fill.srcHeader m e fl.k)
  have hset : d.settleTile m e { fl with payload := seenPayload fl.payload fl.header } g f = some d1 := by
    simp only [Device.settleTile, hc, fillFrame_plain (m := m) (p := seenPayload fl.payload fl.header) (hb := fl.header)
      (d := d) (g := g) (f := f) (poison := true) (.inl rfl)]
    rfl
  have hu : (moverUnit m).2.1 < 65536 := by
    cases m with
    | se s => simp only [moverUnit]; omega
    | lu g => simp only [moverUnit]; omega
  have halike : MapsAlike d d1 := (alike_frameFilled ..).trans
    (.raise (by with_unfolding_all decide) (by with_unfolding_all decide) hu (by decide))
  have hq1 : d1.mq m = e :: rest :=
    (mq_of_eq (fill.raise_cores ..) (fill.raise_movq ..) m).trans ((mq_frameFilled ..).trans hq)
  have hrun : d.deliver m true = tileEnds d1 m e rest (d1.srcHeader m e fl.k) (Device.localAddr g (hdrOff f)) := by
    rw [← hr]
    exact (deliver_settled hq hk hf ha hd (.inl hr) hset).trans (endTile_copyTaint hq1 ((halike.srcFrame ..).trans hs) _ _)
  have hframe : d1.frame g f = { st := .full, poison := true, carousel := (d.frame g f).carousel } :=
    (congrArg (CoreS.frame · f) (Device.core_raise ..)).trans (frame_frameFilled ..)
  rw [hrun, frame_tileEnds, hframe, mq_tileEnds, tileDone, hf]
  exact ⟨rfl, rfl, (Device.raise_raised fill _ _ _ _ (by decide)).of_evt_eq rfl (evt_tileEnds ..), rfl⟩

/-! ### The end of an entry -/

/-- A PASS that is carried out. -/
def passed (e : MoveEnt) : MoveEnt := { e with issued := 1, done := 1, flight := [] }

/-- R165: a PASS with DROP empties its frame. -/
theorem carouselPass_drop {d : Device} {se : Se} {e : MoveEnt} {rest : List MoveEnt} {g f g' f' : Nat}
    (hq : d.moves se = e :: rest) (hk : e.kind = .pass true) (h0 : e.done = 0)
    (hs : d.frameOfAddr (se / 4) e.src = some (g, f)) (hd : d.frameOfAddr (se / 4) e.dst = some (g', f'))
    (hst : (d.frame g f).st = .full) (hrel : (d.frame g f).release = true) (hr : (d.frame g f).reads = 0)
    (hf : (d.core g).failed = false) : carouselPass d se =
      ((d.setFrame g f {}).setMoves se (passed e :: rest)).addNum 0x1841 7 0 1 := by
  simp only [carouselPass, hq, hk, h0, hs, hd, hst, hrel, hr, hf]
  exact congrArg (Device.addNum · 0x1841 7 0 1)
    (modEnt_head (m := .se se) ((mq_setFrame ..).trans hq) passed)

set_option maxRecDepth 3000 in
theorem numBits_passes : numBits 0x1841 7 = 64 := by with_unfolding_all decide

/-- Settles O28: a tile is read again or poisoned; a PASS with DROP; the end of an entry. -/
theorem badTilesAndMoveEnds : Obligations.BadTilesAndMoveEnds := by
  refine ⟨fun s m e rest fl more g f hq hk hf ha hd hs hc => ⟨fun hr => ?_, fun hr => ?_⟩,
    fun s se m e rest g f g' f' => ⟨fun hq hk h0 hs hd hst hrel hr hf => ?_, fun hq hc hf hw => ?_⟩⟩
  · exact ⟨_, rfl, rfl, deliver_crc hq hk hf hr ha hd hs hc⟩
  · exact ⟨_, rfl, rfl, deliver_poison hq hk hf hr ha hd hs hc⟩
  · refine ⟨_, rfl, rfl, ?_⟩
    simp only [Device.sramHits, List.foldl_nil, carouselPass_drop hq hk h0 hs hd hst hrel hr hf]
    refine ⟨?_, Device.addNum_mem .., ?_, ?_⟩
    · exact (congrArg (CoreS.frame · f) (Device.core_addNum ..)).trans (frame_setFrame_same s.dev g f {})
    · exact (congrArg (Map.get [] · se.val) (Device.addNum_movq ..)).trans (Device.moves_setMoves_same ..)
    · rw [num_addNum_same, numBits_passes]
      exact congrArg (fun x => (x + 1) % 2 ^ 64) (num_of_dict_eq (by rfl) 0x1841 7 0)
  · refine ⟨_, rfl, rfl, ?_⟩
    have hend : (decide (e.count ≤ e.done) && e.flight.isEmpty && e.wr == 0) = true := by simp [hc, hf, hw]
    simp only [hq, hend, if_true]
    exact ⟨mq_setMq_same .., setMq_eq ..⟩

end Sys2Proof.Machine

/-! PROOFS. A mask update keeps every row and column of a sub-block within its bound (R263). -/

namespace Sys2Proof.Machine

/-! ### Sorted lists hold what was sorted -/

theorem mem_insertBy {α : Type} (le : α → α → Bool) (x a : α) (l : List α) : a ∈ insertBy le x l ↔ a = x ∨ a ∈ l := by
  induction l with
  | nil => simp [insertBy]
  | cons y l ih =>
    simp only [insertBy]
    split
    · simp only [List.mem_cons, ih]
      tauto
    · simp

theorem mem_sortBy {α : Type} (le : α → α → Bool) (a : α) (l : List α) : a ∈ sortBy le l ↔ a ∈ l := by
  have key : ∀ (l acc : List α), a ∈ l.foldl (fun acc x => insertBy le x acc) acc ↔ a ∈ acc ∨ a ∈ l := by
    intro l
    induction l with
    | nil => simp
    | cons y l ih =>
      intro acc
      rw [List.foldl_cons, ih, mem_insertBy, List.mem_cons]
      tauto
  exact (key l []).trans (by simp)

/-! ### Positions placed -/

/-- The positions of `l` in row `i`, and in column `i`. -/
def inRow (l : List Nat) (i : Nat) : Nat := (l.filter (fun p => p / 16 == i)).length
def inCol (l : List Nat) (i : Nat) : Nat := (l.filter (fun p => p % 16 == i)).length

/-- The counts of an update are those of its positions, none above `k`, and its positions come from `src`. -/
structure Placed (k : Nat) (src : Nat → Prop) (x : UpdRes) : Prop where
  lenRows : x.rows.length = 16
  lenCols : x.cols.length = 16
  rows : ∀ i < 16, inRow x.new i = x.rows.getD i 0 ∧ x.rows.getD i 0 ≤ k
  cols : ∀ i < 16, inCol x.new i = x.cols.getD i 0 ∧ x.cols.getD i 0 ≤ k
  mem : ∀ p ∈ x.new, src p

theorem placed_empty (k : Nat) (src : Nat → Prop) : Placed k src {} where
  lenRows := rfl
  lenCols := rfl
  rows i hi := by
    have h0 : (List.replicate 16 0).getD i 0 = 0 := List.getD_replicate 0 hi
    exact ⟨h0.symm, h0.trans_le (Nat.zero_le k)⟩
  cols i hi := by
    have h0 : (List.replicate 16 0).getD i 0 = 0 := List.getD_replicate 0 hi
    exact ⟨h0.symm, h0.trans_le (Nat.zero_le k)⟩
  mem p hp := by cases hp

/-- The counters of an update do not tell where its positions are. -/
theorem Placed.of_eq {k : Nat} {src : Nat → Prop} {x y : UpdRes} (h : Placed k src x) (hn : y.new = x.new)
    (hr : y.rows = x.rows) (hc : y.cols = x.cols) : Placed k src y :=
  ⟨hr ▸ h.lenRows, hc ▸ h.lenCols, by rw [hn, hr]; exact h.rows, by rw [hn, hc]; exact h.cols, by rw [hn]; exact h.mem⟩

/-- A count that goes up where there is room. -/
theorem counts_set {c : List Nat} {n k j i : Nat} {f : Nat → Nat} (hl : c.length = 16) (hi : i < 16) (hj : j < 16)
    (h : f i = c.getD i 0 ∧ c.getD i 0 ≤ k) (hroom : c.getD j 0 < k) (hn : n = f i + if j = i then 1 else 0) :
    n = (c.set j (c.getD j 0 + 1)).getD i 0 ∧ (c.set j (c.getD j 0 + 1)).getD i 0 ≤ k := by
  obtain ⟨heq, hle⟩ := h
  by_cases hji : j = i
  · subst hji
    simp only [List.getD_eq_getElem?_getD, List.getElem?_set, hl, hj, if_true, Option.getD_some] at *
    omega
  · simp only [List.getD_eq_getElem?_getD, List.getElem?_set, hji, if_false] at *
    omega

theorem inRow_append (l : List Nat) (p i : Nat) : inRow (l ++ [p]) i = inRow l i + if p / 16 = i then 1 else 0 := by
  unfold inRow
  by_cases h : p / 16 = i <;> simp [List.filter_append, h]

theorem inCol_append (l : List Nat) (p i : Nat) : inCol (l ++ [p]) i = inCol l i + if p % 16 = i then 1 else 0 := by
  unfold inCol
  by_cases h : p % 16 = i <;> simp [List.filter_append, h]

/-- A position is placed only where its row and its column have room. -/
theorem Placed.place {k p : Nat} {src : Nat → Prop} {x y : UpdRes} (h : Placed k src x) (hp : p < 256) (hs : src p)
    (hy : x.place k p = some y) : Placed k src y ∧ y.regrown = x.regrown := by
  unfold UpdRes.place at hy
  simp only [] at hy
  split at hy
  · rename_i hroom
    simp only [Bool.and_eq_true, decide_eq_true_eq] at hroom
    obtain rfl := Option.some.inj hy
    refine ⟨⟨?_, ?_, fun i hi => ?_, fun i hi => ?_, fun a ha => ?_⟩, rfl⟩
    · simpa using h.lenRows
    · simpa using h.lenCols
    · exact counts_set h.lenRows hi (by omega) (h.rows i hi) hroom.1 (inRow_append ..)
    · exact counts_set h.lenCols hi (by omega) (h.cols i hi) hroom.2 (inCol_append ..)
    · rcases List.mem_append.1 ha with ha | ha
      · exact h.mem a ha
      · exact List.mem_singleton.1 ha ▸ hs
  · cases hy

/-! ### The two passes of an update -/

/-- R263: a position kept, or dropped where its row or column is full. -/
def legalStep (k : Nat) (x : UpdRes) (a : Nat) : UpdRes :=
  match x.place k a with
  | some y => y
  | none => { x with illegal := x.illegal + 1 }

/-- R263: a candidate regrown while some are still to be regrown, or rejected. -/
def regrowStep (pruned : List Nat) (k : Nat) (s : UpdRes × Nat) (a : Nat) : UpdRes × Nat :=
  if s.2 = 0 then s
  else match (if pruned.contains a then none else s.1.place k a) with
    | some y => ({ y with regrown := y.regrown + 1 }, s.2 - 1)
    | none => ({ s.1 with rejected := s.1.rejected + 1 }, s.2)

theorem mupdSub_eq (act cand : List Nat) (wk : Nat → Nat) (rho t k : Nat) : ∃ kept pruned : List Nat,
    (∀ a ∈ kept, a ∈ act) ∧ (mupdSub act wk cand rho t k).1 =
      (cand.foldl (regrowStep pruned k)
        (kept.foldl (legalStep k) {}, min (t - (kept.foldl (legalStep k) {}).new.length) 16)).1 := by
  refine ⟨_, _, fun a ha => ?_, rfl⟩
  exact (mem_sortBy ..).1 (List.mem_filter.1 ha).1

section
variable {k : Nat} {src : Nat → Prop}

/-- The first pass: nothing is regrown. -/
theorem placed_foldl_legalStep {l : List Nat} (hl : ∀ a ∈ l, a < 256 ∧ src a) {x : UpdRes} (hx : Placed k src x) :
    Placed k src (l.foldl (legalStep k) x) ∧ (l.foldl (legalStep k) x).regrown = x.regrown := by
  induction l generalizing x with
  | nil => exact ⟨hx, rfl⟩
  | cons a l ih =>
    obtain ⟨⟨ha, hsrc⟩, hrest⟩ := List.forall_mem_cons.1 hl
    have hstep : Placed k src (legalStep k x a) ∧ (legalStep k x a).regrown = x.regrown := by
      unfold legalStep
      split
      · exact hx.place ha hsrc ‹_›
      · exact ⟨hx.of_eq rfl rfl rfl, rfl⟩
    rw [List.foldl_cons, ← hstep.2]
    exact ih hrest hstep.1

/-- The second pass: no more is regrown than was asked for. -/
theorem placed_foldl_regrowStep (pruned : List Nat) {l : List Nat} (hl : ∀ a ∈ l, a < 256 ∧ src a) {s : UpdRes × Nat} {n : Nat}
    (hs : Placed k src s.1) (hn : s.1.regrown + s.2 ≤ n) :
    Placed k src (l.foldl (regrowStep pruned k) s).1 ∧ (l.foldl (regrowStep pruned k) s).1.regrown ≤ n := by
  induction l generalizing s with
  | nil => exact ⟨hs, le_trans (Nat.le_add_right _ _) hn⟩
  | cons a l ih =>
    obtain ⟨⟨ha, hsrc⟩, hrest⟩ := List.forall_mem_cons.1 hl
    have hstep : Placed k src (regrowStep pruned k s a).1 ∧ (regrowStep pruned k s a).1.regrown + (regrowStep pruned k s a).2 ≤ n := by
      unfold regrowStep
      split
      · exact ⟨hs, hn⟩
      · split
        · rename_i hzero y hy
          split at hy
          · cases hy
          · obtain ⟨hp, hr⟩ := hs.place ha hsrc hy
            exact ⟨hp.of_eq rfl rfl rfl, by dsimp only; omega⟩
        · exact ⟨hs.of_eq rfl rfl rfl, hn⟩
    exact ih hrest hstep.1 hstep.2

end

/-- Settles O35: both passes place positions only where row and column have room. -/
theorem maskUpdateIsLegal : Obligations.MaskUpdateIsLegal := by
  intro act cand wk rho t k hact hcand u
  obtain ⟨kept, pruned, hkept, hu⟩ := mupdSub_eq act cand wk rho t k
  let src (p : Nat) : Prop := p ∈ act ∨ p ∈ cand
  obtain ⟨hx, hzero⟩ := placed_foldl_legalStep (k := k) (src := src) (fun a ha => ⟨hact a (hkept a ha), .inl (hkept a ha)⟩)
    (placed_empty k src)
  obtain ⟨hy, hregrown⟩ := placed_foldl_regrowStep (k := k) (src := src) pruned (l := cand) (n := 16)
    (s := (kept.foldl (legalStep k) {}, min (t - (kept.foldl (legalStep k) {}).new.length) 16))
    (fun a ha => ⟨hcand a ha, .inr ha⟩) hx (by
      dsimp only
      rw [hzero]
      exact (Nat.zero_add _).trans_le (min_le_right _ _))
  rw [← hu] at hy hregrown
  refine ⟨fun i hi => ⟨?_, ?_⟩, hregrown, hy.mem⟩
  · exact (hy.rows i hi).1.trans_le (hy.rows i hi).2
  · exact (hy.cols i hi).1.trans_le (hy.cols i hi).2

end Sys2Proof.Machine

/-! PROOFS. Contexts of a drawing unit (R229, R235, R236). -/

namespace Sys2Proof.Machine

@[simp] theorem unitCtx_setUnitCtx_same (d : Device) (k u : Nat) (x : UnitCtx) : (d.setUnitCtx k u x).unitCtx k u = x := by
  simp [Device.unitCtx, Device.setUnitCtx]

theorem setUnitCtx_eq (d : Device) (k u : Nat) (x : UnitCtx) :
    d.setUnitCtx k u x = { d with clus := (d.setUnitCtx k u x).clus } := rfl

/-- R236: a refill changes the lanes of its row alone. -/
theorem refillRow_spec (c : Ctx) (row : Nat) : refillRow c row = { c with lanes := (refillRow c row).lanes } ∧
    (refillRow c row).lanes.length = c.lanes.length ∧ ∀ i, i < c.lanes.length → (refillRow c row).lanes.getD i {} =
      if i / 16 = row ∧ (c.lanes.getD i {}).n ≤ 16 then (c.lanes.getD i {}).refill else c.lanes.getD i {} := by
  refine ⟨rfl, by simp [refillRow], fun i hi => ?_⟩
  simp [refillRow, List.getD_eq_getElem?_getD, hi]

/-- R236: a handle other than the current context's. -/
def otherHandle (x : UnitCtx) (h : W32) : Bool :=
  match x.cur with
  | some c => c.handle != h
  | none => true

/-- The shadow context holds the handle with the seeds of the step. -/
def shadowKept (d : Device) (x : UnitCtx) (h : W32) : Bool :=
  match x.shadow with
  | some c => c.handle == h && c.step == d.cad.step
  | none => false

theorem prepare_of_next {d : Device} {k u : Nat} {h : W32} {e : StreamEnt}
    (hf : (d.queuedHandles k u).find? (otherHandle (d.unitCtx k u)) = some h) (hs : d.stream k h = some e) :
    d.prepare k u = if shadowKept d (d.unitCtx k u) h then d
      else d.setUnitCtx k u { d.unitCtx k u with shadow := some (d.deriveCtx h) } := by
  have hp : d.prepare k u = match (d.queuedHandles k u).find? (otherHandle (d.unitCtx k u)) with
      | none => d
      | some h => match d.stream k h with
        | none => d
        | some _ => if shadowKept d (d.unitCtx k u) h then d
            else d.setUnitCtx k u { d.unitCtx k u with shadow := some (d.deriveCtx h) } := rfl
  rw [hp, hf]
  simp only [hs]

/-- Settles O33: a shadow context kept or derived, and a row refilled. -/
theorem rngContexts : Obligations.RngContexts := by
  intro s k u x only
  refine ⟨fun h e hf hs => ?_, ?_⟩
  · refine ⟨_, rfl, rfl, ?_⟩
    simp only [prepare_of_next hf hs]
    by_cases hk : shadowKept s.dev x h = true
    · rw [if_pos hk]
      refine ⟨rfl, rfl, fun _ => rfl, fun hne => ?_⟩
      unfold shadowKept at hk
      split at hk
      · rename_i c hc
        simp only [Bool.and_eq_true, beq_iff_eq] at hk
        exact absurd hk (by have := hne c hc; tauto)
      · cases hk
    · rw [if_neg hk]
      refine ⟨setUnitCtx_eq .., ?_, fun hkept => ?_, fun _ => ?_⟩ <;> rw [unitCtx_setUnitCtx_same]
      obtain ⟨c, hc, hh, ht⟩ := hkept
      exact absurd (by simp [shadowKept, hc, hh, ht]) hk
  · intro row ctx fills
    refine ⟨fun hc => ?_, fun hc hsh => ?_⟩
    · refine ⟨_, rfl, rfl, ?_⟩
      have hc' : (s.dev.unitCtx k u).cur = some ctx := hc
      simp only [hc']
      exact ⟨setUnitCtx_eq .., by rw [unitCtx_setUnitCtx_same], _, by rw [unitCtx_setUnitCtx_same], refillRow_spec ..⟩
    · refine ⟨_, rfl, rfl, ?_⟩
      have hc' : (s.dev.unitCtx k u).cur = none := hc
      have hsh' : (s.dev.unitCtx k u).shadow = some ctx := hsh
      simp only [hc', hsh']
      exact ⟨setUnitCtx_eq .., by rw [unitCtx_setUnitCtx_same], _, by rw [unitCtx_setUnitCtx_same], refillRow_spec ..⟩

end Sys2Proof.Machine

/-! PROOFS. Descriptor rings: the engine looks at the rings in turn, takes a descriptor or refuses it (R31, R197, R203, R210,
R212). -/

namespace Sys2Proof.Machine

/-! ### Accesses that reach nothing -/

/-- Everything that an access which reaches nothing does to a cluster's engines: an event, and what it taints. -/
structure Missed (d e : Device) : Prop where
  aside : Aside d e
  clus : e.clus = d.clus
  dom : e.dict.dom = d.dict.dom
  num : ∀ i ∈ [0x7050, 0x7060, 0x7070], ∀ s < 256, ∀ k < 65536, e.num i s k = d.num i s k
  raised : ∀ c, c ≠ 0x4008 → c ≠ 0x2207 → Map.get 0 e.evt.raised c = Map.get 0 d.evt.raised c

theorem dom_raiseRaw (d : Device) (c ua ui a b : Nat) : (d.raiseRaw c ua ui a b).dict.dom = d.dict.dom := by
  have hl (e : Device) (r : EvRec) : (e.logRec r).dict.dom = e.dict.dom := by
    simp only [Device.logRec]
    split <;> simp
  simp [Device.raiseRaw, Device.noteFatal, apply_ite Device.dict, apply_ite DictS.dom, hl]

theorem dom_countEvent (d : Device) (c ui : Nat) : (d.countEvent c ui).dict.dom = d.dict.dom := by
  rw [dict_countEvent]

theorem dom_taint (d : Device) (c : Nat) : (d.taint c).dict.dom = d.dict.dom := by
  simp only [Device.taint]
  split
  · rfl
  · rw [Device.send_dict, dom_raiseRaw, dom_countEvent]
    simp

theorem dom_raise (d : Device) (c ua ui a b : Nat) : (d.raise c ua ui a b).dict.dom = d.dict.dom := by
  simp only [Device.raise]
  split
  · rw [dom_taint, dom_raiseRaw, dom_countEvent]
  · rw [dom_raiseRaw, dom_countEvent]

namespace Missed

variable {d e f : Device}

theorem refl (d : Device) : Missed d d := ⟨.refl d, rfl, rfl, fun _ _ _ _ _ _ => rfl, fun _ _ _ => rfl⟩

theorem trans (h : Missed d e) (h' : Missed e f) : Missed d f :=
  ⟨h.aside.trans h'.aside, h'.clus.trans h.clus, h'.dom.trans h.dom,
    fun i hi s hs k hk => (h'.num i hi s hs k hk).trans (h.num i hi s hs k hk),
    fun c h1 h2 => (h'.raised c h1 h2).trans (h.raised c h1 h2)⟩

theorem mem (h : Missed d e) : e.mem = d.mem := h.aside.mem

theorem reachNothing {ua ui a port : Nat} (hu : ui < 65536) : Missed d (d.reachNothing ua ui a port) where
  aside := .reachNothing ..
  clus := by
    unfold Device.reachNothing
    split <;> simp
  dom := by
    unfold Device.reachNothing
    split
    · exact dom_taint ..
    · exact dom_raise ..
  num i hi s hs k hk := by
    have hkeep : ∀ i ∈ [0x7050, 0x7060, 0x7070], eventKeeps 0x4008 i = true := by with_unfolding_all decide
    exact num_reachNothing_of_keeps d (hkeep i hi) (by omega)
  raised c h1 h2 := by
    unfold Device.reachNothing
    split
    · exact Device.taint_raised _ _ h2
    · exact raised_raise_ne d _ _ _ _ (Ne.symm h1) h2

theorem ownMiss {k : Nat} (hk : k < 96) (port a : Nat) : Missed d (d.ownMiss k port a) := .reachNothing (by omega)

theorem line (h : Missed d e) {k : Nat} (hk : k < 96) (t : Nat) : e.line k t = d.line k t := by
  simp only [Device.line, Device.lineOff, h.num 0x7050 (by simp) 1 (by decide) (k + 1) (by omega),
    h.num 0x7050 (by simp) 2 (by decide) (k + 1) (by omega), bytes_of_mem_eq h.mem]

theorem clu (h : Missed d e) (k : Nat) : e.clu k = d.clu k := congrArg (fun m : Map ClusS => Map.get ({} : ClusS) m k) h.clus

end Missed

/-! ### The ring that is next -/

theorem ringHdr_of_mem_eq {d e : Device} (h : e.mem = d.mem) (k a : Nat) : e.ringHdr k a = d.ringHdr k a := by
  simp only [Device.ringHdr, load_of_mem_eq h]

theorem ringJob_of_mem_eq {d e : Device} (h : e.mem = d.mem) (k h0 r size : Nat) :
    e.ringJob k h0 r size = d.ringJob k h0 r size := by
  simp only [Device.ringJob, ringHdr_of_mem_eq h, bytes_of_mem_eq h]

theorem ringSeq_of_mem_eq {d e : Device} (h : e.mem = d.mem) (k h0 r : Nat) : e.ringSeq k h0 r = d.ringSeq k h0 r := by
  simp only [Device.ringSeq, ringHdr_of_mem_eq h]

/-- Something is published on ring `r`. -/
def ringHas (d : Device) (k h0 r : Nat) : Bool :=
  accessOk (h0 + 64 * r) 64 && (d.ringHdr k (h0 + 64 * r)).done != (d.ringHdr k (h0 + 64 * r)).tail

/-- One ring is looked at. -/
def ringStep (d : Device) (k h0 port : Nat) (acc : Device × Option Nat) (r : Nat) : Device × Option Nat :=
  if acc.2.isSome then acc
  else if accessOk (h0 + 64 * r) 64 then
    (acc.1, if (d.ringHdr k (h0 + 64 * r)).done != (d.ringHdr k (h0 + 64 * r)).tail then some r else none)
  else (acc.1.ownMiss k port (Device.storeAddr k (h0 + 64 * r)), none)

section
variable {d : Device} {k h0 port : Nat}

theorem foldl_ringStep_some (l : List Nat) (e : Device) (r : Nat) : l.foldl (ringStep d k h0 port) (e, some r) = (e, some r) := by
  induction l with
  | nil => rfl
  | cons x l ih => rwa [List.foldl_cons, ringStep, if_pos (by rfl)]

theorem foldl_ringStep (hk : k < 96) {l : List Nat} {e : Device} {r : Nat} (he : Missed d e) (hr : l.find? (ringHas d k h0) = some r) :
    Missed d (l.foldl (ringStep d k h0 port) (e, none)).1 ∧ (l.foldl (ringStep d k h0 port) (e, none)).2 = some r := by
  induction l generalizing e with
  | nil => cases hr
  | cons x l ih =>
    rw [List.find?_cons] at hr
    rw [List.foldl_cons, ringStep]
    by_cases ha : accessOk (h0 + 64 * x) 64 = true
    · by_cases hp : ((d.ringHdr k (h0 + 64 * x)).done != (d.ringHdr k (h0 + 64 * x)).tail) = true
      · have hx : ringHas d k h0 x = true := by rw [ringHas, ha, hp]; rfl
        simp only [hx] at hr
        simp only [Option.isSome_none, Bool.false_eq_true, if_false, ha, if_true, hp, foldl_ringStep_some]
        exact ⟨he, hr⟩
      · have hx : ringHas d k h0 x = false := by rw [ringHas, ha]; simpa using hp
        simp only [hx] at hr
        simp only [Option.isSome_none, Bool.false_eq_true, if_false, ha, if_true, hp]
        exact ih he hr
    · have hx : ringHas d k h0 x = false := by rw [ringHas]; simp [ha]
      simp only [hx] at hr
      simp only [Option.isSome_none, Bool.false_eq_true, if_false, ha]
      exact ih (he.trans (.ownMiss hk ..)) hr

/-- The descriptor of the ring that is next is taken; what was looked at on the way raised events at most. -/
theorem ringTake_next {n first size r : Nat} (hk : k < 96) (hr : d.ringNext k h0 n first = some r) :
    ∃ e, d.ringTake k h0 n first size port = (e, some (r, d.ringJob k h0 r size)) ∧ Missed d e := by
  obtain ⟨hm, hs⟩ := foldl_ringStep (port := port) (l := (List.range n).map (fun i => (first + i) % n)) hk (.refl d) hr
  have hlook : d.ringLook k h0 n first port =
      ((List.range n).map (fun i => (first + i) % n)).foldl (ringStep d k h0 port) (d, none) := rfl
  unfold Device.ringTake
  rw [hlook]
  generalize ((List.range n).map (fun i => (first + i) % n)).foldl (ringStep d k h0 port) (d, none) = x at hm hs
  obtain ⟨e, o⟩ := x
  obtain rfl : o = some r := hs
  refine ⟨_, by simp only [ringJob_of_mem_eq hm.mem]; rfl, ?_⟩
  split
  · exact hm
  · exact hm.trans (.ownMiss hk ..)

end

/-! ### A descriptor is completed -/

section
variable (d : Device) (k h0 r cnt cores : Nat)

theorem ringDone_eq : d.ringDone k h0 r cnt cores =
    { d with mem := (d.ringDone k h0 r cnt cores).mem, cores := (d.ringDone k h0 r cnt cores).cores } := by
  unfold Device.ringDone
  rw [addSyncs_eq]
  rfl

theorem mem_ringDone : (d.ringDone k h0 r cnt cores).mem = (d.store (Device.storeAddr k (h0 + 64 * r + 0x24)) 4
    ((d.load (Device.storeAddr k (h0 + 64 * r + 0x24)) 4 + 1) % 2 ^ 32)).mem := by
  unfold Device.ringDone
  rw [addSyncs_eq]

theorem storesBytes_ringDone : StoresBytes (Device.storeAddr k (h0 + 64 * r + 0x24)) 4
    ((d.load (Device.storeAddr k (h0 + 64 * r + 0x24)) 4 + 1) % 2 ^ 32) d (d.ringDone k h0 r cnt cores) :=
  StoresBytes.of_mem_eq (storesBytes_store d _ _ _) rfl (mem_ringDone ..)

/-- DONE of the ring has risen by 1 (R197). -/
theorem load_ringDone : (d.ringDone k h0 r cnt cores).load (Device.storeAddr k (h0 + 64 * r + 0x24)) 4 =
    (d.load (Device.storeAddr k (h0 + 64 * r + 0x24)) 4 + 1) % 2 ^ 32 := by
  rw [load_of_mem_eq (mem_ringDone ..), load_store_same]
  exact Nat.mod_mod _ _

theorem counter_ringDone (n : Nat) {l : Nat} (hl : l < 16) : ((d.ringDone k h0 r cnt cores).core (16 * k + l)).counter n =
    if bitOf cores l ∧ n = cnt % 64 ∧ n ≠ 0 then (d.core (16 * k + l)).counter n + 1 else (d.core (16 * k + l)).counter n := by
  unfold Device.ringDone
  rw [counter_addSyncs _ _ _ _ _ _ hl, Nat.mod_mod]
  rfl

theorem clu_ringDone (j : Nat) : (d.ringDone k h0 r cnt cores).clu j = d.clu j := by
  rw [ringDone_eq]
  rfl

theorem evt_ringDone : (d.ringDone k h0 r cnt cores).evt = d.evt := by rw [ringDone_eq]

theorem dict_ringDone : (d.ringDone k h0 r cnt cores).dict = d.dict := by rw [ringDone_eq]

end

@[simp] theorem clu_raise (d : Device) (c ua ui a b k : Nat) : (d.raise c ua ui a b).clu k = d.clu k := by
  simp [Device.clu]

@[simp] theorem clu_addNum (d : Device) (i s n v k : Nat) : (d.addNum i s n v).clu k = d.clu k := by
  simp [Device.clu]

/-- An event that comes after others of other codes. -/
theorem raised_after {d x : Device} {c : Nat} (ua ui a b : Nat) (hc : c ≠ 0x2207)
    (h : Map.get 0 x.evt.raised c = Map.get 0 d.evt.raised c) : Raised c d (x.raise c ua ui a b) := by
  rw [Raised, ← h]
  exact x.raise_raised ua ui a b hc

/-! ### What the engines refuse is a matter of memory and of lines -/

/-- Memory, the lines of cluster `k` and the size of its scale table are the same. -/
structure SameLines (k : Nat) (d e : Device) : Prop where
  mem : e.mem = d.mem
  line : e.line k = d.line k
  limit : e.num 0x7050 2 (k + 1) = d.num 0x7050 2 (k + 1)

theorem Missed.sameLines {d e : Device} (h : Missed d e) {k : Nat} (hk : k < 96) : SameLines k d e :=
  ⟨h.mem, funext fun t => h.line hk t, h.num 0x7050 (by simp) 2 (by decide) _ (by omega)⟩

theorem SameLines.modClu {k : Nat} {d e : Device} (h : SameLines k d e) (j : Nat) (f : ClusS → ClusS) :
    SameLines k d (e.modClu j f) :=
  ⟨h.mem, funext fun t => (line_of_eq (d := e) (e := e.modClu j f) rfl rfl k t).trans (congrFun h.line t), (num_of_dict_eq (Device.modClu_dict ..) ..).trans h.limit⟩

section
variable {k : Nat} {d e : Device} (h : SameLines k d e)
include h

theorem cvtOutBits_of_same (c : CvtDesc) : e.cvtOutBits k c = d.cvtOutBits k c := funext fun t => by
  simp only [Device.cvtOutBits, Device.cvtWidth, load_of_mem_eq h.mem]

theorem cvtInHdr_of_same : e.cvtInHdr k = d.cvtInHdr k := funext fun a => funext fun t => by
  simp only [Device.cvtInHdr, bytes_of_mem_eq h.mem]

theorem cvtInBits_of_same : e.cvtInBits k = d.cvtInBits k := funext fun a => funext fun t => by
  simp only [Device.cvtInBits, cvtInHdr_of_same h]

theorem cvtBad_of_same (seq : Nat) (b : List Byte) : e.cvtBad k seq b = d.cvtBad k seq b := by
  simp only [Device.cvtBad, Device.cvtReachBad, Device.cvtOut, Device.cvtInOk, Device.cvtIn, cvtOutBits_of_same h,
    cvtInBits_of_same h, cvtInHdr_of_same h, h.line]

theorem redBad_of_same (seq : Nat) (b : List Byte) : e.redBad k seq b = d.redBad k seq b := by
  have hh : e.redHdr k = d.redHdr k := funext fun a => by simp only [Device.redHdr, bytes_of_mem_eq h.mem]
  have hu : e.unpublished k = d.unpublished k := funext fun t => by simp only [Device.unpublished, h.line, h.limit]
  simp only [Device.redBad, Device.redReachBad, Device.redOutTiles, Device.redElems, Device.redHdrBad, Device.redTileBad, h.line,
    hh, hu, bytes_of_mem_eq h.mem]

theorem ltbBad_of_same (seq : Nat) (b : List Byte) : ltbBad e k seq b = ltbBad d k seq b := by
  simp only [ltbBad, ltbCopyBad, bytes_of_mem_eq h.mem]

end

/-! ### Descriptors taken or refused -/

/-- A descriptor is refused: the event, and DONE of its ring. -/
theorem refused_spec {d e x : Device} (hm : Missed d e) (hx : x.mem = e.mem) (hev : x.evt = e.evt) {k h0 r cnt cores code : Nat}
    (ua ui a b : Nat) (h1 : code ≠ 0x4008) (h2 : code ≠ 0x2207) :
    Raised code d ((x.ringDone k h0 r cnt cores).raise code ua ui a b) ∧
    ((x.ringDone k h0 r cnt cores).raise code ua ui a b).load (Device.storeAddr k (h0 + 64 * r + 0x24)) 4 =
      (d.load (Device.storeAddr k (h0 + 64 * r + 0x24)) 4 + 1) % 2 ^ 32 := by
  refine ⟨raised_after _ _ _ _ h2 ?_, ?_⟩
  · rw [evt_ringDone, hev, hm.raised _ h1 h2]
  · rw [load_of_mem_eq (Device.raise_mem ..), load_ringDone, load_of_mem_eq (hx.trans hm.mem)]

/-- A descriptor that an engine refuses, with the event `ev`, or takes: `next` and `set` change the engine's state. -/
def ringOutcome (e : Device) (k h0 r cnt cores : Nat) (ev : Device → Device) (bad : Bool) (next set : ClusS → ClusS) : Device :=
  let x := e.modClu k next
  if bad then ev (x.ringDone k h0 r cnt cores) else x.modClu k set

theorem ringOutcome_spec {d e : Device} (hm : Missed d e) {k h0 r cnt cores code : Nat} (ua ui a b : Nat) (h1 : code ≠ 0x4008)
    (h2 : code ≠ 0x2207) (bad : Bool) {held : ClusS → Option Job} {next set : ClusS → ClusS} {j : Job}
    (hnone : held (next (e.clu k)) = none) (hset : ∀ c, held (set c) = some j) :
    let y := ringOutcome e k h0 r cnt cores (fun d => d.raise code ua ui a b) bad next set
    if bad then Raised code d y ∧ held (y.clu k) = none ∧ y.load (Device.storeAddr k (h0 + 64 * r + 0x24)) 4 =
        (d.load (Device.storeAddr k (h0 + 64 * r + 0x24)) 4 + 1) % 2 ^ 32
      else held (y.clu k) = some j ∧ y.mem = d.mem := by
  cases bad with
  | true =>
    obtain ⟨hraised, hload⟩ := refused_spec (x := e.modClu k next) (k := k) (h0 := h0) (r := r) (cnt := cnt) (cores := cores)
      hm rfl rfl ua ui a b h1 h2
    refine ⟨hraised, ?_, hload⟩
    simp only [ringOutcome, if_true]
    rw [clu_raise, clu_ringDone, Device.clu_modClu_same, hnone]
  | false => exact ⟨(congrArg held (Device.clu_modClu_same ..)).trans (hset _), hm.mem⟩

theorem completes_runHits {c : Hits → Instr} {s : State} {f : Device → Device} {X : Device} {P : Device → Prop}
    (he : ∀ (l : Hits) (u : State), exec (c l) u = u.runHits l f) (hf : f s.dev = X) (hP : P X) : Completes (c []) s P :=
  ⟨_, he [] s, rfl, by
    have hx : f (s.dev.sramHits []) = X := hf
    simpa only [hx] using hP⟩

/-- R212: the default table at the destination of a refused builder descriptor, where it lies in the store. -/
def ltbFallback (e : Device) (k : Nat) (t : LtbDesc) : Device :=
  if offOk t.dst 16 then (e.put (Device.storeAddr k t.dst) (tableRecord defaultTable)).addNum 0x7050 10 (k + 1) 1 else e

theorem length_tableRecord (ts : List Nat) : (tableRecord ts).length = 2 * ts.length := length_flatMap_leBytes 2 ts

theorem ltbFallback_spec (e : Device) (k : Nat) (t : LtbDesc) : (ltbFallback e k t).evt = e.evt ∧ (ltbFallback e k t).clus = e.clus ∧
    (∀ a, a + 4 ≤ Device.storeAddr k t.dst ∨ Device.storeAddr k t.dst + 16 ≤ a → (ltbFallback e k t).load a 4 = e.load a 4) ∧
    (t.dst + 16 ≤ 0x1000000 → (ltbFallback e k t).bytes (Device.storeAddr k t.dst) 16 = tableRecord defaultTable) := by
  have hlen : (tableRecord defaultTable).length = 16 := length_tableRecord defaultTable
  unfold ltbFallback
  split
  · refine ⟨by simp, by simp, fun a ha => ?_, fun _ => ?_⟩
    · rw [load_of_mem_eq (Device.addNum_mem ..), load_put_ne _ (by rwa [hlen])]
    · rw [bytes_of_mem_eq (Device.addNum_mem ..), ← hlen, bytes_put_same]
  · rename_i h
    exact ⟨rfl, rfl, fun _ _ => rfl, fun h' => absurd (by simpa [offOk] using h') h⟩

/-- Settles O30: the ring that is next gives the descriptor; the engine's rules refuse it or not. -/
theorem ringsTakeDescriptors : Obligations.RingsTakeDescriptors := by
  intro s k r takes
  have hk : k.val < 96 := k.isLt
  refine ⟨?_, ?_, ?_⟩
  · intro h0 j h0n hc hr
    obtain ⟨e, htake, hm⟩ := ringTake_next (h0 := s.dev.num 0x7050 3 (k + 1)) (port := 20) (size := 128) hk hr
    have hguard : (decide (s.dev.num 0x7050 3 (k + 1) = 0xFFFFFFFF) || (s.dev.clu k).cvt.isSome) = false := by
      rw [hc]
      simpa using h0n
    let next (c : ClusS) : ClusS := { c with cvtNext := (r + 1) % 4 }
    have hsame : SameLines k s.dev (e.modClu k next) := (hm.sameLines hk).modClu _ _
    refine completes_runHits (c := .converterTake k) (fun _ _ => by unfold exec; exact rfl) ?_ (ringOutcome_spec hm (h0 := h0) (r := r) (cnt := fieldB j.desc 9 1)
      (cores := fieldB j.desc 0xA 2) 0x7050 (k + 1) (Device.storeAddr k j.off) (fieldB j.desc 0 4) (by decide) (by decide)
      (s.dev.cvtBad k (s.dev.ringSeq k h0 r) j.desc) (held := ClusS.cvt) (next := next)
      (set := fun c => { c with cvt := some j }) ((congrArg ClusS.cvt (hm.clu k)).trans hc) (fun _ => rfl))
    rw [← cvtBad_of_same hsame, ← ringSeq_of_mem_eq hsame.mem]
    simp only [hguard, Bool.false_eq_true, if_false, htake]
    rfl
  · intro h0 j h0n hc hr
    obtain ⟨e, htake, hm⟩ := ringTake_next (h0 := s.dev.num 0x7050 7 (k + 1)) (port := 22) (size := 128) hk hr
    have hguard : (decide (s.dev.num 0x7050 7 (k + 1) = 0xFFFFFFFF) || (s.dev.clu k).red.isSome) = false := by
      rw [hc]
      simpa using h0n
    let next (c : ClusS) : ClusS := { c with redNext := (r + 1) % 4 }
    have hsame : SameLines k s.dev (e.modClu k next) := (hm.sameLines hk).modClu _ _
    refine completes_runHits (c := .reductionTake k) (fun _ _ => by unfold exec; exact rfl) ?_ (ringOutcome_spec hm (h0 := h0) (r := r) (cnt := fieldB j.desc 8 1)
      (cores := fieldB j.desc 0xA 2) 0x7050 (k + 1) (Device.storeAddr k j.off) (fieldB j.desc 0 4) (by decide) (by decide)
      (s.dev.redBad k (s.dev.ringSeq k h0 r) j.desc) (held := ClusS.red) (next := next)
      (set := fun c => { c with red := some j }) ((congrArg ClusS.red (hm.clu k)).trans hc) (fun _ => rfl))
    rw [← redBad_of_same hsame, ← ringSeq_of_mem_eq hsame.mem]
    simp only [hguard, Bool.false_eq_true, if_false, htake]
    rfl
  · intro h0 j t ta da h0n hc hr
    obtain ⟨e, htake, hm⟩ := ringTake_next (h0 := s.dev.num 0x7050 9 (k + 1)) (port := 24) (size := 32) hk hr
    have hguard : (decide (s.dev.num 0x7050 9 (k + 1) = 0xFFFFFFFF) || (s.dev.clu k).ltb.isSome) = false := by
      rw [hc]
      simpa using h0n
    have hsame : SameLines k s.dev e := hm.sameLines hk
    have hltb : (e.clu k).ltb = none := (congrArg ClusS.ltb (hm.clu k)).trans hc
    refine ⟨fun hbad => ?_, fun hbad hdisj => ?_⟩
    · refine completes_runHits (c := .tableRingTake k) (X := e.modClu k (fun c => { c with ltb := some j })) (fun _ _ => by unfold exec; exact rfl) ?_ ?_
      · rw [← ltbBad_of_same hsame, ← ringSeq_of_mem_eq hm.mem] at hbad
        simp only [hguard, Bool.false_eq_true, if_false, htake]
        exact if_neg (by simpa using hbad)
      · exact ⟨congrArg ClusS.ltb (Device.clu_modClu_same ..), hm.mem⟩
    · obtain ⟨hevt, hclus, hload, hbytes⟩ := ltbFallback_spec e k t
      refine completes_runHits (c := .tableRingTake k) (X := ((ltbFallback e k t).ringDone k h0 r t.cnt t.cores).raise 0x2115 0x7050
        (k + 1) (Device.storeAddr k j.off) t.seq) (fun _ _ => by unfold exec; exact rfl) ?_ ⟨?_, ?_, ?_, fun h => ?_⟩
      · rw [← ltbBad_of_same hsame, ← ringSeq_of_mem_eq hm.mem] at hbad
        simp only [hguard, Bool.false_eq_true, if_false, htake]
        exact if_pos hbad
      · exact raised_after _ _ _ _ (by decide) (by rw [evt_ringDone, hevt, hm.raised _ (by decide) (by decide)])
      · rw [clu_raise, clu_ringDone, Device.clu, hclus]
        exact hltb
      · rw [load_of_mem_eq (Device.raise_mem ..), load_ringDone, hload _ hdisj, load_of_mem_eq hm.mem]
      · rw [bytes_of_mem_eq (Device.raise_mem ..), bytes_of_mem_eq (mem_ringDone ..), bytes_store_ne _ (by omega)]
        exact hbytes h

end Sys2Proof.Machine

/-! PROOFS. Mask jobs of the random-bit bank (R233, R234, R237). -/

namespace Sys2Proof.Machine

/-- A single ring with a descriptor that is accessed: nothing happens on the way. -/
theorem ringTake_single {d : Device} {k h0 size port : Nat} (hr : d.ringNext k h0 1 0 = some 0)
    (ha : accessOk (d.ringJob k h0 0 size).off size = true) :
    d.ringTake k h0 1 0 size port = (d, some (0, d.ringJob k h0 0 size)) := by
  have hhas : ringHas d k h0 0 = true := List.find?_some hr
  have hacc : accessOk (h0 + 64 * 0) 64 = true := (Bool.and_eq_true _ _ ▸ hhas).1
  have hpub := (Bool.and_eq_true _ _ ▸ hhas).2
  have hlook : d.ringLook k h0 1 0 port = (d, some 0) := by
    have hstep : d.ringLook k h0 1 0 port = ringStep d k h0 port (d, none) 0 := rfl
    rw [hstep, ringStep]
    simp only [Option.isSome_none, Bool.false_eq_true, if_false, hacc, if_true, hpub]
  simp only [Device.ringTake, hlook, ha, if_true]

theorem descCrcOk_of_maskLegal {d : Device} {k seq : Nat} {b : List Byte} (h : maskBad d k seq b = false) :
    descCrcOk b 64 = true := by
  simp only [maskBad, Bool.or_eq_false_iff, Bool.not_eq_false'] at h
  tauto

/-- A descriptor that is not accessed reads as zeros, whose CRC does not hold. -/
theorem access_of_crcOk {d : Device} {k h0 r : Nat} (h : descCrcOk (d.ringJob k h0 r 64).desc 64 = true) :
    accessOk (d.ringJob k h0 r 64).off 64 = true := by
  by_contra hacc
  have hzero : (d.ringJob k h0 r 64).desc = List.replicate 64 0 := if_neg hacc
  have hcrc : descCrcOk (List.replicate 64 0) 64 = false := by decide +kernel
  rw [hzero, hcrc] at h
  cases h

theorem maskBad_of_missed {d e : Device} (hm : Missed d e) (k seq : Nat) (b : List Byte) : maskBad e k seq b = maskBad d k seq b := by
  have hs : e.stream k = d.stream k := funext fun h => by simp only [Device.stream, Device.domOf, hm.dom]
  simp only [maskBad, hs]

/-- Settles O32: a job is carried out, refused or completed. -/
theorem maskJobs : Obligations.MaskJobs := by
  intro s k h0 da jn c
  have hk : k.val < 96 := k.isLt
  refine ⟨fun h0n hc hr => ⟨fun hbad hready => ?_, fun hbad => ?_⟩, fun j hj hring => ?_⟩
  · have htake := ringTake_single (h0 := s.dev.num 0x7060 5 (k + 1)) (port := 24) hr (access_of_crcOk (descCrcOk_of_maskLegal hbad))
    have hguard : (decide (s.dev.num 0x7060 5 (k + 1) = 0xFFFFFFFF) || (s.dev.clu k).mjob.isSome) = false := by
      rw [hc]
      simpa using h0n
    refine completes_runHits (c := .maskJob k) (X := (maskRun s.dev k c).modClu k
      (fun x => { x with mjob := some { jn with worked := true } })) (fun _ _ => by unfold exec; exact rfl) ?_ ⟨?_, rfl⟩
    · simp only [hguard, Bool.false_eq_true, if_false, htake]
      refine (if_neg (by simpa using hbad)).trans (if_neg ?_)
      simpa using hready
    · rw [Device.clu_modClu_same]
  · obtain ⟨e, htake, hm⟩ := ringTake_next (h0 := s.dev.num 0x7060 5 (k + 1)) (port := 24) (size := 64) hk hr
    have hguard : (decide (s.dev.num 0x7060 5 (k + 1) = 0xFFFFFFFF) || (s.dev.clu k).mjob.isSome) = false := by
      rw [hc]
      simpa using h0n
    refine completes_runHits (c := .maskJob k) (X := (e.ringDone k h0 0 c.cnt c.cores).raise 0x2113 0x7060 (k + 1)
      (Device.storeAddr k jn.off) c.handle.toNat) (fun _ _ => by unfold exec; exact rfl) ?_ ⟨?_, ?_, ?_⟩
    · rw [← maskBad_of_missed hm, ← ringSeq_of_mem_eq hm.mem] at hbad
      simp only [hguard, Bool.false_eq_true, if_false, htake]
      exact if_pos hbad
    · rw [clu_raise, clu_ringDone, hm.clu]
      exact hc
    · exact raised_after _ _ _ _ (by decide) (by rw [evt_ringDone, hm.raised _ (by decide) (by decide)])
    · have hdone := storesBytes_ringDone e k h0 0 c.cnt c.cores
      rw [load_of_mem_eq hm.mem] at hdone
      exact hdone.of_mem_eq hm.mem.symm (Device.raise_mem ..)
  · have hx : (s.dev.clu k).mjob = some j := hj
    refine ⟨_, rfl, rfl, ?_⟩
    simp only [hx, hring]
    refine ⟨congrArg ClusS.mjob (Device.clu_modClu_same ..), (storesBytes_ringDone s.dev k h0 0 _ _).of_mem_eq rfl rfl, ?_⟩
    rw [ringDone_eq]
    rfl

end Sys2Proof.Machine

/-! PROOFS. Taken descriptors are carried out and completed (R185, R189, R197, R199, R200, R208, R211). -/

namespace Sys2Proof.Machine

/-! ### Carried out -/

section
variable {d : Device} {k : Nat} {j : Job}

/-- The line a conversion works with: its own where it is published. -/
def cvtLine (l : Line) : Line := if l.ok then l else { s := 0x3F80, q := 0x3F80 }

theorem cvtRun_ready {op nx ny : Nat} (hj : (d.clu k).cvt = some j) (hw : j.worked = false) (hop : (parseCvt j.desc).op = op)
    (hnx : (d.cvtIn k (parseCvt j.desc) (parseCvt j.desc).xh).flatten.length = nx)
    (hny : (if (parseCvt j.desc).op = 0 then 0 else (d.cvtIn k (parseCvt j.desc) (parseCvt j.desc).yh).flatten.length) = ny)
    (hl : d.lineWaits k (parseCvt j.desc).ztsid (d.line k (parseCvt j.desc).ztsid) = false ∨ j.late = true)
    (hx : d.inputWaits k (parseCvt j.desc).xh nx = false) (hy : d.inputWaits k (parseCvt j.desc).yh ny = false)
    (hsr : rmodeOf (parseCvt j.desc).rmode = .sr → noStream (parseCvt j.desc).rstream = true ∨
      d.bitsReady k cvtUnit (parseCvt j.desc).rstream (d.force 0x1901 1) (fun _ => true) = true)
    (hrot : (parseCvt j.desc).rot ≠ 0 → noStream (parseCvt j.desc).sstream = true ∨
      d.ctxReady k rotUnit (parseCvt j.desc).sstream = true)
    (hr : d.firstReads k Device.cvtReads (tileOffs (parseCvt j.desc).x (parseCvt j.desc).xh nx ++
      tileOffs (parseCvt j.desc).y (parseCvt j.desc).yh ny) = none) :
    (∃ n, ((cvtRun d k op).clu k).cvt = some { j with worked := true, falls := n }) ∧
      (cvtRun d k op).mem = (d.convert k (parseCvt j.desc) (cvtLine (d.line k (parseCvt j.desc).ztsid))).mem := by
  have h1 : (j.worked || decide ((parseCvt j.desc).op ≠ op)) = false := by simp [hw, hop]
  have h2 : (d.lineWaits k (parseCvt j.desc).ztsid (d.line k (parseCvt j.desc).ztsid) && !j.late) = false := by
    rcases hl with h | h <;> simp [h]
  have h3 : (d.inputWaits k (parseCvt j.desc).xh nx || d.inputWaits k (parseCvt j.desc).yh ny) = false := by simp [hx, hy]
  have h4 : (rmodeOf (parseCvt j.desc).rmode == .sr && !noStream (parseCvt j.desc).rstream &&
      !d.bitsReady k cvtUnit (parseCvt j.desc).rstream (d.force 0x1901 1) (fun _ => true)) = false := by
    by_cases h : rmodeOf (parseCvt j.desc).rmode = .sr
    · rcases hsr h with h' | h' <;> simp [h']
    · simp [h]
  have h5 : ((parseCvt j.desc).rot != 0 && !noStream (parseCvt j.desc).sstream &&
      !d.ctxReady k rotUnit (parseCvt j.desc).sstream) = false := by
    by_cases h : (parseCvt j.desc).rot = 0
    · simp [h]
    · rcases hrot h with h' | h' <;> simp [h']
  have hrun : ∃ n, cvtRun d k op = ((d.convert k (parseCvt j.desc) (cvtLine (d.line k (parseCvt j.desc).ztsid))).endReads k
      (tileOffs (parseCvt j.desc).x (parseCvt j.desc).xh nx ++ tileOffs (parseCvt j.desc).y (parseCvt j.desc).yh ny)).modClu k
        (fun x => { x with cvt := some { j with worked := true, falls := n } }) := by
    simp only [cvtRun, hj, hnx, hny, h1, h2, h3, h4, h5, hr, Bool.false_eq_true, if_false]
    exact ⟨_, rfl⟩
  obtain ⟨n, hn⟩ := hrun
  rw [hn]
  exact ⟨⟨n, congrArg ClusS.cvt (Device.clu_modClu_same ..)⟩, rfl⟩

theorem redRun_ready {op : Nat} {f : Device → RedDesc → Device} (hj : (d.clu k).red = some j) (hw : j.worked = false)
    (hop : (parseRed j.desc).op = op)
    (hx : ∀ i, i < (parseRed j.desc).nin → d.inputWaits k ((parseRed j.desc).xhs.getD i 0) (parseRed j.desc).tiles = false)
    (hr : d.firstReads k (fun h => redFmt h.fmt) ((List.range (parseRed j.desc).nin).flatMap (fun i =>
      tileOffs ((parseRed j.desc).xs.getD i 0) ((parseRed j.desc).xhs.getD i 0) (parseRed j.desc).tiles)) = none) :
    ((redRun d k op f).clu k).red = some { j with worked := true } ∧ (redRun d k op f).mem = (f d (parseRed j.desc)).mem := by
  have h1 : (j.worked || decide ((parseRed j.desc).op ≠ op) || (List.range (parseRed j.desc).nin).any (fun i =>
      d.inputWaits k ((parseRed j.desc).xhs.getD i 0) (parseRed j.desc).tiles)) = false := by
    simpa [hw, hop] using hx
  have hrun : redRun d k op f = ((f d (parseRed j.desc)).endReads k ((List.range (parseRed j.desc).nin).flatMap (fun i =>
      tileOffs ((parseRed j.desc).xs.getD i 0) ((parseRed j.desc).xhs.getD i 0) (parseRed j.desc).tiles))).modClu k
        (fun x => { x with red := some { j with worked := true } }) := by
    simp only [redRun, hj, h1, hr, Bool.false_eq_true, if_false]
  rw [hrun]
  exact ⟨congrArg ClusS.red (Device.clu_modClu_same ..), rfl⟩

end

theorem completes_runHits_of {c : Hits → Instr} {s : State} {f : Device → Device} {P : Device → Prop}
    (he : ∀ (l : Hits) (u : State), exec (c l) u = u.runHits l f) (hP : P (f s.dev)) : Completes (c []) s P :=
  completes_runHits he rfl hP

theorem completes_run_of {c : Instr} {s : State} {f : Device → Device} {P : Device → Prop}
    (he : ∀ u : State, exec c u = u.run f) (hP : P (f s.dev)) : Completes c s P := ⟨_, he s, rfl, hP⟩

/-! ### Completed -/

set_option maxRecDepth 3000 in
theorem numBits_cluster : numBits 0x7050 4 = 64 ∧ numBits 0x7050 8 = 64 := by with_unfolding_all decide

section
variable {d x : Device} {k h0 r cnt cores sub : Nat}

/-- A completed descriptor: DONE, its sync counter, and the engine's counter. -/
structure RingEnds (d : Device) (k h0 r cnt cores sub : Nat) (x : Device) : Prop where
  done : StoresBytes (Device.storeAddr k (h0 + 64 * r + 0x24)) 4
    ((d.load (Device.storeAddr k (h0 + 64 * r + 0x24)) 4 + 1) % 2 ^ 32) d x
  num : x.num 0x7050 sub (k + 1) = (d.num 0x7050 sub (k + 1) + 1) % 2 ^ 64
  counters : ∀ l n, l < 16 → n < 64 → (x.core (16 * k + l)).counter n =
    if bitOf cores l ∧ n = cnt % 64 ∧ n ≠ 0 then (d.core (16 * k + l)).counter n + 1 else (d.core (16 * k + l)).counter n

theorem ringEnds_addNum (d : Device) (k h0 r cnt cores : Nat) (hb : numBits 0x7050 sub = 64) :
    RingEnds d k h0 r cnt cores sub ((d.ringDone k h0 r cnt cores).addNum 0x7050 sub (k + 1) 1) where
  done := (storesBytes_ringDone d k h0 r cnt cores).of_mem_eq rfl (Device.addNum_mem ..)
  num := by rw [num_addNum_same, hb, num_of_dict_eq (dict_ringDone ..)]
  counters l n hl _ := by rw [Device.core_addNum, counter_ringDone _ _ _ _ _ _ _ hl]

theorem RingEnds.modClu (h : RingEnds d k h0 r cnt cores sub x) (j : Nat) (f : ClusS → ClusS) :
    RingEnds d k h0 r cnt cores sub (x.modClu j f) :=
  ⟨h.done.of_mem_eq rfl rfl, (num_of_dict_eq (Device.modClu_dict ..) _ _ _).trans h.num, h.counters⟩

theorem RingEnds.addNum (h : RingEnds d k h0 r cnt cores sub x) {s v : Nat}
    (hne : okey (homeIdx 0x7050) s (k + 1) ≠ okey (homeIdx 0x7050) sub (k + 1)) :
    RingEnds d k h0 r cnt cores sub (x.addNum 0x7050 s (k + 1) v) :=
  ⟨h.done.of_mem_eq rfl (Device.addNum_mem ..), (num_addNum_ne _ _ hne).trans h.num, fun l n hl hn => by
    rw [Device.core_addNum, h.counters l n hl hn]⟩

end

/-- A builder descriptor whose table is known: the record, DONE, and nothing else of memory. -/
theorem ltbRun_spec {d : Device} {k op : Nat} {j : Job} {table : Device → LtbDesc → List Nat} {ts : List Nat}
    (hj : (d.clu k).ltb = some j) (hop : (parseLtb j.desc).op = op) (ht : table d (parseLtb j.desc) = ts) (hl : ts.length = 8)
    {ta da : Nat} (hta : ta = Device.storeAddr k (parseLtb j.desc).dst)
    (hda : da = Device.storeAddr k (d.num 0x7050 9 (k + 1) + 64 * j.ring + 0x24)) (hdisj : da + 4 ≤ ta ∨ ta + 16 ≤ da) :
    let x := ltbRun d k op table
    (x.clu k).ltb = none ∧ x.bytes ta 16 = tableRecord ts ∧ x.load da 4 = (d.load da 4 + 1) % 2 ^ 32 ∧
      (∀ a, (a < ta ∨ ta + 16 ≤ a) → (a < da ∨ da + 4 ≤ a) → x.byteAt a = d.byteAt a) := by
  intro x
  let p := d.put ta (tableRecord ts)
  have hlen : (tableRecord ts).length = 16 := by rw [length_tableRecord, hl]
  have hh0 : p.num 0x7050 9 (k + 1) = d.num 0x7050 9 (k + 1) := num_put ..
  have hx : x = ((p.ringDone k (d.num 0x7050 9 (k + 1)) j.ring (parseLtb j.desc).cnt (parseLtb j.desc).cores).addNum 0x7050 10
      (k + 1) 1).modClu k (fun x => { x with ltb := none }) := by
    simp only [x, ltbRun, hj, hop, ht, ← hta]
    rw [if_neg (not_not.2 rfl)]
    simp only [p, num_put]
  have hmem : x.mem = (p.store da 4 ((d.load da 4 + 1) % 2 ^ 32)).mem := by
    have hload : p.load da 4 = d.load da 4 := load_put_ne d (by rwa [hlen])
    rw [hx, Device.modClu_mem, Device.addNum_mem, mem_ringDone, ← hda, hload]
  obtain ⟨hframe, -, hrec⟩ := reads_of_puts (d := d) (a := ta) (b := da) (as := tableRecord ts)
    (bs := leBytes 4 ((d.load da 4 + 1) % 2 ^ 32)) hmem
  rw [hlen, length_leBytes] at hframe
  rw [hlen, length_leBytes] at hrec
  refine ⟨?_, hrec hdisj, ?_, hframe⟩
  · rw [hx, Device.clu_modClu_same]
  · rw [load_of_mem_eq hmem, load_store_same]
    exact Nat.mod_mod _ _

/-- Settles O31: the work of a taken descriptor, and its completion. -/
theorem descriptorsRunAndComplete : Obligations.DescriptorsRunAndComplete := by
  refine ⟨?_, ?_⟩
  · intro s k j hw c l l' x nx ny ts conv red
    refine ⟨fun hj hl hx hy hsr hrot hr => ?_, fun hj hx hr => ?_⟩
    · refine ⟨fun hop => ?_, fun hop => ?_, fun hop => ?_⟩
      · exact completes_runHits_of (c := .cvt k) (fun _ _ => by unfold exec; exact rfl)
          (cvtRun_ready hj hw hop rfl rfl hl hx hy hsr hrot hr)
      · exact completes_runHits_of (c := .axpby k) (fun _ _ => by unfold exec; exact rfl)
          (cvtRun_ready hj hw hop rfl rfl hl hx hy hsr hrot hr)
      · exact completes_runHits_of (c := .axpbySq k) (fun _ _ => by unfold exec; exact rfl)
          (cvtRun_ready hj hw hop rfl rfl hl hx hy hsr hrot hr)
    · refine ⟨fun hop => ?_, fun hop => ?_, fun hop => ?_⟩
      · exact completes_runHits_of (c := .sum k) (fun _ _ => by unfold exec; exact rfl) (redRun_ready hj hw hop hx hr)
      · exact completes_runHits_of (c := .sumsq k) (fun _ _ => by unfold exec; exact rfl) (redRun_ready hj hw hop hx hr)
      · exact completes_runHits_of (c := .maxabs k) (fun _ _ => by unfold exec; exact rfl) (redRun_ready hj hw hop hx hr)
  · intro s k j doneAt ends c r t ta da builds
    have hk : k.val < 96 := k.isLt
    refine ⟨fun hj hw => ?_, fun hj hw => ?_, fun hj => ⟨fun hop hd hl => ?_, fun hop hd hl => ?_, fun hop hd hl => ?_⟩⟩
    · refine ⟨_, rfl, rfl, ?_⟩
      have hworked : (!j.worked) = false := by rw [hw]; rfl
      simp only [hj, hworked, Bool.false_eq_true, if_false]
      have he (v : Nat) := ((ringEnds_addNum s.dev k (s.dev.num 0x7050 3 (k + 1)) j.ring c.cnt c.cores numBits_cluster.1).addNum (s := 5)
        (okey_ne_sub (by decide) (by omega)) (v := v)).modClu k (fun x => { x with cvt := none })
      exact ⟨congrArg ClusS.cvt (Device.clu_modClu_same ..), (he _).done, (he _).num, (he _).counters⟩
    · refine ⟨_, rfl, rfl, ?_⟩
      have hworked : (!j.worked) = false := by rw [hw]; rfl
      simp only [hj, hworked, Bool.false_eq_true, if_false]
      have he := (ringEnds_addNum s.dev k (s.dev.num 0x7050 7 (k + 1)) j.ring r.cnt r.cores numBits_cluster.2).modClu k
        (fun x => { x with red := none })
      exact ⟨congrArg ClusS.red (Device.clu_modClu_same ..), he.done, he.num, he.counters⟩
    · have h := ltbRun_spec (table := fun _ _ => defaultTable) hj hop rfl hl rfl rfl hd
      exact completes_run_of (c := .ltbDefault k) (fun _ => by unfold exec; exact rfl) h
    · have hts : tableEntries (s.dev.bytes (Device.storeAddr k t.src) 16) =
          (List.range 8).map (fun i => s.dev.load (Device.storeAddr k t.src + 2 * i) 2 % 4096) :=
        List.map_congr_left fun i hi => by rw [fieldB_bytes _ (by have := List.mem_range.1 hi; omega)]
      have h := ltbRun_spec (table := fun d c => tableEntries (d.bytes (Device.storeAddr k c.src) 16)) hj hop hts hl rfl rfl hd
      exact completes_runHits_of (c := .ltbCopy k) (fun _ _ => by unfold exec; exact rfl) h
    · have h := ltbRun_spec (table := fun _ c => scaledTable c.c) hj hop rfl hl rfl rfl hd
      exact completes_runHits_of (c := .ltbScaled k) (fun _ _ => by unfold exec; exact rfl) h

end Sys2Proof.Machine

/-! PROOFS. The mask engine and the predictor (R261 to R266, R269 to R273). -/

namespace Sys2Proof.Machine

/-! ### What an engine of a cluster leaves alone while it works on tiles -/

/-- The sequencers and the objects of the mask engine and the predictor stay. -/
structure TileWork (d e : Device) : Prop where
  seqs : e.seqs = d.seqs
  num : ∀ s < 256, ∀ k < 65536, e.num 0x7070 s k = d.num 0x7070 s k

namespace TileWork

variable {d e f : Device}

theorem refl (d : Device) : TileWork d d := ⟨rfl, fun _ _ _ _ => rfl⟩

theorem trans (h : TileWork d e) (h' : TileWork e f) : TileWork d f :=
  ⟨h'.seqs.trans h.seqs, fun s hs k hk => (h'.num s hs k hk).trans (h.num s hs k hk)⟩

theorem ite {p : Prop} [Decidable p] (he : TileWork d e) (hf : TileWork d f) : TileWork d (if p then e else f) := by
  split
  · exact he
  · exact hf

theorem forN {g : Device → Nat → Device} (hg : ∀ d i, TileWork d (g d i)) (n : Nat) (d : Device) : TileWork d (forN n d g) :=
  foldl_rel refl (fun _ _ _ => trans) hg _ d

theorem put (d : Device) (a : Nat) (bs : List Byte) : TileWork d (d.put a bs) := ⟨rfl, fun _ _ _ _ => num_put ..⟩

theorem modClu (d : Device) (k : Nat) (g : ClusS → ClusS) : TileWork d (d.modClu k g) :=
  ⟨rfl, fun _ _ _ _ => num_of_dict_eq (Device.modClu_dict ..) _ _ _⟩

/-- A counter of another object. -/
theorem addNum (d : Device) {i s k v : Nat} (hi : homeIdx i ≠ homeIdx 0x7070) (hs : s < 256) (hk : k < 65536) :
    TileWork d (d.addNum i s k v) :=
  ⟨Device.addNum_seqs .., fun _ hs' _ hk' => num_addNum_ne _ _ (okey_ne_idx hi (by omega))⟩

theorem raise (d : Device) {c ua ui a b : Nat} (h : eventKeeps c 0x7070 = true) (hc : c / 4096 < 256) (hu : ui < 65536) :
    TileWork d (d.raise c ua ui a b) :=
  ⟨Device.raise_seqs .., fun _ _ _ _ => num_raise_of_keeps d h (by omega)⟩

theorem noteTaint (d : Device) (a : Nat) (b : Bool) : TileWork d (d.noteTaint a b) := by
  have hd : (d.noteTaint a b).dict = d.dict := by rw [noteTaint_eq]
  exact ⟨by rw [noteTaint_eq], fun _ _ _ _ => num_of_dict_eq hd _ _ _⟩

theorem taintedRead (d : Device) (h : Hdr) (a : Nat) : TileWork d (d.taintedRead h a) :=
  .ite (.addNum d (by decide) (by decide) (by decide)) (.refl d)

theorem engPut (d : Device) (k p h : Nat) (pl : List Byte) (hd : Hdr) : TileWork d (d.engPut k p h pl hd) :=
  ((put ..).trans (put ..)).trans (noteTaint ..)

theorem engTile (d : Device) {k : Nat} (hk : k < 96) (ok : Hdr → Bool) (p h ua : Nat) : TileWork d (d.engTile k ok p h ua).1 := by
  unfold Device.engTile
  split
  · exact taintedRead ..
  · exact (taintedRead ..).trans (.raise _ (by with_unfolding_all decide) (by decide) (by omega))
  · exact (taintedRead ..).trans (.raise _ (by with_unfolding_all decide) (by decide) (by omega))

theorem maskData (d : Device) {k : Nat} (hk : k < 96) (c : MaskJobDesc) (t : Nat) : TileWork d (d.maskData k c t).1 := by
  have h := engTile d hk (fun _ => true) (c.src + 4096 * t) (c.srch + 16 * t) 0x7070
  unfold Device.maskData
  split <;> rename_i heq <;> rw [heq] at h <;> exact h

/-- R266: the report of an illegal mask. -/
theorem report (d : Device) {k : Nat} (hk : k < 96) (c : MaskJobDesc) :
    TileWork d (if d.anyIllegal k c then d.maskIllegal k c.mask else d) :=
  .ite (.raise _ (by with_unfolding_all decide) (by decide) (by omega)) (.refl d)

theorem mcapt (d : Device) {k : Nat} (hk : k < 96) (c : MaskJobDesc) : TileWork d (d.mcapt k c) :=
  .forN (fun d t => (maskData d hk c t).trans (.forN (fun _ _ => put ..) _ _)) _ _

theorem mupd (d : Device) {k : Nat} (hk : k < 96) (c : MaskJobDesc) : TileWork d (d.mupd k c) := by
  refine (report d hk c).trans (.forN (fun d t => (maskData d hk c t).trans (.forN (fun d s => ?_) _ _)) _ _)
  exact (((((put ..).trans (.addNum _ (by decide) (by decide) (by decide))).trans
    (.addNum _ (by decide) (by decide) (by decide))).trans (.addNum _ (by decide) (by decide) (by decide))).trans
    (modClu ..)).trans (.addNum _ (by decide) (by decide) (by decide))

theorem mapply (d : Device) {k : Nat} (hk : k < 96) (c : MaskJobDesc) : TileWork d (d.mapply k c) :=
  .forN (fun d t => ((maskData d hk c t).trans (.addNum _ (by decide) (by decide) (by decide))).trans (engPut ..)) _ _

theorem cpack (d : Device) {k : Nat} (hk : k < 96) (c : MaskJobDesc) : TileWork d (d.cpack k c) := by
  refine (report d hk c).trans (.forN (fun d t => ?_) _ _)
  refine ((maskData d hk c t).trans (.addNum _ (by decide) (by decide) (by decide))).trans (.ite (engPut ..) ?_)
  exact (TileWork.ite (.addNum _ (by decide) (by decide) (by decide)) (.refl _)).trans (engPut ..)

theorem mcheck (d : Device) {k : Nat} (hk : k < 96) (c : MaskJobDesc) : TileWork d (d.mcheck k c) := report d hk c

end TileWork

/-! ### One operation of the mask engine -/

set_option maxRecDepth 3000 in
theorem numBits_maskEngine : numBits 0x7070 5 = 64 ∧ numBits 0x7070 2 = 64 := by with_unfolding_all decide

section
variable {c : Instr} {s : State} {k : Cluster} {rd a : Reg} {op : MaskOp} {f : Device → MaskJobDesc → Device}
  (hi : SqIssues s.dev (maskSq k)) (he : exec c s = s.run (fun d => (d.seqHits (maskSq k) []).maskOp k rd a op f))
include hi he

/-- The job that the instruction names. -/
def maskDesc (s : State) (k : Cluster) (a : Reg) : MaskJobDesc :=
  parseMaskJob (s.dev.bytes (Device.storeAddr k ((s.dev.sq (maskSq k)).reg a).toNat) 64)

theorem completes_maskOp_legal (hbad : s.dev.maskJobBad k ((s.dev.sq (maskSq k)).reg a).toNat op = false)
    (hr : s.dev.firstReads k (fun _ => true) (Device.maskTiles op (maskDesc s k a) (fmtBits
      (s.dev.maskHdr k (maskDesc s k a).srch).fmt (s.dev.maskHdr k (maskDesc s k a).srch).width)) = none)
    {out : Device} (hout : f s.dev (maskDesc s k a) = out) (hw : TileWork s.dev out) {mem : Map Byte} (hm : out.mem = mem) :
    Completes c s (fun d => (sqGoesOn (s.dev.sq (maskSq k)) (d.sq (maskSq k)) ∧
      ∀ r, (d.sq (maskSq k)).reg r = if r = rd ∧ rd.val ≠ 0 then 0 else (s.dev.sq (maskSq k)).reg r) ∧ d.mem = mem ∧
      d.num 0x7070 5 (k + 1) = (s.dev.num 0x7070 5 (k + 1) + 1) % 2 ^ 64) := by
  simp only [seqHits_nil] at he
  let ts := Device.maskTiles op (maskDesc s k a) (fmtBits (s.dev.maskHdr k (maskDesc s k a).srch).fmt
    (s.dev.maskHdr k (maskDesc s k a).srch).width)
  let e := (out.endReads k ts).addNum 0x7070 5 (k + 1) 1
  have hsq : e.sq (maskSq k) = s.dev.sq (maskSq k) :=
    congrArg (fun m => Map.get ({} : SqS) m (maskSq k)) ((Device.addNum_seqs ..).trans hw.seqs)
  refine completes_seqIssue_eq (f := _) (e := e.seqWrite (maskSq k) rd 0) hi he ?_ ⟨sq_seqWrite_regs hi.1 hsq rd 0, ?_, ?_⟩
  · refine (if_neg (by simpa using hbad)).trans ?_
    have hr' := hr
    simp only [maskDesc] at hr'
    simp only [hr']
    subst hout
    rfl
  · exact (Device.addNum_mem ..).trans hm
  · have hnum : e.num 0x7070 5 (k + 1) = (s.dev.num 0x7070 5 (k + 1) + 1) % 2 ^ 64 := by
      have hk : k.val < 96 := k.isLt
      simp only [e]
      rw [num_addNum_same, numBits_maskEngine.1, ← hw.num 5 (by decide) (k + 1) (by omega)]
      exact congrArg (fun x => (x + 1) % 2 ^ 64) (num_of_dict_eq (Device.modClu_dict ..) _ _ _)
    exact (num_of_dict_eq (by rfl) _ _ _).trans hnum

theorem completes_maskOp_refused (hbad : s.dev.maskJobBad k ((s.dev.sq (maskSq k)).reg a).toNat op = true) :
    Completes c s (fun d => (sqGoesOn (s.dev.sq (maskSq k)) (d.sq (maskSq k)) ∧
      ∀ r, (d.sq (maskSq k)).reg r = if r = rd ∧ rd.val ≠ 0 then 1 else (s.dev.sq (maskSq k)).reg r) ∧ d.mem = s.dev.mem ∧
      Raised 0x3004 s.dev d) := by
  simp only [seqHits_nil] at he
  refine completes_seqIssue_eq hi he (if_pos hbad) ⟨sq_seqWrite_regs hi.1 ?_ rd 1, ?_, ?_⟩
  · exact congrArg (fun m => Map.get ({} : SqS) m (maskSq k)) (Device.raise_seqs ..)
  · exact Device.raise_mem ..
  · exact (Device.raise_raised s.dev 0x7070 (k + 1) _ 0 (by decide)).of_evt_eq rfl rfl

end

/-! ### The predictor -/

namespace Aside

theorem taintedRead (d : Device) (h : Hdr) (a : Nat) : Aside d (d.taintedRead h a) := .ite (.addNum ..) (.refl d)

theorem engTile (d : Device) (k : Nat) (ok : Hdr → Bool) (p h ua : Nat) : Aside d (d.engTile k ok p h ua).1 := by
  unfold Device.engTile
  split
  · exact taintedRead ..
  · exact (taintedRead ..).trans (.raise ..)
  · exact (taintedRead ..).trans (.raise ..)

theorem predTile (d : Device) (k : Nat) (c : PredDesc) (t : Nat) : Aside d (d.predTile k c t).1 := by
  have h := engTile d k Device.predReads (c.x + 4096 * t) (c.xh + 16 * t) 0x7070
  unfold Device.predTile
  split <;> rename_i heq <;> rw [heq] at h <;> exact h

theorem forN_fst {α : Type} {f : Device × α → Nat → Device × α} (hf : ∀ x i, Aside x.1 (f x i).1) (n : Nat) (x : Device × α) :
    Aside x.1 (Sys2Proof.forN n x f).1 :=
  foldl_rel (R := fun x y => Aside x.1 y.1) (fun x => .refl x.1) (fun _ _ _ => .trans) hf _ x

theorem predScores (d : Device) (k : Nat) (c : PredDesc) (par : List Byte) : Aside d (d.predScores k c par).1 := by
  unfold Device.predScores
  refine forN_fst (fun x u => ?_) _ _
  refine forN_fst (fun a v => ?_) c.dt (x.1, ([] : List (List Int)))
  exact predTile ..

theorem predRefuse (d : Device) (k : Nat) (j : Job) (c : PredDesc) : Aside d (d.predRefuse k j c) := (raise ..).trans (modClu ..)

end Aside

/-- A descriptor of the predictor that is worked: its list, in whatever way its parameters came. -/
theorem predRun_spec {d : Device} {k : Nat} {j : Job} {c : PredDesc}
    (hr : d.firstReads k Device.predReads (Device.predTiles c) = none) :
    (d.predRun k j c).mem = d.mem ∧ ∃ l, ((d.predRun k j c).clu k).pred = some { j with worked := true, list := l } := by
  unfold Device.predRun
  dsimp only
  generalize ((d.clu k).predBuf == some (c.p1, c.p2, c.pcrc)) = reuse
  generalize (if reuse = true then (d.clu k).predMem
    else d.bytes (Device.storeAddr k c.p1) (p1Bytes c) ++ d.bytes (Device.storeAddr k c.p2) (p2Bytes c)) = par
  rw [hr]
  split
  · exact ⟨(Aside.predRefuse ..).mem, _, congrArg ClusS.pred (Device.clu_modClu_same ..)⟩
  · refine ⟨Aside.mem (.trans (.trans ?_ (.predScores ..)) (.trans (.ite (.refl _) ?_) (.modClu ..))), _,
      congrArg ClusS.pred (Device.clu_modClu_same ..)⟩
    · exact (Aside.modClu ..).trans ((Aside.modClu ..).trans (.ite (.refl _) (.addNum ..)))
    · exact ((Aside.raise ..).trans (.addNum ..)).trans (.modClu ..)

/-- A descriptor that is not accessed reads as zeros, whose CRC does not hold. -/
theorem access_of_crcOk_128 {d : Device} {k h0 r : Nat} (h : descCrcOk (d.ringJob k h0 r 128).desc 128 = true) :
    accessOk (d.ringJob k h0 r 128).off 128 = true := by
  by_contra hacc
  have hzero : (d.ringJob k h0 r 128).desc = List.replicate 128 0 := if_neg hacc
  have hcrc : descCrcOk (List.replicate 128 0) 128 = false := by decide +kernel
  rw [hzero, hcrc] at h
  cases h

theorem descCrcOk_of_predLegal {seq : Nat} {b : List Byte} (h : predBad seq b = false) : descCrcOk b 128 = true := by
  simp only [predBad, Bool.or_eq_false_iff, Bool.not_eq_false'] at h
  exact h.1.2

/-- The list of a worked descriptor stands at OUT before DONE rises. -/
theorem completes_predictorDone {s : State} {k : Cluster} {j : Job} (hj : (s.dev.clu k).pred = some j) {o da : Nat}
    (ho : o = Device.storeAddr k (parsePred j.desc).out) (hda : da = Device.storeAddr k (s.dev.num 0x7070 1 (k + 1) + 64 * j.ring + 0x24))
    (hfit : (parsePred j.desc).out + j.list.length ≤ 0x1000000) (hdisj : da + 4 ≤ o ∨ o + j.list.length ≤ da) :
    Completes (.predictorDone k []) s (fun d => (d.clu k).pred = none ∧ d.bytes o j.list.length = j.list ∧
      d.load da 4 = (s.dev.load da 4 + 1) % 2 ^ 32 ∧
      d.num 0x7070 2 (k + 1) = (s.dev.num 0x7070 2 (k + 1) + 1) % 2 ^ 64 ∧
      (∀ a, (a < o ∨ o + j.list.length ≤ a) → (a < da ∨ da + 4 ≤ a) → d.byteAt a = s.dev.byteAt a)) := by
  have hk : k.val < 96 := k.isLt
  let p := s.dev.put o j.list
  let e := p.ringDone k (s.dev.num 0x7070 1 (k + 1)) j.ring (parsePred j.desc).cnt (parsePred j.desc).cores
  let x := ((e.addNum 0x7070 2 (k + 1) 1).addNum 0x7070 3 (k + 1) (fieldB j.list 4 2)).addNum 0x7070 4 (k + 1)
    (predCycles (parsePred j.desc))
  have hmem : x.mem = (p.store da 4 ((s.dev.load da 4 + 1) % 2 ^ 32)).mem := by
    have hload : p.load da 4 = s.dev.load da 4 := load_put_ne s.dev hdisj
    simp only [x, e]
    rw [Device.addNum_mem, Device.addNum_mem, Device.addNum_mem, mem_ringDone, ← hda, hload]
  have hnum : x.num 0x7070 2 (k + 1) = (s.dev.num 0x7070 2 (k + 1) + 1) % 2 ^ 64 := by
    simp only [x, e, p]
    rw [num_addNum_ne _ _ (okey_ne_sub (by decide) (by omega)), num_addNum_ne _ _ (okey_ne_sub (by decide) (by omega)), num_addNum_same,
      numBits_maskEngine.2, num_of_dict_eq (dict_ringDone ..), num_put]
  refine completes_runHits (c := .predictorDone k) (X := x.modClu k (fun x => { x with pred := none }))
    (fun _ _ => by unfold exec; exact rfl) ?_ ⟨?_, ?_⟩
  · have hok : offOk (parsePred j.desc).out j.list.length = true := by simpa [offOk] using hfit
    simp only [hj, hok, if_true, num_put, ← ho]
    rfl
  · rw [Device.clu_modClu_same]
  · obtain ⟨hframe, -, hrec⟩ := reads_of_puts (d := s.dev) (a := o) (b := da) (as := j.list)
      (bs := leBytes 4 ((s.dev.load da 4 + 1) % 2 ^ 32)) hmem
    rw [length_leBytes] at hframe hrec
    refine ⟨(bytes_of_mem_eq (Device.modClu_mem ..) _ _).trans (hrec hdisj), ?_, (num_of_dict_eq (Device.modClu_dict ..) _ _ _).trans hnum, hframe⟩
    have hload := load_store_same p da 4 ((s.dev.load da 4 + 1) % 2 ^ 32)
    rw [← load_of_mem_eq hmem] at hload
    exact hload.trans (Nat.mod_mod _ _)

/-- Settles O34: the mask engine's operations by the shared lemma of a legal and of an illegal job. -/
theorem maskEngineAndPredictor : Obligations.MaskEngineAndPredictor := by
  refine ⟨?_, ?_⟩
  · intro s k rd a hi q x off c gives h runs
    have hk : k.val < 96 := k.isLt
    refine ⟨⟨fun hb hr => ?_, fun hb => ?_⟩, ⟨fun hb hr => ?_, fun hb => ?_⟩, ⟨fun hb hr => ?_, fun hb => ?_⟩,
      ⟨fun hb hr => ?_, fun hb => ?_⟩, ⟨fun hb hr => ?_, fun hb => ?_⟩⟩
    · exact completes_maskOp_legal hi (by unfold exec; exact rfl) hb hr rfl (.mcapt _ hk _) rfl
    · exact completes_maskOp_refused (f := Device.mcapt (k := k)) hi (by unfold exec; exact rfl) hb
    · exact completes_maskOp_legal hi (by unfold exec; exact rfl) hb hr rfl (.mupd _ hk _) rfl
    · exact completes_maskOp_refused hi (by unfold exec; exact rfl) hb
    · exact completes_maskOp_legal hi (by unfold exec; exact rfl) hb hr rfl (.mapply _ hk _) rfl
    · exact completes_maskOp_refused hi (by unfold exec; exact rfl) hb
    · exact completes_maskOp_legal hi (by unfold exec; exact rfl) hb hr rfl (.cpack _ hk _) rfl
    · exact completes_maskOp_refused hi (by unfold exec; exact rfl) hb
    · exact completes_maskOp_legal hi (by unfold exec; exact rfl) hb hr rfl (.mcheck _ hk _)
        (Aside.mem (.ite (.raise ..) (.refl _)))
    · exact completes_maskOp_refused hi (by unfold exec; exact rfl) hb
  · intro s k j h0 jn c bad o da
    have hk : k.val < 96 := k.isLt
    refine ⟨fun h0n hc hr => ⟨fun hbad => ?_, fun hbad hready => ?_⟩, fun hj hfit hdisj => completes_predictorDone hj rfl rfl hfit hdisj⟩
    · obtain ⟨e, htake, hm⟩ := ringTake_next (h0 := s.dev.num 0x7070 1 (k + 1)) (port := 23) (size := 128) hk hr
      have hguard : (decide (s.dev.num 0x7070 1 (k + 1) = 0xFFFFFFFF) || (s.dev.clu k).pred.isSome) = false := by
        rw [hc]
        simpa using h0n
      refine completes_runHits (c := .predictorTake k) (X := e.predRefuse k jn c) (fun _ _ => by unfold exec; exact rfl) ?_
        ⟨?_, (Aside.predRefuse ..).mem.trans hm.mem, congrArg ClusS.pred (Device.clu_modClu_same ..)⟩
      · simp only [bad, h0, ← ringSeq_of_mem_eq hm.mem] at hbad
        simp only [hguard, Bool.false_eq_true, if_false, htake]
        exact if_pos hbad
      · exact (raised_after _ _ _ _ (by decide) (hm.raised _ (by decide) (by decide))).of_evt_eq rfl rfl
    · have htake := ringTake_single (h0 := s.dev.num 0x7070 1 (k + 1)) (port := 23) hr
        (access_of_crcOk_128 (descCrcOk_of_predLegal hbad))
      have hguard : (decide (s.dev.num 0x7070 1 (k + 1) = 0xFFFFFFFF) || (s.dev.clu k).pred.isSome) = false := by
        rw [hc]
        simpa using h0n
      refine completes_runHits (c := .predictorTake k) (X := s.dev.predRun k jn c) (fun _ _ => by unfold exec; exact rfl) ?_
        (predRun_spec hready)
      simp only [hguard, Bool.false_eq_true, if_false, htake]
      exact if_neg (by simpa using hbad)

end Sys2Proof.Machine

/-! PROOFS. The cluster monitors and the device monitor (R306, R309, R315 to R323). -/

namespace Sys2Proof.Machine

/-! ### What events leave of the health record -/

@[simp] theorem health_countEvent (d : Device) (c ui : Nat) : (d.countEvent c ui).health = d.health :=
  foldl_rel (R := fun d e : Device => e.health = d.health) (fun _ => rfl) (fun _ _ _ h h' => h'.trans h)
    (fun _ _ => Device.addNum_health ..) _ d

@[simp] theorem health_logRec (d : Device) (r : EvRec) : (d.logRec r).health = d.health := by
  simp [Device.logRec, apply_ite Device.health]

@[simp] theorem health_raiseRaw (d : Device) (c ua ui a b : Nat) : (d.raiseRaw c ua ui a b).health = d.health := by
  simp [Device.raiseRaw, Device.noteFatal, apply_ite Device.health]

theorem raise_of_clean (d : Device) {c : Nat} (h : (evRow c).taint = false) (ua ui a b : Nat) :
    d.raise c ua ui a b = (d.countEvent c ui).raiseRaw c ua ui a b := by
  simp [Device.raise, h]

/-- An event that does not taint leaves the health record. -/
theorem health_raise_of_clean (d : Device) {c : Nat} (h : (evRow c).taint = false) (ua ui a b : Nat) :
    (d.raise c ua ui a b).health = d.health := by
  rw [raise_of_clean d h, health_raiseRaw, health_countEvent]

/-- The detectors stay, whatever is raised. -/
theorem det_raise (d : Device) (c ua ui a b : Nat) :
    (d.raise c ua ui a b).health.det0 = d.health.det0 ∧ (d.raise c ua ui a b).health.det1 = d.health.det1 := by
  have ht (e : Device) : (e.taint c).health.det0 = e.health.det0 ∧ (e.taint c).health.det1 = e.health.det1 := by
    unfold Device.taint
    split
    · exact ⟨rfl, rfl⟩
    · simp
  simp only [Device.raise]
  split
  · simpa using ht ((d.countEvent c ui).raiseRaw c ua ui a b)
  · simp

theorem evRow_2205 : (evRow 0x2205).taint = false := by with_unfolding_all rfl

@[simp] theorem sq_raise (d : Device) (c ua ui a b q : Nat) : (d.raise c ua ui a b).sq q = d.sq q := by
  simp [Device.sq]

/-! ### The cluster monitor -/

theorem length_summaryBytes (d : Device) (k : Nat) : (summaryBytes d k).length = 256 := by
  have hcnt : ((List.range 28).flatMap (fun i => leBytes 4 (Map.get 0 (d.clu k).cnt i))).length = 112 := by
    simp [List.length_flatMap, length_leBytes]
  simp only [summaryBytes, List.length_append, length_leBytes, hcnt]

namespace Aside

theorem seqs {d e : Device} (h : Aside d e) : e.seqs = d.seqs := by
  have hf := congrArg Device.seqs h
  exact hf

theorem sq {d e : Device} (h : Aside d e) (q : Nat) : e.sq q = d.sq q := congrArg (fun m => Map.get ({} : SqS) m q) h.seqs

theorem bytes {d e : Device} (h : Aside d e) (a n : Nat) : e.bytes a n = d.bytes a n := bytes_of_mem_eq h.mem a n

theorem withHealth (d : Device) (x : HealthS) : Aside d { d with health := x } := rfl

/-- R306: the step counters join the cumulative objects. -/
theorem moveCounters (d : Device) (k : Nat) : Aside d (d.moveCounters k) :=
  ((forN (fun _ _ => forN (fun _ _ => addNum ..) _ _) _ _).trans (addNum ..)).trans (modClu ..)

theorem summaryArrives (d : Device) (k : Nat) : Aside d (d.summaryArrives k) := by
  unfold Device.summaryArrives
  split
  · exact refl d
  · rfl

end Aside

theorem clu_moveCounters (d : Device) (k : Nat) : (d.moveCounters k).clu k = { (d.clu k) with
    cnt := [], clamps := 0, storms := 0, predover := 0, jumps := 0, retry := 0, corrected := 0 } := by
  have hn (f : Device → Nat → Device) (hf : ∀ d i, (f d i).clus = d.clus) (n : Nat) (d : Device) : (forN n d f).clus = d.clus :=
    foldl_rel (R := fun d e : Device => e.clus = d.clus) (fun _ => rfl) (fun _ _ _ h h' => h'.trans h) hf _ d
  have hclus := hn (fun x c => forN 4 x (fun e i => e.addNum (0x1406 + i) (c + 1) 0 (Map.get 0 (d.clu k).cnt (4 * c + i))))
    (fun x _ => hn _ (fun _ _ => Device.addNum_clus ..) 4 x) 7 d
  refine (Device.clu_modClu_same ..).trans ?_
  exact congrArg (fun c : ClusS => { c with
    cnt := [], clamps := 0, storms := 0, predover := 0, jumps := 0, retry := 0, corrected := 0 })
    ((clu_addNum ..).trans (congrArg (fun m => Map.get ({} : ClusS) m k) hclus))

theorem monitorSq_ne (k : Cluster) : monitorSq k ≠ deviceSq := by
  have hk : k.val < 96 := k.isLt
  simp only [monitorSq, deviceSq]
  omega

theorem sqCluster_monitorSq (k : Cluster) : sqCluster (monitorSq k) = k := by
  have hk : k.val < 96 := k.isLt
  have hq : monitorSq k = 576 + k.val := rfl
  rw [sqCluster, if_neg (by omega), if_neg (by omega), if_neg (by omega)]
  omega

theorem seqPut_monitor (d : Device) (k : Cluster) (off : Nat) (bs : List Byte) :
    d.seqPut (monitorSq k) off bs = d.putW (Device.storeAddr k off) bs := by
  rw [Device.seqPut, if_neg (monitorSq_ne k), sqCluster_monitorSq]

theorem seqBytes_monitor (d : Device) (k : Cluster) (off n : Nat) :
    d.seqBytes (monitorSq k) off n = d.bytes (Device.storeAddr k off) n := by
  rw [Device.seqBytes, if_neg (monitorSq_ne k), sqCluster_monitorSq]

/-- Bytes written to a store, whatever else happens beside memory. -/
theorem bytes_putW {d x : Device} {a : Nat} {bs : List Byte} (h : x.mem = (d.putW a bs).mem) {n : Nat} (hn : bs.length = n) :
    x.bytes a n = bs ∧ ∀ y, y < a ∨ a + n ≤ y → x.byteAt y = d.byteAt y := by
  subst hn
  have hm : x.mem = (d.put a bs).mem := h
  refine ⟨(bytes_of_mem_eq hm ..).trans (bytes_put_same ..), fun y hy => ?_⟩
  exact (congrArg (Map.get 0 · y) hm).trans (byteAt_put_ne d hy)

theorem accessOk_of_le {off n : Nat} (h1 : off + n ≤ 0x1000000) (h2 : off % 4096 + n ≤ 4096) : accessOk off n = true := by
  simp [accessOk, offOk, Device.crosses, h1, h2]

theorem completes_hclose {s : State} {k : Cluster} {a : Reg} (hi : SqIssues s.dev (monitorSq k))
    (hoff : ((s.dev.sq (monitorSq k)).reg a).toNat + 256 ≤ 0x1000000) {P : Device → Prop}
    (hP : P (((s.dev.putW (Device.storeAddr k ((s.dev.sq (monitorSq k)).reg a).toNat) (summaryBytes s.dev k)).moveCounters k).seqNext
      (monitorSq k))) : Completes (.hclose k a []) s P := by
  refine completes_seqIssue_eq (q := monitorSq k) hi (exec_of_seqClean rfl) ?_ hP
  simp only [seqPut_monitor, if_neg (Nat.not_lt.2 hoff)]

theorem length_watchBytes {w : Watch} (h : w.hist.length = 8) : (watchBytes w).length = 32 := by
  have hh : (w.hist.flatMap (fun c => leBytes 2 (ofSgn 16 c))).length = 16 := by
    simp [List.length_flatMap, length_leBytes, h]
  simp only [watchBytes, List.length_append, length_leBytes, hh]

theorem nchk_hist {w : Watch} (h : w.hist.length = 8) (hi : Nat) (t : Bool) : (nchk w hi t).1.hist.length = 8 := by
  have hp (w : Watch) (c : Int) (h : w.hist.length = 8) : (w.push c).hist.length = 8 := by simp [Watch.push, h]
  unfold nchk
  split
  · exact h
  · dsimp only
    split
    · split
      · exact h
      · exact hp _ _ h
    · generalize (if w.jup ≠ 0 ∧ normCode hi > (w.hist.take w.nh).foldl max ((w.hist.take w.nh).headD (normCode hi)) + w.jup then 1
        else if w.jdn ≠ 0 ∧ normCode hi < (w.hist.take w.nh).foldl min ((w.hist.take w.nh).headD (normCode hi)) - w.jdn then 2
        else 0) = r
      split
      · exact h
      · split
        · exact h
        · exact hp _ _ h

/-- R316: the entry afterwards, the result, and the event of a jump. -/
theorem completes_nchk {s : State} {k : Cluster} {rd a : Reg} (hi : SqIssues s.dev (monitorSq k)) {at_ : Nat} {w : Watch}
    (hat : at_ = Device.storeAddr k ((s.dev.sq (monitorSq k)).reg a).toNat) (hw : w = parseWatch (s.dev.bytes at_ 32))
    (ha : accessOk ((s.dev.sq (monitorSq k)).reg a).toNat 32 = true) (hs : accessOk w.src 4 = true) :
    let r := nchk w (s.dev.load (Device.storeAddr k w.src) 4 / 65536) s.dev.stepTainted
    Completes (.nchk k rd a []) s (fun d => d.bytes at_ 32 = watchBytes r.1 ∧
      sqGoesOn (s.dev.sq (monitorSq k)) (d.sq (monitorSq k)) ∧
      (∀ i, (d.sq (monitorSq k)).reg i = if i = rd ∧ rd.val ≠ 0 then BitVec.ofNat 32 r.2 else (s.dev.sq (monitorSq k)).reg i) ∧
      (1 ≤ r.2 → r.2 ≤ 3 → Raised 0x2201 s.dev d) ∧ (∀ y, y < at_ ∨ at_ + 32 ≤ y → d.byteAt y = s.dev.byteAt y)) := by
  intro r
  let p := s.dev.putW at_ (watchBytes r.1)
  let e := if 1 ≤ r.2 ∧ r.2 ≤ 3 then
      (p.modClu k (fun c => { c with jumps := c.jumps + 1 })).raise 0x2201 0x7080 (k + 1) ((s.dev.sq (monitorSq k)).reg a).toNat r.2
    else p
  have he : Aside p e := .ite ((Aside.modClu ..).trans (.raise ..)) (.refl _)
  have hlen : (watchBytes r.1).length = 32 := length_watchBytes (nchk_hist (by rw [hw]; rfl) _ _)
  obtain ⟨hgo, hreg⟩ := sq_seqWrite_regs (d := s.dev) hi.1 (e := e) ((he.sq _).trans rfl) rd (BitVec.ofNat 32 r.2)
  obtain ⟨hbytes, hframe⟩ := bytes_putW (x := e.seqWrite (monitorSq k) rd (BitVec.ofNat 32 r.2)) he.mem hlen
  refine completes_seqIssue_eq (q := monitorSq k) hi (exec_of_seqClean rfl) (e := e.seqWrite (monitorSq k) rd (BitVec.ofNat 32 r.2)) ?_
    ⟨hbytes, hgo, hreg, fun h1 h3 => ?_, hframe⟩
  · subst hw hat
    have hf : pairFails k [] = fun _ => false := rfl
    simp only [seqBytes_monitor, ha, hs, hf, Bool.not_true, Bool.false_eq_true, if_false, seqPut_monitor]
    rfl
  · have hr : Raised 0x2201 s.dev e := by
      simp only [e, if_pos (And.intro h1 h3)]
      exact raised_after _ _ _ _ (by decide) rfl
    exact hr.of_evt_eq rfl rfl

/-! ### Summaries -/

theorem bytes_eq_map (d : Device) (a n : Nat) : d.bytes a n = (List.range n).map (fun i => d.byteAt (a + i)) :=
  (bytes_eq_iff (by simp)).2 fun i hi => by simp [List.getD_eq_getElem?_getD, hi]

theorem seqBytes_of_memWrite {d e : Device} {off n : Nat} {bs : List Byte}
    (h : e.health.store = Device.memWrite d.health.store off bs) (hn : bs.length = n) : e.seqBytes deviceSq off n = bs := by
  subst hn
  rw [Device.seqBytes, if_pos rfl, h]
  exact (bytes_eq_map ..).symm.trans (bytes_put_same ({ mem := d.health.store } : Device) off bs)

/-- R319: a summary that arrives. -/
theorem summaryArrives_of_posted {d : Device} {k : Nat} {b : List Byte} (hb : Map.get [] d.health.posted k = b) (hl : b.length = 256) :
    d.summaryArrives k = { d with health := (d.summaryArrives k).health } ∧ (d.summaryArrives k).storedSummary k = b ∧
      Map.get [] (d.summaryArrives k).health.posted k = [] ∧ Map.get 0 (d.summaryArrives k).health.arrived k = fieldB b 0 4 + 1 := by
  have hne : b ≠ [] := fun h => by rw [h] at hl; cases hl
  have h : d.summaryArrives k = { d with health := { d.health with
      posted := Map.set [] d.health.posted k []
      carry := if Map.get false d.health.fresh k then addLists d.health.carry (summaryInputs (d.storedSummary k)) else d.health.carry
      fresh := Map.set false d.health.fresh k true
      arrived := Map.set 0 d.health.arrived k (fieldB b 0 4 + 1)
      store := Device.memWrite d.health.store (256 * k) b } } := by
    unfold Device.summaryArrives
    rw [hb]
    cases b with
    | nil => exact absurd rfl hne
    | cons x b => rfl
  rw [h]
  refine ⟨rfl, ?_, Map.get_set_same .., Map.get_set_same ..⟩
  exact seqBytes_of_memWrite (d := d) rfl hl

/-- R319: the summary goes out; one still under way arrives before it. -/
theorem completes_hpost {s : State} {k : Cluster} {a : Reg} (hi : SqIssues s.dev (monitorSq k))
    (hoff : ((s.dev.sq (monitorSq k)).reg a).toNat + 256 ≤ 0x1000000) :
    Completes (.hpost k a []) s (fun d => Map.get [] d.health.posted k =
        s.dev.bytes (Device.storeAddr k ((s.dev.sq (monitorSq k)).reg a).toNat) 256 ∧ d.mem = s.dev.mem ∧
      d.sq (monitorSq k) = { s.dev.sq (monitorSq k) with pc := (s.dev.sq (monitorSq k)).pc + 1 }) := by
  have hx := Aside.summaryArrives s.dev k
  let y (b : List Byte) : Device := { (s.dev.summaryArrives k) with health := { (s.dev.summaryArrives k).health with
    posted := Map.set [] (s.dev.summaryArrives k).health.posted k b } }
  have hsq (b : List Byte) : (y b).sq (monitorSq k) = s.dev.sq (monitorSq k) := (hx.trans (.withHealth ..)).sq _
  refine completes_seqIssue_eq (q := monitorSq k) hi (exec_of_seqClean rfl)
    (e := (y (s.dev.bytes (Device.storeAddr k ((s.dev.sq (monitorSq k)).reg a).toNat) 256)).seqNext (monitorSq k)) ?_
    ⟨Map.get_set_same .., hx.mem, ?_⟩
  · have hlim : sqLimit (monitorSq k) = 0x1000000 := if_neg (monitorSq_ne k)
    simp only [if_neg (Nat.not_lt.2 hoff), Device.seqTake, hlim, seqBytes_monitor, hx.bytes]
    rfl
  · rw [seqNext_eq, Device.sq_setSq_same, hsq]

/-! ### The device monitor -/

/-- The device after a detector and its result were kept. -/
def keepDet (d : Device) (ev : Bool) (det : Det) (r : Nat) : Device :=
  if ev then { d with health := { d.health with det1 := det, lres1 := r } }
  else { d with health := { d.health with det0 := det, lres0 := r } }

theorem aside_keepDet (d : Device) (ev : Bool) (det : Det) (r : Nat) : Aside d (keepDet d ev det r) :=
  .ite (.withHealth ..) (.withHealth ..)

/-- The detector that `ev` names. -/
def detOf (ev : Bool) (h : HealthS) : Det := if ev then h.det1 else h.det0

theorem detOf_keepDet (d : Device) (ev : Bool) (det : Det) (r : Nat) : detOf ev (keepDet d ev det r).health = det := by
  cases ev <;> rfl

theorem detOf_raise (d : Device) (c ua ui a b : Nat) (ev : Bool) : detOf ev (d.raise c ua ui a b).health = detOf ev d.health := by
  simp only [detOf, det_raise]

section
variable {s : State} {rd a : Reg} (hi : SqIssues s.dev 672)
include hi

/-- The value that an operation of the device monitor gives, after counting, events and what it does to its own record. -/
theorem gives_deviceSq {e : Device} (he : Aside s.dev e) (v : W32) :
    sqGoesOn (s.dev.sq 672) ((e.seqWrite 672 rd v).sq 672) ∧ (e.seqWrite 672 rd v).mem = s.dev.mem ∧
      ∀ r, ((e.seqWrite 672 rd v).sq 672).reg r = if r = rd ∧ rd.val ≠ 0 then v else (s.dev.sq 672).reg r := by
  obtain ⟨hgo, hreg⟩ := sq_seqWrite_regs (d := s.dev) hi.1 (he.sq 672) rd v
  exact ⟨hgo, he.mem, hreg⟩

/-- R319: the summaries of the step that have arrived. -/
theorem completes_hcollect : Completes (.hcollect rd a) s (fun d =>
    (sqGoesOn (s.dev.sq 672) (d.sq 672) ∧ d.mem = s.dev.mem ∧ ∀ r, (d.sq 672).reg r = if r = rd ∧ rd.val ≠ 0 then
      BitVec.ofNat 32 (s.dev.summaries ((s.dev.sq 672).reg a) true).length else (s.dev.sq 672).reg r) ∧
    (s.dev.summaries ((s.dev.sq 672).reg a) false ≠ [] → Raised 0x2206 s.dev d)) := by
  refine completes_seqIssue (q := 672) hi rfl ?_
  cases hmiss : s.dev.summaries ((s.dev.sq 672).reg a) false with
  | nil =>
    simp only [deviceSq]
    exact ⟨gives_deviceSq hi (.refl _) _, fun h => absurd rfl h⟩
  | cons m l =>
    simp only [deviceSq]
    exact ⟨gives_deviceSq hi (.raise ..) _, fun _ => (raised_after _ _ _ _ (by decide) rfl).of_evt_eq rfl rfl⟩

/-- R323: the loss written for the step. -/
theorem completes_lchk_loss {v : Nat} {det : Det} {r : Det × Nat} {ev : Bool} (hev : ((s.dev.sq 672).reg a).getLsbD 0 = ev)
    (hdet : detOf ev s.dev.health = det) (hl : (if ev then s.dev.health.evalLoss else s.dev.health.loss) = some (s.dev.cad.step % 2 ^ 32, v))
    (hr : lchk det v (s.dev.force 0x1405 1) (s.dev.force 0x1405 2) (s.dev.force 0x1405 3) (s.dev.force 0x1405 4) s.dev.stepTainted = r) :
    Completes (.lchk rd a) s (fun d => (sqGoesOn (s.dev.sq 672) (d.sq 672) ∧ d.mem = s.dev.mem ∧
      ∀ i, (d.sq 672).reg i = if i = rd ∧ rd.val ≠ 0 then BitVec.ofNat 32 r.2 else (s.dev.sq 672).reg i) ∧
      detOf ev d.health = r.1 ∧ (r.2 = 1 ∨ r.2 = 3 → Raised (if ev then 0x2203 else 0x2202) s.dev d)) := by
  let x := keepDet s.dev ev r.1 r.2
  let e := if r.2 = 1 ∨ r.2 = 3 then x.raise (0x2202 + b2n ev) 0 0 0 r.2 else x
  have he : Aside s.dev e := (aside_keepDet ..).trans (.ite (.raise ..) (.refl _))
  refine completes_seqIssue_eq (q := 672) hi rfl (e := e.seqWrite 672 rd (BitVec.ofNat 32 r.2)) ?_
    ⟨gives_deviceSq hi he _, ?_, fun h => ?_⟩
  · simp only [hev, hl, if_true, show (if ev = true then s.dev.health.det1 else s.dev.health.det0) = det from hdet, hr]
    rfl
  · have hd : detOf ev e.health = r.1 := by
      simp only [e]
      split
      · rw [detOf_raise, detOf_keepDet]
      · exact detOf_keepDet ..
    exact hd
  · have hr : Raised (if ev then 0x2203 else 0x2202) s.dev e := by
      simp only [e, if_pos h]
      have hevt : x.evt = s.dev.evt := by cases ev <;> rfl
      cases ev <;> exact raised_after _ _ _ _ (by decide) (by rw [hevt])
    exact hr.of_evt_eq rfl rfl

/-- R322: no loss was written for the step. -/
theorem completes_lchk_none {ev : Bool} (hev : ((s.dev.sq 672).reg a).getLsbD 0 = ev)
    (hl : (if ev then s.dev.health.evalLoss else s.dev.health.loss) = none) :
    Completes (.lchk rd a) s (fun d => (sqGoesOn (s.dev.sq 672) (d.sq 672) ∧ d.mem = s.dev.mem ∧
      ∀ i, (d.sq 672).reg i = if i = rd ∧ rd.val ≠ 0 then BitVec.ofNat 32 2 else (s.dev.sq 672).reg i) ∧
      detOf ev d.health = detOf ev s.dev.health ∧ Raised 0x2204 s.dev d) := by
  let x := keepDet s.dev ev (detOf ev s.dev.health) 2
  refine completes_seqIssue_eq (q := 672) hi rfl (e := (x.raise 0x2204 0 0 0 (b2n ev)).seqWrite 672 rd 2) ?_
    ⟨gives_deviceSq hi ((aside_keepDet ..).trans (.raise ..)) _, ?_, ?_⟩
  · simp only [hev, hl]
    rfl
  · have hd : detOf ev (x.raise 0x2204 0 0 0 (b2n ev)).health = detOf ev s.dev.health := by
      rw [detOf_raise, detOf_keepDet]
    exact hd
  · have hevt : x.evt = s.dev.evt := by cases ev <;> rfl
    exact (raised_after (d := s.dev) (x := x) _ _ _ _ (by decide) (by rw [hevt])).of_evt_eq rfl rfl

end

/-! ### The risk estimate -/

/-- A step of a stamp after the estimate was kept: the estimate, its flag, the uncounted taints and the raises stay. -/
structure StampTail (d e : Device) : Prop where
  aside : Aside d e
  risk : e.num 0x1400 1 = d.num 0x1400 1
  crossed : e.num 0x1400 6 = d.num 0x1400 6
  uncounted : e.health.uncounted = d.health.uncounted
  evt : e.evt = d.evt

theorem num_withHealth (d : Device) (x : HealthS) (i n k : Nat) : { d with health := x }.num i n k = d.num i n k :=
  num_of_dict_eq (d := d) (e := { d with health := x }) rfl i n k

theorem num_send (d : Device) (m : OutMsg) (i n k : Nat) : (d.send m).num i n k = d.num i n k :=
  num_of_dict_eq (Device.send_dict ..) i n k

theorem StampTail.taintAction (d : Device) (n : Nat) : StampTail d (d.taintAction n) := by
  unfold Device.taintAction
  dsimp only
  split
  · exact ⟨.refl d, rfl, rfl, rfl, rfl⟩
  · refine ⟨((Aside.withHealth ..).trans (.addNum ..)).trans rfl, ?_, ?_, ?_, ?_⟩
    · rw [Device.askRestore, Device.toMaster, num_send, num_addNum_ne _ _ (okey_ne_idx (by decide) (by omega)), num_withHealth]
    · rw [Device.askRestore, Device.toMaster, num_send, num_addNum_ne _ _ (okey_ne_idx (by decide) (by omega)), num_withHealth]
    · simp [Device.askRestore, Device.toMaster]
    · simp [Device.askRestore, Device.toMaster]

/-- The stamp up to the estimate: inputs counted, a crossing noted, the estimate kept. -/
def stamped (d : Device) (r : Nat) : Device :=
  let e := d.inputsCounted
  (if d.num 0x1400 1 < d.force 0x1400 2 ∧ d.force 0x1400 2 ≤ r then (e.raise 0x2205 0 0 0 r).setNum 0x1400 6 0 1 else e).setNum 0x1400 1 0 r

theorem aside_stamped (d : Device) (r : Nat) : Aside d (stamped d r) :=
  (Aside.trans (.withHealth ..) (.ite ((Aside.raise ..).trans (.setNum ..)) (.refl _))).trans (.setNum ..)

theorem uncounted_stamped (d : Device) (r : Nat) : (stamped d r).health.uncounted = 0 := by
  rw [stamped, Device.setNum_health]
  split
  · rw [Device.setNum_health, health_raise_of_clean _ evRow_2205]
    rfl
  · rfl

theorem crossed_stamped {d : Device} {r : Nat} (h1 : d.num 0x1400 1 < d.force 0x1400 2) (h2 : d.force 0x1400 2 ≤ r) :
    Raised 0x2205 d (stamped d r) ∧ (stamped d r).num 0x1400 6 = 1 := by
  simp only [stamped, if_pos (And.intro h1 h2)]
  refine ⟨?_, ?_⟩
  · refine (raised_after (d := d) (x := d.inputsCounted) 0 0 0 r (by decide) rfl).of_evt_eq rfl ?_
    rw [Device.setNum_evt, Device.setNum_evt]
  · rw [Device.num_setNum_ne _ _ (okey_ne_sub (by decide) (by omega)), Device.num_setNum_same]

theorem sq_putW (d : Device) (a : Nat) (bs : List Byte) (q : Nat) : (d.putW a bs).sq q = d.sq q := rfl

@[simp] theorem clu_seqNext (d : Device) (q k : Nat) : (d.seqNext q).clu k = d.clu k := rfl

/-- R317, R318: the summary stands in the store, and the counters start again. -/
theorem completes_hclose_summary {s : State} {k : Cluster} {a : Reg} (hi : SqIssues s.dev (monitorSq k))
    (hoff : ((s.dev.sq (monitorSq k)).reg a).toNat + 256 ≤ 0x1000000) :
    let at_ := Device.storeAddr k ((s.dev.sq (monitorSq k)).reg a).toNat
    Completes (.hclose k a []) s (fun d => d.bytes at_ 256 = summaryBytes s.dev k ∧ (d.clu k).cnt = [] ∧ (d.clu k).clamps = 0 ∧
        (d.clu k).storms = 0 ∧ (d.clu k).predover = 0 ∧ (d.clu k).jumps = 0 ∧ (d.clu k).retry = 0 ∧ (d.clu k).corrected = 0 ∧
        (∀ y, y < at_ ∨ at_ + 256 ≤ y → d.byteAt y = s.dev.byteAt y) ∧
        d.sq (monitorSq k) = { s.dev.sq (monitorSq k) with pc := (s.dev.sq (monitorSq k)).pc + 1 }) := by
  intro at_
  have hm := Aside.moveCounters (s.dev.putW at_ (summaryBytes s.dev k)) k
  obtain ⟨hbytes, hframe⟩ := bytes_putW (x := ((s.dev.putW at_ (summaryBytes s.dev k)).moveCounters k).seqNext (monitorSq k)) hm.mem
    (length_summaryBytes s.dev k)
  have hsq : (((s.dev.putW at_ (summaryBytes s.dev k)).moveCounters k).seqNext (monitorSq k)).sq (monitorSq k) =
      { s.dev.sq (monitorSq k) with pc := (s.dev.sq (monitorSq k)).pc + 1 } := by
    rw [seqNext_eq, Device.sq_setSq_same, hm.sq, sq_putW]
  refine completes_hclose hi hoff ?_
  rw [clu_seqNext, clu_moveCounters]
  exact ⟨hbytes, rfl, rfl, rfl, rfl, rfl, rfl, rfl, hframe, hsq⟩

/-- R320, R321: the estimate joins HLTH_RISK and RD; a crossing raises 0x2205. -/
theorem completes_risk {s : State} {rd a : Reg} (hi : SqIssues s.dev 672) {r : Nat}
    (hr : riskOf (s.dev.num 0x1400 1) (s.dev.force 0x1400 3) ((List.range 16).map (fun i => s.dev.force 0x1402 (i + 1)))
      ((List.range 16).map (fun i => s.dev.force 0x1403 (i + 1))) s.dev.riskInputs = r) :
    Completes (.risk rd a) s (fun d => (sqGoesOn (s.dev.sq 672) (d.sq 672) ∧ d.mem = s.dev.mem ∧
        ∀ i, (d.sq 672).reg i = if i = rd ∧ rd.val ≠ 0 then BitVec.ofNat 32 r else (s.dev.sq 672).reg i) ∧
      d.num 0x1400 1 = r ∧ r ≤ 65535 ∧
      (s.dev.num 0x1400 1 < s.dev.force 0x1400 2 → s.dev.force 0x1400 2 ≤ r → Raised 0x2205 s.dev d ∧ d.num 0x1400 6 = 1) ∧
      d.health.uncounted = 0) := by
  let t := (stamped s.dev r).taintAction ((stamped s.dev r).stepOf ((s.dev.sq 672).reg a).toNat)
  have ht : StampTail (stamped s.dev r) t := .taintAction ..
  let e := if t.num 0x1400 6 = 1 || t.hv.commanded then t.toMaster 1 t.devNo else t
  have he : StampTail t e := by
    simp only [e]
    split
    · exact ⟨rfl, num_send .., num_send .., rfl, rfl⟩
    · exact ⟨.refl t, rfl, rfl, rfl, rfl⟩
  have hnum (i : Nat) : (e.seqWrite 672 rd (BitVec.ofNat 32 r)).num 0x1400 i = e.num 0x1400 i :=
    num_of_dict_eq (d := e) (e := e.seqWrite 672 rd (BitVec.ofNat 32 r)) rfl _ _ _
  refine completes_seqIssue_eq (q := 672) hi rfl (e := e.seqWrite 672 rd (BitVec.ofNat 32 r)) ?_
    ⟨gives_deviceSq hi ((aside_stamped ..).trans (ht.aside.trans he.aside)) _, ?_, ?_, fun h1 h2 => ⟨?_, ?_⟩, ?_⟩
  · simp only [hr]
    rfl
  · rw [hnum, he.risk, ht.risk, stamped, Device.num_setNum_same]
  · rw [← hr]
    exact min_le_right _ _
  · exact (crossed_stamped h1 h2).1.of_evt_eq rfl (he.evt.trans ht.evt)
  · rw [hnum, he.crossed, ht.crossed, (crossed_stamped h1 h2).2]
  · exact (he.uncounted.trans ht.uncounted).trans (uncounted_stamped ..)

/-! ### Taint notices -/

theorem num_event_2207 (d : Device) (a b : Nat) {n : Nat} (hn : n = 1 ∨ n = 2 ∨ n = 3) :
    ((d.countEvent 0x2207 0).raiseRaw 0x2207 0 0 a b).num 0x1401 n = d.num 0x1401 n := by
  have hcount : ∀ o ∈ (evRow 0x2207).ctr.map (fun c => (c.1, c.2, if objInsts c.1 = 0 then 0 else 0)), o = (0x1401, 4, 0) := by
    simp [evRow_2207]
  refine (KeepsObjects.num (keeps_raiseRaw (d.countEvent 0x2207 0) 0x2207 0 0 a b) _ _ _ ?_).trans
    (KeepsObjects.num (keeps_countEvent d 0x2207 0) _ _ _ ?_)
  · rcases hn with rfl | rfl | rfl <;> decide
  · intro hm
    obtain ⟨o, ho, hk⟩ := List.mem_map.1 hm
    rw [hcount o ho] at hk
    rcases hn with rfl | rfl | rfl <;> revert hk <;> decide

/-- R309: the record that a step is tainted. -/
def markTaint (d : Device) (n : Nat) : Device := { d with health := { d.health with
  tainted := Map.set 0 d.health.tainted n (0x2207 + 1), uncounted := d.health.uncounted + 1 } }

/-- A step is named as tainted: the record, and the objects of the present and of the latest tainted step. -/
def noticed (d : Device) (n : Nat) : Device :=
  let e := if (markTaint d n).health.tainted.any (fun e => decide (n < e.1)) then markTaint d n
    else ((markTaint d n).setNum 0x1401 2 0 0x2207).setNum 0x1401 3 0 n
  if n = e.cad.step then e.setNum 0x1401 1 0 1 else e

theorem aside_noticed (d : Device) (n : Nat) : Aside d (noticed d n) := by
  have hm : Aside d (markTaint d n) := .withHealth ..
  have he := hm.trans (.ite (p := (markTaint d n).health.tainted.any (fun e => decide (n < e.1)) = true) (.refl _)
    ((Aside.setNum _ 0x1401 2 0 0x2207).trans (.setNum _ 0x1401 3 0 n)))
  exact .ite (he.trans (.setNum ..)) he

theorem tainted_noticed (d : Device) (n : Nat) : Map.get 0 (noticed d n).health.tainted n = 0x2207 + 1 := by
  have key (p q : Prop) [Decidable p] [Decidable q] (y : Device) (hy : y.health = (markTaint d n).health) (i s k v : Nat) :
      (if q then (if p then markTaint d n else y).setNum i s k v else if p then markTaint d n else y).health =
        (markTaint d n).health := by
    split <;> split <;> simp [hy]
  rw [noticed, key _ _ _ (by simp)]
  exact Map.get_set_same ..

/-- A name that is in a map after a write was there or is the one written. -/
theorem mem_set {α : Type} [DecidableEq α] {dflt : α} {m : Map α} {k : Nat} {v : α} {e : Nat × α} (h : e ∈ Map.set dflt m k v) :
    e ∈ m ∨ e.1 = k := by
  unfold Map.set at h
  split at h
  · rw [Map.del_eq_filter] at h
    exact .inl (List.mem_of_mem_filter h)
  · induction m with
    | nil =>
      rw [Map.ins_nil, List.mem_singleton] at h
      exact .inr (congrArg Prod.fst h)
    | cons x m ih =>
      rw [Map.ins_cons] at h
      split at h
      · rcases List.mem_cons.1 h with h | h
        · exact .inr (congrArg Prod.fst h)
        · exact .inl (List.mem_cons_of_mem _ h)
      · split at h
        · rcases List.mem_cons.1 h with h | h
          · exact .inr (congrArg Prod.fst h)
          · exact .inl h
        · rcases List.mem_cons.1 h with h | h
          · exact .inl (h ▸ List.mem_cons_self)
          · exact (ih h).imp_left (List.mem_cons_of_mem _)

theorem latest_noticed {d : Device} {n : Nat} (h : ∀ e ∈ d.health.tainted, e.1 ≤ n) :
    (noticed d n).num 0x1401 2 = 0x2207 ∧ (noticed d n).num 0x1401 3 = n := by
  have hany : (markTaint d n).health.tainted.any (fun e => decide (n < e.1)) = false := by
    rw [List.any_eq_false]
    intro e he
    rcases mem_set he with hm | hm
    · simpa using h e hm
    · simp [hm]
  have h12 : okey (homeIdx 0x1401) 1 0 ≠ okey (homeIdx 0x1401) 2 0 := by decide
  have h13 : okey (homeIdx 0x1401) 1 0 ≠ okey (homeIdx 0x1401) 3 0 := by decide
  have h32 : okey (homeIdx 0x1401) 3 0 ≠ okey (homeIdx 0x1401) 2 0 := by decide
  have key : (((markTaint d n).setNum 0x1401 2 0 0x2207).setNum 0x1401 3 0 n).num 0x1401 2 = 0x2207 ∧
      (((markTaint d n).setNum 0x1401 2 0 0x2207).setNum 0x1401 3 0 n).num 0x1401 3 = n := by
    rw [Device.num_setNum_ne _ _ h32, Device.num_setNum_same, Device.num_setNum_same]
    exact ⟨rfl, rfl⟩
  have hif : (if (markTaint d n).health.tainted.any (fun e => decide (n < e.1)) = true then markTaint d n
      else ((markTaint d n).setNum 0x1401 2 0 0x2207).setNum 0x1401 3 0 n) =
      ((markTaint d n).setNum 0x1401 2 0 0x2207).setNum 0x1401 3 0 n := if_neg (by rw [hany]; exact Bool.false_ne_true)
  rw [noticed, hif]
  split
  · rwa [Device.num_setNum_ne _ _ h12, Device.num_setNum_ne _ _ h13]
  · exact key

theorem present_noticed {d : Device} {n : Nat} (h : n = d.cad.step) : (noticed d n).num 0x1401 1 = 1 := by
  have hcad : (if (markTaint d n).health.tainted.any (fun e => decide (n < e.1)) = true then markTaint d n
      else ((markTaint d n).setNum 0x1401 2 0 0x2207).setNum 0x1401 3 0 n).cad = d.cad := by
    split
    · rfl
    · rw [Device.setNum_cad, Device.setNum_cad]
      rfl
  rw [noticed, hcad, if_pos h, Device.num_setNum_same]

theorem completes_run_eq {c : Instr} {s : State} {f : Device → Device} {X : Device} {P : Device → Prop}
    (he : ∀ u : State, exec c u = u.run f) (hf : f s.dev = X) (hP : P X) : Completes c s P :=
  completes_run_of he (by rwa [hf])

/-- Settles O36: each operation by its own lemma. -/
theorem healthMonitors : Obligations.HealthMonitors := by
  refine ⟨?_, ?_⟩
  · intro s k rd a b q x off at_
    refine ⟨fun hi hoff => ⟨completes_hclose_summary hi hoff, completes_hpost hi hoff⟩, ?_, fun hb hl => ?_⟩
    · intro hi h1 h2 w r hs1 hs2
      exact completes_nchk hi rfl rfl (accessOk_of_le h1 h2) (accessOk_of_le hs1 hs2)
    · exact completes_run_of (c := .healthSummaryArrival k) (fun _ => by unfold exec; exact rfl) (summaryArrives_of_posted hb hl)
  · intro s rd a step dev cause v x ev gives det r risk
    refine ⟨fun hi => ⟨completes_hcollect hi, fun hl => completes_lchk_loss hi rfl rfl hl rfl, fun hl => completes_lchk_none hi rfl hl,
      completes_risk hi rfl⟩, fun h => ?_⟩
    let y := if s.dev.num 0x1200 1 = 1 then s.dev.send (.taint step.toNat dev.toNat cause.toNat) else s.dev
    have hy : Aside s.dev y ∧ y.health = s.dev.health := by
      simp only [y]
      split
      · exact ⟨rfl, rfl⟩
      · exact ⟨.refl _, rfl⟩
    let e := ((noticed y step.toNat).countEvent 0x2207 0).raiseRaw 0x2207 0 0 0x2207 dev.toNat
    have hcad : y.cad = s.dev.cad := by
      have hf := congrArg Device.cad hy.1
      exact hf
    have hmem : e.mem = s.dev.mem := by
      simp only [e, Device.raiseRaw_mem, Device.countEvent_mem]
      exact ((aside_noticed ..).mem).trans hy.1.mem
    have hhealth : e.health = (noticed y step.toNat).health := by simp only [e, health_raiseRaw, health_countEvent]
    refine completes_run_eq (c := .taintNoticeReceive step dev cause) (X := e) (fun _ => by unfold exec; exact rfl) ?_
      ⟨?_, fun hlast => ?_, fun hnow => ?_, hmem⟩
    · exact if_neg (c := Map.get 0 y.health.tainted step.toNat ≠ 0) (by rw [hy.2]; exact not_not.2 h)
    · rw [hhealth, tainted_noticed]
    · rw [num_event_2207 _ _ _ (by simp), num_event_2207 _ _ _ (by simp)]
      exact latest_noticed (by rwa [hy.2])
    · rw [num_event_2207 _ _ _ (by simp)]
      exact present_noticed (by rw [hcad, hnow])

end Sys2Proof.Machine

/-! PROOFS. What a running island measures and receives (R525 to R528, R530, R531). -/

namespace Sys2Proof.Machine

/-! ### Samples -/

/-- What `secondEnd` leaves of a second's sums. -/
def secondAcc (i : IslS) : Int := if (i.iSum.natAbs : Int) < startCurrent then i.acc else i.acc + 2500 * i.pSum

theorem acc_secondEnd (i : IslS) : (secondEnd i).acc = secondAcc i - ((secondAcc i / uWh).toNat : Int) * uWh := rfl

theorem energy_secondEnd (i : IslS) : (secondEnd i).fig.energy = i.fig.energy + (secondAcc i / uWh).toNat := rfl

/-- R526: whole microwatt hours leave the accumulator. -/
theorem acc_secondEnd_of_nonneg {i : IslS} (h : 0 ≤ secondAcc i) : (secondEnd i).acc = secondAcc i % uWh := by
  have hq : 0 ≤ secondAcc i / uWh := Int.ediv_nonneg h (by decide)
  rw [acc_secondEnd, Int.toNat_of_nonneg hq, Int.emod_def, mul_comm]

theorem acc_secondEnd_of_neg {i : IslS} (h : secondAcc i < 0) : (secondEnd i).acc = secondAcc i := by
  have hq : secondAcc i / uWh ≤ 0 := by
    have hlt : secondAcc i / uWh < 0 := Int.ediv_neg_of_neg_of_pos h (by decide)
    omega
  rw [acc_secondEnd, Int.toNat_of_nonpos hq]
  simp

/-- The sums with one more sample pair. -/
def sampled (i : IslS) (v x : Int) : IslS := { i with
  sample := i.sample + 1, vSum := i.vSum + v, iSum := i.iSum + x, pSum := i.pSum + v * x,
  exceeds := i.exceeds || decide (overCurrent < (x.natAbs : Int)) }

theorem sample_eq (i : IslS) (v a : Int) : sample i v a =
    if (i.sample + 1) % 4096 = 0 then secondEnd (sampled i v (max (-clipCurrent) (min clipCurrent a)))
    else sampled i v (max (-clipCurrent) (min clipCurrent a)) := rfl

/-- R528: what a pulse leaves alone of the island. -/
theorem startPulse_spec (d : Device) : startPulse d = { d with isl := (startPulse d).isl, out := (startPulse d).out } ∧
    (startPulse d).isl = { d.isl with pulseQ := (startPulse d).isl.pulseQ, pulseLow := (startPulse d).isl.pulseLow } := by
  unfold startPulse
  dsimp only
  split <;> exact ⟨rfl, rfl⟩

theorem startPulse_of_off {d : Device} (h : d.isl.on = false) : startPulse d = d := by
  simp [startPulse, h]

theorem startPulse_of_queued {d : Device} (h : d.isl.on = true) (hk : d.isl.noKey = false) (hl : d.isl.pulseLow = false)
    (hq : 0 < d.isl.pulseQ) (he : d.isl.pulseEnd = 0 ∨ d.isl.pulseEnd + 81 ≤ d.isl.sample) :
    (startPulse d).isl.pulseLow = true ∧ (startPulse d).out = .pulse :: d.out := by
  have hc : (d.isl.on && !d.isl.noKey && !d.isl.pulseLow && decide (0 < d.isl.pulseQ) &&
      (d.isl.pulseEnd == 0 || decide (d.isl.pulseEnd + 81 ≤ d.isl.sample))) = true := by
    simp only [h, hk, hl, hq, Bool.not_false, Bool.and_true, decide_true, Bool.true_and, Bool.or_eq_true, beq_iff_eq, decide_eq_true_eq]
    exact he
  unfold startPulse
  dsimp only
  rw [if_pos hc]
  exact ⟨rfl, rfl⟩

section
variable {d : Device} {f : IslS → IslS}

theorem onIsland_of_on (h : d.isl.on = true) : d.onIsland f = { d with isl := f d.isl } := if_pos h

theorem onIsland_of_off (h : d.isl.on = false) : d.onIsland f = d := if_neg (by rw [h]; exact Bool.false_ne_true)

end

/-- What a sample leaves alone, and what it does not depend on a second's end. -/
theorem sample_rest (i : IslS) (v a : Int) :
    (sample i v a).sample = i.sample + 1 ∧ (sample i v a).on = i.on ∧ (sample i v a).noKey = i.noKey ∧
      (sample i v a).pulseLow = i.pulseLow ∧ (0 < i.pulseQ → 0 < (sample i v a).pulseQ) ∧ (sample i v a).pulseEnd = i.pulseEnd ∧
      (sample i v a).exceeds = (i.exceeds || decide (overCurrent < ((max (-clipCurrent) (min clipCurrent a)).natAbs : Int))) := by
  rw [sample_eq]
  cases i
  split
  · exact ⟨rfl, rfl, rfl, rfl, fun h => lt_min (by decide) (Nat.add_pos_left h _), rfl, rfl⟩
  · exact ⟨rfl, rfl, rfl, rfl, id, rfl, rfl⟩

/-! ### Work frames -/

/-- R531: the fields that a work frame sets one by one. -/
theorem get_forN_set (g : Nat → Nat → Nat) (n : Nat) (m : Map Nat) (k : Nat) :
    Map.get 0 (forN n m (fun m i => Map.set 0 m i (g i (Map.get 0 m i)))) k = if k < n then g k (Map.get 0 m k) else Map.get 0 m k := by
  induction n with
  | zero => rfl
  | succ n ih =>
    rw [forN_succ, Map.get_set]
    by_cases hk : n = k
    · subst hk
      rw [if_pos rfl, if_pos (by omega), ih, if_neg (by omega)]
    · rw [if_neg hk, ih]
      by_cases h : k < n
      · rw [if_pos h, if_pos (by omega)]
      · rw [if_neg h, if_neg (by omega)]

/-- The frame of the same EPOCH that was taken before. -/
def oldFrame (g : IslFig) (b : List Byte) : Option (List Byte) :=
  match g.frame with
  | some o => if fieldB o 4 4 = fieldB b 4 4 then some o else none
  | none => none

theorem oldFrame_eq (g : IslFig) (b : List Byte) : oldFrame g b =
    if g.frame ≠ none ∧ fieldB (g.frame.getD []) 4 4 = fieldB b 4 4 then some (g.frame.getD []) else none := by
  unfold oldFrame
  cases g.frame with
  | none => simp
  | some o => simp

/-- What a total of `w` bytes at `off` has grown by. -/
def workDiff (old : Option (List Byte)) (b : List Byte) (off w : Nat) : Nat := match old with
  | some o => (fieldB b off w + 2 ^ (8 * w) - fieldB o off w) % 2 ^ (8 * w)
  | none => fieldB b off w

theorem work_takeWork (g : IslFig) (b : List Byte) {m : Nat} (hm : m < 5) : Map.get 0 (takeWork g b).work m =
    (Map.get 0 g.work m + workDiff (oldFrame g b) b (0x28 + 8 * m) 8) % 2 ^ 64 :=
  (get_forN_set (fun i x => (x + workDiff (oldFrame g b) b (0x28 + 8 * i) 8) % 2 ^ 64) 5 g.work m).trans (if_pos hm)

theorem linkGap_takeWork {g : IslFig} {b o : List Byte} (h : oldFrame g b = some o) :
    (takeWork g b).linkGap = (g.linkGap + (fieldB b 8 4 + 2 ^ 32 - fieldB o 8 4 - 1) % 2 ^ 32) % 2 ^ 32 := by
  have hl : (takeWork g b).linkGap = (g.linkGap + (match oldFrame g b with
      | some o => (fieldB b 8 4 + 2 ^ 32 - fieldB o 8 4 - 1) % 2 ^ 32
      | none => fieldB b 8 4)) % 2 ^ 32 := rfl
  rw [hl, h]

theorem receiveWork_of_good {i : IslS} {b : List Byte} (h : workGood b = true) :
    (receiveWork i b).fig = takeWork i.fig b ∧ (receiveWork i b).workAt = i.sample ∧ (receiveWork i b).moment =
      if fieldB b 0xC 8 % 2 ^ 48 % 1024 = 0 ∧ i.lastStepRec ≠ some (fieldB b 0xC 8 % 2 ^ 48) then i.moment ||| 1 else i.moment := by
  unfold receiveWork
  rw [if_neg (by simp [h])]
  dsimp only
  split <;> exact ⟨rfl, rfl, rfl⟩

/-- A command that changes a running island. -/
theorem completes_onIsland {c : Instr} {s : State} {f : IslS → IslS} {j : IslS}
    (he : ∀ u : State, exec c u = u.run (fun d => d.onIsland f)) (hon : s.dev.isl.on = true) (hf : f s.dev.isl = j) :
    Completes c s (fun d => d = { s.dev with isl := j }) :=
  completes_run_eq he (onIsland_of_on hon) (by rw [hf])

theorem completes_onIsland_off {c : Instr} {s : State} {f : IslS → IslS} (he : ∀ u : State, exec c u = u.run (fun d => d.onIsland f))
    (hoff : s.dev.isl.on = false) : Completes c s (fun d => d = { s.dev with isl := s.dev.isl }) :=
  completes_run_eq he (onIsland_of_off hoff) rfl

/-- Settles O57: a sample, a second's end, a pulse and a work frame, each by its lemma. -/
theorem islandMeasures : Obligations.IslandMeasures := by
  intro s v a adc clk m b i x whole cur acc becomes o same step
  refine ⟨fun hoff => ⟨?_, ?_, ?_⟩, fun hon => ⟨?_, fun hl => ?_, ?_, ?_, ?_, ?_, ?_, fun hb => ?_, fun hb => ?_⟩⟩
  · refine completes_run_eq (c := .adcSample v a) (X := s.dev) (fun _ => by unfold exec; exact rfl) ?_ rfl
    rw [onIsland_of_off hoff, startPulse_of_off hoff]
  · exact completes_onIsland_off (c := .workFrameReceive b) (fun _ => by unfold exec; exact rfl) hoff
  · exact completes_onIsland_off (c := .pulseEnd) (fun _ => by unfold exec; exact rfl) hoff
  · let e : Device := { s.dev with isl := sample i v a }
    obtain ⟨hrest, hisl⟩ := startPulse_spec e
    obtain ⟨hsample, hon', hkey, hlow, hq, hend, hex⟩ := sample_rest i v a
    refine completes_run_eq (c := .adcSample v a) (X := startPulse e) (fun _ => by unfold exec; exact rfl)
      (by rw [onIsland_of_on hon]) ⟨hrest, ?_, ?_, fun hw => ?_, fun hw => ?_, fun hk hl hq0 he => ?_⟩
    · rw [hisl]
      exact hsample
    · rw [hisl]
      exact hex
    · rw [hisl]
      have hs : sample i v a = sampled i v x := (sample_eq i v a).trans (if_neg hw)
      simp only [e, hs]
      exact ⟨rfl, rfl, rfl, rfl, rfl⟩
    · rw [hisl]
      have hs : sample i v a = secondEnd (sampled i v x) := (sample_eq i v a).trans (if_pos hw)
      simp only [e, hs]
      exact ⟨energy_secondEnd _, fun h => acc_secondEnd_of_nonneg h, fun h => acc_secondEnd_of_neg h, rfl, rfl, rfl, rfl⟩
    · exact startPulse_of_queued (d := e) (hon'.trans hon) (hkey.trans hk) (hlow.trans hl) (hq hq0) (by rwa [hend, hsample])
  · refine completes_onIsland (c := .pulseEnd) (fun _ => by unfold exec; exact rfl) hon ?_
    exact if_pos hl
  · refine completes_onIsland (c := .islandSelfCheck adc clk) (fun _ => by unfold exec; exact rfl) hon ?_
    simp only [Bool.decide_or]
    rfl
  · refine completes_onIsland (c := .noworkTimeout) (fun _ => by unfold exec; exact rfl) hon ?_
    by_cases h : i.workAt + 8192 ≤ i.sample
    · rw [if_pos h]
      simp only [h, decide_true, Bool.or_true]
      rfl
    · rw [if_neg h]
      simp only [h, decide_false, Bool.or_false]
      rfl
  · refine completes_onIsland (c := .islandCheckpoint) (fun _ => by unfold exec; exact rfl) hon ?_
    exact rfl
  · refine completes_onIsland (c := .islandSupplyLoss) (fun _ => by unfold exec; exact rfl) hon ?_
    exact rfl
  · exact completes_run_eq (c := .statusFrameSend) (f := fun d => if d.isl.on then d.send (.statusFrame (statusOf d.isl)) else d) (fun _ => by unfold exec; exact rfl) (if_pos hon) rfl
  · refine completes_onIsland (c := .workFrameReceive b) (fun _ => by unfold exec; exact rfl) hon ?_
    exact if_pos (by simp [hb])
  · obtain ⟨hfig, hwork, hmoment⟩ := receiveWork_of_good (i := i) hb
    have hold := oldFrame_eq i.fig b
    refine completes_run_eq (c := .workFrameReceive b) (f := fun d => d.onIsland (fun i => receiveWork i b))
      (fun _ => by unfold exec; exact rfl) (onIsland_of_on hon) ⟨rfl, ?_, hwork, ?_, fun hm => ?_, fun hsame => ?_, hmoment⟩
    · exact (congrArg IslFig.frame hfig).trans rfl
    · exact (congrArg IslFig.energy hfig).trans rfl
    · refine (congrArg (fun g : IslFig => Map.get 0 g.work m) hfig).trans ((work_takeWork i.fig b hm).trans ?_)
      rw [hold]
      by_cases hsame : same
      · rw [if_pos hsame, if_pos hsame]
        rfl
      · rw [if_neg hsame, if_neg hsame]
        rfl
    · exact (congrArg IslFig.linkGap hfig).trans (linkGap_takeWork (hold.trans (if_pos hsame)))

end Sys2Proof.Machine

/-! PROOFS. Records, seal and the record link of the island (R530, R532 to R541). -/

namespace Sys2Proof.Machine

/-! ### Fields of a record -/

theorem fieldB_head (w v : Nat) (l : List Byte) : fieldB (leBytes w v ++ l) 0 w = v % 256 ^ w := by
  have hl : (leBytes w v ++ l).take w = leBytes w v := by
    rw [List.take_append_of_le_length (by rw [length_leBytes]), List.take_of_length_le (by rw [length_leBytes])]
  rw [fieldB, sliceB, List.drop_zero, hl, leNat_leBytes]

theorem fieldB_skip {w v off n : Nat} (l : List Byte) (h : w ≤ off) :
    fieldB (leBytes w v ++ l) off n = fieldB l (off - w) n := by
  have hl : (leBytes w v ++ l).drop off = l.drop (off - w) := by
    rw [List.drop_append, length_leBytes, List.drop_eq_nil_of_le (by rw [length_leBytes]; exact h), List.nil_append]
  rw [fieldB, fieldB, sliceB, sliceB, hl]

/-- The fields of a record's body (R533). -/
theorem fieldB_recordBody (i : IslS) (kind flags rseq delta : Nat) (mid prev : List Byte) :
    let y := recordBody i kind flags rseq delta mid prev
    fieldB y 5 1 = kind % 256 ∧ fieldB y 8 4 = rseq % 2 ^ 32 ∧ fieldB y 0xC 4 = i.boots % 2 ^ 32 ∧
      fieldB y 0x18 8 = i.fig.energy % 2 ^ 64 ∧ fieldB y 0x20 8 = delta % 2 ^ 64 := by
  have h4 : 256 ^ 4 = 2 ^ 32 := by norm_num
  have h8 : 256 ^ 8 = 2 ^ 64 := by norm_num
  simp only [recordBody, closeBody, List.append_assoc]
  refine ⟨?_, ?_, ?_, ?_, ?_⟩
  · rw [fieldB_skip _ (by decide), fieldB_skip _ (by decide), fieldB_head, pow_one]
  · rw [fieldB_skip _ (by decide), fieldB_skip _ (by decide), fieldB_skip _ (by decide), fieldB_skip _ (by decide), fieldB_head, h4]
  · rw [fieldB_skip _ (by decide), fieldB_skip _ (by decide), fieldB_skip _ (by decide), fieldB_skip _ (by decide),
      fieldB_skip _ (by decide), fieldB_head, h4]
  · rw [fieldB_skip _ (by decide), fieldB_skip _ (by decide), fieldB_skip _ (by decide), fieldB_skip _ (by decide),
      fieldB_skip _ (by decide), fieldB_skip _ (by decide), fieldB_skip _ (by decide), fieldB_head, h8]
  · rw [fieldB_skip _ (by decide), fieldB_skip _ (by decide), fieldB_skip _ (by decide), fieldB_skip _ (by decide),
      fieldB_skip _ (by decide), fieldB_skip _ (by decide), fieldB_skip _ (by decide), fieldB_skip _ (by decide), fieldB_head, h8]

/-! ### A record of its own -/

/-- The body of a record that no other moment has begun. -/
def freshBody (i : IslS) (kind : Nat) : List Byte :=
  recordBody i kind (islFlags i) (i.rseq + 1) (i.fig.energy - i.prevEnergy)
    (interval i 0 2 i.vMin ++ interval i 1 2 i.vMax ++ interval i 2 4 i.pMax) (i.prev.getD ((List.range 32).map Config.firstPrev))

theorem fieldB_freshBody (i : IslS) (kind : Nat) :
    fieldB (freshBody i kind) 5 1 = kind % 256 ∧ fieldB (freshBody i kind) 8 4 = (i.rseq + 1) % 2 ^ 32 ∧
      fieldB (freshBody i kind) 0xC 4 = i.boots % 2 ^ 32 ∧ fieldB (freshBody i kind) 0x18 8 = i.fig.energy % 2 ^ 64 ∧
      fieldB (freshBody i kind) 0x20 8 = (i.fig.energy - i.prevEnergy) % 2 ^ 64 := fieldB_recordBody ..

/-- The island with a record of its own. -/
def withRecord (i : IslS) (kind : Nat) : IslS :=
  { i with
    rseq := i.rseq + 1, prev := some (shake256 (freshBody i kind) 32), prevEnergy := i.fig.energy, ck := i.fig,
    unsigned := [(i.sample / 4096, freshBody i kind)],
    secs := 0, vMin := 0, vMax := 0, pMax := 0, exceeds := false, vrange := false, pulseOver := false, noWork := false, lost := false }

theorem writeRecord_of_fresh {i : IslS} {kind : Nat} (hk : i.noKey = false) (hs : i.noSign = false) (hm : i.moment = 0)
    (hu : i.unsigned = []) (h0 : kind ≠ 0) : writeRecord i kind = withRecord i kind := by
  cases i
  cases hk
  cases hs
  cases hm
  cases hu
  unfold writeRecord
  dsimp only
  rw [Nat.or_zero, if_neg (by simpa using h0)]
  rfl

theorem writeRecord_of_noKey {i : IslS} {kind : Nat} (hk : i.noKey = true) : writeRecord i kind = { i with moment := 0 } := by
  unfold writeRecord
  simp only [hk, Bool.true_or, if_true]

/-- A record leaves the seal's counters. -/
theorem seal_writeRecord (i : IslS) (kind : Nat) :
    (writeRecord i kind).sealN = i.sealN ∧ (writeRecord i kind).calid = i.calid ∧ (writeRecord i kind).on = i.on := by
  unfold writeRecord writeRecord.fresh
  dsimp only
  split
  · exact ⟨rfl, rfl, rfl⟩
  · split
    · split <;> exact ⟨rfl, rfl, rfl⟩
    · exact ⟨rfl, rfl, rfl⟩

/-- R532, R538, R539: the island as a reset starts it, before its record. -/
def restarted (i : IslS) (puf : List Bool) (calEn : Bool) : IslS :=
  { ck := i.ck, rseq := i.rseq, boots := i.boots + 1, sealN := i.sealN, calid := i.calid, resv := i.resv, prev := i.prev,
    prevEnergy := i.prevEnergy, records := i.records, cal := i.cal, lastStepRec := i.lastStepRec, lost := i.lost,
    on := true, calEn := calEn, noKey := !(puf.take 3).contains true, fig := i.ck, idx := i.resv }

theorem islandReset_eq (i : IslS) (puf : List Bool) (calEn : Bool) :
    islandReset i puf calEn = writeRecord (restarted i puf calEn) 8 := rfl

theorem islandReset_of_noKey (i : IslS) {puf : List Bool} (calEn : Bool) (h : (puf.take 3).contains true = false) :
    islandReset i puf calEn = restarted i puf calEn := by
  have hk : (restarted i puf calEn).noKey = true := by
    simp only [restarted, h]
    rfl
  rw [islandReset_eq, writeRecord_of_noKey hk]
  rfl

theorem islandReset_of_key (i : IslS) {puf : List Bool} (calEn : Bool) (h : (puf.take 3).contains true = true) :
    (restarted i puf calEn).noKey = false ∧ islandReset i puf calEn = withRecord (restarted i puf calEn) 8 := by
  have hk : (restarted i puf calEn).noKey = false := by
    simp only [restarted, h]
    rfl
  exact ⟨hk, (islandReset_eq ..).trans (writeRecord_of_fresh hk rfl rfl rfl (by decide))⟩

/-! ### Signatures and sessions -/

theorem signRecord_of_index {d : Device} {ok : Bool} {t : Nat} {b : List Byte} {rest : List (Nat × List Byte)}
    (hon : d.isl.on = true) (hk : d.isl.noKey = false) (hs : d.isl.noSign = false) (hu : d.isl.unsigned = (t, b) :: rest)
    (hi : d.isl.idx < d.isl.resv ∨ ok = true ∧ d.isl.idx < 2 ^ 40) :
    ∃ y, signRecord d ok = ({ d with isl := { d.isl with
        resv := if d.isl.idx < d.isl.resv then d.isl.resv else min (d.isl.idx + 256) (2 ^ 40)
        idx := d.isl.idx + 1
        unsigned := rest
        records := (if 64 ≤ d.isl.records.length then d.isl.records.drop 1 else d.isl.records) ++ [b ++ y] } }).send
          (.islandRecord (b ++ y) 3) := by
  have hc : (decide (d.isl.resv ≤ d.isl.idx) && (!ok || decide (2 ^ 40 ≤ d.isl.idx))) = false := by
    rcases hi with hi | ⟨rfl, hi⟩
    · rw [decide_eq_false (Nat.not_le.2 hi), Bool.false_and]
    · rw [decide_eq_false (Nat.not_le.2 hi)]
      exact Bool.and_false _
  have hr : (if d.isl.resv ≤ d.isl.idx then min (d.isl.idx + 256) (2 ^ 40) else d.isl.resv) =
      if d.isl.idx < d.isl.resv then d.isl.resv else min (d.isl.idx + 256) (2 ^ 40) := by
    by_cases h : d.isl.idx < d.isl.resv
    · rw [if_neg (by omega), if_pos h]
    · rw [if_pos (by omega), if_neg h]
  refine ⟨(leBytes 5 d.isl.idx).reverse ++ (List.range 5600).map (fun k => Config.islandSignature d.isl.idx b k), ?_⟩
  unfold signRecord
  simp only [hu]
  rw [if_neg (by simp [hon, hk, hs]), if_neg (by rw [hc]; exact Bool.false_ne_true), hr, List.append_assoc]

theorem signRecord_of_failed {d : Device} {ok : Bool} {t : Nat} {b : List Byte} {rest : List (Nat × List Byte)}
    (hon : d.isl.on = true) (hk : d.isl.noKey = false) (hs : d.isl.noSign = false) (hu : d.isl.unsigned = (t, b) :: rest)
    (hi : d.isl.resv ≤ d.isl.idx) (hok : ok = false ∨ 2 ^ 40 ≤ d.isl.idx) :
    signRecord d ok = { d with isl := { d.isl with noSign := true } } := by
  have hc : (decide (d.isl.resv ≤ d.isl.idx) && (!ok || decide (2 ^ 40 ≤ d.isl.idx))) = true := by
    rcases hok with rfl | hok
    · simp [hi]
    · rw [decide_eq_true hi, decide_eq_true hok, Bool.or_true, Bool.and_true]
  unfold signRecord
  simp only [hu]
  rw [if_neg (by simp [hon, hk, hs]), if_pos hc]

/-- R536: a calibration session with its seal, and a committed write. -/
def calibrated (i : IslS) (ok : Bool) (w : Option (List Byte)) : IslS :=
  if !i.calEn || !ok then i
  else match w with
    | some b => { (writeRecord { i with sealN := i.sealN + 1 } 4) with
        cal := b, calid := (writeRecord { i with sealN := i.sealN + 1 } 4).calid + 1 }
    | none => writeRecord { i with sealN := i.sealN + 1 } 4

theorem calibrated_spec {i : IslS} {ok : Bool} (w : Option (List Byte)) (hc : i.calEn = true) (hok : ok = true) :
    (calibrated i ok w).sealN = i.sealN + 1 ∧
      (∀ y, w = some y → (calibrated i ok w).cal = y ∧ (calibrated i ok w).calid = i.calid + 1) ∧
      (w = none → (calibrated i ok w).calid = i.calid) := by
  obtain ⟨hseal, hcal, -⟩ := seal_writeRecord { i with sealN := i.sealN + 1 } 4
  unfold calibrated
  rw [if_neg (by simp [hc, hok])]
  cases w with
  | some b => exact ⟨hseal, fun y h => ⟨Option.some.inj h, congrArg (· + 1) hcal⟩, fun h => absurd h (Option.some_ne_none b)⟩
  | none => exact ⟨hseal, fun y h => absurd h.symm (Option.some_ne_none y), fun _ => hcal⟩

/-! ### The work-counter collector -/

/-- R530: the frame of an EPOCH. -/
theorem sendWork_spec {d : Device} {e : BitVec 32} (hb : d.thaw.began = true) (he : d.work.epoch = some e) :
    ∃ y, sendWork d = ({ d with work := { d.work with seq := (d.work.seq + 1) % 2 ^ 32 } }).send (.workFrame y) ∧
      fieldB y 0 4 = 0x574D5A41 ∧ fieldB y 4 4 = e.toNat ∧ fieldB y 8 4 = d.work.seq % 2 ^ 32 ∧
      fieldB y 0xC 8 = d.cad.step % 2 ^ 64 := by
  have hw : { d.work with epoch := some e, seq := (d.work.seq + 1) % 2 ^ 32 } = { d.work with seq := (d.work.seq + 1) % 2 ^ 32 } := by
    rw [← he]
  have h4 : 256 ^ 4 = 2 ^ 32 := by norm_num
  have h8 : 256 ^ 8 = 2 ^ 64 := by norm_num
  unfold sendWork
  rw [if_neg (by simp [hb]), he]
  dsimp only
  rw [hw]
  refine ⟨_, rfl, ?_⟩
  unfold closeBody
  generalize leBytes 4 (crc32c _) = crc
  repeat rw [List.append_assoc]
  refine ⟨?_, ?_, ?_, ?_⟩
  · exact fieldB_head ..
  · rw [fieldB_skip _ (by decide), fieldB_head, h4, Nat.mod_eq_of_lt e.isLt]
  · rw [fieldB_skip _ (by decide), fieldB_skip _ (by decide), fieldB_head, h4]
  · rw [fieldB_skip _ (by decide), fieldB_skip _ (by decide), fieldB_skip _ (by decide), fieldB_head, h8]

/-! ### Hub firmware at the record link -/

/-- What the events of a record leave alone. -/
structure RecordKept (d e : Device) : Prop where
  mem : e.mem = d.mem
  met : e.met = d.met
  num : ∀ n < 256, e.num 0x8002 n = d.num 0x8002 n

theorem RecordKept.raise_if (d : Device) (p : Prop) [Decidable p] {c a b : Nat} (h : eventKeeps c 0x8002 = true) (hc : c / 4096 < 256) :
    RecordKept d (if p then d.raise c 0 0 a b else d) := by
  split
  · exact ⟨Device.raise_mem .., Device.raise_met .., fun n hn => num_raise_of_keeps d h (by omega)⟩
  · exact ⟨rfl, rfl, fun _ _ => rfl⟩

theorem RecordKept.trans {d e f : Device} (h : RecordKept d e) (h' : RecordKept e f) : RecordKept d f :=
  ⟨h'.mem.trans h.mem, h'.met.trans h.met, fun n hn => (h'.num n hn).trans (h.num n hn)⟩

theorem num_withMet (d : Device) (m : MetS) (i n k : Nat) : { d with met := m }.num i n k = d.num i n k :=
  num_of_dict_eq (d := d) (e := { d with met := m }) rfl i n k

set_option maxRecDepth 3000 in
theorem numBits_8002 : numBits 0x8002 3 = 64 := by with_unfolding_all decide

/-- R535: a record that passes and its time, in its slot. -/
def recordKept (d : Device) (r : List Byte) : Device := { d with met := { d.met with
  silentNs := d.time.nowNs + 2000000000, recNs := d.time.nowNs
  records := Map.set [] d.met.records (fieldB r 8 4 % 1024) (padTo 6144 r) } }

/-- The newest record's number and seal, and the count of records. -/
def recordCounted (d : Device) (r : List Byte) : Device :=
  ({ d.setNum 0x8002 2 0 (fieldB r 8 4) with met := { d.met with lastSeal := some (fieldB r 0x80 4) } }).addNum 0x8002 3 0 1

/-- A stored record is counted; a seal that rose, a flag and a START bring their events (R535, R541). -/
def recordEnd (d : Device) (r : List Byte) : Device :=
  let rseq := fieldB r 8 4
  let a1 := fieldB r 6 2 + fieldB r 0x80 4 * 2 ^ 16
  let newest := d.num 0x8002 2 < rseq
  let rose := match d.met.lastSeal with
    | some n => newest && decide (n < fieldB r 0x80 4)
    | none => false
  let d := if newest then { d.setNum 0x8002 2 0 rseq with met := { d.met with lastSeal := some (fieldB r 0x80 4) } } else d
  let d := d.addNum 0x8002 3 0 1
  let d := if rose then d.raise 0x9004 0 0 rseq a1 else d
  let d := if fieldB r 6 2 &&& 0x1E ≠ 0 then d.raise 0x9005 0 0 rseq a1 else d
  if bitOf (fieldB r 5 1) 3 then d.raise 0x9006 0 0 rseq a1 else d

theorem recordEnd_kept {d : Device} {r : List Byte} (hn : d.num 0x8002 2 < fieldB r 8 4) :
    RecordKept (recordCounted d r) (recordEnd d r) := by
  unfold recordEnd
  dsimp only
  rw [if_pos hn]
  exact (RecordKept.raise_if _ _ (by with_unfolding_all decide) (by decide)).trans ((RecordKept.raise_if _ _ (by with_unfolding_all decide) (by decide)).trans
    (RecordKept.raise_if _ _ (by with_unfolding_all decide) (by decide)))

theorem recordCounted_spec (d : Device) (r : List Byte) :
    (recordCounted d r).met.records = d.met.records ∧ (recordCounted d r).mem = d.mem ∧
      (recordCounted d r).num 0x8002 2 = fieldB r 8 4 ∧ (recordCounted d r).num 0x8002 3 = (d.num 0x8002 3 + 1) % 2 ^ 64 := by
  have h32 : okey (homeIdx 0x8002) 3 0 ≠ okey (homeIdx 0x8002) 2 0 := by decide
  have h23 : okey (homeIdx 0x8002) 2 0 ≠ okey (homeIdx 0x8002) 3 0 := by decide
  refine ⟨by simp [recordCounted], by simp [recordCounted], ?_, ?_⟩
  · rw [recordCounted, num_addNum_ne _ _ h32, num_withMet, Device.num_setNum_same]
  · rw [recordCounted, num_addNum_same, numBits_8002, num_withMet, Device.num_setNum_ne _ _ h23]

section
variable {d : Device} {r : List Byte} (hrun : hubRuns d = true) (hlen : r.length = 5861) (hmagic : fieldB r 0 4 = 0x4D525A41)
  (hcrc : crcTail (r.take 256) 256 = true)
include hrun hlen hmagic hcrc

theorem record_passes : ¬ ((!hubRuns d || decide (r.length ≠ 5861) || decide (fieldB r 0 4 ≠ 0x4D525A41) ||
    !crcTail (r.take 256) 256) = true) := by
  simp [hrun, hlen, hmagic, hcrc]

/-- A new record that passes goes to its slot (R535). -/
theorem storeRecord_new (hslot : Map.get [] d.met.records (fieldB r 8 4 % 1024) = []) (hnew : d.num 0x8002 2 < fieldB r 8 4) :
    Map.get [] (storeRecord d r true).met.records (fieldB r 8 4 % 1024) = padTo 6144 r ∧
      (storeRecord d r true).num 0x8002 2 = fieldB r 8 4 ∧
      (storeRecord d r true).num 0x8002 3 = (d.num 0x8002 3 + 1) % 2 ^ 64 ∧ (storeRecord d r true).mem = d.mem := by
  obtain ⟨hrec, hmem, h2, h3⟩ := recordCounted_spec (recordKept d r) r
  have hkept : RecordKept (recordCounted (recordKept d r) r) (storeRecord d r true) := by
    have hn : (recordKept d r).num 0x8002 2 < fieldB r 8 4 := by rwa [recordKept, num_withMet]
    have hend : storeRecord d r true = recordEnd (recordKept d r) r := by
      unfold storeRecord
      dsimp only
      rw [if_neg (record_passes hrun hlen hmagic hcrc), if_neg (by simp), if_neg (by simp [hslot])]
      rfl
    rw [hend]
    exact recordEnd_kept hn
  refine ⟨?_, ?_, ?_, ?_⟩
  · rw [hkept.met, hrec]
    exact Map.get_set_same ..
  · rw [hkept.num 2 (by decide), h2]
  · rw [hkept.num 3 (by decide), h3, recordKept, num_withMet]
  · exact hkept.mem.trans hmem

theorem storeRecord_failed : Raised 0x9002 d (storeRecord d r false) ∧ (storeRecord d r false).met = d.met := by
  unfold storeRecord
  dsimp only
  rw [if_neg (record_passes hrun hlen hmagic hcrc), if_pos (by simp)]
  exact ⟨raised_after _ _ _ _ (by decide) rfl, Device.raise_met ..⟩

end

/-- One object among those of an index. -/
theorem num_setNum_sub (d : Device) (idx v : Nat) {i j : Nat} (hi : i < 256) (hj : j < 256) :
    (d.setNum idx i 0 v).num idx j = if i = j then v else d.num idx j := by
  split
  · subst i
    exact Device.num_setNum_same ..
  · rename_i h
    exact Device.num_setNum_ne _ _ (okey_ne_sub h (by omega))

/-- R540: the live values of a status frame. -/
def statusValues (d : Device) (b : List Byte) : Device :=
  let f (off w : Nat) : Nat := fieldB b off w
  let d := heardIsland d
  let d := (((d.setNum 0x8001 1 0 (f 0 8)).setNum 0x8001 2 0 (f 0x10 4)).setNum 0x8001 3 0 (f 8 4)).setNum 0x8001 4 0 (f 0xC 4)
  (((d.setNum 0x8001 5 0 (f 0x14 4 % 65536)).setNum 0x8001 6 0 (f 0x18 4)).setNum 0x8001 7 0 (f 0x1C 4)).setNum 0x8001 8 0 (f 0x20 4)

/-- R538, R539: SELFTEST without a record for 2 s. -/
def selfTested (d : Device) (b : List Byte) : Device :=
  if !bitOf (fieldB b 0x14 4) 0 then { d with met := { d.met with selfTest := false } }
  else if d.met.selfTest || decide (d.time.nowNs < d.met.recNs + 2000000000) then d
  else ({ d with met := { d.met with selfTest := true } }).raise 0x9003 0 0 (d.num 0x8002 2)
    (fieldB b 0x14 4 % 65536 + fieldB b 0x18 4 * 2 ^ 16)

/-- What a frame does, where it is read at all. -/
def statusTaken (d : Device) (b : List Byte) : Device :=
  if !hubRuns d || b.length ≠ 64 || !crcTail b 64 then d else selfTested (statusValues d b) b

theorem num_selfTested (d : Device) (b : List Byte) {n : Nat} (hn : n < 256) :
    (selfTested d b).num 0x8001 n = d.num 0x8001 n ∧ (selfTested d b).mem = d.mem ∧
      (selfTested d b).met.silentNs = d.met.silentNs := by
  have hkeep : eventKeeps 0x9003 0x8001 = true := by with_unfolding_all decide
  unfold selfTested
  split
  · exact ⟨num_withMet .., rfl, rfl⟩
  · split
    · exact ⟨rfl, rfl, rfl⟩
    · exact ⟨(num_raise_of_keeps _ hkeep (by omega)).trans (num_withMet ..), Device.raise_mem .., (congrArg MetS.silentNs (Device.raise_met ..)).trans rfl⟩

theorem statusFrame_spec {d : Device} {b : List Byte} (hrun : hubRuns d = true) (hlen : b.length = 64) (hcrc : crcTail b 64 = true) :
    let x := statusTaken d b
    x.num 0x8001 1 = fieldB b 0 8 ∧ x.num 0x8001 2 = fieldB b 0x10 4 ∧ x.num 0x8001 3 = fieldB b 8 4 ∧
      x.num 0x8001 4 = fieldB b 0xC 4 ∧ x.num 0x8001 6 = fieldB b 0x18 4 ∧
      x.met.silentNs = d.time.nowNs + 2000000000 ∧ x.mem = d.mem := by
  have hx : statusTaken d b = selfTested (statusValues d b) b := if_neg (by simp [hrun, hlen, hcrc])
  obtain ⟨-, hmem, hmet⟩ := num_selfTested (statusValues d b) b (n := 1) (by decide)
  have hnum {n v : Nat} (hn : n < 256) (h : (statusValues d b).num 0x8001 n = v) : (selfTested (statusValues d b) b).num 0x8001 n = v :=
    (num_selfTested _ _ hn).1.trans h
  simp only [hx]
  refine ⟨hnum (by decide) ?_, hnum (by decide) ?_, hnum (by decide) ?_, hnum (by decide) ?_, hnum (by decide) ?_,
    hmet.trans (by simp [statusValues, heardIsland]), hmem.trans (by simp [statusValues, heardIsland])⟩
  all_goals simp [statusValues, num_setNum_sub]

/-- Settles O58: a record is written, signed and sent, and the hub keeps what passes. -/
theorem islandRecords : Obligations.IslandRecords := by
  intro s puf en ok t b rec_ fr rest w e i now signs rseq slot passes
  refine ⟨?_, fun hs hm hu hh ht => ?_, fun hs hu => ⟨fun hi => ?_, fun hi hok => ?_⟩, fun hon hr hu => ?_, fun hon => ?_, fun hb he => ?_,
    fun hrun => ⟨fun hp hslot hnew => ?_, fun hp => ?_, fun hsil => ?_, fun hlen hcrc => ?_⟩⟩
  · refine completes_run_eq (c := .islandReset puf en) (f := fun d => { d with isl := islandReset d.isl puf en })
      (fun _ => by unfold exec; exact rfl) rfl ?_
    cases hk : (puf.take 3).contains true with
    | false =>
      rw [islandReset_of_noKey _ _ hk]
      refine ⟨rfl, rfl, rfl, rfl, rfl, rfl, rfl, rfl, fun _ => ⟨?_, rfl, rfl⟩, fun h => absurd h Bool.false_ne_true⟩
      simp only [restarted, hk]
      rfl
    | true =>
      obtain ⟨hkey, hreset⟩ := islandReset_of_key s.dev.isl en hk
      rw [hreset]
      obtain ⟨h5, h8, hC, -, -⟩ := fieldB_freshBody (restarted s.dev.isl puf en) 8
      exact ⟨rfl, rfl, rfl, rfl, rfl, rfl, rfl, rfl, fun h => absurd h.symm Bool.false_ne_true, fun _ => ⟨hkey, rfl, _, congrArg (fun t => [(t, freshBody (restarted s.dev.isl puf en) 8)]) (Nat.zero_div 4096), h5, h8, hC⟩⟩
  · obtain ⟨hon, hk, hsign⟩ := hs
    have hw := writeRecord_of_fresh (i := { i with hourAt := now }) (kind := 2) hk hsign hm hu (by decide)
    refine completes_run_eq (c := .recordMoment true) (f := fun d => d.onIsland (fun i =>
      let t := i.sample / 4096
      if true ∧ i.hourAt < t ∧ t % 3600 = 0 then writeRecord { i with hourAt := t } 2 else writeRecord i 0))
      (X := { s.dev with isl := withRecord { i with hourAt := now } 2 }) (fun _ => by unfold exec; exact rfl) ?_ ?_
    · rw [onIsland_of_on hon]
      dsimp only
      rw [if_pos ⟨rfl, hh, ht⟩, ← hw]
    · obtain ⟨h5, -, -, h18, h20⟩ := fieldB_freshBody { i with hourAt := now } 2
      exact ⟨rfl, rfl, rfl, rfl, rfl, freshBody { i with hourAt := now } 2, rfl, rfl, h5, h18, h20⟩
  · obtain ⟨hon, hk, hsign⟩ := hs
    obtain ⟨y, hy⟩ := signRecord_of_index hon hk hsign hu hi
    refine completes_run_eq (c := .recordSigned ok) (f := fun d => signRecord d ok) (fun _ => by unfold exec; exact rfl) hy
      ⟨rfl, rfl, rfl, b ++ y, List.getLast?_concat .., List.take_left .., rfl⟩
  · obtain ⟨hon, hk, hsign⟩ := hs
    exact completes_run_eq (c := .recordSigned ok) (f := fun d => signRecord d ok) (fun _ => by unfold exec; exact rfl)
      (signRecord_of_failed hon hk hsign hu hi hok) rfl
  · have hn : i.records.length ≠ 0 := fun h => hr (List.length_eq_zero_iff.1 h)
    refine completes_run_of (c := .recordRotationSend) (fun _ => by unfold exec; exact rfl) ?_
    rw [if_neg (by simp [i] at hon hu hn; simp [hon, hu, hn])]
    exact ⟨rfl, rfl⟩
  · refine completes_run_eq (c := .calibrationSession ok w) (f := fun d => d.onIsland (fun i => calibrated i ok w))
      (fun _ => by unfold exec; exact rfl) (onIsland_of_on hon) ⟨rfl, fun h => ?_, fun hc hok => calibrated_spec w hc hok⟩
    have hsame : calibrated s.dev.isl ok w = s.dev.isl := if_pos (by rcases h with h | h <;> rw [h] <;> simp)
    rw [hsame]
  · obtain ⟨y, hy, hf⟩ := sendWork_spec hb he
    exact completes_run_eq (c := .workFrameSend) (f := sendWork) (fun _ => by unfold exec; exact rfl) hy ⟨rfl, y, rfl, hf⟩
  · obtain ⟨hlen, hmagic, hcrc⟩ := hp
    exact completes_run_of (c := .hubRecordReceive rec_ true) (f := fun d => storeRecord d rec_ true)
      (fun _ => by unfold exec; exact rfl) (storeRecord_new hrun hlen hmagic hcrc hslot hnew)
  · obtain ⟨hlen, hmagic, hcrc⟩ := hp
    exact completes_run_of (c := .hubRecordReceive rec_ false) (f := fun d => storeRecord d rec_ false)
      (fun _ => by unfold exec; exact rfl) (storeRecord_failed hrun hlen hmagic hcrc)
  · refine completes_run_of (c := .recordLinkSilent) (fun _ => by unfold exec; exact rfl) ?_
    rw [if_pos ⟨hrun, hsil⟩]
    exact ⟨raised_after _ _ _ _ (by decide) rfl, Device.raise_met ..⟩
  · exact completes_run_of (c := .statusFrameReceive fr) (fun _ => by unfold exec; exact rfl) (statusFrame_spec hrun hlen hcrc)

end Sys2Proof.Machine

/-! PROOFS. Firmware slots, quotes, credentials and flash records (R453, R460, R465 to R469). -/

namespace Sys2Proof.Machine

/-! ### Writes that the access rules pass -/

section
variable {c : Instr} {s : State} {k : Conn} {i sub inst v : Nat} {hook : Device → Device × Nat} {P : Device → Prop}

theorem completes_viaObject (he : ∀ u : State, exec c u = u.run (fun d => d.viaObject k i sub inst v hook))
    (hst : s.dev.valueStatus k i sub inst v = stOK) (hP : P ((hook s.dev).1.send (.answer i sub inst (hook s.dev).2))) :
    Completes c s P :=
  completes_run_eq he (by simp only [Device.viaObject, hst, if_true]; rfl) hP

theorem completes_viaDomain (he : ∀ u : State, exec c u = u.run (fun d => d.viaDomain k i sub hook))
    (hst : s.dev.accessStatus k i sub 0 = stOK) (hP : P ((hook s.dev).1.send (.answer i sub 0 (hook s.dev).2))) :
    Completes c s P :=
  completes_run_eq he (by simp only [Device.viaDomain, hst, if_true]; rfl) hP

end

/-! ### The flash -/

/-- R453: a record that was completely written is the one that is read. -/
theorem read_write (x : FlashRecS) (b : List Byte) : (x.write b true).read = some b := by
  obtain ⟨⟨ca, oka, da⟩, ⟨cb, okb, db⟩⟩ := x
  unfold FlashRecS.write FlashRecS.read
  dsimp only
  by_cases h : (if oka = true then ca else 0) ≤ if okb = true then cb else 0
  · rw [if_pos h]
    have hw : okb = false ∨ cb ≤ max (if oka = true then ca else 0) (if okb = true then cb else 0) + 1 := by
      cases okb
      · exact .inl rfl
      · exact .inr (le_trans (le_max_right _ _) (Nat.le_succ _))
    rw [if_pos (by simpa using hw)]
  · rw [if_neg h]
    have hw : ¬ (oka = true ∧ max (if oka = true then ca else 0) (if okb = true then cb else 0) + 1 ≤ ca) := by
      rintro ⟨rfl, hle⟩
      rw [if_pos rfl] at hle
      have := le_max_left ca (if okb = true then cb else 0)
      omega
    rw [if_neg (by simpa using hw), if_pos rfl]

theorem recKey_injective {r r' : FlashRec} (h : recKey r = recKey r') : r = r' := by
  cases r <;> cases r' <;> simp [recKey] at h ⊢

/-- R495: what an erased block and the record written to it leave alone. -/
structure FlashOnly (d e : Device) : Prop where
  aside : Aside { d with flash := e.flash } e
  slots : e.flash.slot0 = d.flash.slot0 ∧ e.flash.slot1 = d.flash.slot1 ∧ e.flash.preferred = d.flash.preferred
  num : ∀ i ∈ [0x1C00, 0x1D00, 0x1D01, 0x1D02], ∀ n < 256, e.num i n = d.num i n
  dom : e.dict.dom = d.dict.dom
  raised : ∀ c, c ≠ 0x600E → c ≠ 0x2207 → Map.get 0 e.evt.raised c = Map.get 0 d.evt.raised c

theorem num_withFlash (d : Device) (f : FlashS) (i n k : Nat) : { d with flash := f }.num i n k = d.num i n k :=
  num_of_dict_eq (d := d) (e := { d with flash := f }) rfl i n k

/-- R495: the greatest count of erases, and the event of a block at 9,000. -/
def wornBlock (d : Device) (n : Nat) : Device :=
  let d := if d.num 0x1C01 4 < n then d.setNum 0x1C01 4 0 n else d
  if n = 9000 then d.raise 0x600E 0 0 0 n else d

theorem wornBlock_spec (d : Device) (n : Nat) : Aside d (wornBlock d n) ∧
    (∀ i ∈ [0x1C00, 0x1D00, 0x1D01, 0x1D02], ∀ m < 256, (wornBlock d n).num i m = d.num i m) ∧
    (wornBlock d n).dict.dom = d.dict.dom ∧
    ∀ c, c ≠ 0x600E → c ≠ 0x2207 → Map.get 0 (wornBlock d n).evt.raised c = Map.get 0 d.evt.raised c := by
  let x := if d.num 0x1C01 4 < n then d.setNum 0x1C01 4 0 n else d
  have hx : Aside d x ∧ (∀ i ∈ [0x1C00, 0x1D00, 0x1D01, 0x1D02], ∀ m < 256, x.num i m = d.num i m) ∧
      x.dict.dom = d.dict.dom ∧ x.evt = d.evt := by
    simp only [x]
    split
    · have hne : ∀ i ∈ [0x1C00, 0x1D00, 0x1D01, 0x1D02], homeIdx 0x1C01 ≠ homeIdx i := by decide
      exact ⟨.setNum .., fun i hi m hm => Device.num_setNum_ne _ _ (okey_ne_idx (hne i hi) (by omega)), Device.dom_setNum .., Device.setNum_evt ..⟩
    · exact ⟨.refl d, fun _ _ _ _ => rfl, rfl, rfl⟩
  obtain ⟨ha, hn, hd, he⟩ := hx
  have hw : wornBlock d n = if n = 9000 then x.raise 0x600E 0 0 0 n else x := rfl
  rw [hw]
  split
  · have hkeep : ∀ i ∈ [0x1C00, 0x1D00, 0x1D01, 0x1D02], eventKeeps 0x600E i = true := by with_unfolding_all decide
    exact ⟨ha.trans (.raise ..), fun i hi m hm => (num_raise_of_keeps _ (hkeep i hi) (by omega)).trans (hn i hi m hm), (dom_raise ..).trans hd,
      fun c h1 h2 => (raised_raise_ne _ _ _ _ _ (Ne.symm h1) h2).trans (by rw [he])⟩
  · exact ⟨ha, hn, hd, fun c _ _ => by rw [he]⟩

section
variable (d : Device) (r : FlashRec) (b : List Byte) (ok : Bool)

/-- The flash with a record in its next block, which is erased once more. -/
def flashWritten : FlashS :=
  let f := { d.flash with
    recs := Map.upd {} d.flash.recs (recKey r) (fun x => x.write b ok), nextBlk := (d.flash.nextBlk + 1) % 4096 }
  { f with erase := Map.set 0 f.erase ((f.nextBlk + 4095) % 4096) (Map.get 0 f.erase ((f.nextBlk + 4095) % 4096) + 1) }

theorem recs_flashWritten :
    (flashWritten d r b ok).recs = Map.upd {} d.flash.recs (recKey r) (fun x => x.write b ok) := rfl

theorem writeRec_eq : d.writeRec r b ok = wornBlock { d with flash := flashWritten d r b ok }
    (Map.get 0 d.flash.erase (((d.flash.nextBlk + 1) % 4096 + 4095) % 4096) + 1) := rfl

theorem flash_writeRec : (d.writeRec r b ok).flash = flashWritten d r b ok := by
  have h := congrArg Device.flash (wornBlock_spec { d with flash := flashWritten d r b ok }
    (Map.get 0 d.flash.erase (((d.flash.nextBlk + 1) % 4096 + 4095) % 4096) + 1)).1
  rw [writeRec_eq]
  exact h

theorem flashOnly_writeRec : FlashOnly d (d.writeRec r b ok) := by
  obtain ⟨ha, hn, hd, he⟩ := wornBlock_spec { d with flash := flashWritten d r b ok }
    (Map.get 0 d.flash.erase (((d.flash.nextBlk + 1) % 4096 + 4095) % 4096) + 1)
  have hf := flash_writeRec d r b ok
  refine ⟨?_, ?_, fun i hi n hn' => ?_, ?_, fun c h1 h2 => ?_⟩
  · rw [hf, writeRec_eq]
    exact ha
  · rw [hf]
    exact ⟨rfl, rfl, rfl⟩
  · rw [writeRec_eq]
    exact (hn i hi n hn').trans (num_withFlash ..)
  · rw [writeRec_eq]
    exact hd
  · rw [writeRec_eq]
    exact he c h1 h2

theorem flashRec_of_flash_eq {d e : Device} (h : e.flash = d.flash) (r : FlashRec) : e.flashRec r = d.flashRec r := by
  simp only [Device.flashRec, h]

theorem flashNum_of_flash_eq {d e : Device} (h : e.flash = d.flash) (r : FlashRec) : e.flashNum r = d.flashNum r := by
  simp only [Device.flashNum, flashRec_of_flash_eq h]

theorem flashRec_writeRec_same : (d.writeRec r b true).flashRec r = some b := by
  rw [Device.flashRec, flash_writeRec, recs_flashWritten, Map.get_upd_same, read_write]

theorem flashRec_writeRec_ne {r' : FlashRec} (h : r' ≠ r) : (d.writeRec r b ok).flashRec r' = d.flashRec r' := by
  rw [Device.flashRec, flash_writeRec, recs_flashWritten, Map.get_upd_ne _ _ _ fun e => h (recKey_injective e).symm]
  rfl

end

/-! ### Sessions -/

theorem sid_of_session {d : Device} {k : Nat} {x : Session} (h : d.session k = some x) : x.sid = k := by
  simpa using List.find?_some h

theorem num_setSession (d : Device) (x : Session) (i n k : Nat) : (d.setSession x).num i n k = d.num i n k :=
  num_of_dict_eq (d := d) (e := d.setSession x) rfl i n k

theorem session_setSession_same {d : Device} {k : Nat} {x y : Session} (h : d.session k = some x) (hy : y.sid = k) :
    (d.setSession y).session k = some y := by
  have key : ∀ l : List Session, l.find? (fun s => s.sid == k) = some x →
      (l.map (fun s => if s.sid = y.sid then y else s)).find? (fun s => s.sid == k) = some y := by
    intro l
    induction l with
    | nil => exact fun h => nomatch h
    | cons z l ih =>
      intro hz
      rw [List.map_cons, List.find?_cons]
      by_cases hzk : z.sid = k
      · simp [hzk, hy]
      · rw [List.find?_cons] at hz
        simp only [beq_eq_false_iff_ne.2 hzk, hy, if_neg hzk] at hz ⊢
        rw [← hy]
        rw [hy]
        simpa only [hy] using ih hz
  exact key _ h

/-! ### The credential store -/

theorem sliceB_head {a b : List Byte} {n : Nat} (h : a.length = n) : sliceB (a ++ b) 0 n = a := by
  subst h
  simp [sliceB]

theorem sliceB_tail {a b : List Byte} {n : Nat} (h : a.length = n) (o k : Nat) : sliceB (a ++ b) (n + o) k = sliceB b o k := by
  subst h
  simp [sliceB, List.drop_append, List.drop_eq_nil_of_le]

/-- A store of 84-byte entries is read back as they are. -/
theorem entries_flatten (l : List (List Byte)) (h : ∀ e ∈ l, e.length = 84) :
    (List.range (l.flatten.length / 84)).map (fun i => sliceB l.flatten (84 * i) 84) = l := by
  induction l with
  | nil => rfl
  | cons e l ih =>
    have he : e.length = 84 := h e List.mem_cons_self
    have hlen : (e :: l).flatten.length / 84 = l.flatten.length / 84 + 1 := by
      rw [List.flatten_cons, List.length_append, he]
      omega
    rw [hlen, List.range_succ_eq_map, List.map_cons, List.map_map, List.flatten_cons]
    refine congrArg₂ List.cons (sliceB_head he) (Eq.trans ?_ (ih fun x hx => h x (List.mem_cons_of_mem _ hx)))
    refine List.map_congr_left fun i _ => ?_
    rw [Function.comp_apply, Nat.mul_succ, Nat.add_comm, sliceB_tail he]

theorem length_of_mem_creds {d : Device} {e : List Byte} (h : e ∈ d.creds) : e.length = 84 := by
  obtain ⟨i, hi, rfl⟩ := List.mem_map.1 h
  have hlt := List.mem_range.1 hi
  rw [sliceB, List.length_take, List.length_drop]
  omega

theorem closeSession_spec (d : Device) (sid : Nat) :
    (d.closeSession sid).flash = d.flash ∧ (d.closeSession sid).mgmt.conns = d.mgmt.conns := by
  unfold Device.closeSession
  split
  · exact ⟨rfl, rfl⟩
  · simp [apply_ite Device.flash, apply_ite Device.mgmt]

/-- R469: the store as written, and the connections that its change leaves. -/
theorem storeCreds_spec (d : Device) (l : List (List Byte)) (ident : List Byte) (h : ∀ e ∈ l, e.length = 84) :
    (d.storeCreds l ident).creds = l ∧ ∀ z ∈ (d.storeCreds l ident).mgmt.conns, z.2.2.2 ≠ ident := by
  let x := ((d.writeRec .creds l.flatten true).setDom 0x1D03 3 0 (l.flatMap (fun e => e.take 36))).touched 0x1D03 3
  let y := { x with mgmt := { x.mgmt with conns := x.mgmt.conns.filter (fun c => c.2.2.2 != ident) } }
  have hclose : ∀ (m : List Session) (e : Device), (m.foldl (fun d s => d.closeSession s.sid) e).flash = e.flash ∧
      (m.foldl (fun d s => d.closeSession s.sid) e).mgmt.conns = e.mgmt.conns := fun m e =>
    foldl_rel (R := fun d e : Device => e.flash = d.flash ∧ e.mgmt.conns = d.mgmt.conns) (fun _ => ⟨rfl, rfl⟩)
      (fun _ _ _ h h' => ⟨h'.1.trans h.1, h'.2.trans h.2⟩) (fun d s => closeSession_spec d s.sid) m e
  have hs : d.storeCreds l ident = (y.mgmt.sessions.filter (fun s => s.ident == ident)).foldl (fun d s => d.closeSession s.sid) y := rfl
  obtain ⟨hflash, hconns⟩ := hclose (y.mgmt.sessions.filter (fun s => s.ident == ident)) y
  rw [← hs] at hflash hconns
  have hrec : (d.storeCreds l ident).flashRec .creds = some l.flatten :=
    (flashRec_of_flash_eq (d := d.writeRec .creds l.flatten true) hflash .creds).trans (flashRec_writeRec_same ..)
  refine ⟨?_, fun z hz => ?_⟩
  · rw [Device.creds, hrec]
    exact entries_flatten l h
  · rw [hconns] at hz
    simpa using (List.mem_filter.1 hz).2

/-! ### The image and its commands -/

theorem slotOf_setSlot_same (d : Device) (n : Nat) (b : List Byte) : (d.setSlot n b).slotOf n = b := by
  unfold Device.setSlot Device.slotOf
  split <;> rfl

theorem slotOf_setSlot_ne (d : Device) {n m : Nat} (b : List Byte) (h : (n = 0) ≠ (m = 0)) :
    (d.setSlot n b).slotOf m = d.slotOf m := by
  unfold Device.setSlot Device.slotOf
  by_cases hn : n = 0 <;> by_cases hm : m = 0
  · simp [hn, hm] at h
  · simp [hn, hm]
  · simp [hn, hm]
  · simp [hn, hm] at h

/-- R460: the preferred slot falls back to the running one where an activated image is replaced. -/
def unpreferred (d : Device) : Device :=
  if d.num 0x1D01 3 = 4 then { d with flash := { d.flash with preferred := d.num 0x1D00 1 } } else d

theorem unpreferred_spec (d : Device) : (unpreferred d).dict = d.dict ∧ ∀ n, (unpreferred d).slotOf n = d.slotOf n := by
  unfold unpreferred
  split
  · exact ⟨rfl, fun _ => rfl⟩
  · exact ⟨rfl, fun _ => rfl⟩

/-- The image in the slot that is not running. -/
def imaged (d : Device) (b : List Byte) : Device :=
  (((d.setSlot d.inactive b).setDom 0x1D01 1 0 b).setNum 0x1D01 3 0 1).touched 0x1D01 1

theorem imaged_spec (d : Device) (b : List Byte) : (imaged d b).slotOf d.inactive = b ∧ (imaged d b).num 0x1D01 3 = 1 ∧
    (d.num 0x1D00 1 < 2 → (imaged d b).slotOf (d.num 0x1D00 1) = d.slotOf (d.num 0x1D00 1)) := by
  have hflash : (imaged d b).flash = (d.setSlot d.inactive b).flash := by simp [imaged, Device.touched]
  have hslot (n : Nat) : (imaged d b).slotOf n = (d.setSlot d.inactive b).slotOf n := by simp only [Device.slotOf, hflash]
  refine ⟨(hslot _).trans (slotOf_setSlot_same ..), ?_, fun h => (hslot _).trans (slotOf_setSlot_ne _ _ ?_)⟩
  · exact (num_of_dict_eq (d := ((d.setSlot d.inactive b).setDom 0x1D01 1 0 b).setNum 0x1D01 3 0 1) (e := imaged d b) rfl _ _ _).trans
      (Device.num_setNum_same ..)
  · simp only [Device.inactive, ne_eq, eq_iff_iff]
    omega

theorem fwImageHook_spec {d : Device} {b : List Byte} (hv : d.att.verifying = false) (hb : b.length ≤ 2 ^ 26) :
    (fwImageHook b d).1 = imaged (unpreferred d) b ∧ (fwImageHook b d).2 = stOK := by
  unfold fwImageHook
  rw [if_neg (by simp [hv]), if_neg (Nat.not_lt.2 hb)]
  exact ⟨rfl, rfl⟩

theorem evRow_700C : evRow 0x700C = ⟨0x700C, 1, false, []⟩ := by with_unfolding_all rfl

/-- Only a FATAL event changes RUN_STATE. -/
theorem runState_raiseRaw {d : Device} {c : Nat} (h : (evRow c).sev ≠ 3) (hc : c / 4096 < 256) (ua ui a b : Nat) :
    (d.raiseRaw c ua ui a b).runState = d.runState := by
  have hsev := evRow_sev_le c
  have hlog : (rawLogged (rawCounted d c) c (rawRec d c ua ui a b)).num 0x1100 1 = (rawCounted d c).num 0x1100 1 := by
    unfold rawLogged
    split
    · rfl
    · split
      · exact num_withEvt ..
      · exact num_logRec _ _ (okey_ne_idx (by decide) (by omega)) (okey_ne_idx (by decide) (by omega))
  rw [raiseRaw_eq, Device.runState, num_rawEnd_of_not_fatal _ _ h, hlog,
    num_rawCounted _ _ (okey_ne_idx (by decide) (by omega)) (okey_ne_idx (by decide) (by omega))]
  rfl

/-! ### Quotes -/

/-- What a quote shows of the device. -/
structure QuoteSame (d e : Device) : Prop where
  dom : e.dict.dom = d.dict.dom
  run : e.runState = d.runState
  svn : e.num 0x1D00 3 = d.num 0x1D00 3
  floor : e.num 0x1D00 4 = d.num 0x1D00 4
  cad : e.cad = d.cad
  time : e.time = d.time

theorem quoteBody_of_same {d e : Device} (h : QuoteSame d e) (n : List Byte) : quoteBody e n = quoteBody d n := by
  obtain ⟨hdom, hrun, hsvn, hfloor, hcad, htime⟩ := h
  simp only [quoteBody, Device.domOf, hdom, hrun, hsvn, hfloor, hcad, htime]

/-- The index is used up, with a warning near the last one, and the quote leaves the queue. -/
def indexUsed (d : Device) (rest : List Nat) : Device :=
  let i := d.num 0x1D02 6
  let d := d.setNum 0x1D02 6 0 (i + 1)
  let d := if i + 1 = 2 ^ 40 - 2 ^ 30 then d.raise 0x700C else d
  { d with att := { d.att with queue := rest } }

theorem num_withAtt (d : Device) (a : AttS) (i n k : Nat) : { d with att := a }.num i n k = d.num i n k :=
  num_of_dict_eq (d := d) (e := { d with att := a }) rfl i n k

theorem QuoteSame.withAtt {d e : Device} (h : QuoteSame d e) (a : AttS) : QuoteSame d { e with att := a } :=
  ⟨h.dom, (num_withAtt ..).trans h.run, (num_withAtt ..).trans h.svn, (num_withAtt ..).trans h.floor, h.cad, h.time⟩

theorem QuoteSame.raise_700C {d e : Device} (h : QuoteSame d e) : QuoteSame d (e.raise 0x700C) := by
  have hkeep : eventKeeps 0x700C 0x1D00 = true := by with_unfolding_all decide
  refine ⟨(dom_raise ..).trans h.dom, ?_, (num_raise_of_keeps _ hkeep (by omega)).trans h.svn, (num_raise_of_keeps _ hkeep (by omega)).trans h.floor,
    (Device.raise_cad ..).trans h.cad, (Device.raise_time ..).trans h.time⟩
  have hclean : (evRow 0x700C).taint = false := by rw [evRow_700C]
  have hcount : e.countEvent 0x700C 0 = e := by simp [Device.countEvent, evRow_700C]
  rw [raise_of_clean _ hclean, hcount, runState_raiseRaw (by rw [evRow_700C]; decide) (by decide)]
  exact h.run

theorem indexUsed_spec (d : Device) (rest : List Nat) : QuoteSame d (indexUsed d rest) ∧
    (indexUsed d rest).num 0x1D02 6 = d.num 0x1D02 6 + 1 ∧ (indexUsed d rest).flash = d.flash ∧
    (indexUsed d rest).mgmt = d.mgmt ∧ (indexUsed d rest).att.queue = rest := by
  let x := d.setNum 0x1D02 6 0 (d.num 0x1D02 6 + 1)
  have hx : QuoteSame d x := ⟨Device.dom_setNum .., Device.num_setNum_ne _ _ (okey_ne_idx (by decide) (by omega)),
    Device.num_setNum_ne _ _ (okey_ne_idx (by decide) (by omega)), Device.num_setNum_ne _ _ (okey_ne_idx (by decide) (by omega)), by simp [x], by simp [x]⟩
  have hn : x.num 0x1D02 6 = d.num 0x1D02 6 + 1 := Device.num_setNum_same ..
  have he : indexUsed d rest = { (if d.num 0x1D02 6 + 1 = 2 ^ 40 - 2 ^ 30 then x.raise 0x700C else x) with
      att := { (if d.num 0x1D02 6 + 1 = 2 ^ 40 - 2 ^ 30 then x.raise 0x700C else x).att with queue := rest } } := rfl
  rw [he]
  split
  · have hkeep : eventKeeps 0x700C 0x1D02 = true := by with_unfolding_all decide
    refine ⟨hx.raise_700C.withAtt _, ?_, ?_, ?_, rfl⟩
    · rw [num_withAtt, num_raise_of_keeps _ hkeep (by omega), hn]
    · simp [x]
    · simp [x]
  · refine ⟨hx.withAtt _, (num_withAtt ..).trans hn, ?_, ?_, rfl⟩
    · simp [x]
    · simp [x]

/-- R467: the quote of a nonce under index `i`: its body, the index and the signature. -/
def quoteOf (d : Device) (n : List Byte) (i : Nat) : List Byte :=
  quoteBody d n ++ (leBytes 5 i).reverse ++ (List.range 5600).map (fun j => Config.idSignature i (quoteBody d n) j)

/-- The session's quote is there. -/
def quoted (d : Device) (k i : Nat) : Device :=
  match d.session k with
  | some x => match x.nonce with
    | some n => d.setSession { x with quote := quoteOf d n i }
    | none => d
  | none => d

/-- R465: the device after the oldest quote's signature, or after its failure. -/
def signed (d : Device) (ok : Bool) (k : Nat) (rest : List Nat) : Device :=
  let i := d.num 0x1D02 6
  let res := d.num 0x1D02 7
  let fin := min (res + 1024) (2 ^ 40)
  let w := if res ≤ i then d.writeRec .index (leBytes 5 fin) ok else d
  if d.num 0x1D02 5 ≠ 0 then d
  else if 2 ^ 40 ≤ i then disableSigning d
  else if res ≤ i && !ok then disableSigning w
  else
    let d := if res ≤ i then w.setNum 0x1D02 7 0 fin else w
    let d := d.setNum 0x1D02 6 0 (i + 1)
    let d := if i + 1 = 2 ^ 40 - 2 ^ 30 then d.raise 0x700C else d
    quoted { d with att := { d.att with queue := rest } } k i

theorem completes_quoteSigned {s : State} {ok : Bool} {k : Nat} {rest : List Nat} (hq : s.dev.att.queue = k :: rest) {P : Device → Prop}
    (hP : P (signed s.dev ok k rest)) : Completes (.quoteSigned ok) s P := by
  refine completes_run_eq (c := .quoteSigned ok) (X := signed s.dev ok k rest) (fun _ => by unfold exec; exact rfl) ?_ hP
  rw [hq]
  rfl

section
variable {d : Device} {ok : Bool} {k : Nat} {rest : List Nat} (h5 : d.num 0x1D02 5 = 0)
include h5

/-- R465: the reservation still holds an index: the oldest quote is signed. -/
theorem signed_within (hi : d.num 0x1D02 6 < 2 ^ 40) (hres : d.num 0x1D02 6 < d.num 0x1D02 7) :
    signed d ok k rest = quoted (indexUsed d rest) k (d.num 0x1D02 6) := by
  have hr : ¬ d.num 0x1D02 7 ≤ d.num 0x1D02 6 := Nat.not_le.2 hres
  unfold signed
  dsimp only
  rw [if_neg (not_not.2 h5), if_neg (Nat.not_le.2 hi), if_neg (by simp [hr]), if_neg hr, if_neg hr]
  rfl

/-- R465: no new reservation could be written: signing ends. -/
theorem signed_failed (hres : d.num 0x1D02 7 ≤ d.num 0x1D02 6) : signed d false k rest = disableSigning d ∨
    ∃ b, signed d false k rest = disableSigning (d.writeRec .index b false) := by
  unfold signed
  dsimp only
  rw [if_neg (not_not.2 h5)]
  split
  · exact .inl rfl
  · rw [if_pos (by simp [hres])]
    exact .inr ⟨_, rfl⟩

end

theorem disableSigning_spec {d e : Device} (h6 : e.num 0x1D02 6 = d.num 0x1D02 6)
    (hr : Map.get 0 e.evt.raised 0x700B = Map.get 0 d.evt.raised 0x700B) :
    (disableSigning e).num 0x1D02 5 = 2 ∧ Raised 0x700B d (disableSigning e) ∧ (disableSigning e).num 0x1D02 6 = d.num 0x1D02 6 := by
  have hkeep : eventKeeps 0x700B 0x1D02 = true := by with_unfolding_all decide
  refine ⟨(num_raise_of_keeps _ hkeep (by omega)).trans (Device.num_setNum_same ..), raised_after _ _ _ _ (by decide) ?_, ?_⟩
  · rw [Device.setNum_evt, hr]
  · exact (num_raise_of_keeps _ hkeep (by omega)).trans ((Device.num_setNum_ne _ _ (okey_ne_sub (by decide) (by omega))).trans ((num_withAtt ..).trans h6))

theorem session_of_mgmt_eq {d e : Device} (h : e.mgmt = d.mgmt) (k : Nat) : e.session k = d.session k := by
  simp only [Device.session, h]

/-! ### Credentials -/

/-- The entry that a credential write keeps: its reserved bytes are zero. -/
def credEntry (b : List Byte) : List Byte := b.take 2 ++ [0, 0] ++ b.drop 4

section
variable {b : List Byte} (hb : b.length = 84)
include hb

theorem length_credEntry : (credEntry b).length = 84 := by
  simp [credEntry, hb]

theorem drop_credEntry (n : Nat) : (credEntry b).drop (4 + n) = b.drop (4 + n) := by
  have h : (b.take 2 ++ [0, 0]).length = 4 := by simp [hb]
  rw [credEntry, List.drop_append, h, List.drop_eq_nil_of_le (by omega), List.nil_append, Nat.add_sub_cancel_left, List.drop_drop]

theorem fieldB_credEntry {o : Nat} (ho : o < 2) : fieldB (credEntry b) o 1 = fieldB b o 1 := by
  have h : sliceB (credEntry b) o 1 = sliceB b o 1 := by
    have h1 : ((credEntry b).take 2) = b.take 2 := by
      rw [credEntry, List.append_assoc, List.take_append_of_le_length (by simp [hb]), List.take_take]
      rfl
    have h2 (l : List Byte) : sliceB l o 1 = sliceB (l.take 2) o 1 := by
      rw [sliceB, sliceB, List.drop_take, List.take_take]
      congr 1
      omega
    rw [h2, h1, ← h2]
  rw [fieldB, h, fieldB]

theorem credIdent_credEntry : Device.credIdent (credEntry b) = Device.credIdent b := by
  rw [Device.credIdent, Device.credIdent, fieldB_credEntry hb (by decide)]
  exact congrArg (List.take _) (drop_credEntry hb 0)

end

/-- R469: a new entry joins the store. -/
theorem credWriteHook_new {d : Device} {c : Conn} {b : List Byte} (hb : b.length = 84) (h1 : 1 ≤ fieldB b 0 1) (h3 : fieldB b 0 1 ≤ 3)
    (hn1 : 1 ≤ fieldB b 1 1) (hn32 : fieldB b 1 1 ≤ 32)
    (hz : (b.drop (4 + fieldB b 1 1)).take (32 - fieldB b 1 1) = List.replicate (32 - fieldB b 1 1) 0)
    (hceil : fieldB b 0 1 ≤ d.connCeil c) (hnew : d.creds.any (fun e => Device.credIdent e == Device.credIdent b) = false)
    (hroom : d.creds.length < 32) :
    credWriteHook c b d = (d.storeCreds (d.creds ++ [credEntry b]) (Device.credIdent b), stOK) := by
  have he : b.take 2 ++ List.replicate 2 0 ++ b.drop 4 = credEntry b := rfl
  unfold credWriteHook
  dsimp only
  rw [he, if_neg (not_not.2 hb), fieldB_credEntry hb (by decide), fieldB_credEntry hb (by decide), drop_credEntry hb,
    credIdent_credEntry hb, if_neg (by simp only [hz, ne_eq, not_true_eq_false, or_false]; omega), if_neg (Nat.not_lt.2 hceil),
    if_neg (by rw [hnew]; exact Bool.false_ne_true), if_neg (Nat.not_le.2 hroom)]

theorem creds_send (d : Device) (m : OutMsg) : (d.send m).creds = d.creds := rfl

/-- R460: the end of a VERIFY. -/
def verified (e : Device) : Device :=
  let d := { e with att := { e.att with verifying := false } }
  let m := d.slotOf d.inactive
  let good := manifestOk m && [1, 2, 3].all (imageMatches m)
  if !good then d.setNum 0x1D01 3 0 3
  else if slotSvn m < d.num 0x1D00 4 then
    (d.setNum 0x1D01 3 0 3).raise 0x700D 0 0 d.inactive (leNat ((shake256 (signedPart m) 32).take 8))
  else d.setNum 0x1D01 3 0 2

theorem verified_spec (d : Device) :
    let m := d.slotOf d.inactive
    let good := manifestOk m && [1, 2, 3].all (imageMatches m)
    (verified d).att.verifying = false ∧
      (verified d).num 0x1D01 3 = (if good = true ∧ d.num 0x1D00 4 ≤ slotSvn m then 2 else 3) ∧
      (good = true → slotSvn m < d.num 0x1D00 4 → Raised 0x700D d (verified d)) ∧ (verified d).flash = d.flash := by
  have hin : ({ d with att := { d.att with verifying := false } } : Device).inactive = d.inactive := by
    simp only [Device.inactive, num_withAtt]
  have hslot (n : Nat) : ({ d with att := { d.att with verifying := false } } : Device).slotOf n = d.slotOf n := rfl
  have hkeep : eventKeeps 0x700D 0x1D01 = true := by with_unfolding_all decide
  unfold verified
  simp only [hin, hslot, num_withAtt]
  generalize (manifestOk (d.slotOf d.inactive) && [1, 2, 3].all (imageMatches (d.slotOf d.inactive))) = good
  generalize slotSvn (d.slotOf d.inactive) = svn
  cases good with
  | false => exact ⟨by simp, by simp, fun h => absurd h Bool.false_ne_true, by simp⟩
  | true =>
    by_cases hlt : svn < d.num 0x1D00 4
    · simp only [Bool.not_true, Bool.false_eq_true, if_false, if_pos hlt]
      refine ⟨by simp, ?_, fun _ _ => raised_after _ _ _ _ (by decide) (by rw [Device.setNum_evt]), by simp⟩
      rw [num_raise_of_keeps _ hkeep (by omega), Device.num_setNum_same, if_neg (by simpa using hlt)]
    · simp only [Bool.not_true, Bool.false_eq_true, if_false, if_neg hlt]
      refine ⟨by simp, ?_, fun _ h => absurd h hlt, by simp⟩
      rw [Device.num_setNum_same, if_pos ⟨trivial, Nat.not_lt.1 hlt⟩]

/-- Settles O48: each command by its hook's lemma. -/
theorem firmwareAndIdentity : Obligations.FirmwareAndIdentity := by
  intro s c b nonce boot sid ok r ans staged floor_ m good recent n ix
  refine ⟨fun hst hv hb => ?_, fun hst => ?_, fun hst => ?_, fun hst hrun => ?_, fun hv => ?_, fun x hx hn h5 hr => ?_,
    fun k rest x nn hq h5 hi hres hx hnn => ?_, fun k rest hq h5 hres => ?_, fun h5 => ?_, fun hst hlen h1 h3 hn1 hn32 hz hceil hnew hroom => ?_,
    fun hst hany => ?_, ?_⟩
  · obtain ⟨h1, h2⟩ := fwImageHook_spec (d := s.dev) hv hb
    obtain ⟨hslot, h3, hother⟩ := imaged_spec (unpreferred s.dev) b
    obtain ⟨hdict, hsame⟩ := unpreferred_spec s.dev
    have hnum : (unpreferred s.dev).num 0x1D00 1 = s.dev.num 0x1D00 1 := num_of_dict_eq hdict _ _ _
    have hin : (unpreferred s.dev).inactive = s.dev.inactive := by rw [Device.inactive, hnum]; rfl
    rw [hin] at hslot
    rw [hnum] at hother
    refine completes_viaDomain (c := .fwImage c b) (fun _ => by unfold exec; exact rfl) hst ?_
    rw [h1, h2]
    exact ⟨hslot, (num_send ..).trans h3, fun h => (hother h).trans (hsame _), rfl⟩
  · refine completes_viaObject (c := .fwVerify c) (fun _ => by unfold exec; exact rfl) hst ?_
    unfold fwVerifyHook
    by_cases h : staged = 0
    · rw [if_pos h, if_pos h]
      exact ⟨rfl, rfl⟩
    · rw [if_neg h, if_neg h]
      exact ⟨rfl, rfl⟩
  · refine completes_viaObject (c := .fwActivate c) (fun _ => by unfold exec; exact rfl) hst ?_
    unfold fwActivateHook
    by_cases h : staged ≠ 2
    · rw [if_pos h, if_pos h]
      exact ⟨rfl, rfl⟩
    · rw [if_neg h, if_neg h]
      exact ⟨rfl, by simp, (num_send ..).trans (Device.num_setNum_same ..)⟩
  · refine completes_viaObject (c := .fwCommit c) (fun _ => by unfold exec; exact rfl) hst ?_
    unfold fwCommitHook
    rw [if_neg (by tauto)]
    have hw := flashOnly_writeRec s.dev .floor (leBytes 4 floor_) true
    have hkeep : eventKeeps 0x700E 0x1D00 = true := by with_unfolding_all decide
    refine ⟨rfl, ?_, ?_, ?_⟩
    · exact (num_send ..).trans ((num_raise_of_keeps _ hkeep (by omega)).trans (Device.num_setNum_same ..))
    · have hf : (s.dev.writeRec .floor (leBytes 4 floor_) true).flashNum .floor = floor_ % 2 ^ 32 := by
        rw [Device.flashNum, flashRec_writeRec_same, Option.getD_some, leNat_leBytes]
        norm_num
      exact (flashNum_of_flash_eq (by simp [floor_]) _).trans hf
    · refine (raised_after (d := s.dev) (x := (s.dev.writeRec .floor (leBytes 4 floor_) true).setNum 0x1D00 4 0 floor_)
        _ _ _ _ (by decide) ?_).of_evt_eq rfl rfl
      rw [Device.setNum_evt]
      exact hw.raised _ (by decide) (by decide)
  · refine completes_run_eq (c := .fwVerifyDone boot) (X := verified s.dev) (fun _ => by unfold exec; exact rfl) ?_ (verified_spec s.dev)
    exact if_neg (by simp [hv])
  · have hsid := sid_of_session hx
    refine completes_run_of (c := .attNonce sid nonce) (fun _ => by unfold exec; exact rfl) ?_
    unfold nonceHook
    rw [hx]
    dsimp only
    rw [if_neg (not_not.2 hn), if_neg (not_not.2 h5), if_neg (Nat.not_le.2 hr)]
    exact ⟨rfl, session_setSession_same hx hsid, rfl⟩
  · have hsid := sid_of_session hx
    obtain ⟨hbody, h6, hflash, hmgmt, hqueue⟩ := indexUsed_spec s.dev rest
    have hs : (indexUsed s.dev rest).session k = some x := (session_of_mgmt_eq hmgmt k).trans hx
    refine completes_quoteSigned hq ?_
    rw [signed_within h5 hi hres, quoted, hs]
    dsimp only
    rw [hnn]
    dsimp only
    obtain ⟨tail, htail⟩ : ∃ tail, quoteOf (indexUsed s.dev rest) nn ix = quoteBody s.dev nn ++ (leBytes 5 ix).reverse ++ tail :=
      ⟨_, by rw [quoteOf, quoteBody_of_same hbody]⟩
    exact ⟨hqueue, (num_setSession ..).trans h6, hflash, _, tail, session_setSession_same hs hsid, htail⟩
  · refine completes_quoteSigned hq ?_
    rcases signed_failed (k := k) (rest := rest) h5 hres with h | ⟨y, h⟩
    · rw [h]
      exact disableSigning_spec rfl rfl
    · rw [h]
      have hw := flashOnly_writeRec s.dev .index y false
      exact disableSigning_spec (hw.num _ (by simp) _ (by decide)) (hw.raised _ (by decide) (by decide))
  · refine completes_run_eq (c := .signingTreeRebuilt) (X := s.dev.setNum 0x1D02 5 0 0) (fun _ => by unfold exec; exact rfl) ?_
      ⟨Device.num_setNum_same .., Device.setNum_att ..⟩
    exact if_pos h5
  · refine completes_viaDomain (c := .secCredWrite c b) (fun _ => by unfold exec; exact rfl) hst ?_
    rw [credWriteHook_new hlen h1 h3 hn1 hn32 hz hceil hnew hroom]
    refine ⟨(creds_send ..).trans (storeCreds_spec _ _ _ fun e he => ?_).1, rfl⟩
    rcases List.mem_append.1 he with he | he
    · exact length_of_mem_creds he
    · rw [List.mem_singleton.1 he, length_credEntry hlen]
  · refine completes_viaDomain (c := .secCredDelete c b) (fun _ => by unfold exec; exact rfl) hst ?_
    obtain ⟨hc, hconns⟩ := storeCreds_spec s.dev (s.dev.creds.filter (fun e => Device.credIdent e != b)) b
      fun e he => length_of_mem_creds (List.mem_filter.1 he).1
    rw [credDeleteHook, if_pos hany]
    exact ⟨(creds_send ..).trans hc, rfl, hconns⟩
  · exact completes_run_of (c := .flashRecordWrite r b true) (f := fun d => d.writeRec r b true) (fun _ => by unfold exec; exact rfl)
      ⟨flashRec_writeRec_same .., (flashOnly_writeRec ..).aside.mem, fun r' h => flashRec_writeRec_ne _ _ _ _ h⟩

end Sys2Proof.Machine

/-! PROOFS. Control images reach the cores (R461 to R463). -/

namespace Sys2Proof.Machine

/-! ### The image of a position -/

@[simp] theorem img_setImg_same (d : Device) (x : Nat) (i : ImgS) : (d.setImg x i).img x = i := Map.get_set_same ..

theorem img_setImg_ne (d : Device) {x y : Nat} (i : ImgS) (h : x ≠ y) : (d.setImg x i).img y = d.img y :=
  Map.get_set_ne _ _ _ h

theorem img_of_thaw_eq {d e : Device} (h : e.thaw = d.thaw) (x : Nat) : e.img x = d.img x := by
  simp only [Device.img, h]

@[simp] theorem thaw_writeChunk (d : Device) (x k : Nat) (b : List Byte) : (writeChunk d x k b).thaw = d.thaw := by
  unfold writeChunk
  split
  · split <;> simp
  · rfl

/-- Images stay but for that of a position. -/
def OneImg (x : Nat) (d e : Device) : Prop := ∀ y, y ≠ x → e.img y = d.img y

theorem OneImg.setImg {d e : Device} {x : Nat} (h : OneImg x d e) (i : ImgS) : OneImg x d (e.setImg x i) :=
  fun y hy => (img_setImg_ne _ _ (Ne.symm hy)).trans (h y hy)

theorem img_failPos (d : Device) (x y : Nat) : (d.failPos x).img y = d.img y := by
  unfold Device.failPos
  split <;> rfl

theorem mem_failPos (d : Device) (x : Nat) : x ∈ (d.failPos x).thaw.coBad := by
  unfold Device.failPos
  split
  · rename_i h
    simpa using h
  · exact List.mem_append_right _ List.mem_cons_self

/-- R462: asking leaves what the image holds. -/
theorem askChunks_spec (d : Device) (x mask : Nat) : OneImg x d (askChunks d x mask) ∧
    ((askChunks d x mask).img x).count = (d.img x).count ∧ ((askChunks d x mask).img x).digest = (d.img x).digest ∧
    ((askChunks d x mask).img x).chunks = (d.img x).chunks := by
  unfold askChunks
  dsimp only
  split
  · exact ⟨fun y _ => img_failPos .., by rw [img_failPos], by rw [img_failPos], by rw [img_failPos]⟩
  · have himg (e : Device) (m : OutMsg) (y : Nat) : (e.send m).img y = e.img y := img_of_thaw_eq (Device.send_thaw ..) y
    refine ⟨fun y hy => ?_, ?_, ?_, ?_⟩
    · rw [himg, img_setImg_ne _ _ (Ne.symm hy)]
    · rw [himg, img_setImg_same]
    · rw [himg, img_setImg_same]
    · rw [himg, img_setImg_same]

/-! ### Chunks and their end -/

/-- R462: a chunk that passes sets its bit. -/
def chunkTaken (d : Device) (x : Nat) (b : List Byte) : Device :=
  let i := d.img x
  let k := fieldB b 2 2
  let e := (writeChunk d x k b).setImg x { i with chunks := Map.set [] i.chunks k (b.drop 32), bitmap := i.bitmap ||| 2 ^ k }
  if !bitOf i.bitmap k && decide (1 ≤ Map.get 0 i.asked k) then e.addNum 0x1D04 3 0 1 else e

theorem chunkTaken_spec (d : Device) (x : Nat) (b : List Byte) :
    ((chunkTaken d x b).img x).bitmap = (d.img x).bitmap ||| 2 ^ fieldB b 2 2 ∧
      Map.get [] ((chunkTaken d x b).img x).chunks (fieldB b 2 2) = b.drop 32 ∧ OneImg x d (chunkTaken d x b) := by
  let i' : ImgS := { (d.img x) with
    chunks := Map.set [] (d.img x).chunks (fieldB b 2 2) (b.drop 32), bitmap := (d.img x).bitmap ||| 2 ^ fieldB b 2 2 }
  have himg (y : Nat) : (chunkTaken d x b).img y = ((writeChunk d x (fieldB b 2 2) b).setImg x i').img y := by
    unfold chunkTaken
    dsimp only
    split
    · exact img_of_thaw_eq (Device.addNum_thaw ..) y
    · rfl
  have hx := (himg x).trans (img_setImg_same ..)
  rw [hx]
  refine ⟨rfl, Map.get_set_same .., fun y hy => ?_⟩
  rw [himg, img_setImg_ne _ _ (Ne.symm hy), img_of_thaw_eq (thaw_writeChunk ..)]

/-- R462: END carries COUNT and the digest. -/
def endTaken (d : Device) (x : Nat) (b : List Byte) : Device :=
  let i : ImgS := { (d.img x) with count := fieldB b 4 2, digest := b.drop 32 }
  let e := d.setImg x i
  if missingMask i = 0 then e else askChunks e x (missingMask i)

theorem endTaken_spec (d : Device) (x : Nat) (b : List Byte) :
    ((endTaken d x b).img x).count = fieldB b 4 2 ∧ ((endTaken d x b).img x).digest = b.drop 32 ∧
      ((endTaken d x b).img x).chunks = (d.img x).chunks ∧ OneImg x d (endTaken d x b) := by
  let i : ImgS := { (d.img x) with count := fieldB b 4 2, digest := b.drop 32 }
  have hone : OneImg x d (d.setImg x i) := .setImg (fun _ _ => rfl) i
  unfold endTaken
  dsimp only
  split
  · rw [img_setImg_same]
    exact ⟨rfl, rfl, rfl, hone⟩
  · obtain ⟨ho, hc, hd, hch⟩ := askChunks_spec (d.setImg x i) x (missingMask i)
    rw [img_setImg_same] at hc hd hch
    exact ⟨hc, hd, hch, fun y hy => (ho y hy).trans (hone y hy)⟩

/-! ### The hash of the whole image -/

/-- R463: a released core's local memory starts empty. -/
def released (d : Device) (x : Nat) : Device :=
  let e := d.setImg x { (d.img x) with released := true }
  match e.provLogical x with
  | some g => e.clearMem (Device.localAddr g 0) (Device.localAddr g 0 + 0x100000)
  | none => e

theorem released_spec (d : Device) (x : Nat) : ((released d x).img x).released = true ∧ (released d x).dict = d.dict := by
  have key : (released d x).thaw = (d.setImg x { (d.img x) with released := true }).thaw ∧ (released d x).dict = d.dict := by
    unfold released
    dsimp only
    split <;> exact ⟨rfl, rfl⟩
  rw [img_of_thaw_eq key.1, img_setImg_same]
  exact ⟨rfl, key.2⟩

/-- R462: the chunks that are asked for, one message each. -/
theorem mem_foldl_send {α : Type} (p : α → Bool) (m : α → OutMsg) (l : List α) (d : Device) :
    let e := l.foldl (fun d k => if p k then d.send (m k) else d) d
    e = { d with out := e.out } ∧ (∀ x ∈ d.out, x ∈ e.out) ∧ ∀ k ∈ l, p k = true → m k ∈ e.out := by
  induction l generalizing d with
  | nil => exact ⟨rfl, fun _ h => h, fun _ h => nomatch h⟩
  | cons a l ih =>
    rw [List.foldl_cons]
    by_cases ha : p a = true
    · rw [if_pos ha]
      obtain ⟨h1, h2, h3⟩ := ih (d.send (m a))
      refine ⟨h1, fun x hx => h2 x (List.mem_cons_of_mem _ hx), fun k hk hp => ?_⟩
      rcases List.mem_cons.1 hk with rfl | hk
      · exact h2 _ List.mem_cons_self
      · exact h3 k hk hp
    · rw [if_neg ha]
      obtain ⟨h1, h2, h3⟩ := ih d
      refine ⟨h1, h2, fun k hk hp => ?_⟩
      rcases List.mem_cons.1 hk with rfl | hk
      · exact absurd hp ha
      · exact h3 k hk hp

/-- Settles O47: a chunk, its END, the hash and the repair request, each by its lemma. -/
theorem controlImages : Obligations.ControlImages := by
  intro s cp b mask x i k im
  refine ⟨fun hl => ⟨fun hg => ?_, fun hg => ?_, fun hc hm => ?_⟩, fun hb h9 => ?_⟩
  · refine completes_run_eq (c := .chunkReceive cp b) (X := chunkTaken s.dev x b) (fun _ => by unfold exec; exact rfl) ?_
      (chunkTaken_spec ..)
    exact (if_neg (by simp [x] at hl; simp [hl])).trans (if_pos hg)
  · refine completes_run_eq (c := .chunkEnd cp b) (X := endTaken s.dev x b) (fun _ => by unfold exec; exact rfl) ?_
      (endTaken_spec ..)
    exact (if_neg (by simp [x] at hl; simp [hl])).trans (if_pos hg)
  · have hguard : (!coreListens s.dev x || decide (i.count = 0) || decide (missingMask i ≠ 0)) = false := by
      simp [hl, hc, hm]
    by_cases hd : shake256 (hashedBytes i) 32 = i.digest
    · refine completes_run_eq (c := .imageHashDone cp) (X := released s.dev x) (fun _ => by unfold exec; exact rfl) ?_
        ⟨fun _ => released_spec .., fun h => absurd hd h, fun h => absurd hd h⟩
      refine (if_neg (by rw [hguard]; exact Bool.false_ne_true)).trans ?_
      rw [if_pos hd]
      unfold released
      dsimp only [x] <;> split <;> rename_i h <;> simp only [h]
    · cases hw : i.wholeAsked with
      | false =>
        refine completes_run_eq (c := .imageHashDone cp) (X := (s.dev.setImg x { i with
          chunks := [], bitmap := 0, wholeAsked := true }).send (.chunkRequest x (2 ^ i.count - 1)))
          (fun _ => by unfold exec; exact rfl) ?_ ⟨fun h => absurd h hd, fun _ _ => ?_, fun _ h => absurd h Bool.false_ne_true⟩
        · exact ((if_neg (by rw [hguard]; exact Bool.false_ne_true)).trans (if_neg hd)).trans
            (if_neg (by simp [i, x] at hw; simp [hw]))
        · rw [img_of_thaw_eq (Device.send_thaw ..), img_setImg_same]
          exact ⟨rfl, rfl, rfl, List.mem_cons_self⟩
      | true =>
        refine completes_run_eq (c := .imageHashDone cp) (X := (s.dev.raise 0x7006 0 0 s.dev.thawStep (leNat (i.digest.take 8))).failPos x)
          (fun _ => by unfold exec; exact rfl) ?_ ⟨fun h => absurd h hd, fun _ h => absurd h.symm Bool.false_ne_true, fun _ _ => ⟨?_, mem_failPos ..⟩⟩
        · exact ((if_neg (by rw [hguard]; exact Bool.false_ne_true)).trans (if_neg hd)).trans (if_pos hw)
        · have hevt : ((s.dev.raise 0x7006 0 0 s.dev.thawStep (leNat (i.digest.take 8))).failPos x).evt =
              (s.dev.raise 0x7006 0 0 s.dev.thawStep (leNat (i.digest.take 8))).evt := by
            unfold Device.failPos
            split <;> rfl
          exact (raised_after (d := s.dev) _ _ _ _ (by decide) rfl).of_evt_eq rfl hevt
  · obtain ⟨h1, -, h3⟩ := mem_foldl_send (fun n => mask.getLsbD n && decide (4096 * n < im.length))
      (fun n => .chunk x (chunkBytes im n)) (List.range 64) s.dev
    refine completes_run_eq (c := .chunkRepairRequest cp mask) (fun _ => by unfold exec; exact rfl) ?_
      ⟨h1, fun n hn hm hl => h3 n (List.mem_range.2 hn) (by simp [hm, hl])⟩
    exact if_neg (by simp [hb]; omega)

end Sys2Proof.Machine

/-! PROOFS. The sideband and the arbiters (R359 to R363, R558, R559). -/

namespace Sys2Proof.Machine

/-! ### What the start of the Thaw leaves alone -/

/-- What the restart of the Thaw keeps: both slots and the preference, the straps, and that an image was recovered. -/
def bootPart (d : Device) : List Byte × List Byte × Nat × Bool × Nat :=
  (d.flash.slot0, d.flash.slot1, d.flash.preferred, d.thaw.recovered, d.thaw.straps)

theorem bootPart_of_eq {d e : Device} (hf : e.flash = d.flash) (ht : e.thaw = d.thaw) : bootPart e = bootPart d := by
  simp only [bootPart, hf, ht]

theorem bootPart_ite {c : Prop} [Decidable c] {a b : Device} {x} (ha : bootPart a = x) (hb : bootPart b = x) :
    bootPart (if c then a else b) = x := by
  split
  · exact ha
  · exact hb

theorem bootPart_forN {n : Nat} {f : Device → Nat → Device} (h : ∀ e k, bootPart (f e k) = bootPart e) (d : Device) :
    bootPart (forN n d f) = bootPart d := Device.foldl_same bootPart f h _ d

@[simp] theorem bootPart_setNum (d : Device) (i k n v : Nat) : bootPart (d.setNum i k n v) = bootPart d :=
  bootPart_of_eq (Device.setNum_flash ..) (Device.setNum_thaw ..)

@[simp] theorem bootPart_setDom (d : Device) (i k n : Nat) (v : List Byte) : bootPart (d.setDom i k n v) = bootPart d := rfl

@[simp] theorem bootPart_raise (d : Device) (c ua ui a b : Nat) : bootPart (d.raise c ua ui a b) = bootPart d :=
  bootPart_of_eq (Device.raise_flash ..) (Device.raise_thaw ..)

@[simp] theorem bootPart_logRec (d : Device) (r : EvRec) : bootPart (d.logRec r) = bootPart d :=
  bootPart_of_eq (Device.logRec_flash ..) (Device.logRec_thaw ..)

@[simp] theorem bootPart_setThawStep (d : Device) (n : Nat) : bootPart (d.setThawStep n) = bootPart d := by
  simp [bootPart, Device.setThawStep]

@[simp] theorem bootPart_pdPut (d : Device) (i st : Nat) : bootPart (d.pdPut i st) = bootPart d := by
  have hidle (e : Device) : bootPart (e.idleOn i (st == 0)) = bootPart e := by
    unfold Device.idleOn
    split
    · exact bootPart_ite (bootPart_ite rfl rfl) rfl
    · rfl
  exact (bootPart_setNum ..).trans ((hidle _).trans (bootPart_ite rfl rfl))

@[simp] theorem bootPart_recordWake (d : Device) (i st : Nat) : bootPart (d.recordWake i st) = bootPart d := by
  simp [Device.recordWake]

@[simp] theorem bootPart_trainStart (d : Device) (p : Nat) (re : Bool) : bootPart (d.trainStart p re) = bootPart d := by
  have hmove (e : Device) : bootPart (e.moveParent p) = bootPart e := bootPart_ite (bootPart_setNum ..) rfl
  exact (hmove _).trans (bootPart_setNum ..)

@[simp] theorem bootPart_loadAge (d : Device) : bootPart d.loadAge = bootPart d := by
  have hshow (e : Device) (k : Nat) : bootPart (e.showDelta k) = bootPart e := by
    unfold Device.showDelta
    dsimp only
    simp
  unfold Device.loadAge
  refine (bootPart_forN hshow _).trans ?_
  refine (bootPart_forN ?_ _).trans ((bootPart_setNum ..).trans (bootPart_setNum ..))
  exact fun _ _ => rfl

/-- R447 step 3: what the firmware's start records first: the slot it came from, and the events since the reset. -/
def fwNamed (d : Device) (s : Nat) : Device :=
  let m := d.slotOf s
  let name := (sliceB m 0x10 16).reverse.dropWhile (· == 0) |>.reverse
  let d := ((d.setNum 0x1D00 1 0 s).setDom 0x1D00 2 0 name).setNum 0x1D00 3 0 (slotSvn m)
  let d := d.setDom 0x1D00 5 0 (shake256 (signedPart m) 32)
  let d := { d with thaw := { d.thaw with fwNs := d.time.nowNs } }.setThawStep 3
  let early := d.evt.early
  early.foldl (fun d r => d.logRec r) { d with evt := { d.evt with early := [] } }

/-- R453, R464: the records of the flash that the firmware shows. -/
def fwRecords (d : Device) (boot : BootFacts) : Device :=
  let d := (d.loadAge).setNum 0x1D00 4 0 (d.flashNum .floor)
  let d := (d.setDom 0x1D02 1 0 Device.idPub).setNum 0x1D02 6 0 (d.flashNum .index)
  let d := d.setNum 0x1D02 7 0 (d.flashNum .index)
  if (d.flashRec .index).isNone then (d.setNum 0x1D02 5 0 2).raise 0x700B 0 0 3
    else if !boot.treeOk then d.setNum 0x1D02 5 0 1 else d

/-- R460, R465: the credential store and the third image. -/
def fwCreds (d : Device) (m : List Byte) : Device :=
  let creds := (d.flashRec .creds).getD []
  let d := d.setDom 0x1D03 3 0 ((List.range (creds.length / 84)).flatMap (fun i => sliceB creds (84 * i) 36))
  let d := if (d.flashRec .creds).isNone then d.raise 0x700F 0 0 3 else d
  if imageMatches m 3 then d else d.raise 0x7005 0 0 3 (imageDigest m 3)

/-- R384, R396: the shape, the routes, and the training of the ports in use. -/
def fwPorts (d : Device) : Device :=
  let sh := (d.flashRec .shape).getD []
  let d := ((d.setNum 0x1700 1 0 (fieldB sh 0 2)).setNum 0x1700 2 0 (fieldB sh 2 2)).setNum 0x1010 9 0 (fieldB sh 2 2 % 4096)
  let d := { d with link := { d.link with shapeNow := fieldB sh 0 2, posNow := fieldB sh 2 2, mapNow := none } }
  let d := d.setDom 0x1701 3 0 (routeTable d.shape [] d.position)
  forN 12 d (fun d p =>
    if portUsed d.shape p then ((d.pdPut (pdP p) 0).recordWake (pdP p) 0).trainStart p false
    else d.setNum 0x70B0 1 (p + 1) 4)

theorem startFirmware_eq (d : Device) (s : Nat) (boot : BootFacts) :
    d.startFirmware s boot = fwPorts (fwCreds (fwRecords (fwNamed d s) boot) (d.slotOf s)) := rfl

theorem bootPart_withFw (d : Device) (n : Nat) : bootPart { d with thaw := { d.thaw with fwNs := n } } = bootPart d := rfl

theorem bootPart_fwNamed (d : Device) (s : Nat) : bootPart (fwNamed d s) = bootPart d :=
  (Device.foldl_same bootPart _ (fun e r => bootPart_logRec e r) _ _).trans
    ((bootPart_setThawStep _ 3).trans ((bootPart_withFw ..).trans (by simp)))

theorem bootPart_fwRecords (d : Device) (boot : BootFacts) : bootPart (fwRecords d boot) = bootPart d := by
  unfold fwRecords
  dsimp only
  split
  · simp
  · exact bootPart_ite (by simp) (by simp)

theorem bootPart_fwCreds (d : Device) (m : List Byte) : bootPart (fwCreds d m) = bootPart d := by
  have key (e : Device) : bootPart (if (e.flashRec .creds).isNone then e.raise 0x700F 0 0 3 else e) = bootPart e :=
    bootPart_ite (bootPart_raise ..) rfl
  unfold fwCreds
  dsimp only
  split
  · exact (key _).trans rfl
  · exact (bootPart_raise ..).trans ((key _).trans rfl)

theorem bootPart_fwPorts (d : Device) : bootPart (fwPorts d) = bootPart d := by
  have hport (e : Device) (p : Nat) : bootPart (if portUsed e.shape p then ((e.pdPut (pdP p) 0).recordWake (pdP p) 0).trainStart p false
      else e.setNum 0x70B0 1 (p + 1) 4) = bootPart e := bootPart_ite (by simp) (by simp)
  exact (bootPart_forN hport _).trans ((bootPart_setNum ..).trans ((bootPart_setNum ..).trans (bootPart_setNum ..)))

@[simp] theorem bootPart_startFirmware (d : Device) (s : Nat) (boot : BootFacts) :
    bootPart (d.startFirmware s boot) = bootPart d :=
  (bootPart_fwPorts _).trans ((bootPart_fwCreds ..).trans ((bootPart_fwRecords ..).trans (bootPart_fwNamed ..)))

theorem bootPart_selectSlot (d : Device) (boot : BootFacts) : bootPart (d.selectSlot boot) = bootPart d := by
  have hrec (e : Device) (n : Nat) : bootPart (e.enterRecovery n) = bootPart e := (bootPart_setThawStep ..).trans rfl
  unfold Device.selectSlot
  refine bootPart_ite (by simp) (bootPart_ite ?_ ?_)
  · exact (bootPart_startFirmware ..).trans ((bootPart_raise ..).trans (bootPart_setThawStep d 2))
  · exact (hrec ..).trans ((bootPart_raise ..).trans (bootPart_setThawStep d 2))

theorem bootPart_startThaw (d : Device) (boot : BootFacts) : bootPart (d.startThaw boot) = bootPart d := by
  have hrec (e : Device) (n : Nat) : bootPart (e.enterRecovery n) = bootPart e := (bootPart_setThawStep ..).trans rfl
  unfold Device.startThaw
  dsimp only
  have key (e : Device) : bootPart ({ e with thaw := { e.thaw with began := true } } : Device) = bootPart e := rfl
  refine bootPart_ite ?_ (bootPart_ite ?_ ?_)
  · rw [bootPart_raise, key]
    simp
  · rw [hrec, key]
    simp
  · rw [bootPart_selectSlot, key]
    simp

/-! ### The arbiters -/

/-- R360: what an oldest grant compares, and any other. -/
def arbScore (prio : Nat → Nat) (oldest : Bool) (z : Nat × ArbIn) : Nat :=
  if oldest then z.2.age else prio (z.2.cls.getD 0)

/-- R360: the better of two is one of them and scores as much as each. -/
theorem arbBetter_spec (prio : Nat → Nat) (o : Bool) (x y : Nat × ArbIn) :
    (arbBetter prio o x y = x ∨ arbBetter prio o x y = y) ∧ arbScore prio o x ≤ arbScore prio o (arbBetter prio o x y) ∧
      arbScore prio o y ≤ arbScore prio o (arbBetter prio o x y) := by
  have hor : arbBetter prio o x y = x ∨ arbBetter prio o x y = y := by
    unfold arbBetter
    dsimp only
    split_ifs <;> simp
  refine ⟨hor, ?_⟩
  unfold arbBetter arbScore
  cases o with
  | true =>
    simp only [if_true, ne_eq, not_true_eq_false, if_false]
    split_ifs <;> omega
  | false =>
    simp only [Bool.false_eq_true, if_false]
    split_ifs <;> omega

theorem foldl_arbBetter_spec (prio : Nat → Nat) (o : Bool) (l : List (Nat × ArbIn)) (a : Nat × ArbIn) :
    let w := l.foldl (arbBetter prio o) a
    w ∈ a :: l ∧ ∀ y ∈ a :: l, arbScore prio o y ≤ arbScore prio o w := by
  induction l generalizing a with
  | nil => exact ⟨List.mem_cons_self, fun y hy => by rw [List.mem_singleton.1 hy]; exact le_rfl⟩
  | cons b l ih =>
    obtain ⟨hor, ha, hb⟩ := arbBetter_spec prio o a b
    obtain ⟨hm, hle⟩ := ih (arbBetter prio o a b)
    have htop := hle _ List.mem_cons_self
    rw [List.foldl_cons]
    refine ⟨?_, fun y hy => ?_⟩
    · rcases List.mem_cons.1 hm with h | h
      · rcases hor with h' | h' <;> rw [h, h'] <;> simp
      · exact List.mem_cons_of_mem _ (List.mem_cons_of_mem _ h)
    · rcases List.mem_cons.1 hy with rfl | hy
      · exact ha.trans htop
      · rcases List.mem_cons.1 hy with rfl | hy
        · exact hb.trans htop
        · exact hle y (List.mem_cons_of_mem _ hy)

/-- R360: the slot's winner is a live requester that none beats. -/
theorem arbitrate_spec (x : ArbS) (n : Nat) (prio : Nat → Nat) (hx : ∃ y ∈ x.inputs, y.2.cls.isSome = true) :
    ∃ w ∈ x.inputs, (arbitrate x n prio).2 = some w ∧ w.2.cls.isSome = true ∧
      (arbitrate x n prio).1.count = (x.count + 1) % n ∧
      ∀ y ∈ x.inputs, y.2.cls.isSome = true →
        (x.count = n - 1 → y.2.age ≤ w.2.age) ∧ (x.count ≠ n - 1 → prio (y.2.cls.getD 0) ≤ prio (w.2.cls.getD 0)) := by
  obtain ⟨y, hy, hlive⟩ := hx
  have hmem : y ∈ x.inputs.filter (fun e => e.2.cls.isSome) := List.mem_filter.2 ⟨hy, hlive⟩
  unfold arbitrate
  split
  case h_1 h => rw [h] at hmem; exact absurd hmem List.not_mem_nil
  case h_2 l ls h =>
    obtain ⟨hw, hbest⟩ := foldl_arbBetter_spec prio (x.count == n - 1) ls l
    rw [← h] at hw hbest
    obtain ⟨hin, hsome⟩ := List.mem_filter.1 hw
    refine ⟨_, hin, rfl, hsome, rfl, fun z hz hzl => ?_⟩
    have hz := hbest z (List.mem_filter.2 ⟨hz, hzl⟩)
    generalize ls.foldl (arbBetter prio (x.count == n - 1)) l = w at hz
    unfold arbScore at hz
    refine ⟨fun hc => ?_, fun hc => ?_⟩
    · rwa [beq_iff_eq.2 hc, if_pos rfl, if_pos rfl] at hz
    · rwa [beq_eq_false_iff_ne.2 hc, if_neg Bool.false_ne_true, if_neg Bool.false_ne_true] at hz

/-! ### The grant of a lone request -/

theorem set_nil {α : Type} [DecidableEq α] {dflt : α} (k : Nat) {v : α} (h : v ≠ dflt) : Map.set dflt [] k v = [(k, v)] := by
  rw [Map.set, if_neg h, Map.ins_nil]

theorem get_singleton {α : Type} (dflt : α) (k : Nat) (v : α) : Map.get dflt [(k, v)] k = v := by
  rw [Map.get_cons, if_pos rfl]

/-- R360: a lone request is granted and no longer pending. -/
theorem arbitrate_lone {x : ArbS} {port : Nat} {v : ArbIn} (hin : x.inputs = [(port, v)]) (hv : v.cls.isSome = true) (n : Nat)
    (prio : Nat → Nat) : (arbitrate x n prio).2 = some (port, v) ∧
      (Map.get {} (arbitrate x n prio).1.inputs port).cls = none ∧ ∀ e ∈ (arbitrate x n prio).1.inputs, e.2.cls = none := by
  have hf : x.inputs.filter (fun e => e.2.cls.isSome) = [(port, v)] := by rw [hin]; simp [hv]
  have harb : arbitrate x n prio =
      ({ count := (x.count + 1) % n, inputs := Map.set {} x.inputs port { v with cls := none, age := 0 } }, some (port, v)) := by
    unfold arbitrate
    rw [hf]
    simp
  rw [harb, hin]
  refine ⟨rfl, by rw [Map.get_set_same], fun e he => ?_⟩
  have : e = (port, { v with cls := none, age := 0 }) := by
    unfold Map.set at he
    split at he
    · simp [Map.del_eq_filter] at he
    · simpa [Map.ins_cons] using he
  rw [this]

/-- R366: with no request pending no age is too high. -/
theorem arbAges_of_none {d : Device} {a : Arb} (h : ∀ e ∈ (d.arb (arbKey a)).inputs, e.2.cls = none) (n : Nat) :
    d.arbAges a n = d := by
  unfold Device.arbAges
  generalize (d.arb (arbKey a)).inputs = l at h
  generalize arbKey a = key
  suffices key' : ∀ e : Device, l.foldl (fun d e => if e.2.cls.isSome && decide (n * arbR a < e.2.age) then
      d.raise 0x4014 0 0 key e.1 else d) e = e from key' d
  intro e
  induction l with
  | nil => rfl
  | cons x l ih =>
    rw [List.foldl_cons, if_neg (by simp [h x List.mem_cons_self])]
    exact ih (fun y hy => h y (List.mem_cons_of_mem _ hy))

/-- A request of class `k` alone waits at an arbiter; memory and what was sent are as before. -/
structure LoneRequest (a : Arb) (port k : Nat) (d e : Device) : Prop where
  mem : e.mem = d.mem
  out : e.out = d.out
  wait : ∃ v : ArbIn, (e.arb (arbKey a)).inputs = [(port, v)] ∧ v.cls = some k ∧ v.eng = 0
  turn : ∀ (c : Cluster) (b : Fin 64), a = .bank c b →
    (e.storePortS c port).cur = some (0, k, [{ bank := b.val }]) ∧ (e.storePortS c port).waits = []

theorem withinQuota_foreground (d : Device) (a : Arb) {port k : Nat} (hk : k < 4) :
    withinQuota d a [(port, k)] = [(port, k)] := by
  have hb : isBackground k = false := by simp [isBackground]; omega
  unfold withinQuota
  split
  · rfl
  · have hs : ([] : List (Nat × Nat)).take (d.bgQuota (arbRate d a).1 (arbRate d a).2 - Map.get 0 d.bg.grants (1024 + arbKey a)) = [] :=
      List.take_nil
    simp [hb, sortBy]

/-- R13: the first engine of the rotation presents the one request that waits. -/
theorem present_lone (k n : Nat) : ({ waits := [(0, k)] } : ArbIn).present (n + 1) = { cls := some k, turn := 1 % (n + 1) } := by
  simp [ArbIn.present, List.range_succ_eq_map]

theorem arbEngines_pos (a : Arb) (p : Nat) : ∃ n, arbEngines a p = n + 1 := by
  refine ⟨arbEngines a p - 1, (Nat.sub_add_cancel ?_).symm⟩
  cases a <;> unfold arbEngines
  case bank => unfold storeTurns; dsimp only; split_ifs <;> decide
  case localMem => dsimp only; split_ifs <;> decide
  all_goals exact le_rfl

/-- R13: where no store port stands between, the request is presented at once. -/
theorem lone_of_direct {d : Device} {a : Arb} {port k : Nat} (ha : ∀ c b, a ≠ .bank c b) (hnil : (d.arb (arbKey a)).inputs = [])
    (hp : port < 256) : LoneRequest a port k d (d.arbOffers a [(port, k)] []) := by
  have hoff : d.arbOffers a [(port, k)] [] = d.setArb (arbKey a) { (d.arb (arbKey a)) with
      inputs := [(port, { cls := some k, turn := 1 % arbEngines a port })] } := by
    obtain ⟨n, hn⟩ := arbEngines_pos a port
    have hoffer : ({} : ArbIn).offer 0 k = { waits := [(0, k)] } := by simp [ArbIn.offer]
    have hset : Map.upd {} ([] : Map ArbIn) port (fun i => i.offer 0 k) = [(port, { waits := [(0, k)] })] := by
      rw [Map.upd, Map.get_nil, hoffer, set_nil port (by simp)]
    unfold Device.arbOffers
    split
    · exact absurd rfl (ha _ _)
    · simp only [List.foldl_cons, List.foldl_nil, Nat.mod_eq_of_lt hp, Nat.div_eq_of_lt hp, hnil, hset, hn, present_lone]
      rw [Map.set, if_neg (by simp), Map.ins_cons, if_pos rfl]
  rw [hoff]
  exact ⟨rfl, rfl, ⟨_, by unfold Device.arb Device.setArb; rw [Map.get_set_same], rfl, rfl⟩, fun c b h => absurd h (ha c b)⟩

/-! ### A store port -/

/-- What the ports of a cluster's store have done before port `i`, where port `p` alone has a request `w`. -/
structure PortsTo (c : Cluster) (b : Fin 64) (p k : Nat) (d : Device) (i : Nat) (e : Device) : Prop where
  mem : e.mem = d.mem
  out : e.out = d.out
  dict : e.dict = d.dict
  others : ∀ q < 25, q ≠ p → e.storePortS c q = {}
  before : i ≤ p → e.storePortS c p = { waits := [(0, k, [{ bank := b.val }])] } ∧ (e.arb (arbKey (.bank c b))).inputs = []
  after : p < i → e.storePortS c p = { cur := some (0, k, [{ bank := b.val }]), turn := 1 % storeTurns p } ∧
    (e.arb (arbKey (.bank c b))).inputs = [(p, { cls := some k })]

theorem storePortS_setStorePort_same (d : Device) (c p : Nat) (x : StorePortS) :
    (d.setStorePort c p x).storePortS c p = x := Map.get_set_same ..

theorem storePortS_setStorePort_ne (d : Device) (c : Nat) {p q : Nat} (x : StorePortS) (h : p ≠ q) :
    (d.setStorePort c p x).storePortS c q = d.storePortS c q := Map.get_set_ne _ _ _ (by omega)

theorem presentPort_idle {d : Device} {c : Cluster} {p : Nat} (h : (d.storePortS c p).waits = []) : d.presentPort c p = d := by
  have hno : (d.storePortS c p).takeUp (storeTurns p) = none := by
    unfold StorePortS.takeUp
    split
    · rfl
    · rw [h, List.findSome?_eq_none_iff.2 (fun _ _ => List.find?_nil)]
  unfold Device.presentPort
  rw [hno]

/-- R13, R146: the port takes up its request and presents it to the bank. -/
theorem presentPort_lone {d : Device} {c : Cluster} {b : Fin 64} {p k : Nat}
    (h : d.storePortS c p = { waits := [(0, k, [{ bank := b.val }])] }) (hnil : (d.arb (arbKey (.bank c b))).inputs = []) :
    d.presentPort c p = (d.setStorePort c p { cur := some (0, k, [{ bank := b.val }]), turn := 1 % storeTurns p }).setArb
      (arbKey (.bank c b)) { (d.arb (arbKey (.bank c b))) with inputs := [(p, { cls := some k })] } := by
  obtain ⟨n, hn⟩ : ∃ n, storeTurns p = n + 1 := arbEngines_pos (.bank c b) p
  have hb : Fin.ofNat 64 b.val = b := by simp
  have htake : (d.storePortS c p).takeUp (storeTurns p) =
      some ({ cur := some (0, k, [{ bank := b.val }]), turn := 1 % storeTurns p }, (0, k, [{ bank := b.val }])) := by
    rw [h, hn]
    simp [StorePortS.takeUp, List.range_succ_eq_map]
  unfold Device.presentPort
  rw [htake]
  simp only [List.foldl_cons, List.foldl_nil, hb]
  have harb : (d.setStorePort c p { cur := some (0, k, [{ bank := b.val }]), turn := 1 % storeTurns p }).arb
      (arbKey (.bank c b)) = d.arb (arbKey (.bank c b)) := rfl
  rw [harb, hnil, set_nil p (by simp)]

theorem arbMasked_of_dict {d e : Device} (h : e.dict = d.dict) (a : Arb) (p : Nat) : arbMasked e a p = arbMasked d a p := by
  simp only [arbMasked, Device.pdState, Device.num, h]

theorem PortsTo.step {c : Cluster} {b : Fin 64} {p k i : Nat} {d e : Device} (h : PortsTo c b p k d i e) (hi : i < 25)
    (hm : arbMasked d (.bank c b) p = false) : PortsTo c b p k d (i + 1)
      (if arbMasked e (.bank c b) i then e.setStorePort c i {} else e.presentPort c i) := by
  by_cases hip : i = p
  · subst hip
    obtain ⟨hw, hnil⟩ := h.before le_rfl
    have hme : arbMasked e (.bank c b) i = false := (arbMasked_of_dict h.dict ..).trans hm
    rw [hme, if_neg Bool.false_ne_true, presentPort_lone hw hnil]
    refine ⟨h.mem, h.out, h.dict, fun q hq hne => ?_, fun hlt => absurd hlt (by omega), fun _ => ⟨?_, ?_⟩⟩
    · exact (storePortS_setStorePort_ne _ _ _ (Ne.symm hne)).trans (h.others q hq hne)
    · exact storePortS_setStorePort_same ..
    · unfold Device.arb Device.setArb
      rw [Map.get_set_same]
  · have hempty : e.storePortS c i = {} := h.others i hi hip
    have hbf (hle : i + 1 ≤ p) := h.before (Nat.le_of_succ_le hle)
    have haf (hlt : p < i + 1) := h.after (Nat.lt_of_le_of_ne (Nat.le_of_lt_succ hlt) (Ne.symm hip))
    split
    · refine ⟨h.mem, h.out, h.dict, fun q hq hne => ?_, fun hle => ⟨?_, (hbf hle).2⟩, fun hlt => ⟨?_, (haf hlt).2⟩⟩
      · by_cases hqi : i = q
        · subst hqi
          exact storePortS_setStorePort_same ..
        · exact (storePortS_setStorePort_ne _ _ _ hqi).trans (h.others q hq hne)
      · exact (storePortS_setStorePort_ne _ _ _ hip).trans (hbf hle).1
      · exact (storePortS_setStorePort_ne _ _ _ hip).trans (haf hlt).1
    · rw [presentPort_idle (by rw [hempty])]
      exact ⟨h.mem, h.out, h.dict, h.others, hbf, haf⟩

/-- R13: of the ports of a store only the one with a request presents it. -/
theorem portRequests_lone {d : Device} {c : Cluster} {b : Fin 64} {p k : Nat}
    (hm : arbMasked d (.bank c b) p = false) (hports : d.bg.storePorts = []) (hnil : (d.arb (arbKey (.bank c b))).inputs = []) :
    PortsTo c b p k d 25 (d.portRequests c b [(p, 0, k, [{ bank := b.val }])]) := by
  have hnone (q : Nat) : d.storePortS c q = {} := by
    unfold Device.storePortS
    rw [hports, Map.get_nil]
  have hstart : PortsTo c b p k d 0 (d.setStorePort c p { waits := [(0, k, [{ bank := b.val }])] }) := by
    refine ⟨rfl, rfl, rfl, fun q _ hne => ?_, fun _ => ⟨storePortS_setStorePort_same .., hnil⟩, fun h => absurd h (Nat.not_lt_zero _)⟩
    exact (storePortS_setStorePort_ne _ _ _ (Ne.symm hne)).trans (hnone q)
  have hoffer : ({} : StorePortS).offer 0 k [{ bank := b.val }] = { waits := [(0, k, [{ bank := b.val }])] } := by
    simp [StorePortS.offer]
  have hfor (n : Nat) (hn : n ≤ 25) : PortsTo c b p k d n (forN n (d.setStorePort c p { waits := [(0, k, [{ bank := b.val }])] })
      (fun d p => if arbMasked d (.bank c b) p then d.setStorePort c p {} else d.presentPort c p)) := by
    induction n with
    | zero => exact hstart
    | succ n ih =>
      rw [forN_succ]
      exact (ih (Nat.le_of_succ_le hn)).step hn hm
  unfold Device.portRequests
  simp only [List.foldl_cons, List.foldl_nil, hm, if_neg Bool.false_ne_true, hnone, hoffer]
  exact hfor 25 le_rfl

theorem lone_of_bank {d : Device} {c : Cluster} {b : Fin 64} {p k : Nat} (hp : p < 25)
    (hm : arbMasked d (.bank c b) p = false) (hports : d.bg.storePorts = []) (hnil : (d.arb (arbKey (.bank c b))).inputs = []) :
    LoneRequest (.bank c b) p k d (d.arbOffers (.bank c b) [(p, k)] []) := by
  have hoff : d.arbOffers (.bank c b) [(p, k)] [] = d.portRequests c b [(p, 0, k, [{ bank := b.val }])] := by
    unfold Device.arbOffers
    simp [Nat.mod_eq_of_lt (show p < 256 by omega), Nat.div_eq_of_lt (show p < 256 by omega)]
  have h := portRequests_lone (k := k) hm hports hnil
  obtain ⟨hport, hin⟩ := h.after hp
  rw [hoff]
  refine ⟨h.mem, h.out, ⟨_, hin, rfl, rfl⟩, fun c' b' heq => ?_⟩
  cases heq
  rw [hport]
  exact ⟨rfl, rfl⟩

/-- R146: the bank has granted the request: the port is free again. -/
theorem bankGranted_lone {d : Device} {c : Cluster} {b : Fin 64} {p k : Nat}
    (hc : (d.storePortS c p).cur = some (0, k, [{ bank := b.val }])) (hw : (d.storePortS c p).waits = []) :
    (d.bankGranted c b p 0).mem = d.mem ∧ (∀ m ∈ d.out, m ∈ (d.bankGranted c b p 0).out) ∧
      (d.bankGranted c b p 0).bg.arbs = d.bg.arbs := by
  have hb : d.bytes (Device.storeAddr c 0) 0 = [] := rfl
  unfold Device.bankGranted
  simp only [hc, List.filter_cons, List.filter_nil, beq_self_eq_true, bne_self_eq_false, if_true, if_neg Bool.false_ne_true,
    List.foldl_cons, List.foldl_nil, List.isEmpty_nil, Device.moveGranule]
  rw [presentPort_idle (show _ = [] from ?_)]
  · exact ⟨rfl, fun m hm => List.mem_cons_of_mem _ hm, rfl⟩
  · refine Eq.trans (congrArg StorePortS.waits (storePortS_setStorePort_same ..)) hw

/-- R361, R366: after the grant: the winner's request is no longer pending, and it is told. -/
theorem granted_of_lone {a : Arb} {port k : Nat} {d e : Device} (h : LoneRequest a port k d e) (n : Nat) (prio : Nat → Nat) :
    let r := arbitrate (e.arb (arbKey a)) n prio
    let f := ((e.setArb (arbKey a) r.1).bankStalls a).send (.granted (arbKey a) port 0)
    let g := (match a with
        | .bank k b => f.bankGranted k b port 0
        | _ => f).arbAges a n
    g.mem = d.mem ∧ .granted (arbKey a) port 0 ∈ g.out ∧ (Map.get ({} : ArbIn) (g.arb (arbKey a)).inputs port).cls = none := by
  obtain ⟨v, hin, hv, -⟩ := h.wait
  obtain ⟨-, hfree, hnone⟩ := arbitrate_lone hin (by rw [hv]; rfl) n prio
  intro r f g
  have hstall : ((e.setArb (arbKey a) r.1).bankStalls a) = { (e.setArb (arbKey a) r.1) with
      dict := ((e.setArb (arbKey a) r.1).bankStalls a).dict } := by
    unfold Device.bankStalls
    split
    · exact addStall_eq ..
    · rfl
  have hf : f.mem = d.mem ∧ .granted (arbKey a) port 0 ∈ f.out ∧ f.bg = (e.setArb (arbKey a) r.1).bg := by
    simp only [f]
    rw [hstall]
    exact ⟨h.mem, List.mem_cons_self, rfl⟩
  obtain ⟨hmem, hout, hbg⟩ := hf
  have key : ∀ x : Device, x.mem = f.mem → (∀ m ∈ f.out, m ∈ x.out) → x.bg.arbs = f.bg.arbs →
      (x.arbAges a n).mem = d.mem ∧ .granted (arbKey a) port 0 ∈ (x.arbAges a n).out ∧
        (Map.get ({} : ArbIn) ((x.arbAges a n).arb (arbKey a)).inputs port).cls = none := by
    intro x hm ho ha
    have harb : x.arb (arbKey a) = r.1 := by
      unfold Device.arb
      rw [ha, hbg]
      exact Map.get_set_same ..
    rw [arbAges_of_none (by rw [harb]; exact hnone), harb]
    exact ⟨hm.trans hmem, ho _ hout, hfree⟩
  cases a with
  | bank c b =>
    obtain ⟨hc, hw⟩ := h.turn c b rfl
    have hport : f.storePortS c port = e.storePortS c port := by
      unfold Device.storePortS
      rw [hbg]
      rfl
    obtain ⟨h1, h2, h3⟩ := bankGranted_lone (d := f) (b := b) (by rw [hport]; exact hc) (by rw [hport]; exact hw)
    exact key _ h1 h2 h3
  | _ => exact key _ rfl (fun _ hm => hm) rfl

theorem bgRenew_eq (d : Device) : ∃ (n : Nat) (g : Map Nat) (f : Bool),
    d.bgRenew = { d with bg := { d.bg with slot := n, grants := g, deferred := f } } := by
  unfold Device.bgRenew
  split
  · exact ⟨_, _, _, rfl⟩
  · exact ⟨_, _, _, rfl⟩

theorem arbMasked_bgRenew (d : Device) (a : Arb) (p : Nat) : arbMasked d.bgRenew a p = arbMasked d a p := by
  obtain ⟨n, g, f, h⟩ := bgRenew_eq d
  exact arbMasked_of_dict (by rw [h]) a p

theorem arbR_le (a : Arb) : arbR a ≤ 256 := by
  cases a <;> unfold arbR <;> dsimp only
  case flisolFwd p => split_ifs <;> decide
  all_goals decide

/-- R360: the grant slot of an arbiter at which nothing waits, with one request. -/
theorem arbiterGrant_lone {d : Device} {a : Arb} {port k : Nat} (hnil : (d.arb (arbKey a)).inputs = []) (hp : port < arbR a)
    (hm : arbMasked d a port = false) (hs : ∀ c b, a = .bank c b → d.bg.storePorts = []) :
    let e := d.bgRenew.setArb (arbKey a) (d.bgRenew.arbMask a (d.bgRenew.arb (arbKey a)))
    LoneRequest a port k d (e.arbOffers a [(port, k)] []) := by
  intro e
  obtain ⟨n, g, f, hren⟩ := bgRenew_eq d
  have hmask : (d.bgRenew.arbMask a (d.bgRenew.arb (arbKey a))).inputs = [] := by
    have h0 : (d.bgRenew.arb (arbKey a)).inputs = [] := by rw [hren]; exact hnil
    unfold Device.arbMask
    rw [h0]
    rfl
  have hein : (e.arb (arbKey a)).inputs = [] := by
    have harb : e.arb (arbKey a) = d.bgRenew.arbMask a (d.bgRenew.arb (arbKey a)) := Map.get_set_same ..
    rw [harb]
    exact hmask
  have hlone : LoneRequest a port k e (e.arbOffers a [(port, k)] []) := by
    cases a with
    | bank c b =>
      refine lone_of_bank hp ((arbMasked_of_dict (by simp only [e, hren, Device.setArb]) ..).trans hm) ?_ hein
      simp only [e, hren]
      exact hs c b rfl
    | _ => exact lone_of_direct (fun _ _ h => nomatch h) hein (lt_of_lt_of_le hp (arbR_le _))
  refine ⟨hlone.mem.trans ?_, hlone.out.trans ?_, hlone.wait, hlone.turn⟩
  · simp only [e, hren]
    rfl
  · simp only [e, hren]
    rfl

/-- R360: a grant slot whose requests have passed the quota. -/
def grantSlot (d : Device) (a : Arb) (reqs : List (Nat × Nat)) (blocks : List PortReq) : Device :=
  let key := arbKey a
  let n := max 2 (d.force 0x1F00 1)
  let d := (d.setArb key (d.arbMask a (d.arb key))).arbOffers a reqs blocks
  let r := arbitrate (d.arb key) n (classPrio d)
  let d := (d.setArb key r.1).bankStalls a
  match r.2 with
  | none => d
  | some w =>
    let counted := match a with
      | .hbm .. => false
      | .ddr _ => false
      | _ => isBackground (w.2.cls.getD 0)
    let d := if counted then
        { d with bg := { d.bg with grants := Map.upd 0 d.bg.grants (1024 + key) (· + 1) } }
      else d
    let d := d.send (.granted key w.1 w.2.eng)
    (match a with
      | .bank k b => d.bankGranted k b w.1 w.2.eng
      | _ => d).arbAges a n

/-- R359, R360, R361: a request to an arbiter at which none waits is granted. -/
theorem arbiterGrant_completes {s : State} {a : Arb} {port k : Nat} (hnil : (s.dev.arb (arbKey a)).inputs = [])
    (hp : port < arbR a) (hk : k < 4) (hm : arbMasked s.dev a port = false) (hs : ∀ c b, a = .bank c b → s.dev.bg.storePorts = []) :
    Completes (.arbiterGrant a [(port, k)] []) s (fun d => d.mem = s.dev.mem ∧ .granted (arbKey a) port 0 ∈ d.out ∧
      (Map.get {} (d.arb (arbKey a)).inputs port).cls = none) := by
  have hp256 : port < 256 := lt_of_lt_of_le hp (arbR_le a)
  have hlone := arbiterGrant_lone (k := k) hnil hp hm hs
  obtain ⟨v, hin, hv, heng⟩ := hlone.wait
  have hreqs : [(port, k)].filter (fun q => decide (q.1 % 256 < arbR a) && decide (q.1 / 256 < arbEngines a (q.1 % 256)) &&
      decide (q.2 ≤ 6) && !arbMasked s.dev.bgRenew a (q.1 % 256)) = [(port, k)] := by
    obtain ⟨n, hn⟩ := arbEngines_pos a port
    simp [Nat.mod_eq_of_lt hp256, Nat.div_eq_of_lt hp256, hp, hn, arbMasked_bgRenew, hm]
    omega
  have hslot : grantSlot s.dev.bgRenew a [(port, k)] [] = grantSlot s.dev.bgRenew a (withinQuota s.dev.bgRenew a
      ([(port, k)].filter (fun q => decide (q.1 % 256 < arbR a) && decide (q.1 / 256 < arbEngines a (q.1 % 256)) &&
      decide (q.2 ≤ 6) && !arbMasked s.dev.bgRenew a (q.1 % 256)))) [] := by
    rw [hreqs, withinQuota_foreground _ _ hk]
  have hfg : isBackground (v.cls.getD 0) = false := by
    rw [hv]
    simp [isBackground]
    omega
  refine completes_run_eq (c := .arbiterGrant a [(port, k)] []) (X := grantSlot s.dev.bgRenew a [(port, k)] [])
    (fun _ => by unfold exec; exact rfl) hslot.symm ?_
  obtain ⟨hwin, -, -⟩ := arbitrate_lone hin (by rw [hv]; rfl) (max 2 (s.dev.bgRenew.force 0x1F00 1))
    (classPrio ((s.dev.bgRenew.setArb (arbKey a) (s.dev.bgRenew.arbMask a (s.dev.bgRenew.arb (arbKey a)))).arbOffers a [(port, k)] []))
  have hcounted : (match a with
      | .hbm .. => false
      | .ddr _ => false
      | _ => isBackground (v.cls.getD 0)) = false := by
    rw [hfg]
    split <;> rfl
  have := granted_of_lone hlone (max 2 (s.dev.bgRenew.force 0x1F00 1))
    (classPrio ((s.dev.bgRenew.setArb (arbKey a) (s.dev.bgRenew.arbMask a (s.dev.bgRenew.arb (arbKey a)))).arbOffers a [(port, k)] []))
  unfold grantSlot
  dsimp only
  rw [hwin]
  dsimp only
  rw [hcounted, heng]
  exact this

/-! ### The sideband -/

theorem bitOf_eq {x i : Nat} {b : Bool} (h : x / 2 ^ i % 2 = b2n b) : bitOf x i = b := by
  unfold bitOf
  rw [Nat.testBit_eq_decide_div_mod_eq, h]
  cases b <;> rfl

/-- R558: the fields of SB_STATUS. -/
theorem sbStatus_fields (d : Device) : bitOf d.sbStatus 1 = d.alert ∧ bitOf d.sbStatus 2 = (d.num 0x1600 4 != 0) ∧
    bitOf d.sbStatus 3 = d.pwr.trip ∧ bitOf d.sbStatus 4 = d.thaw.romRecovery ∧ bitsOf d.sbStatus 7 5 = d.runState % 8 ∧
    bitsOf d.sbStatus 15 8 = d.thawStep % 256 := by
  have hr : d.runState % 8 < 8 := Nat.mod_lt _ (by decide)
  have ht : d.thawStep % 256 < 256 := Nat.mod_lt _ (by decide)
  have hle (b : Bool) : b2n b ≤ 1 := by cases b <;> decide
  have ha := hle d.alert
  have hn := hle (d.num 0x1600 4 != 0)
  have htr := hle d.pwr.trip
  have hrom := hle d.thaw.romRecovery
  unfold Device.sbStatus
  refine ⟨bitOf_eq ?_, bitOf_eq ?_, bitOf_eq ?_, bitOf_eq ?_, ?_, ?_⟩
  · omega
  · omega
  · omega
  · omega
  · unfold bitsOf
    rw [Nat.shiftRight_eq_div_pow]
    omega
  · unfold bitsOf
    rw [Nat.shiftRight_eq_div_pow]
    omega

theorem inRecovery_eq {d : Device} (hup : d.sbUp = true) (hr : d.thaw.romRecovery = true) (f : ThawS → ThawS) :
    d.inRecovery f = { d with thaw := f d.thaw } := by
  unfold Device.inRecovery
  rw [hup, hr]
  rfl

/-- R559: a valid image is in the slot that failed first, which is preferred, and the Thaw starts again. -/
theorem restarted_spec (d : Device) (n : Nat) (b : List Byte) (boot : BootFacts) :
    let e := (({ (d.setSlot n b) with flash := { (d.setSlot n b).flash with preferred := n } } : Device)).restartThaw boot
    e.slotOf n = b ∧ e.flash.preferred = n ∧ e.thaw.recovered = true ∧ e.thaw.straps = d.thaw.straps := by
  intro e
  have hboot : bootPart e = ((d.setSlot n b).flash.slot0, (d.setSlot n b).flash.slot1, n, true, (d.setSlot n b).thaw.straps) :=
    bootPart_startThaw ..
  simp only [bootPart, Prod.mk.injEq] at hboot
  obtain ⟨h0, h1, hp, hr, hs⟩ := hboot
  refine ⟨?_, hp, hr, hs.trans ?_⟩
  · have := slotOf_setSlot_same d n b
    unfold Device.slotOf at *
    rw [h0, h1]
    exact this
  · unfold Device.setSlot
    split <;> rfl

/-- R363: ARB_PRIO of a class is written. -/
theorem classPrio_setNum (d : Device) (cls v : Nat) : classPrio (d.setNum 0x4F01 (cls + 1) 0 v) cls = v := by
  have hd : objDefault 0x4F01 (cls + 1) 0 = objDefault 0x1F01 (cls + 1) 0 := by
    have hhome : homeIdx 0x4F01 = 0x1F01 ∧ homeIdx 0x1F01 = 0x1F01 := by decide
    simp [objDefault, hhome]
  unfold classPrio Device.setNum Device.num
  rw [hd]
  exact Map.get_set_same ..

/-- Settles O49: the registers of the sideband, the winner of a slot, and the lone request at an arbiter. -/
theorem sidebandAndArbiters : Obligations.SidebandAndArbiters := by
  refine ⟨fun s v boot => ?_, fun x n prio hx => arbitrate_spec x n prio hx, fun s c cls v a port k => ⟨fun hst => ?_, ?_⟩⟩
  · intro t x becomes ok hup
    obtain ⟨h1, h2, h3, h4, h5, h6⟩ := sbStatus_fields s.dev
    refine ⟨?_, h1, h2, h3, h4, h5, h6, fun hr => ?_, fun hst hr => ?_, fun hr => ?_, fun hst hr => ?_, fun hr hst => ?_⟩
    · refine completes_run_eq (c := .sbStatus) (fun _ => by unfold exec; exact rfl) ?_ rfl
      exact if_pos hup
    · refine completes_run_eq (c := .sbRecovLen v) (fun _ => by unfold exec; exact rfl) ?_ rfl
      exact inRecovery_eq hup hr _
    · refine completes_run_eq (c := .sbRecovData v) (fun _ => by unfold exec; exact rfl) ?_ rfl
      exact (inRecovery_eq hup hr _).trans (by rw [if_pos hst])
    · refine completes_run_eq (c := .sbBegin) (fun _ => by unfold exec; exact rfl) ?_ rfl
      exact inRecovery_eq hup hr _
    · refine completes_run_eq (c := .recoveryCommit) (fun _ => by unfold exec; exact rfl) ?_ rfl
      exact (inRecovery_eq hup hr _).trans (by rw [if_pos hst])
    · have hguard : ¬ (!(s.dev.sbUp && s.dev.thaw.romRecovery && s.dev.thaw.recState == 2)) = true := by
        simp [hup, show s.dev.thaw.romRecovery = true from hr, show s.dev.thaw.recState = 2 from hst]
      by_cases hok : ok = true
      · refine completes_run_eq (c := .recoveryVerifyDone boot) (fun _ => by unfold exec; exact rfl) ?_
          (by rw [if_pos hok]; exact restarted_spec s.dev t.firstBad t.recData boot)
        exact (if_neg hguard).trans (if_pos hok)
      · refine completes_run_eq (c := .recoveryVerifyDone boot) (fun _ => by unfold exec; exact rfl) ?_ (by rw [if_neg hok])
        exact ((if_neg hguard).trans (if_neg hok)).trans (inRecovery_eq hup hr _)
  · refine completes_viaObject (c := .arbPrio c cls v) (fun _ => by unfold exec; exact rfl) hst ?_
    refine ⟨(num_send ..).trans (classPrio_setNum ..), ?_, fun w j hj => keeps_setNum s.dev 0x4F01 (cls + 1) 0 v.toNat w j hj⟩
    unfold Device.setNum
    rfl
  · exact fun hnil hp hk hm hs => arbiterGrant_completes hnil hp hk hm hs

end Sys2Proof.Machine

/-! PROOFS. Errors of edges, stacks, channels and units (R14, R21, R375 to R379). -/

namespace Sys2Proof.Machine

/-! ### The work that stops -/

theorem core_forN_modCore (F : CoreS → CoreS) (n : Nat) (d : Device) (m : Nat) :
    (forN n d (fun d g => d.modCore g F)).core m = if m < n then F (d.core m) else d.core m := by
  induction n with
  | zero => rfl
  | succ n ih =>
    rw [forN_succ]
    by_cases h : n = m
    · subst h
      rw [Device.core_modCore_same, ih, if_neg (lt_irrefl _), if_pos (Nat.lt_succ_self _)]
    · rw [Device.core_modCore_ne _ _ h, ih]
      exact if_congr (by omega) rfl rfl

theorem forN_same {β γ : Type} (v : β → γ) {f : β → Nat → β} (h : ∀ x a, v (f x a) = v x) (n : Nat) (x : β) :
    v (forN n x f) = v x := Device.foldl_same v f h _ x

/-- Events, dictionary, wall time and what has nothing to do with the work of a step. -/
def besideWork (d : Device) : EvtS × DictS × Map Byte × HvS × List OutMsg × TimeS := (d.evt, d.dict, d.mem, d.hv, d.out, d.time)

/-- The emptying of the queues of `n` cores, `m` clusters and `k` sequencers. -/
def emptied (n m k : Nat) (d : Device) : Device :=
  let d := forN n d (fun d g => d.modCore g (fun c => { c with
    thr := [], engq := [], moveq := [], watch := [], groups := [], armed := [], lack := [], again := [] }))
  let d := forN m d (fun d k => d.modClu k (fun c => { c with
    cvt := none, red := none, ltb := none, mjob := none, pred := none, reread := [] }))
  { forN k d.loseContexts (fun d q => d.setSq q { d.sq q with st := .idle, pend := 0 }) with movq := [] }

theorem emptyQueues_eq (d : Device) : d.emptyQueues = emptied 1536 96 673 d := rfl

theorem cores_emptied (n m k : Nat) (d : Device) : ∃ F : CoreS → CoreS, (∀ c, (F c).thr = []) ∧
    (emptied n m k d).cores = (forN n d (fun d g => d.modCore g F)).cores := by
  refine ⟨fun c => { c with
    thr := [], engq := [], moveq := [], watch := [], groups := [], armed := [], lack := [], again := [] }, fun _ => rfl, ?_⟩
  have hctx (e : Device) : e.loseContexts.cores = e.cores := rfl
  unfold emptied
  dsimp only
  refine (forN_same Device.cores ?_ k _).trans ((hctx _).trans (forN_same Device.cores ?_ m _)) <;> exact fun _ _ => rfl

/-- No thread runs when all queues are empty. -/
theorem thread_emptied {n x : Nat} (m k : Nat) (d : Device) (hx : x < n) (t : Nat) :
    ((emptied n m k d).thread x t).st = .free := by
  obtain ⟨F, hF, hcores⟩ := cores_emptied n m k d
  unfold Device.thread CoreS.thread
  rw [core_of_cores_eq hcores, core_forN_modCore, if_pos hx, hF, Map.get_nil]

theorem emptied_beside (n m k : Nat) (d : Device) : besideWork (emptied n m k d) = besideWork d := by
  have hmovq (e : Device) : besideWork { e with movq := [] } = besideWork e := rfl
  have hctx (e : Device) : besideWork e.loseContexts = besideWork e := rfl
  unfold emptied
  dsimp only
  rw [hmovq]
  refine (forN_same besideWork ?_ k _).trans ((hctx _).trans ((forN_same besideWork ?_ m _).trans
    (forN_same besideWork ?_ n d))) <;> exact fun _ _ => rfl

theorem emptyQueues_beside (d : Device) : besideWork d.emptyQueues = besideWork d := by
  rw [emptyQueues_eq, emptied_beside]

/-- The device with its step work stopped reports itself lost. -/
def lostAs (d : Device) : Device := ({ d with cad := { d.cad with stopped := true, stopNs := d.time.nowNs } }).send .reportLost

theorem lostAs_spec {d e : Device} (h : besideWork e = besideWork d) (hfree : ∀ m, m < 1536 → ∀ t, (e.thread m t).st = .free) :
    (lostAs e).cad.stopped = true ∧ (lostAs e).out.head? = some .reportLost ∧
      (∀ m, m < 1536 → ∀ t, ((lostAs e).thread m t).st = .free) ∧ (lostAs e).evt = d.evt ∧ (lostAs e).dict = d.dict :=
  ⟨rfl, rfl, hfree, congrArg Prod.fst h, congrArg (fun x => x.2.1) h⟩

theorem loseDevice_eq (d : Device) : d.loseDevice = lostAs d.emptyQueues := rfl

/-- R21, R375: all step work has stopped, the device reports itself lost. -/
theorem loseDevice_spec (d : Device) : d.loseDevice.cad.stopped = true ∧ d.loseDevice.out.head? = some .reportLost ∧
    (∀ m, m < 1536 → ∀ t, (d.loseDevice.thread m t).st = .free) ∧ d.loseDevice.evt = d.evt ∧ d.loseDevice.dict = d.dict := by
  rw [loseDevice_eq, emptyQueues_eq]
  exact lostAs_spec (emptied_beside ..) (fun _ hm t => thread_emptied 96 673 d hm t)

/-! ### Bytes that are lost -/

theorem get_filter {α : Type} (dflt : α) (p : Nat → Bool) (m : Map α) (k : Nat) :
    Map.get dflt (m.filter (fun e => p e.1)) k = if p k = true then Map.get dflt m k else dflt := by
  induction m with
  | nil => simp [Map.get_nil]
  | cons x m ih =>
    rw [List.filter_cons]
    by_cases hx : p x.1 = true
    · rw [if_pos hx, Map.get_cons, Map.get_cons, ih]
      by_cases hk : x.1 = k
      · rw [if_pos hk, if_pos hk, ← hk, if_pos hx]
      · rw [if_neg hk, if_neg hk]
    · rw [if_neg hx, ih, Map.get_cons]
      by_cases hk : x.1 = k
      · rw [← hk, if_neg hx, if_neg hx]
      · rw [if_neg hk]

theorem byteAt_keepMem (d : Device) (p : Nat → Bool) (y : Nat) :
    (d.keepMem p).byteAt y = if p y = true then d.byteAt y else 0 := get_filter ..

/-- R375, R379: the burst reads as zeros. -/
theorem byteAt_loseBurst (d : Device) (a : Nat) {n : Nat} (hn : 0 < n) (y : Nat) :
    (d.loseBurst a n).byteAt y = if a / n = y / n then 0 else d.byteAt y := by
  have hb : (d.loseBurst a n).byteAt y = (d.put (a / n * n) (List.replicate n 0)).byteAt y := rfl
  have hiff : (a / n * n ≤ y ∧ y < a / n * n + (List.replicate n (0 : Byte)).length) ↔ a / n = y / n := by
    rw [List.length_replicate, eq_comm (a := a / n), Nat.div_eq_iff hn]
    have := Nat.mul_comm (a / n) n
    omega
  rw [hb, Device.byteAt_put]
  by_cases h : a / n = y / n
  · rw [if_pos (hiff.2 h), if_pos h, List.getD_replicate]
    have := (hiff.2 h).2
    rw [List.length_replicate] at this
    omega
  · rw [if_neg (mt hiff.1 h), if_neg h]

/-! ### Events -/

/-- The event of a code that has not been raised of late. -/
theorem raiseEvery_of_first {d : Device} {ns code key ua ui a0 a1 : Nat} (h : Map.get 0 d.evt.last (code * 2 ^ 140 + key) = 0)
    (hc : code ≠ 0x2207) : Raised code d (d.raiseEvery ns code key ua ui a0 a1) ∧
      (d.raiseEvery ns code key ua ui a0 a1).mem = d.mem := by
  unfold Device.raiseEvery
  rw [if_neg (by rw [h]; exact Bool.false_ne_true)]
  exact ⟨raised_after ua ui a0 a1 hc rfl, Device.raise_mem ..⟩

/-! ### Units that fail -/

/-- R515: the request for a restore. -/
theorem askRestore_asks {d e : Device} {code : Nat} (he : e.num 0x1200 3 = d.num 0x1200 3) (h : Raised code d e) :
    Raised code d (e.askRestore code) ∧
      (e.askRestore code).out.head? = some (.fwWrite (d.num 0x1200 3) 0x1502 5 0 (code * 2 ^ 32)) := by
  refine ⟨h, ?_⟩
  rw [← he]
  rfl

theorem failCore_spec {d : Device} {g : Nat} (hf : (d.core g).failed = false) (hg : g < 1536) :
    (Raised 0x8010 d (d.failCore g) ∧
      (d.failCore g).out.head? = some (.fwWrite (d.num 0x1200 3) 0x1502 5 0 (0x8010 * 2 ^ 32))) ∧
      ((d.failCore g).core g).failed = true ∧ ((d.failCore g).core g).thr = [] ∧ ∀ m, m ≠ g → (d.failCore g).core m = d.core m := by
  let c0 (c : CoreS) : CoreS := { c with
    thr := [], slots := [], engq := [], moveq := [], watch := [], groups := [], armed := [], lack := [], again := [],
    failed := true }
  let x : Device := { (d.modCore g c0) with hv := { d.hv with failed := d.hv.failed ++ [(false, g)] } }
  have hX : d.failCore g = (x.raise 0x8010 0x7020 (g + 1) 0 (x.survArg x.devNo)).askRestore 0x8010 := by
    unfold Device.failCore
    rw [hf]
    rfl
  have hcore (m : Nat) : (d.failCore g).core m = (d.modCore g c0).core m := by
    rw [hX]
    exact core_of_cores_eq (Device.raise_cores x ..) m
  rw [hcore, Device.core_modCore_same]
  refine ⟨?_, rfl, rfl, fun m hm => (hcore m).trans (Device.core_modCore_ne _ _ (Ne.symm hm))⟩
  rw [hX]
  exact askRestore_asks ((num_raise_of_keeps x (by with_unfolding_all decide) (by omega)).trans (num_of_dict_eq (d := d) (e := x) rfl ..)) (raised_after _ _ _ _ (by decide) rfl)

theorem failCluster_spec {d : Device} {k : Nat} (hf : d.hv.failed.contains (true, k) = false) (hk : k < 96) :
    (Raised 0x8011 d (d.failCluster k) ∧
      (d.failCluster k).out.head? = some (.fwWrite (d.num 0x1200 3) 0x1502 5 0 (0x8011 * 2 ^ 32))) ∧
      (true, k) ∈ (d.failCluster k).hv.failed := by
  let x : Device := { d with hv := { d.hv with failed := d.hv.failed ++ [(true, k)] } }
  have hX : d.failCluster k = (x.raise 0x8011 0x7080 (k + 1) 0 (x.survArg x.devNo)).askRestore 0x8011 := by
    unfold Device.failCluster
    rw [hf]
    rfl
  rw [hX]
  refine ⟨askRestore_asks ((num_raise_of_keeps x (by with_unfolding_all decide) (by omega)).trans (num_of_dict_eq (d := d) (e := x) rfl ..)) (raised_after _ _ _ _ (by decide) rfl), ?_⟩
  have hhv : (x.raise 0x8011 0x7080 (k + 1) 0 (x.survArg x.devNo)).hv = x.hv := Device.raise_hv ..
  show (true, k) ∈ (x.raise 0x8011 0x7080 (k + 1) 0 (x.survArg x.devNo)).hv.failed
  rw [hhv]
  exact List.mem_append_right _ List.mem_cons_self

/-! ### Losses -/

/-- R379: a channel in service is lost: the tier is empty, the device reports itself lost. -/
theorem loseDdr_spec {d : Device} {c : Nat} (hc : d.num 0x70A1 1 (c + 1) = 0) (hlt : c < 12) : (d.loseDdr c).num 0x70A1 1 (c + 1) = 2 ∧
    (d.loseDdr c).num 0x1800 3 = 2 ∧ Raised 0x4006 d (d.loseDdr c) ∧ (d.loseDdr c).out.head? = some .reportLost ∧
    ∀ y, (d.loseDdr c).byteAt y = if y < Device.ddrBase then d.byteAt y else 0 := by
  let x : Device := ((d.setNum 0x70A1 1 (c + 1) 2).setNum 0x1800 3 0 2).keepMem (fun a => decide (a < Device.ddrBase))
  have hX : d.loseDdr c = (x.raise 0x4006 0x70A1 (c + 1) 0 0).send .reportLost := by
    unfold Device.loseDdr
    rw [if_neg (by omega)]
  have hnum (i k n : Nat) : x.num i k n = ((d.setNum 0x70A1 1 (c + 1) 2).setNum 0x1800 3 0 2).num i k n :=
    num_of_dict_eq (d := (d.setNum 0x70A1 1 (c + 1) 2).setNum 0x1800 3 0 2) (e := x) rfl i k n
  rw [hX]
  refine ⟨?_, ?_, raised_after _ _ _ _ (by decide) (by simp [x]), rfl, fun y => ?_⟩
  · rw [num_send, num_raise_of_keeps x (by with_unfolding_all decide) (by omega), hnum, Device.num_setNum_ne _ _ (okey_ne_idx (by decide) (by omega)), Device.num_setNum_same]
  · rw [num_send, num_raise_of_keeps x (by with_unfolding_all decide) (by omega), hnum, Device.num_setNum_same]
  · have hm : ((x.raise 0x4006 0x70A1 (c + 1) 0 0).send .reportLost).byteAt y = x.byteAt y :=
      congrArg (Map.get 0 · y) (Device.raise_mem x ..)
    rw [hm, byteAt_keepMem]
    simp [Device.byteAt]

/-- R379: fewer than sixteen bursts within a second leave the channel in service. -/
theorem ddrUncorrectable_spec {d : Device} {c : Nat} (a : Nat) (h : (Map.get [] d.bg.bursts c).length < 15) :
    Raised 0x4005 d (d.ddrUncorrectable c a) ∧ (d.ddrUncorrectable c a).mem = d.mem := by
  let x := d.raise 0x4005 0x70A1 (c + 1) a
  let l := x.time.nowNs :: (Map.get [] x.bg.bursts c).filter (fun t => decide (x.time.nowNs < t + 1000000000))
  have hX : d.ddrUncorrectable c a = { x with bg := { x.bg with bursts := Map.set [] x.bg.bursts c l } } := by
    have hbg : x.bg = d.bg := Device.raise_bg ..
    have hlen : ¬ 16 ≤ l.length := by
      simp only [l, hbg, List.length_cons]
      have := List.length_filter_le (fun t => decide (x.time.nowNs < t + 1000000000)) (Map.get [] d.bg.bursts c)
      omega
    unfold Device.ddrUncorrectable
    exact if_neg hlen
  rw [hX]
  exact ⟨raised_after (d := d) _ _ _ _ (by decide) rfl, Device.raise_mem ..⟩

/-- Settles O52: each error by what its event does and by what it takes with it. -/
theorem memoryErrors : Obligations.MemoryErrors := by
  intro s edge h ch a c g e k n stopped ch12 asks
  refine ⟨?_, ?_, fun hl => ?_, ?_, ?_, fun hl => ?_, fun off hoff hb => ?_, fun hc => ?_, fun hf => ?_, fun hf => ⟨?_, ?_⟩⟩
  · refine completes_run_eq (c := .d2dLaneFail edge true) (X := s.dev.raise 0x4009 0 0 edge) (fun _ => by unfold exec; exact rfl)
      (by exact if_pos rfl) ?_
    exact ⟨raised_after _ _ _ _ (by decide) rfl, Device.raise_mem .., Device.raise_cores ..⟩
  · refine completes_run_eq (c := .d2dLaneFail edge false) (fun _ => by unfold exec; exact rfl) rfl ?_
    obtain ⟨h1, h2, h3, h4, -⟩ := loseDevice_spec (s.dev.raise 0x400A 0 0 edge)
    exact ⟨(raised_after 0 0 edge 0 (by decide) rfl).of_evt_eq rfl h4, h1, h2, h3⟩
  · refine completes_run_eq (c := .hbmErrorReport h ch .corrected a) (fun _ => by unfold exec; exact rfl) rfl ?_
    exact raiseEvery_of_first hl (by decide)
  · refine completes_run_eq (c := .hbmErrorReport h ch .uncorrectable a) (fun _ => by unfold exec; exact rfl) rfl ?_
    have hr : Raised 0x4003 s.dev (s.dev.hbmUncorrectable h a.toNat) := raised_after _ _ _ _ (by decide) rfl
    have hm (y : Nat) : (s.dev.hbmUncorrectable h a.toNat).byteAt y = s.dev.byteAt y :=
      congrArg (Map.get 0 · y) (Device.raise_mem s.dev ..)
    dsimp only
    cases hin : inChannel h ch a.toNat with
    | true => exact ⟨hr.of_evt_eq rfl rfl, fun y => by simp [byteAt_loseBurst, hm]⟩
    | false => exact ⟨hr, fun y => by simp [hm]⟩
  · refine completes_run_eq (c := .hbmErrorReport h ch .lost a) (fun _ => by unfold exec; exact rfl) rfl ?_
    obtain ⟨h1, h2, h3, h4, h5⟩ := loseDevice_spec ((s.dev.setNum 0x70A0 1 (h + 1) 1).raise 0x4007 0x70A0 (h + 1) a.toNat)
    refine ⟨(raised_after (d := s.dev) (x := s.dev.setNum 0x70A0 1 (h + 1) 1) _ _ _ _ (by decide) (by simp)).of_evt_eq rfl h4, ?_, h1, h2, h3⟩
    refine (num_of_dict_eq h5 ..).trans ((num_raise_of_keeps _ (by with_unfolding_all decide) (by omega)).trans (Device.num_setNum_same ..))
  · refine completes_run_eq (c := .ddrCorrectedError c) (fun _ => by unfold exec; exact rfl) rfl ?_
    exact raiseEvery_of_first hl (by decide)
  · refine completes_run_eq (c := .ddrUncorrectable a)
      (X := (s.dev.loseBurst a.toNat 64).ddrUncorrectable (Device.ddrChan a.toNat) a.toNat)
      (fun _ => by unfold exec; exact rfl) ?_ ?_
    · exact congrArg (fun r => match r with
        | .ddr _ => (s.dev.loseBurst a.toNat 64).ddrUncorrectable (Device.ddrChan a.toNat) a.toNat
        | _ => s.dev) hoff
    · obtain ⟨hr, hm⟩ := ddrUncorrectable_spec (d := s.dev.loseBurst a.toNat 64) (c := ch12) a.toNat hb
      exact ⟨hr, fun y => (congrArg (Map.get 0 · y) hm).trans (byteAt_loseBurst _ _ (by decide) y)⟩
  · refine completes_run_eq (c := .ddrChannelLoss c) (X := s.dev.loseDdr c) (fun _ => by unfold exec; exact rfl) ?_ (loseDdr_spec hc c.isLt)
    exact if_pos hc
  · refine completes_run_eq (c := .unitFailureDetected (.engine g e)) (fun _ => by unfold exec; exact rfl) rfl ?_
    exact failCore_spec hf g.isLt
  · refine completes_run_eq (c := .unitFailureDetected (.fixedFunction k n)) (fun _ => by unfold exec; exact rfl) rfl ?_
    exact failCluster_spec hf k.isLt
  · refine completes_run_eq (c := .unitFailureDetected (.monitor k)) (fun _ => by unfold exec; exact rfl) rfl ?_
    exact failCluster_spec hf k.isLt

end Sys2Proof.Machine

/-! PROOFS. Scrubbing, calibration, telemetry and wear (R365, R380, R492 to R496). -/

namespace Sys2Proof.Machine

/-! ### Grants outside a run -/

theorem planRuns_of_dict {d e : Device} (h : e.dict = d.dict) : e.planRuns = d.planRuns := by
  simp only [Device.planRuns, Device.runState, Device.admState, Device.num, h]

/-- Devices that differ in what a season's quota counts only. -/
def QuotaOnly (d e : Device) : Prop :=
  ∃ (n : Nat) (g : Map Nat) (f : Bool), e = { d with bg := { d.bg with slot := n, grants := g, deferred := f } }

/-- R493: while no plan runs every grant is given. -/
theorem bgTake_of_idle {d : Device} (h : d.planRuns = false) (key num den n : Nat) :
    (d.bgTake key num den n).2 = true ∧ QuotaOnly d (d.bgTake key num den n).1 := by
  obtain ⟨m, g, f, hren⟩ := bgRenew_eq d
  have hidle : d.bgRenew.planRuns = false := (planRuns_of_dict (by rw [hren])).trans h
  have htake : d.bgTake key num den n = ({ d.bgRenew with bg := { d.bgRenew.bg with
      grants := Map.set 0 d.bgRenew.bg.grants key (Map.get 0 d.bgRenew.bg.grants key + n) } }, true) := by
    unfold Device.bgTake
    dsimp only
    rw [hidle]
    rfl
  rw [htake, hren]
  exact ⟨rfl, m, _, f, rfl⟩

/-! ### Scrubbers -/

theorem scrubAt_setScrub_same (d : Device) (key n : Nat) : (d.setScrub key n).scrubAt key = n := Map.get_set_same ..

theorem scrubAt_of_bg {d e : Device} (h : e.bg = d.bg) (key : Nat) : e.scrubAt key = d.scrubAt key := by
  simp only [Device.scrubAt, h]

/-- The event of a code that memory errors raise, which leaves memory and the background work's part. -/
theorem raiseEvery_spec (d : Device) (ns code key ua ui a0 a1 : Nat) : (d.raiseEvery ns code key ua ui a0 a1).mem = d.mem ∧
    (d.raiseEvery ns code key ua ui a0 a1).bg = d.bg := ⟨Device.raiseEvery_mem .., Device.raiseEvery_bg ..⟩

/-- R380: what was corrected waits to be written back. -/
theorem corrected_spec {d e : Device} (hm : e.mem = d.mem) (key a n : Nat) :
    Map.get none (e.setWriteBack key (some (a, e.bytes a n))).bg.writeBack key = some (a, d.bytes a n) := by
  rw [bytes_of_mem_eq hm]
  exact Map.get_set_same ..

/-- R380: the write-back stands unless the bytes have changed since they were read. -/
theorem doWriteBack_spec {d : Device} {key x : Nat} {b : List Byte} (h : Map.get none d.bg.writeBack key = some (x, b)) :
    Map.get none (d.doWriteBack key).bg.writeBack key = none ∧
      (∀ y, y < x ∨ x + b.length ≤ y → (d.doWriteBack key).byteAt y = d.byteAt y) ∧
      (d.bytes x b.length = b → (d.doWriteBack key).bytes x b.length = b) ∧
      (d.bytes x b.length ≠ b → (d.doWriteBack key).mem = d.mem) := by
  have hw : Map.get none (d.setWriteBack key none).bg.writeBack key = none := Map.get_set_same ..
  have hb : (d.setWriteBack key none).bytes x b.length = d.bytes x b.length :=
    bytes_of_mem_eq (d := d) (e := d.setWriteBack key none) rfl ..
  unfold Device.doWriteBack
  rw [h]
  dsimp only
  rw [hb]
  by_cases hs : d.bytes x b.length = b
  · rw [if_pos hs]
    exact ⟨hw, fun y hy => byteAt_put_ne _ hy, fun _ => bytes_put_same .., fun hne => absurd hs hne⟩
  · rw [if_neg hs]
    exact ⟨hw, fun _ _ => rfl, fun h => absurd h hs, fun _ => rfl⟩

/-- R379: the loss of a channel leaves the scrubbers' places, and the counts of other events. -/
theorem loseDdr_bg (d : Device) (c : Nat) : (d.loseDdr c).bg = d.bg ∧
    Map.get 0 (d.loseDdr c).evt.raised 0x4005 = Map.get 0 d.evt.raised 0x4005 := by
  unfold Device.loseDdr
  split
  · exact ⟨rfl, rfl⟩
  · refine ⟨?_, (raised_raise_ne _ _ _ _ _ (by decide) (by decide)).trans ?_⟩
    · simp
    · simp

/-- R379: an uncorrectable burst leaves the scrubbers' places. -/
theorem ddrUncorrectable_bg (d : Device) (c a : Nat) : Raised 0x4005 d (d.ddrUncorrectable c a) ∧
    (d.ddrUncorrectable c a).bg.scrubAt = d.bg.scrubAt := by
  have hr : Raised 0x4005 d (d.raise 0x4005 0x70A1 (c + 1) a) := raised_after _ _ _ _ (by decide) rfl
  have hbg : (d.raise 0x4005 0x70A1 (c + 1) a).bg = d.bg := Device.raise_bg ..
  unfold Device.ddrUncorrectable
  generalize d.raise 0x4005 0x70A1 (c + 1) a = e at *
  dsimp only
  split
  · obtain ⟨h1, h2⟩ := loseDdr_bg { e with bg := { e.bg with bursts := Map.set [] e.bg.bursts c (e.time.nowNs ::
      (Map.get [] e.bg.bursts c).filter (fun t => decide (e.time.nowNs < t + 1000000000))) } } c
    rw [h1, ← hbg]
    exact ⟨h2.trans hr, rfl⟩
  · exact ⟨hr.of_evt_eq rfl rfl, by rw [← hbg]⟩

/-! ### Calibration -/

/-- R492: a calibration that is granted. -/
theorem calibrate_of_idle {d : Device} (h : d.planRuns = false) (key num den n period ua ui : Nat) :
    Map.get 0 (d.calibrate key num den n period ua ui).bg.cal key = d.time.nowNs + 1 ∧
      (d.calibrate key num den n period ua ui).mem = d.mem := by
  obtain ⟨hyes, m, g, f, heq⟩ := bgTake_of_idle h key num den n
  unfold Device.calibrate
  dsimp only
  rw [hyes, if_pos rfl, heq]
  exact ⟨Map.get_set_same .., rfl⟩

/-- R496, R380: a pass that falls due. -/
theorem passDue_spec (d : Device) (key reads ua ui : Nat) :
    let e := (if decide (d.scrubAt key < reads) then d.raise 0x4012 ua ui else d).setScrub key 0
    e.scrubAt key = 0 ∧ (d.scrubAt key < reads → Raised 0x4012 d e) ∧ e.mem = d.mem := by
  intro e
  refine ⟨scrubAt_setScrub_same .., fun h => ?_, ?_⟩
  · simp only [e]
    rw [decide_eq_true h, if_pos rfl]
    exact (raised_after (d := d) _ _ _ _ (by decide) rfl).of_evt_eq rfl rfl
  · simp only [e]
    split
    · exact Device.raise_mem ..
    · rfl

/-! ### Wear -/

/-- R495: the erase that a wear move costs. -/
theorem eraseBlock_spec (d : Device) (b : Nat) : (d.eraseBlock b).num 0x1C01 5 = d.num 0x1C01 5 ∧
    Map.get 0 (d.eraseBlock b).flash.erase b = Map.get 0 d.flash.erase b + 1 ∧ (d.eraseBlock b).flash.recs = d.flash.recs := by
  let x : Device := { d with flash := { d.flash with erase := Map.set 0 d.flash.erase b (Map.get 0 d.flash.erase b + 1) } }
  have hE : d.eraseBlock b = wornBlock x (Map.get 0 d.flash.erase b + 1) := rfl
  have hf : (wornBlock x (Map.get 0 d.flash.erase b + 1)).flash = x.flash := by
    have h := congrArg Device.flash (wornBlock_spec x (Map.get 0 d.flash.erase b + 1)).1
    exact h
  rw [hE, hf]
  refine ⟨?_, Map.get_set_same .., rfl⟩
  have hx : x.num 0x1C01 5 = d.num 0x1C01 5 := num_withFlash ..
  have hset (e : Device) (n : Nat) : (e.setNum 0x1C01 4 0 n).num 0x1C01 5 = e.num 0x1C01 5 :=
    Device.num_setNum_ne _ _ (okey_ne_sub (by decide) (by omega))
  unfold wornBlock
  dsimp only
  split
  · rw [num_raise_of_keeps _ (by with_unfolding_all decide) (by omega)]
    split
    · exact (hset ..).trans hx
    · exact hx
  · split
    · exact (hset ..).trans hx
    · exact hx

/-- R380: the scrubber has read its next address. -/
structure ScrubRead (key : Nat) (d e : Device) : Prop where
  mem : e.mem = d.mem
  evt : e.evt = d.evt
  place : e.scrubAt key = d.scrubAt key + 1

theorem scrubRead_of_idle {d : Device} (h : d.planRuns = false) (key num den : Nat) :
    (d.bgTake key num den 1).2 = true ∧ ScrubRead key d ((d.bgTake key num den 1).1.setScrub key (d.scrubAt key + 1)) := by
  obtain ⟨hyes, m, g, f, heq⟩ := bgTake_of_idle h key num den 1
  rw [heq]
  exact ⟨hyes, rfl, rfl, scrubAt_setScrub_same ..⟩

/-- R375, R380: what a scrub read of an HBM4 channel makes of what it finds. -/
def hbmRead (h : Stack) (ch : Fin 32) (a : Nat) (ec : EccRead) (e : Device) : Device :=
  match ec with
  | .clean => e
  | .corrected => (e.hbmCorrected h ch a).setWriteBack (hbmChan h ch) (some (a, e.bytes a 128))
  | .uncorrectable => e.hbmUncorrectable h a

theorem hbmRead_spec {h : Stack} {ch : Fin 32} {d e : Device} (he : ScrubRead (hbmChan h ch) d e) (a : Nat) (ec : EccRead) :
    (hbmRead h ch a ec e).mem = d.mem ∧ (hbmRead h ch a ec e).scrubAt (hbmChan h ch) = d.scrubAt (hbmChan h ch) + 1 ∧
      (ec = .uncorrectable → Raised 0x4003 d (hbmRead h ch a ec e)) ∧
      (ec = .corrected → Map.get none (hbmRead h ch a ec e).bg.writeBack (hbmChan h ch) = some (a, d.bytes a 128)) := by
  obtain ⟨hm, hev, hp⟩ := he
  cases ec with
  | clean => exact ⟨hm, hp, (nomatch ·), (nomatch ·)⟩
  | corrected =>
    have hc := raiseEvery_spec e 1000000 0x4002 (hbmChan h ch) 0x70A0 (h + 1) a 0
    refine ⟨hc.1.trans hm, (scrubAt_of_bg (e := e.hbmCorrected h ch a) hc.2 _).trans hp, (nomatch ·), fun _ => ?_⟩
    unfold hbmRead
    dsimp only
    rw [bytes_of_mem_eq hm]
    exact Map.get_set_same ..
  | uncorrectable =>
    refine ⟨(Device.raise_mem ..).trans hm, (scrubAt_of_bg (Device.raise_bg ..) _).trans hp, fun _ => ?_, (nomatch ·)⟩
    exact raised_after (x := e) _ _ _ _ (by decide) (by rw [hev])

/-- R376, R379, R380: what a scrub read of a DDR5 channel makes of what it finds. -/
def ddrRead (c : Chan) (a : Nat) (ec : EccRead) (e : Device) : Device :=
  match ec with
  | .clean => e
  | .corrected => (e.ddrCorrected c a).setWriteBack (ddrKey c) (some (a, e.bytes a 64))
  | .uncorrectable => e.ddrUncorrectable c a

theorem ddrRead_spec {c : Chan} {d e : Device} (he : ScrubRead (ddrKey c) d e) (a : Nat) (ec : EccRead) :
    (ddrRead c a ec e).scrubAt (ddrKey c) = d.scrubAt (ddrKey c) + 1 ∧ (ec ≠ .uncorrectable → (ddrRead c a ec e).mem = d.mem) ∧
      (ec = .uncorrectable → Raised 0x4005 d (ddrRead c a ec e)) ∧
      (ec = .corrected → Map.get none (ddrRead c a ec e).bg.writeBack (ddrKey c) = some (a, d.bytes a 64)) := by
  obtain ⟨hm, hev, hp⟩ := he
  cases ec with
  | clean => exact ⟨hp, fun _ => hm, (nomatch ·), (nomatch ·)⟩
  | corrected =>
    have hc := raiseEvery_spec e 1000000 0x4004 (ddrKey c) 0x70A1 (c + 1) a 0
    refine ⟨(scrubAt_of_bg (e := e.ddrCorrected c a) hc.2 _).trans hp, fun _ => hc.1.trans hm, (nomatch ·), fun _ => ?_⟩
    unfold ddrRead
    dsimp only
    rw [bytes_of_mem_eq hm]
    exact Map.get_set_same ..
  | uncorrectable =>
    obtain ⟨hr, hb⟩ := ddrUncorrectable_bg e c a
    refine ⟨?_, fun h => absurd rfl h, fun _ => ?_, (nomatch ·)⟩
    · rw [← hp]
      exact congrArg (Map.get 0 · _) hb
    · unfold Raised at hr ⊢
      rw [← hev]
      exact hr

/-- R365: the errors of a scrubbed granule. -/
theorem storeEcc_spec {d e : Device} (hm : e.mem = d.mem) (hev : e.evt = d.evt) (k off : Nat) (ec : EccRead) :
    (e.storeEcc k off ec).mem = d.mem ∧ (e.storeEcc k off ec).bg = e.bg ∧ (ec = .corrected → Raised 0x4010 d (e.storeEcc k off ec)) ∧
      (ec = .uncorrectable → Raised 0x4011 d (e.storeEcc k off ec)) := by
  have hev' (c : Nat) : Map.get 0 e.evt.raised c = Map.get 0 d.evt.raised c := by rw [hev]
  cases ec with
  | clean => exact ⟨hm, rfl, (nomatch ·), (nomatch ·)⟩
  | corrected =>
    exact ⟨(Device.raise_mem ..).trans hm, Device.raise_bg .., fun _ => (raised_after _ _ _ _ (by decide) (hev' _)).of_evt_eq rfl rfl,
      (nomatch ·)⟩
  | uncorrectable =>
    exact ⟨(Device.raise_mem ..).trans hm, Device.raise_bg .., (nomatch ·), fun _ => raised_after _ _ _ _ (by decide) (hev' _)⟩

/-- R380: a write-back that waits, within the quota. -/
theorem writeBack_of_idle {d e : Device} {key x : Nat} {b : List Byte} (hq : QuotaOnly d e)
    (h : Map.get none d.bg.writeBack key = some (x, b)) :
    Map.get none (e.doWriteBack key).bg.writeBack key = none ∧
      (∀ y, y < x ∨ x + b.length ≤ y → (e.doWriteBack key).byteAt y = d.byteAt y) ∧
      (d.bytes x b.length = b → (e.doWriteBack key).bytes x b.length = b) ∧
      (d.bytes x b.length ≠ b → (e.doWriteBack key).mem = d.mem) := by
  have hm : e.mem = d.mem ∧ e.bg.writeBack = d.bg.writeBack := by
    obtain ⟨m, g, f, rfl⟩ := hq
    exact ⟨rfl, rfl⟩
  obtain ⟨h1, h2, h3, h4⟩ := doWriteBack_spec (d := e) (key := key) (by rw [hm.2]; exact h)
  rw [bytes_of_mem_eq hm.1] at h3 h4
  exact ⟨h1, fun y hy => (h2 y hy).trans (congrArg (Map.get 0 · y) hm.1), h3, fun hne => (h4 hne).trans hm.1⟩

/-- R495: the move between the two blocks that `m` names. -/
def wearMoved (m : Nat × Nat) (d : Device) : Device :=
  let gap := Map.get 0 d.flash.erase m.2 - Map.get 0 d.flash.erase m.1
  let winter := d.planRuns && d.season = 3 && d.flash.movedStep ≠ d.cad.step + 1
  if 256 < gap && (d.isStopped || winter) then
    let d := if d.isStopped then d else { d with flash := { d.flash with movedStep := d.cad.step + 1 } }
    (d.eraseBlock m.1).addNum 0x1C01 5 0 1
  else d

theorem exec_wearLevelMove (s : State) : exec .wearLevelMove s = s.run (fun d => wearMoved (eraseEnds d) d) := by
  have h : execWearLevelMove s = s.run (fun d => wearMoved (eraseEnds d) d) := by
    unfold execWearLevelMove wearMoved
    with_reducible rfl
  rw [← h]
  unfold exec
  with_reducible rfl

theorem wearMoved_spec {d : Device} {m : Nat × Nat} (hstop : d.isStopped = true)
    (hgap : 256 < Map.get 0 d.flash.erase m.2 - Map.get 0 d.flash.erase m.1) :
    (wearMoved m d).num 0x1C01 5 = (d.num 0x1C01 5 + 1) % 2 ^ 64 ∧
      Map.get 0 (wearMoved m d).flash.erase m.1 = Map.get 0 d.flash.erase m.1 + 1 ∧ (wearMoved m d).flash.recs = d.flash.recs := by
  have hX : wearMoved m d = (d.eraseBlock m.1).addNum 0x1C01 5 0 1 := by
    unfold wearMoved
    dsimp only
    rw [if_pos (by simpa [hstop] using hgap), if_pos hstop]
  obtain ⟨h1, h2, h3⟩ := eraseBlock_spec d m.1
  rw [hX, Device.addNum_flash]
  exact ⟨(num_addNum_same ..).trans (by rw [h1, show numBits 0x1C01 5 = 64 by with_unfolding_all decide]), h2, h3⟩

/-- R496: the ring holds the newest snapshot where it holds any. -/
theorem head?_take_cons {α : Type} (x : α) (l : List α) {n : Nat} (h : 0 < n) : ((x :: l).take n).head? = some x := by
  obtain ⟨m, rfl⟩ := Nat.exists_eq_succ_of_ne_zero (Nat.pos_iff_ne_zero.1 h)
  rfl

/-- Settles O53: each piece of background work by what its request leaves. -/
theorem backgroundWork : Obligations.BackgroundWork := by
  intro s k bank h ch c u ec x b bk now due wear hidle
  refine ⟨fun hon => ?_, fun hon => ⟨fun hw => ?_, fun hlt hw => ?_, ?_, ?_, ?_⟩,
    fun hon => ⟨fun hw => ?_, fun hin hlt hw => ?_, fun hin => ?_, ?_⟩, fun hw => ?_, ?_, ?_, fun hstop hgap => ?_⟩
  · refine completes_run_eq (c := .csScrubSlot k bank ec) (X := (s.dev.setScrub bk ((s.dev.scrubAt bk + 1) % 8192)).storeEcc k
      (2048 * s.dev.scrubAt bk + 32 * bank.val) ec) (fun _ => by unfold exec; exact rfl) ?_ ?_
    · exact if_neg (by simp [hon])
    · obtain ⟨h1, h2, h3, h4⟩ := storeEcc_spec (d := s.dev) (e := s.dev.setScrub bk ((s.dev.scrubAt bk + 1) % 8192)) rfl rfl k
        (2048 * s.dev.scrubAt bk + 32 * bank.val) ec
      exact ⟨h1, (scrubAt_of_bg h2 _).trans (scrubAt_setScrub_same ..), h3, h4⟩
  · refine completes_run_eq (c := .hbmScrubRead h ch ec) (X := s.dev) (fun _ => by unfold exec; exact rfl) ?_ rfl
    exact if_pos (by simp [Option.isSome_iff_ne_none.2 hw])
  · obtain ⟨hyes, hread⟩ := scrubRead_of_idle hidle (hbmChan h ch) 1 4
    obtain ⟨h1, h2, h3, h4⟩ := hbmRead_spec hread (Device.hbmScrubAddr h ch (s.dev.scrubAt (hbmChan h ch))) ec
    refine completes_run_eq (c := .hbmScrubRead h ch ec) (fun _ => by unfold exec; exact rfl) ?_ ⟨h1, h2, h3, h4⟩
    refine (if_neg ?_).trans ((if_neg (by rw [hyes]; exact Bool.false_ne_true)).trans ?_)
    · simp [hon, hw, Nat.not_le.2 hlt]
    · rfl
  · refine completes_run_eq (c := .scrubPassDue (.hbm h ch)) (fun _ => by unfold exec; exact rfl) ?_
      (passDue_spec s.dev (hbmChan h ch) Device.hbmReads 0x70A0 (h + 1))
    exact if_neg (by simp [hon])
  · refine completes_run_eq (c := .hbmCalibration h ch) (fun _ => by unfold exec; exact rfl) ?_
      (calibrate_of_idle hidle (hbmChan h ch) 1 4 250 100000000 0x70A0 (h + 1))
    exact if_neg (by simp [hon])
  · refine completes_run_eq (c := .eyeMonitorReading (.hbm h ch) true) (fun _ => by unfold exec; exact rfl) ?_
      (calibrate_of_idle hidle (hbmChan h ch) 1 4 250 100000000 0x70A0 (h + 1)).1
    have hstart : s.dev.hbmCalibrate h ch = s.dev.calibrate (hbmChan h ch) 1 4 250 100000000 0x70A0 (h + 1) :=
      if_neg (by simp [hon])
    exact (if_neg (by decide)).trans hstart
  · refine completes_run_eq (c := .ddrScrubRead c ec) (X := s.dev) (fun _ => by unfold exec; exact rfl) ?_ rfl
    exact if_pos (by simp [Option.isSome_iff_ne_none.2 hw])
  · obtain ⟨hyes, hread⟩ := scrubRead_of_idle hidle (ddrKey c) 1 5
    obtain ⟨h1, h2, h3, h4⟩ := ddrRead_spec hread (Device.ddrScrubAddr c (s.dev.scrubAt (ddrKey c))) ec
    refine completes_run_eq (c := .ddrScrubRead c ec) (fun _ => by unfold exec; exact rfl) ?_ ⟨h1, h2, h3, h4⟩
    refine (if_neg ?_).trans ((if_neg (by rw [hyes]; exact Bool.false_ne_true)).trans ?_)
    · simp [hon, hin, hw, Nat.not_le.2 hlt]
    · rfl
  · refine completes_run_eq (c := .scrubPassDue (.ddr c)) (fun _ => by unfold exec; exact rfl) ?_
      (passDue_spec s.dev (ddrKey c) (s.dev.ddrReads c) 0x70A1 (c + 1))
    have hin' : s.dev.num 0x70A1 1 (c + 1) = 0 := hin
    exact if_neg (by rw [hin']; simp [hon])
  · refine completes_run_eq (c := .zqCalibration c) (fun _ => by unfold exec; exact rfl) ?_
      (calibrate_of_idle hidle (ddrKey c) 1 5 200 128000000 0x70A1 (c + 1))
    exact if_neg (by simp [hon])
  · have hsome : ¬ (Map.get none s.dev.bg.writeBack (scrubKey u)).isNone = true := by simp [hw]
    cases u with
    | hbm h ch =>
      obtain ⟨hyes, hq⟩ := bgTake_of_idle hidle (hbmChan h ch) 1 4 1
      refine completes_run_eq (c := .scrubWriteBack (.hbm h ch)) (fun _ => by unfold exec; exact rfl) ?_ (writeBack_of_idle hq hw)
      exact (if_neg hsome).trans (if_pos hyes)
    | ddr c =>
      obtain ⟨hyes, hq⟩ := bgTake_of_idle hidle (ddrKey c) 1 5 1
      refine completes_run_eq (c := .scrubWriteBack (.ddr c)) (fun _ => by unfold exec; exact rfl) ?_ (writeBack_of_idle hq hw)
      exact (if_neg hsome).trans (if_pos hyes)
  · refine completes_run_eq (c := .telemetrySnapshot true) (X := s.dev.snapshot) (fun _ => by unfold exec; exact rfl) rfl
      ⟨rfl, rfl, fun hpos => ?_⟩
    exact head?_take_cons _ _ hpos
  · refine completes_run_eq (c := .telemetrySnapshot false) (X := s.dev.addNum 0x1C01 2 0 1)
      (fun _ => by unfold exec; exact rfl) rfl ⟨Device.addNum_bg .., (num_addNum_same ..).trans (by rw [show numBits 0x1C01 2 = 64 by with_unfolding_all decide])⟩
  · exact completes_run_eq (c := .wearLevelMove) (X := wearMoved wear s.dev) exec_wearLevelMove rfl
      (wearMoved_spec hstop hgap)

end Sys2Proof.Machine

/-! PROOFS. Ageing and the margin planner (R486 to R491). -/

namespace Sys2Proof.Machine

/-! ### What the clock's controller leaves alone -/

/-- The device without its objects and its power controller. -/
def besideClock (d : Device) : Device := { d with dict := {}, pwr := {} }

/-- What a step of the clock and voltage of a die leaves alone: all but the controller and the objects that show the clock
(0x1602) and what throttles it (0x1600). -/
structure ClockOnly (d e : Device) : Prop where
  beside : besideClock e = besideClock d
  dom : e.dict.dom = d.dict.dom
  num : ∀ i s k, homeIdx i ≠ 0x1602 → homeIdx i ≠ 0x1600 → s < 256 → k < 65536 → e.num i s k = d.num i s k

namespace ClockOnly
variable {d e f : Device}

theorem refl (d : Device) : ClockOnly d d := ⟨rfl, rfl, fun _ _ _ _ _ _ _ => rfl⟩

theorem trans (h : ClockOnly d e) (h' : ClockOnly e f) : ClockOnly d f :=
  ⟨h'.beside.trans h.beside, h'.dom.trans h.dom, fun i s k h1 h2 h3 h4 => (h'.num i s k h1 h2 h3 h4).trans (h.num i s k h1 h2 h3 h4)⟩

theorem evt (h : ClockOnly d e) : e.evt = d.evt := by
  have hf := congrArg Device.evt h.beside
  exact hf

theorem mem (h : ClockOnly d e) : e.mem = d.mem := by
  have hf := congrArg Device.mem h.beside
  exact hf

theorem age (h : ClockOnly d e) : e.age = d.age := by
  have hf := congrArg Device.age h.beside
  exact hf

theorem setNum (d : Device) {i s k : Nat} (v : Nat) (hi : homeIdx i = 0x1602 ∨ homeIdx i = 0x1600) (hs : s < 256) (hk : k < 65536) :
    ClockOnly d (d.setNum i s k v) := by
  refine ⟨?_, by simp, fun j s' k' h1 h2 hs' hk' => Device.num_setNum_ne _ _ (okey_ne_idx ?_ (by omega))⟩
  · unfold besideClock Device.setNum
    rfl
  · rcases hi with hi | hi <;> rw [hi]
    · exact Ne.symm h1
    · exact Ne.symm h2

theorem setDvSeq (d : Device) (die : Nat) (x : DvSeq) : ClockOnly d (d.setDvSeq die x) :=
  ⟨rfl, rfl, fun _ _ _ _ _ _ _ => num_of_dict_eq (d := d) (e := d.setDvSeq die x) rfl ..⟩

theorem ite {p : Prop} [Decidable p] (he : ClockOnly d e) (hf : ClockOnly d f) : ClockOnly d (if p then e else f) := by
  split
  · exact he
  · exact hf

theorem refreshThrottle (d : Device) : ClockOnly d d.refreshThrottle :=
  setNum d _ (.inr (by decide)) (by decide) (by decide)

theorem setFreq (d : Device) {die : Nat} (f : Nat) (h : die < 4) : ClockOnly d (d.setFreq die f) :=
  (setNum d f (.inl (by decide)) (by omega) (by omega)).trans (refreshThrottle _)

theorem dvStart (d : Device) {die : Nat} (h : die < 4) : ClockOnly d (d.dvStart die) := by
  unfold Device.dvStart
  exact ite ((setFreq d _ h).trans (setDvSeq ..)) (ite (setDvSeq ..) (ite (setDvSeq ..) (setDvSeq ..)))

theorem dvKick (d : Device) {die : Nat} (h : die < 4) : ClockOnly d (d.dvKick die) := by
  unfold Device.dvKick
  split
  · exact dvStart d h
  · exact refl d

end ClockOnly

/-! ### A plan of a die -/

theorem fieldB_flatMap_leBytes (n : Nat) (l : List Nat) {i : Nat} (hi : i < l.length) :
    fieldB (l.flatMap (leBytes n)) (n * i) n = l.getD i 0 % 256 ^ n := by
  induction l generalizing i with
  | nil => exact absurd hi (Nat.not_lt_zero _)
  | cons v l ih =>
    rw [List.flatMap_cons]
    unfold fieldB at ih ⊢
    cases i with
    | zero =>
      rw [Nat.mul_zero, sliceB_head (length_leBytes n v), leNat_leBytes, List.getD_cons_zero]
    | succ i =>
      rw [Nat.mul_succ, Nat.add_comm, sliceB_tail (length_leBytes n v), ih (Nat.lt_of_succ_lt_succ hi), List.getD_cons_succ]

/-- R480: the plan is read as it was written. -/
theorem vplans_eq {d : Device} {die : Nat} {l : List Nat} (hl : l.length = 12) (hv : ∀ v ∈ l, v < 65536)
    (hd : d.domOf 0x70C1 1 (die + 1) = l.flatMap (leBytes 2)) : d.vplans die = l := by
  have hpt (i : Nat) (hi : i ∈ List.range 12) : d.vplan die (550 + 50 * i) = l.getD i 0 := by
    have hlt : i < l.length := by rw [hl]; exact List.mem_range.1 hi
    have hdiv : (550 + 50 * i - 550) / 50 = i := by omega
    unfold Device.vplan
    rw [hd, hdiv, fieldB_flatMap_leBytes 2 l hlt]
    refine Nat.mod_eq_of_lt ?_
    rw [List.getD_eq_getElem _ _ hlt]
    exact hv _ (List.getElem_mem hlt)
  refine (List.map_congr_left hpt).trans (List.ext_getElem (by simp [hl]) fun i h1 h2 => ?_)
  rw [List.getElem_map, List.getElem_range, List.getD_eq_getElem _ _ h2]

/-- R491: the objects of fmax and of the report that goes with it. -/
def fmaxShown (d : Device) (die f : Nat) : Device :=
  let old := d.num 0x1603 (die + 1)
  let d := d.setNum 0x1603 (die + 1) 0 f
  if f < old && f < 1100 then d.raise 0x600C 0x70C1 (die + 1) (die + 1) 0 else d

theorem fmaxShown_spec (d : Device) {die : Nat} (f : Nat) (hdie : die < 4) :
    (fmaxShown d die f).num 0x1603 (die + 1) = f ∧ (fmaxShown d die f).age = d.age ∧
      Map.get 0 (fmaxShown d die f).evt.raised 0x6009 = Map.get 0 d.evt.raised 0x6009 := by
  unfold fmaxShown
  dsimp only
  split
  · refine ⟨(num_raise_of_keeps _ (by with_unfolding_all decide) (by omega)).trans (Device.num_setNum_same ..), by simp, ?_⟩
    exact (raised_raise_ne _ _ _ _ _ (by decide) (by decide)).trans (by simp)
  · exact ⟨Device.num_setNum_same .., by simp, by simp⟩

/-- R491: fmax of a die follows its plan; at 0 the device is LOST. -/
theorem applyFmax_spec {d : Device} {die : Nat} (hdie : die < 4) :
    (d.applyFmax die).num 0x1603 (die + 1) = Device.fmaxOf (d.vplans die) ∧ (d.applyFmax die).age = d.age ∧
      Map.get 0 (d.applyFmax die).evt.raised 0x6009 = Map.get 0 d.evt.raised 0x6009 ∧
      (Device.fmaxOf (d.vplans die) = 0 → (d.applyFmax die).num 0x1100 1 = 4) := by
  obtain ⟨h1, h2, h3⟩ := fmaxShown_spec d (Device.fmaxOf (d.vplans die)) hdie
  have hX : d.applyFmax die = if Device.fmaxOf (d.vplans die) = 0 then
      ((fmaxShown d die (Device.fmaxOf (d.vplans die))).setNum 0x1100 1 0 4).send .reportLost
    else if Device.fmaxOf (d.vplans die) < (fmaxShown d die (Device.fmaxOf (d.vplans die))).num 0x1601 (die + 1) then
      (fmaxShown d die (Device.fmaxOf (d.vplans die))).setNum 0x1601 (die + 1) 0 (Device.fmaxOf (d.vplans die))
    else fmaxShown d die (Device.fmaxOf (d.vplans die)) := rfl
  rw [hX]
  generalize fmaxShown d die (Device.fmaxOf (d.vplans die)) = e at *
  split
  · refine ⟨?_, by simpa using h2, by simpa using h3, fun _ => ?_⟩
    · rw [num_send, Device.num_setNum_ne _ _ (okey_ne_idx (by decide) (by omega)), h1]
    · rw [num_send, Device.num_setNum_same]
  · next hne =>
    split
    · refine ⟨?_, by simpa using h2, by simpa using h3, fun h => absurd h hne⟩
      rw [Device.num_setNum_ne _ _ (okey_ne_idx (by decide) (by omega)), h1]
    · exact ⟨h1, h2, h3, fun h => absurd h hne⟩

/-- R491: a stopped device takes the whole plan. -/
theorem applyMargin_spec {d : Device} {die : Nat} (hdie : die < 4) (hl : (Map.get [] d.age.next die : List Nat).length = 12)
    (hv : ∀ v ∈ (Map.get [] d.age.next die : List Nat), v < 65536) :
    Raised 0x6009 d (d.applyMargin die true) ∧ Map.get [] (d.applyMargin die true).age.next die = [] ∧
      (d.applyMargin die true).num 0x1603 (die + 1) = Device.fmaxOf (Map.get [] d.age.next die) ∧
      (Device.fmaxOf (Map.get [] d.age.next die) = 0 → (d.applyMargin die true).num 0x1100 1 = 4) := by
  generalize hnew : (Map.get [] d.age.next die : List Nat) = new at *
  let x : Device := { (d.setVplans die new) with age := { d.age with next := Map.set [] d.age.next die [] } }
  let y : Device := x.raise 0x6009 0x70C1 (die + 1) (die + 1) 0
  have hX : d.applyMargin die true = if (y.applyFmax die).num 0x1603 (die + 1) = 0 then y.applyFmax die
      else (y.applyFmax die).dvKick die := by
    unfold Device.applyMargin
    rw [hnew]
    cases new with
    | nil => simp at hl
    | cons v vs =>
      dsimp only
      rw [if_pos rfl, if_pos rfl, if_neg (by simp)]
      rfl
  have hy : y.domOf 0x70C1 1 (die + 1) = new.flatMap (leBytes 2) := by
    have hdom : y.dict.dom = (d.setVplans die new).dict.dom := dom_raise ..
    have hof : y.domOf 0x70C1 1 (die + 1) = (d.setVplans die new).domOf 0x70C1 1 (die + 1) := by
      simp only [Device.domOf, hdom]
    rw [hof]
    exact Device.domOf_setDom_same ..
  have hplan := vplans_eq hl hv hy
  obtain ⟨h1, h2, h3, h4⟩ := applyFmax_spec (d := y) hdie
  rw [hplan] at h1 h4
  have hr : Raised 0x6009 d (y.applyFmax die) := by
    unfold Raised
    rw [h3]
    exact raised_after (d := d) (x := x) _ _ _ _ (by decide) rfl
  have hnext : Map.get [] (y.applyFmax die).age.next die = [] := by
    rw [h2, show y.age = x.age from Device.raise_age ..]
    exact Map.get_set_same ..
  rw [hX]
  split
  · exact ⟨hr, hnext, h1, h4⟩
  · have hk := ClockOnly.dvKick (y.applyFmax die) hdie
    refine ⟨hr.of_evt_eq rfl hk.evt, by rw [hk.age]; exact hnext, ?_, fun h0 => ?_⟩
    · rw [hk.num _ _ _ (by decide) (by decide) (by omega) (by omega), h1]
    · rw [hk.num _ _ _ (by decide) (by decide) (by omega) (by omega), h4 h0]

/-! ### The planner -/

/-- R488: no point of a plan lies below 620 mV. -/
theorem planPoint_ge (d : Device) (die pt : Nat) : 6200 ≤ (d.planPoint die pt).1 := by
  unfold Device.planPoint
  dsimp only
  split
  · split
    · exact le_max_left ..
    · split
      · split <;> exact le_max_left ..
      · exact le_max_left ..
  · split
    · split <;> exact le_max_left ..
    · exact le_max_left ..

/-- R488, R489: the planner's records before it makes its plan: the load deltas, shown and kept. -/
def planned (d : Device) (die : Nat) : Device :=
  let d := forN 12 d (fun d pt => (d.updateDelta die pt 0).updateDelta die pt 1)
  (d.showDelta die).writeRec .delta d.deltaBytes true

theorem dict_updateDelta (d : Device) (die pt c : Nat) : (d.updateDelta die pt c).dict = d.dict := by
  unfold Device.updateDelta
  split
  · split <;> rfl
  · rfl

theorem num_planned (d : Device) {die : Nat} (hdie : die < 4) : (planned d die).num 0x1C00 1 = d.num 0x1C00 1 := by
  have hdict : (forN 12 d (fun d pt => (d.updateDelta die pt 0).updateDelta die pt 1)).dict = d.dict :=
    forN_same Device.dict (fun e pt => (dict_updateDelta ..).trans (dict_updateDelta ..)) 12 d
  unfold planned
  dsimp only
  rw [(flashOnly_writeRec ..).num 0x1C00 (by decide) 1 (by decide), ← num_of_dict_eq hdict 0x1C00 1 0]
  generalize forN 12 d (fun d pt => (d.updateDelta die pt 0).updateDelta die pt 1) = e
  have hset (e : Device) (s v : Nat) (hs : s < 256) : (e.setNum 0x70C1 s (die + 1) v).num 0x1C00 1 = e.num 0x1C00 1 :=
    Device.num_setNum_ne _ _ (okey_ne_idx (by decide) (by omega))
  exact (hset _ _ _ (by decide)).trans ((hset _ _ _ (by decide)).trans (hset _ _ _ (by decide)))

/-- R488: the planner makes a plan of twelve points for its die. -/
theorem planDie_spec (d : Device) (die : Nat) (hdie : die < 4) : Map.get false (d.planDie die).age.due die = false ∧
    (Map.get [] (d.planDie die).age.next die).length = 12 ∧
    (∀ v ∈ (Map.get [] (d.planDie die).age.next die : List Nat), 6200 ≤ v) ∧ (d.planDie die).num 0x1C00 2 = d.num 0x1C00 1 := by
  let plan := (List.range 12).map (fun pt => (planned d die).planPoint die pt)
  let told : Device := forN 12 (planned d die) (fun d pt => match (plan.getD pt (0, none)).2 with
    | some r => d.raise 0x600A 0x70C1 (die + 1) (pointArg die (550 + 50 * pt)) (ofSgn 48 (r.uv / 100))
    | none => d)
  let x : Device := told.setNum 0x1C00 2 0 told.hours
  have hX : d.planDie die = { x with age := { x.age with
      next := Map.set [] x.age.next die (plan.map (·.1)), due := Map.set false x.age.due die false } } := rfl
  have hnext : Map.get [] (d.planDie die).age.next die = plan.map (·.1) := by
    rw [hX]
    exact Map.get_set_same ..
  have hhours : told.num 0x1C00 1 = (planned d die).num 0x1C00 1 := by
    refine forN_same (fun e : Device => e.num 0x1C00 1) (fun e pt => ?_) 12 _
    split
    · exact num_raise_of_keeps _ (by with_unfolding_all decide) (by omega)
    · rfl
  rw [hnext]
  refine ⟨by rw [hX]; exact Map.get_set_same .., by simp [plan], fun v hv => ?_, ?_⟩
  · obtain ⟨p, hp, rfl⟩ := List.mem_map.1 hv
    obtain ⟨pt, -, rfl⟩ := List.mem_map.1 hp
    exact planPoint_ge ..
  · have hx : (d.planDie die).num 0x1C00 2 = x.num 0x1C00 2 := num_of_dict_eq (d := x) (e := d.planDie die) rfl ..
    rw [hx, Device.num_setNum_same]
    exact hhours.trans (num_planned d hdie)

/-! ### Readings and hours -/

/-- R486, R487: a canary's reading, and the Vmin that it gives. -/
def canaryShown (d : Device) (die : Nat) (ps mean lo hi : Nat) : Device :=
  let pt := (d.freq die - 550) / 50
  let least := Map.get 0 d.age.canaryHour die
  let low := if least = 0 then ps else min ps (least - 1)
  let d := { d with age := { d.age with canaryHour := Map.set 0 d.age.canaryHour die (low + 1) } }
  let d := d.setNum 0x70C1 5 (die + 1) (min low 65535)
  if loadClass lo = loadClass hi then
    let uv : Int := 100 * d.vcore die - (ps * 1000000 / Config.canaryK die pt : Nat)
    let key := 64 * die + 4 * pt + loadClass mean
    { d with age := { d.age with
        readings := Map.upd [] d.age.readings key (fun l => pushVmin l { uv := uv, hour := d.hours }) } }
  else d

theorem canaryShown_spec (d : Device) (die ps mean lo hi : Nat) : (canaryShown d die ps mean lo hi).mem = d.mem ∧
    (canaryShown d die ps mean lo hi).evt = d.evt ∧
    (loadClass lo ≠ loadClass hi → (canaryShown d die ps mean lo hi).age.readings = d.age.readings) := by
  unfold canaryShown
  dsimp only
  split
  · next h => exact ⟨by simp, by simp, fun hne => absurd h hne⟩
  · exact ⟨by simp, by simp, fun _ => by simp⟩

/-- R490: a canary below 10 ps. -/
theorem lowCanary_spec (d : Device) (die : Die) (a b : Nat) :
    let e := ((d.raise 0x600B 0x70C1 (die + 1) a b).bumpVplan die).planDue die
    Raised 0x600B d e ∧ e.mem = d.mem ∧ e.age.readings = d.age.readings ∧ Map.get false e.age.due die = true := by
  intro e
  have hk := ClockOnly.dvKick ((d.raise 0x600B 0x70C1 (die + 1) a b).setVplans die
    (((d.raise 0x600B 0x70C1 (die + 1) a b).vplans die).map (fun v => min (v + 100) 65535))) die.isLt
  have hr : Raised 0x600B d (d.raise 0x600B 0x70C1 (die + 1) a b) := raised_after _ _ _ _ (by decide) rfl
  refine ⟨hr.of_evt_eq rfl hk.evt, hk.mem.trans (Device.raise_mem ..), ?_, Map.get_set_same ..⟩
  have ha := congrArg AgeS.readings (hk.age.trans (Device.raise_age ..))
  exact ha

/-- R486: the bins of an hour leave numbers, flash and monitors alone. -/
theorem binHour_eq (d : Device) (i : Nat) : (binHour d i).dict.num = d.dict.num ∧ (binHour d i).flash = d.flash ∧
    (binHour d i).age = d.age ∧ (binHour d i).mem = d.mem := by
  unfold binHour
  dsimp only
  split <;> exact ⟨rfl, rfl, rfl, rfl⟩

/-- R487, R490: an hour is counted and kept. -/
def hourKept (d : Device) : Device :=
  let d := d.addNum 0x1C00 1 0 1
  let d := d.writeRec .hours (leBytes 4 d.hours) true
  forN 4 { d with age := { d.age with canaryHour := [] } } binHour

theorem hourKept_spec (d : Device) : (hourKept d).num 0x1C00 1 = (d.num 0x1C00 1 + 1) % 2 ^ 32 ∧
    (hourKept d).flashNum .hours = (d.num 0x1C00 1 + 1) % 2 ^ 32 ∧ (hourKept d).age.canaryHour = [] ∧
    (hourKept d).mem = d.mem := by
  let a : Device := d.addNum 0x1C00 1 0 1
  let b : Device := a.writeRec .hours (leBytes 4 a.hours) true
  let c : Device := { b with age := { b.age with canaryHour := [] } }
  have ha : a.num 0x1C00 1 = (d.num 0x1C00 1 + 1) % 2 ^ 32 :=
    (num_addNum_same ..).trans (by rw [show numBits 0x1C00 1 = 32 by with_unfolding_all decide])
  have hflash := flashOnly_writeRec a .hours (leBytes 4 a.hours) true
  have hbin {γ : Type} (v : Device → γ) (h : ∀ e i, v (binHour e i) = v e) : v (hourKept d) = v c :=
    forN_same v h 4 c
  have hnum : (hourKept d).num 0x1C00 1 = c.num 0x1C00 1 := hbin (fun e : Device => e.num 0x1C00 1) fun e i => by
    simp only [Device.num, (binHour_eq e i).1]
  have hrec : (hourKept d).flashNum .hours = c.flashNum .hours :=
    flashNum_of_flash_eq (hbin Device.flash fun e i => (binHour_eq e i).2.1) _
  refine ⟨?_, ?_, ?_, ?_⟩
  · rw [hnum, ← ha]
    exact (num_of_dict_eq (d := b) (e := c) rfl ..).trans (hflash.num 0x1C00 (by decide) 1 (by decide))
  · rw [hrec, ← ha]
    have hcb : c.flashNum .hours = b.flashNum .hours := rfl
    rw [hcb, Device.flashNum, flashRec_writeRec_same, Option.getD_some, leNat_leBytes]
    refine Nat.mod_eq_of_lt ?_
    rw [show a.hours = a.num 0x1C00 1 from rfl, ha]
    exact Nat.mod_lt _ (by decide)
  · rw [hbin Device.age fun e i => (binHour_eq e i).2.2.1]
  · rw [hbin Device.mem fun e i => (binHour_eq e i).2.2.2]
    exact hflash.aside.mem.trans (Device.addNum_mem ..)

/-- Settles O54: the readings, the hour, the planner and the application of its plan, each by its lemma. -/
theorem ageing : Obligations.Ageing := by
  intro s die ps mean lo hi ppm i new
  refine ⟨?_, ?_, ?_, fun hdue => ?_, fun hstop hl hv => ?_⟩
  · obtain ⟨h1, h2, h3⟩ := canaryShown_spec s.dev die ps mean lo hi
    by_cases hps : ps < 10
    · obtain ⟨hr, hm, hrd, hd⟩ := lowCanary_spec (canaryShown s.dev die ps mean lo hi) die
        (pointArg die ((canaryShown s.dev die ps mean lo hi).freq die)) ps
      refine completes_run_eq (c := .canaryReading die ps mean lo hi) (fun _ => by unfold exec; exact rfl) ?_
        ⟨hm.trans h1, fun _ => ⟨?_, hd⟩, fun hne => hrd.trans (h3 hne)⟩
      · exact if_pos hps
      · unfold Raised at hr ⊢
        rw [← h2]
        exact hr
    · refine completes_run_eq (c := .canaryReading die ps mean lo hi) (X := canaryShown s.dev die ps mean lo hi)
        (fun _ => by unfold exec; exact rfl) ?_ ⟨h1, fun h => absurd h hps, h3⟩
      exact if_neg hps
  · let x : Device := s.dev.setNum 0x70C1 6 (die + 1) (ofSgn 32 ppm)
    have hx : x.num 0x70C1 6 (die + 1) = ofSgn 32 ppm := Device.num_setNum_same ..
    refine completes_run_eq (c := .ringOscReading die ppm)
      (X := if ppm ≤ -20000 && decide (-20000 < sgnOf 32 (s.dev.num 0x70C1 6 (die + 1))) then x.planDue die else x)
      (fun _ => by unfold exec; exact rfl) rfl ⟨?_, fun h1 h2 => ?_⟩
    · split
      · exact (num_of_dict_eq (d := x) (e := x.planDue die) rfl ..).trans hx
      · exact hx
    · rw [if_pos (by simp [h1, h2])]
      exact Map.get_set_same ..
  · obtain ⟨h1, h2, h3, h4⟩ := hourKept_spec s.dev
    refine completes_run_eq (c := .powerOnHour) (X := if (hourKept s.dev).num 0x1C00 2 + (hourKept s.dev).force 0x1C00 3 ≤
      (hourKept s.dev).hours then forN 4 (hourKept s.dev) (fun d i => d.planDue i) else hourKept s.dev)
      (fun _ => by unfold exec; exact rfl) rfl ?_
    split
    · have hdue {γ : Type} (v : Device → γ) (h : ∀ e i, v (Device.planDue e i) = v e) :=
        forN_same v h 4 (hourKept s.dev)
      refine ⟨?_, ?_, ?_, ?_⟩
      · exact (num_of_dict_eq (hdue Device.dict fun _ _ => rfl) ..).trans h1
      · exact (flashNum_of_flash_eq (hdue Device.flash fun _ _ => rfl) _).trans h2
      · exact (hdue (fun e => e.age.canaryHour) fun _ _ => rfl).trans h3
      · exact (hdue Device.mem fun _ _ => rfl).trans h4
    · exact ⟨h1, h2, h3, h4⟩
  · refine completes_run_eq (c := .plannerRun die) (X := s.dev.planDie die) (fun _ => by unfold exec; exact rfl) ?_
      (planDie_spec s.dev die die.isLt)
    exact if_pos hdue
  · refine completes_run_eq (c := .marginPlanApply die) (X := s.dev.applyMargin die true) (fun _ => by unfold exec; exact rfl) ?_
      (applyMargin_spec die.isLt hl hv)
    exact if_pos hstop

end Sys2Proof.Machine

/-! PROOFS. Clocks, voltages and protections (R480 to R485). -/

namespace Sys2Proof.Machine

/-! ### Clock and voltage -/

/-- What the controller's own steps leave of the clock's inputs. -/
theorem ClockOnly.goal {d e : Device} (h : ClockOnly d e) (hcap : e.pwr.cap = d.pwr.cap) {die : Nat} (hdie : die < 4) :
    e.dvGoal die = d.dvGoal die := by
  unfold Device.dvGoal
  rw [h.num 0x1601 _ _ (by decide) (by decide) (by omega) (by decide), h.num 0x1603 _ _ (by decide) (by decide) (by omega) (by decide),
    hcap]

theorem vplan_of_dom {d e : Device} (h : e.dict.dom = d.dict.dom) (die f : Nat) : e.vplan die f = d.vplan die f := by
  simp only [Device.vplan, Device.domOf, h]

section
variable (d : Device) {die : Nat} (hdie : die < 4)

theorem num_refreshThrottle {i s k : Nat} (h : homeIdx i ≠ 0x1600 ∨ s ≠ 4) (hs : s < 256)
    (hk : k < 65536) : d.refreshThrottle.num i s k = d.num i s k := by
  refine Device.num_setNum_ne _ _ ?_
  refine Device.okey_ne (by decide) (by decide) hs hk fun e => ?_
  exact h.elim (fun h => h (congrArg Prod.fst e).symm) (fun h => h (congrArg (fun x => x.2.1) e).symm)

theorem pwr_setFreq (die f : Nat) : (d.setFreq die f).pwr = d.pwr := (Device.setNum_pwr ..).trans (Device.setNum_pwr ..)

include hdie

theorem freq_setFreq (f : Nat) : (d.setFreq die f).freq die = f := by
  exact (num_refreshThrottle _ (.inl (by decide)) (by omega) (by omega)).trans (Device.num_setNum_same ..)

theorem vcore_setFreq (f : Nat) : (d.setFreq die f).vcore die = d.vcore die := by
  exact (num_refreshThrottle _ (.inl (by decide)) (by omega) (by omega)).trans (Device.num_setNum_ne _ _ (okey_ne_sub (by omega) (by omega)))

/-- R481, R482: after a direct write the sequence has ended and the target is the clock. -/
theorem endSequence_spec : (endSequence d die).freq die = d.freq die ∧ (endSequence d die).vcore die = d.vcore die ∧
    (endSequence d die).num 0x1601 (die + 1) = d.freq die ∧ (endSequence d die).dvSeq die = .idle := by
  have hnum (i k n : Nat) : (d.setDvSeq die .idle).num i k n = d.num i k n :=
    num_of_dict_eq (d := d) (e := d.setDvSeq die .idle) rfl i k n
  have hne {i s : Nat} (v : Nat) (h : homeIdx i ≠ 0x1601) (hs : s < 256) :
      ((d.setDvSeq die .idle).setNum 0x1601 (die + 1) 0 v).num i s = d.num i s :=
    (Device.num_setNum_ne _ _ (okey_ne_idx (Ne.symm h) (by omega))).trans (hnum ..)
  have hpwr : (endSequence d die).pwr = (d.setDvSeq die .idle).pwr := Device.setNum_pwr ..
  refine ⟨hne _ (by decide) (by omega), hne _ (by decide) (by omega), Device.num_setNum_same .., ?_⟩
  unfold Device.dvSeq
  rw [hpwr]
  exact Map.get_set_same ..

/-- R482: a sequence toward a goal below the clock switches the clock down first. -/
theorem freq_dvStart_of_lt (h : d.dvGoal die < d.freq die) : (d.dvStart die).freq die = d.dvGoal die := by
  have hseq (e : Device) (x : DvSeq) : (e.setDvSeq die x).freq die = e.freq die :=
    num_of_dict_eq (d := e) (e := e.setDvSeq die x) rfl ..
  unfold Device.dvStart
  dsimp only
  rw [if_pos h, hseq]
  exact freq_setFreq d hdie _

end

theorem cap_dvKick (d : Device) (die : Nat) : (d.dvKick die).pwr.cap = d.pwr.cap := by
  have hset (e : Device) (f : Nat) (x : DvSeq) : ((e.setFreq die f).setDvSeq die x).pwr.cap = e.pwr.cap := by
    have h := congrArg PwrS.cap (pwr_setFreq e die f)
    exact h
  unfold Device.dvKick
  split
  · unfold Device.dvStart
    dsimp only
    split
    · exact hset ..
    · split
      · rfl
      · split <;> rfl
  · rfl

/-- R481: the point of a die after its wait: the clock is the goal, which no sequence leaves again. -/
theorem freq_settled {d : Device} {die : Nat} (hdie : die < 4) (hv : ¬ d.vcore die < d.vplan die (d.dvGoal die)) :
    (((d.setFreq die (d.dvGoal die)).setDvSeq die .idle).dvStart die).freq die = d.dvGoal die := by
  have hclock := (ClockOnly.setFreq d (d.dvGoal die) hdie).trans (ClockOnly.setDvSeq _ die .idle)
  have hcap : ((d.setFreq die (d.dvGoal die)).setDvSeq die .idle).pwr.cap = d.pwr.cap := by
    have h := congrArg PwrS.cap (pwr_setFreq d die (d.dvGoal die))
    exact h
  have hfreq : ((d.setFreq die (d.dvGoal die)).setDvSeq die .idle).freq die = d.dvGoal die :=
    (num_of_dict_eq (d := d.setFreq die (d.dvGoal die))
      (e := (d.setFreq die (d.dvGoal die)).setDvSeq die .idle) rfl ..).trans (freq_setFreq d hdie _)
  have hvc : ((d.setFreq die (d.dvGoal die)).setDvSeq die .idle).vcore die = d.vcore die :=
    (num_of_dict_eq (d := d.setFreq die (d.dvGoal die))
      (e := (d.setFreq die (d.dvGoal die)).setDvSeq die .idle) rfl ..).trans (vcore_setFreq d hdie _)
  have hgoal := hclock.goal hcap hdie
  have hplan := vplan_of_dom hclock.dom die (d.dvGoal die)
  generalize (d.setFreq die (d.dvGoal die)).setDvSeq die .idle = e at *
  have hseq (x : DvSeq) : (e.setDvSeq die x).freq die = e.freq die :=
    num_of_dict_eq (d := e) (e := e.setDvSeq die x) rfl ..
  unfold Device.dvStart
  dsimp only
  rw [hgoal, hfreq, hvc, hplan, if_neg (lt_irrefl _), if_neg hv, if_neg (lt_irrefl _), hseq, hfreq]

/-- R480, R483: the write of a die's target. -/
theorem targetHook_spec (d : Device) {die f : Nat} (hdie : die < 4) :
    (isPoint f = false → targetHook die f d = (d, stRange)) ∧
    (isPoint f = true → belowFloor d f = true → Raised 0x6004 d (targetHook die f d).1 ∧ (targetHook die f d).2 = stRange) ∧
    (isPoint f = true → belowFloor d f = false → (targetHook die f d).1.num 0x1601 (die + 1) = f ∧ (targetHook die f d).2 = stOK) := by
  unfold targetHook
  refine ⟨fun h => ?_, fun h hb => ?_, fun h hb => ?_⟩
  · rw [h]
    rfl
  · rw [h, hb]
    exact ⟨raised_after (d := d) _ _ _ _ (by decide) rfl, rfl⟩
  · rw [h, hb]
    refine ⟨?_, rfl⟩
    exact ((ClockOnly.dvKick (d.setNum 0x1601 (die + 1) 0 f) hdie).num _ _ _ (by decide) (by decide) (by omega) (by decide)).trans
      (Device.num_setNum_same ..)

/-- R481, R483: the direct write of a die's clock. -/
theorem freqHook_spec (d : Device) {die f : Nat} (hdie : die < 4) (hp : isPoint f = true) (hb : belowFloor d f = false) :
    if d.vcore die < d.vplan die f then
      Raised 0x6003 d (freqHook die f d).1 ∧ (freqHook die f d).1.freq die = d.freq die ∧ (freqHook die f d).2 = stState
    else (freqHook die f d).1.freq die = f ∧ (freqHook die f d).1.num 0x1601 (die + 1) = f ∧
      (freqHook die f d).1.dvSeq die = .idle ∧ (freqHook die f d).2 = stOK := by
  unfold freqHook
  rw [hp, hb]
  simp only [Bool.not_true, Bool.false_eq_true, if_false]
  split
  · exact ⟨raised_after (d := d) _ _ _ _ (by decide) rfl, num_raise_of_keeps _ (by with_unfolding_all decide) (by omega), rfl⟩
  · obtain ⟨h1, -, h3, h4⟩ := endSequence_spec (d.setFreq die f) hdie
    rw [freq_setFreq d hdie] at h1 h3
    exact ⟨h1, h3, h4, rfl⟩

/-- R481, R483: the direct write of a die's voltage. -/
theorem vcoreHook_spec (d : Device) {die v : Nat} (hdie : die < 4) (hv : v % 25 = 0) :
    if v < d.vplan die (d.freq die) then Raised 0x6003 d (vcoreHook die v d).1 ∧ (vcoreHook die v d).1.vcore die = d.vcore die
    else (vcoreHook die v d).1.vcore die = v ∧ (vcoreHook die v d).1.dvSeq die = .idle ∧ (vcoreHook die v d).2 = stOK := by
  unfold vcoreHook
  rw [if_neg (show ¬ v % 25 ≠ 0 by omega)]
  by_cases hlow : v < d.vplan die (d.freq die)
  all_goals simp only [hlow, if_true, if_false]
  · exact ⟨raised_after (d := d) _ _ _ _ (by decide) rfl, num_raise_of_keeps _ (by with_unfolding_all decide) (by omega)⟩
  · obtain ⟨-, h2, -, h4⟩ := endSequence_spec (d.setNum 0x1602 (die + 5) 0 v) hdie
    exact ⟨h2.trans (Device.num_setNum_same ..), h4, trivial⟩

theorem freq_setVcore (d : Device) {die : Nat} (hdie : die < 4) (v : Nat) :
    (d.setNum 0x1602 (die + 5) 0 v).freq die = d.freq die := Device.num_setNum_ne _ _ (okey_ne_sub (by omega) (by omega))

/-- R481: a step of the voltage. -/
theorem vcoreStep_spec (d : Device) {die : Nat} (v : Nat) (hdie : die < 4) (p : Prop) [Decidable p] (x : DvSeq) :
    let e := d.setNum 0x1602 (die + 5) 0 v
    (if p then e.setDvSeq die x else e).vcore die = v ∧ (if p then e.setDvSeq die x else e).freq die = d.freq die := by
  intro e
  have hnum (n : Nat) : (if p then e.setDvSeq die x else e).num 0x1602 n = e.num 0x1602 n := by
    split
    · exact num_of_dict_eq (d := e) (e := e.setDvSeq die x) rfl ..
    · rfl
  exact ⟨(hnum _).trans (Device.num_setNum_same ..), (hnum _).trans (Device.num_setNum_ne _ _ (okey_ne_sub (by omega) (by omega)))⟩

/-! ### Protections -/

/-- R484: what a die's junction, past its thresholds for the first time, raises. -/
theorem thermalDie_spec (d : Device) (die : Nat) : (d.thermalDie die).pwr.tj = d.pwr.tj ∧
    (d.tThrottle ≤ d.dieJunction die → Map.get false d.pwr.episode die = false →
      Raised 0x6005 d (d.thermalDie die) ∧ Map.get false (d.thermalDie die).pwr.episode die = true) ∧
    (1105 ≤ d.dieJunction die → Map.get false d.pwr.hot die = false → Raised 0x6006 d (d.thermalDie die)) := by
  let j := d.dieJunction die
  let t := d.tThrottle
  let ep := Map.get false d.pwr.episode die
  let hot := Map.get false d.pwr.hot die
  let marked : Device := { d with pwr := { d.pwr with
    episode := Map.set false d.pwr.episode die (if t ≤ j then true else if j ≤ t - 5 then false else ep),
    hot := Map.set false d.pwr.hot die (decide (1105 ≤ j)) } }
  let warm : Device := if t ≤ j && !ep then marked.raise 0x6005 0x70C1 (die + 1) (die + 1) (ofSgn 48 ((j : Int) - 1000)) else marked
  have hX : d.thermalDie die = if 1105 ≤ j && !hot then warm.raise 0x6006 0x70C1 (die + 1)
      (die + 1 + b2n (decide (d.freq die ≤ d.clkFloor)) * 2 ^ 24) (ofSgn 48 ((j : Int) - 1000)) else warm := rfl
  have hwarm : warm.pwr = marked.pwr := by
    simp only [warm]
    split
    · exact Device.raise_pwr ..
    · rfl
  have hpwr : (d.thermalDie die).pwr = marked.pwr := by
    rw [hX]
    split
    · exact (Device.raise_pwr ..).trans hwarm
    · exact hwarm
  rw [hpwr]
  refine ⟨rfl, fun hj hep => ⟨?_, ?_⟩, fun hj hhot => ?_⟩
  · have h1 : Raised 0x6005 d warm := by
      simp only [warm]
      rw [if_pos (by simp [j, t, ep, hj, hep])]
      exact raised_after (d := d) (x := marked) _ _ _ _ (by decide) rfl
    rw [hX]
    split
    · unfold Raised at *
      rw [raised_raise_ne _ _ _ _ _ (by decide) (by decide), h1]
    · exact h1
  · refine (Map.get_set_same ..).trans (if_pos hj)
  · have h1 : Map.get 0 warm.evt.raised 0x6006 = Map.get 0 d.evt.raised 0x6006 := by
      simp only [warm]
      split
      · exact raised_raise_ne marked _ _ _ _ (by decide) (by decide)
      · rfl
    rw [hX, if_pos (by simp [j, hot, hj, hhot])]
    exact raised_after _ _ _ _ (by decide) h1

/-- R484: the readings after a junction's. -/
theorem junction_spec (d : Device) (die : Die) (t : Int) :
    let j := max (t + 1000).toNat (Map.get 0 d.pwr.tj (4 + die.val / 2))
    let x : Device := { d with pwr := { d.pwr with tj := Map.set 0 d.pwr.tj die (t + 1000).toNat } }
    let e := (x.refreshTj.thermalDie die).refreshThrottle
    Map.get 0 e.pwr.tj die = (t + 1000).toNat ∧
      (d.tThrottle ≤ j → Map.get false d.pwr.episode die = false →
        Raised 0x6005 d e ∧ Map.get false e.pwr.episode die = true) ∧
      (1105 ≤ j → Map.get false d.pwr.hot die = false → Raised 0x6006 d e) := by
  intro j x e
  have hpwr : x.refreshTj.pwr = x.pwr := Device.setNum_pwr ..
  have hevt : x.refreshTj.evt = d.evt := Device.setNum_evt x ..
  have he : e.pwr = (x.refreshTj.thermalDie die).pwr := Device.setNum_pwr ..
  have hee : e.evt = (x.refreshTj.thermalDie die).evt := Device.setNum_evt ..
  have hj : x.refreshTj.dieJunction die = j := by
    unfold Device.dieJunction
    rw [hpwr]
    have h2 : Map.get 0 x.pwr.tj (4 + die.val / 2) = Map.get 0 d.pwr.tj (4 + die.val / 2) := Map.get_set_ne _ _ _ (by omega)
    rw [h2]
    exact congrArg (max · _) (Map.get_set_same ..)
  have ht : x.refreshTj.tThrottle = d.tThrottle := by
    unfold Device.tThrottle Device.force Device.refreshTj Device.setNum
    rfl
  obtain ⟨h1, h2, h3⟩ := thermalDie_spec x.refreshTj die
  rw [hj] at h2 h3
  rw [ht] at h2
  rw [hpwr] at h1 h2 h3
  have back {c : Nat} (h : Raised c x.refreshTj (x.refreshTj.thermalDie die)) : Raised c d e := by
    unfold Raised at *
    rw [hee, ← hevt]
    exact h
  refine ⟨?_, fun hle hep => ?_, fun hle hhot => back (h3 hle hhot)⟩
  · rw [he, h1]
    exact Map.get_set_same ..
  · obtain ⟨hr, hp⟩ := h2 hle hep
    exact ⟨back hr, by rw [he]; exact hp⟩

/-- R484: an input reading. -/
theorem input_spec (d : Device) (ms sec : Nat) :
    let e := (d.inputReading ms sec).refreshThrottle
    e.num 0x1600 1 = sec ∧ (3300 < ms ∨ d.force 0x1600 2 < sec → d.pwr.exceeds = none →
      Raised 0x6008 d e ∧ e.pwr.exceeds = some d.time.nowNs) := by
  intro e
  let x : Device := d.setNum 0x1600 1 0 sec
  let low : Device := { x with pwr := { x.pwr with exceeds := some x.time.nowNs, inputLow := false } }
  have hpwr : x.pwr = d.pwr := Device.setNum_pwr ..
  have hnum : e.num 0x1600 1 = (d.inputReading ms sec).num 0x1600 1 := num_refreshThrottle _ (.inr (by decide)) (by decide) (by decide)
  have hx : x.num 0x1600 1 = sec := Device.num_setNum_same ..
  have hwith (p : PwrS) : ({ x with pwr := p } : Device).num 0x1600 1 = sec :=
    (num_of_dict_eq (d := x) (e := { x with pwr := p }) rfl ..).trans hx
  have hkeep (p : PwrS) (a b : Nat) : (({ x with pwr := p } : Device).raise 0x6008 0 0 a b).num 0x1600 1 = sec :=
    (num_raise_of_keeps _ (by with_unfolding_all decide) (by omega)).trans (hwith p)
  refine ⟨?_, fun hover hnone => ?_⟩
  · rw [hnum]
    unfold Device.inputReading
    dsimp only
    split
    · split
      · exact hkeep ..
      · split
        · exact hkeep ..
        · exact hx
    · exact hwith _
  · have hX : d.inputReading ms sec = low.raise 0x6008 0 0 0 sec := by
      unfold Device.inputReading
      dsimp only
      rw [if_pos (by simpa using hover), show x.pwr.exceeds = none by rw [hpwr]; exact hnone]
    have he : e.pwr = low.pwr := (Device.setNum_pwr ..).trans (by rw [hX]; exact Device.raise_pwr ..)
    refine ⟨?_, ?_⟩
    · have hr : Raised 0x6008 d (low.raise 0x6008 0 0 0 sec) :=
        raised_after _ _ _ _ (by decide) (congrArg (fun v : EvtS => Map.get 0 v.raised 0x6008) (Device.setNum_evt d ..))
      exact hr.of_evt_eq rfl ((Device.setNum_evt ..).trans (by rw [hX]))
    · rw [he]
      exact congrArg (fun v : TimeS => some v.nowNs) (Device.setNum_time d ..)

/-- R484: a clock that a protection lowers. -/
theorem capped_spec {d : Device} {die c : Nat} (hdie : die < 4) (hc : c < d.freq die) (h0 : c ≠ 0) :
    let e := ({ d with pwr := { d.pwr with cap := Map.set 0 d.pwr.cap die c } } : Device).dvKick die
    Map.get 0 e.pwr.cap die = c ∧ (d.dvSeq die = .idle →
      e.freq die = min (min (d.num 0x1601 (die + 1)) (d.num 0x1603 (die + 1))) c) := by
  intro e
  let x : Device := { d with pwr := { d.pwr with cap := Map.set 0 d.pwr.cap die c } }
  have hcap : Map.get 0 x.pwr.cap die = c := Map.get_set_same ..
  have hx (i s k : Nat) : x.num i s k = d.num i s k := num_of_dict_eq (d := d) (e := x) rfl ..
  have hgoal : x.dvGoal die = min (min (d.num 0x1601 (die + 1)) (d.num 0x1603 (die + 1))) c := by
    unfold Device.dvGoal
    dsimp only
    rw [hcap, if_neg h0, hx, hx]
  have hfreq : x.freq die = d.freq die := hx ..
  refine ⟨?_, fun hidle => ?_⟩
  · rw [← hcap]
    exact congrArg (Map.get 0 · die) (cap_dvKick x die)
  · have hkick : e = x.dvStart die := by
      simp only [e]
      unfold Device.dvKick
      rw [show Device.dvSeq x die = .idle from hidle]
    rw [hkick, freq_dvStart_of_lt x hdie ?_, hgoal]
    rw [hgoal, hfreq]
    exact lt_of_le_of_lt (min_le_right ..) hc

/-- R485: a stack's temperature. -/
theorem hbmTemp_spec (d : Device) (h : Stack) (t : Int) :
    let x : Device := d.setNum 0x70A0 4 (h + 1) (ofSgn 8 t)
    let y : Device := { x with pwr := { x.pwr with hbmT := Map.set 0 x.pwr.hbmT h (t + 1000).toNat } }
    let set (b : Bool) : Device := ({ y with pwr := { y.pwr with hbmThr := Map.set false y.pwr.hbmThr h b } }).refreshThrottle
    let e := if 95 < t then (if Map.get false d.pwr.hbmThr h then y else (set true).raise 0x6007 0x70A0 (h + 1) (pdH h) (ofSgn 48 t))
      else if t ≤ 90 then set false else y
    e.num 0x70A0 4 (h + 1) = ofSgn 8 t ∧
      (95 < t → Map.get false e.pwr.hbmThr h = true ∧ (Map.get false d.pwr.hbmThr h = false → Raised 0x6007 d e)) ∧
      (t ≤ 90 → Map.get false e.pwr.hbmThr h = false) := by
  intro x y set e
  have hlt := h.isLt
  have hx : x.num 0x70A0 4 (h + 1) = ofSgn 8 t := Device.num_setNum_same ..
  have hy : y.num 0x70A0 4 (h + 1) = ofSgn 8 t := (num_of_dict_eq (d := x) (e := y) rfl ..).trans hx
  have hset (b : Bool) : (set b).num 0x70A0 4 (h + 1) = ofSgn 8 t :=
    (num_refreshThrottle _ (.inl (by decide)) (by omega) (by omega)).trans ((num_of_dict_eq (d := x)
      (e := { y with pwr := { y.pwr with hbmThr := Map.set false y.pwr.hbmThr h b } }) rfl ..).trans hx)
  have hthr (b : Bool) : Map.get false (set b).pwr.hbmThr h = b := by
    have hp : (set b).pwr = { y.pwr with hbmThr := Map.set false y.pwr.hbmThr h b } := Device.setNum_pwr ..
    rw [hp]
    exact Map.get_set_same ..
  have hxp : x.pwr = d.pwr := Device.setNum_pwr ..
  simp only [e]
  by_cases hhot : 95 < t
  · rw [if_pos hhot]
    cases hold : Map.get false d.pwr.hbmThr h with
    | true =>
      have hyt : Map.get false y.pwr.hbmThr h = true := by
        rw [← hold, ← hxp]
      exact ⟨hy, fun _ => ⟨hyt, fun h => nomatch h⟩, fun h => absurd h (by omega)⟩
    | false =>
      refine ⟨(num_raise_of_keeps _ (by with_unfolding_all decide) (by omega)).trans (hset true), fun _ => ⟨?_, fun _ => ?_⟩, fun h => absurd h (by omega)⟩
      · have hp : ((set true).raise 0x6007 0x70A0 (h + 1) (pdH h) (ofSgn 48 t)).pwr = (set true).pwr := Device.raise_pwr ..
        rw [if_neg Bool.false_ne_true, hp]
        exact hthr true
      · rw [if_neg Bool.false_ne_true]
        refine raised_after _ _ _ _ (by decide) ?_
        have hev : (set true).evt = d.evt := (Device.setNum_evt ..).trans (Device.setNum_evt d ..)
        rw [hev]
  · rw [if_neg hhot]
    refine ⟨?_, fun h => absurd h hhot, fun hc => ?_⟩
    · split
      · exact hset false
      · exact hy
    · rw [if_pos hc]
      exact hthr false

/-- What a hook answers is the answer that leaves. -/
theorem answered {x : Device × Nat} (i sub : Nat) {st : Nat} (h : x.2 = st) :
    (x.1.send (.answer i sub 0 x.2)).out.head? = some (.answer i sub 0 st) := by
  rw [h]
  rfl

/-- Settles O45: each write and each reading by what its rule makes of it. -/
theorem powerClocksAndProtections : Obligations.PowerClocksAndProtections := by
  intro s c die mhz v t h ms sec ans f j hot flr
  refine ⟨fun hst => ?_, fun hst hp hb => ?_, fun hst hv => ?_, fun hq => ?_, fun hq hlt => ?_, fun hq => ?_, ?_, ?_,
    fun hhot hflr => ?_, ?_⟩
  · obtain ⟨h1, h2, h3⟩ := targetHook_spec s.dev (f := f) die.isLt
    refine completes_viaObject (c := .pwrDieTargetMhz c die mhz) (fun _ => by unfold exec; exact rfl) hst
      ⟨fun hp => by rw [h1 hp]; rfl, fun hp hb => ?_, fun hp hb => ?_⟩
    · obtain ⟨hr, ha⟩ := h2 hp hb
      exact ⟨hr.of_evt_eq rfl rfl, answered _ _ ha⟩
    · obtain ⟨hr, ha⟩ := h3 hp hb
      exact ⟨(num_send ..).trans hr, answered _ _ ha⟩
  · have hX := freqHook_spec s.dev (f := f) die.isLt hp hb
    refine completes_viaObject (c := .pwrDieFreqMhz c die mhz) (fun _ => by unfold exec; exact rfl) hst ?_
    by_cases hlow : s.dev.vcore die < s.dev.vplan die f
    · simp only [if_pos hlow] at hX ⊢
      obtain ⟨h1, h2, h3⟩ := hX
      exact ⟨h1.of_evt_eq rfl rfl, (num_send ..).trans h2, answered _ _ h3⟩
    · simp only [if_neg hlow] at hX ⊢
      obtain ⟨h1, h2, h3, h4⟩ := hX
      exact ⟨(num_send ..).trans h1, (num_send ..).trans h2, h3, answered _ _ h4⟩
  · have hX := vcoreHook_spec s.dev (v := v.toNat) die.isLt hv
    refine completes_viaObject (c := .pwrDieVcore c die v) (fun _ => by unfold exec; exact rfl) hst ?_
    by_cases hlow : v.toNat < s.dev.vplan die (s.dev.freq die)
    · simp only [if_pos hlow] at hX ⊢
      exact ⟨hX.1.of_evt_eq rfl rfl, (num_send ..).trans hX.2⟩
    · simp only [if_neg hlow] at hX ⊢
      obtain ⟨h1, h2, h3⟩ := hX
      exact ⟨(num_send ..).trans h1, h2, answered _ _ h3⟩
  · refine completes_run_eq (c := .vcoreSlewStep die) (fun _ => by unfold exec; exact rfl) ?_
      (vcoreStep_spec s.dev (s.dev.vcore die + 25) die.isLt (s.dev.vplan die (s.dev.dvGoal die) ≤ s.dev.vcore die + 25)
        (if s.dev.freq die = s.dev.dvGoal die then .idle else .settle (s.dev.dvGoal die)))
    dsimp only
    rw [hq]
    dsimp only
    rw [if_neg (not_not.2 rfl), vplan_of_dom (Device.dom_setNum ..), freq_setVcore s.dev die.isLt]
  · refine completes_run_eq (c := .vcoreSlewStep die) (fun _ => by unfold exec; exact rfl) ?_
      (vcoreStep_spec s.dev (s.dev.vcore die - 25) die.isLt (s.dev.vcore die - 25 ≤ s.dev.vplan die (s.dev.dvGoal die)) .idle)
    dsimp only
    rw [hq]
    dsimp only
    rw [if_neg (not_not.2 rfl), if_neg (Nat.not_le.2 hlt), vplan_of_dom (Device.dom_setNum ..)]
  · refine completes_run_eq (c := .settleDone die) (X := if s.dev.vcore die < s.dev.vplan die (s.dev.dvGoal die) then
      s.dev.setDvSeq die (.up (s.dev.dvGoal die)) else
        ((s.dev.setFreq die (s.dev.dvGoal die)).setDvSeq die .idle).dvStart die) (fun _ => by unfold exec; exact rfl) ?_ ?_
    · rw [hq]
    · split
      · exact ⟨Map.get_set_same .., num_of_dict_eq (d := s.dev) (e := s.dev.setDvSeq die (.up (s.dev.dvGoal die))) rfl ..⟩
      · next hv => exact freq_settled die.isLt hv
  · exact completes_run_eq (c := .thermalSensorRead (.junction die t)) (fun _ => by unfold exec; exact rfl) rfl (junction_spec s.dev die t)
  · exact completes_run_eq (c := .thermalSensorRead (.input ms sec)) (fun _ => by unfold exec; exact rfl) rfl (input_spec s.dev ms sec)
  · have hflr0 : 550 ≤ flr := by
      simp only [flr]
      split
      · exact le_rfl
      · exact le_max_left ..
    refine completes_run_eq (c := .throttleStep die) (fun _ => by unfold exec; exact rfl) ?_
      (capped_spec (d := s.dev) (c := max flr (s.dev.freq die - 50)) die.isLt (by omega) (by omega))
    have hh : (decide (s.dev.tThrottle ≤ s.dev.dieJunction die) || s.dev.pwr.exceeds.isSome) = true := by
      rcases hhot with h | h
      · simp [h]
      · simp [Option.isSome_iff_ne_none.2 h]
    have hfl : (if decide (1105 ≤ s.dev.dieJunction die) || s.dev.pwr.overFloor then 550 else max 550 s.dev.clkFloor) = flr := by
      simp only [flr, Bool.or_eq_true, decide_eq_true_eq]
    refine (if_pos hh).trans ?_
    rw [hfl]
    exact if_pos hflr
  · exact completes_run_eq (c := .hbmTempReport h t) (fun _ => by unfold exec; exact rfl) rfl (hbmTemp_spec s.dev h t)

end Sys2Proof.Machine

/-! PROOFS. Power domains (R473 to R479). -/

namespace Sys2Proof.Machine

/-- A device with the domain of a port in retention that its shape does not use: its domain is held off. -/
def idlePort : Device := ({} : Device).setNum 0x70C0 1 (pdP 0) 1

theorem heldOff_idlePort : idlePort.heldOff (pdP 0) = true := by
  have hlink : idlePort.link = ({} : Device).link := Device.setNum_link ..
  simp only [Device.heldOff, Device.shape, hlink]
  decide

/-- Refutes O44: the neighbour's DETECT asks for a port domain to be on, but a port that the shape does not use is held off, so the
request is refused with 0x6001 and no transition begins. -/
theorem not_powerDomains : ¬ Obligations.PowerDomains := by
  intro h
  let s : State := { dev := idlePort }
  have hstate : idlePort.pdState (pdP 0) = 1 := Device.num_setNum_same ..
  have hrefused : idlePort.pdRefused (pdP 0) 0 = true := by
    unfold Device.pdRefused
    rw [heldOff_idlePort]
    rfl
  obtain ⟨-, -, -, -, -, -, -, -, -, hdetect⟩ := h s .thaw 0 0
  obtain ⟨t, hexec, -, ⟨hbegun, -⟩, -⟩ := hdetect hstate
  have hX : exec (.neighbourDetect 0) s = .next { s with dev := (idlePort.raise 0x6001 0x70C0 (pdP 0) (pdP 0)) } := by
    have hreq : (idlePort.pdRequest (pdP 0) 0 7).1 = idlePort.raise 0x6001 0x70C0 (pdP 0) (pdP 0) := by
      have h0 : (if (0 : Nat) = 3 then 2 else 0) = 0 := rfl
      unfold Device.pdRequest
      dsimp only
      rw [h0, hrefused, if_pos rfl]
      rfl
    have hrun : exec (.neighbourDetect 0) s =
        .next { s with dev := if idlePort.pdState (pdP 0) = 1 then (idlePort.pdRequest (pdP 0) 0 7).1 else idlePort } := rfl
    rw [hrun, if_pos hstate, hreq]
  have hdev : t.dev = idlePort.raise 0x6001 0x70C0 (pdP 0) (pdP 0) := by
    rw [hX] at hexec
    cases hexec
    rfl
  have hkept : (idlePort.raise 0x6001 0x70C0 (pdP 0) (pdP 0)).pdState (pdP 0) = idlePort.pdState (pdP 0) :=
    num_raise_of_keeps _ (by with_unfolding_all decide) ⟨by decide, by decide, by decide, by decide⟩
  have hthree : t.dev.pdState (pdP 0) = 3 := hbegun
  rw [hdev, hkept, hstate] at hthree
  exact absurd hthree (by decide)

end Sys2Proof.Machine

/-! PROOFS. Writes of objects and the objects with a command of their own (R422 to R426, R433, R435). -/

namespace Sys2Proof.Machine

/-! ### Who may write -/

section
variable {d : Device} {i sub : Nat} {r : ObjRow} {sid : BitVec 32}

theorem classStatus_readOnly {c : Conn} (h : r.acc = .ro ∨ r.acc = .rp) : d.classStatus c r i sub = stReadOnly := by
  unfold Device.classStatus
  rw [if_pos]
  rcases h with h | h <;> simp [h]

/-- R422: a class that takes writes does not refuse them by itself. -/
theorem writable {sub i : Nat} (ha : r.acc = .rw ∨ r.acc = .wo ∨ r.acc = .rws) (hmir : hasMirror i sub = false) :
    ¬ (r.acc = .ro || r.acc = .rp || hasMirror i sub) = true := by
  rcases ha with ha | ha | ha <;> simp [ha, hmir]

section
variable (ha : r.acc = .rw ∨ r.acc = .wo ∨ r.acc = .rws) (hmir : hasMirror i sub = false)
include ha hmir

theorem classStatus_noSession (h : d.session sid.toNat = none) : d.classStatus (.session sid) r i sub = stNoSession := by
  unfold Device.classStatus
  rw [if_neg (writable ha hmir)]
  dsimp only
  rw [h]

variable {z : Session} (hz : d.session sid.toNat = some z)
include hz

theorem classStatus_denied (h : z.ceil < (if 0x4000 ≤ i ∧ i < 0x5000 then 3 else 2) ∨ d.lease ≠ sid.toNat) :
    d.classStatus (.session sid) r i sub = stDenied := by
  unfold Device.classStatus
  rw [if_neg (writable ha hmir)]
  dsimp only
  rw [hz]
  dsimp only
  by_cases hrole : z.ceil < (if 0x4000 ≤ i ∧ i < 0x5000 then 3 else 2)
  · rw [if_pos (by simp [hrole])]
  · rw [if_pos (h.resolve_left hrole)]
    exact ite_self _

theorem classStatus_leaseholder (hfw : i ≠ 0x1502) (hceil : (if 0x4000 ≤ i ∧ i < 0x5000 then 3 else 2) ≤ z.ceil)
    (hlease : d.lease = sid.toNat) : d.classStatus (.session sid) r i sub =
      if r.acc = .rws ∧ d.isStopped = false then (if d.admState = 2 then stState else stNotStopped) else stOK := by
  have hrole : decide (z.ceil < if 0x4000 ≤ i ∧ i < 0x5000 then 3 else 2) = false := decide_eq_false hceil.not_gt
  unfold Device.classStatus
  rw [if_neg (writable ha hmir)]
  dsimp only
  rw [hz]
  dsimp only
  rw [if_neg (by simp [hfw, hrole]), if_neg (not_not.2 hlease)]
  exact if_congr (by simp) rfl rfl

end
end

/-! ### Objects without a rule of their own -/

/-- R433: a write of an object without a rule of its own stores the value. -/
theorem scalarHook_of_plain {i : Nat} (h : i ∉ ownRule) (c : Conn) (sub inst : Nat) (data : List Byte) (d : Device) :
    scalarHook c i sub inst data d = (d.setNum i sub inst (leNat data), stOK) := by
  simp only [ownRule, List.mem_cons, List.not_mem_nil, or_false, not_or] at h
  unfold scalarHook
  split
  all_goals first | omega | rfl

/-! ### The taint of a step -/

/-- R308: what the taint of a step records before it is raised. -/
def taintRecorded (d : Device) (c : Nat) : Device :=
  let d := d.setNum 0x1401 1 0 1
  let d := d.setNum 0x1401 2 0 c
  let d := d.setNum 0x1401 3 0 d.cad.step
  { d with health := { d.health with
    tainted := Map.set 0 d.health.tainted d.cad.step (c + 1), uncounted := d.health.uncounted + 1 } }

theorem taintRecorded_spec (d : Device) (c : Nat) : (taintRecorded d c).num 0x1401 1 = 1 ∧ (taintRecorded d c).num 0x1401 2 = c ∧
    (taintRecorded d c).num 0x1401 3 = d.cad.step ∧ (taintRecorded d c).evt = d.evt := by
  let x : Device := (d.setNum 0x1401 1 0 1).setNum 0x1401 2 0 c
  have hnum (s : Nat) : (taintRecorded d c).num 0x1401 s = (x.setNum 0x1401 3 0 x.cad.step).num 0x1401 s :=
    num_of_dict_eq (d := x.setNum 0x1401 3 0 x.cad.step) (e := taintRecorded d c) rfl ..
  have hne (e : Device) {s k : Nat} (v : Nat) (h : s ≠ k) (hs : s < 256) (hk : k < 256) :
      (e.setNum 0x1401 s 0 v).num 0x1401 k = e.num 0x1401 k := Device.num_setNum_ne _ _ (okey_ne_sub h (by omega))
  refine ⟨?_, ?_, ?_, ?_⟩
  · rw [hnum, hne _ _ (by decide) (by decide) (by decide), hne _ _ (by decide) (by decide) (by decide), Device.num_setNum_same]
  · rw [hnum, hne _ _ (by decide) (by decide) (by decide), Device.num_setNum_same]
  · rw [hnum, Device.num_setNum_same]
    simp [x]
  · simp [taintRecorded]

/-- R308, R326: the step of a clean device is tainted with its cause. -/
theorem taint_of_clean {d : Device} (h : d.num 0x1401 1 ≠ 1) (c : Nat) : (d.taint c).num 0x1401 1 = 1 ∧
    (d.taint c).num 0x1401 2 = c ∧ (d.taint c).num 0x1401 3 = d.cad.step ∧ Raised 0x2207 d (d.taint c) := by
  let y : Device := ((taintRecorded d c).countEvent 0x2207 0).raiseRaw 0x2207 0 0 c 0
  have hX : d.taint c = y.send (.taint y.cad.step y.devNo c) := if_neg h
  have hnum (s : Nat) (hs : s ∈ [1, 2, 3]) : (d.taint c).num 0x1401 s = (taintRecorded d c).num 0x1401 s := by
    have hraw : okey (homeIdx 0x1401) s 0 ∉ (rawObjs 0x2207).map (fun o => okey (homeIdx o.1) o.2.1 o.2.2) := by
      revert s
      decide
    have hctr : okey (homeIdx 0x1401) s 0 ∉ ((evRow 0x2207).ctr.map (fun c => (c.1, c.2, if objInsts c.1 = 0 then 0 else 0))).map
        (fun o => okey (homeIdx o.1) o.2.1 o.2.2) := by
      revert s
      with_unfolding_all decide
    rw [hX, num_send, KeepsObjects.num (keeps_raiseRaw ((taintRecorded d c).countEvent 0x2207 0) 0x2207 0 0 c 0) _ _ _ hraw,
      KeepsObjects.num (keeps_countEvent (taintRecorded d c) 0x2207 0) _ _ _ hctr]
  obtain ⟨h1, h2, h3, h4⟩ := taintRecorded_spec d c
  rw [hnum 1 (by decide), hnum 2 (by decide), hnum 3 (by decide)]
  refine ⟨h1, h2, h3, ?_⟩
  rw [hX]
  simp [Raised, y, h4]

theorem num_taint_one (d : Device) (c : Nat) : (d.taint c).num 0x1401 1 = 1 := by
  by_cases h : d.num 0x1401 1 = 1
  · rw [show d.taint c = d from if_pos h, h]
  · exact (taint_of_clean h c).1

/-! ### Losses and the planner -/

/-- R322: a loss for the present step is kept, any other is counted. -/
theorem lossHook_spec (eval : Bool) (v : Nat) (d : Device) : (lossHook eval v d).2 = stOK ∧
    (v % 2 ^ 32 = d.cad.step % 2 ^ 32 → (lossHook eval v d).1.health =
      if eval then { d.health with evalLoss := some (v % 2 ^ 32, v / 2 ^ 32) } else { d.health with loss := some (v % 2 ^ 32, v / 2 ^ 32) }) ∧
    (¬ v % 2 ^ 32 = d.cad.step % 2 ^ 32 → (lossHook eval v d).1.health = d.health ∧
      (lossHook eval v d).1.num 0x1404 3 = (d.num 0x1404 3 + 1) % 2 ^ 64) := by
  by_cases h : v % 2 ^ 32 = d.cad.step % 2 ^ 32
  · have hX : lossHook eval v d = (if eval then { d with health := { d.health with evalLoss := some (v % 2 ^ 32, v / 2 ^ 32) } }
        else { d with health := { d.health with loss := some (v % 2 ^ 32, v / 2 ^ 32) } }, stOK) := if_neg (not_not.2 h)
    rw [hX]
    refine ⟨rfl, fun _ => ?_, fun hn => absurd h hn⟩
    cases eval <;> rfl
  · have hX : lossHook eval v d = (d.addNum 0x1404 3 0 1, stOK) := if_pos h
    rw [hX]
    exact ⟨rfl, fun hn => absurd hn h, fun _ => ⟨Device.addNum_health .., (num_addNum_same ..).trans
      (by rw [show numBits 0x1404 3 = 64 by with_unfolding_all decide])⟩⟩

/-- R490: the planner is to run for each of the first `n` dies. -/
theorem due_forN (n : Nat) (d : Device) {die : Nat} (h : die < n) :
    Map.get false (forN n d (fun d i => d.planDue i)).age.due die = true := by
  induction n with
  | zero => exact absurd h (Nat.not_lt_zero _)
  | succ n ih =>
    rw [forN_succ]
    by_cases hn : n = die
    · subst hn
      exact Map.get_set_same ..
    · exact (Map.get_set_ne _ _ _ hn).trans (ih (by omega))

/-- Settles O40: the access rules by the cases of the class, the plain write, and the objects with a command of their own. -/
theorem objectWritesAndCommands : Obligations.ObjectWritesAndCommands := by
  refine ⟨fun s sid w r => ?_, fun s c v tsid => ?_⟩
  · intro i sub inst c answered
    refine ⟨fun ht => ⟨fun hne => completes_objectWrite_refused ht hne rfl, fun hok hown => ?_⟩,
      fun hr hm hv hs hi hfw => ⟨fun ha => ?_, fun ha hmir => ⟨fun hz => ?_, fun z hz => ⟨fun hden => ?_, fun hceil hlease => ?_⟩⟩⟩⟩
    · refine completes_run_eq (c := .objectWrite c w)
        (X := (s.dev.setNum i sub inst (leNat w.data)).send (.answer i sub inst stOK)) (fun _ => by unfold exec; exact rfl) ?_ ?_
      · refine (if_neg ht).trans ?_
        have hitem : writeItem c w s.dev = (s.dev.setNum i sub inst (leNat w.data), stOK) := by
          unfold writeItem
          exact (if_neg (not_not.2 hok)).trans (scalarHook_of_plain hown ..)
        rw [hitem]
        rfl
      · refine ⟨(num_send ..).trans (Device.num_setNum_same ..), ?_, fun x k hk => keeps_setNum s.dev i sub inst _ x k hk⟩
        unfold Device.setNum
        rfl
    · rw [accessStatus_of_objRow hr hm hv hs hi, classStatus_readOnly ha]
    · rw [accessStatus_of_objRow hr hm hv hs hi, classStatus_noSession ha hmir hz]
    · rw [accessStatus_of_objRow hr hm hv hs hi, classStatus_denied ha hmir hz hden]
    · rw [accessStatus_of_objRow hr hm hv hs hi, classStatus_leaseholder ha hmir hz hfw hceil hlease]
  · intro ans loss now
    refine ⟨fun hst => ?_, fun hst => ?_, fun hst => ?_, fun hst => ?_, fun hst => ?_⟩
    · refine completes_viaObject (c := .hlthTaintReq c 1) (hook := taintHook) (fun _ => by unfold exec; exact rfl) hst
        ⟨(num_send ..).trans (num_taint_one ..), rfl, Device.taint_mem .., fun hclean => ?_⟩
      obtain ⟨-, h2, h3, h4⟩ := taint_of_clean hclean 0
      exact ⟨(num_send ..).trans h2, (num_send ..).trans h3, h4.of_evt_eq rfl rfl⟩
    · exact completes_viaObject (c := .scaleRecal c tsid) (fun _ => by unfold exec; exact rfl) hst rfl
    · obtain ⟨h1, h2, h3⟩ := lossHook_spec false v.toNat s.dev
      exact completes_viaObject (c := .hlthLoss c v) (fun _ => by unfold exec; exact rfl) hst
        ⟨answered _ _ h1, h2, fun hn => ⟨(h3 hn).1, (num_send ..).trans (h3 hn).2⟩⟩
    · obtain ⟨h1, h2, h3⟩ := lossHook_spec true v.toNat s.dev
      exact completes_viaObject (c := .hlthEvalLoss c v) (fun _ => by unfold exec; exact rfl) hst
        ⟨answered _ _ h1, h2, fun hn => ⟨(h3 hn).1, (num_send ..).trans (h3 hn).2⟩⟩
    · refine completes_viaObject (c := .ageReplan c 1) (hook := replanHook 1) (fun _ => by unfold exec; exact rfl) hst ⟨rfl, fun die hd => due_forN 4 s.dev hd, ?_, ?_⟩
      · exact forN_same Device.dict (f := fun d i => d.planDue i) (fun _ _ => rfl) 4 s.dev
      · exact forN_same Device.mem (f := fun d i => d.planDue i) (fun _ _ => rfl) 4 s.dev

end Sys2Proof.Machine

/-! PROOFS. Harvests (R501 to R511). -/

namespace Sys2Proof.Machine

/-! ### Copies of the Harvest engines -/

theorem view_ite {γ : Type} {v : Device → γ} {c : Prop} [Decidable c] {a b : Device} {x : γ} (ha : v a = x) (hb : v b = x) :
    v (if c then a else b) = x := by
  split
  · exact ha
  · exact hb

section
variable {γ : Type} (v : Device → γ) (hput : ∀ (d : Device) (a : Nat) (bs : List Byte), v (d.put a bs) = v d)
  (hputW : ∀ (d : Device) (a : Nat) (bs : List Byte), v (d.putW a bs) = v d)
  (hre : ∀ (d : Device) (a p : Nat), v (d.reachNothing 0 0 a p) = v d)
include hre

section
include hputW

theorem hubMove_same (h : Fin 2) (d : Device) (src dst n : Nat) : v (Device.hubMove h d src dst n) = v d := by
  have hread : v (if d.hubReach src n false = true then d else d.reachNothing 0 0 src (Device.harvestPort h)) = v d :=
    view_ite rfl (hre ..)
  exact view_ite ((hputW ..).trans hread) ((hre ..).trans hread)

theorem engineCopy_same (h : Fin 2) (toTier : Bool) (fuel src dst n : Nat) (d : Device) :
    v (Device.engineCopy h toTier fuel src dst n d) = v d := by
  induction fuel generalizing src dst n d with
  | zero => rfl
  | succ fuel ih =>
    unfold Device.engineCopy
    dsimp only
    split
    · rfl
    · rw [ih]
      exact view_ite (hubMove_same v hputW hre ..) rfl

/-- What neither a write nor an access that reaches nothing changes, no copy of the Harvest engines changes. -/
theorem harvestCopy_same (d : Device) (toTier : Bool) (src dst n : Nat) : v (d.harvestCopy toTier src dst n) = v d :=
  (engineCopy_same v hputW hre ..).trans (engineCopy_same v hputW hre ..)

theorem loadImage_same (d : Device) (base : Nat) (im : List Byte) (f : PlanFacts) : v (d.loadImage base im f) = v d :=
  Device.foldl_same v _ (fun _ _ => harvestCopy_same v hputW hre ..) _ d

end

include hput

theorem engineFill_same (h : Fin 2) (fuel : Nat) (bs : List Byte) (dst : Nat) (d : Device) :
    v (Device.engineFill h fuel bs dst d) = v d := by
  induction fuel generalizing bs dst d with
  | zero => rfl
  | succ fuel ih =>
    unfold Device.engineFill
    dsimp only
    split
    · rfl
    · rw [ih]
      exact view_ite rfl (view_ite (hput ..) (hre ..))

include hputW in
theorem copyImage_same (d : Device) (base : Nat) (im : List Byte) (f : PlanFacts) : v (d.copyImage base im f) = v d :=
  (Device.foldl_same v _ (fun _ _ => harvestCopy_same v hputW hre ..) _ _).trans
    ((engineFill_same v hput hre ..).trans (engineFill_same v hput hre ..))

end

/-- The state of the detectors. -/
def detectors (d : Device) : Det × Det := (d.health.det0, d.health.det1)

theorem detectors_taint (d : Device) (c : Nat) : detectors (d.taint c) = detectors d := by
  unfold Device.taint
  refine view_ite rfl ?_
  simp [detectors]

@[simp] theorem detectors_raise (d : Device) (c ua ui a b : Nat) : detectors (d.raise c ua ui a b) = detectors d :=
  Prod.ext (det_raise ..).1 (det_raise ..).2

/-! ### Slots and announcements -/

theorem slotImg_setSlotImg (d : Device) (n : Nat) (x : Option Image) : (d.setSlotImg n x).slotImg n = x := by
  unfold Device.setSlotImg Device.slotImg
  by_cases h : n = 0
  · simp only [if_pos h]
  · simp only [if_neg h]

/-- A slot's image is no matter of memory, events or the dictionary. -/
theorem setSlotImg_eq (d : Device) (n : Nat) (x : Option Image) :
    d.setSlotImg n x = { d with hv := (d.setSlotImg n x).hv } ∧ (d.setSlotImg n x).hv.run = d.hv.run := by
  unfold Device.setSlotImg
  split <;> exact ⟨rfl, rfl⟩

theorem setSlotImg_mem (d : Device) (n : Nat) (x : Option Image) : (d.setSlotImg n x).mem = d.mem := by
  rw [(setSlotImg_eq d n x).1]

theorem setSlotImg_dict (d : Device) (n : Nat) (x : Option Image) : (d.setSlotImg n x).dict = d.dict := by
  rw [(setSlotImg_eq d n x).1]

theorem setSlotImg_evt (d : Device) (n : Nat) (x : Option Image) : (d.setSlotImg n x).evt = d.evt := by
  rw [(setSlotImg_eq d n x).1]

theorem slotImg_of_slots {d e : Device} (ha : e.hv.slotA = d.hv.slotA) (hb : e.hv.slotB = d.hv.slotB) (n : Nat) :
    e.slotImg n = d.slotImg n := by
  unfold Device.slotImg
  rw [ha, hb]

theorem slotImg_of_hv {d e : Device} (h : e.hv = d.hv) (n : Nat) : e.slotImg n = d.slotImg n :=
  slotImg_of_slots (by rw [h]) (by rw [h]) n

/-- An announcement goes to every member. -/
theorem announce_spec (d : Device) (n : Nat) :
    (announce d n).hv = { d.hv with announced := some n } ∧
    (∀ m ∈ d.cad.members, .fwWrite m 0x1502 2 0 n ∈ (announce d n).out) ∧ (announce d n).mem = d.mem := by
  obtain ⟨-, -, hsent⟩ := mem_foldl_send (fun _ => true) (fun m => .fwWrite m 0x1502 2 0 n) d.cad.members
    { d with hv := { d.hv with announced := some n } }
  simp only [if_true] at hsent
  exact ⟨Device.foldl_same Device.hv (fun d m => d.send (.fwWrite m 0x1502 2 0 n)) (fun _ _ => rfl) _ _,
    fun m hm => hsent m hm trivial,
    Device.foldl_same Device.mem (fun d m => d.send (.fwWrite m 0x1502 2 0 n)) (fun _ _ => rfl) _ _⟩

/-! ### The manifest -/

theorem manifest_seal (d : Device) (r : HvRun) (im : List Byte) (f : PlanFacts) :
    5 < (d.manifest r im f).length ∧ (d.manifest r im f).getD 5 0 = 0xA5 := by
  have key (a b c : List Byte) (rest : List Byte) (ha : a.length = 4) (hb : b.length = 1) (hc : c = [0xA5]) :
      5 < (a ++ b ++ c ++ rest).length ∧ (a ++ b ++ c ++ rest).getD 5 0 = 0xA5 := by
    subst hc
    constructor
    · simp only [List.length_append, List.length_singleton]
      omega
    · rw [List.getD_append _ _ _ _ (by simp only [List.length_append, List.length_singleton]; omega),
        List.getD_append_right _ _ _ _ (by simp only [List.length_append]; omega)]
      simp [ha, hb]
  unfold Device.manifest
  simp only [List.append_assoc]
  simpa only [List.append_assoc] using key (leBytes 4 0x56485A41) (leBytes 1 1) (leBytes 1 0xA5) _ rfl rfl rfl

/-! ### Settling the obligation -/

theorem completes_hvCommand {s : State} {c : Conn} {v : Byte} (h : s.dev.valueStatus c 0x1501 1 0 v.toNat = stOK) :
    Completes (.hvCommand c v) s (fun d =>
      (s.dev.runState ≠ 2 → d = { s.dev with out := .answer 0x1501 1 0 stState :: s.dev.out }) ∧
      (s.dev.runState = 2 → d.hv = { s.dev.hv with commanded := true } ∧
        d.out = .answer 0x1501 1 0 stOK :: .fwWrite (s.dev.num 0x1200 3) 0x1502 1 0 s.dev.devNo :: s.dev.out)) := by
  refine completes_viaObject (hook := hvCommandHook) (fun _ => by unfold exec; exact rfl) h ?_
  unfold hvCommandHook
  by_cases hr : s.dev.runState = 2
  · rw [if_neg (not_not_intro hr)]
    exact ⟨fun hn => absurd hr hn, fun _ => ⟨rfl, by
      rw [← num_of_dict_eq (d := s.dev) (e := { s.dev with hv := { s.dev.hv with commanded := true } }) rfl]
      rfl⟩⟩
  · rw [if_pos hr]
    exact ⟨fun _ => rfl, fun hn => absurd hn hr⟩

theorem completes_hvRequest {s : State} {dev : BitVec 16} (hm : s.dev.isMaster = true ∧ s.dev.planRuns = true)
    (hdev : s.dev.cad.members.contains dev.toNat = true) (hp : s.dev.num 0x1200 4 ≠ 0) (ha : s.dev.hv.announced = none) :
    Completes (.hvRequest dev) s (fun d =>
      d.hv = { s.dev.hv with announced := some (s.dev.cad.step + 1 + (200000000 + s.dev.num 0x1200 4 - 1) / s.dev.num 0x1200 4) } ∧
      (∀ m ∈ s.dev.cad.members, .fwWrite m 0x1502 2 0
        (s.dev.cad.step + 1 + (200000000 + s.dev.num 0x1200 4 - 1) / s.dev.num 0x1200 4) ∈ d.out) ∧ d.mem = s.dev.mem) := by
  refine completes_run_eq (fun _ => by unfold exec; exact rfl) ?_ (announce_spec s.dev _)
  unfold hvRequest
  simp only [hm.1, hm.2, hdev, ha, hp, Bool.and_self, Bool.not_true, Bool.false_eq_true, Bool.or_self,
    decide_false, if_false]

theorem completes_hvNext {s : State} (x : BitVec 64) : Completes (.hvNext x) s (fun d =>
    if x.toNat % 2 ^ 48 < s.dev.cad.step ∨ (x.toNat % 2 ^ 48 = s.dev.cad.step ∧ s.dev.season = 3) then d = s.dev
    else d.num 0x1502 2 = x.toNat % 2 ^ 48 ∧ d = { s.dev with dict := d.dict } ∧ KeepsObjects [(0x1502, 2, 0)] s.dev d) := by
  refine completes_run_of (f := hvNext x.toNat) (fun _ => by unfold exec; exact rfl) ?_
  unfold hvNext
  dsimp only
  split <;> rename_i h
  · rw [if_pos (by simpa using h)]
  · rw [if_neg (by simpa using h)]
    exact ⟨Device.num_setNum_same .., by unfold Device.setNum; rfl, fun w j hj => keeps_setNum s.dev 0x1502 2 0 _ w j hj⟩

theorem completes_announceAckTimeout {s : State} (hm : s.dev.isMaster = true ∧ s.dev.planRuns = true)
    (ha : s.dev.hv.announced = some (s.dev.cad.step + 1)) (hs : s.dev.season = 3) :
    Completes .announceAckTimeout s (fun d => d.hv = { s.dev.hv with announced := some (s.dev.cad.step + 2) } ∧
      (∀ m ∈ s.dev.cad.members, .fwWrite m 0x1502 2 0 (s.dev.cad.step + 2) ∈ d.out) ∧ d.mem = s.dev.mem) := by
  refine completes_run_eq (fun _ => by unfold exec; exact rfl) ?_ (announce_spec s.dev _)
  simp only [ha, hm.1, hm.2, hs, beq_self_eq_true, Bool.and_self, if_true]

/-- The slot that the stop of a Harvest opens. -/
def stopped (d : Device) (f : PlanFacts) : Device :=
  let r : HvRun := { slot := d.freeSlot f, step := d.cad.step, hnum := d.nextHnum }
  let e := ((d.raise 0x8001 0 0 r.hnum (d.survArg d.devNo)).setSlotImg r.slot (some { hnum := r.hnum, step := r.step })).put
    (Device.slotBase f r.slot + 5) [0]
  { e with hv := { e.hv with run := some r } }

theorem stopped_spec (d : Device) (f : PlanFacts) : Raised 0x8001 d (stopped d f) ∧
    (stopped d f).byteAt (Device.slotBase f (d.freeSlot f) + 5) = 0 ∧
    (∀ a, a ≠ Device.slotBase f (d.freeSlot f) + 5 → (stopped d f).byteAt a = d.byteAt a) ∧
    (stopped d f).slotImg (d.freeSlot f) = some { hnum := d.nextHnum, step := d.cad.step } ∧
    (stopped d f).hv.run = some { slot := d.freeSlot f, step := d.cad.step, hnum := d.nextHnum } := by
  have hevt := setSlotImg_evt (d.raise 0x8001 0 0 d.nextHnum (d.survArg d.devNo)) (d.freeSlot f)
    (some { hnum := d.nextHnum, step := d.cad.step })
  have hmem := (setSlotImg_mem (d.raise 0x8001 0 0 d.nextHnum (d.survArg d.devNo)) (d.freeSlot f)
    (some { hnum := d.nextHnum, step := d.cad.step })).trans (Device.raise_mem ..)
  refine ⟨?_, ?_, fun a ha => ?_, slotImg_setSlotImg .., rfl⟩
  · exact (congrArg (fun e : EvtS => Map.get 0 e.raised 0x8001) hevt).trans (raised_after _ _ _ _ (by decide) rfl)
  · exact (Device.byteAt_put ..).trans (if_pos ⟨le_refl _, Nat.lt_succ_self _⟩) |>.trans (by rw [Nat.sub_self]; rfl)
  · exact (byteAt_put_ne _ (by simp only [List.length_singleton]; omega)).trans (congrArg (fun m => Map.get 0 m a) hmem)

theorem completes_harvestStop {s : State} {f : PlanFacts} (hf : s.dev.adm.facts = some f) (hr : s.dev.runState = 2)
    (hp : s.dev.planRuns = true) (hs : s.dev.season = 3) (hd : harvestDue s.dev = true) (hsd : seasonDone s.dev = true)
    (hq : quiesced s.dev = true) (hph : s.dev.num 0x1210 4 ≤ s.dev.cad.phase) (he : s.dev.hv.exporting = false)
    (hre : s.dev.hv.restore = none) (hrun : s.dev.hv.run = none)
    (hy : ∀ y, s.dev.hv.slotA = some y ∨ s.dev.hv.slotB = some y → y.step ≠ s.dev.cad.step) {P : Device → Prop}
    (hP : P (stopped s.dev f)) : Completes .harvestStop s P := by
  refine completes_run_eq (fun _ => by unfold exec; exact rfl) ?_ hP
  have hslot {o : Option Image} (h : ∀ y, o = some y → y.step ≠ s.dev.cad.step) : ∀ y, o = some y → (y.step == s.dev.cad.step) = false :=
    fun y hy => beq_eq_false_iff_ne.2 (h y hy)
  have ha := hslot fun y h => hy y (.inl h)
  have hb := hslot fun y h => hy y (.inr h)
  simp only [hf]
  refine (if_neg ?_).trans rfl
  simp only [List.any_cons, List.any_nil, hr, hp, hs, hd, hsd, hq, he, hre, hrun, beq_self_eq_true, Bool.and_self, Bool.not_true,
    Bool.or_false, Bool.false_or, Option.isSome_none, decide_eq_false (Nat.not_lt.2 hph)]
  rcases hA : s.dev.hv.slotA with _ | x <;> rcases hB : s.dev.hv.slotB with _ | y
  · simp
  · simp [hb y hB]
  · simp [ha x hA]
  · simp [ha x hA, hb y hB]

/-- The slot of run `r` sealed with image `i`, and the stop time noted. -/
def sealedAs (d : Device) (r : HvRun) (i : Image) (ms : Nat) : Device :=
  let e := (d.setSlotImg r.slot (some i)).setNum 0x1500 4 0 (ms % 2 ^ 32)
  { e with hv := { e.hv with run := some { r with copied := true } } }

theorem sealedAs_spec (d : Device) (r : HvRun) (i : Image) (ms : Nat) :
    (sealedAs d r i ms).hv.run = some { r with copied := true } ∧ (sealedAs d r i ms).num 0x1500 4 = ms % 2 ^ 32 ∧
    (sealedAs d r i ms).mem = d.mem ∧ (sealedAs d r i ms).slotImg r.slot = some i := by
  have hh : ((d.setSlotImg r.slot (some i)).setNum 0x1500 4 0 (ms % 2 ^ 32)).hv = (d.setSlotImg r.slot (some i)).hv :=
    Device.setNum_hv ..
  refine ⟨rfl, ?_, (Device.setNum_mem ..).trans (setSlotImg_mem ..), ?_⟩
  · have hd : (sealedAs d r i ms).dict = ((d.setSlotImg r.slot (some i)).setNum 0x1500 4 0 (ms % 2 ^ 32)).dict := rfl
    rw [num_of_dict_eq hd, Device.num_setNum_same]
  · exact (slotImg_of_slots (congrArg HvS.slotA hh) (congrArg HvS.slotB hh) _).trans (slotImg_setSlotImg ..)

/-- The device once the image stands in the slot with its manifest. -/
def copiedTo (d : Device) (f : PlanFacts) (r : HvRun) : Device :=
  (d.copyImage (Device.slotBase f r.slot) (d.domOf 0x1300 1) f).put (Device.slotBase f r.slot) (d.manifest r (d.domOf 0x1300 1) f)

/-- What is known of that image. -/
def sealedImage (d : Device) (f : PlanFacts) (r : HvRun) : Image :=
  { hnum := r.hnum, step := r.step, isSealed := true, det0 := d.health.det0, det1 := d.health.det1, risk := d.num 0x1400 1,
    plan := some f }

theorem sealedImage_copiedTo (d : Device) (f : PlanFacts) (r : HvRun) : sealedImage (copiedTo d f r) f r = sealedImage d f r := by
  have hmiss (x : Device) (a p : Nat) : detectors (x.reachNothing 0 0 a p) = detectors x := by
    unfold Device.reachNothing
    exact view_ite (detectors_taint ..) (detectors_raise ..)
  have hdet : detectors (copiedTo d f r) = detectors d :=
    copyImage_same detectors (fun _ _ _ => rfl) (fun _ _ _ => rfl) hmiss d _ (d.domOf 0x1300 1) f
  have hrisk : (copiedTo d f r).num 0x1400 1 = d.num 0x1400 1 := (num_put ..).trans
    (copyImage_same (fun x => x.num 0x1400 1) (fun _ _ _ => num_put ..) (fun _ _ _ => num_of_dict_eq (by simp) _ _ _)
      (fun _ _ _ => num_reachNothing_of_keeps _ (by with_unfolding_all decide) (by omega)) d _ (d.domOf 0x1300 1) f)
  obtain ⟨h0, h1⟩ := Prod.mk.inj hdet
  simp only [sealedImage, h0, h1, hrisk]

theorem completes_harvestCopyDone {s : State} {f : PlanFacts} {r : HvRun} {ms : Nat} (hf : s.dev.adm.facts = some f)
    (hr : s.dev.hv.run = some r) (hc : r.copied = false) {P : Device → Prop}
    (hP : P (sealedAs (copiedTo s.dev f r) r (sealedImage (copiedTo s.dev f r) f r) ms)) :
    Completes (.harvestCopyDone ms []) s P := by
  refine completes_runHits (c := fun l => .harvestCopyDone ms l) (fun _ _ => by unfold exec; exact rfl) ?_ hP
  simp only [hf, hr, hc, Bool.false_eq_true, if_false]
  rfl

/-- The manifest stands at the head of the slot, its SEAL byte set. -/
theorem copiedTo_manifest (d : Device) (f : PlanFacts) (r : HvRun) :
    let m := d.manifest r (d.domOf 0x1300 1) f
    (copiedTo d f r).bytes (Device.slotBase f r.slot) m.length = m ∧ (copiedTo d f r).byteAt (Device.slotBase f r.slot + 5) = 0xA5 := by
  obtain ⟨hlen, hseal⟩ := manifest_seal d r (d.domOf 0x1300 1) f
  refine ⟨bytes_put_same .., (Device.byteAt_put ..).trans ?_⟩
  rw [if_pos ⟨Nat.le_add_right .., Nat.add_lt_add_left hlen _⟩, Nat.add_sub_cancel_left, hseal]

/-! ### The commit (R511) -/

theorem num_setNum_other (d : Device) {i j s k s' k' : Nat} (v : Nat) (h : homeIdx i ≠ homeIdx j)
    (hb : s < 256 ∧ s' < 256 ∧ k < 65536 ∧ k' < 65536) : (d.setNum i s k v).num j s' k' = d.num j s' k' :=
  Device.num_setNum_ne _ _ (okey_ne_idx h hb)

theorem freeRun_eq {d : Device} {r : HvRun} (h : d.hv.run = some r) :
    d.freeRun = { d.setSlotImg r.slot none with hv := { (d.setSlotImg r.slot none).hv with run := none } } := by
  unfold Device.freeRun
  rw [h]

/-- A run that is given up leaves its slot free and changes nothing beside the slots. -/
theorem freeRun_spec {d : Device} {r : HvRun} (h : d.hv.run = some r) :
    d.freeRun.hv.run = none ∧ d.freeRun.slotImg r.slot = none ∧ d.freeRun.hv.commanded = d.hv.commanded ∧
    d.freeRun.evt = d.evt ∧ d.freeRun.dict = d.dict := by
  rw [freeRun_eq h]
  refine ⟨rfl, slotImg_setSlotImg .., ?_, setSlotImg_evt .., setSlotImg_dict ..⟩
  unfold Device.setSlotImg
  split <;> rfl

theorem completes_hvCommit_none {s : State} {r : HvRun} {hnum : BitVec 32} (hr : s.dev.hv.run = some r) (h0 : hnum = 0) :
    Completes (.hvCommit hnum) s (fun d => d.hv.run = none ∧ d.slotImg r.slot = none ∧ Raised 0x8003 s.dev d ∧
      d.num 0x1500 1 = s.dev.num 0x1500 1 ∧ d.hv.commanded = s.dev.hv.commanded) := by
  subst h0
  obtain ⟨hrun, hslot, hcmd, hevt, hdict⟩ := freeRun_spec hr
  refine completes_run_eq (X := s.dev.freeRun.raise 0x8003 0 0 r.hnum (r.step + s.dev.devNo * 2 ^ 48))
    (fun _ => by unfold exec; exact rfl) (by simp only [hvCommit, hr]; rfl) ⟨?_, ?_, ?_, ?_, ?_⟩
  · rw [Device.raise_hv, hrun]
  · rw [slotImg_of_hv (Device.raise_hv ..), hslot]
  · exact raised_after _ _ _ _ (by decide) (by rw [hevt])
  · rw [num_raise_of_keeps _ (by with_unfolding_all decide) (by omega), num_of_dict_eq hdict]
  · rw [Device.raise_hv, hcmd]

/-- The image of the run's slot as the master's commit makes it the newest one. -/
def committedAs (d : Device) (r : HvRun) (i : Image) : Device :=
  let d := d.setSlotImg r.slot (some { i with committed := true })
  let d := ((d.setNum 0x1500 1 0 r.hnum).setNum 0x1500 2 0 r.step).setNum 0x1500 3 0 r.slot
  let d := d.raise 0x8002 0 0 r.hnum (r.step + d.devNo * 2 ^ 48)
  let d := (d.setNum 0x1400 1 0 0).setNum 0x1400 6 0 0
  { d with hv := { d.hv with run := none, commanded := false } }

/-- The commit's event counts in HV_COUNT (0x1500 sub 8), beside the newest number, its step and its slot. -/
theorem commitEvent_keeps : ∀ n ≤ 3, 1 ≤ n →
    okey (homeIdx 0x1500) n 0 ∉ (eventObjs 0x8002 0).map (fun o => okey (homeIdx o.1) o.2.1 o.2.2) := by with_unfolding_all decide

theorem committedAs_spec (d : Device) (r : HvRun) (i : Image) :
    (committedAs d r i).hv.run = none ∧ (committedAs d r i).slotImg r.slot = some { i with committed := true } ∧
    Raised 0x8002 d (committedAs d r i) ∧ (committedAs d r i).num 0x1500 1 = r.hnum ∧ (committedAs d r i).num 0x1500 2 = r.step ∧
    (committedAs d r i).num 0x1500 3 = r.slot ∧ (committedAs d r i).num 0x1400 1 = 0 ∧ (committedAs d r i).hv.commanded = false := by
  set x := d.setSlotImg r.slot (some { i with committed := true }) with hx
  set y := ((x.setNum 0x1500 1 0 r.hnum).setNum 0x1500 2 0 r.step).setNum 0x1500 3 0 r.slot with hy
  set z := y.raise 0x8002 0 0 r.hnum (r.step + y.devNo * 2 ^ 48) with hz
  have hd : (committedAs d r i).dict = ((z.setNum 0x1400 1 0 0).setNum 0x1400 6 0 0).dict := rfl
  have hrest : ((z.setNum 0x1400 1 0 0).setNum 0x1400 6 0 0).hv = x.hv := by simp [hz, hy]
  have hkeep (n : Nat) (h3 : n ≤ 3) (h1 : 1 ≤ n) : (committedAs d r i).num 0x1500 n = y.num 0x1500 n := by
    rw [num_of_dict_eq hd, num_setNum_other _ _ (by decide) (by omega), num_setNum_other _ _ (by decide) (by omega)]
    exact (keeps_raise y 0x8002 0 0 r.hnum _).num _ _ _ (commitEvent_keeps n h3 h1)
  refine ⟨rfl, ?_, ?_, ?_, ?_, ?_, ?_, rfl⟩
  · exact (slotImg_of_slots (congrArg HvS.slotA hrest) (congrArg HvS.slotB hrest) _).trans (slotImg_setSlotImg ..)
  · have he : ((z.setNum 0x1400 1 0 0).setNum 0x1400 6 0 0).evt = z.evt := by simp
    have hr : Raised 0x8002 d z := raised_after _ _ _ _ (by decide) (by simp [hy, hx, setSlotImg_evt])
    exact (congrArg (fun e : EvtS => Map.get 0 e.raised 0x8002) he).trans hr
  · simp [hkeep, hy, num_setNum_sub]
  · simp [hkeep, hy, num_setNum_sub]
  · simp [hkeep, hy]
  · simp [num_of_dict_eq hd, num_setNum_sub]

/-- What an export that begins leaves alone: events, the dictionary, the slots, and whether a Harvest runs or was commanded. -/
def besideExport (d : Device) : EvtS × DictS × Option Image × Option Image × Option HvRun × Bool :=
  (d.evt, d.dict, d.hv.slotA, d.hv.slotB, d.hv.run, d.hv.commanded)

theorem besideExport_streamOut (d : Device) (k : Nat) : besideExport (d.streamOut k) = besideExport d := by
  unfold Device.streamOut
  split
  · rfl
  · exact forN_same besideExport (f := fun d e => d.send _) (fun _ _ => rfl) ..

theorem besideExport_startExport (d : Device) : besideExport d.startExport = besideExport d := by
  unfold Device.startExport
  split
  · rfl
  · split
    · rfl
    · exact (besideExport_streamOut ..).trans rfl

theorem completes_hvCommit {s : State} {r : HvRun} {i : Image} {hnum : BitVec 32} (hr : s.dev.hv.run = some r) (h0 : hnum ≠ 0)
    (hn : hnum.toNat = r.hnum) (hc : r.copied = true) (hi : s.dev.slotImg r.slot = some i) :
    Completes (.hvCommit hnum) s (fun d =>
      d.hv.run = none ∧ d.slotImg r.slot = some { i with committed := true } ∧ Raised 0x8002 s.dev d ∧
      d.num 0x1500 1 = r.hnum ∧ d.num 0x1500 2 = r.step ∧ d.num 0x1500 3 = r.slot ∧ d.num 0x1400 1 = 0 ∧
      d.hv.commanded = false) := by
  have h0' : r.hnum ≠ 0 := fun h => h0 (BitVec.eq_of_toNat_eq (by rw [hn, h]; rfl))
  obtain ⟨hrun, hslot, hraised, h1, h2, h3, h4, hcmd⟩ := committedAs_spec s.dev r i
  have hb := besideExport_startExport (committedAs s.dev r i)
  simp only [besideExport, Prod.mk.injEq] at hb
  obtain ⟨hevt, hdict, hA, hB, hrun', hcmd'⟩ := hb
  refine completes_run_eq (X := (committedAs s.dev r i).startExport) (fun _ => by unfold exec; exact rfl) ?_ ⟨?_, ?_, ?_, ?_, ?_, ?_, ?_, ?_⟩
  · simp only [hvCommit, hr, hn, if_neg h0', hc, hi, ne_eq, not_true_eq_false, decide_false, Bool.not_true, Bool.or_self,
      Bool.false_eq_true, if_false]
    rfl
  · rw [hrun', hrun]
  · rw [slotImg_of_slots hA hB, hslot]
  · unfold Raised at hraised ⊢
    rw [hevt, hraised]
  · rw [num_of_dict_eq hdict, h1]
  · rw [num_of_dict_eq hdict, h2]
  · rw [num_of_dict_eq hdict, h3]
  · rw [num_of_dict_eq hdict, h4]
  · rw [hcmd', hcmd]

/-- Settles O55: each clause by its own lemma. -/
theorem harvests : Obligations.Harvests := by
  intro s c v dev x hnum f r i ms now sends master p ahead slot seal_ base m
  refine ⟨completes_hvCommand, completes_hvRequest, completes_hvNext x, completes_announceAckTimeout, fun hf => ⟨?_, ?_⟩, fun hr => ⟨?_, ?_⟩⟩
  · intro hrs hp hs hd hsd hq hph he hre hrun hy
    exact completes_harvestStop hf hrs hp hs hd hsd hq hph he hre hrun hy (stopped_spec s.dev f)
  · intro hr hc
    obtain ⟨hrun, hms, hmem, himg⟩ := sealedAs_spec (copiedTo s.dev f r) r (sealedImage (copiedTo s.dev f r) f r) ms
    obtain ⟨hman, hseal⟩ := copiedTo_manifest s.dev f r
    refine completes_harvestCopyDone hf hr hc ⟨hrun, hms, hmem, ?_, ?_, ?_⟩
    · exact (bytes_of_mem_eq hmem _ _).trans hman
    · exact (congrArg (fun m => Map.get 0 m (base + 5)) hmem).trans hseal
    · exact himg.trans (congrArg some (sealedImage_copiedTo s.dev f r))
  · exact completes_hvCommit_none hr
  · exact completes_hvCommit hr

end Sys2Proof.Machine

/-! PROOFS. Exports and restores (R512 to R517). -/

namespace Sys2Proof.Machine

/-! ### Power requests -/

theorem dropRequests_beside (d : Device) (i : Nat) : d.dropRequests i = { d with bg := (d.dropRequests i).bg } := rfl

section
variable {γ : Type} (v : Device → γ)

/-- What the controller's own state, the arbiters and the objects of a domain are nothing to. -/
structure IgnoresPower : Prop where
  pwr : ∀ (d : Device) (x : PwrS), v { d with pwr := x } = v d
  bg : ∀ (d : Device) (x : BgS), v { d with bg := x } = v d
  shown : ∀ (d : Device) (sub i x : Nat), v (d.setNum 0x70C0 sub i x) = v d

namespace IgnoresPower
variable {v : Device → γ} (h : IgnoresPower v)
include h

theorem idleOn (d : Device) (i : Nat) (on : Bool) : v (d.idleOn i on) = v d := by
  unfold Device.idleOn
  split
  · refine view_ite ?_ (h.pwr ..)
    exact view_ite rfl (h.pwr ..)
  · rfl

theorem pdPut (d : Device) (i st : Nat) : v (d.pdPut i st) = v d :=
  (h.shown ..).trans ((h.idleOn ..).trans (view_ite rfl (h.bg ..)))

theorem pdStart (d : Device) (i st src : Nat) : v (d.pdStart i st src) = v d :=
  view_ite (h.pwr ..) (view_ite rfl ((h.shown ..).trans ((h.pwr ..).trans ((h.idleOn ..).trans (h.bg ..)))))

theorem pdRaise (d : Device) (n i st src : Nat) : v (d.pdRaise n i st src) = v d := by
  induction n generalizing i st src with
  | zero => exact h.pdStart ..
  | succ n ih =>
    unfold Device.pdRaise
    split
    · exact h.pdStart ..
    · exact view_ite (h.pdStart ..) ((h.pwr ..).trans (ih ..))

theorem pdRequest (hraise : ∀ (d : Device) (i a : Nat), v (d.raise 0x6001 0x70C0 i a 0) = v d) (d : Device) (i w src : Nat) :
    v (d.pdRequest i w src).1 = v d := by
  unfold Device.pdRequest
  generalize (if w = 3 then 2 else w) = st
  dsimp only
  split
  · exact hraise ..
  · exact (h.pdRaise ..).trans (h.shown ..)

end IgnoresPower

end

/-! ### What admission and the boundaries leave alone -/

/-- What admission, the boundaries and the run leave alone: the detectors, sessions, firmware, the island, wall time. -/
def outsideRun (d : Device) : (Det × Det) × MgmtS × FlashS × ThawS × AttS × IslS × MetS × TimeS :=
  (detectors d, d.mgmt, d.flash, d.thaw, d.att, d.isl, d.met, d.time)

namespace OutsideRun

theorem setNum (d : Device) (i s k x : Nat) : outsideRun (d.setNum i s k x) = outsideRun d := by
  simp [outsideRun, detectors]

theorem raise (d : Device) (c ua ui a b : Nat) : outsideRun (d.raise c ua ui a b) = outsideRun d := by
  simp [outsideRun]

theorem addNum (d : Device) (i s k x : Nat) : outsideRun (d.addNum i s k x) = outsideRun d := by
  simp [outsideRun, detectors]

theorem rest (d : Device) (mem : Map Byte) (dict : DictS) (evt : EvtS) (cores : Map CoreS) (clus : Map ClusS)
    (movq : Map (List MoveEnt)) (seqs : Map SqS) (cad : CadS) (adm : AdmS) (alert : Bool) (out : List OutMsg) (hv : HvS) (link : LinkS)
    (pwr : PwrS) (age : AgeS) (bg : BgS) (work : WorkS) (recal : List Nat) :
    outsideRun { d with mem := mem, dict := dict, evt := evt, cores := cores, clus := clus, movq := movq, seqs := seqs, cad := cad,
                        adm := adm, alert := alert, out := out, hv := hv, link := link, pwr := pwr, age := age, bg := bg,
                        work := work, recal := recal } = outsideRun d := rfl

theorem send (d : Device) (m : OutMsg) : outsideRun (d.send m) = outsideRun d := rfl

theorem store (d : Device) (a n x : Nat) : outsideRun (d.store a n x) = outsideRun d := rfl

theorem modCore (d : Device) (g : Nat) (f : CoreS → CoreS) : outsideRun (d.modCore g f) = outsideRun d := rfl

theorem power : IgnoresPower outsideRun := ⟨fun _ _ => rfl, fun _ _ => rfl, fun _ _ _ _ => setNum ..⟩

theorem pdRequest (d : Device) (i w src : Nat) : outsideRun (d.pdRequest i w src).1 = outsideRun d :=
  power.pdRequest (fun _ _ _ => raise ..) ..

theorem loop {f : Device → Nat → Device} (hf : ∀ d k, outsideRun (f d k) = outsideRun d) (n : Nat) (d : Device) :
    outsideRun (forN n d f) = outsideRun d := forN_same outsideRun hf n d

theorem loop_lt {n : Nat} {f : Device → Nat → Device} (hf : ∀ d k, k < n → outsideRun (f d k) = outsideRun d) (d : Device) :
    outsideRun (forN n d f) = outsideRun d := by
  induction n with
  | zero => rfl
  | succ n ih =>
    rw [forN_succ, hf _ n (Nat.lt_succ_self n), ih fun d k hk => hf d k (Nat.lt_succ_of_lt hk)]

theorem foldl {α : Type} {f : Device → α → Device} (hf : ∀ d k, outsideRun (f d k) = outsideRun d) (l : List α) (d : Device) :
    outsideRun (l.foldl f d) = outsideRun d := Device.foldl_same outsideRun f hf l d

/-! #### Holds, refusals and the tree of the cadence -/

theorem finishHold (d : Device) : outsideRun d.finishHold = outsideRun d := by
  unfold Device.finishHold
  split
  · exact (addNum ..).trans rfl
  · rfl

theorem setRun (d : Device) (x : Nat) : outsideRun (d.setRun x) = outsideRun d := view_ite rfl (setNum ..)

theorem haltRun (d : Device) : outsideRun d.haltRun = outsideRun d :=
  (rest ..).trans ((view_ite rfl (setNum ..)).trans ((setNum ..).trans ((setNum ..).trans (finishHold d))))

theorem refuse (d : Device) (r : Refuse) : outsideRun (d.refuse r) = outsideRun d :=
  (rest ..).trans ((setNum ..).trans ((view_ite (setRun ..) rfl).trans ((raise ..).trans ((rest ..).trans
    ((setNum ..).trans ((setNum ..).trans (finishHold d)))))))

theorem refuseOwn (d : Device) (r : Refuse) : outsideRun (d.refuseOwn r) = outsideRun d := (send ..).trans (refuse ..)

theorem refuseByOther (d : Device) (c dev : Nat) : outsideRun (d.refuseByOther c dev) = outsideRun d := view_ite (refuse ..) rfl

theorem sendPathlat (d : Device) (ns : Nat) : outsideRun (d.sendPathlat ns) = outsideRun d := by
  unfold Device.sendPathlat
  exact loop (fun _ _ => by exact view_ite (send ..) rfl) ..

theorem recomputeTree (d : Device) : outsideRun d.recomputeTree = outsideRun d :=
  view_ite ((sendPathlat ..).trans ((setNum ..).trans ((setNum ..).trans (setNum ..)))) ((setNum ..).trans (setNum ..))

/-! #### What starts at a boundary -/

theorem fireOnce (d : Device) (q n : Nat) : outsideRun (d.fireOnce q n) = outsideRun d := by
  have hentry (e : Device) : outsideRun (e.fireEntry q n) = outsideRun e := view_ite (raise ..) rfl
  exact view_ite rfl ((hentry _).trans rfl)

theorem fireSeason (d : Device) : outsideRun d.fireSeason = outsideRun d := by
  unfold Device.fireSeason
  exact loop (fun _ _ => loop (fun _ _ => by exact view_ite (fireOnce ..) rfl) ..) ..

theorem fireStamps (d : Device) (lo : Int) (hi : Nat) : outsideRun (d.fireStamps lo hi) = outsideRun d :=
  foldl (fun _ _ => fireOnce ..) ..

theorem flushReports (d : Device) (g r : Nat) : outsideRun (d.flushReports g r) = outsideRun d :=
  (modCore ..).trans (foldl (fun _ _ => by exact view_ite ((store ..).trans (store ..)) rfl) ..)

theorem flushAllReports (d : Device) : outsideRun d.flushAllReports = outsideRun d :=
  foldl (fun _ _ => foldl (fun _ _ => flushReports ..) ..) ..

theorem markLinks (d : Device) (l : List Nat) (b : Bool) : outsideRun (d.markLinks l b) = outsideRun d :=
  (recomputeTree ..).trans rfl

theorem declareLost (d : Device) (l : List Nat) (c : Nat) : outsideRun (d.declareLost l c) = outsideRun d := by
  have hlose (e : Device) (m : Nat) : outsideRun (e.loseMember m) = outsideRun e := view_ite (markLinks ..) rfl
  exact view_ite rfl ((send ..).trans ((send ..).trans ((foldl (fun _ _ => hlose ..) ..).trans (rest ..))))

theorem newRoutes (d : Device) : outsideRun d.newRoutes = outsideRun d := by
  have hinstall : outsideRun d.installRoutes = outsideRun d := view_ite rfl rfl
  have hcut (l : List Nat) : outsideRun (l.foldl (fun d n => d.raise 0x500A 0 0 (0xF + d.mapPos n * 2 ^ 16)) d.installRoutes) =
    outsideRun d := (foldl (fun _ _ => raise ..) ..).trans hinstall
  exact view_ite ((declareLost ..).trans (hcut _)) (view_ite (hcut _) ((send ..).trans (hcut _)))

theorem recalLine (d : Device) (k t : Nat) : outsideRun (d.recalLine k t) = outsideRun d :=
  view_ite ((store ..).trans (store ..)) rfl

theorem recalibrate (d : Device) : outsideRun d.recalibrate = outsideRun d := by
  unfold Device.recalibrate
  split
  · rfl
  · exact (rest ..).trans (loop (fun _ _ => by exact view_ite (loop (fun _ _ => recalLine ..) ..) (foldl (fun _ _ => recalLine ..) ..)) ..)

theorem openTaint (d : Device) (n : Nat) : outsideRun (d.openTaint n) = outsideRun d :=
  view_ite ((setNum ..).trans rfl) ((setNum ..).trans ((setNum ..).trans ((setNum ..).trans rfl)))

theorem restoreDone (d : Device) : outsideRun d.restoreDone = outsideRun d := by
  unfold Device.restoreDone
  split
  · exact view_ite ((raise ..).trans rfl) rfl
  · rfl

theorem enterBoundary (d : Device) (p : Nat) : outsideRun (d.enterBoundary p) = outsideRun d := by
  have hfire (e : Device) (lo : Int) (hi : Nat) : outsideRun (e.fireSeason.fireStamps lo hi) = outsideRun e :=
    (fireStamps ..).trans (fireSeason ..)
  have hcount (e : Device) (n : Nat) : outsideRun (e.countStep n) = outsideRun e := view_ite rfl rfl
  have hrel (e : Device) (x : LinkS) (y : AdmS) :
      outsideRun (({ e with link := x, adm := y } : Device).recomputeTree.setNum 0x1300 3 0 4).restoreDone = outsideRun e :=
    (restoreDone ..).trans ((setNum ..).trans ((recomputeTree ..).trans (rest ..)))
  unfold Device.enterBoundary
  extract_lets d1 step ph d2 c d3 d4 d5 d6 a l d7 d8
  have h1 : outsideRun d1 = outsideRun d := (flushAllReports ..).trans (finishHold ..)
  have h2 : outsideRun d2 = outsideRun d := view_ite ((hcount ..).trans h1) h1
  have h4 : outsideRun d4 = outsideRun d := (newRoutes ..).trans ((rest ..).trans h2)
  have h5 : outsideRun d5 = outsideRun d := view_ite ((recalibrate ..).trans h4) h4
  have h6 : outsideRun d6 = outsideRun d := view_ite ((openTaint ..).trans h5) h5
  have h8 : outsideRun d8 = outsideRun d := view_ite ((hrel ..).trans h6) h6
  split
  · exact view_ite ((haltRun ..).trans h8) ((hfire ..).trans h8)
  · exact (hfire ..).trans h8

theorem tryRelease (d : Device) : outsideRun d.tryRelease = outsideRun d := by
  have hdecide (e : Device) (n : Nat) : outsideRun (e.decideHarvest n) = outsideRun e := by
    unfold Device.decideHarvest
    split
    · exact view_ite (foldl (fun _ _ => send ..) ..) rfl
    · rfl
  refine view_ite rfl (view_ite rfl (view_ite ((hdecide ..).trans ?_) ?_)) <;>
    exact (send ..).trans ((rest ..).trans (enterBoundary ..))

theorem settleVerdicts (d : Device) : outsideRun d.settleVerdicts = outsideRun d := by
  refine view_ite ?_ rfl
  split
  · exact (refuseByOther ..).trans (send ..)
  · exact view_ite rfl (view_ite ((refuse ..).trans (send ..)) (tryRelease ..))

/-! #### What an admitted plan loads -/

theorem seqLoaded (d : Device) (q : Nat) (b : Bool) : outsideRun (d.seqLoaded q b) = outsideRun d := rfl

theorem put (d : Device) (a : Nat) (bs : List Byte) : outsideRun (d.put a bs) = outsideRun d := rfl

theorem loadObject (d : Device) (o : PlanObject) : outsideRun (d.loadObject o) = outsideRun d := view_ite rfl rfl

theorem loadDefault (f : PlanFacts) (d : Device) (q : Nat) : outsideRun (Device.loadDefault f d q) = outsideRun d := view_ite rfl rfl

theorem loadProgram (d : Device) (p : PlanProgram) : outsideRun (d.loadProgram p) = outsideRun d := view_ite rfl (modCore ..)

theorem markCarousel (d : Device) (p : PlanCarousel) : outsideRun (d.markCarousel p) = outsideRun d := by
  unfold Device.markCarousel
  refine foldl (fun e m => ?_) ..
  exact (rest ..).trans (loop (f := fun d i => d.setFrame _ _ _) (fun _ _ => rfl) ..)

theorem loadCarousels (d : Device) (l : List PlanCarousel) : outsideRun (d.loadCarousels l) = outsideRun d := by
  have hnone (e : Device) : outsideRun (forN 96 e (fun d k => d.modClu k (fun c => { c with carousels := [] }))) = outsideRun e :=
    loop (f := fun d k => d.modClu k _) (fun _ _ => rfl) ..
  unfold Device.loadCarousels
  refine (foldl (fun e m => ?_) _ _).trans ((rest ..).trans (hnone d))
  exact (markCarousel ..).trans rfl

theorem deferScale (d : Device) (x : Nat × Nat × Bool × Bool) : outsideRun (d.deferScale x) = outsideRun d :=
  (store ..).trans ((view_ite (store ..) rfl).trans (view_ite (store ..) rfl))

theorem setReserve (f : PlanFacts) (d : Device) (r : PlanReserve) : outsideRun (Device.setReserve f d r) = outsideRun d := rfl

theorem loadPlan (d : Device) (f : PlanFacts) : outsideRun (d.loadPlan f) = outsideRun d := by
  unfold Device.loadPlan
  extract_lets d1 d2 d3 d4 d5 d6 d7
  have h1 : outsideRun d1 = outsideRun d := (foldl loadObject ..).trans rfl
  have h2 : outsideRun d2 = outsideRun d := (loop (fun _ _ => loadDefault ..) ..).trans h1
  have h3 : outsideRun d3 = outsideRun d := (foldl (fun _ _ => setNum ..) ..).trans h2
  have h4 : outsideRun d4 = outsideRun d := (foldl loadProgram ..).trans h3
  have h5 : outsideRun d5 = outsideRun d := (foldl (f := fun d (b : PlanBytes) => d.put b.addr b.data) (fun _ _ => put ..) ..).trans h4
  have h6 : outsideRun d6 = outsideRun d := (foldl deferScale ..).trans ((foldl (setReserve f) ..).trans h5)
  have h7 : outsideRun d7 = outsideRun d := (loadCarousels ..).trans h6
  exact (loop (f := fun d g => d.modCore g _) (fun _ _ => modCore ..) ..).trans h7

/-! #### Admission -/

theorem ofClock {d e : Device} (h : ClockOnly d e) : outsideRun e = outsideRun d := by
  have hf := congrArg outsideRun h.beside
  exact hf

theorem applyMargin (d : Device) {die : Nat} (b : Bool) (hd : die < 4) : outsideRun (d.applyMargin die b) = outsideRun d := by
  have hfmax (e : Device) : outsideRun (e.applyFmax die) = outsideRun e := by
    unfold Device.applyFmax
    dsimp only
    refine view_ite ((send ..).trans ((setNum ..).trans ?_)) (view_ite ((setNum ..).trans ?_) ?_) <;>
      exact (view_ite (raise ..) rfl).trans (setNum ..)
  unfold Device.applyMargin
  split
  · rfl
  · refine view_ite rfl (view_ite ?_ ((ofClock (.dvKick _ hd)).trans ?_)) <;>
      exact (hfmax _).trans ((raise ..).trans ((rest ..).trans rfl))

theorem raiseFloor (d : Device) {die : Nat} (hd : die < 4) : outsideRun (d.raiseFloor die) = outsideRun d :=
  view_ite ((ofClock (.dvKick _ hd)).trans (setNum ..)) rfl

theorem wakeUsed (d : Device) : outsideRun d.wakeUsed = outsideRun d := by
  unfold Device.wakeUsed
  exact loop (fun _ _ => by exact view_ite (pdRequest ..) rfl) ..

theorem reportBackward (d : Device) (w : PlanView) : outsideRun (d.reportBackward w) = outsideRun d :=
  (setNum ..).trans ((setNum ..).trans ((setNum ..).trans ((setNum ..).trans ((setNum ..).trans (setNum ..)))))

theorem startRun (d : Device) : outsideRun d.startRun = outsideRun d := by
  unfold Device.startRun
  exact view_ite (loop (f := fun d g => d.modCore g _) (fun _ _ => modCore ..) ..) rfl

theorem admitPlan (d : Device) (im : List Byte) (p : PlanHdr) (f : PlanFacts) (slack : List Nat) :
    outsideRun (d.admitPlan im p f slack) = outsideRun d := by
  unfold Device.admitPlan
  extract_lets s0 role d0 d1 d2 d3 d4 d5 d6 d7 d8 d9 c a d10 c' d11 d12
  have h2 : outsideRun d2 = outsideRun d := loop_lt (fun e i hi => applyMargin e true hi) d1
  have h3 : outsideRun d3 = outsideRun d := (setRun ..).trans ((setNum ..).trans ((startRun ..).trans h2))
  have h4 : outsideRun d4 = outsideRun d := (rest ..).trans ((addNum ..).trans h3)
  have h5 : outsideRun d5 = outsideRun d := (loop (fun _ _ => setNum ..) ..).trans h4
  have h6 : outsideRun d6 = outsideRun d := (reportBackward ..).trans ((setNum ..).trans h5)
  have h7 : outsideRun d7 = outsideRun d := (setNum ..).trans ((setNum ..).trans ((setNum ..).trans ((setNum ..).trans h6)))
  have h9 : outsideRun d9 = outsideRun d :=
    (setNum ..).trans ((setNum ..).trans ((setNum ..).trans ((setNum ..).trans h7)))
  have h12 : outsideRun d12 = outsideRun d := (loop_lt (fun e i hi => raiseFloor e hi) _).trans
    ((wakeUsed ..).trans ((recomputeTree ..).trans ((rest ..).trans ((rest ..).trans h9))))
  exact view_ite ((settleVerdicts ..).trans h12) ((send ..).trans h12)

/-! #### A plan that is admitted again (R514) -/

theorem taint (d : Device) (c : Nat) : outsideRun (d.taint c) = outsideRun d := by
  simp [outsideRun, detectors_taint]

theorem loadImage (d : Device) (base : Nat) (im : List Byte) (f : PlanFacts) : outsideRun (d.loadImage base im f) = outsideRun d :=
  loadImage_same outsideRun (fun _ _ _ => rfl) (fun _ _ _ => view_ite (taint ..) (raise ..)) ..

theorem reExport (d : Device) : outsideRun d.reExport = outsideRun d := by
  have hstream (e : Device) (k : Nat) : outsideRun (e.streamOut k) = outsideRun e := by
    unfold Device.streamOut
    split
    · rfl
    · exact loop (f := fun d e => d.send _) (fun _ _ => send ..) ..
  unfold Device.reExport
  split
  · dsimp only
    split
    · exact view_ite ((rest ..).trans ((setNum ..).trans (hstream ..))) rfl
    · rfl
  · rfl

theorem readmit (d : Device) (im : List Byte) (f : PlanFacts) {load : Device → Device} (hload : ∀ e, outsideRun (load e) = outsideRun e) :
    outsideRun (d.readmit im f load) = outsideRun d := by
  unfold Device.readmit
  split
  · exact refuseOwn ..
  · exact (reExport ..).trans ((admitPlan ..).trans ((hload _).trans (loadPlan ..)))

end OutsideRun

theorem detectors_of_outsideRun {d e : Device} (h : outsideRun e = outsideRun d) : detectors e = detectors d := congrArg Prod.fst h

/-- The detectors of an image that is loaded come back with it. -/
theorem detectors_restored (d : Device) (i : Image) (im : List Byte) (f : PlanFacts) (base : Nat) :
    detectors (((d.loadMonitor i).rebase i.step).readmit im f (fun d => d.loadImage base im f)) = (i.det0, i.det1) := by
  have hre := detectors_of_outsideRun (OutsideRun.readmit ((d.loadMonitor i).rebase i.step) im f
    (fun e => OutsideRun.loadImage e base im f))
  have hmon : detectors (d.loadMonitor i) = (i.det0, i.det1) := detectors_of_outsideRun (OutsideRun.setNum ..)
  exact hre.trans (Eq.trans rfl hmon)

/-! ### What a restore asks for stays -/

theorem num_withHv (d : Device) (x : HvS) (i s k : Nat) : ({ d with hv := x } : Device).num i s k = d.num i s k :=
  num_of_dict_eq (d := d) (e := { d with hv := x }) rfl i s k

theorem okey_ne_of_lt {i s k i' s' k' : Nat} (h : i' < i) (hs : s' < 256) (hk : k' < 65536) : okey i s k ≠ okey i' s' k' := by
  unfold okey
  omega

/-- An event whose counters have no instances changes the same objects at every unit. -/
theorem eventObjs_of_plain {code : Nat} (ui : Nat)
    (h : ((evRow code).ctr ++ (evRow 0x2207).ctr).all (fun c => objInsts c.1 == 0) = true) : eventObjs code ui = eventObjs code 0 := by
  unfold eventObjs
  refine congrArg _ (List.map_congr_left fun c hc => ?_)
  have hp := beq_iff_eq.1 (List.all_eq_true.1 h c hc)
  rw [if_pos hp, if_pos hp]

/-- What the Harvest keeps, and the restore that was asked for. -/
def askView (d : Device) : HvS × Nat := (d.hv, Map.get (objDefault 0x1502 5 0) d.dict.num (okey (homeIdx 0x1502) 5 0))

theorem num_askView (d : Device) : d.num 0x1502 5 = (askView d).2 := by
  unfold Device.num
  rfl

theorem askView_of {d e : Device} (hh : e.hv = d.hv) (hn : e.num 0x1502 5 = d.num 0x1502 5) : askView e = askView d := by
  rw [num_askView, num_askView] at hn
  exact Prod.ext hh hn

theorem hv_of_askView {d e : Device} (h : askView e = askView d) : e.hv = d.hv := congrArg Prod.fst h

theorem num_of_askView {d e : Device} (h : askView e = askView d) : e.num 0x1502 5 = d.num 0x1502 5 := by
  rw [num_askView, num_askView, h]

namespace AskView

theorem setNum_high (d : Device) {i : Nat} (s k x : Nat) (h : 0x1502 < homeIdx i) : askView (d.setNum i s k x) = askView d :=
  askView_of (Device.setNum_hv ..) (Device.num_setNum_ne _ _ (okey_ne_of_lt h (by decide) (by decide)))

theorem setNum_other (d : Device) {i s : Nat} (x : Nat) (h : homeIdx i ≠ 0x1502) (hs : s < 256) : askView (d.setNum i s 0 x) = askView d :=
  askView_of (Device.setNum_hv ..) (num_setNum_other _ _ h (by omega))

theorem addNum_high (d : Device) {i : Nat} (s k x : Nat) (h : 0x1502 < homeIdx i) : askView (d.addNum i s k x) = askView d := by
  unfold Device.addNum
  exact setNum_high _ _ _ _ h

theorem raise (d : Device) {code : Nat} (ua ui a b : Nat) (hc : code / 4096 < 256) (he : eventKeeps code 0x1502 = true)
    (h : ((evRow code).ctr ++ (evRow 0x2207).ctr).all (fun c => objInsts c.1 == 0) = true) :
    askView (d.raise code ua ui a b) = askView d := by
  refine askView_of (Device.raise_hv ..) ((keeps_raise d code ua ui a b).num _ _ _ ?_)
  rw [eventObjs_of_plain ui h]
  exact not_mem_eventObjs he hc (by decide) (by decide) (by decide)

theorem rest (d : Device) (mem : Map Byte) (cores : Map CoreS) (clus : Map ClusS) (movq : Map (List MoveEnt)) (seqs : Map SqS)
    (cad : CadS) (adm : AdmS) (out : List OutMsg) (link : LinkS) (thaw : ThawS) :
    askView { d with mem := mem, cores := cores, clus := clus, movq := movq, seqs := seqs, cad := cad, adm := adm, out := out,
                     link := link, thaw := thaw } = askView d := rfl

theorem setDom (d : Device) (i s k : Nat) (v : List Byte) : askView (d.setDom i s k v) = askView d :=
  askView_of rfl (Device.num_setDom ..)

theorem power : IgnoresPower askView :=
  ⟨fun _ _ => rfl, fun _ _ => rfl, fun _ _ _ _ => setNum_high _ _ _ _ (by decide)⟩

theorem pdRequest (d : Device) (i w src : Nat) : askView (d.pdRequest i w src).1 = askView d :=
  power.pdRequest (fun _ _ _ => raise _ _ _ _ _ (by decide) (by with_unfolding_all decide) (by with_unfolding_all decide)) ..

theorem loseAll (d : Device) (i : Nat) : askView (d.loseAll i) = askView d := by
  unfold Device.loseAll
  split
  · rfl
  · refine (Device.foldl_same askView _ (fun e q => ?_) _ _).trans
      ((forN_same askView (f := fun d n => d.setMoves _ _) (fun _ _ => rfl) ..).trans rfl)
    exact (setDom ..).trans ((setDom ..).trans rfl)
  · rfl
  · rename_i p _
    have hdrop : askView (d.dropPackets p) = askView d :=
      (Device.foldl_same askView (fun d (t : Transit) => d.freeSlots t.inPort t.cls (packetSlots t.hdr)) (fun _ _ => rfl) _ _).trans rfl
    exact (rest ..).trans hdrop
  · rfl
  · rfl

theorem recountUnits (d : Device) : askView d.recountUnits = askView d := by
  unfold Device.recountUnits
  dsimp only
  refine (setNum_other _ _ (by decide) (by decide)).trans ((setNum_other _ _ (by decide) (by decide)).trans
    ((setNum_other _ _ (by decide) (by decide)).trans ((setNum_other _ _ (by decide) (by decide)).trans
      (setNum_other _ _ (by decide) (by decide)))))

theorem wakeSpare (d : Device) (i : Nat) : askView (d.wakeSpare i) = askView d :=
  (pdRequest ..).trans ((loseAll ..).trans (power.pdPut ..))

theorem spreadWork (d : Device) : askView d.spreadWork = askView d :=
  (raise _ _ _ _ _ (by decide) (by with_unfolding_all decide) (by with_unfolding_all decide)).trans
    ((recountUnits ..).trans (setNum_other _ _ (by decide) (by decide)))

theorem setCore (d : Device) (g : Nat) (c : CoreS) : askView (d.setCore g c) = askView d := rfl

theorem raise_spare (d : Device) (ua ui a b : Nat) : askView (d.raise 0x8012 ua ui a b) = askView d :=
  raise d _ _ _ _ (by decide) (by with_unfolding_all decide) (by with_unfolding_all decide)

theorem lostUnit (d : Device) (i j : Nat) (x : Nat) (h : 0x1502 < homeIdx x) :
    askView (((d.setNum x 2 j 2).pdPut i 2).loseAll i) = askView d :=
  (loseAll ..).trans ((power.pdPut ..).trans (setNum_high _ _ _ _ h))

theorem substCore (d : Device) (g : Nat) : askView (d.substCore g) = askView d := by
  have h : 0x1502 < homeIdx 0x7001 := by decide
  unfold Device.substCore
  dsimp only
  split
  · exact (raise_spare ..).trans ((recountUnits ..).trans ((wakeSpare ..).trans ((setCore ..).trans
      ((addNum_high _ _ _ _ h).trans ((setNum_high _ _ _ _ h).trans ((setNum_high _ _ _ _ h).trans rfl))))))
  · exact (spreadWork ..).trans (lostUnit _ _ _ _ h)

theorem substCluster (d : Device) (k : Nat) : askView (d.substCluster k) = askView d := by
  have h0 : 0x1502 < homeIdx 0x7000 := by decide
  have h1 : 0x1502 < homeIdx 0x7001 := by decide
  unfold Device.substCluster
  dsimp only
  split
  · refine (raise_spare ..).trans ((recountUnits ..).trans ((setNum_high _ _ _ _ (by decide)).trans
      ((Device.foldl_same askView (fun d g => (d.pdRequest (pdCo g) 0 3).1) (fun _ _ => pdRequest ..) _ _).trans
        ((wakeSpare ..).trans ((Device.foldl_same askView _ (fun e g => ?_) _ _).trans ?_)))))
    · exact (loseAll ..).trans ((power.pdPut ..).trans ((setCore ..).trans ((addNum_high _ _ _ _ h1).trans
        ((setNum_high _ _ _ _ h1).trans (setNum_high _ _ _ _ h1)))))
    · exact (addNum_high _ _ _ _ h0).trans ((setNum_high _ _ _ _ h0).trans ((setNum_high _ _ _ _ h0).trans rfl))
  · exact (spreadWork ..).trans ((lostUnit _ _ _ _ h0).trans
      (Device.foldl_same askView (fun d g => ((d.setNum 0x7001 2 (g + 1) 2).pdPut (pdCo g) 2).loseAll (pdCo g))
        (fun _ _ => lostUnit _ _ _ _ h1) _ _))

theorem substitute (d : Device) : askView d.substitute = askView { d with hv := { d.hv with failed := [] } } :=
  Device.foldl_same askView (fun d (x : Bool × Nat) => if x.1 then d.substCluster x.2 else d.substCore x.2)
    (fun _ _ => view_ite (substCluster ..) (substCore ..)) _ _

theorem finishHold (d : Device) : askView d.finishHold = askView d := by
  have hadd (e : Device) (x : Nat) : askView (e.addNum 0x1211 2 0 x) = askView e := by
    unfold Device.addNum
    exact setNum_other _ _ (by decide) (by decide)
  unfold Device.finishHold
  split
  · exact (hadd ..).trans rfl
  · rfl

theorem haltRun (d : Device) : askView d.haltRun = askView d :=
  (rest ..).trans ((view_ite rfl (setNum_other _ _ (by decide) (by decide))).trans ((setNum_other _ _ (by decide) (by decide)).trans
    ((setNum_other _ _ (by decide) (by decide)).trans (finishHold d))))

theorem emptyQueues (d : Device) : askView d.emptyQueues = askView d := by
  have hb := emptyQueues_beside d
  simp only [besideWork, Prod.mk.injEq] at hb
  obtain ⟨-, hdict, -, hhv, -, -⟩ := hb
  exact askView_of hhv (num_of_dict_eq hdict ..)

theorem abortRun (d : Device) : askView (d.abortRun 0x8006) = askView d := by
  have htaint (e : Device) : askView (e.taint 0x8006) = askView e :=
    askView_of (Device.taint_hv ..) (num_taint_of_keeps _ (by with_unfolding_all decide) (by omega))
  unfold Device.abortRun
  rw [haltRun, htaint, emptyQueues]

theorem takeNumber (d : Device) : askView d.takeNumber = askView d := by
  unfold Device.takeNumber
  generalize List.range 4096 = l
  refine view_ite rfl ?_
  split
  · exact setNum_other _ _ (by decide) (by decide)
  · rfl

end AskView

/-! ### Restores that begin or find no restore point (R513, R514) -/

theorem run_freeRun (d : Device) : d.freeRun.hv.run = none ∧ d.freeRun.hv.restore = d.hv.restore ∧ d.freeRun.evt = d.evt := by
  cases hr : d.hv.run with
  | none => rw [show d.freeRun = d by unfold Device.freeRun; rw [hr]]; exact ⟨hr, rfl, rfl⟩
  | some r =>
    obtain ⟨hrun, -, -, hevt, -⟩ := freeRun_spec hr
    refine ⟨hrun, ?_, hevt⟩
    rw [freeRun_eq hr]
    unfold Device.setSlotImg
    split <;> rfl

/-- A stop of the run counts no event but the taint's. -/
theorem raised_abortRun (d : Device) {c : Nat} (h : c ≠ 0x2207) :
    Map.get 0 (d.abortRun 0x8006).evt.raised c = Map.get 0 d.evt.raised c := by
  have hqueues : d.emptyQueues.evt = d.evt := by
    have hb := emptyQueues_beside d
    simp only [besideWork, Prod.mk.injEq] at hb
    exact hb.1
  have hhalt (e : Device) : e.haltRun.evt = e.evt := by
    have hhold : e.finishHold.evt = e.evt := by
      unfold Device.finishHold
      split
      · simp; rfl
      · rfl
    simp only [Device.haltRun, apply_ite Device.evt, Device.setNum_evt, ite_self, hhold]
  rw [Device.abortRun, hhalt, Device.taint_raised _ _ h, hqueues]

theorem noRestorePoint_spec (d : Device) (cause : Nat) : Raised 0x8008 d (d.noRestorePoint cause) ∧
    (d.noRestorePoint cause).hv.restore = none ∧ (d.noRestorePoint cause).hv.run = none := by
  obtain ⟨hrun, -, hevt⟩ := run_freeRun d
  set x := d.freeRun.raise 0x8008 0 0 (cause * 2 ^ 32) (d.survArg d.devNo) with hx
  set y : Device := { x with hv := { x.hv with restore := none } } with hy
  have hraised : Raised 0x8008 d y := raised_after _ _ _ _ (by decide) (by rw [hevt])
  have hend : d.noRestorePoint cause = if y.runState = 2 ∨ y.runState = 3 then y.abortRun 0x8006 else y := rfl
  have hyrun : y.hv.run = none := (congrArg HvS.run (Device.raise_hv ..)).trans hrun
  rw [hend]
  split
  · have hh : (y.abortRun 0x8006).hv = y.hv := hv_of_askView (AskView.abortRun y)
    refine ⟨(raised_abortRun y (by decide)).trans hraised, ?_, ?_⟩
    · rw [hh]
    · rw [hh, hyrun]
  · exact ⟨hraised, rfl, hyrun⟩

/-- The member that stands still for a restore (R514 order 2). -/
def restoring (d : Device) (point cause : Nat) : Device :=
  let d := (d.freeRun.loseContexts).setNum 0x1502 5 0 (point + cause * 2 ^ 32)
  let d := if d.runState = 2 ∨ d.runState = 3 then d.abortRun 0x8006 else d
  let d := d.takeNumber
  if d.memberGone then d.setNum 0x1500 6 0 1 else d

theorem beginRestore_eq (d : Device) (point cause : Nat) : d.beginRestore point cause =
    { (restoring d point cause).substitute with
      hv := { (restoring d point cause).substitute.hv with restore := some { point := point, cause := cause } } } := rfl

theorem restoring_asks (d : Device) (point cause : Nat) :
    (restoring d point cause).hv.run = none ∧ (restoring d point cause).num 0x1502 5 = point + cause * 2 ^ 32 := by
  obtain ⟨hrun, -, -⟩ := run_freeRun d
  have hask {e : Device} : askView (if e.memberGone then e.setNum 0x1500 6 0 1 else e) = askView e :=
    view_ite (AskView.setNum_other _ _ (by decide) (by decide)) rfl
  have habort {e : Device} : askView (if e.runState = 2 ∨ e.runState = 3 then e.abortRun 0x8006 else e) = askView e :=
    view_ite (AskView.abortRun e) rfl
  have hview : askView (restoring d point cause) =
      askView ((d.freeRun.loseContexts).setNum 0x1502 5 0 (point + cause * 2 ^ 32)) := by
    unfold restoring
    dsimp only
    rw [hask, AskView.takeNumber, habort]
  refine ⟨?_, ?_⟩
  · rw [hv_of_askView hview, Device.setNum_hv]
    exact hrun
  · rw [num_of_askView hview, Device.num_setNum_same]

/-- A restore noted at a device whose failed units have been replaced. -/
theorem noted_spec {e y : Device} (r : HvRestore) {n : Nat} (hs : askView y = askView { e with hv := { e.hv with failed := [] } })
    (hrun : e.hv.run = none) (hnum : e.num 0x1502 5 = n) :
    ({ y with hv := { y.hv with restore := some r } } : Device).hv.restore = some r ∧
    ({ y with hv := { y.hv with restore := some r } } : Device).hv.run = none ∧
    ({ y with hv := { y.hv with restore := some r } } : Device).hv.failed = [] ∧
    ({ y with hv := { y.hv with restore := some r } } : Device).num 0x1502 5 = n := by
  have hhv : y.hv = { e.hv with failed := [] } := hv_of_askView hs
  have hsame : y.num 0x1502 5 = e.num 0x1502 5 := (num_of_askView hs).trans (num_withHv ..)
  exact ⟨rfl, (congrArg HvS.run hhv).trans hrun, congrArg HvS.failed hhv, (num_withHv ..).trans (hsame.trans hnum)⟩

theorem beginRestore_spec (d : Device) (point cause : Nat) :
    (d.beginRestore point cause).hv.restore = some { point := point, cause := cause } ∧ (d.beginRestore point cause).hv.run = none ∧
    (d.beginRestore point cause).hv.failed = [] ∧ (d.beginRestore point cause).num 0x1502 5 = point + cause * 2 ^ 32 := by
  obtain ⟨hrun, hnum⟩ := restoring_asks d point cause
  rw [beginRestore_eq]
  exact noted_spec _ (AskView.substitute (restoring d point cause)) hrun hnum

/-! ### The keeper and the ward (R512) -/

/-- The keep slot that a manifest opens. -/
def keepOpened (d : Device) (f : PlanFacts) (b : List Byte) : Device :=
  let slot := exportSlot d f
  let e := (d.put (Device.keepBase f slot) (overB b 5 [0])).setKeepImg slot
    (some { hnum := fieldB b 8 4, step := fieldB b 0xC 8 % 2 ^ 48 })
  { e with hv := { e.hv with keep := some { slot := slot, hnum := fieldB b 8 4 } } }

theorem setKeepImg_mem (d : Device) (n : Nat) (x : Option Image) : (d.setKeepImg n x).mem = d.mem := by
  unfold Device.setKeepImg
  split <;> rfl

theorem length_overB (b : List Byte) (o : Nat) (v : List Byte) (h : o + v.length ≤ b.length) : (overB b o v).length = b.length := by
  unfold overB
  simp only [List.length_append, List.length_take, List.length_drop]
  omega

theorem getD_overB {b : List Byte} {o : Nat} {v : List Byte} (h : o + v.length ≤ b.length) (i : Nat) :
    (overB b o v).getD i 0 = if o ≤ i ∧ i < o + v.length then v.getD (i - o) 0 else b.getD i 0 := by
  simp only [overB, List.getD_eq_getElem?_getD, List.append_assoc, List.getElem?_append, List.length_take, List.getElem?_take,
    List.getElem?_drop]
  rw [Nat.min_eq_left (by omega)]
  by_cases h1 : i < o
  · rw [if_pos h1, if_pos h1, if_neg (by omega)]
  · rw [if_neg h1]
    by_cases h2 : i < o + v.length
    · rw [if_pos (by omega), if_pos ⟨by omega, h2⟩]
    · rw [if_neg (by omega), if_neg (by omega), show o + v.length + (i - o - v.length) = i by omega]

theorem keepOpened_spec (d : Device) (f : PlanFacts) {b : List Byte} (hb : 64 ≤ b.length) :
    let ks := Device.keepBase f (exportSlot d f)
    (keepOpened d f b).hv.keep = some { slot := exportSlot d f, hnum := fieldB b 8 4 } ∧ (keepOpened d f b).byteAt (ks + 5) = 0 ∧
    (∀ a, a < b.length → a ≠ 5 → (keepOpened d f b).byteAt (ks + a) = b.getD a 0) ∧
    ∀ a, a < ks ∨ ks + b.length ≤ a → (keepOpened d f b).byteAt a = d.byteAt a := by
  intro ks
  have hov : 5 + ([0] : List Byte).length ≤ b.length := by simp only [List.length_singleton]; omega
  have hlen : (overB b 5 [0]).length = b.length := length_overB b 5 [0] hov
  have hat (a : Nat) : (keepOpened d f b).byteAt a = (d.put ks (overB b 5 [0])).byteAt a :=
    congrArg (fun m => Map.get 0 m a) (setKeepImg_mem ..)
  have hin {a : Nat} (ha : a < b.length) : (keepOpened d f b).byteAt (ks + a) = (overB b 5 [0]).getD a 0 := by
    rw [hat, Device.byteAt_put, if_pos ⟨by omega, by omega⟩, Nat.add_sub_cancel_left]
  refine ⟨rfl, ?_, fun a ha h5 => ?_, fun a ha => ?_⟩
  · rw [hin (by omega), getD_overB hov, if_pos (by simp)]
    rfl
  · rw [hin ha, getD_overB hov, if_neg (by simp only [List.length_singleton]; omega)]
  · rw [hat, byteAt_put_ne _ (by rwa [hlen])]

/-- A region that checks stands where the manifest puts it. -/
def regionKept (d : Device) (f : PlanFacts) (k : HvKeep) (reg : Nat) (b : List Byte) : Device :=
  let base := Device.keepBase f k.slot
  let e := d.put (base + d.regionOff base reg) b
  { e with hv := { e.hv with keep := some { k with got := k.got ++ [reg], retries := 0 } } }

theorem regionKept_spec (d : Device) (f : PlanFacts) (k : HvKeep) (reg : Nat) (b : List Byte) :
    let base := Device.keepBase f k.slot
    let pa := base + d.regionOff base reg
    (regionKept d f k reg b).bytes pa b.length = b ∧
    (∀ a, a < pa ∨ pa + b.length ≤ a → (regionKept d f k reg b).byteAt a = d.byteAt a) ∧
    (regionKept d f k reg b).hv = { d.hv with keep := some { k with got := k.got ++ [reg], retries := 0 } } ∧
    (regionKept d f k reg b).out = d.out := by
  intro base pa
  refine ⟨?_, fun a ha => byteAt_put_ne d ha, rfl, rfl⟩
  exact (bytes_of_mem_eq (d := d.put pa b) (e := regionKept d f k reg b) rfl ..).trans (bytes_put_same d pa b)

section
variable {s : State} {f : PlanFacts} {w reg : Nat} {b : List Byte} {tok : Bool} {k : HvKeep}
  (hf : s.dev.adm.facts = some f) (hw : wardIn f s.dev.devNo = some w)
include hf hw

theorem completes_region_manifest {P : Device → Prop} (hP : P (keepOpened s.dev f b)) :
    Completes (.exportRegionReceive 0 b tok false) s P := by
  refine completes_run_eq (fun _ => by unfold exec; exact rfl) ?_ hP
  simp only [hf, hw, if_true]
  rfl

theorem completes_region (hreg : reg ≠ 0) (hk : s.dev.hv.keep = some k) {P : Device → Prop} {X : Device}
    (hX : (if (!(b.length == (s.dev.regionEntry (Device.keepBase f k.slot) reg).1 && tok &&
        ((s.dev.regionEntry (Device.keepBase f k.slot) reg).2 == 0 ||
          (s.dev.regionEntry (Device.keepBase f k.slot) reg).2 == crc32c b))) = true then
        if 3 ≤ k.retries then ({ s.dev with hv := { s.dev.hv with keep := none } } : Device).send (.fwWrite w 0x1502 4 0 0)
        else ({ s.dev with hv := { s.dev.hv with keep := some { k with retries := k.retries + 1 } } } : Device).send (.regionAgain w reg)
      else regionKept s.dev f k reg b) = X) (hP : P X) :
    Completes (.exportRegionReceive reg b tok false) s P := by
  refine completes_run_eq (fun _ => by unfold exec; exact rfl) ?_ hP
  subst hX
  simp only [hf, hw, if_neg hreg, hk, Bool.false_and, Bool.false_eq_true, if_false]
  rfl

end

theorem completes_hvKeepSealed_failed {s : State} {hnum : BitVec 32} (he : s.dev.hv.exporting = true) (h0 : hnum = 0) :
    Completes (.hvKeepSealed hnum) s (fun d => Raised 0x8005 s.dev d ∧ d.hv = s.dev.hv) := by
  subst h0
  refine completes_run_eq (X := s.dev.raise 0x8005 0 0 (s.dev.num 0x1500 1) (s.dev.survArg s.dev.devNo))
    (fun _ => by unfold exec; exact rfl) ?_ ⟨s.dev.raise_raised _ _ _ _ (by decide), Device.raise_hv ..⟩
  simp only [hvKeepSealed, he, Bool.not_true, Bool.false_eq_true, if_false]
  rfl

theorem completes_hvKeepSealed {s : State} {hnum : BitVec 32} (he : s.dev.hv.exporting = true) (h0 : hnum ≠ 0)
    (hn : hnum.toNat = s.dev.num 0x1500 1) :
    Completes (.hvKeepSealed hnum) s (fun d => Raised 0x8004 s.dev d ∧ d.num 0x1500 5 = hnum.toNat ∧
      d.hv = { s.dev.hv with exporting := false }) := by
  have h0' : hnum.toNat ≠ 0 := fun h => h0 (BitVec.eq_of_toNat_eq h)
  set x := (s.dev.setNum 0x1500 5 0 hnum.toNat).raise 0x8004 0 0 hnum.toNat
    (s.dev.survArg s.dev.devNo) with hx
  have hhv : x.hv = s.dev.hv := by simp [hx]
  have hraised : Raised 0x8004 s.dev x := raised_after _ _ _ _ (by decide) (by simp)
  refine completes_run_eq (X := { x with hv := { x.hv with exporting := false } }) (fun _ => by unfold exec; exact rfl) ?_
    ⟨hraised, ?_, ?_⟩
  · simp only [hvKeepSealed, he, Bool.not_true, Bool.false_eq_true, if_false, if_neg h0', if_pos hn]
    rfl
  · rw [num_withHv, hx, num_raise_of_keeps _ (by with_unfolding_all decide) (by omega), Device.num_setNum_same]
  · simp only [hhv]

/-! ### Settling the obligation -/

theorem runState_setAsked (d : Device) (v : Nat) : (d.setNum 0x1502 5 0 v).runState = d.runState :=
  num_setNum_other _ _ (by decide) (by omega)

section
variable {s : State} {v : BitVec 64} {dev : BitVec 12} (ha : s.dev.runState ≠ 0 ∧ s.dev.runState ≠ 4)
  (hm : s.dev.num 0x1200 3 ≠ s.dev.devNo) (hd : dev.toNat = s.dev.num 0x1200 3)
include ha hm hd

/-- A member follows what the master has decided. -/
theorem hvRestore_eq : hvRestore v.toNat dev.toNat s.dev =
    (if v.toNat % 2 ^ 32 = 0 then (s.dev.setNum 0x1502 5 0 v.toNat).noRestorePoint (v.toNat / 2 ^ 32 % 2 ^ 16)
     else (s.dev.setNum 0x1502 5 0 v.toNat).beginRestore (v.toNat % 2 ^ 32) (v.toNat / 2 ^ 32 % 2 ^ 16)) := by
  have hmaster : (s.dev.setNum 0x1502 5 0 v.toNat).num 0x1200 3 = s.dev.num 0x1200 3 := num_setNum_other _ _ (by decide) (by omega)
  have hdev : (s.dev.setNum 0x1502 5 0 v.toNat).devNo = s.dev.devNo := num_setNum_other _ _ (by decide) (by omega)
  unfold hvRestore
  dsimp only
  rw [runState_setAsked, hmaster, hdev, if_neg (not_or.2 ha), if_neg hm, if_neg (not_not_intro hd)]

theorem completes_hvRestore_none (h0 : v.toNat % 2 ^ 32 = 0) : Completes (.hvRestore v dev) s (fun d =>
    Raised 0x8008 s.dev d ∧ d.hv.restore = none ∧ d.hv.run = none) := by
  refine completes_run_eq (fun _ => by unfold exec; exact rfl) ((hvRestore_eq ha hm hd).trans (if_pos h0)) ?_
  obtain ⟨hr, hres, hrun⟩ := noRestorePoint_spec (s.dev.setNum 0x1502 5 0 v.toNat) (v.toNat / 2 ^ 32 % 2 ^ 16)
  exact ⟨hr.of_evt_eq (by simp) rfl, hres, hrun⟩

theorem completes_hvRestore (h0 : v.toNat % 2 ^ 32 ≠ 0) : Completes (.hvRestore v dev) s (fun d =>
    d.hv.restore = some { point := v.toNat % 2 ^ 32, cause := v.toNat / 2 ^ 32 % 2 ^ 16 } ∧ d.hv.run = none ∧ d.hv.failed = [] ∧
    d.num 0x1502 5 = v.toNat % 2 ^ 32 + v.toNat / 2 ^ 32 % 2 ^ 16 * 2 ^ 32) :=
  completes_run_eq (fun _ => by unfold exec; exact rfl) ((hvRestore_eq ha hm hd).trans (if_neg h0)) (beginRestore_spec ..)

end

/-- A second load that fails leaves no restore point. -/
theorem loadFailed_spec {d : Device} {r : HvRestore} (h : r.failures ≠ 0) :
    Raised 0x8008 d (loadFailed d r) ∧ (loadFailed d r).hv.restore = none := by
  have he : loadFailed d r = d.noRestorePoint r.cause := by
    unfold loadFailed
    exact if_pos h
  obtain ⟨hr, hres, -⟩ := noRestorePoint_spec d r.cause
  rw [he]
  exact ⟨hr, hres⟩

section
variable {s : State} {r : HvRestore} (hr : s.dev.hv.restore = some r)
  (h2 : s.dev.admState ≠ 2) (h3 : s.dev.admState ≠ 3) (h4 : s.dev.admState ≠ 4)
include hr h2 h3 h4

theorem completes_load_failed (hf : r.failures ≠ 0) :
    Completes (.restoreLoadDone false none) s (fun d => Raised 0x8008 s.dev d ∧ d.hv.restore = none) := by
  refine completes_run_eq (X := loadFailed s.dev r) (fun _ => by unfold exec; exact rfl) ?_ (loadFailed_spec hf)
  simp only [hr, h2, h3, h4, or_self, if_false, Bool.not_false, if_true]

variable {f : PlanFacts} {slot : Nat} {i : Image} (hre : s.dev.num 0x1500 6 ≠ 1) (hfacts : s.dev.adm.facts = some f)
  (hi : s.dev.localImage r.point = some (slot, i))
include hre hfacts hi

theorem completes_load {P : Device → Prop} {X : Device}
    (hX : (if (!s.dev.imageIntact (Device.slotBase f slot) (s.dev.domOf 0x1300 1) f) = true then loadFailed s.dev r
      else ((s.dev.loadMonitor i).rebase i.step).readmit (s.dev.domOf 0x1300 1) f
        (fun d => d.loadImage (Device.slotBase f slot) (s.dev.domOf 0x1300 1) f)) = X) (hP : P X) :
    Completes (.restoreLoadDone true none) s P := by
  refine completes_run_eq (fun _ => by unfold exec; exact rfl) ?_ hP
  subst hX
  simp only [hr, h2, h3, h4, or_self, if_false, Bool.not_true, Bool.false_eq_true, hre, hfacts, hi]

end

/-- Settles O56: each clause by its own lemma. -/
theorem exportsAndRestores : Obligations.ExportsAndRestores := by
  intro s f w reg slot b tok k hnum v dev r i nw sl ks base e good pa point cause active
  have hchecks : (b.length == e.1 && tok && (e.2 == 0 || e.2 == crc32c b)) = true ↔ good := by
    simp [good, and_assoc]
  refine ⟨fun hf hw => ⟨?_, fun hreg hk => ⟨?_, ?_, ?_⟩⟩, fun he => ⟨completes_hvKeepSealed_failed he, completes_hvKeepSealed he⟩,
    fun ha hm hd => ⟨completes_hvRestore_none ha hm hd, completes_hvRestore ha hm hd⟩,
    fun hr h2 h3 h4 => ⟨completes_load_failed hr h2 h3 h4, fun hre hfacts hi => ⟨?_, ?_⟩⟩⟩
  · exact fun hb => completes_region_manifest hf hw (keepOpened_spec s.dev f hb)
  · rintro ⟨hlen, htok, hcrc⟩
    exact completes_region hf hw hreg hk (if_neg (by rw [hchecks.2 ⟨hlen, htok, hcrc⟩]; exact Bool.false_ne_true)) (regionKept_spec ..)
  · intro hbad hret
    exact completes_region hf hw hreg hk ((if_pos (by rw [Bool.not_eq_true']; exact Bool.eq_false_iff.2 (mt hchecks.1 hbad))).trans (if_neg (Nat.not_le.2 hret))) rfl
  · intro hbad hret
    exact completes_region hf hw hreg hk ((if_pos (by rw [Bool.not_eq_true']; exact Bool.eq_false_iff.2 (mt hchecks.1 hbad))).trans (if_pos hret)) rfl
  · intro hok
    obtain ⟨h0, h1⟩ := Prod.mk.inj (detectors_restored s.dev i (s.dev.domOf 0x1300 1) f (Device.slotBase f slot))
    exact completes_load hr h2 h3 h4 hre hfacts hi (if_neg (by simp [hok])) ⟨h0, h1⟩
  · intro hbad hfail
    exact completes_load hr h2 h3 h4 hre hfacts hi (if_pos (by simp [hbad])) (loadFailed_spec hfail)

end Sys2Proof.Machine

/-! PROOFS. Trips, resets and the steps of the Thaw (R447 to R456, R470, R547 to R551). -/

namespace Sys2Proof.Machine

/-! ### Events that end everything -/

/-- A FATAL event makes the device LOST. -/
theorem runState_raise_fatal (d : Device) {c : Nat} (hsev : (evRow c).sev = 3) (hclean : (evRow c).taint = false) (hc : c ≠ 0x7004)
    (ua ui a b : Nat) : (d.raise c ua ui a b).num 0x1100 1 = 4 := by
  rw [raise_of_clean _ hclean, raiseRaw_eq, rawEnd_of_fatal _ _ hsev, runState_noteFatal, if_neg hc]

theorem evRow_600F : evRow 0x600F = ⟨0x600F, 3, false, [(0x1605, 2)]⟩ := by with_unfolding_all rfl
theorem evRow_7001 : evRow 0x7001 = ⟨0x7001, 3, false, []⟩ := by with_unfolding_all rfl
theorem evRow_7003 : evRow 0x7003 = ⟨0x7003, 3, false, []⟩ := by with_unfolding_all rfl
theorem evRow_700A : evRow 0x700A = ⟨0x700A, 0, false, []⟩ := by with_unfolding_all rfl

theorem raise_7003 (d : Device) (a b : Nat) : Raised 0x7003 d (d.raise 0x7003 0 0 a b) ∧ (d.raise 0x7003 0 0 a b).num 0x1100 1 = 4 :=
  ⟨d.raise_raised _ _ _ _ (by decide), runState_raise_fatal d (by rw [evRow_7003]) (by rw [evRow_7003]) (by decide) ..⟩

/-! ### Domains -/

theorem pdState_of_dict {d e : Device} (h : e.dict = d.dict) (i : Nat) : e.pdState i = d.pdState i := num_of_dict_eq h ..

theorem pdState_setNum_same (d : Device) (i x : Nat) : (d.setNum 0x70C0 1 i x).pdState i = x := Device.num_setNum_same ..

theorem pdState_setNum_ne (d : Device) {i j : Nat} (x : Nat) (h : i ≠ j) : (d.setNum 0x70C0 1 i x).pdState j = d.pdState j := by
  refine Device.num_setNum_ne _ _ ?_
  unfold okey
  omega

theorem pdState_setNum_other (d : Device) {idx s i j : Nat} (x : Nat) (h : idx = 0x70C0 ∧ s ≠ 1 ∨ homeIdx idx ≠ homeIdx 0x70C0)
    (hs : s < 256) (hi : i < 65536) (hj : j < 65536) : (d.setNum idx s i x).pdState j = d.pdState j := by
  rcases h with ⟨rfl, h⟩ | h
  · exact Device.num_setNum_ne _ _ (okey_ne_sub h (by omega))
  · exact Device.num_setNum_ne _ _ (okey_ne_idx h (by omega))

theorem idleOn_dict (d : Device) (i : Nat) (b : Bool) : (d.idleOn i b).dict = d.dict := by
  unfold Device.idleOn
  split
  · exact view_ite (v := Device.dict) (view_ite (v := Device.dict) rfl rfl) rfl
  · rfl

theorem pdState_pdPut_same (d : Device) (i st : Nat) : (d.pdPut i st).pdState i = st := pdState_setNum_same ..

theorem pdState_pdPut_ne (d : Device) {i j : Nat} (st : Nat) (h : i ≠ j) : (d.pdPut i st).pdState j = d.pdState j := by
  refine (pdState_setNum_ne _ _ h).trans (pdState_of_dict ((idleOn_dict ..).trans ?_) _)
  exact view_ite (v := Device.dict) rfl rfl

theorem pdState_pdBegin_same (d : Device) (i st src : Nat) : (d.pdBegin i st src).pdState i = 3 := pdState_setNum_same ..

theorem pdState_pdBegin_ne (d : Device) {i j : Nat} (st src : Nat) (h : i ≠ j) : (d.pdBegin i st src).pdState j = d.pdState j := by
  have hd (x : DomS) : (((d.dropRequests i).idleOn i false).setPd i x).dict = d.dict := (Device.setPd_dict ..).trans (idleOn_dict ..)
  exact (pdState_setNum_ne _ _ h).trans (pdState_of_dict (hd _) j)

theorem pdState_recordWake (d : Device) {i j : Nat} (src : Nat) (hi : i < 65536) (hj : j < 65536) :
    (d.recordWake i src).pdState j = d.pdState j :=
  (pdState_setNum_other _ _ (.inl ⟨rfl, by decide⟩) (by decide) hi hj).trans
    ((pdState_setNum_other _ _ (.inl ⟨rfl, by decide⟩) (by decide) hi hj).trans
      (pdState_setNum_other _ _ (.inl ⟨rfl, by decide⟩) (by decide) hi hj))

theorem pdState_setThawStep (d : Device) (n : Nat) {j : Nat} (hj : j < 65536) : (d.setThawStep n).pdState j = d.pdState j :=
  (pdState_of_dict (d := d.setNum 0x1D04 2 0 n) (e := d.setThawStep n) rfl j).trans
    (pdState_setNum_other _ _ (.inr (by decide)) (by decide) (by decide) hj)

/-! ### Trips and resets (R547 to R551) -/

/-- The first `n` domains off. -/
def firstOff (n : Nat) (d : Device) : Device := forN n d (fun d i => (d.setNum 0x70C0 1 (i + 1) 2).setPd (i + 1) {})

/-- A device whose units have lost their content. -/
def dark (d : Device) : Device :=
  { d with mem := [], cores := [], clus := [], movq := [], seqs := [], link := { d.link with ports := [] },
           bg := { d.bg with arbs := [], storePorts := [] } }

theorem domainsOff_eq (d : Device) : d.domainsOff = dark (firstOff 1666 d) := by
  unfold Device.domainsOff firstOff dark
  with_reducible rfl

theorem dark_same (d : Device) : (dark d).evt = d.evt ∧ (dark d).dict = d.dict ∧ (dark d).mem = [] ∧ (dark d).cores = [] :=
  ⟨rfl, rfl, rfl, rfl⟩

theorem domainsOff_dict (d : Device) : d.domainsOff.dict = (firstOff 1666 d).dict := by
  rw [domainsOff_eq, (dark_same _).2.1]

theorem firstOff_succ (n : Nat) (d : Device) : firstOff (n + 1) d = ((firstOff n d).setNum 0x70C0 1 (n + 1) 2).setPd (n + 1) {} :=
  forN_succ ..

theorem num_firstOff (d : Device) {n i s k : Nat} (hn : n < 65000) (h : homeIdx i ≠ homeIdx 0x70C0) (hs : s < 256) (hk : k < 65536) :
    (firstOff n d).num i s k = d.num i s k := by
  induction n with
  | zero => rfl
  | succ n ih =>
    rw [firstOff_succ, num_of_dict_eq (Device.setPd_dict ..), num_setNum_other _ _ (Ne.symm h) (by omega), ih (by omega)]

theorem pdState_firstOff (d : Device) {n j : Nat} (hj : j < n) : (firstOff n d).pdState (j + 1) = 2 := by
  induction n with
  | zero => exact absurd hj (Nat.not_lt_zero _)
  | succ n ih =>
    rw [firstOff_succ, pdState_of_dict (Device.setPd_dict ..)]
    rcases Nat.lt_succ_iff_lt_or_eq.1 hj with h | rfl
    · rw [pdState_setNum_ne _ _ (by omega), ih h]
    · exact pdState_setNum_same ..

theorem evt_firstOff (d : Device) (n : Nat) : (firstOff n d).evt = d.evt :=
  forN_same Device.evt (fun _ _ => (Device.setPd_evt ..).trans (Device.setNum_evt ..)) n d

/-- A record written changes no object but the greatest count of erases and those of its event. -/
theorem num_writeRec (d : Device) (r : FlashRec) (b : List Byte) (ok : Bool) {i s k : Nat} (h : homeIdx 0x1C01 ≠ homeIdx i)
    (he : eventKeeps 0x600E i = true) (hs : s < 256) (hk : k < 65536) : (d.writeRec r b ok).num i s k = d.num i s k := by
  have hworn (e : Device) (n : Nat) : (wornBlock e n).num i s k = e.num i s k := by
    have hset : (if e.num 0x1C01 4 < n then e.setNum 0x1C01 4 0 n else e).num i s k = e.num i s k :=
      view_ite (v := fun d => d.num i s k) (num_setNum_other _ _ h (by omega)) rfl
    exact view_ite (v := fun d => d.num i s k) ((num_raise_of_keeps _ he (by omega)).trans hset) hset
  rw [writeRec_eq, hworn, num_withFlash]

/-- The unit that a trip names. -/
def tripUnit : TripCause → Nat
  | .junction => 0x70C1
  | .rail => 0x70C1
  | _ => 0

set_option maxRecDepth 3000 in
theorem numBits_trips : numBits 0x1605 2 = 32 := by with_unfolding_all decide

/-- What is kept of a trip before its event. -/
def tripKept (z : Device) (c : Nat) (b : List Byte) : Device :=
  (({ z with pwr := { z.pwr with trip := true } } : Device).setNum 0x1605 1 0 c).writeRec .trip b true

theorem tripKept_spec (z : Device) (c : Nat) (b : List Byte) : let y := tripKept z c b
    y.pwr.trip = true ∧ y.num 0x1605 1 = c ∧ y.num 0x1605 2 = z.num 0x1605 2 ∧ y.mem = z.mem ∧ y.cores = z.cores ∧
    (∀ j, j < 65536 → y.pdState j = z.pdState j) ∧ Map.get 0 y.evt.raised 0x600F = Map.get 0 z.evt.raised 0x600F := by
  intro y
  set x := ({ z with pwr := { z.pwr with trip := true } } : Device).setNum 0x1605 1 0 c with hx
  have hflash : FlashOnly x y := flashOnly_writeRec x .trip b true
  have hz (i s k : Nat) : ({ z with pwr := { z.pwr with trip := true } } : Device).num i s k = z.num i s k :=
    num_of_dict_eq (d := z) (e := { z with pwr := { z.pwr with trip := true } }) rfl i s k
  have hnum {i s k : Nat} (h : homeIdx 0x1C01 ≠ homeIdx i) (he : eventKeeps 0x600E i = true) (hs : s < 256) (hk : k < 65536) :
      y.num i s k = x.num i s k := num_writeRec x .trip b true h he hs hk
  refine ⟨?_, ?_, ?_, ?_, ?_, fun j hj => ?_, ?_⟩
  · have hp := congrArg Device.pwr hflash.aside
    exact (congrArg PwrS.trip hp).trans (congrArg PwrS.trip (Device.setNum_pwr ..))
  · rw [hnum (by decide) (by with_unfolding_all decide) (by decide) (by decide), Device.num_setNum_same]
  · rw [hnum (by decide) (by with_unfolding_all decide) (by decide) (by decide), Device.num_setNum_ne _ _ (okey_ne_sub (by decide) (by omega)), hz]
  · exact hflash.aside.mem.trans (Device.setNum_mem ..)
  · exact hflash.aside.cores.trans (Device.setNum_cores ..)
  · refine (hnum (by decide) (by with_unfolding_all decide) (by decide) hj).trans ?_
    exact (pdState_setNum_other _ _ (.inr (by decide)) (by decide) (by decide) hj).trans (hz ..)
  · rw [hflash.raised _ (by decide) (by decide), Device.setNum_evt]

/-- The event of a trip, and the report of the lost device. -/
def tripTold (y : Device) (u ui v : Nat) : Device := ({ y.raise 0x600F u ui ui v with alert := true } : Device).send .reportLost

theorem tripEvent_keeps : okey (homeIdx 0x1605) 1 0 ∉ (eventObjs 0x600F 0).map (fun o => okey (homeIdx o.1) o.2.1 o.2.2) := by
  with_unfolding_all decide

theorem tripEvent_raw : okey (homeIdx 0x1605) 2 0 ∉ (rawObjs 0x600F).map (fun o => okey (homeIdx o.1) o.2.1 o.2.2) := by
  with_unfolding_all decide

theorem tripTold_spec (y : Device) (u v : Nat) {ui : Nat} (hu : ui < 65536) : let e := tripTold y u ui v
    e.pwr = y.pwr ∧ Raised 0x600F y e ∧ e.num 0x1605 1 = y.num 0x1605 1 ∧ e.num 0x1605 2 = (y.num 0x1605 2 + 1) % 2 ^ 32 ∧
    e.num 0x1100 1 = 4 ∧ e.alert = true ∧ .reportLost ∈ e.out ∧ e.mem = y.mem ∧ e.cores = y.cores ∧
    ∀ j, j < 65536 → e.pdState j = y.pdState j := by
  intro e
  have hd : e.dict = (y.raise 0x600F u ui ui v).dict := rfl
  refine ⟨Device.raise_pwr .., y.raise_raised _ _ _ _ (by decide), ?_, ?_, ?_, rfl, List.mem_cons_self, Device.raise_mem ..,
    Device.raise_cores .., fun j hj => ?_⟩
  · rw [num_of_dict_eq hd]
    refine (keeps_raise y 0x600F u ui ui v).num _ _ _ ?_
    rw [eventObjs_of_plain ui (by with_unfolding_all decide)]
    exact tripEvent_keeps
  · have hc : y.countEvent 0x600F ui = y.addNum 0x1605 2 0 1 := by
      have hp : objInsts 0x1605 = 0 := by decide
      simp [Device.countEvent, evRow_600F, hp]
    rw [num_of_dict_eq hd, raise_of_clean _ (by rw [evRow_600F]), hc]
    refine ((keeps_raiseRaw _ 0x600F u ui ui v).num _ _ _ tripEvent_raw).trans ?_
    rw [num_addNum_same, numBits_trips]
  · rw [num_of_dict_eq hd]
    exact runState_raise_fatal y (by rw [evRow_600F]) (by rw [evRow_600F]) (by decide) ..
  · exact (pdState_of_dict hd j).trans (num_raise_of_keeps _ (by with_unfolding_all decide) (by omega))

theorem domainsOff_evt (d : Device) : d.domainsOff.evt = d.evt := by
  rw [domainsOff_eq, (dark_same _).1, evt_firstOff]

theorem domainsOff_mem (d : Device) : d.domainsOff.mem = [] := by
  rw [domainsOff_eq, (dark_same _).2.2.1]

theorem domainsOff_cores (d : Device) : d.domainsOff.cores = [] := by
  rw [domainsOff_eq, (dark_same _).2.2.2]

/-- What a trip makes of the device `z` whose domains are off. -/
def tripped (z : Device) (cause : TripCause) (die v : Nat) : Device :=
  let c := 2 ^ tripBit cause
  let off := ({ z with pwr := { z.pwr with trip := true } } : Device).setNum 0x1605 1 0 c
  let y := tripKept z c (leBytes 1 c ++ leBytes 4 ((off.num 0x1605 2 + 1) % 2 ^ 32))
  tripTold y (tripUnit cause) (if tripUnit cause = 0 then 0 else die + 1) v

theorem tripped_spec (z : Device) (cause : TripCause) {die : Nat} (hdie : die < 4) (v : Nat) : let e := tripped z cause die v
    e.pwr.trip = true ∧ Raised 0x600F z e ∧ e.num 0x1605 1 = 2 ^ tripBit cause ∧
    e.num 0x1605 2 = (z.num 0x1605 2 + 1) % 2 ^ 32 ∧ e.num 0x1100 1 = 4 ∧ e.alert = true ∧ .reportLost ∈ e.out ∧ e.mem = z.mem ∧
    e.cores = z.cores ∧ ∀ j, j < 65536 → e.pdState j = z.pdState j := by
  intro e
  have hu : (if tripUnit cause = 0 then 0 else die + 1) < 65536 := by split <;> omega
  obtain ⟨b, he⟩ : ∃ b, e = tripTold (tripKept z (2 ^ tripBit cause) b) (tripUnit cause) (if tripUnit cause = 0 then 0 else die + 1) v :=
    ⟨_, rfl⟩
  rw [he]
  obtain ⟨htrip, hcause, hcnt, hmem, hcores, hstate, hraised⟩ := tripKept_spec z (2 ^ tripBit cause) b
  obtain ⟨hp, hr, h1, h2, hlost, hal, hout, hm, hc, hs⟩ := tripTold_spec (tripKept z (2 ^ tripBit cause) b) (tripUnit cause) v hu
  exact ⟨(congrArg PwrS.trip hp).trans htrip, hr.trans (congrArg (· + 1) hraised), h1.trans hcause, h2.trans (by rw [hcnt]), hlost, hal, hout,
    hm.trans hmem, hc.trans hcores, fun j hj => (hs j hj).trans (hstate j hj)⟩

theorem completes_hardwareTrip {s : State} {cause : TripCause} {die : Die} {v : Nat} (ht : s.dev.pwr.trip = false)
    (hv : tripReached cause v = true) : Completes (.hardwareTrip cause die v) s (fun d => d.pwr.trip = true ∧ Raised 0x600F s.dev d ∧
      d.num 0x1605 1 = 2 ^ tripBit cause ∧ d.num 0x1605 2 = (s.dev.num 0x1605 2 + 1) % 2 ^ 32 ∧ d.num 0x1100 1 = 4 ∧
      d.alert = true ∧ .reportLost ∈ d.out ∧ d.mem = [] ∧ d.cores = [] ∧ ∀ i, i < 1666 → d.pdState (i + 1) = 2) := by
  have hdone : ∃ w, Completes (.hardwareTrip cause die v) s (fun d => d = tripped s.dev.domainsOff cause die w) := by
    refine ⟨match cause with
      | .converter => 0
      | _ => v, completes_run_of (fun _ => by unfold exec; exact rfl) ?_⟩
    simp only [ht, hv, Bool.not_true, Bool.or_self, Bool.false_eq_true, if_false]
    cases cause <;> rfl
  obtain ⟨w, t, hex, hpend, hdev⟩ := hdone
  obtain ⟨htrip, hr, h1, h2, hlost, hal, hout, hm, hc, hs⟩ := tripped_spec s.dev.domainsOff cause die.isLt w
  have hcount : s.dev.domainsOff.num 0x1605 2 = s.dev.num 0x1605 2 := by
    rw [num_of_dict_eq (domainsOff_dict s.dev), num_firstOff s.dev (by decide) (by decide) (by decide) (by decide)]
  refine ⟨t, hex, hpend, ?_⟩
  rw [hdev]
  refine ⟨htrip, hr.of_evt_eq (domainsOff_evt _).symm rfl, h1, by rw [h2, hcount], hlost, hal, hout, hm.trans (domainsOff_mem _),
    hc.trans (domainsOff_cores _), fun i hi => ?_⟩
  exact (hs _ (by omega)).trans ((pdState_of_dict (domainsOff_dict s.dev) _).trans (pdState_firstOff s.dev hi))

/-! ### The start of the Thaw -/

theorem forN_same_lt {β γ : Type} (v : β → γ) {f : β → Nat → β} {n : Nat} (h : ∀ x a, a < n → v (f x a) = v x) (x : β) :
    v (forN n x f) = v x := by
  induction n with
  | zero => rfl
  | succ n ih => rw [forN_succ, h _ n (Nat.lt_succ_self n), ih fun x a ha => h x a (Nat.lt_succ_of_lt ha)]

/-- What the boot ROM leaves to hub firmware: the flash, the step, the slot that runs, the straps. -/
def bootView (d : Device) : FlashS × Nat × Nat × Nat :=
  (d.flash, Map.get (objDefault 0x1D04 2 0) d.dict.num (okey (homeIdx 0x1D04) 2 0),
    Map.get (objDefault 0x1D00 1 0) d.dict.num (okey (homeIdx 0x1D00) 1 0),
    Map.get (objDefault 0x1605 3 0) d.dict.num (okey (homeIdx 0x1605) 3 0))

theorem bootView_eq (d : Device) : bootView d = (d.flash, d.thawStep, d.num 0x1D00 1, d.num 0x1605 3) := by
  unfold Device.thawStep Device.num
  rfl

/-- The objects of `bootView`. -/
def bootObjs : List (Nat × Nat) := [(0x1D04, 2), (0x1D00, 1), (0x1605, 3)]

theorem bootView_of {d e : Device} (hf : e.flash = d.flash) (hn : ∀ o ∈ bootObjs, e.num o.1 o.2 = d.num o.1 o.2) :
    bootView e = bootView d := by
  have h1 := hn (0x1D04, 2) (by decide)
  have h2 := hn (0x1D00, 1) (by decide)
  have h3 := hn (0x1605, 3) (by decide)
  rw [bootView_eq, bootView_eq, hf, h2, h3]
  unfold Device.thawStep
  rw [h1]

namespace BootView

theorem setNum (d : Device) {i s k : Nat} (x : Nat) (h : ∀ o ∈ bootObjs, homeIdx i = homeIdx o.1 → s ≠ o.2) (hs : s < 256) (hk : k < 65536) :
    bootView (d.setNum i s k x) = bootView d := by
  refine bootView_of (Device.setNum_flash ..) fun o ho => ?_
  have hb : ∀ o ∈ bootObjs, o.2 < 256 := by decide
  by_cases hi : homeIdx i = homeIdx o.1
  · exact Device.num_setNum_ne _ _ (okey_ne_sub (h o ho hi) ⟨hs, (hb o ho), hk, by decide⟩)
  · exact Device.num_setNum_ne _ _ (okey_ne_idx hi ⟨hs, (hb o ho), hk, by decide⟩)

theorem raise (d : Device) {c : Nat} (a b : Nat) (hc : c / 4096 < 256) (h : ∀ o ∈ bootObjs, eventKeeps c o.1 = true) :
    bootView (d.raise c 0 0 a b) = bootView d := by
  have hb : ∀ o ∈ bootObjs, o.2 < 256 := by decide
  exact bootView_of (Device.raise_flash ..) fun o ho => num_raise_of_keeps _ (h o ho) ⟨hc, (hb o ho), by decide, by decide⟩

theorem logRec (d : Device) (r : EvRec) : bootView (d.logRec r) = bootView d := by
  have hb : ∀ o ∈ bootObjs, o.2 < 256 ∧ homeIdx 0x1E00 ≠ homeIdx o.1 := by decide
  refine bootView_of (Device.logRec_flash ..) fun o ho => ?_
  exact num_logRec _ _ (okey_ne_idx (hb o ho).2 ⟨by decide, (hb o ho).1, by omega, by omega⟩) (okey_ne_idx (hb o ho).2 ⟨by decide, (hb o ho).1, by omega, by omega⟩)

theorem pdPut (d : Device) {i : Nat} (st : Nat) (hi : i < 65536) : bootView (d.pdPut i st) = bootView d := by
  have hidle (e : Device) (b : Bool) : bootView (e.idleOn i b) = bootView e := by
    unfold Device.idleOn
    split
    · exact view_ite (view_ite rfl rfl) rfl
    · rfl
  exact (setNum _ _ (by decide) (by decide) hi).trans ((hidle _ _).trans (view_ite rfl rfl))

theorem recordWake (d : Device) {i : Nat} (src : Nat) (hi : i < 65536) : bootView (d.recordWake i src) = bootView d :=
  (setNum _ _ (by decide) (by decide) hi).trans ((setNum _ _ (by decide) (by decide) hi).trans (setNum _ _ (by decide) (by decide) hi))

theorem trainStart (d : Device) {p : Nat} (re : Bool) (hp : p < 65000) : bootView (d.trainStart p re) = bootView d := by
  have hmove (e : Device) : bootView (e.moveParent p) = bootView e := view_ite (setNum _ _ (by decide) (by decide) (by decide)) rfl
  exact Eq.trans rfl ((hmove _).trans (setNum _ _ (by decide) (by decide) (by omega)))

theorem rest (d : Device) (evt : EvtS) (thaw : ThawS) (link : LinkS) (age : AgeS) :
    bootView { d with evt := evt, thaw := thaw, link := link, age := age } = bootView d := rfl

theorem setDom (d : Device) (i s k : Nat) (x : List Byte) : bootView (d.setDom i s k x) = bootView d := rfl

theorem loadAge (d : Device) : bootView d.loadAge = bootView d := by
  have hshow (e : Device) (k : Nat) (hk : k < 4) : bootView (e.showDelta k) = bootView e :=
    (setNum _ _ (by decide) (by decide) (by omega)).trans ((setNum _ _ (by decide) (by decide) (by omega)).trans
      (setNum _ _ (by decide) (by decide) (by omega)))
  unfold Device.loadAge
  dsimp only
  refine (forN_same_lt bootView hshow _).trans ?_
  refine (forN_same bootView (fun _ _ => ?_) _ _).trans ((setNum _ _ (by decide) (by decide) (by decide)).trans
    (setNum _ _ (by decide) (by decide) (by decide)))
  exact rest ..

theorem fwRecords (d : Device) (boot : BootFacts) : bootView (Machine.fwRecords d boot) = bootView d := by
  unfold Machine.fwRecords
  extract_lets d1 d2 d3
  have h1 : bootView d1 = bootView d := (setNum _ _ (by decide) (by decide) (by decide)).trans (loadAge d)
  have h2 : bootView d2 = bootView d := (setNum _ _ (by decide) (by decide) (by decide)).trans ((setDom ..).trans h1)
  have h3 : bootView d3 = bootView d := (setNum _ _ (by decide) (by decide) (by decide)).trans h2
  split
  · exact (raise _ _ _ (by decide) (by with_unfolding_all decide)).trans ((setNum _ _ (by decide) (by decide) (by decide)).trans h3)
  · exact view_ite ((setNum _ _ (by decide) (by decide) (by decide)).trans h3) h3

theorem fwCreds (d : Device) (m : List Byte) : bootView (Machine.fwCreds d m) = bootView d := by
  have key (e : Device) : bootView (if (e.flashRec .creds).isNone then e.raise 0x700F 0 0 3 else e) = bootView e :=
    view_ite (raise _ _ _ (by decide) (by with_unfolding_all decide)) rfl
  unfold Machine.fwCreds
  dsimp only
  split
  · exact (key _).trans rfl
  · exact (raise _ _ _ (by decide) (by with_unfolding_all decide)).trans ((key _).trans rfl)

theorem fwPorts (d : Device) : bootView (Machine.fwPorts d) = bootView d := by
  have hport (e : Device) (p : Nat) (hp : p < 12) :
      bootView (if portUsed e.shape p then ((e.pdPut (pdP p) 0).recordWake (pdP p) 0).trainStart p false
        else e.setNum 0x70B0 1 (p + 1) 4) = bootView e := by
    have hpd : pdP p < 65536 := by unfold pdP; omega
    exact view_ite ((trainStart _ _ (by omega)).trans ((recordWake _ _ hpd).trans (pdPut _ _ hpd)))
      (setNum _ _ (by decide) (by decide) (by omega))
  unfold Machine.fwPorts
  exact (forN_same_lt bootView hport _).trans (Eq.trans rfl ((setNum _ _ (by decide) (by decide) (by decide)).trans
    ((setNum _ _ (by decide) (by decide) (by decide)).trans (setNum _ _ (by decide) (by decide) (by decide)))))

end BootView

theorem bootView_setThawStep (d : Device) (n : Nat) :
    bootView (d.setThawStep n) = ((bootView d).1, n, (bootView d).2.2.1, (bootView d).2.2.2) := by
  have hd (x : ThawS) : bootView { d.setNum 0x1D04 2 0 n with thaw := x } = bootView (d.setNum 0x1D04 2 0 n) := rfl
  unfold Device.setThawStep
  rw [hd, bootView_eq, bootView_eq, Device.setNum_flash, Device.thawStep, Device.num_setNum_same, num_setNum_other _ _ (by decide) (by omega),
    num_setNum_other _ _ (by decide) (by omega)]

/-- Hub firmware runs from the slot that was taken. -/
theorem bootView_startFirmware (d : Device) (n : Nat) (boot : BootFacts) :
    bootView (d.startFirmware n boot) = (d.flash, 3, n, d.num 0x1605 3) := by
  have hnamed : bootView (fwNamed d n) = (d.flash, 3, n, d.num 0x1605 3) := by
    unfold fwNamed
    extract_lets m name d1 d2 t2 early recs
    have hdom (e : Device) (i s k : Nat) (x : List Byte) (j u w : Nat) : (e.setDom i s k x).num j u w = e.num j u w :=
      Device.num_setDom ..
    have hf : d2.flash = d.flash := (Device.setNum_flash ..).trans (Device.setNum_flash ..)
    have hn : d2.num 0x1D00 1 = n := by
      rw [hdom, Device.num_setNum_ne _ _ (okey_ne_sub (by decide) (by omega)), hdom, Device.num_setNum_same]
    have ht : d2.num 0x1605 3 = d.num 0x1605 3 := by
      rw [hdom, num_setNum_other _ _ (by decide) (by omega), hdom, num_setNum_other _ _ (by decide) (by omega)]
    have hstep : bootView early = (d.flash, 3, n, d.num 0x1605 3) := by
      have hr (x : ThawS) : bootView { d2 with thaw := x } = bootView d2 := rfl
      rw [bootView_setThawStep, hr, bootView_eq, hf, hn, ht]
    exact (Device.foldl_same bootView _ BootView.logRec _ _).trans (Eq.trans (BootView.rest ..) hstep)
  rw [startFirmware_eq, BootView.fwPorts, BootView.fwCreds, BootView.fwRecords, hnamed]

/-- R447 step 1: the straps are sampled, the trip record is shown, the Thaw has begun. -/
def begunThaw (d : Device) : Device :=
  let s := d.thaw.straps
  let trip := (d.flashRec .trip).getD []
  let d := ((d.setNum 0x1605 3 0 s).setNum 0x1200 5 0 (s % 2)).setNum 0x1605 4 0 d.pwr.vinMv
  let d := ((d.setNum 0x1605 1 0 (fieldB trip 0 1)).setNum 0x1605 2 0 (fieldB trip 1 4)).setThawStep 1
  let d := d.setNum 0x1D00 6 0 d.flash.fallbacks
  { d with thaw := { d.thaw with began := true } }

theorem startThaw_eq (d : Device) (boot : BootFacts) : d.startThaw boot =
    if !(boot.puf.take 3).contains true then (begunThaw d).raise 0x7001 0 0 1
    else if bitOf d.thaw.straps 6 && !(begunThaw d).thaw.recovered then (begunThaw d).enterRecovery 0
    else (begunThaw d).selectSlot boot := rfl

theorem begunThaw_spec (d : Device) : (begunThaw d).flash = d.flash ∧ (begunThaw d).thawStep = 1 ∧
    (begunThaw d).num 0x1605 3 = d.thaw.straps ∧ (begunThaw d).evt = d.evt ∧
    (begunThaw d).thaw.straps = d.thaw.straps ∧ (begunThaw d).thaw.recovered = d.thaw.recovered ∧
    (begunThaw d).thaw.badSlots = d.thaw.badSlots := by
  have hview : bootView (begunThaw d) = (d.flash, 1, d.num 0x1D00 1, d.thaw.straps) := by
    set e := ((d.setNum 0x1605 3 0 d.thaw.straps).setNum 0x1200 5 0 (d.thaw.straps % 2)).setNum 0x1605 4 0 d.pwr.vinMv with he
    have h0 : bootView e = (d.flash, d.thawStep, d.num 0x1D00 1, d.thaw.straps) := by
      rw [he, BootView.setNum _ _ (by decide) (by decide) (by decide), BootView.setNum _ _ (by decide) (by decide) (by decide), bootView_eq,
        Device.setNum_flash, Device.thawStep, num_setNum_other _ _ (by decide) (by omega), num_setNum_other _ _ (by decide) (by omega), Device.num_setNum_same]
      rfl
    refine Eq.trans (BootView.rest ..) ((BootView.setNum _ _ (by decide) (by decide) (by decide)).trans ?_)
    rw [bootView_setThawStep, BootView.setNum _ _ (by decide) (by decide) (by decide), BootView.setNum _ _ (by decide) (by decide) (by decide), h0]
  rw [bootView_eq] at hview
  obtain ⟨hf, hs, -, ht⟩ := Prod.mk.inj hview |>.imp_right fun h => (Prod.mk.inj h).imp_right Prod.mk.inj
  refine ⟨hf, hs, ht, ?_, ?_, ?_, ?_⟩ <;> simp [begunThaw, Device.setThawStep]

/-! ### Resets -/

theorem completes_reset {c : Instr} {s : State} {x : PwrS} {P : Device → Prop} (he : ∃ f : Device → Device, (∀ u : State, exec c u = u.run f) ∧
    f s.dev = { s.dev.wipe with pwr := x }) (hP : P { s.dev.wipe with pwr := x }) : Completes c s P := by
  obtain ⟨f, he, hf⟩ := he
  exact completes_run_eq he hf hP

section
variable {s : State} {straps : BitVec 7} {mv : Nat} {boot : BootFacts} (hr : s.dev.pwr.resetn = false ∨ s.dev.pwr.pwrgood = false)
include hr

/-- What the rising edge of RESET_N finds. -/
def risen (d : Device) (straps mv : Nat) : Device :=
  { d.wipe with pwr := { pwrgood := true, resetn := true, vinMv := mv }, thaw := { straps := straps } }

theorem completes_resetNRise_low (hmv : mv < 40000) : Completes (.resetNRise straps mv boot) s (fun d =>
    d.thaw.began = false ∧ d.mem = [] ∧ d.dict = {}) := by
  refine completes_run_eq (X := { s.dev.wipe with pwr := { pwrgood := true, resetn := true, vinMv := mv } })
    (fun _ => by unfold exec; exact rfl) ?_ ⟨rfl, rfl, rfl⟩
  refine (if_neg ?_).trans (if_pos hmv)
  rcases hr with h | h <;> simp [h]

theorem completes_resetNRise (hmv : 40000 ≤ mv) {P : Device → Prop} {X : Device}
    (hX : (risen s.dev straps.toNat mv).startThaw boot = X) (hP : P X) : Completes (.resetNRise straps mv boot) s P := by
  refine completes_run_eq (fun _ => by unfold exec; exact rfl) ?_ hP
  refine (if_neg ?_).trans ((if_neg (Nat.not_lt.2 hmv)).trans hX)
  rcases hr with h | h <;> simp [h]

theorem completes_resetNRise_noKey (hmv : 40000 ≤ mv) (hp : (boot.puf.take 3).contains true = false) :
    Completes (.resetNRise straps mv boot) s (fun d =>
      Map.get 0 d.evt.raised 0x7001 = 1 ∧ d.num 0x1100 1 = 4 ∧ d.thawStep = 1 ∧ d.num 0x1605 3 = straps.toNat) := by
  obtain ⟨-, hstep, hst, hevt, -⟩ := begunThaw_spec (risen s.dev straps.toNat mv)
  refine completes_resetNRise hr hmv ((startThaw_eq ..).trans (if_pos (by rw [hp]; rfl))) ⟨?_, ?_, ?_, ?_⟩
  · refine ((begunThaw (risen s.dev straps.toNat mv)).raise_raised _ _ _ _ (by decide)).trans ?_
    have hnone : (risen s.dev straps.toNat mv).evt.raised = [] := rfl
    rw [hevt, hnone, Map.get_nil]
  · exact runState_raise_fatal _ (by rw [evRow_7001]) (by rw [evRow_7001]) (by decide) ..
  · exact (num_raise_of_keeps _ (by with_unfolding_all decide) (by omega)).trans hstep
  · exact (num_raise_of_keeps _ (by with_unfolding_all decide) (by omega)).trans hst

theorem completes_resetNRise_slot (hmv : 40000 ≤ mv) (hp : (boot.puf.take 3).contains true = true) (h6 : bitOf straps.toNat 6 = false)
    {first : Nat} (hfirst : (if bitOf straps.toNat 5 then 1 - s.dev.flash.preferred else s.dev.flash.preferred) = first)
    (hok : slotOk (s.dev.slotOf first) (s.dev.flashNum .floor) = true) :
    Completes (.resetNRise straps mv boot) s (fun d =>
      d.thawStep = 3 ∧ d.num 0x1D00 1 = first ∧ d.num 0x1605 3 = straps.toNat ∧ d.flash = s.dev.flash) := by
  obtain ⟨hf, -, hst, -, hstraps, hrec, hbad⟩ := begunThaw_spec (risen s.dev straps.toNat mv)
  set e := (begunThaw (risen s.dev straps.toNat mv)).setThawStep 2 with he
  have hv := bootView_setThawStep (begunThaw (risen s.dev straps.toNat mv)) 2
  rw [bootView_eq, bootView_eq, hf, hst] at hv
  have hef : e.flash = s.dev.flash := congrArg (fun x : FlashS × Nat × Nat × Nat => x.1) hv
  have hes : e.num 0x1605 3 = straps.toNat := congrArg (fun x : FlashS × Nat × Nat × Nat => x.2.2.2) hv
  have hthaw : e.thaw.straps = straps.toNat ∧ e.thaw.recovered = false ∧ e.thaw.badSlots = [] := ⟨hstraps, hrec, hbad⟩
  obtain ⟨h1, h2, h3⟩ := hthaw
  have hslot : slotOk (e.slotOf first) (e.flashNum .floor) = true := by
    simpa only [Device.slotOf, flashNum_of_flash_eq hef, hef] using hok
  have hselect : (begunThaw (risen s.dev straps.toNat mv)).selectSlot boot = e.startFirmware first boot := by
    unfold Device.selectSlot
    rw [← he]
    simp only [h1, h2, h3, hef, Bool.not_false, Bool.and_true, hfirst, List.contains_nil, Bool.true_and, hslot, if_true]
  have hfw := bootView_startFirmware e first boot
  rw [bootView_eq, hef, hes] at hfw
  refine completes_resetNRise hr hmv ((startThaw_eq ..).trans ((if_neg (by rw [hp]; exact Bool.false_ne_true)).trans
    ((if_neg ?_).trans hselect))) ⟨congrArg (fun x : FlashS × Nat × Nat × Nat => x.2.1) hfw, congrArg (fun x : FlashS × Nat × Nat × Nat => x.2.2.1) hfw,
      congrArg (fun x : FlashS × Nat × Nat × Nat => x.2.2.2) hfw, congrArg (fun x : FlashS × Nat × Nat × Nat => x.1) hfw⟩
  have h6' : bitOf (risen s.dev straps.toNat mv).thaw.straps 6 = false := h6
  simp [h6']

end

end Sys2Proof.Machine

/-! PROOFS. The steps of the Thaw (R447 to R456, R470). -/

namespace Sys2Proof.Machine

/-! ### What the steps keep -/

theorem powerThaw : IgnoresPower Device.thaw := ⟨fun _ _ => rfl, fun _ _ => rfl, fun _ _ _ _ => Device.setNum_thaw ..⟩

theorem IgnoresPower.pdBegin {γ : Type} {v : Device → γ} (h : IgnoresPower v) (d : Device) (i st src : Nat) :
    v (d.pdBegin i st src) = v d :=
  (h.shown ..).trans ((h.pwr ..).trans ((h.idleOn ..).trans (h.bg ..)))

theorem setThawStep_mem (d : Device) (n : Nat) : (d.setThawStep n).mem = d.mem := Device.setNum_mem ..

theorem thawStep_setThawStep (d : Device) (n : Nat) : (d.setThawStep n).thawStep = n := by
  have h := congrArg (fun x : FlashS × Nat × Nat × Nat => x.2.1) (bootView_setThawStep d n)
  rw [bootView_eq] at h
  exact h

theorem thaw_setThawStep (d : Device) (n : Nat) : (d.setThawStep n).thaw = { d.thaw with stepNs := d.time.nowNs } := rfl

theorem pdState_raise (d : Device) {c : Nat} (i a b ua ui : Nat) (h : eventKeeps c 0x70C0 = true) (hc : c / 4096 < 256) (hu : ui < 65536)
    (hi : i < 65536) : (d.raise c ua ui a b).pdState i = d.pdState i :=
  num_raise_of_keeps _ h ⟨hc, by decide, hi, hu⟩

theorem pdState_withThaw (d : Device) (t : ThawS) (j : Nat) : ({ d with thaw := t } : Device).pdState j = d.pdState j :=
  pdState_of_dict (d := d) (e := { d with thaw := t }) rfl j

/-! ### Domains that a step brings up -/

/-- A loop that begins some of the domains that are off: each of them is then in transition. -/
theorem pdState_forN_begin {f : Device → Nat → Device} {I : Device → Prop} {k : Nat → Nat} {n i : Nat} {d : Device}
    (hd : I d) (hI : ∀ x a, a < n → I x → I (f x a)) (hi : i < n)
    (hf : ∀ x a, f x a = x ∨ x.pdState (k a) = 2 ∧ f x a = x.pdBegin (k a) 0 0)
    (hgo : ∀ x, I x → x.pdState (k i) = 2 → f x i = x.pdBegin (k i) 0 0) (h2 : d.pdState (k i) = 2) :
    (forN n d f).pdState (k i) = 3 := by
  have hstay (x : Device) (a j : Nat) : x.pdState j = 3 → (f x a).pdState j = 3 := by
    intro h3
    rcases hf x a with h | ⟨h, hb⟩
    · rwa [h]
    · rw [hb]
      by_cases hj : k a = j
      · rw [hj, pdState_pdBegin_same]
      · rwa [pdState_pdBegin_ne _ _ _ hj]
  have hoff (m : Nat) : (forN m d f).pdState (k i) = 2 ∨ (forN m d f).pdState (k i) = 3 := by
    induction m with
    | zero => exact .inl h2
    | succ m ih =>
      rw [forN_succ]
      rcases ih with ih | ih
      · rcases hf (forN m d f) m with h | ⟨-, hb⟩
        · exact .inl (by rwa [h])
        · rw [hb]
          by_cases hj : k m = k i
          · exact .inr (hj ▸ pdState_pdBegin_same ..)
          · exact .inl ((pdState_pdBegin_ne _ _ _ hj).trans ih)
      · exact .inr (hstay _ _ _ ih)
  induction n with
  | zero => exact absurd hi (Nat.not_lt_zero _)
  | succ n ih =>
    have hIn (m : Nat) (hm : m ≤ n) : I (forN m d f) := by
      induction m with
      | zero => exact hd
      | succ m ihm => exact forN_succ (f := f) m d ▸ hI _ m (by omega) (ihm (by omega))
    rw [forN_succ]
    rcases Nat.lt_succ_iff_lt_or_eq.1 hi with h | rfl
    · exact hstay _ _ _ (ih (fun x a ha => hI x a (by omega)) h)
    · rcases hoff i with h | h
      · rw [hgo _ (hIn i (Nat.le_refl _)) h, pdState_pdBegin_same]
      · exact hstay _ _ _ h

theorem pdState_foldl_off (l : List Nat) (k : Nat → Nat) (d : Device) (j : Nat) :
    (l.foldl (fun d a => d.pdPut (k a) 2) d).pdState j = if j ∈ l.map k then 2 else d.pdState j := by
  induction l generalizing d with
  | nil => rfl
  | cons a l ih =>
    rw [List.foldl_cons, ih, List.map_cons]
    by_cases h : j ∈ l.map k
    · rw [if_pos h, if_pos (List.mem_cons_of_mem _ h)]
    · rw [if_neg h]
      by_cases ha : j = k a
      · rw [if_pos (List.mem_cons.2 (.inl ha)), ha, pdState_pdPut_same]
      · rw [if_neg (fun hm => (List.mem_cons.1 hm).elim ha h), pdState_pdPut_ne _ _ (Ne.symm ha)]

/-! ### A step ends -/

/-- R447: what the end of step `k` makes of the device. -/
def stepEnds (d : Device) (boot : BootFacts) (k : Nat) : Device :=
  match k with
  | 3 => d.setThawStep 4
  | 4 => d.acceptRepair boot
  | 5 => d.startFabric boot
  | 7 => { d with thaw := { d.thaw with wave := 0, delayed := false, startNs := 0 } }.setThawStep 8
  | 8 => d.setThawStep 9
  | 9 => d.setThawStep 10
  | 11 => (d.numberUnits.settleSpares.recountUnits).setThawStep 12
  | 12 => d.memTrained boot
  | _ => d

section
variable {s : State} {boot : BootFacts} {k : Nat}

theorem completes_thawStepDone {X : Device} {P : Device → Prop} (h : s.dev.thawing = true ∧ s.dev.thawStep = k)
    (hX : stepEnds s.dev boot k = X) (hP : P X) : Completes (.thawStepDone boot) s P := by
  obtain ⟨hgo, rfl⟩ := h
  refine completes_run_eq (f := fun d => if !d.thawing then d else stepEnds d boot d.thawStep)
    (fun _ => by unfold exec; exact rfl) ?_ hP
  exact (if_neg (by rw [hgo]; exact Bool.false_ne_true)).trans hX

theorem startFabric_ok (d : Device) (h : boot.edgesOk = true) : let e := d.startFabric boot
    e.thawStep = 7 ∧ e.thaw.memPending = true ∧ ∀ i, i < 4 → e.pdState (pdF i) = 0 := by
  intro e
  have hne (i j : Nat) (h : i ≠ j) : pdF i ≠ pdF j := by unfold pdF; omega
  have hlt (i : Nat) (h : i < 4) : pdF i < 65536 := by unfold pdF; omega
  have hup (d : Device) (n : Nat) (hn : n ≤ 4) : ∀ i, i < n →
      (forN n d (fun d i => (d.pdPut (pdF i) 0).recordWake (pdF i) 0)).pdState (pdF i) = 0 := by
    induction n with
    | zero => exact fun i hi => absurd hi (Nat.not_lt_zero _)
    | succ n ih =>
      intro i hi
      rw [forN_succ, pdState_recordWake _ _ (hlt n (by omega)) (hlt i (by omega))]
      rcases Nat.lt_succ_iff_lt_or_eq.1 hi with h | rfl
      · rw [pdState_pdPut_ne _ _ (hne _ _ (by omega)), ih (by omega) i h]
      · exact pdState_pdPut_same ..
  have he : ∃ (x : Device) (t : ThawS), t.memPending = true ∧
      e = Device.setThawStep { forN 4 x (fun d i => (d.pdPut (pdF i) 0).recordWake (pdF i) 0) with thaw := t } 7 :=
    ⟨_, _, rfl, if_neg (by rw [h]; exact Bool.false_ne_true)⟩
  obtain ⟨x, t, ht, he⟩ := he
  rw [he]
  refine ⟨thawStep_setThawStep .., ht, fun i hi => (pdState_setThawStep _ _ (hlt i hi)).trans ?_⟩
  exact (pdState_withThaw _ _ _).trans (hup x 4 (Nat.le_refl _) i hi)

theorem acceptRepair_first (d : Device) (h0 : boot.repair.getD 0 false = true)
    (hok : repairOk d.flash.repairA (d.domOf 0x1000 4) = true) : let e := d.acceptRepair boot
    e.thawStep = 5 ∧ e.thaw.repair = d.flash.repairA := by
  intro e
  have hloop (n : Nat) (hn : n ≤ 4) (r : List Byte) (x : Device) : (forN n x (fun d i =>
      (d.setNum 0x7002 2 (i + 1) (Thaw.hidCl r i)).setNum 0x7002 1 (i + 1)
        (if Thaw.hidClBad r i then 0xFF else Thaw.hidCl r i))).thawStep = x.thawStep := by
    refine forN_same_lt Device.thawStep (fun y a ha => ?_) x
    exact (num_setNum_other _ _ (by decide) (by omega)).trans (num_setNum_other _ _ (by decide) (by omega))
  have hx := (hloop 4 (Nat.le_refl _) d.flash.repairA ((d.setDom 0x1D04 5 0 (shake256 d.flash.repairA 32)).setThawStep 5)).trans
    (thawStep_setThawStep ..)
  show (d.acceptRepair boot).thawStep = 5 ∧ (d.acceptRepair boot).thaw.repair = d.flash.repairA
  unfold Device.acceptRepair
  simp only [h0, hok, Bool.and_self, if_true, and_true]
  exact Eq.trans (num_of_dict_eq (by exact rfl) ..) hx

theorem completes_acceptRepair_none (h : s.dev.thawing = true ∧ s.dev.thawStep = 4) (h0 : boot.repair.getD 0 false = false)
    (h1 : boot.repair.getD 1 false = false) : Completes (.thawStepDone boot) s (fun d => Raised 0x7003 s.dev d ∧ d.num 0x1100 1 = 4) := by
  refine completes_thawStepDone h (X := s.dev.raise 0x7003 0 0 4) ?_ (raise_7003 ..)
  show s.dev.acceptRepair boot = _
  unfold Device.acceptRepair
  simp only [h0, h1, Bool.false_and, Bool.false_eq_true, if_false]

/-! ### Limits (R447, R451) -/

/-- R447: what the limit of step `k` makes of the device that stands in it. -/
def stepTimedOut (d : Device) (boot : BootFacts) (un : List Nat) (k : Nat) : Device :=
  match k with
  | 3 => d.slotFails boot
  | 4 => d.raise 0x7003 0 0 4
  | 5 => d.raise 0x400A
  | 7 => { d.holdOff false with thaw := { (d.holdOff false).thaw with wave := 0, delayed := false, startNs := 0 } }.setThawStep 8
  | 8 => (d.holdOff true).setThawStep 9
  | 9 => d.setThawStep 10
  | 10 => ((d.testFails (unfinishedUnits un).1 (unfinishedUnits un).2).settleEvents).setThawStep 11
  | 11 => d.slotFails boot
  | 12 =>
    let d := d.memTrained boot
    if d.runState = 4 then d
    else (forN 12 d (fun d p => if d.num 0x70B0 1 (p + 1) = 1 then
      (d.raise 0x5003 0x70B0 (p + 1) p (d.num 0x70B0 4 (p + 1))).portLost p else d)).thawReady
  | _ => d

theorem exec_thawStepLimit (k : Fin 13) (un : List Nat) (u : State) : exec (.thawStepLimit k boot un) u = u.run (fun d =>
    if !d.thawing || !d.thawLate k.val then d
    else if k.val = 6 then d.memTrained boot
    else if d.thawStep ≠ k.val then d
    else stepTimedOut d boot un k.val) := by
  unfold exec
  exact rfl

theorem completes_thawStepLimit_early {k : Fin 13} {un : List Nat} (h : s.dev.thawLate k.val = false) :
    Completes (.thawStepLimit k boot un) s (fun d => d = s.dev) :=
  completes_run_eq (exec_thawStepLimit k un) (if_pos (by rw [h, Bool.not_false, Bool.or_true])) rfl

theorem completes_thawStepLimit {k : Fin 13} {un : List Nat} {X : Device} {P : Device → Prop}
    (h : s.dev.thawing = true ∧ s.dev.thawStep = k.val) (h6 : k.val ≠ 6) (hlate : s.dev.thawLate k.val = true)
    (hX : stepTimedOut s.dev boot un k.val = X) (hP : P X) : Completes (.thawStepLimit k boot un) s P := by
  obtain ⟨hgo, hk⟩ := h
  refine completes_run_eq (exec_thawStepLimit k un) ?_ hP
  exact (if_neg (by rw [hgo, hlate]; exact Bool.false_ne_true)).trans ((if_neg h6).trans ((if_neg (not_not.2 hk)).trans hX))

theorem pdState_holdOff (d : Device) {k : Nat} (hk : k < 96) :
    (d.holdOff false).pdState (pdCl k) = if d.pdState (pdCl k) = 0 then 0 else 2 := by
  have hmem : pdCl k ∈ ((List.range 96).filter (fun k => d.pdState (pdCl k) != 0)).map pdCl ↔ d.pdState (pdCl k) ≠ 0 := by
    rw [List.mem_map]
    constructor
    · rintro ⟨a, ha, he⟩
      obtain rfl : a = k := by unfold pdCl at he; omega
      simpa using (List.mem_filter.1 ha).2
    · exact fun h => ⟨k, List.mem_filter.2 ⟨List.mem_range.2 hk, by simpa using h⟩, rfl⟩
  refine (pdState_withThaw (((List.range 96).filter (fun k => d.pdState (pdCl k) != 0)).foldl (fun d k => d.pdPut (pdCl k) 2) d) _ _).trans
    ((pdState_foldl_off _ pdCl d _).trans ?_)
  simp only [hmem]
  split <;> simp_all

/-! ### Groups and waves (R450, R451) -/

theorem completes_clusterStoreGroup {n : Fin 9} (h : s.dev.thawing = true ∧ s.dev.thawStep = 7) (hn : n.val < 8)
    (hdue : groupDue s.dev n = true) : Completes (.clusterStoreGroup n) s (fun d => ∀ i, i < 12 →
      let k := 24 * (i / 3) + 3 * n.val + i % 3
      s.dev.pdState (pdCl k) = 2 → Thaw.provCluster s.dev.thaw.repair k ∉ s.dev.thaw.clBad → d.pdState (pdCl k) = 3) := by
  refine completes_run_eq (f := fun d => if d.thawing && d.thawStep == 7 && groupDue d n then startGroup d n else d)
    (fun _ => by unfold exec; exact rfl) (if_pos ?_) ?_
  · rw [h.1, h.2, hdue]
    rfl
  intro i hi k h2 hbad
  set t : ThawS := { s.dev.thaw with groups := s.dev.thaw.groups ||| 2 ^ n.val, startNs := s.dev.time.nowNs + 1 } with ht
  have hstart : startGroup s.dev n = forN 12 { s.dev with thaw := t } (fun d i =>
      let k := 24 * (i / 3) + 3 * n.val + i % 3
      if d.pdState (pdCl k) = 2 && !d.thaw.clBad.contains (Thaw.provCluster d.thaw.repair k) then d.pdBegin (pdCl k) 0 0 else d) :=
    if_neg (by omega)
  rw [hstart]
  refine pdState_forN_begin (I := fun x => x.thaw = t) (k := fun i => pdCl (24 * (i / 3) + 3 * n.val + i % 3)) rfl (fun x a _ hx => ?_)
    hi (fun x a => ?_) (fun x hx h2 => if_pos ?_) ((pdState_withThaw ..).trans h2)
  · exact (view_ite (powerThaw.pdBegin ..) rfl).trans hx
  · by_cases hc : x.pdState (pdCl (24 * (a / 3) + 3 * n.val + a % 3)) = 2 &&
        !x.thaw.clBad.contains (Thaw.provCluster x.thaw.repair (24 * (a / 3) + 3 * n.val + a % 3))
    · exact .inr ⟨of_decide_eq_true (Bool.and_eq_true_iff.1 hc).1, if_pos hc⟩
    · exact .inl (if_neg hc)
  · have hb : t.clBad = s.dev.thaw.clBad ∧ t.repair = s.dev.thaw.repair := ⟨rfl, rfl⟩
    have hc : s.dev.thaw.clBad.contains (Thaw.provCluster s.dev.thaw.repair k) = false := by simpa using hbad
    rw [h2, hx, hb.1, hb.2, hc]
    rfl

/-- R450: wave `w` starts. -/
def startWave (d : Device) (w : Nat) : Device :=
  let rep := d.thaw.repair
  let d := { d with thaw := { d.thaw with wave := w + 1, delayed := false, startNs := d.time.nowNs + 1 } }
  if w < 16 then forN 96 d (fun d k =>
    let g := 16 * k + w
    if d.pdState (pdCl k) = 0 && d.pdState (pdCo g) = 2 && !d.thaw.coBad.contains (Thaw.provCore rep g)
    then d.pdBegin (pdCo g) 0 0 else d)
  else if w = 16 then
    let l := ((List.range 96).filter (fun k => d.pdState (pdCl k) == 0)).map (Thaw.provCluster rep)
    let l := (l.filter (fun c => !Thaw.hidCoBad rep c)).map (fun c => 17 * c + Thaw.hidCo rep c)
    { d with thaw := { d.thaw with coUp := dedupNat (d.thaw.coUp ++ l) } }
  else
    let l := (d.thaw.clUp.flatMap (fun c => (List.range 17).map (fun q => 17 * c + q))).filter
      (fun x => !d.thaw.coBad.contains x)
    { d with thaw := { d.thaw with coUp := dedupNat (d.thaw.coUp ++ l) } }

section
variable {w : Fin 18} (h : s.dev.thawing = true ∧ s.dev.thawStep = 8) (hw : w.val = s.dev.thaw.wave) (hbusy : waveBusy s.dev = false)
  (hsp : spaced s.dev = true)
include h hw hbusy hsp

theorem completes_thawWave {rail : Bool} {X : Device} {P : Device → Prop} (hX : (if !rail then
      if s.dev.thaw.delayed then s.dev else ({ s.dev with thaw := { s.dev.thaw with delayed := true } }).raise 0x7009 0 0 8
    else startWave s.dev w.val) = X) (hP : P X) : Completes (.thawWave w rail) s P := by
  refine completes_run_eq (f := fun d => if !(d.thawing && d.thawStep == 8) || w.val != d.thaw.wave || waveBusy d || !spaced d then d
    else if !rail then
      if d.thaw.delayed then d else ({ d with thaw := { d.thaw with delayed := true } }).raise 0x7009 0 0 8
    else startWave d w.val) (fun _ => by unfold exec; exact rfl) ((if_neg ?_).trans hX) hP
  rw [h.1, h.2, hw, hbusy, hsp]
  simp

theorem completes_thawWave_rail (hdel : s.dev.thaw.delayed = false) : Completes (.thawWave w false) s (fun d => Raised 0x7009 s.dev d ∧
    d.thaw = { s.dev.thaw with delayed := true }) := by
  refine completes_thawWave h hw hbusy hsp ((if_pos rfl).trans (if_neg (by rw [hdel]; exact Bool.false_ne_true)))
    ⟨?_, Device.raise_thaw ..⟩
  exact (({ s.dev with thaw := { s.dev.thaw with delayed := true } } : Device).raise_raised _ _ _ _ (by decide)).of_evt_eq rfl rfl

theorem completes_thawWave_cores (hlt : w.val < 16) : Completes (.thawWave w true) s (fun d => d.thaw.wave = w.val + 1 ∧ ∀ k, k < 96 →
    s.dev.pdState (pdCl k) = 0 → s.dev.pdState (pdCo (16 * k + w.val)) = 2 →
    Thaw.provCore s.dev.thaw.repair (16 * k + w.val) ∉ s.dev.thaw.coBad → d.pdState (pdCo (16 * k + w.val)) = 3) := by
  set t : ThawS := { s.dev.thaw with wave := w.val + 1, delayed := false, startNs := s.dev.time.nowNs + 1 } with ht
  set f : Device → Nat → Device := fun d k =>
    if d.pdState (pdCl k) = 0 && d.pdState (pdCo (16 * k + w.val)) = 2 &&
      !d.thaw.coBad.contains (Thaw.provCore s.dev.thaw.repair (16 * k + w.val)) then d.pdBegin (pdCo (16 * k + w.val)) 0 0 else d with hf
  have hthaw (x : Device) (k : Nat) : (f x k).thaw = x.thaw := view_ite (powerThaw.pdBegin ..) rfl
  have hcl (x : Device) (a k : Nat) (hk : k < 96) : (f x a).pdState (pdCl k) = x.pdState (pdCl k) :=
    view_ite (v := fun d => d.pdState (pdCl k)) (pdState_pdBegin_ne _ _ _ (by unfold pdCo pdCl; omega)) rfl
  refine completes_thawWave h hw hbusy hsp (X := forN 96 { s.dev with thaw := t } f) (if_pos hlt) ⟨?_, fun k hk h0 h2 hbad => ?_⟩
  · exact congrArg ThawS.wave (forN_same Device.thaw hthaw 96 { s.dev with thaw := t })
  · refine pdState_forN_begin (I := fun x => x.thaw = t ∧ x.pdState (pdCl k) = 0) (k := fun k => pdCo (16 * k + w.val))
      ⟨rfl, (pdState_withThaw ..).trans h0⟩ (fun x a _ hx => ⟨(hthaw ..).trans hx.1, (hcl _ _ _ hk).trans hx.2⟩)
      hk (fun x a => ?_) (fun x hx h2 => if_pos ?_) ((pdState_withThaw ..).trans h2)
    · by_cases hc : x.pdState (pdCl a) = 0 && x.pdState (pdCo (16 * a + w.val)) = 2 &&
          !x.thaw.coBad.contains (Thaw.provCore s.dev.thaw.repair (16 * a + w.val))
      · exact .inr ⟨of_decide_eq_true (Bool.and_eq_true_iff.1 (Bool.and_eq_true_iff.1 hc).1).2, if_pos hc⟩
      · exact .inl (if_neg hc)
    · have hb : t.coBad = s.dev.thaw.coBad := rfl
      have hc : s.dev.thaw.coBad.contains (Thaw.provCore s.dev.thaw.repair (16 * k + w.val)) = false := by simpa using hbad
      rw [h2, hx.1, hx.2, hb, hc]
      rfl

end

/-! ### The start-up test (R456) -/

theorem mem_dedupNat {x : Nat} {l : List Nat} (h : x ∈ l) : x ∈ dedupNat l := by
  have key (l acc : List Nat) (h : x ∈ acc ∨ x ∈ l) :
      x ∈ l.foldl (fun acc x => if acc.contains x then acc else acc ++ [x]) acc := by
    induction l generalizing acc with
    | nil => exact h.resolve_right List.not_mem_nil
    | cons a l ih =>
      refine ih _ ?_
      dsimp only
      rw [List.mem_cons] at h
      rcases h with h | rfl | h
      · exact .inl (by split <;> simp [h])
      · refine .inl ?_
        by_cases hc : acc.contains x
        · rw [if_pos hc]
          simpa using hc
        · rw [if_neg hc]
          simp
      · exact .inr h
  exact key l [] (.inr h)

theorem settleEvents_aside (d : Device) : Aside d d.settleEvents := by
  unfold Device.settleEvents
  dsimp only
  refine (Aside.forN (fun _ _ => ?_) 4 d).trans (Aside.forN (fun x a => ?_) 96 _)
  · have hin (p : Nat → Prop) [DecidablePred p] (l : List Nat) (x : Device) :
        Aside x (l.foldl (fun d c => if p c then d.raise 0x7007 0 0 d.thawStep else d) x) :=
      Aside.foldl (fun _ _ => Aside.ite (Aside.raise ..) (Aside.refl _)) l x
    exact Aside.ite ((hin ..).trans (Aside.raise ..)) (hin ..)
  · split
    · exact Aside.raise ..
    · exact Aside.foldl (fun _ _ => Aside.ite (Aside.raise ..) (Aside.refl _)) _ x

theorem settleEvents_same (d : Device) : d.settleEvents.mem = d.mem ∧ d.settleEvents.thaw = d.thaw := by
  refine ⟨(settleEvents_aside d).mem, ?_⟩
  have h := congrArg Device.thaw (settleEvents_aside d)
  exact h

theorem completes_startUpTestDone {cs : List CorePos} {ks : List ClPos} (h : s.dev.thawing = true ∧ s.dev.thawStep = 10) :
    Completes (.startUpTestDone cs ks) s (fun d => d.thawStep = 11 ∧ d.mem = s.dev.mem ∧
      ∀ cp ∈ cs, Device.posIdx cp ∈ d.thaw.coBad) := by
  obtain ⟨l, hl⟩ : ∃ l, l = ks.map (fun c => 25 * c.die.val + c.pos.val) := ⟨_, rfl⟩
  refine completes_run_eq (f := fun d => if !(d.thawing && d.thawStep == 10) then d else
      ((d.testFails (cs.map Device.posIdx) (ks.map (fun c => 25 * c.die.val + c.pos.val))).settleEvents).setThawStep 11)
    (X := ((s.dev.testFails (cs.map Device.posIdx) l).settleEvents).setThawStep 11)
    (fun _ => by unfold exec; exact rfl) ((if_neg ?_).trans (by rw [hl])) ?_
  · rw [h.1, h.2]
    exact Bool.false_ne_true
  obtain ⟨hm, ht⟩ := settleEvents_same (s.dev.testFails (cs.map Device.posIdx) l)
  refine ⟨thawStep_setThawStep .., (setThawStep_mem ..).trans (hm.trans rfl), fun cp hcp => ?_⟩
  rw [thaw_setThawStep, ht]
  unfold Device.testFails
  exact mem_dedupNat (List.mem_append_left _ (List.mem_append_right _ (List.mem_map_of_mem hcp)))

/-! ### Ready (R470) -/

/-- What readiness shows. -/
def readyView (d : Device) : Nat × Nat × Nat × EvtS × Map Byte :=
  (Map.get (objDefault 0x1D04 2 0) d.dict.num (okey (homeIdx 0x1D04) 2 0), Map.get (objDefault 0x1100 1 0) d.dict.num (okey (homeIdx 0x1100) 1 0),
    Map.get (objDefault 0x1D04 1 0) d.dict.num (okey (homeIdx 0x1D04) 1 0), d.evt, d.mem)

theorem readyView_eq (d : Device) : readyView d = (d.thawStep, d.num 0x1100 1, d.num 0x1D04 1, d.evt, d.mem) := by
  unfold Device.thawStep Device.num
  rfl

theorem readyView_setNum (d : Device) {s k : Nat} (x : Nat) (hs : s < 256) (hk : k < 65536) : readyView (d.setNum 0x1700 s k x) = readyView d := by
  rw [readyView_eq, readyView_eq, Device.thawStep, Device.thawStep, num_setNum_other _ _ (by decide) (by omega),
    num_setNum_other _ _ (by decide) (by omega), num_setNum_other _ _ (by decide) (by omega), Device.setNum_evt, Device.setNum_mem]

theorem readyView_recomputeTree (d : Device) : readyView d.recomputeTree = readyView d := by
  have hsend (e : Device) (ns : Nat) : readyView (e.sendPathlat ns) = readyView e :=
    forN_same readyView (fun _ _ => by exact view_ite (v := readyView) rfl rfl) _ _
  have hset (e : Device) (s x : Nat) (hs : s < 256) : readyView (e.setNum 0x1700 s 0 x) = readyView e := readyView_setNum e x hs (by decide)
  exact view_ite ((hsend ..).trans ((hset _ _ _ (by decide)).trans ((hset _ _ _ (by decide)).trans (hset _ _ _ (by decide)))))
    ((hset _ _ _ (by decide)).trans (hset _ _ _ (by decide)))

theorem completes_thawReady (h : s.dev.thawing = true ∧ s.dev.thawStep = 12) (hg : s.dev.gateDone = true) :
    Completes .thawReady s (fun d => d.thawStep = 13 ∧ d.num 0x1100 1 = 1 ∧
      d.num 0x1D04 1 = s.dev.time.nowNs / 1000000 ∧ Raised 0x700A s.dev d ∧ d.mem = s.dev.mem) := by
  refine completes_run_eq (f := fun d => if d.thawing && d.thawStep == 12 && d.gateDone then d.thawReady else d)
    (fun _ => by unfold exec; exact rfl) (if_pos ?_) ?_
  · rw [h.1, h.2, hg]
    rfl
  unfold Device.thawReady
  extract_lets ms up d1 d2 x d3
  have h1 : readyView d1 = (13, 1, ms, s.dev.evt, s.dev.mem) := by
    have hstep : d1.thawStep = 13 :=
      (num_setNum_other _ _ (by decide) (by omega)).trans ((Device.num_setNum_ne _ _ (okey_ne_sub (by decide) (by omega))).trans (thawStep_setThawStep ..))
    have hms : d1.num 0x1D04 1 = ms := (num_setNum_other _ _ (by decide) (by omega)).trans (Device.num_setNum_same ..)
    have hev : d1.evt = s.dev.evt := (Device.setNum_evt ..).trans ((Device.setNum_evt ..).trans (Device.setNum_evt ..))
    have hm : d1.mem = s.dev.mem := (Device.setNum_mem ..).trans ((Device.setNum_mem ..).trans (setThawStep_mem ..))
    rw [readyView_eq, hstep, hms, hev, hm, Device.num_setNum_same]
  have h3 : readyView d3 = (13, 1, ms, s.dev.evt, s.dev.mem) := (readyView_recomputeTree _).trans (Eq.trans rfl h1)
  rw [readyView_eq] at h3
  obtain ⟨hstep, h3⟩ := Prod.mk.inj h3
  obtain ⟨hrun, h3⟩ := Prod.mk.inj h3
  obtain ⟨hms, h3⟩ := Prod.mk.inj h3
  obtain ⟨hev, hm⟩ := Prod.mk.inj h3
  refine ⟨(num_raise_of_keeps _ (by with_unfolding_all decide) (by omega)).trans hstep, ?_,
    (num_raise_of_keeps _ (by with_unfolding_all decide) (by omega)).trans hms, (d3.raise_raised _ _ _ _ (by decide)).of_evt_eq hev.symm rfl,
    (Device.raise_mem ..).trans hm⟩
  have hc : d3.countEvent 0x700A 0 = d3 := by simp [Device.countEvent, evRow_700A]
  rw [raise_of_clean _ (by rw [evRow_700A]), hc]
  exact (runState_raiseRaw (by rw [evRow_700A]; decide) (by decide) ..).trans hrun

end

/-- Settles O46: trips and resets lose what they must, and each step ends as its own lemma says. -/
theorem thawTripsAndResets : Obligations.ThawTripsAndResets := by
  refine ⟨fun s cause die v mv => ?_, fun s straps mv boot n w cs ks un => ?_⟩
  · refine ⟨fun hv => ?_, completes_hardwareTrip, fun hmv => ?_, ?_, ?_⟩
    · refine completes_run_of (fun _ => by unfold exec; exact rfl) ?_
      exact if_pos (by rw [hv, Bool.not_false, Bool.or_true])
    · refine completes_run_eq (f := fun d => if mv < 38000 then
          { d.wipe with pwr := { pwrgood := d.pwr.pwrgood, resetn := d.pwr.resetn, vinMv := mv } } else d)
        (fun _ => by unfold exec; exact rfl) (if_pos hmv) ?_
      exact ⟨rfl, rfl, rfl, rfl, rfl, rfl, rfl, rfl, rfl, rfl, rfl, rfl, rfl⟩
    · refine completes_run_of (fun _ => by unfold exec; exact rfl) ?_
      exact ⟨rfl, rfl, rfl, rfl, rfl, rfl, rfl, rfl, rfl, rfl, rfl, rfl, rfl⟩
    · refine completes_run_of (fun _ => by unfold exec; exact rfl) ?_
      exact ⟨rfl, rfl, rfl, rfl, rfl, rfl, rfl, rfl, rfl, rfl, rfl, rfl, rfl⟩
  · intro at_ rep ser done
    refine ⟨fun hr => ⟨completes_resetNRise_low hr, completes_resetNRise_noKey hr, fun hmv hp h6 => completes_resetNRise_slot hr hmv hp h6 rfl⟩,
      fun h => completes_thawStepDone h rfl ⟨thawStep_setThawStep .., setThawStep_mem ..⟩,
      fun h h0 hok => completes_thawStepDone h rfl (acceptRepair_first _ h0 hok), completes_acceptRepair_none,
      fun h he => completes_thawStepDone h rfl (startFabric_ok _ he), fun h he => completes_thawStepDone h
        (if_pos (by rw [he]; rfl)) (Device.raise_raised _ _ _ _ _ (by decide)),
      fun h => completes_thawStepDone h rfl ⟨thawStep_setThawStep .., rfl⟩, fun h => completes_thawStepDone h rfl (thawStep_setThawStep ..),
      fun h => completes_thawStepDone h rfl (thawStep_setThawStep ..), fun h => completes_thawStepDone h rfl (thawStep_setThawStep ..),
      fun k => completes_thawStepLimit_early, fun h hl => completes_thawStepLimit h (by decide) hl rfl (raise_7003 ..), fun h hl => ?_,
      fun h hl => completes_thawStepLimit h (by decide) hl rfl (thawStep_setThawStep ..), fun h hn hd => completes_clusterStoreGroup h hn hd,
      fun h hw hb hs => ⟨completes_thawWave_cores h hw hb hs, completes_thawWave_rail h hw hb hs⟩, completes_startUpTestDone,
      completes_thawReady⟩
    refine completes_thawStepLimit h (by decide) hl rfl ⟨thawStep_setThawStep .., fun k hk => ?_⟩
    refine (pdState_setThawStep _ _ (by unfold pdCl; omega)).trans ((pdState_withThaw ..).trans (pdState_holdOff s.dev hk))

end Sys2Proof.Machine

/-! PROOFS. What the passage of time in the cadence moves, and what it leaves (R328 to R340). -/

namespace Sys2Proof.Machine

/-! ### Messages are only added -/

section
variable (d : Device)

theorem mem_out_taint {m : OutMsg} (c : Nat) (h : m ∈ d.out) : m ∈ (d.taint c).out := by
  unfold Device.taint
  split
  · exact h
  · refine List.mem_cons_of_mem _ ?_
    simpa using h

theorem mem_out_raise {m : OutMsg} (c ua ui a b : Nat) (h : m ∈ d.out) : m ∈ (d.raise c ua ui a b).out := by
  have h1 : m ∈ ((d.countEvent c ui).raiseRaw c ua ui a b).out := by simpa using h
  unfold Device.raise
  dsimp only
  split
  · exact mem_out_taint _ _ h1
  · exact h1

end

/-! ### Onward -/

/-- The cadence keeps its position and what it has heard; members are lost and messages leave, and nothing takes them back. -/
structure Onward (d e : Device) : Prop where
  step : e.cad.step = d.cad.step
  phase : e.cad.phase = d.cad.phase
  locked : e.cad.locked = d.cad.locked
  lastPos : e.cad.lastPos = d.cad.lastPos
  lastNs : e.cad.lastNs = d.cad.lastNs
  loss : d.cad.lossRaised = false → e.cad.lossRaised = false
  lost : ∀ m ∈ d.cad.lost, m ∈ e.cad.lost
  out : ∀ m ∈ d.out, m ∈ e.out
  limit : Map.get 0 e.evt.raised 0x1006 = Map.get 0 d.evt.raised 0x1006

namespace Onward

theorem refl (d : Device) : Onward d d := ⟨rfl, rfl, rfl, rfl, rfl, id, fun _ => id, fun _ => id, rfl⟩

theorem trans {d e f : Device} (h : Onward d e) (h' : Onward e f) : Onward d f :=
  ⟨h'.step.trans h.step, h'.phase.trans h.phase, h'.locked.trans h.locked, h'.lastPos.trans h.lastPos, h'.lastNs.trans h.lastNs,
    fun hl => h'.loss (h.loss hl), fun m hm => h'.lost m (h.lost m hm), fun m hm => h'.out m (h.out m hm), h'.limit.trans h.limit⟩

/-- What comes last named first: the last step of a function shows in its definition. -/
theorem after {d e f : Device} (h' : Onward e f) (h : Onward d e) : Onward d f := h.trans h'

theorem ite {d e f : Device} {p : Prop} [Decidable p] (he : Onward d e) (hf : Onward d f) : Onward d (if p then e else f) := by
  split
  · exact he
  · exact hf

theorem foldl {α : Type} {f : Device → α → Device} (hf : ∀ d a, Onward d (f d a)) (l : List α) (d : Device) : Onward d (l.foldl f d) := by
  induction l generalizing d with
  | nil => exact refl d
  | cons a l ih => exact (hf d a).trans (ih _)

theorem loop {f : Device → Nat → Device} (hf : ∀ d a, Onward d (f d a)) (n : Nat) (d : Device) : Onward d (forN n d f) := foldl hf _ d

/-- What touches neither the cadence nor messages nor events. -/
theorem same {d e : Device} (hc : e.cad = d.cad) (ho : e.out = d.out) (he : e.evt = d.evt) : Onward d e := by
  refine ⟨?_, ?_, ?_, ?_, ?_, ?_, ?_, ?_, ?_⟩ <;> simp [hc, ho, he]

theorem setNum (d : Device) (i s k x : Nat) : Onward d (d.setNum i s k x) :=
  same (Device.setNum_cad ..) (Device.setNum_out ..) (Device.setNum_evt ..)

theorem addNum (d : Device) (i s k x : Nat) : Onward d (d.addNum i s k x) :=
  same (Device.addNum_cad ..) (Device.addNum_out ..) (Device.addNum_evt ..)

/-- What becomes of a device beside its cadence, its messages and its events. -/
theorem rest (d : Device) (mem : Map Byte) (dict : DictS) (cores : Map CoreS) (clus : Map ClusS) (seqs : Map SqS) (health : HealthS)
    (adm : AdmS) (hv : HvS) (link : LinkS) (work : WorkS) (recal : List Nat) :
    Onward d { d with mem := mem, dict := dict, cores := cores, clus := clus, seqs := seqs, health := health, adm := adm, hv := hv,
                      link := link, work := work, recal := recal } := same rfl rfl rfl

theorem send (d : Device) (m : OutMsg) : Onward d (d.send m) :=
  ⟨rfl, rfl, rfl, rfl, rfl, id, fun _ => id, fun _ => List.mem_cons_of_mem _, rfl⟩

theorem raise (d : Device) {c : Nat} (ua ui a b : Nat) (hc : c ≠ 0x1006) : Onward d (d.raise c ua ui a b) := by
  refine ⟨?_, ?_, ?_, ?_, ?_, ?_, ?_, fun m => mem_out_raise d c ua ui a b, raised_raise_ne d _ _ _ _ hc (by decide)⟩ <;> simp

theorem store (d : Device) (a n x : Nat) : Onward d (d.store a n x) := same rfl rfl rfl

theorem modCore (d : Device) (g : Nat) (f : CoreS → CoreS) : Onward d (d.modCore g f) := same rfl rfl rfl

/-! #### Holds and the tree -/

theorem finishHold (d : Device) : Onward d d.finishHold := by
  unfold Device.finishHold
  split
  · refine trans ?_ (addNum ..)
    exact ⟨rfl, rfl, rfl, rfl, rfl, id, fun _ => id, fun _ => id, rfl⟩
  · exact ⟨rfl, rfl, rfl, rfl, rfl, id, fun _ => id, fun _ => id, rfl⟩

theorem haltRun (d : Device) : Onward d d.haltRun := by
  have hend (e : Device) (x : AdmS) (c : CadS) : c.step = e.cad.step → c.phase = e.cad.phase → c.locked = e.cad.locked →
      c.lastPos = e.cad.lastPos → c.lastNs = e.cad.lastNs → c.lossRaised = false → c.lost = e.cad.lost →
      Onward e { e with adm := x, cad := c } :=
    fun h1 h2 h3 h4 h5 h6 h7 => ⟨h1, h2, h3, h4, h5, fun _ => h6, fun m hm => h7 ▸ hm, fun _ => id, rfl⟩
  refine trans ?_ (hend _ _ _ rfl rfl rfl rfl rfl rfl rfl)
  exact ((finishHold d).trans ((setNum ..).trans (setNum ..))).trans (ite (refl _) (setNum ..))

theorem sendPathlat (d : Device) (ns : Nat) : Onward d (d.sendPathlat ns) := by
  unfold Device.sendPathlat
  exact loop (fun _ _ => by exact ite (send ..) (refl _)) ..

theorem recomputeTree (d : Device) : Onward d d.recomputeTree := by
  have h : Onward d ((d.setNum 0x1700 7 0 ((d.parentToward (d.num 0x1200 3)).getD 0xFF)).setNum 0x1700 9 0
      (Map.get 0 (hopMap (d.setNum 0x1700 7 0 ((d.parentToward (d.num 0x1200 3)).getD 0xFF)).shape
        (d.setNum 0x1700 7 0 ((d.parentToward (d.num 0x1200 3)).getD 0xFF)).downEntries
        ((d.setNum 0x1700 7 0 ((d.parentToward (d.num 0x1200 3)).getD 0xFF)).mapPos (d.num 0x1200 3)))
        (d.setNum 0x1700 7 0 ((d.parentToward (d.num 0x1200 3)).getD 0xFF)).position - 1)) := (setNum ..).trans (setNum ..)
  exact ite (h.trans ((setNum ..).trans (sendPathlat ..))) h

/-! #### What starts at a boundary -/

theorem fireOnce (d : Device) (q n : Nat) : Onward d (d.fireOnce q n) := by
  have hentry (e : Device) : Onward e (e.fireEntry q n) := ite (raise _ _ _ _ _ (by decide)) (same rfl rfl rfl)
  exact ite (refl _) ((hentry _).after (same rfl rfl rfl))

theorem fireSeason (d : Device) : Onward d d.fireSeason := by
  unfold Device.fireSeason
  exact loop (fun _ _ => loop (fun _ _ => by exact ite (fireOnce ..) (refl _)) ..) ..

theorem fireStamps (d : Device) (lo : Int) (hi : Nat) : Onward d (d.fireStamps lo hi) := foldl (fun _ _ => fireOnce ..) ..

theorem reportLine (d : Device) (k t m n : Nat) : Onward d (d.reportLine k t m n) := ite ((store ..).after (store ..)) (refl _)

theorem flushReports (d : Device) (g r : Nat) : Onward d (d.flushReports g r) := by
  unfold Device.flushReports
  exact (modCore ..).after (foldl (fun _ _ => reportLine ..) ..)

theorem flushAllReports (d : Device) : Onward d d.flushAllReports :=
  foldl (fun _ _ => foldl (fun _ _ => flushReports ..) ..) ..

theorem declareLost (d : Device) (l : List Nat) (c : Nat) : Onward d (d.declareLost l c) ∧ ∀ m ∈ l, m ∈ (d.declareLost l c).cad.lost := by
  have hlose (e : Device) (m : Nat) : Onward e (e.loseMember m) := ite ((recomputeTree _).after (same rfl rfl rfl)) (refl _)
  have hadd (x : HvS) : Onward { d with cad := { d.cad with lost := d.cad.lost ++ l }, hv := x } (Device.askRestore (Device.send
      (l.foldl (fun d m => d.loseMember m) { d with cad := { d.cad with lost := d.cad.lost ++ l }, hv := x }) (.membersLost l)) c) :=
    (foldl (fun _ _ => hlose ..) ..).trans ((send ..).trans (send ..))
  have hfirst (x : HvS) : Onward d { d with cad := { d.cad with lost := d.cad.lost ++ l }, hv := x } :=
    ⟨rfl, rfl, rfl, rfl, rfl, id, fun _ => List.mem_append_left _, fun _ => id, rfl⟩
  by_cases hl : l.isEmpty
  · have he : d.declareLost l c = d := if_pos hl
    rw [he, List.isEmpty_iff.1 hl]
    exact ⟨refl _, fun _ h => absurd h List.not_mem_nil⟩
  · have he : d.declareLost l c = Device.askRestore (Device.send (l.foldl (fun d m => d.loseMember m)
      { d with cad := { d.cad with lost := d.cad.lost ++ l },
               hv := { d.hv with lostSeen := d.hv.lostSeen ++ l, deadPos := d.hv.deadPos ++ l.map d.mapPos } }) (.membersLost l)) c :=
      if_neg hl
    rw [he]
    exact ⟨(hfirst _).trans (hadd _), fun m hm => (hadd _).lost m (List.mem_append_right _ hm)⟩

theorem newRoutes (d : Device) : Onward d d.newRoutes := by
  have hinstall : Onward d d.installRoutes := ite (same rfl rfl rfl) (refl _)
  have hcut (l : List Nat) : Onward d (l.foldl (fun d n => d.raise 0x500A 0 0 (0xF + d.mapPos n * 2 ^ 16)) d.installRoutes) :=
    hinstall.trans (foldl (fun _ _ => raise _ _ _ _ _ (by decide)) ..)
  exact ite ((hcut _).trans (declareLost ..).1) (ite (hcut _) ((hcut _).trans (send ..)))

theorem recalLine (d : Device) (k t : Nat) : Onward d (d.recalLine k t) := ite ((store ..).after (store ..)) (refl _)

theorem recalibrate (d : Device) : Onward d d.recalibrate := by
  unfold Device.recalibrate
  split
  · exact refl _
  · exact (loop (fun _ _ => by exact ite (loop (fun _ _ => recalLine ..) ..) (foldl (fun _ _ => recalLine ..) ..)) ..).trans (same rfl rfl rfl)

theorem openTaint (d : Device) (n : Nat) : Onward d (d.openTaint n) :=
  ite ((setNum ..).after (same rfl rfl rfl)) ((setNum ..).after ((setNum ..).after ((setNum ..).after (same rfl rfl rfl))))

theorem restoreDone (d : Device) : Onward d d.restoreDone := by
  unfold Device.restoreDone
  split
  · exact ite ((raise _ _ _ _ _ (by decide)).after (same rfl rfl rfl)) (same rfl rfl rfl)
  · exact refl _

theorem sendWord (d : Device) (b : Bool) : Onward d (d.sendWord b) :=
  trans (e := { d with cad := { d.cad with outq := d.cad.outq.filter (fun x => bitOf x 76) ++
    [cadWordOf d.devNo d.cad.held d.season b d.cad.step d.cad.phase] } }) ⟨rfl, rfl, rfl, rfl, rfl, id, fun _ => id, fun _ => id, rfl⟩ (send ..)

end Onward

/-! ### Boundaries -/

/-- The device at position `p`. -/
def posAt (d : Device) (p : Nat) : Device := { d with cad := { d.cad with step := p / 2 ^ 24 % 2 ^ 48, phase := p % 2 ^ 24 } }

theorem Onward.posAt {d e : Device} (h : Onward d e) (p : Nat) {c : CadS} (h1 : c.step = p / 2 ^ 24 % 2 ^ 48) (h2 : c.phase = p % 2 ^ 24)
    (h3 : c.locked = e.cad.locked) (h4 : c.lastPos = e.cad.lastPos) (h5 : c.lastNs = e.cad.lastNs) (h6 : c.lossRaised = e.cad.lossRaised)
    (h7 : c.lost = e.cad.lost) : Onward (posAt d p) { e with cad := c } :=
  ⟨h1, h2, h3.trans h.locked, h4.trans h.lastPos, h5.trans h.lastNs, fun hl => h6.trans (h.loss hl), fun m hm => h7 ▸ h.lost m hm,
    h.out, h.limit⟩

theorem onward_enterBoundary (d : Device) (p : Nat) : Onward (posAt d p) (d.enterBoundary p) := by
  have hfire (e : Device) (lo : Int) (hi : Nat) : Onward e (e.fireSeason.fireStamps lo hi) := (Onward.fireSeason e).trans (.fireStamps ..)
  have hcount (e : Device) (n : Nat) : Onward e (e.countStep n) := .ite (.same rfl rfl rfl) (.same rfl rfl rfl)
  have hrel (e : Device) (x : LinkS) (y : AdmS) :
      Onward e (({ e with link := x, adm := y } : Device).recomputeTree.setNum 0x1300 3 0 4).restoreDone :=
    (Onward.restoreDone _).after ((Onward.setNum ..).after ((Onward.recomputeTree _).after (.same rfl rfl rfl)))
  unfold Device.enterBoundary
  extract_lets d1 step ph d2 c d3 d4 d5 d6 a l d7 d8
  have h1 : Onward d d1 := (Onward.finishHold d).trans (.flushAllReports _)
  have h2 : Onward d d2 := .ite (h1.trans (hcount ..)) h1
  have h3 : Onward (posAt d p) d3 := h2.posAt p rfl rfl rfl rfl rfl rfl rfl
  have h4 : Onward (posAt d p) d4 := h3.trans (.newRoutes _)
  have h5 : Onward (posAt d p) d5 := .ite (h4.trans (.recalibrate _)) h4
  have h6 : Onward (posAt d p) d6 := .ite (h5.trans (.openTaint ..)) h5
  have h8 : Onward (posAt d p) d8 := .ite (h6.trans (hrel ..)) h6
  split
  · exact .ite (h8.trans (.haltRun _)) (h8.trans (hfire ..))
  · exact h8.trans (hfire ..)

end Sys2Proof.Machine

/-! PROOFS. Positions, boundaries and words (R331 to R333, R338, R339). -/

namespace Sys2Proof.Machine

namespace Onward

theorem cad {d : Device} {c : CadS} (h1 : c.step = d.cad.step) (h2 : c.phase = d.cad.phase) (h3 : c.locked = d.cad.locked)
    (h4 : c.lastPos = d.cad.lastPos) (h5 : c.lastNs = d.cad.lastNs) (h6 : c.lossRaised = d.cad.lossRaised) (h7 : c.lost = d.cad.lost) :
    Onward d { d with cad := c } :=
  ⟨h1, h2, h3, h4, h5, fun h => h6.trans h, fun _ hm => h7 ▸ hm, fun _ => id, rfl⟩

/-! ### Polls -/

theorem setThread (d : Device) (g t : Nat) (x : Thread) : Onward d (d.setThread g t x) := same rfl rfl rfl

theorem recStore (d : Device) (k r a n x : Nat) : Onward d (d.recStore k r a n x) := ite (store ..) (refl _)

theorem addSync (d : Device) (g sc n : Nat) : Onward d (d.addSync g sc n) := ite (refl _) (modCore ..)

theorem endRecord (d : Device) (g h r st n : Nat) : Onward d (d.endRecord g h r st n) :=
  (addSync ..).after ((store ..).after (recStore ..))

theorem pastDeadline (d : Device) (g n : Nat) : Onward d (d.pastDeadline g n) := ite (raise _ _ _ _ _ (by decide)) (refl _)

theorem launch (d : Device) (g h r : Nat) (w : WorkRec) : Onward d (d.launch g h r w) :=
  (foldl (f := fun d (ti : Nat × Nat) => d.setThread g ti.1 _) (fun _ _ => setThread ..) ..).after (modCore ..)

theorem launchOrRefuse (d : Device) (g hdr r h : Nat) : Onward d (d.launchOrRefuse g hdr r h) := by
  unfold Device.launchOrRefuse
  dsimp only
  refine ite ((raise _ _ _ _ _ (by decide)).after ((endRecord ..).after (addNum ..))) (ite ?_ ?_)
  · exact (pastDeadline ..).after ((endRecord ..).after ((recStore ..).after ((recStore ..).after (addNum ..))))
  · exact (launch ..).after ((recStore ..).after ((recStore ..).after (addNum ..)))

theorem storeMiss (d : Device) (g a : Nat) : Onward d (d.storeMiss g a) := raise _ _ _ _ _ (by decide)

theorem pollLoop (g l hdr n : Nat) (d : Device) : Onward d (Device.pollLoop g l hdr n d) := by
  induction n generalizing d with
  | zero => exact refl d
  | succ n ih =>
    unfold Device.pollLoop
    extract_lets k h r e b nb
    have he : Onward d e := ite (storeMiss ..) (refl _)
    exact ite (refl _) (ite ((modCore ..).after he) (ite ((modCore ..).after he) ((ih _).after ((launchOrRefuse ..).after ((store ..).after he)))))

theorem pollList (d : Device) (g l : Nat) : Onward d (d.pollList g l) := by
  unfold Device.pollList
  dsimp only
  refine ite (refl _) ?_
  split
  · exact refl _
  · exact ite ((storeMiss ..).after (modCore ..)) (ite ((pollLoop ..).after (modCore ..)) (modCore ..))

end Onward

/-! ### Places -/

/-- The device at another place. -/
def placed (d : Device) (st ph : Nat) : Device := { d with cad := { d.cad with step := st, phase := ph } }

theorem Onward.placed {d e : Device} (h : Onward d e) (st ph : Nat) : Onward (placed d st ph) (placed e st ph) :=
  ⟨rfl, rfl, h.locked, h.lastPos, h.lastNs, h.loss, h.lost, h.out, h.limit⟩

/-- Onward, from some other place. -/
def Moved (d e : Device) : Prop := ∃ st ph, Onward (placed d st ph) e

namespace Moved

theorem of_onward {d e : Device} (h : Onward d e) : Moved d e := ⟨d.cad.step, d.cad.phase, h⟩

theorem trans {d e f : Device} : Moved d e → Moved e f → Moved d f
  | ⟨_, _, h⟩, ⟨st, ph, h'⟩ => ⟨st, ph, (h.placed st ph).trans h'⟩

theorem after {d e f : Device} (h' : Moved e f) (h : Moved d e) : Moved d f := h.trans h'

theorem ite {d e f : Device} {p : Prop} [Decidable p] (he : Moved d e) (hf : Moved d f) : Moved d (if p then e else f) := by
  split
  · exact he
  · exact hf

theorem foldl {α : Type} {f : Device → α → Device} (hf : ∀ d a, Moved d (f d a)) (l : List α) (d : Device) : Moved d (l.foldl f d) := by
  induction l generalizing d with
  | nil => exact of_onward (.refl d)
  | cons a l ih => exact (hf d a).trans (ih _)

theorem toPlace (d : Device) (st ph : Nat) : Moved d (placed d st ph) := ⟨st, ph, .refl _⟩

end Moved

/-! ### What is passed over (R332) -/

/-- The STAMP entries and the polls of `passStamps`, with their positions. -/
def stampsDue (d : Device) (lo : Int) (hi : Nat) : List (Nat × Bool × Nat × Nat) :=
  let inside (a : Nat) : Bool := decide (lo < (a : Int)) && decide (a ≤ hi)
  let stamps := (List.range 673).flatMap (fun q => (List.range 8).filterMap (fun n =>
    let t := d.trigger q n
    if t.1 = 2 && inside (t.2.2 % 2 ^ 24) then some (t.2.2 % 2 ^ 24, true, q, n) else none))
  let polls := d.cores.flatMap (fun e => e.2.armed.filterMap (fun x => match x.2 with
    | some st => if st.toNat / 2 ^ 24 == d.cad.step % 256 && inside (st.toNat % 2 ^ 24) then some (st.toNat % 2 ^ 24, false, e.1, x.1) else none
    | none => none))
  stamps ++ polls

/-- One of them takes effect at its position. -/
def passStamp (d : Device) (x : Nat × Bool × Nat × Nat) : Device :=
  let d := placed d d.cad.step x.1
  if x.2.1 then d.fireOnce x.2.2.1 x.2.2.2 else d.pollList x.2.2.1 x.2.2.2

theorem passStamps_eq (d : Device) (lo : Int) (hi : Nat) : d.passStamps lo hi =
    if !d.planRuns then d else (sortBy (fun x y => decide (x.1 ≤ y.1)) (stampsDue d lo hi)).foldl passStamp d := rfl

theorem inside_of_mem_stampsDue {d : Device} {lo : Int} {hi : Nat} {x : Nat × Bool × Nat × Nat} (h : x ∈ stampsDue d lo hi) :
    lo < (x.1 : Int) ∧ x.1 ≤ hi := by
  rcases List.mem_append.1 h with h | h
  · obtain ⟨q, -, h⟩ := List.mem_flatMap.1 h
    obtain ⟨n, -, h⟩ := List.mem_filterMap.1 h
    dsimp only at h
    split at h
    · next hc =>
      obtain rfl := Option.some.inj h
      simpa using (Bool.and_eq_true_iff.1 hc).2
    · cases h
  · obtain ⟨e, -, h⟩ := List.mem_flatMap.1 h
    obtain ⟨y, -, h⟩ := List.mem_filterMap.1 h
    dsimp only at h
    split at h
    · split at h
      · next hc =>
        obtain rfl := Option.some.inj h
        simpa using (Bool.and_eq_true_iff.1 hc).2
      · cases h
    · cases h

theorem moved_passStamps (d : Device) (lo : Int) (hi : Nat) : Moved d (d.passStamps lo hi) := by
  have hone (e : Device) (x : Nat × Bool × Nat × Nat) : Moved e (passStamp e x) :=
    .ite ((Moved.of_onward (.fireOnce ..)).after (.toPlace ..)) ((Moved.of_onward (.pollList ..)).after (.toPlace ..))
  rw [passStamps_eq]
  exact .ite (.of_onward (.refl d)) (.foldl hone _ _)

/-- Nothing lies between. -/
theorem passStamps_empty (d : Device) {lo : Int} {hi : Nat} (h : (hi : Int) ≤ lo) : d.passStamps lo hi = d := by
  have hnil : sortBy (fun x y => decide (x.1 ≤ y.1)) (stampsDue d lo hi) = [] := by
    refine List.eq_nil_iff_forall_not_mem.2 fun x hx => ?_
    have := inside_of_mem_stampsDue ((mem_sortBy _ _ _).1 hx)
    omega
  rw [passStamps_eq, hnil]
  split <;> rfl

/-- Only what lies at the very position. -/
theorem onward_passStamps_here (d : Device) : Onward d (d.passStamps ((d.cad.phase : Int) - 1) d.cad.phase) := by
  have hfold (l : List (Nat × Bool × Nat × Nat)) (e : Device) (hl : ∀ x ∈ l, x.1 = e.cad.phase) : Onward e (l.foldl passStamp e) := by
    induction l generalizing e with
    | nil => exact .refl e
    | cons x l ih =>
      have hx : placed e e.cad.step x.1 = e := by rw [hl x List.mem_cons_self]; rfl
      have hone : Onward e (passStamp e x) := by
        unfold passStamp
        rw [hx]
        exact .ite (.fireOnce ..) (.pollList ..)
      exact hone.trans (ih _ fun y hy => (hl y (List.mem_cons_of_mem _ hy)).trans hone.phase.symm)
  rw [passStamps_eq]
  refine .ite (.refl d) (hfold _ _ fun x hx => ?_)
  have := inside_of_mem_stampsDue ((mem_sortBy _ _ _).1 hx)
  omega

theorem moved_standAt (d : Device) (p : Nat) : Moved d (d.standAt p) :=
  ⟨p / 2 ^ 24 % 2 ^ 48, p % 2 ^ 24, rfl, rfl, rfl, rfl, rfl, id, fun _ => id, fun _ => id, rfl⟩

theorem moved_passOn (n : Nat) (d : Device) (r : Nat) : Moved d (Device.passOn n d r) := by
  induction n generalizing d r with
  | zero => exact .of_onward (.refl d)
  | succ n ih =>
    have hset (e : Device) (st ph fr : Nat) : Moved e { e with cad := { e.cad with step := st, phase := ph, frac := fr, stopped := false } } :=
      ⟨st, ph, rfl, rfl, rfl, rfl, rfl, id, fun _ => id, fun _ => id, rfl⟩
    have henter (e : Device) (p : Nat) : Moved e (e.enterBoundary p) := ⟨_, _, onward_enterBoundary e p⟩
    unfold Device.passOn
    dsimp only
    refine .ite (.ite ((moved_standAt ..).after (moved_passStamps ..)) ((hset ..).after (moved_passStamps ..))) (.ite ?_ ?_)
    · exact (ih ..).after ((moved_passStamps ..).after ((henter ..).after (moved_passStamps ..)))
    · exact (henter ..).after (moved_passStamps ..)

theorem moved_moveOn (d : Device) (r : Nat) : Moved d (d.moveOn r) := by
  refine .ite (.of_onward (.refl d)) ((moved_passOn ..).after (.of_onward ?_))
  exact ⟨rfl, rfl, rfl, rfl, rfl, id, fun _ => id, fun _ => id, rfl⟩

/-! ### A boundary crossed by a word (R333) -/

theorem absPos_le_lastBefore {d : Device} (h : d.cad.phase < 2 ^ 24) : d.absPos ≤ d.lastBefore := by
  unfold Device.lastBefore
  split
  · exact Nat.le_add_right ..
  · unfold Device.absPos
    dsimp only
    split
    · omega
    · split
      · omega
      · split
        · omega
        · omega

/-- At rest a place within its step stays. -/
theorem passOn_zero (n : Nat) {d : Device} (hs : d.cad.step < 2 ^ 48) (hp : d.cad.phase < 2 ^ 24) : Onward d (Device.passOn n d 0) := by
  cases n with
  | zero => exact .refl d
  | succ n =>
    have h1 : d.absPos / 2 ^ 24 % 2 ^ 48 = d.cad.step := by unfold Device.absPos; omega
    have h2 : d.absPos % 2 ^ 24 = d.cad.phase := by unfold Device.absPos; omega
    unfold Device.passOn
    dsimp only
    rw [Nat.add_zero, if_pos (absPos_le_lastBefore hp), h2, passStamps_empty d (Int.le_refl _)]
    unfold Device.standAt
    rw [h1, h2]
    exact .ite (.cad rfl rfl rfl rfl rfl rfl rfl) (.cad rfl rfl rfl rfl rfl rfl rfl)

/-- R333: from the last position before a boundary on across it, where the rest of the way is `r`. -/
theorem passOn_across (n : Nat) {d : Device} (hb : d.absPos = d.lastBefore) (hp : d.cad.phase < 2 ^ 24) :
    Onward (posAt d (d.absPos + 1)) (Device.passOn (n + 1) d 1) := by
  have hphase : d.absPos % 2 ^ 24 = d.cad.phase := by unfold Device.absPos; omega
  have hin := onward_enterBoundary d (d.absPos + 1)
  have hstep : (posAt d (d.absPos + 1)).cad.step < 2 ^ 48 := Nat.mod_lt _ (by decide)
  have hph : (posAt d (d.absPos + 1)).cad.phase < 2 ^ 24 := Nat.mod_lt _ (by decide)
  unfold Device.passOn
  dsimp only
  rw [← hb, if_neg (by omega), hphase, passStamps_empty d (Int.le_refl _), Nat.sub_self]
  generalize d.absPos + 1 = p at *
  generalize posAt d p = x at *
  generalize d.enterBoundary p = e at *
  have hhere := hin.trans (onward_passStamps_here e)
  exact .ite (hhere.trans (passOn_zero _ (hhere.step ▸ hstep) (hhere.phase ▸ hph))) hin

theorem moveOn_one {d : Device} (hb : d.absPos = d.lastBefore) (hp : d.cad.phase < 2 ^ 24) :
    Onward (posAt d (d.absPos + 1)) (d.moveOn 1) := by
  obtain ⟨e, he⟩ : ∃ e : Device, e = { d with cad := { d.cad with ahead := none } } := ⟨_, rfl⟩
  have hlb : e.lastBefore = d.lastBefore := by
    rw [he]
    unfold Device.lastBefore Device.admState Device.num
    rfl
  have hpos : e.absPos = d.absPos := by rw [he]; rfl
  have hph : e.cad.phase < 2 ^ 24 := by rw [he]; exact hp
  have hsame : Onward d e := by
    rw [he]
    exact .cad rfl rfl rfl rfl rfl rfl rfl
  have hmove : d.moveOn 1 = Device.passOn 8 e 1 := by
    rw [he]
    exact if_neg (by decide)
  have hcross := passOn_across 7 (d := e) (by rw [hpos, hlb, hb]) hph
  rw [hpos] at hcross
  rw [hmove]
  exact (hsame.placed _ _).trans hcross

end Sys2Proof.Machine

/-! PROOFS. Cadence words, gates, DONE and boundaries (R328, R331 to R333, R338, R339). -/

namespace Sys2Proof.Machine

/-! ### The word (R328) -/

/-- The fields of a word without its CRC. -/
def cadBody (m : Nat) (h : Bool) (se : Nat) (b : Bool) (st ph : Nat) : Nat :=
  2 ^ 92 + m % 4096 * 2 ^ 80 + b2n h * 2 ^ 79 + se % 4 * 2 ^ 77 + b2n b * 2 ^ 76 + st % 2 ^ 48 * 2 ^ 24 + ph % 2 ^ 24

theorem cadWordOf_eq (m : Nat) (h : Bool) (se : Nat) (b : Bool) (st ph : Nat) : cadWordOf m h se b st ph =
    cadBody m h se b st ph + crc32c (leBytes 12 (cadBody m h se b st ph)) * 2 ^ 96 := rfl

theorem b2n_le_one (b : Bool) : b2n b ≤ 1 := by cases b <;> decide

/-- Bits beyond the bytes do not show in them. -/
theorem leBytes_add_high (n v c : Nat) : leBytes n (v + c * 256 ^ n) = leBytes n v := by
  induction n generalizing v c with
  | zero => rfl
  | succ n ih =>
    have hdiv : (v + c * 256 ^ (n + 1)) / 256 = v / 256 + c * 256 ^ n := by
      rw [pow_succ, ← Nat.mul_assoc, Nat.add_mul_div_right _ _ (by decide)]
    have hmod : BitVec.ofNat 8 (v + c * 256 ^ (n + 1)) = BitVec.ofNat 8 v := by
      refine BitVec.eq_of_toNat_eq ?_
      rw [BitVec.toNat_ofNat, BitVec.toNat_ofNat, pow_succ, ← Nat.mul_assoc]
      exact Nat.add_mul_mod_self_right ..
    rw [leBytes, leBytes, hdiv, hmod, ih]

theorem bitsOf_eq (x hi lo : Nat) : bitsOf x hi lo = x / 2 ^ lo % 2 ^ (hi + 1 - lo) := by
  rw [bitsOf, Nat.shiftRight_eq_div_pow]

theorem parseWord_cadWordOf (m : Nat) (h : Bool) (se : Nat) (b : Bool) (st ph : Nat) : parseWord (cadWordOf m h se b st ph) =
    { ok := true, ver := 1, master := m % 2 ^ 12, hold := h, bnd := b, step := st % 2 ^ 48, phase := ph % 2 ^ 24 } := by
  rw [cadWordOf_eq]
  have hv : cadBody m h se b st ph < 2 ^ 96 := by
    have := b2n_le_one h
    have := b2n_le_one b
    unfold cadBody
    omega
  obtain ⟨c, hcrc⟩ : ∃ c, crc32c (leBytes 12 (cadBody m h se b st ph)) = c := ⟨_, rfl⟩
  have hc : c < 2 ^ 32 := hcrc ▸ crc32c_lt _
  rw [hcrc]
  have hok : crc32c (leBytes 12 (cadBody m h se b st ph + c * 2 ^ 96)) = c :=
    (congrArg crc32c (leBytes_add_high 12 _ c)).trans hcrc
  have hh := b2n_le_one h
  have hb := b2n_le_one b
  unfold parseWord
  rw [hok]
  unfold cadBody at *
  have hhold : bitOf (2 ^ 92 + m % 4096 * 2 ^ 80 + b2n h * 2 ^ 79 + se % 4 * 2 ^ 77 + b2n b * 2 ^ 76 + st % 2 ^ 48 * 2 ^ 24 + ph % 2 ^ 24 +
      c * 2 ^ 96) 79 = h := bitOf_eq (by omega)
  have hbnd : bitOf (2 ^ 92 + m % 4096 * 2 ^ 80 + b2n h * 2 ^ 79 + se % 4 * 2 ^ 77 + b2n b * 2 ^ 76 + st % 2 ^ 48 * 2 ^ 24 + ph % 2 ^ 24 +
      c * 2 ^ 96) 76 = b := bitOf_eq (by omega)
  rw [hhold, hbnd, CadWord.mk.injEq]
  simp only [bitsOf_eq]
  refine ⟨beq_iff_eq.2 ?_, ?_, ?_, trivial, trivial, ?_, ?_⟩ <;> omega

/-! ### Boundaries at the master (R338, R339) -/

/-- R339: what the release of the boundary that the device stands at makes of it. -/
def releasedBoundary (d : Device) : Device :=
  let ended := d.cad.step
  let d := d.enterBoundary (d.absPos + 1)
  let d := d.sendWord true
  if d.cad.phase = 0 then d.decideHarvest ended else d

theorem onward_decideHarvest (d : Device) (n : Nat) : Onward d (d.decideHarvest n) := by
  unfold Device.decideHarvest
  split
  · exact .ite (.foldl (fun _ _ => .send ..) _ _) (.refl d)
  · exact .refl d

theorem sendWord_bnd (d : Device) : ∃ b, .cadWord b none ∈ (d.sendWord true).out ∧ bitOf b 76 = true :=
  ⟨cadWordOf d.devNo d.cad.held d.season true d.cad.step d.cad.phase, List.mem_cons_self,
    congrArg CadWord.bnd (parseWord_cadWordOf ..)⟩

theorem releasedBoundary_spec (d : Device) : Onward (posAt d (d.absPos + 1)) (releasedBoundary d) ∧
    ∃ b, .cadWord b none ∈ (releasedBoundary d).out ∧ bitOf b 76 = true := by
  have he := onward_enterBoundary d (d.absPos + 1)
  obtain ⟨b, hb, hbit⟩ := sendWord_bnd (d.enterBoundary (d.absPos + 1))
  have hd : Onward ((d.enterBoundary (d.absPos + 1)).sendWord true) (releasedBoundary d) :=
    .ite (onward_decideHarvest ..) (.refl _)
  exact ⟨(he.trans (.sendWord ..)).trans hd, b, hd.out _ hb, hbit⟩

theorem tryRelease_eq (d : Device) : d.tryRelease = d ∨ d.tryRelease = releasedBoundary d := by
  unfold Device.tryRelease releasedBoundary
  split
  · exact .inl rfl
  · dsimp only
    generalize (if d.admState = 3 then d.allAdmitted && d.domainsUp && decide (0 < d.untilS0) else d.missingDone.isEmpty) = ok
    cases ok
    · exact .inl (if_pos rfl)
    · exact .inr (if_neg (by decide))

theorem tryRelease_of_done {d : Device} (hm : d.isMaster = true) (hin : d.inPlan = true) (hst : d.cad.stopped = true)
    (ha : d.admState = 4) (hp : d.absPos = d.lastBefore) (hdone : d.missingDone = []) : d.tryRelease = releasedBoundary d := by
  unfold Device.tryRelease
  rw [if_neg (by simp [hm, hin, hst, hp])]
  simp only [ha, hdone]
  exact if_neg (by simp)

/-- What a word or a hold at the master leaves of the place. -/
theorem startHold_spec (d : Device) : let e := d.startHold
    e.cad.step = d.cad.step ∧ e.cad.phase = d.cad.phase ∧ e.cad.stopped = d.cad.stopped ∧ e.mem = d.mem ∧ e.season = d.season ∧
    e.devNo = d.devNo ∧ (d.cad.held = false → e.cad.held = true ∧ Raised 0x1004 d e) := by
  unfold Device.startHold
  split
  · next h => exact ⟨rfl, rfl, rfl, rfl, rfl, rfl, fun hf => absurd (hf.symm.trans h) (by decide)⟩
  · obtain ⟨x, hx⟩ : ∃ x : Device, x = { d with cad := { d.cad with held := true, holdNs := some d.time.nowNs } } := ⟨_, rfl⟩
    have hnum (i s k : Nat) : x.num i s k = d.num i s k := num_of_dict_eq (d := d) (e := x) (by rw [hx]) ..
    have hcad (c : CadS) (h : c = { d.cad with held := true, holdNs := some d.time.nowNs }) : c.step = d.cad.step ∧ c.phase = d.cad.phase ∧
      c.stopped = d.cad.stopped ∧ c.held = true := by rw [h]; exact ⟨rfl, rfl, rfl, rfl⟩
    obtain ⟨h1, h2, h3, h4⟩ := hcad (x.raise 0x1004 0 0 0 0xFFF).cad (by rw [Device.raise_cad, hx])
    have hseason : (x.raise 0x1004 0 0 0 0xFFF).season = d.season := by
      have hadm : (x.raise 0x1004 0 0 0 0xFFF).adm = d.adm := by rw [Device.raise_adm, hx]
      have hk (i : Nat) (hi : i < 256) : (x.raise 0x1004 0 0 0 0xFFF).num 0x1210 i = d.num 0x1210 i :=
        (num_raise_of_keeps x (by with_unfolding_all rfl) (by omega)).trans (hnum ..)
      unfold Device.season Device.seasonAt
      rw [hadm, h2, hk 1 (by decide), hk 2 (by decide), hk 3 (by decide)]
    rw [← hx]
    refine ⟨h1, h2, h3, by rw [Device.raise_mem, hx], hseason, (num_raise_of_keeps x (by with_unfolding_all rfl) (by omega)).trans (hnum ..),
      fun _ => ⟨h4, (x.raise_raised _ _ _ _ (by decide)).of_evt_eq (by rw [hx]) rfl⟩⟩

theorem withhold_spec (d : Device) : let e := withhold d
    e.cad.step = d.cad.step ∧ e.cad.phase = d.cad.phase ∧ e.cad.stopped = d.cad.stopped ∧ e.mem = d.mem ∧ e.season = d.season ∧
    e.devNo = d.devNo ∧ (d.isMaster = true → d.planRuns = true → d.cad.stopped = true → d.cad.held = false → d.missingDone ≠ [] →
      e.cad.held = true ∧ Raised 0x1004 d e) := by
  obtain ⟨h1, h2, h3, h4, h5, h6, h7⟩ := startHold_spec d
  unfold withhold
  split
  · exact ⟨h1, h2, h3, h4, h5, h6, fun _ _ _ hf _ => h7 hf⟩
  · next h => exact ⟨rfl, rfl, rfl, rfl, rfl, rfl, fun hm hp hs hf hd => absurd (by simp [hm, hp, hs, hf, hd]) h⟩

theorem isMaster_withCad (d : Device) (c : CadS) : ({ d with cad := c } : Device).isMaster = d.isMaster := by
  unfold Device.isMaster Device.num
  rfl

theorem devNo_withCad (d : Device) (c : CadS) : ({ d with cad := c } : Device).devNo = d.devNo := by
  unfold Device.devNo Device.num
  rfl

section
variable {s : State}

theorem completes_gateWordWrite {k : Cluster} {off : BitVec 24} {val : BitVec 32} (h : off.toNat % 4 = 0) :
    Completes (.gateWordWrite k off val) s (fun d =>
      StoresBytes (Device.storeAddr k off.toNat) 4 val.toNat s.dev d ∧ d = stored s.dev d) :=
  completes_run_eq (f := fun d => if off.toNat % 4 = 0 then d.storeW (Device.storeAddr k off.toNat) 4 val.toNat else d)
    (fun _ => by unfold exec; exact rfl) (if_pos h) ⟨(storesBytes_store s.dev _ _ _).of_mem_eq rfl rfl, rfl⟩

theorem completes_doneReport (hp : s.dev.planRuns = true) (hd : seasonDone s.dev = true)
    (hs : s.dev.cad.sent ≠ some (s.dev.cad.step, s.dev.season)) : Completes .doneReport s (fun d =>
      if s.dev.isMaster then d = Device.tryRelease { s.dev with
        cad := { s.dev.cad with sent := some (s.dev.cad.step, s.dev.season),
                                done := s.dev.cad.done ++ [(s.dev.cad.step, s.dev.season, s.dev.devNo)] } }
      else d = { s.dev with
        cad := { s.dev.cad with sent := some (s.dev.cad.step, s.dev.season) }
        out := .done s.dev.cad.step s.dev.season s.dev.devNo :: s.dev.out }) := by
  have hc : (s.dev.planRuns && seasonDone s.dev && s.dev.cad.sent != some (s.dev.cad.step, s.dev.season)) = true := by simp [hp, hd, hs]
  refine completes_run_of (fun _ => by unfold exec; exact rfl) ?_
  dsimp only
  rw [hc]
  simp only [if_true, isMaster_withCad, devNo_withCad]
  split
  · rfl
  · rfl

theorem completes_doneReceive {step : BitVec 48} {se : Fin 4} {dev : BitVec 12} (hm : s.dev.isMaster = true) (hp : s.dev.planRuns = true)
    (hd : s.dev.cad.done.contains (step.toNat, se.val, dev.toNat) = false) : Completes (.doneReceive step se dev) s (fun d =>
      if s.dev.cad.held then d = Device.tryRelease { s.dev with
        cad := { s.dev.cad with done := s.dev.cad.done ++ [(step.toNat, se.val, dev.toNat)] } }
      else d = { s.dev with cad := { s.dev.cad with done := s.dev.cad.done ++ [(step.toNat, se.val, dev.toNat)] } }) := by
  refine completes_run_of (fun _ => by unfold exec; exact rfl) ?_
  dsimp only
  rw [hm, hp, hd]
  cases s.dev.cad.held
  · exact rfl
  · exact rfl

theorem completes_cadenceWordSend (hm : s.dev.isMaster = true) (hin : s.dev.inPlan = true) : Completes .cadenceWordSend s (fun d =>
    (∃ b rest, d.out = .cadWord b none :: rest ∧
      b = cadWordOf s.dev.devNo d.cad.held s.dev.season false s.dev.cad.step s.dev.cad.phase) ∧
    d.cad.step = s.dev.cad.step ∧ d.cad.phase = s.dev.cad.phase ∧
    (s.dev.planRuns = true → s.dev.cad.stopped = true → s.dev.cad.held = false → s.dev.missingDone ≠ [] →
      d.cad.held = true ∧ Raised 0x1004 s.dev d)) := by
  obtain ⟨h1, h2, -, -, h5, h6, h7⟩ := withhold_spec s.dev
  refine completes_run_eq (f := fun d => if d.isMaster && d.inPlan then (withhold d).sendWord false else d)
    (fun _ => by unfold exec; exact rfl) (if_pos (by rw [hm, hin]; rfl)) ⟨⟨_, _, rfl, ?_⟩, h1, h2, h7 hm⟩
  show cadWordOf (withhold s.dev).devNo (withhold s.dev).cad.held (withhold s.dev).season false (withhold s.dev).cad.step
    (withhold s.dev).cad.phase = cadWordOf s.dev.devNo (withhold s.dev).cad.held s.dev.season false s.dev.cad.step s.dev.cad.phase
  rw [h1, h2, h5, h6]

theorem completes_boundaryReached (hin : s.dev.inPlan = true) (hs : s.dev.cad.stopped = false) : Completes .boundaryReached s (fun d =>
    d.cad.stopped = true ∧ d.cad.step = s.dev.lastBefore / 2 ^ 24 % 2 ^ 48 ∧ d.cad.phase = s.dev.lastBefore % 2 ^ 24 ∧
      d.mem = s.dev.mem) := by
  refine completes_run_eq (f := fun d => if d.inPlan && !d.cad.stopped then
      let d := d.standAt d.lastBefore
      let h := withhold d
      if h.cad.held && !d.cad.held then h.sendWord false else h
    else d) (fun _ => by unfold exec; exact rfl) (if_pos (by rw [hin, hs]; rfl)) ?_
  dsimp only
  obtain ⟨h1, h2, h3, h4, -⟩ := withhold_spec (s.dev.standAt s.dev.lastBefore)
  generalize s.dev.lastBefore = p at *
  split
  · exact ⟨h3, h1, h2, h4⟩
  · exact ⟨h3, h1, h2, h4⟩

theorem completes_boundaryRelease (hm : s.dev.isMaster = true) (hin : s.dev.inPlan = true) (hst : s.dev.cad.stopped = true)
    (ha : s.dev.admState = 4) (hp : s.dev.absPos = s.dev.lastBefore) (hdone : s.dev.missingDone = []) :
    Completes .boundaryRelease s (fun d =>
      d.cad.step = (s.dev.absPos + 1) / 2 ^ 24 % 2 ^ 48 ∧ d.cad.phase = (s.dev.absPos + 1) % 2 ^ 24 ∧
        ∃ b, .cadWord b none ∈ d.out ∧ bitOf b 76 = true) := by
  obtain ⟨h, hb⟩ := releasedBoundary_spec s.dev
  exact completes_run_eq (fun _ => by unfold exec; exact rfl) (tryRelease_of_done hm hin hst ha hp hdone) ⟨h.step, h.phase, hb⟩

end

/-! ### Words at a member (R331 to R333) -/

theorem onward_startHold (d : Device) : Onward d d.startHold :=
  .ite (.refl d) ((Onward.raise _ _ _ _ _ (by decide)).after (.cad rfl rfl rfl rfl rfl rfl rfl))

theorem moved_correct (d : Device) (st ph : Nat) : Moved d (correct d st ph) := by
  unfold correct
  extract_lets period lat off c e
  have he : Moved d e := .of_onward (.raise _ _ _ _ _ (by decide))
  refine .ite (.of_onward (.cad rfl rfl rfl rfl rfl rfl rfl)) (.ite ((moved_moveOn ..).after he) (he.trans (.of_onward ?_)))
  exact .cad rfl rfl rfl rfl rfl rfl rfl

/-- A word is heard: what it says of the position counts from now. -/
def heardWord (d : Device) (w : CadWord) : Device :=
  { d with cad := { d.cad with locked := true, lastPos := some (w.step, w.phase), lastNs := d.time.nowNs, lossRaised := false } }

/-- R332, R333: the word is heard, forwarded and followed. -/
def followWord (d : Device) (port bits : Nat) : Device :=
  let w := parseWord bits
  let first := !d.cad.locked
  let d := heardWord d w
  let d := if first then d.raise 0x1001 0 0 0 w.master else d
  let d := d.send (.cadWord bits (some port))
  let off := posDiff w.step w.phase d.cad.step d.cad.phase
  if w.bnd then
    if off ≤ 0 then d
    else
      let d := if 256 < off then d.raise 0x1005 0 0 0 0xFFF else d
      d.moveOn off.toNat
  else
    let d := if w.hold then d.startHold else d
    correct d w.step w.phase

section
variable {d : Device} {p bits : Nat} (hin : d.inPlan = true) (hm : d.isMaster = false)
  (hst : (Map.get ({} : PortS) d.link.ports p).stale = false) (hport : d.num 0x1700 7 = p) (hp : p < 12)
include hin hm hst hport hp

/-- A bad word from the parent is discarded. -/
theorem receiveWord_bad (hb : badWord d (parseWord bits) = true) : receiveWord d p bits = discardWord d := by
  unfold receiveWord
  rw [if_neg (by rw [hin, hm, hst]; decide)]
  simp only [hb, hport, Bool.not_true, Bool.and_false, Bool.false_eq_true, if_false, if_true]
  rw [if_neg (by omega : ¬p = 0xFF), if_neg (by simp)]

/-- A good word of the master that is followed already. -/
theorem receiveWord_good (hw : (parseWord bits).master = d.num 0x1200 3) (hb : badWord d (parseWord bits) = false) :
    receiveWord d p bits = followWord d p bits := by
  have hown : (if (parseWord bits).ok && (parseWord bits).master != d.num 0x1200 3 && !badWord d (parseWord bits) then
      d.parentToward (parseWord bits).master else if d.num 0x1700 7 = 0xFF then none else some (d.num 0x1700 7)) = some p := by
    rw [hw, hport, if_neg (by simp), if_neg (by omega)]
  have hfollow : followMaster d (parseWord bits).master = d := if_pos hw
  unfold receiveWord
  rw [if_neg (by rw [hin, hm, hst]; decide)]
  dsimp only
  rw [hown, if_neg (not_not.2 rfl), hb, hfollow]
  exact if_neg Bool.false_ne_true

end

/-- An event of the cadence leaves the place and the boundaries ahead of it. -/
theorem lastBefore_raise {d x y : Device} {c : Nat} (a b : Nat) (hx : x.dict = d.dict) (hs0 : x.cad.s0 = d.cad.s0)
    (hst : x.cad.step = d.cad.step) (hph : x.cad.phase = d.cad.phase) (hy : y = x ∨ y = x.raise c 0 0 a b) (hc : c / 4096 < 256)
    (h1 : eventKeeps c 0x1210 = true) (h2 : eventKeeps c 0x1300 = true) : y.lastBefore = d.lastBefore ∧ y.absPos = d.absPos := by
  have hcad : y.cad = x.cad := by
    rcases hy with rfl | rfl
    · rfl
    · exact Device.raise_cad ..
  have hnum {i s : Nat} (h : eventKeeps c i = true) (hs : s < 256) : y.num i s = d.num i s := by
    rcases hy with rfl | rfl
    · exact num_of_dict_eq hx ..
    · exact (num_raise_of_keeps x h ⟨hc, hs, by omega, by omega⟩).trans (num_of_dict_eq hx ..)
  have habs : y.absPos = d.absPos := by
    unfold Device.absPos
    rw [hcad, hst, hph]
  refine ⟨?_, habs⟩
  unfold Device.lastBefore Device.untilS0 Device.admState
  rw [habs, hcad, hst, hph, hs0, hnum h2 (by decide), hnum h1 (by decide), hnum h1 (by decide), hnum h1 (by decide)]

/-- What is heard and forwarded. -/
theorem forwarded_spec (d : Device) (p bits : Nat) : let w := parseWord bits
    let e := (if !d.cad.locked then (heardWord d w).raise 0x1001 0 0 0 w.master else heardWord d w).send (.cadWord bits (some p))
    Onward (heardWord d w) e ∧ .cadWord bits (some p) ∈ e.out ∧ e.lastBefore = d.lastBefore ∧ e.absPos = d.absPos := by
  intro w e
  obtain ⟨y, hy⟩ : ∃ y, y = if !d.cad.locked then (heardWord d w).raise 0x1001 0 0 0 w.master else heardWord d w := ⟨_, rfl⟩
  have he : e = y.send (.cadWord bits (some p)) := by rw [hy]
  have hor : y = heardWord d w ∨ y = (heardWord d w).raise 0x1001 0 0 0 w.master := by
    rw [hy]
    split
    · exact .inr rfl
    · exact .inl rfl
  have hyx : Onward (heardWord d w) y := by
    rw [hy]
    exact .ite (.raise _ _ _ _ _ (by decide)) (.refl _)
  obtain ⟨hlb, habs⟩ := lastBefore_raise (d := d) (x := heardWord d w) (c := 0x1001) 0 w.master rfl rfl rfl rfl hor (by decide) (by with_unfolding_all rfl)
    (by with_unfolding_all rfl)
  rw [he]
  refine ⟨hyx.trans (.send ..), List.mem_cons_self, Eq.trans ?_ hlb, habs⟩
  unfold Device.lastBefore Device.admState Device.num
  rfl

theorem followWord_spec (d : Device) (p bits : Nat) (hb : (parseWord bits).bnd = false) : let e := followWord d p bits
    e.cad.locked = true ∧ e.cad.lastPos = some ((parseWord bits).step, (parseWord bits).phase) ∧ e.cad.lastNs = d.time.nowNs ∧
    e.cad.lossRaised = false ∧ .cadWord bits (some p) ∈ e.out := by
  intro e
  obtain ⟨h1, hout, -⟩ := forwarded_spec d p bits
  obtain ⟨x, hx⟩ : ∃ x, x = (if !d.cad.locked then (heardWord d (parseWord bits)).raise 0x1001 0 0 0 (parseWord bits).master
    else heardWord d (parseWord bits)).send (.cadWord bits (some p)) := ⟨_, rfl⟩
  rw [← hx] at h1 hout
  have he : e = correct (if (parseWord bits).hold then x.startHold else x) (parseWord bits).step (parseWord bits).phase := by
    rw [hx]
    exact if_neg (by rw [hb]; exact Bool.false_ne_true)
  have hm : Moved x e := he ▸ (moved_correct ..).after (.of_onward (.ite (onward_startHold x) (.refl x)))
  obtain ⟨st, ph, h2⟩ := hm
  have h := (h1.placed st ph).trans h2
  exact ⟨h.locked, h.lastPos, h.lastNs, h.loss rfl, h2.out _ hout⟩

/-- The next position is one further on. -/
theorem posDiff_next {s p t q : Nat} (h : s * 2 ^ 24 + p = t * 2 ^ 24 + q + 1) (hs : s < 2 ^ 48) (hp : p < 2 ^ 24) (hq : q < 2 ^ 24) :
    posDiff s p t q = 1 := by
  have hd : sgnOf 48 (s + (2 ^ 48 - t % 2 ^ 48)) = ((s - t : Nat) : Int) := by
    have hx : (s + (2 ^ 48 - t % 2 ^ 48)) % 2 ^ 48 = s - t := by omega
    rw [sgnOf, hx, if_pos (by omega)]
  unfold posDiff
  dsimp only
  rw [hd]
  rcases Nat.lt_or_ge q (2 ^ 24 - 1) with hq' | hq'
  · obtain ⟨rfl, rfl⟩ : s = t ∧ p = q + 1 := by omega
    omega
  · obtain ⟨rfl, rfl, rfl⟩ : s = t + 1 ∧ p = 0 ∧ q = 2 ^ 24 - 1 := by omega
    omega

/-- What stands at the boundary that the next position crosses. -/
theorem posAt_place {d : Device} {n st ph : Nat} (h : st * 2 ^ 24 + ph = n) (hs : st < 2 ^ 48) (hp : ph < 2 ^ 24) :
    posAt d n = placed d st ph := by
  have h1 : n / 2 ^ 24 % 2 ^ 48 = st := by omega
  have h2 : n % 2 ^ 24 = ph := by omega
  unfold posAt
  rw [h1, h2]
  exact rfl

theorem followWord_boundary (d : Device) (p bits : Nat) (hb : (parseWord bits).bnd = true) (hpos : d.absPos = d.lastBefore)
    (hnext : (parseWord bits).step * 2 ^ 24 + (parseWord bits).phase = d.absPos + 1) (hq : d.cad.phase < 2 ^ 24)
    (hs : (parseWord bits).step < 2 ^ 48) (hp : (parseWord bits).phase < 2 ^ 24) : let e := followWord d p bits
    e.cad.step = (parseWord bits).step ∧ e.cad.phase = (parseWord bits).phase ∧
    e.cad.lastPos = some ((parseWord bits).step, (parseWord bits).phase) ∧ .cadWord bits (some p) ∈ e.out := by
  intro e
  obtain ⟨h1, hout, hlb, habs⟩ := forwarded_spec d p bits
  obtain ⟨x, hx⟩ : ∃ x, x = (if !d.cad.locked then (heardWord d (parseWord bits)).raise 0x1001 0 0 0 (parseWord bits).master
    else heardWord d (parseWord bits)).send (.cadWord bits (some p)) := ⟨_, rfl⟩
  rw [← hx] at h1 hout hlb habs
  have hxs : x.cad.step = d.cad.step := h1.step
  have hxp : x.cad.phase = d.cad.phase := h1.phase
  have hoff : posDiff (parseWord bits).step (parseWord bits).phase x.cad.step x.cad.phase = 1 := by
    rw [hxs, hxp]
    exact posDiff_next hnext hs hp hq
  have he : e = x.moveOn 1 := by
    have hone : (1 : Int).toNat = 1 := rfl
    show followWord d p bits = _
    unfold followWord
    dsimp only
    rw [hb, if_pos rfl, ← hx, hoff, if_neg (by decide), if_neg (by decide), hone]
  have hmove := moveOn_one (d := x) (by rw [hlb, habs, hpos]) (by rw [hxp]; exact hq)
  rw [← he, habs, posAt_place hnext hs hp] at hmove
  exact ⟨hmove.step, hmove.phase, hmove.lastPos.trans h1.lastPos, hmove.out _ hout⟩

theorem parseWord_bounds (bits : Nat) : (parseWord bits).step < 2 ^ 48 ∧ (parseWord bits).phase < 2 ^ 24 :=
  ⟨Nat.mod_lt _ (by decide), Nat.mod_lt _ (by decide)⟩

theorem discardWord_spec (d : Device) : (discardWord d).cad = d.cad ∧ (discardWord d).mem = d.mem ∧
    (Map.get 0 d.evt.once (0x1008 * 2 ^ 40) ≠ d.cad.step + 1 → Raised 0x1008 d (discardWord d)) := by
  refine ⟨Device.raiseOnce_cad .., Device.raiseOnce_mem .., fun h => ?_⟩
  have he : discardWord d = Device.raise { d with evt := { d.evt with
      once := Map.set 0 d.evt.once (0x1008 * 2 ^ 40 + 0) (d.cad.step + 1) } } 0x1008 0 0 0 0xFFF := if_neg h
  rw [he]
  exact raised_after (d := d) _ _ _ _ (by decide) rfl

/-- Settles O37: the word by its fields; at the master the hold and the release, at a member the word that is followed, or discarded. -/
theorem cadenceWordsAndBoundaries : Obligations.CadenceWordsAndBoundaries := by
  refine ⟨fun m se st ph h b hm hs hp => ?_, fun s k off val step se dev p bits => ?_⟩
  · rw [parseWord_cadWordOf, Nat.mod_eq_of_lt hm, Nat.mod_eq_of_lt hs, Nat.mod_eq_of_lt hp]
  intro c w x
  obtain ⟨hstep, hphase⟩ := parseWord_bounds bits.toNat
  refine ⟨completes_gateWordWrite, completes_doneReport, completes_doneReceive, completes_cadenceWordSend, completes_boundaryReached,
    completes_boundaryRelease, fun hin hm hst hport => ⟨fun hw hb => ⟨fun hbnd => ?_, fun hbnd hpos hnext hph => ?_⟩, fun hb => ?_⟩,
    fun b rest hm hq => ?_⟩
  · exact completes_run_eq (f := fun d => receiveWord d p bits.toNat) (fun _ => by unfold exec; exact rfl)
      (receiveWord_good hin hm hst hport p.isLt hw hb) (followWord_spec _ _ _ hbnd)
  · refine completes_run_eq (f := fun d => if bitOf bits.toNat 76 then receiveWord d p bits.toNat else d) (fun _ => by unfold exec; exact rfl)
      ((if_pos hbnd).trans (receiveWord_good hin hm hst hport p.isLt hw hb)) (followWord_boundary _ _ _ hbnd hpos hnext hph hstep hphase)
  · exact completes_run_eq (f := fun d => receiveWord d p bits.toNat) (fun _ => by unfold exec; exact rfl)
      (receiveWord_bad hin hm hst hport p.isLt hb) (discardWord_spec _)
  · refine completes_run_of (fun _ => by unfold exec; exact rfl) ?_
    dsimp only
    rw [hm, hq]
    rfl

end Sys2Proof.Machine

/-! PROOFS. Losses of the cadence and the synchronisation pairs (R334, R335, R340). -/

namespace Sys2Proof.Machine

section
variable {s : State}

/-! ### A hold that lasts too long (R340) -/

/-- What the release of a boundary keeps beside the place. -/
theorem Onward.of_posAt {d e : Device} {p : Nat} (h : Onward (Machine.posAt d p) e) : (∀ m ∈ d.cad.lost, m ∈ e.cad.lost) ∧
    Map.get 0 e.evt.raised 0x1006 = Map.get 0 d.evt.raised 0x1006 := ⟨h.lost, h.limit⟩

theorem tryRelease_keeps (d : Device) : (∀ m ∈ d.cad.lost, m ∈ d.tryRelease.cad.lost) ∧
    Map.get 0 d.tryRelease.evt.raised 0x1006 = Map.get 0 d.evt.raised 0x1006 := by
  rcases tryRelease_eq d with h | h
  · rw [h]
    exact ⟨fun _ => id, rfl⟩
  · rw [h]
    exact (releasedBoundary_spec d).1.of_posAt

theorem completes_holdLimit (hm : s.dev.isMaster = true) (hp : s.dev.planRuns = true) (hh : s.dev.cad.held = true)
    (hl : s.dev.cad.holdNs.getD 0 + s.dev.holdLimitNs ≤ s.dev.time.nowNs) : Completes .holdLimit s (fun d => Raised 0x1006 s.dev d ∧
      ∀ m ∈ s.dev.missingDone, m ∈ d.cad.lost) := by
  refine completes_run_eq (f := fun d =>
    if d.isMaster && d.planRuns && d.cad.held && decide (d.cad.holdNs.getD 0 + d.holdLimitNs ≤ d.time.nowNs) then
      let miss := d.missingDone
      let d := d.raise 0x1006 0 0 0 (miss.headD 0 + miss.length * 2 ^ 16)
      let all := miss.map (fun m => (d.cad.step, d.season, m))
      let d := d.declareLost miss 0x1006
      ({ d with cad := { d.cad with done := d.cad.done ++ all } }).tryRelease
    else d) (fun _ => by unfold exec; exact rfl) (if_pos (by simp [hm, hp, hh, hl])) ?_
  extract_lets miss x all y c
  obtain ⟨hon, hlost⟩ := Onward.declareLost x miss 0x1006
  obtain ⟨hk, hr⟩ := tryRelease_keeps { y with cad := { c with done := c.done ++ all } }
  refine ⟨?_, fun m hmem => hk m (hlost m hmem)⟩
  have hx : Raised 0x1006 s.dev x := s.dev.raise_raised _ _ _ _ (by decide)
  exact (hr.trans hon.limit).trans hx

/-! ### No word is heard (R335) -/

theorem completes_cadenceLoss (hin : s.dev.inPlan = true) (hm : s.dev.isMaster = false) (hl : s.dev.cad.lossRaised = false)
    (ht : s.dev.heardNs + s.dev.lossNs ≤ s.dev.time.nowNs) : Completes .cadenceLoss s (fun d => Raised 0x1002 s.dev d ∧
      d.cad = { s.dev.cad with lossRaised := true } ∧ d.mem = s.dev.mem) := by
  refine completes_run_eq (f := fun d =>
    if d.inPlan && !d.isMaster && !d.cad.lossRaised && decide (d.heardNs + d.lossNs ≤ d.time.nowNs) then
      ({ d with cad := { d.cad with lossRaised := true } }).raise 0x1002 0 0 0 (d.num 0x1200 3)
    else d) (fun _ => by unfold exec; exact rfl) (if_pos (by simp [hin, hm, hl, ht])) ?_
  exact ⟨raised_after (d := s.dev) _ _ _ _ (by decide) rfl, Device.raise_cad .., Device.raise_mem ..⟩

theorem completes_cutOff (hin : s.dev.inPlan = true) (hm : s.dev.isMaster = false) (hl : s.dev.cad.lossRaised = true)
    (hc : s.dev.cad.cutOff = false) (ht : s.dev.heardNs + s.dev.holdLimitNs ≤ s.dev.time.nowNs) : Completes .cutOff s (fun d =>
      d = { s.dev with cad := { s.dev.cad with cutOff := true }, out := .reportCutOff :: s.dev.out }) :=
  completes_run_eq (f := fun d =>
    if d.inPlan && !d.isMaster && d.cad.lossRaised && !d.cad.cutOff && decide (d.heardNs + d.holdLimitNs ≤ d.time.nowNs) then
      ({ d with cad := { d.cad with cutOff := true } }).send .reportCutOff
    else d) (fun _ => by unfold exec; exact rfl) (if_pos (by simp [hin, hm, hl, hc, ht])) rfl

/-! ### The backup takes over (R335) -/

theorem cad_recomputeTree (d : Device) : d.recomputeTree.cad = d.cad ∧ d.recomputeTree.evt = d.evt := by
  have key : (d.recomputeTree.cad, d.recomputeTree.evt) = (d.cad, d.evt) := by
    have hset (e : Device) (i s k x : Nat) : ((e.setNum i s k x).cad, (e.setNum i s k x).evt) = (e.cad, e.evt) := by
      rw [Device.setNum_cad, Device.setNum_evt]
    have hsend (e : Device) (n : Nat) : ((e.sendPathlat n).cad, (e.sendPathlat n).evt) = (e.cad, e.evt) :=
      forN_same (fun d : Device => (d.cad, d.evt)) (fun _ _ => by exact view_ite (v := fun d : Device => (d.cad, d.evt)) rfl rfl) 12 e
    exact view_ite (v := fun d : Device => (d.cad, d.evt)) ((hsend ..).trans ((hset ..).trans ((hset ..).trans (hset ..))))
      ((hset ..).trans (hset ..))
  exact Prod.mk.inj key

theorem num_recomputeTree (d : Device) {i s k : Nat} (h : homeIdx 0x1700 ≠ homeIdx i) (hs : s < 256) (hk : k < 65536) :
    d.recomputeTree.num i s k = d.num i s k := by
  have hset (e : Device) {u x : Nat} (hu : u < 256) : (e.setNum 0x1700 u 0 x).num i s k = e.num i s k := num_setNum_other _ _ h (by omega)
  have hsend (e : Device) (n : Nat) : (e.sendPathlat n).num i s k = e.num i s k :=
    forN_same (fun d : Device => d.num i s k)
      (fun _ _ => by exact view_ite (v := fun d : Device => d.num i s k) (num_send ..) rfl) 12 e
  exact view_ite (v := fun d : Device => d.num i s k)
    ((hsend ..).trans ((hset _ (by decide)).trans ((hset _ (by decide)).trans (hset _ (by decide)))))
    ((hset _ (by decide)).trans (hset _ (by decide)))

theorem completes_backupTakeover (hin : s.dev.inPlan = true) (h2 : s.dev.num 0x1200 1 = 2) (hl : s.dev.cad.lossRaised = true)
    (ht : s.dev.heardNs + 2 * s.dev.lossNs ≤ s.dev.time.nowNs) : Completes .backupTakeover s (fun d =>
      Raised 0x1003 s.dev d ∧ d.num 0x1200 1 = 1 ∧ d.num 0x1200 3 = s.dev.devNo ∧
      d.cad.former = some (s.dev.num 0x1200 3) ∧ ∃ b, .cadWord b none ∈ d.out) := by
  have hcond : (s.dev.inPlan && s.dev.num 0x1200 1 == 2 && s.dev.cad.lossRaised &&
      decide (s.dev.heardNs + 2 * s.dev.lossNs ≤ s.dev.time.nowNs)) = true := by simp [hin, h2, hl, ht]
  refine completes_run_eq (f := fun d =>
    if d.inPlan && d.num 0x1200 1 == 2 && d.cad.lossRaised && decide (d.heardNs + 2 * d.lossNs ≤ d.time.nowNs) then
      let old := d.num 0x1200 3
      let own := match d.cad.sent with
        | some k => [(k.1, k.2, d.devNo)]
        | none => []
      let d := { d with cad := { d.cad with former := some old, lossRaised := false, done := d.cad.done ++ own } }
      let d := ((d.setNum 0x1200 3 0 d.devNo).setNum 0x1200 1 0 1).recomputeTree
      (d.raise 0x1003 0 0 0 d.devNo).sendWord false
    else d) (fun _ => by unfold exec; exact rfl) (if_pos hcond) ?_
  extract_lets old own c x y
  have hcad : y.cad = x.cad := (cad_recomputeTree _).1.trans ((Device.setNum_cad ..).trans (Device.setNum_cad ..))
  have hevt : y.evt = s.dev.evt := (cad_recomputeTree _).2.trans ((Device.setNum_evt ..).trans (Device.setNum_evt ..))
  have h1 : y.num 0x1200 1 = 1 := (num_recomputeTree _ (by decide) (by decide) (by decide)).trans (Device.num_setNum_same ..)
  have h3 : y.num 0x1200 3 = s.dev.devNo := by
    refine (num_recomputeTree _ (by decide) (by decide) (by decide)).trans ((Device.num_setNum_ne _ _ (okey_ne_sub (by decide) (by omega))).trans ?_)
    rw [Device.num_setNum_same]
    exact devNo_withCad ..
  have hword (e : Device) (i u : Nat) : (e.sendWord false).num i u = e.num i u :=
    num_of_dict_eq (d := e) (e := e.sendWord false) rfl ..
  refine ⟨raised_after (d := s.dev) _ _ _ _ (by decide) (by rw [hevt]), ?_, ?_, ?_, _, List.mem_cons_self⟩
  · rw [hword, num_raise_of_keeps _ (by with_unfolding_all rfl) (by omega), h1]
  · rw [hword, num_raise_of_keeps _ (by with_unfolding_all rfl) (by omega), h3]
  · show (y.raise 0x1003 0 0 0 y.devNo).cad.former = _
    rw [Device.raise_cad, hcad]

/-! ### The pairs (R334) -/

/-- A frame of the pair is heard. -/
def heardPair (d : Device) (w : CadWord) : Device :=
  { d with cad := { d.cad with pairPos := some (w.step, w.phase), lastPos := some (w.step, w.phase), pairNs := d.time.nowNs } }

/-- What the master makes of a good frame of the pair. -/
def pairWord (d : Device) (w : CadWord) (per : Option Nat) : Device :=
  let newStep := match d.cad.pairPos with
    | some l => decide (0 < posDiff w.step 0 l.1 0)
    | none => true
  let d := heardPair d w
  let short := match per with
    | some p => tooShort d p
    | none => false
  if d.cad.pairOn then
    if short then leavePair d
    else
      let d := { d with cad := { d.cad with pairPeriod := per.getD d.cad.pairPeriod } }
      let off := posDiff w.step w.phase d.cad.step d.cad.phase
      if d.cad.locked then steer d off
      else
        let d := { d with cad := { d.cad with locked := true } }
        let d := d.raise 0x1001 0 0 0 w.master
        d.moveOn (min off.toNat (d.lastBefore - d.absPos))
  else
    let good := if short then 0 else if newStep then d.cad.pairGood + 1 else d.cad.pairGood
    if 16 ≤ good then
      ({ d with cad := { d.cad with pairGood := 0, pairOn := true, locked := true } }).raise 0x1001 0 0 0 w.master
    else { d with cad := { d.cad with pairGood := good } }

theorem exec_cadenceInWord (bits : BitVec 128) (per : Option Nat) (u : State) : exec (.cadenceInWord bits per) u = u.run (fun d =>
    if !(d.isMaster && d.inPlan && d.num 0x1200 2 == 0) then d
    else if badWord d (parseWord bits.toNat) then discardWord d
    else pairWord d (parseWord bits.toNat) per) := by
  unfold exec
  exact rfl

theorem tooShort_heardPair (d : Device) (w : CadWord) (per : Option Nat) : (match per with
    | some p => tooShort (heardPair d w) p
    | none => false) = per.any (tooShort d) := by
  cases per with
  | none => rfl
  | some p =>
    show tooShort (heardPair d w) p = tooShort d p
    unfold tooShort
    rw [num_of_dict_eq (d := d) (e := heardPair d w) rfl]

/-- The pair was heard now. -/
def Heard (d : Device) (w : CadWord) (e : Device) : Prop := e.cad.pairPos = some (w.step, w.phase) ∧ e.cad.pairNs = d.time.nowNs

theorem leavePair_spec {d x : Device} (hx : x.evt = d.evt) : let e := leavePair x
    e.cad.pairPos = x.cad.pairPos ∧ e.cad.pairNs = x.cad.pairNs ∧ e.cad.pairOn = false ∧ Raised 0x1007 d e := by
  have hcad (c : CadS) (h : c = { x.cad with locked := true, pairOn := false, pairGood := 0, pairPeriod := 0 }) :
      c.pairPos = x.cad.pairPos ∧ c.pairNs = x.cad.pairNs ∧ c.pairOn = false := by
    rw [h]
    exact ⟨rfl, rfl, rfl⟩
  obtain ⟨h1, h2, h3⟩ := hcad (leavePair x).cad (Device.raise_cad ..)
  exact ⟨h1, h2, h3, raised_after (d := d) _ _ _ _ (by decide) (by rw [hx])⟩

theorem steer_spec (d : Device) (off : Int) : let e := steer d off
    e.cad.pairPos = d.cad.pairPos ∧ e.cad.pairNs = d.cad.pairNs ∧ e.cad.pairOn = d.cad.pairOn ∧
    e.num 0x1200 6 = off.toNat / 256 ∧ e.cad.step = d.cad.step ∧ e.cad.phase = d.cad.phase := by
  intro e
  obtain ⟨x, hx⟩ : ∃ x, x = d.setNum 0x1200 6 0 (off.toNat / 256) := ⟨_, rfl⟩
  have hcad : x.cad = d.cad := hx ▸ Device.setNum_cad ..
  have hnum : x.num 0x1200 6 = off.toNat / 256 := by rw [hx, Device.num_setNum_same]
  have he : e = if (off - x.cad.pairLag).natAbs ≤ 256 && !x.cad.stopped then
      { x with cad := { x.cad with slew := (off - x.cad.pairLag) * x.num 0x1200 4 } }
    else { x with cad := { x.cad with pairLag := off, slew := 0 } } := by rw [hx]; rfl
  have hset (c : CadS) : ({ x with cad := c } : Device).num 0x1200 6 = off.toNat / 256 :=
    (num_of_dict_eq (d := x) (e := { x with cad := c }) rfl ..).trans hnum
  obtain ⟨c1, c2, c3, c4, c5⟩ : x.cad.pairPos = d.cad.pairPos ∧ x.cad.pairNs = d.cad.pairNs ∧ x.cad.pairOn = d.cad.pairOn ∧
      x.cad.step = d.cad.step ∧ x.cad.phase = d.cad.phase := by rw [hcad]; exact ⟨rfl, rfl, rfl, rfl, rfl⟩
  rw [he]
  split
  · exact ⟨c1, c2, c3, hset _, c4, c5⟩
  · exact ⟨c1, c2, c3, hset _, c4, c5⟩

section
variable {d : Device} {w : CadWord} {per : Option Nat}

theorem pairWord_short (hon : d.cad.pairOn = true) (hs : per.any (tooShort d) = true) :
    Heard d w (pairWord d w per) ∧ (pairWord d w per).cad.pairOn = false ∧ Raised 0x1007 d (pairWord d w per) := by
  have he : pairWord d w per = leavePair (heardPair d w) := by
    unfold pairWord
    dsimp only
    rw [tooShort_heardPair, hs]
    exact (if_pos hon).trans (if_pos rfl)
  obtain ⟨h1, h2, h3, h4⟩ := leavePair_spec (d := d) (x := heardPair d w) rfl
  rw [he]
  exact ⟨⟨h1, h2⟩, h3, h4⟩

theorem pairWord_locked (hon : d.cad.pairOn = true) (hs : per.any (tooShort d) = false) (hl : d.cad.locked = true) :
    let e := pairWord d w per
    Heard d w e ∧ e.cad.pairOn = true ∧ e.num 0x1200 6 = (posDiff w.step w.phase d.cad.step d.cad.phase).toNat / 256 ∧
      e.cad.step = d.cad.step ∧ e.cad.phase = d.cad.phase := by
  intro e
  obtain ⟨x, hx⟩ : ∃ x : Device, x = { heardPair d w with
    cad := { (heardPair d w).cad with pairPeriod := per.getD (heardPair d w).cad.pairPeriod } } := ⟨_, rfl⟩
  have he : e = steer x (posDiff w.step w.phase d.cad.step d.cad.phase) := by
    show pairWord d w per = _
    unfold pairWord
    dsimp only
    rw [tooShort_heardPair, hs, hx]
    exact (if_pos hon).trans ((if_neg Bool.false_ne_true).trans (if_pos hl))
  have hcad : x.cad.pairPos = some (w.step, w.phase) ∧ x.cad.pairNs = d.time.nowNs ∧ x.cad.pairOn = d.cad.pairOn ∧
      x.cad.step = d.cad.step ∧ x.cad.phase = d.cad.phase := by
    rw [hx]
    exact ⟨rfl, rfl, rfl, rfl, rfl⟩
  obtain ⟨c1, c2, c3, c4, c5⟩ := hcad
  obtain ⟨h1, h2, h3, h4, h5, h6⟩ := steer_spec x (posDiff w.step w.phase d.cad.step d.cad.phase)
  rw [he]
  exact ⟨⟨h1.trans c1, h2.trans c2⟩, h3.trans (c3.trans hon), h4, h5.trans c4, h6.trans c5⟩

theorem pairWord_align (hon : d.cad.pairOn = true) (hs : per.any (tooShort d) = false) (hl : d.cad.locked = false) :
    ∃ e, Heard d w e ∧ e.cad.locked = true ∧ Raised 0x1001 d e ∧ e.absPos = d.absPos ∧ pairWord d w per =
      e.moveOn (min (posDiff w.step w.phase d.cad.step d.cad.phase).toNat (d.lastBefore - d.absPos)) := by
  obtain ⟨x, hx⟩ : ∃ x : Device, x = { heardPair d w with
    cad := { (heardPair d w).cad with pairPeriod := per.getD (heardPair d w).cad.pairPeriod, locked := true } } := ⟨_, rfl⟩
  have he : pairWord d w per = (x.raise 0x1001 0 0 0 w.master).moveOn (min (posDiff w.step w.phase d.cad.step d.cad.phase).toNat
      ((x.raise 0x1001 0 0 0 w.master).lastBefore - (x.raise 0x1001 0 0 0 w.master).absPos)) := by
    unfold pairWord
    dsimp only
    rw [tooShort_heardPair, hs, hx]
    exact (if_pos hon).trans ((if_neg Bool.false_ne_true).trans (if_neg (by show ¬d.cad.locked = true; rw [hl]; exact Bool.false_ne_true)))
  have hcad : x.cad.pairPos = some (w.step, w.phase) ∧ x.cad.pairNs = d.time.nowNs ∧ x.cad.locked = true ∧
      x.cad.step = d.cad.step ∧ x.cad.phase = d.cad.phase ∧ x.cad.s0 = d.cad.s0 ∧ x.dict = d.dict ∧ x.evt = d.evt := by
    rw [hx]
    exact ⟨rfl, rfl, rfl, rfl, rfl, rfl, rfl, rfl⟩
  obtain ⟨c1, c2, c3, c4, c5, c6, hd, hev⟩ := hcad
  have hrc : (x.raise 0x1001 0 0 0 w.master).cad = x.cad := Device.raise_cad ..
  obtain ⟨hlb, habs⟩ := lastBefore_raise (d := d) (x := x) (c := 0x1001) 0 w.master hd c6 c4 c5 (.inr rfl) (by decide)
    (by with_unfolding_all rfl) (by with_unfolding_all rfl)
  exact ⟨x.raise 0x1001 0 0 0 w.master, ⟨by rw [hrc, c1], by rw [hrc, c2]⟩, by rw [hrc, c3],
    raised_after (d := d) _ _ _ _ (by decide) (by rw [hev]), habs, by rw [he, hlb, habs]⟩

theorem pairWord_off (hoff : d.cad.pairOn = false) : let e := pairWord d w per
    let fresh := ∀ l, d.cad.pairPos = some l → 0 < posDiff w.step 0 l.1 0
    Heard d w e ∧ e.cad.step = d.cad.step ∧ e.cad.phase = d.cad.phase ∧
    (per.any (tooShort d) = true → e.cad.pairOn = false ∧ e.cad.pairGood = 0) ∧
    (per.any (tooShort d) = false → fresh → d.cad.pairGood < 15 → e.cad.pairOn = false ∧ e.cad.pairGood = d.cad.pairGood + 1) ∧
    (per.any (tooShort d) = false → fresh → 15 ≤ d.cad.pairGood → e.cad.pairOn = true ∧ Raised 0x1001 d e) := by
  intro e fresh
  obtain ⟨newStep, hnew⟩ : ∃ b, b = match d.cad.pairPos with
    | some l => decide (0 < posDiff w.step 0 l.1 0)
    | none => true := ⟨_, rfl⟩
  have hfresh : fresh → newStep = true := by
    intro h
    rw [hnew]
    split
    · next l hl => exact decide_eq_true (h l hl)
    · rfl
  obtain ⟨good, hgood⟩ : ∃ n, n = if per.any (tooShort d) then 0 else if newStep then d.cad.pairGood + 1 else d.cad.pairGood := ⟨_, rfl⟩
  have he : e = if 16 ≤ good then ({ heardPair d w with
        cad := { (heardPair d w).cad with pairGood := 0, pairOn := true, locked := true } } : Device).raise 0x1001 0 0 0 w.master
      else { heardPair d w with cad := { (heardPair d w).cad with pairGood := good } } := by
    show pairWord d w per = _
    unfold pairWord
    dsimp only
    rw [tooShort_heardPair, hgood, hnew]
    exact if_neg (by show ¬d.cad.pairOn = true; rw [hoff]; exact Bool.false_ne_true)
  rw [he]
  by_cases hg : 16 ≤ good
  · obtain ⟨x, hx⟩ : ∃ x : Device, x = { heardPair d w with
      cad := { (heardPair d w).cad with pairGood := 0, pairOn := true, locked := true } } := ⟨_, rfl⟩
    have hcad : x.cad.pairPos = some (w.step, w.phase) ∧ x.cad.pairNs = d.time.nowNs ∧ x.cad.pairOn = true ∧
        x.cad.step = d.cad.step ∧ x.cad.phase = d.cad.phase ∧ x.evt = d.evt := by
      rw [hx]
      exact ⟨rfl, rfl, rfl, rfl, rfl, rfl⟩
    obtain ⟨c1, c2, c3, c4, c5, hev⟩ := hcad
    have hrc : (x.raise 0x1001 0 0 0 w.master).cad = x.cad := Device.raise_cad ..
    rw [if_pos hg, ← hx]
    refine ⟨⟨by rw [hrc, c1], by rw [hrc, c2]⟩, by rw [hrc, c4], by rw [hrc, c5], fun hs => ?_, fun hs hf hlt => ?_,
      fun _ _ _ => ⟨by rw [hrc, c3], raised_after (d := d) _ _ _ _ (by decide) (by rw [hev])⟩⟩
    · rw [hgood, hs, if_pos rfl] at hg
      exact absurd hg (by decide)
    · rw [hgood, hs, if_neg Bool.false_ne_true, hfresh hf, if_pos rfl] at hg
      omega
  · rw [if_neg hg]
    refine ⟨⟨rfl, rfl⟩, rfl, rfl, fun hs => ⟨hoff, ?_⟩, fun hs hf _ => ⟨hoff, ?_⟩, fun hs hf hge => ?_⟩
    · show good = 0
      rw [hgood, hs]
      exact if_pos rfl
    · show good = d.cad.pairGood + 1
      rw [hgood, hs, if_neg Bool.false_ne_true, hfresh hf, if_pos rfl]
    · rw [hgood, hs, if_neg Bool.false_ne_true, hfresh hf, if_pos rfl] at hg
      omega

end

/-- Settles O38: a hold ends with its members lost, a silence with the backup's words; the pair is followed, left and followed again. -/
theorem cadenceLosses : Obligations.CadenceLosses := by
  intro s bits per c w short
  refine ⟨completes_holdLimit, completes_cadenceLoss, completes_backupTakeover, completes_cutOff, fun hm hin h0 hb => ?_, fun ht => ?_⟩
  · intro off fresh heard
    refine completes_run_eq (exec_cadenceInWord bits per) ((if_neg ?_).trans (if_neg ?_)) ?_
    · rw [hm, hin, h0]
      decide
    · rw [hb]
      exact Bool.false_ne_true
    · exact ⟨pairWord_short, pairWord_locked, pairWord_align, pairWord_off⟩
  · refine completes_run_of (fun _ => by unfold exec; exact rfl) ?_
    dsimp only
    rw [if_neg (Nat.not_lt.2 ht)]
    split
    · obtain ⟨-, -, h3, h4⟩ := leavePair_spec (d := s.dev) (x := s.dev) rfl
      exact ⟨h3, h4⟩
    · rfl

end

end Sys2Proof.Machine

/-! PROOFS. Admission of a plan and control of its run (R343 to R345, R353, R427, R428). -/

namespace Sys2Proof.Machine

/-! ### Events of any code -/

theorem raised_raise (d : Device) (c ua ui a b : Nat) : Raised c d (d.raise c ua ui a b) := by
  by_cases h : c = 0x2207
  · subst h
    have hrow : (evRow 0x2207).taint = false := by with_unfolding_all rfl
    rw [raise_of_clean _ hrow]
    unfold Raised
    simp
  · exact d.raise_raised _ _ _ _ h

/-- The state of admission, or the device's number. -/
def PlanObj (i s : Nat) : Prop := i = 0x1300 ∨ i = 0x1010 ∧ s = 9

set_option maxRecDepth 20000 in
theorem ctr_elsewhere (code : Nat) {c : Nat × Nat} (h : c ∈ (evRow code).ctr) : homeIdx c.1 ≠ 0x1300 ∧ (homeIdx c.1 ≠ 0x1010 ∨ c.2 ≠ 9) := by
  unfold evRow at h
  split at h
  · have key : ∀ c ∈ [(0x1303, 2)], homeIdx c.1 ≠ 0x1300 ∧ (homeIdx c.1 ≠ 0x1010 ∨ c.2 ≠ 9) := by decide
    exact key c h
  · split at h
    · rename_i r hr
      have key : ∀ r ∈ evRows, ∀ c ∈ r.ctr, homeIdx c.1 ≠ 0x1300 ∧ (homeIdx c.1 ≠ 0x1010 ∨ c.2 ≠ 9) := by with_unfolding_all decide
      exact key r (List.mem_of_find?_eq_some hr) c h
    · cases h

/-- No event, of whatever code, changes the state of admission or the device's number. -/
theorem num_raise_any (d : Device) (code a b : Nat) {i s : Nat} (hi : PlanObj i s) (hs : s < 256) :
    (d.raise code 0 0 a b).num i s = d.num i s := by
  refine (keeps_raise d code 0 0 a b).num _ _ _ fun hm => ?_
  obtain ⟨o, ho, hkey⟩ := List.mem_map.1 hm
  have h11 : homeIdx 0x1100 = 0x1100 := rfl
  have h14 : homeIdx 0x1401 = 0x1401 := rfl
  have h1e : homeIdx 0x1E00 = 0x1E00 := rfl
  have h1f : homeIdx 0x1E01 = 0x1E01 := rfl
  have h13 : homeIdx 0x1300 = 0x1300 := rfl
  have h10 : homeIdx 0x1010 = 0x1010 := rfl
  rcases List.mem_append.1 ho with ho | ho
  · simp only [List.mem_cons, List.not_mem_nil, or_false] at ho
    unfold okey at hkey
    rcases ho with rfl | rfl | rfl | rfl | rfl | rfl | rfl | rfl | rfl | rfl | rfl | rfl | rfl <;> rcases hi with rfl | ⟨rfl, rfl⟩ <;>
      · dsimp only at hkey
        omega
  · obtain ⟨c, hc, rfl⟩ := List.mem_map.1 ho
    have hlt : c.2 < 256 := (List.mem_append.1 hc).elim (ctr_sub_lt _) (ctr_sub_lt _)
    have hinst : (if objInsts c.1 = 0 then 0 else 0) < 65536 := by split <;> decide
    obtain ⟨h1, h2⟩ : homeIdx c.1 ≠ 0x1300 ∧ (homeIdx c.1 ≠ 0x1010 ∨ c.2 ≠ 9) :=
      (List.mem_append.1 hc).elim (ctr_elsewhere _) (ctr_elsewhere _)
    unfold okey at hkey
    dsimp only at hkey
    rcases hi with rfl | ⟨rfl, rfl⟩
    · omega
    · omega

/-! ### Refusal (R353) -/

theorem num_finishHold (d : Device) {i s k : Nat} (h : homeIdx 0x1211 ≠ homeIdx i) (hs : s < 256) (hk : k < 65536) :
    d.finishHold.num i s k = d.num i s k := by
  unfold Device.finishHold
  split
  · exact (num_addNum_ne _ _ (okey_ne_idx h (by omega))).trans (num_of_dict_eq (by exact rfl) ..)
  · exact num_of_dict_eq (by exact rfl) ..

theorem evt_finishHold (d : Device) : d.finishHold.evt = d.evt := by
  unfold Device.finishHold
  split
  · exact Device.addNum_evt ..
  · rfl

/-- What a refused device shows. -/
structure RefusedAs (d e : Device) (r : Refuse) : Prop where
  state : e.num 0x1300 3 = 5
  code : e.num 0x1300 4 = r.code
  raised : Raised r.code d e
  stopped : e.cad.stopped = true
  detail : e.domOf 0x1300 5 = Device.refuseDetail r
  dev : e.devNo = d.devNo
  out : ∀ m ∈ d.out, m ∈ e.out

theorem mem_out_finishHold {d : Device} {m : OutMsg} (h : m ∈ d.out) : m ∈ d.finishHold.out := (Onward.finishHold d).out m h

theorem domOf_eq {d e : Device} (h : e.dict.dom = d.dict.dom) (i s k : Nat) : e.domOf i s k = d.domOf i s k := by
  rw [Device.domOf, Device.domOf, h]

/-- R427: RUN_STATE, where it may change, and nothing else. -/
theorem setRun_eq (d : Device) (v : Nat) : d.setRun v = d ∨ d.setRun v = d.setNum 0x1100 1 0 v := by
  unfold Device.setRun
  split
  · exact .inl rfl
  · exact .inr rfl

theorem refuse_spec (d : Device) (r : Refuse) : RefusedAs d (d.refuse r) r := by
  unfold Device.refuse
  extract_lets det d1 d2 d3 d4
  have hraise {i s : Nat} (hi : PlanObj i s) (hs : s < 256) : d2.num i s = d1.num i s := num_raise_any _ _ _ _ hi hs
  have hev : d1.evt = d.evt := (Device.setNum_evt ..).trans ((Device.setNum_evt ..).trans (evt_finishHold d))
  have hout1 (m : OutMsg) (hm : m ∈ d.out) : m ∈ d1.out := by
    have h : d1.out = d.finishHold.out := (Device.setNum_out ..).trans (Device.setNum_out ..)
    exact h ▸ mem_out_finishHold hm
  have hstate : d1.num 0x1300 3 = 5 :=
    (Device.num_setDom ..).trans ((Device.num_setNum_ne _ _ (okey_ne_sub (by decide) (by omega))).trans (Device.num_setNum_same ..))
  have hcode : d1.num 0x1300 4 = r.code := (Device.num_setDom ..).trans (Device.num_setNum_same ..)
  have hdev : d1.num 0x1010 9 = d.devNo :=
    (Device.num_setDom ..).trans ((num_setNum_other _ _ (by decide) (by omega)).trans ((num_setNum_other _ _ (by decide) (by omega)).trans
      (num_finishHold _ (by decide) (by decide) (by decide))))
  have hdet : d1.domOf 0x1300 5 = det := Device.domOf_setDom_same ..
  have hset : d3 = d2 ∨ d3 = d2.setNum 0x1100 1 0 1 := by
    by_cases h : d2.runState = 2
    · rcases setRun_eq d2 1 with h1 | h1
      · exact .inl ((if_pos h).trans h1)
      · exact .inr ((if_pos h).trans h1)
    · exact .inl (if_neg h)
  have hnum {i s : Nat} (hi : PlanObj i s) (hs : s < 256) : d4.num i s = d1.num i s := by
    have hidx : homeIdx 0x1200 ≠ homeIdx i ∧ homeIdx 0x1100 ≠ homeIdx i := by rcases hi with rfl | ⟨rfl, rfl⟩ <;> decide
    refine (num_setNum_other _ _ hidx.1 (by omega)).trans (Eq.trans ?_ (hraise hi hs))
    rcases hset with h | h
    · rw [h]
    · rw [h, num_setNum_other _ _ hidx.2 (by omega)]
  have hdom : d4.dict.dom = d1.dict.dom := by
    refine (Device.dom_setNum ..).trans (Eq.trans ?_ (dom_raise d1 r.code 0 0 (fieldB det 0 8) (fieldB det 16 8)))
    rcases hset with h | h
    · rw [h]
    · rw [h, Device.dom_setNum]
  have hev4 : d4.evt = d2.evt := by
    refine (Device.setNum_evt ..).trans ?_
    rcases hset with h | h
    · rw [h]
    · rw [h, Device.setNum_evt]
  have hout4 : d4.out = d2.out := by
    refine (Device.setNum_out ..).trans ?_
    rcases hset with h | h
    · rw [h]
    · rw [h, Device.setNum_out]
  have hfin (c : CadS) (a : AdmS) (i s : Nat) : ({ d4 with cad := c, adm := a } : Device).num i s = d4.num i s :=
    num_of_dict_eq (d := d4) (e := { d4 with cad := c, adm := a }) rfl ..
  refine ⟨?_, ?_, ?_, rfl, ?_, ?_, fun m hm => ?_⟩
  · rw [hfin, hnum (.inl rfl) (by decide), hstate]
  · rw [hfin, hnum (.inl rfl) (by decide), hcode]
  · exact (raised_raise d1 r.code 0 0 (fieldB det 0 8) (fieldB det 16 8)).of_evt_eq hev.symm hev4
  · exact (domOf_eq (d := d1) (by exact hdom) _ _ _).trans hdet
  · unfold Device.devNo
    rw [hfin, hnum (.inr ⟨rfl, rfl⟩) (by decide), hdev]
    rfl
  · show m ∈ d4.out
    rw [hout4]
    exact mem_out_raise _ _ _ _ _ _ (hout1 m hm)

end Sys2Proof.Machine

/-! PROOFS. The commands of admission and run control (R343 to R345, R427, R428). -/

namespace Sys2Proof.Machine

/-- An answer that is `same` as before: the command did nothing. -/
theorem out_send (d : Device) (m : OutMsg) : (d.send m).out = m :: d.out := rfl

theorem mem_finishHold (d : Device) : d.finishHold.mem = d.mem := by
  unfold Device.finishHold
  split
  · exact Device.addNum_mem ..
  · rfl

section
variable {s : State} {c : Conn}

theorem completes_admPlan {im : List Byte} (hst : s.dev.accessStatus c 0x1300 1 0 = stOK) (hlen : im.length ≤ 2 ^ 28) :
    Completes (.admPlan c im) s (fun d =>
      d.domOf 0x1300 1 = im ∧ d.num 0x1300 3 = 1 ∧ d.adm.plan = none ∧ d.out.head? = some (.answer 0x1300 1 0 stOK)) := by
  have hhook : planHook im s.dev = ({ ((s.dev.setDom 0x1300 1 0 im).setNum 0x1300 3 0 1).touched 0x1300 1 with
      adm := { s.dev.adm with plan := none, facts := none } }, stOK) := by
    unfold planHook
    rw [if_neg (by omega)]
    simp only [Device.touched, Device.setNum_adm, Device.setDom_adm]
  refine completes_viaDomain (c := .admPlan c im) (hook := planHook im) (fun _ => by unfold exec; exact rfl) hst ?_
  rw [hhook]
  refine ⟨(domOf_eq (by exact Device.dom_setNum ..) _ _ _).trans (Device.domOf_setDom_same ..), ?_, rfl, rfl⟩
  exact (num_of_dict_eq (by exact rfl) ..).trans (Device.num_setNum_same ..)

theorem completes_check (hst : s.dev.valueStatus c 0x1300 2 0 1 = stOK) :
    Completes (.check c) s (fun d =>
      if s.dev.admState = 1 then d.num 0x1300 3 = 2 ∧ d.out.head? = some (.answer 0x1300 2 0 stOK) ∧ d.mem = s.dev.mem
      else d = { s.dev with out := .answer 0x1300 2 0 stState :: s.dev.out }) := by
  refine completes_viaObject (c := .check c) (hook := checkHook) (fun _ => by unfold exec; exact rfl) hst ?_
  unfold checkHook
  by_cases ha : s.dev.admState = 1
  · simp only [if_pos ha]
    exact ⟨(num_send ..).trans (Device.num_setNum_same ..), rfl, Device.setNum_mem ..⟩
  · simp only [if_neg ha]
    rfl

end

/-- What an emptied plan leaves. -/
theorem emptyPlan_spec (d : Device) :
    (emptyPlan d).num 0x1300 3 = 0 ∧ (emptyPlan d).domOf 0x1300 1 = [] ∧ (emptyPlan d).adm.plan = none := by
  refine ⟨(num_of_dict_eq (by exact rfl) ..).trans (Device.num_setNum_same ..), ?_, rfl⟩
  exact (domOf_eq (by exact Device.dom_setNum ..) _ _ _).trans (Device.domOf_setDom_same ..)

theorem num_emptyPlan {d : Device} {i s : Nat} (h : homeIdx 0x1300 ≠ homeIdx i) (hs : s < 256) : (emptyPlan d).num i s = d.num i s :=
  (num_of_dict_eq (d := (d.setDom 0x1300 1 0 []).setNum 0x1300 3 0 0) (by exact rfl) ..).trans
    ((num_setNum_other _ _ h (by omega)).trans (Device.num_setDom ..))

theorem runState_finishHold (d : Device) : d.finishHold.runState = d.runState :=
  num_finishHold d (by decide) (by decide) (by decide)

theorem setRun_other (d : Device) (v : Nat) {i s : Nat} (h : homeIdx 0x1100 ≠ homeIdx i) (hs : s < 256) :
    (d.setRun v).num i s = d.num i s := by
  rcases setRun_eq d v with hr | hr
  · rw [hr]
  · rw [hr, num_setNum_other _ _ h (by omega)]

theorem setRun_of {d : Device} {v : Nat} (h : d.runState ≠ 4) : d.setRun v = d.setNum 0x1100 1 0 v := if_neg h

theorem dom_setRun (d : Device) (v : Nat) : (d.setRun v).dict.dom = d.dict.dom := by
  rcases setRun_eq d v with hr | hr
  · rw [hr]
  · rw [hr, Device.dom_setNum]

theorem adm_setRun (d : Device) (v : Nat) : (d.setRun v).adm = d.adm := by
  rcases setRun_eq d v with hr | hr
  · rw [hr]
  · rw [hr, Device.setNum_adm]

/-- R344: a withdrawn admission. -/
theorem discard_admitted {d : Device} (ha : d.admState = 3) :
    (discardHook d).2 = stOK ∧
    ((discardHook d).1.num 0x1300 3 = 0 ∧ (discardHook d).1.domOf 0x1300 1 = [] ∧ (discardHook d).1.adm.plan = none) ∧
    .verdict 0xA00F d.devNo true ∈ (discardHook d).1.out ∧ (d.runState ≠ 4 → (discardHook d).1.num 0x1100 1 = 1) := by
  have hh : ∃ (cad : CadS) (adm : AdmS) (e : Device), e = ((emptyPlan d.finishHold).setRun 1).setNum 0x1200 1 0 3 ∧ adm.plan = e.adm.plan ∧
      discardHook d = (({ e with cad := cad, adm := adm } : Device).send (.verdict 0xA00F (({ e with cad := cad, adm := adm } : Device)).devNo true), stOK) := by
    unfold discardHook
    rw [if_neg (by omega), if_neg (by omega), if_pos ha]
    refine ⟨_, _, _, rfl, ?_, rfl⟩
    rfl
  obtain ⟨cad, adm, e, he, hplan, hd⟩ := hh
  obtain ⟨e0, e1, e2⟩ := emptyPlan_spec d.finishHold
  have hnum {i k : Nat} (h1 : homeIdx 0x1100 ≠ homeIdx i) (h2 : homeIdx 0x1200 ≠ homeIdx i) (hk : k < 256) :
      (({ e with cad := cad, adm := adm } : Device)).num i k = (emptyPlan d.finishHold).num i k := by
    refine (num_of_dict_eq (d := e) (e := { e with cad := cad, adm := adm }) rfl ..).trans ?_
    rw [he, num_setNum_other _ _ h2 (by omega), setRun_other _ _ h1 hk]
  rw [hd]
  refine ⟨rfl, ⟨?_, ?_, ?_⟩, ?_, fun hr => ?_⟩
  · rw [num_send, hnum (by decide) (by decide) (by decide), e0]
  · refine (domOf_eq (d := emptyPlan d.finishHold) ?_ _ _ _).trans e1
    show e.dict.dom = _
    rw [he, Device.dom_setNum, dom_setRun]
  · show adm.plan = none
    rw [hplan, he, Device.setNum_adm, adm_setRun, e2]
  · have hdev : (({ e with cad := cad, adm := adm } : Device)).devNo = d.devNo :=
      (hnum (by decide) (by decide) (by decide)).trans ((num_emptyPlan (by decide) (by decide)).trans (num_finishHold _ (by decide) (by decide) (by decide)))
    rw [hdev]
    exact List.mem_cons_self ..
  · have hrun : (emptyPlan d.finishHold).runState ≠ 4 := by
      have h : (emptyPlan d.finishHold).runState = d.runState := (num_emptyPlan (by decide) (by decide)).trans (runState_finishHold d)
      rwa [h]
    rw [num_send]
    refine (num_of_dict_eq (d := e) (e := { e with cad := cad, adm := adm }) rfl ..).trans ?_
    rw [he, num_setNum_other _ _ (by decide) (by omega), setRun_of hrun, Device.num_setNum_same]

theorem completes_discard {s : State} {c : Conn} (hst : s.dev.valueStatus c 0x1300 2 0 2 = stOK) :
    Completes (.discard c) s (fun d =>
      (s.dev.admState = 0 → d = { s.dev with out := .answer 0x1300 2 0 stOK :: s.dev.out }) ∧
      (s.dev.admState = 2 ∨ s.dev.admState = 4 → d = { s.dev with out := .answer 0x1300 2 0 stState :: s.dev.out }) ∧
      (s.dev.admState = 1 ∨ s.dev.admState = 3 ∨ s.dev.admState = 5 → d.num 0x1300 3 = 0 ∧ d.domOf 0x1300 1 = [] ∧
        d.adm.plan = none ∧ d.out.head? = some (.answer 0x1300 2 0 stOK)) ∧
      (s.dev.admState = 3 → .verdict 0xA00F s.dev.devNo true ∈ d.out ∧ (s.dev.runState ≠ 4 → d.num 0x1100 1 = 1))) := by
  refine completes_viaObject (c := .discard c) (hook := discardHook) (fun _ => by unfold exec; exact rfl) hst
    ⟨fun ha => ?_, fun ha => ?_, fun ha => ?_, fun ha => ?_⟩
  · have h : discardHook s.dev = (s.dev, stOK) := if_pos ha
    rw [h]
    rfl
  · have h : discardHook s.dev = (s.dev, stState) := by
      unfold discardHook
      rw [if_neg (by omega), if_pos ha]
    rw [h]
    rfl
  · by_cases h3 : s.dev.admState = 3
    · obtain ⟨hok, ⟨h0, h1, h2⟩, -⟩ := discard_admitted h3
      refine ⟨(num_send ..).trans h0, h1, h2, ?_⟩
      rw [out_send, hok]
      rfl
    · have h : discardHook s.dev = (emptyPlan s.dev, stOK) := by
        unfold discardHook
        rw [if_neg (by omega), if_neg (by omega), if_neg h3]
      obtain ⟨h0, h1, h2⟩ := emptyPlan_spec s.dev
      rw [h]
      exact ⟨(num_send ..).trans h0, h1, h2, rfl⟩
  · obtain ⟨-, -, hv, hr⟩ := discard_admitted ha
    exact ⟨List.mem_cons_of_mem _ hv, fun h => (num_send ..).trans (hr h)⟩

/-! ### Verdicts (R345) -/

section
variable {s : State}

theorem completes_admissionDone_error {f : PlanFacts} {r : Refuse} (ha : s.dev.admState = 2)
    (hr : s.dev.checkPlan (s.dev.domOf 0x1300 1) (factsOf (s.dev.domOf 0x1300 1) f) = .error r) :
    Completes (.admissionDone f) s (fun d =>
      (d.num 0x1300 3 = 5 ∧ d.num 0x1300 4 = r.code ∧ Raised r.code s.dev d ∧ d.cad.stopped = true) ∧
      d.domOf 0x1300 5 = Device.refuseDetail { r with member := s.dev.devNo } ∧
      ∃ up, d.out.head? = some (.verdict r.code s.dev.devNo up)) := by
  refine completes_run_eq (c := .admissionDone f) (X := s.dev.refuseOwn r) (f := fun d =>
    if d.admState ≠ 2 then d
    else match d.checkPlan (d.domOf 0x1300 1) (factsOf (d.domOf 0x1300 1) f) with
      | .error r => d.refuseOwn r
      | .ok slack => admitNew d (d.domOf 0x1300 1) (factsOf (d.domOf 0x1300 1) f) slack) (fun _ => by unfold exec; exact rfl) ?_ ?_
  · rw [if_neg (not_not.2 ha), hr]
  · obtain ⟨hst, hcode, hra, hstop, hdet, hdev, -⟩ := refuse_spec s.dev { r with member := s.dev.devNo }
    unfold Device.refuseOwn
    refine ⟨⟨(num_send ..).trans hst, (num_send ..).trans hcode, hra, hstop⟩, hdet,
      !(fieldB (planSect (s.dev.domOf 0x1300 1) 2) 0x10 2 == s.dev.devNo), ?_⟩
    rw [out_send, List.head?_cons, hdev]

theorem refuseByOther_eq {d : Device} {code dev : Nat} (h1 : 1 ≤ d.admState) (h3 : d.admState ≤ 3) :
    d.refuseByOther code dev = d.refuse { code := code, member := dev } := if_pos ⟨h1, h3⟩

variable {pid : BitVec 64} {code : BitVec 16} {dev : BitVec 12}

/-- R345, R408: what a verdict on its way up, or down, does. -/
def verdictTaken (c m : Nat) (down : Bool) (d : Device) : Device :=
  if down then
    if d.isMaster || (m = d.devNo && c != 0xA00E) then d else d.refuseByOther (if c = 0xA00E then c else 0xA00F) m
  else if d.num 0x1200 1 = 0 ∨ d.num 0x1200 1 = 2 then d
  else if c = 0xA00F then { d with adm := { d.adm with withdrawn := some m } }
  else
    let first := d.adm.verdicts.all (fun v => v.2 == 0)
    let d := { d with adm := { d.adm with verdicts := d.adm.verdicts.filter (fun v => v.1 != m) ++ [(m, c)] } }
    if c = 0 then d.settleVerdicts
    else if first && d.admState != 5 then (d.send (.verdict c m false)).refuseByOther 0xA00F m
    else d

theorem completes_verdict {down : Bool} {P : Device → Prop} {X : Device}
    (hX : verdictTaken code.toNat dev.toNat down s.dev = X) (hP : P X) : Completes (.verdictReceive pid code dev down) s P :=
  completes_run_eq (c := .verdictReceive pid code dev down) (f := verdictTaken code.toNat dev.toNat down)
    (fun _ => by unfold exec; exact rfl) hX hP

theorem completes_verdict_good (hm : s.dev.num 0x1200 1 = 1) (hc : code.toNat = 0) (ha : s.dev.admState ≠ 3) :
    Completes (.verdictReceive pid code dev false) s (fun d =>
      d = { s.dev with adm := { s.dev.adm with
        verdicts := s.dev.adm.verdicts.filter (fun v => v.1 != dev.toNat) ++ [(dev.toNat, 0)] } }) := by
  refine completes_verdict ?_ rfl
  unfold verdictTaken
  rw [if_neg (by decide), if_neg (by omega), if_neg (by omega)]
  extract_lets first adm d1
  rw [if_pos hc]
  have hst : d1.admState ≠ 3 := by
    have h : d1.admState = s.dev.admState := num_of_dict_eq (by exact rfl) ..
    rwa [h]
  unfold Device.settleVerdicts
  rw [if_neg (by simp [hst])]
  show ({ s.dev with adm := _ } : Device) = _
  rw [hc]

theorem completes_verdict_bad (hm : s.dev.num 0x1200 1 = 1) (h0 : code.toNat ≠ 0) (hc : code.toNat ≠ 0xA00F)
    (hall : s.dev.adm.verdicts.all (fun v => v.2 == 0) = true) (h1 : 1 ≤ s.dev.admState) (h3 : s.dev.admState ≤ 3) :
    Completes (.verdictReceive pid code dev false) s (fun d =>
      (d.num 0x1300 3 = 5 ∧ d.num 0x1300 4 = 0xA00F ∧ Raised 0xA00F s.dev d ∧ d.cad.stopped = true) ∧
        .verdict code.toNat dev.toNat false ∈ d.out) := by
  have hX : ∃ adm : AdmS, verdictTaken code.toNat dev.toNat false s.dev =
      (({ s.dev with adm := adm } : Device).send (.verdict code.toNat dev.toNat false)).refuse { code := 0xA00F, member := dev.toNat } := by
    unfold verdictTaken
    rw [if_neg (by decide), if_neg (by omega), if_neg hc]
    extract_lets first adm d1
    have hst : d1.admState = s.dev.admState := num_of_dict_eq (by exact rfl) ..
    have hst' (m : OutMsg) : (d1.send m).admState = s.dev.admState := (num_send ..).trans hst
    rw [if_neg h0, if_pos (by simp [first, hall, hst]; omega), refuseByOther_eq (by rw [hst']; exact h1) (by rw [hst']; exact h3)]
    exact ⟨_, rfl⟩
  obtain ⟨adm, hX⟩ := hX
  refine completes_verdict hX ?_
  obtain ⟨hst, hcode, hra, hstop, -, -, hout⟩ :=
    refuse_spec (({ s.dev with adm := adm } : Device).send (.verdict code.toNat dev.toNat false)) { code := 0xA00F, member := dev.toNat }
  exact ⟨⟨hst, hcode, hra, hstop⟩, hout _ (List.mem_cons_self ..)⟩

theorem completes_verdict_down (hm : s.dev.isMaster = false) (hd : dev.toNat ≠ s.dev.devNo)
    (h1 : 1 ≤ s.dev.admState) (h3 : s.dev.admState ≤ 3) :
    Completes (.verdictReceive pid code dev true) s (fun d => d.num 0x1300 3 = 5 ∧
      d.num 0x1300 4 = (if code.toNat = 0xA00E then 0xA00E else 0xA00F) ∧
      Raised (if code.toNat = 0xA00E then 0xA00E else 0xA00F) s.dev d ∧ d.cad.stopped = true) := by
  have hcode : (if code.toNat = 0xA00E then code.toNat else 0xA00F) = if code.toNat = 0xA00E then 0xA00E else 0xA00F := by
    split <;> omega
  refine completes_verdict (X := s.dev.refuse { code := if code.toNat = 0xA00E then 0xA00E else 0xA00F, member := dev.toNat }) ?_ ?_
  · unfold verdictTaken
    rw [if_pos rfl, if_neg (by simp [hm, hd]), refuseByOther_eq h1 h3, hcode]
  · obtain ⟨hst, hcd, hra, hstop, -⟩ := refuse_spec s.dev { code := if code.toNat = 0xA00E then 0xA00E else 0xA00F, member := dev.toNat }
    exact ⟨hst, hcd, hra, hstop⟩

/-- R344: how an admission that is too late ends. -/
def lateAdmission (d : Device) : Device :=
  if d.admState ≠ 3 || !admittedLate d then d
  else match d.isMaster, d.adm.withdrawn with
    | true, some m => d.refuse { code := 0xA00F, member := m }
    | _, _ => d.refuse { code := 0xA00E, member := d.devNo }

theorem lateAdmission_eq {d : Device} (ha : d.admState = 3) (hl : admittedLate d = true) :
    ∃ m, lateAdmission d = d.refuse { code := if d.isMaster = true ∧ d.adm.withdrawn ≠ none then 0xA00F else 0xA00E, member := m } := by
  unfold lateAdmission
  rw [if_neg (by simp [ha, hl])]
  cases hm : d.isMaster with
  | false => exact ⟨d.devNo, by rw [if_neg (by simp)]⟩
  | true =>
    cases hw : d.adm.withdrawn with
    | none => exact ⟨d.devNo, by rw [if_neg (by simp)]⟩
    | some m => exact ⟨m, by rw [if_pos (by simp)]⟩

theorem completes_admittedTimeout (ha : s.dev.admState = 3) (hl : admittedLate s.dev = true) :
    Completes .admittedTimeout s (fun d => d.num 0x1300 3 = 5 ∧
      d.num 0x1300 4 = (if s.dev.isMaster = true ∧ s.dev.adm.withdrawn ≠ none then 0xA00F else 0xA00E) ∧
      Raised (if s.dev.isMaster = true ∧ s.dev.adm.withdrawn ≠ none then 0xA00F else 0xA00E) s.dev d ∧ d.cad.stopped = true) := by
  obtain ⟨m, hX⟩ := lateAdmission_eq ha hl
  refine completes_run_eq (c := .admittedTimeout) (f := lateAdmission) (fun _ => by unfold exec; exact rfl) hX ?_
  obtain ⟨hst, hcd, hra, hstop, -⟩ := refuse_spec s.dev
    { code := if s.dev.isMaster = true ∧ s.dev.adm.withdrawn ≠ none then 0xA00F else 0xA00E, member := m }
  exact ⟨hst, hcd, hra, hstop⟩

end

/-! ### STOP (R428) -/

/-- What a halted run shows, from a state other than LOST. -/
theorem haltRun_spec {d : Device} (h : d.runState ≠ 4) :
    d.haltRun.num 0x1100 1 = 1 ∧ d.haltRun.num 0x1300 3 = 1 ∧ d.haltRun.cad.stopped = true := by
  unfold Device.haltRun
  extract_lets d1 d2
  have hrun : d1.runState ≠ 4 := by
    have h1 : d1.runState = d.runState :=
      (num_setNum_other _ _ (by decide) (by omega)).trans ((num_setNum_other _ _ (by decide) (by omega)).trans (runState_finishHold d))
    rwa [h1]
  have h2 : d2 = d1.setNum 0x1100 1 0 1 := if_neg hrun
  have hfin (c : CadS) (a : AdmS) (i s : Nat) : ({ d2 with cad := c, adm := a } : Device).num i s = d2.num i s :=
    num_of_dict_eq (d := d2) (e := { d2 with cad := c, adm := a }) rfl ..
  refine ⟨?_, ?_, rfl⟩
  · rw [hfin, h2, Device.num_setNum_same]
  · rw [hfin, h2, num_setNum_other _ _ (by decide) (by omega)]
    exact (num_setNum_other _ _ (by decide) (by omega)).trans (Device.num_setNum_same ..)

theorem completes_stop {s : State} {c : Conn} (hst : s.dev.valueStatus c 0x1100 2 0 1 = stOK) :
    Completes (.stop c) s (fun d =>
      (s.dev.runState ≠ 2 → d = { s.dev with out := .answer 0x1100 2 0 stState :: s.dev.out }) ∧
      (s.dev.runState = 2 → d.out.head? = some (.answer 0x1100 2 0 stOK) ∧
        let n := s.dev.num 0x1100 3 % 2 ^ 48
        if s.dev.admState = 3 ∧ posDiff n 0 s.dev.cad.s0 0 < 0 then d.num 0x1100 1 = 1 ∧ d.num 0x1300 3 = 1
        else d.num 0x1100 1 = 3 ∧ d.cad.stopStep = some (if posDiff n 0 s.dev.cad.step 0 < 0 then s.dev.cad.step else n))) := by
  refine completes_viaObject (c := .stop c) (hook := stopHook) (fun _ => by unfold exec; exact rfl) hst ⟨fun h => ?_, fun h => ?_⟩
  · have hh : stopHook s.dev = (s.dev, stState) := if_pos h
    rw [hh]
    rfl
  · have h4 : s.dev.runState ≠ 4 := by omega
    by_cases hb : s.dev.admState = 3 ∧ posDiff (s.dev.num 0x1100 3 % 2 ^ 48) 0 s.dev.cad.s0 0 < 0
    · have hh : stopHook s.dev = (s.dev.haltRun, stOK) := by
        unfold stopHook
        rw [if_neg (not_not.2 h)]
        exact if_pos hb
      obtain ⟨h1, h3, -⟩ := haltRun_spec h4
      rw [hh]
      refine ⟨rfl, ?_⟩
      rw [if_pos hb, num_send, num_send]
      exact ⟨h1, h3⟩
    · have hh : stopHook s.dev = ({ s.dev.setNum 0x1100 1 0 3 with cad := { s.dev.cad with
          stopStep := some (if posDiff (s.dev.num 0x1100 3 % 2 ^ 48) 0 s.dev.cad.step 0 < 0 then s.dev.cad.step
            else s.dev.num 0x1100 3 % 2 ^ 48) } }, stOK) := by
        unfold stopHook
        rw [if_neg (not_not.2 h)]
        refine (if_neg hb).trans ?_
        rw [setRun_of h4]
        simp only [Device.setNum_cad]
      rw [hh]
      refine ⟨rfl, ?_⟩
      rw [if_neg hb]
      exact ⟨(num_of_dict_eq (by exact rfl) ..).trans (Device.num_setNum_same ..), rfl⟩

end Sys2Proof.Machine

/-! PROOFS. ABORT (R428) and the admission of a plan (R343, R345). -/

namespace Sys2Proof.Machine

/-! ### ABORT (R428) -/

theorem get_map_values {α : Type} (dflt : α) (f : α → α) (hf : f dflt = dflt) (m : Map α) (k : Nat) :
    Map.get dflt (m.map (fun e => (e.1, f e.2))) k = f (Map.get dflt m k) := by
  induction m with
  | nil => simp [Map.get_nil, hf]
  | cons x m ih =>
    rw [List.map_cons, Map.get_cons, Map.get_cons, ih]
    split <;> rfl

/-- Memory, and the work that a core, a stream engine and a sequencer have. -/
structure SameWork (d e : Device) : Prop where
  mem : e.mem = d.mem
  movq : e.movq = d.movq
  seqs : e.seqs = d.seqs
  thr : ∀ g, (e.core g).thr = (d.core g).thr
  moveq : ∀ g, (e.core g).moveq = (d.core g).moveq
  engq : ∀ g, (e.core g).engq = (d.core g).engq

namespace SameWork

theorem trans {d e f : Device} (h : SameWork d e) (h' : SameWork e f) : SameWork d f :=
  ⟨h'.mem.trans h.mem, h'.movq.trans h.movq, h'.seqs.trans h.seqs, fun g => (h'.thr g).trans (h.thr g),
    fun g => (h'.moveq g).trans (h.moveq g), fun g => (h'.engq g).trans (h.engq g)⟩

theorem of_cores {d e : Device} (hm : e.mem = d.mem) (hq : e.movq = d.movq) (hs : e.seqs = d.seqs) (hc : e.cores = d.cores) :
    SameWork d e := by
  have hcore (g : Nat) : e.core g = d.core g := core_of_cores_eq hc g
  exact ⟨hm, hq, hs, fun g => by rw [hcore], fun g => by rw [hcore], fun g => by rw [hcore]⟩

theorem setNum (d : Device) (i s k v : Nat) : SameWork d (d.setNum i s k v) :=
  of_cores (by simp) (by simp) (by simp) (by simp)

theorem addNum (d : Device) (i s k v : Nat) : SameWork d (d.addNum i s k v) :=
  of_cores (by simp) (by simp) (by simp) (by simp)

theorem taint (d : Device) (c : Nat) : SameWork d (d.taint c) :=
  of_cores (by simp) (by simp) (by simp) (by simp)

theorem cad (d : Device) (c : CadS) (a : AdmS) : SameWork d { d with cad := c, adm := a } := of_cores rfl rfl rfl rfl

theorem shiftBases (d : Device) (ns : Nat) : SameWork d (d.shiftBases ns) := by
  obtain ⟨F, hF, hcores⟩ : ∃ F : CoreS → CoreS,
      (∀ c, (F c).thr = c.thr ∧ (F c).moveq = c.moveq ∧ (F c).engq = c.engq ∧ (F {}) = {}) ∧
      (d.shiftBases ns).cores = d.cores.map (fun e => (e.1, F e.2)) :=
    ⟨fun c => { c with groups := c.groups.map (fun y =>
      (y.1, if d.absPos + 1 < y.2.basePos then { y.2 with baseNs := y.2.baseNs + ns } else y.2)) }, fun _ => ⟨rfl, rfl, rfl, rfl⟩, rfl⟩
  have hcore (g : Nat) : (d.shiftBases ns).core g = F (d.core g) := by
    unfold Device.core
    rw [hcores]
    exact get_map_values _ F (hF {}).2.2.2 ..
  refine ⟨rfl, rfl, rfl, fun g => ?_, fun g => ?_, fun g => ?_⟩ <;> rw [hcore]
  · exact (hF _).1
  · exact (hF _).2.1
  · exact (hF _).2.2.1

theorem finishHold (d : Device) : SameWork d d.finishHold := by
  unfold Device.finishHold
  split
  · exact (shiftBases d _).trans ((cad _ _ _).trans (addNum ..))
  · exact cad ..

theorem haltRun (d : Device) : SameWork d d.haltRun := by
  unfold Device.haltRun
  extract_lets d1 d2
  have h1 : SameWork d d1 := (finishHold d).trans ((setNum ..).trans (setNum ..))
  have h2 : SameWork d1 d2 := by
    by_cases h : d1.runState = 4
    · rw [show d2 = d1 from if_pos h]
      exact of_cores rfl rfl rfl rfl
    · rw [show d2 = d1.setNum 0x1100 1 0 1 from if_neg h]
      exact setNum ..
  exact h1.trans (h2.trans (cad ..))

end SameWork

theorem sq_setSq (d : Device) (q p : Nat) (x : SqS) : (d.setSq q x).sq p = if p = q then x else d.sq p := by
  by_cases h : p = q
  · rw [if_pos h, h]
    exact Map.get_set_same ..
  · rw [if_neg h]
    exact Map.get_set_ne _ _ _ (Ne.symm h)

theorem sq_forN_idle (d : Device) {k q : Nat} (hq : q < k) :
    ((forN k d (fun d q => d.setSq q { d.sq q with st := .idle, pend := 0 })).sq q).st = .idle := by
  induction k with
  | zero => omega
  | succ k ih =>
    rw [forN_succ, sq_setSq]
    by_cases h : q = k
    · rw [if_pos h]
    · rw [if_neg h]
      exact ih (by omega)

/-- No work is left when all queues are empty. -/
theorem work_emptied (n m k : Nat) (d : Device) : (emptied n m k d).movq = [] ∧ (∀ q, q < k → ((emptied n m k d).sq q).st = .idle) ∧
    ∀ g, g < n → ((emptied n m k d).core g).thr = [] ∧ ((emptied n m k d).core g).moveq = [] ∧ ((emptied n m k d).core g).engq = [] := by
  refine ⟨rfl, fun q hq => ?_, fun g hg => ?_⟩
  · unfold emptied
    exact sq_forN_idle _ hq
  · obtain ⟨F, hF, hcores⟩ : ∃ F : CoreS → CoreS, (∀ c, (F c).thr = [] ∧ (F c).moveq = [] ∧ (F c).engq = []) ∧
        (emptied n m k d).cores = (forN n d (fun d g => d.modCore g F)).cores := by
      refine ⟨fun c => { c with
        thr := [], engq := [], moveq := [], watch := [], groups := [], armed := [], lack := [], again := [] },
        fun _ => ⟨rfl, rfl, rfl⟩, ?_⟩
      have hctx (e : Device) : e.loseContexts.cores = e.cores := rfl
      unfold emptied
      dsimp only
      refine (forN_same Device.cores ?_ k _).trans ((hctx _).trans (forN_same Device.cores ?_ m _)) <;> exact fun _ _ => rfl
    rw [core_of_cores_eq hcores, core_forN_modCore, if_pos hg]
    exact hF _

theorem runState_taint (d : Device) (c : Nat) : (d.taint c).runState = d.runState := by
  by_cases h : d.num 0x1401 1 = 1
  · rw [show d.taint c = d from if_pos h]
  · have hX : d.taint c = (((taintRecorded d c).countEvent 0x2207 0).raiseRaw 0x2207 0 0 c 0).send
        (.taint (((taintRecorded d c).countEvent 0x2207 0).raiseRaw 0x2207 0 0 c 0).cad.step
          (((taintRecorded d c).countEvent 0x2207 0).raiseRaw 0x2207 0 0 c 0).devNo c) := if_neg h
    have hctr : okey (homeIdx 0x1100) 1 0 ∉ ((evRow 0x2207).ctr.map (fun c => (c.1, c.2, if objInsts c.1 = 0 then 0 else 0))).map
        (fun o => okey (homeIdx o.1) o.2.1 o.2.2) := by
      with_unfolding_all decide
    rw [hX, Device.runState, num_send]
    refine (runState_raiseRaw (by with_unfolding_all decide) (by decide) _ _ _ _).trans ?_
    refine (KeepsObjects.num (keeps_countEvent _ 0x2207 0) _ _ _ hctr).trans ?_
    refine (num_of_dict_eq (d := ((d.setNum 0x1401 1 0 1).setNum 0x1401 2 0 c).setNum 0x1401 3 0
      ((d.setNum 0x1401 1 0 1).setNum 0x1401 2 0 c).cad.step) (e := taintRecorded d c) rfl ..).trans ?_
    rw [num_setNum_other _ _ (by decide) (by omega), num_setNum_other _ _ (by decide) (by omega), num_setNum_other _ _ (by decide) (by omega), Device.runState]

/-- R428: what ABORT leaves. -/
theorem abortRun_spec {d : Device} (c : Nat) (hr : d.runState ≠ 4) : SameWork d.emptyQueues (d.abortRun c) ∧
    (d.abortRun c).num 0x1100 1 = 1 ∧ (d.abortRun c).num 0x1300 3 = 1 ∧ (d.abortRun c).num 0x1401 1 = 1 ∧
    (d.abortRun c).cad.stopped = true ∧ (d.abortRun c).mem = d.mem := by
  obtain ⟨x, hx⟩ : ∃ x, x = d.emptyQueues := ⟨_, rfl⟩
  have hb : besideWork x = besideWork d := hx ▸ emptyQueues_beside d
  have hdict : x.dict = d.dict := congrArg (fun v => v.2.1) hb
  have hmem : x.mem = d.mem := congrArg (fun v => v.2.2.1) hb
  have hrun : (x.taint c).runState ≠ 4 := by
    rw [runState_taint]
    have h : x.runState = d.runState := num_of_dict_eq hdict ..
    rwa [h]
  obtain ⟨h1, h3, hs⟩ := haltRun_spec hrun
  have hsame : SameWork x (x.taint c).haltRun := (SameWork.taint x c).trans (SameWork.haltRun _)
  have hX : d.abortRun c = (x.taint c).haltRun := by rw [hx]; rfl
  rw [hX, ← hx]
  refine ⟨hsame, h1, h3, ?_, hs, hsame.mem.trans hmem⟩
  refine Eq.trans ?_ (num_taint_one x c)
  unfold Device.haltRun
  extract_lets d1 d2
  have hd1 : d1.num 0x1401 1 = (x.taint c).num 0x1401 1 :=
    (num_setNum_other _ _ (by decide) (by omega)).trans ((num_setNum_other _ _ (by decide) (by omega)).trans (num_finishHold _ (by decide) (by decide) (by decide)))
  refine (num_of_dict_eq (d := d2) (by exact rfl) ..).trans (Eq.trans ?_ hd1)
  by_cases h : d1.runState = 4
  · rw [show d2 = d1 from if_pos h]
  · rw [show d2 = d1.setNum 0x1100 1 0 1 from if_neg h, num_setNum_other _ _ (by decide) (by omega)]

theorem completes_abort {s : State} {c : Conn} (hst : s.dev.valueStatus c 0x1100 2 0 2 = stOK) :
    Completes (.abort c) s (fun d =>
      (s.dev.runState ≠ 2 → d = { s.dev with out := .answer 0x1100 2 0 stState :: s.dev.out }) ∧
      (s.dev.runState = 2 → d.out.head? = some (.answer 0x1100 2 0 stOK) ∧ d.num 0x1100 1 = 1 ∧ d.num 0x1300 3 = 1 ∧ d.num 0x1401 1 = 1 ∧
        d.mem = s.dev.mem ∧ d.cad.stopped = true ∧ (∀ se, d.moves se = []) ∧ (∀ q, q < 673 → (d.sq q).st = .idle) ∧
        ∀ g, g < 1536 → (∀ t, (d.thread g t).st = .free) ∧ (d.core g).moveq = [] ∧ ∀ e, (d.core g).queue e = [])) := by
  refine completes_viaObject (c := .abort c) (hook := abortHook) (fun _ => by unfold exec; exact rfl) hst ⟨fun h => ?_, fun h => ?_⟩
  · have hh : abortHook s.dev = (s.dev, stState) := if_pos h
    rw [hh]
    rfl
  · have hh : abortHook s.dev = (s.dev.abortRun 0, stOK) := if_neg (not_not.2 h)
    obtain ⟨⟨-, hmovq, hseqs, hthr, hmoveq, hengq⟩, h1, h3, ht, hstop, hmem⟩ := abortRun_spec (d := s.dev) 0 (by omega)
    rw [emptyQueues_eq] at hmovq hseqs hthr hmoveq hengq
    obtain ⟨wmovq, wsq, wcore⟩ := work_emptied 1536 96 673 s.dev
    rw [hh]
    generalize s.dev.abortRun 0 = x at *
    refine ⟨rfl, (num_send ..).trans h1, (num_send ..).trans h3, (num_send ..).trans ht, hmem, hstop, fun se => ?_, fun q hq => ?_,
      fun g hg => ?_⟩
    · show Map.get [] x.movq se = []
      rw [hmovq, wmovq, Map.get_nil]
    · have h : (x.send (.answer 0x1100 2 0 stOK)).sq q = (emptied 1536 96 673 s.dev).sq q := by
        show Map.get {} x.seqs q = _
        rw [hseqs]
        rfl
      dsimp only
      rw [h]
      exact wsq q hq
    · obtain ⟨w1, w2, w3⟩ := wcore g hg
      refine ⟨fun t => ?_, (hmoveq g).trans w2, fun e => ?_⟩
      · show (Map.get {} (x.core g).thr t).st = .free
        rw [hthr, w1, Map.get_nil]
      · show Map.get [] (x.core g).engq e = []
        rw [hengq, w3, Map.get_nil]

end Sys2Proof.Machine

/-! PROOFS. The admission of a plan (R343, R345). -/

namespace Sys2Proof.Machine

/-! ### What the end of an admission leaves alone -/

/-- What admission settles for the run: its state, the position of S0, the role, the master, the period; and the device's number. -/
def admView (d : Device) : AdmS × Nat × Nat × Nat × Nat × Nat × Nat :=
  (d.adm, d.cad.s0, Map.get (objDefault 0x1300 3 0) d.dict.num (okey (homeIdx 0x1300) 3 0),
    Map.get (objDefault 0x1200 1 0) d.dict.num (okey (homeIdx 0x1200) 1 0),
    Map.get (objDefault 0x1200 3 0) d.dict.num (okey (homeIdx 0x1200) 3 0),
    Map.get (objDefault 0x1200 4 0) d.dict.num (okey (homeIdx 0x1200) 4 0),
    Map.get (objDefault 0x1010 9 0) d.dict.num (okey (homeIdx 0x1010) 9 0))

theorem admView_eq (d : Device) :
    admView d = (d.adm, d.cad.s0, d.num 0x1300 3, d.num 0x1200 1, d.num 0x1200 3, d.num 0x1200 4, d.devNo) := by
  unfold Device.devNo Device.num
  rfl

/-- The objects of `admView`. -/
def admObjs : List (Nat × Nat) := [(0x1300, 3), (0x1200, 1), (0x1200, 3), (0x1200, 4), (0x1010, 9)]

theorem admObjs_lt : ∀ o ∈ admObjs, homeIdx o.1 ≤ 0x1300 ∧ o.2 < 256 := by decide

theorem admView_of {d e : Device} (ha : e.adm = d.adm) (hc : e.cad = d.cad) (hn : ∀ o ∈ admObjs, e.num o.1 o.2 = d.num o.1 o.2) :
    admView e = admView d := by
  have h1 := hn (0x1300, 3) (by decide)
  have h2 := hn (0x1200, 1) (by decide)
  have h3 := hn (0x1200, 3) (by decide)
  have h4 := hn (0x1200, 4) (by decide)
  have h5 : e.devNo = d.devNo := hn (0x1010, 9) (by decide)
  rw [admView_eq, admView_eq, ha, hc, h5]
  exact congrArg _ (congrArg _ (by rw [h1, h2, h3, h4]))

namespace AdmView

theorem setNum_high (d : Device) {i : Nat} (s k x : Nat) (h : 0x1300 < homeIdx i) : admView (d.setNum i s k x) = admView d :=
  admView_of (Device.setNum_adm ..) (Device.setNum_cad ..) fun o ho =>
    Device.num_setNum_ne _ _ (okey_ne_of_lt (Nat.lt_of_le_of_lt (admObjs_lt o ho).1 h) (admObjs_lt o ho).2 (by decide))

theorem setNum_other (d : Device) {i s : Nat} (x : Nat) (h : ∀ o ∈ admObjs, homeIdx i ≠ homeIdx o.1) (hs : s < 256) :
    admView (d.setNum i s 0 x) = admView d :=
  admView_of (Device.setNum_adm ..) (Device.setNum_cad ..) fun o ho => by
    have hlt := (admObjs_lt o ho).2
    exact num_setNum_other _ _ (h o ho) (by omega)

theorem rest (d : Device) (mem : Map Byte) (evt : EvtS) (cores : Map CoreS) (seqs : Map SqS) (out : List OutMsg) (age : AgeS) (hv : HvS)
    (alert : Bool) (pwr : PwrS) (bg : BgS) (link : LinkS) :
    admView { d with mem := mem, evt := evt, cores := cores, seqs := seqs, out := out, age := age, hv := hv, alert := alert, pwr := pwr,
                     bg := bg, link := link } = admView d := rfl

theorem setDom (d : Device) (i s k : Nat) (v : List Byte) : admView (d.setDom i s k v) = admView d := rfl

theorem send (d : Device) (m : OutMsg) : admView (d.send m) = admView d := rfl

theorem raise (d : Device) {code : Nat} (ua ui a b : Nat) (hc : code / 4096 < 256) (he : ∀ o ∈ admObjs, eventKeeps code o.1 = true)
    (h : ((evRow code).ctr ++ (evRow 0x2207).ctr).all (fun c => objInsts c.1 == 0) = true) :
    admView (d.raise code ua ui a b) = admView d := by
  refine admView_of (Device.raise_adm ..) (Device.raise_cad ..) fun o ho => (keeps_raise d code ua ui a b).num _ _ _ ?_
  rw [eventObjs_of_plain ui h]
  exact not_mem_eventObjs (he o ho) hc (admObjs_lt o ho).2 (by decide) (by decide)

theorem ofClock {d e : Device} (h : ClockOnly d e) : admView e = admView d := by
  have hf := congrArg (fun x : Device => (x.adm, x.cad)) h.beside
  have hne : ∀ o ∈ admObjs, homeIdx o.1 ≠ 0x1602 ∧ homeIdx o.1 ≠ 0x1600 := by decide
  exact admView_of (congrArg Prod.fst hf) (congrArg Prod.snd hf) fun o ho =>
    h.num _ _ _ (hne o ho).1 (hne o ho).2 (admObjs_lt o ho).2 (by decide)

theorem power : IgnoresPower admView := ⟨fun _ _ => rfl, fun _ _ => rfl, fun _ _ _ _ => setNum_high _ _ _ _ (by decide)⟩

theorem wakeUsed (d : Device) : admView d.wakeUsed = admView d := by
  have hreq (e : Device) (i w src : Nat) : admView (e.pdRequest i w src).1 = admView e :=
    power.pdRequest (fun _ _ _ => raise _ _ _ _ _ (by decide) (by with_unfolding_all decide) (by with_unfolding_all decide)) ..
  unfold Device.wakeUsed
  exact forN_same admView (fun _ _ => by exact view_ite (hreq ..) rfl) _ d

theorem raiseFloor (d : Device) {die : Nat} (hd : die < 4) : admView (d.raiseFloor die) = admView d :=
  view_ite ((ofClock (.dvKick _ hd)).trans (setNum_high _ _ _ _ (by decide))) rfl

theorem recomputeTree (d : Device) : admView d.recomputeTree = admView d := by
  have h1 : 0x1300 < homeIdx 0x1700 := by decide
  have hsend (e : Device) (n : Nat) : admView (e.sendPathlat n) = admView e := by
    unfold Device.sendPathlat
    exact forN_same admView (fun _ _ => by exact view_ite rfl rfl) 12 e
  exact view_ite ((hsend ..).trans ((setNum_high _ _ _ _ h1).trans ((setNum_high _ _ _ _ h1).trans (setNum_high _ _ _ _ h1))))
    ((setNum_high _ _ _ _ h1).trans (setNum_high _ _ _ _ h1))

theorem applyMargin (d : Device) {die : Nat} (b : Bool) (hd : die < 4) : admView (d.applyMargin die b) = admView d := by
  have hfmax (e : Device) : admView (e.applyFmax die) = admView e := by
    have h3 : 0x1300 < homeIdx 0x1603 := by decide
    have hlow (x : Device) : admView (if Device.fmaxOf (e.vplans die) < e.num 0x1603 (die + 1) && Device.fmaxOf (e.vplans die) < 1100 then
        (x.setNum 0x1603 (die + 1) 0 (Device.fmaxOf (e.vplans die))).raise 0x600C 0x70C1 (die + 1) (die + 1) 0
        else x.setNum 0x1603 (die + 1) 0 (Device.fmaxOf (e.vplans die))) = admView x :=
      view_ite ((raise _ _ _ _ _ (by decide) (by with_unfolding_all decide) (by with_unfolding_all decide)).trans (setNum_high _ _ _ _ h3))
        (setNum_high _ _ _ _ h3)
    unfold Device.applyFmax
    dsimp only
    exact view_ite ((send ..).trans ((setNum_other _ _ (by decide) (by decide)).trans (hlow e)))
      (view_ite ((setNum_high _ _ _ _ (by decide)).trans (hlow e)) (hlow e))
  unfold Device.applyMargin
  split
  · rfl
  · refine view_ite rfl (view_ite ?_ ((ofClock (.dvKick _ hd)).trans ?_)) <;>
      exact (hfmax _).trans ((raise _ _ _ _ _ (by decide) (by with_unfolding_all decide) (by with_unfolding_all decide)).trans ((rest ..).trans rfl))

theorem startRun (d : Device) : admView d.startRun = admView d := by
  unfold Device.startRun
  exact view_ite (forN_same admView (f := fun d g => d.modCore g _) (fun _ _ => rfl) ..) rfl

theorem reportBackward (d : Device) (w : PlanView) : admView (d.reportBackward w) = admView d := by
  have h : 0x1300 < homeIdx 0x1920 := by decide
  exact (setNum_high _ _ _ _ h).trans ((setNum_high _ _ _ _ h).trans ((setNum_high _ _ _ _ h).trans ((setNum_high _ _ _ _ h).trans
    ((setNum_high _ _ _ _ h).trans (setNum_high _ _ _ _ h)))))

theorem addNum_high (d : Device) {i : Nat} (s k x : Nat) (h : 0x1300 < homeIdx i) : admView (d.addNum i s k x) = admView d := by
  unfold Device.addNum
  exact setNum_high _ _ _ _ h

theorem setRun (d : Device) (x : Nat) : admView (d.setRun x) = admView d := view_ite rfl (setNum_other _ _ (by decide) (by decide))

end AdmView

/-! ### What the sections of a plan do not touch -/

theorem adm_loadPlan (d : Device) (f : PlanFacts) : (d.loadPlan f).adm = d.adm := by
  have hstore (e : Device) (a n x : Nat) : (e.store a n x).adm = e.adm := rfl
  have hframe (e : Device) (g n : Nat) (x : Frame) : (e.setFrame g n x).adm = e.adm := rfl
  have hdefer (e : Device) (x : Nat × Nat × Bool × Bool) : (e.deferScale x).adm = e.adm :=
    (hstore ..).trans ((view_ite (v := Device.adm) (hstore ..) rfl).trans (view_ite (v := Device.adm) (hstore ..) rfl))
  have hmark (e : Device) (p : PlanCarousel) : (e.markCarousel p).adm = e.adm := by
    unfold Device.markCarousel
    refine Device.foldl_same Device.adm _ (fun e m => ?_) _ _
    exact (hframe ..).trans (forN_same Device.adm (f := fun d i => d.setFrame _ _ _) (fun _ _ => rfl) p.share e)
  unfold Device.loadPlan
  extract_lets d1 d2 d3 d4 d5 d6 d7
  have h1 : d1.adm = d.adm := Device.foldl_same Device.adm _ (fun _ _ => by exact view_ite rfl rfl) _ _
  have h2 : d2.adm = d.adm := (forN_same Device.adm (fun _ _ => by exact view_ite rfl rfl) ..).trans h1
  have h3 : d3.adm = d.adm := (Device.foldl_same Device.adm _ (fun _ _ => by exact Device.setNum_adm ..) _ _).trans h2
  have h4 : d4.adm = d.adm := (Device.foldl_same Device.adm _ (fun _ _ => by exact view_ite rfl rfl) _ _).trans h3
  have h5 : d5.adm = d.adm := (Device.foldl_same Device.adm (fun d (b : PlanBytes) => d.put b.addr b.data) (fun _ _ => rfl) _ _).trans h4
  have h6 : d6.adm = d.adm := (Device.foldl_same Device.adm _ hdefer _ _).trans
    ((Device.foldl_same Device.adm (Device.setReserve f) (fun _ _ => rfl) _ _).trans h5)
  have hnone (e : Device) : (forN 96 e (fun d k => d.modClu k (fun c => { c with carousels := [] }))).adm = e.adm :=
    forN_same Device.adm (f := fun d k => d.modClu k _) (fun _ _ => rfl) ..
  have h7 : d7.adm = d.adm := by
    refine Eq.trans ?_ h6
    unfold d7 Device.loadCarousels
    refine (Device.foldl_same Device.adm _ (fun e m => ?_) _ _).trans (Eq.trans rfl (hnone d6))
    exact (hmark ..).trans rfl
  exact (forN_same Device.adm (f := fun d g => d.modCore g _) (fun _ _ => rfl) ..).trans h7

/-! ### A plan that is admitted (R343, R345) -/

theorem adm_cad_send (d : Device) (m : OutMsg) : (d.send m).adm = d.adm ∧ (d.send m).cad = d.cad := ⟨rfl, rfl⟩

/-- R345: what an admitted plan shows on a device that is not its master. -/
theorem admitPlan_spec {d : Device} (im : List Byte) (h : PlanHdr) (f : PlanFacts) (slack : List Nat)
    (hs0 : d.adm.restoreS0 = none) (hm : d.devNo ≠ h.master) :
    let e := d.admitPlan im h f slack
    e.num 0x1300 3 = 3 ∧ e.adm.plan = some h ∧ e.adm.facts = some f ∧ e.cad.s0 = h.s0 ∧ e.num 0x1200 4 = h.period ∧
      e.num 0x1200 3 = h.master ∧ e.num 0x1200 1 = (if d.devNo = h.backup then 2 else 0) ∧ .verdict 0 d.devNo true ∈ e.out := by
  dsimp only
  have hrole : (if d.devNo = h.master then 1 else if d.devNo = h.backup then 2 else 0) = if d.devNo = h.backup then 2 else 0 := if_neg hm
  unfold Device.admitPlan
  extract_lets s0 role d0 d1 d2 d3 d4 d5 d6 d7 d8 d9 c a d10 c' d11 d12
  have hr1 : role ≠ 1 := by
    show (if d.devNo = h.master then 1 else if d.devNo = h.backup then 2 else 0) ≠ 1
    rw [hrole]
    split <;> decide
  have hs : s0 = h.s0 := by
    show d.adm.restoreS0.getD h.s0 = h.s0
    rw [hs0, Option.getD_none]
  have h2 : admView d2 = admView d := forN_same_lt admView (fun e i hi => AdmView.applyMargin e true hi) d1
  have hdev2 : d2.devNo = d.devNo := by
    rw [admView_eq, admView_eq] at h2
    exact congrArg (fun x => x.2.2.2.2.2.2) h2
  have h3 : admView d3 = admView (d2.startRun.setNum 0x1300 3 0 3) := AdmView.setRun ..
  have h7 : admView d7 = admView d3 := by
    have h1 : 0x1300 < homeIdx 0x1303 := by decide
    have h4 : admView d4 = admView d3 := (AdmView.setDom ..).trans (AdmView.addNum_high _ _ _ _ h1)
    have h5 : admView d5 = admView d3 := (forN_same admView (fun _ _ => AdmView.setNum_high _ _ _ _ (by decide)) ..).trans h4
    have h6 : admView d6 = admView d3 := (AdmView.reportBackward ..).trans ((AdmView.setNum_high _ _ _ _ (by decide)).trans h5)
    have ho (e : Device) (s x : Nat) (hs : s < 256) : admView (e.setNum 0x1210 s 0 x) = admView e :=
      AdmView.setNum_other _ _ (by decide) hs
    exact (ho _ _ _ (by decide)).trans ((ho _ _ _ (by decide)).trans ((ho _ _ _ (by decide)).trans ((ho _ _ _ (by decide)).trans h6)))
  obtain ⟨hst7, hdev7⟩ : d7.num 0x1300 3 = 3 ∧ d7.devNo = d.devNo := by
    have hv := h7.trans h3
    have hst := AdmView.startRun d2
    rw [admView_eq, admView_eq] at hv hst
    simp only [Prod.mk.injEq] at hv hst
    obtain ⟨-, -, hstate, -, -, -, hdev⟩ := hv
    obtain ⟨-, -, -, -, -, -, hdevs⟩ := hst
    refine ⟨hstate.trans (Device.num_setNum_same ..), hdev.trans (Eq.trans ?_ (hdevs.trans hdev2))⟩
    exact num_setNum_other _ _ (by decide) (by omega)
  have h9 : d9.num 0x1300 3 = 3 ∧ d9.num 0x1200 1 = role ∧ d9.num 0x1200 3 = h.master ∧ d9.num 0x1200 4 = h.period ∧ d9.devNo = d.devNo := by
    have hlast : admView d9 = admView d8 := AdmView.setNum_high _ _ _ _ (by decide)
    have hsub (e : Device) {s k : Nat} (x : Nat) (hne : s ≠ k) (hs : s < 256) (hk : k < 256) :
        (e.setNum 0x1200 s 0 x).num 0x1200 k = e.num 0x1200 k := Device.num_setNum_ne _ _ (okey_ne_sub hne (by omega))
    have hidx (e : Device) {i s k : Nat} (x : Nat) (hne : homeIdx 0x1200 ≠ homeIdx i) (hs : s < 256) (hk : k < 256) :
        (e.setNum 0x1200 s 0 x).num i k = e.num i k := num_setNum_other _ _ hne (by omega)
    rw [admView_eq, admView_eq] at hlast
    simp only [Prod.mk.injEq] at hlast
    obtain ⟨-, -, l1, l2, l3, l4, l5⟩ := hlast
    refine ⟨l1.trans ?_, l2.trans ?_, l3.trans ?_, l4.trans ?_, l5.trans ?_⟩
    · exact (hidx _ _ (by decide) (by decide) (by decide)).trans ((hidx _ _ (by decide) (by decide) (by decide)).trans
        ((hidx _ _ (by decide) (by decide) (by decide)).trans hst7))
    · exact (hsub _ _ (by decide) (by decide) (by decide)).trans (Device.num_setNum_same ..)
    · exact Device.num_setNum_same ..
    · exact (hsub _ _ (by decide) (by decide) (by decide)).trans ((hsub _ _ (by decide) (by decide) (by decide)).trans
        (Device.num_setNum_same ..))
    · exact (hidx _ _ (by decide) (by decide) (by decide)).trans ((hidx _ _ (by decide) (by decide) (by decide)).trans
        ((hidx _ _ (by decide) (by decide) (by decide)).trans hdev7))
  obtain ⟨n1, n2, n3, n4, n5⟩ := h9
  have h12 : admView d12 = admView d11 := (forN_same_lt admView (fun e i hi => AdmView.raiseFloor e hi) _).trans
    ((AdmView.wakeUsed ..).trans (AdmView.recomputeTree ..))
  have h11 : admView d11 = (d10.adm, h.s0, d9.num 0x1300 3, d9.num 0x1200 1, d9.num 0x1200 3, d9.num 0x1200 4, d9.devNo) := by
    have hn (i s : Nat) : d11.num i s = d9.num i s := num_of_dict_eq (by exact rfl) ..
    have hdev : d11.devNo = d9.devNo := hn ..
    rw [admView_eq, hn, hn, hn, hn, hdev, ← hs]
  rw [h11, admView_eq] at h12
  simp only [Prod.mk.injEq] at h12
  obtain ⟨m0, m1, m2, m3, m4, m5, m6⟩ := h12
  rw [if_neg hr1]
  refine ⟨?_, ?_, ?_, ?_, ?_, ?_, ?_, ?_⟩
  · rw [num_send, m2, n1]
  · exact congrArg AdmS.plan ((adm_cad_send ..).1.trans m0)
  · exact congrArg AdmS.facts ((adm_cad_send ..).1.trans m0)
  · exact (congrArg CadS.s0 (adm_cad_send ..).2).trans m1
  · rw [num_send, m5, n4]
  · rw [num_send, m4, n3]
  · rw [num_send, m3, n2]
    exact hrole
  · rw [m6, n5]
    exact List.mem_cons_self ..

/-- R348: how a check of the plan ends. -/
def checkEnds (f : PlanFacts) (d : Device) : Device :=
  if d.admState ≠ 2 then d
  else match d.checkPlan (d.domOf 0x1300 1) (factsOf (d.domOf 0x1300 1) f) with
    | .error r => d.refuseOwn r
    | .ok slack => admitNew d (d.domOf 0x1300 1) (factsOf (d.domOf 0x1300 1) f) slack

theorem completes_admissionDone_ok {s : State} {f : PlanFacts} {sl : List Nat} (ha : s.dev.admState = 2)
    (hsl : s.dev.checkPlan (s.dev.domOf 0x1300 1) (factsOf (s.dev.domOf 0x1300 1) f) = .ok sl) (hre : s.dev.hv.restore = none)
    (hs0 : s.dev.adm.restoreS0 = none)
    (hm : (s.dev.loadPlan (factsOf (s.dev.domOf 0x1300 1) f)).devNo ≠ (planHdr (s.dev.domOf 0x1300 1)).master) :
    Completes (.admissionDone f) s (fun d =>
      let h := planHdr (s.dev.domOf 0x1300 1)
      let L := s.dev.loadPlan (factsOf (s.dev.domOf 0x1300 1) f)
      d.num 0x1300 3 = 3 ∧ d.adm.plan = some h ∧ d.adm.facts = some (factsOf (s.dev.domOf 0x1300 1) f) ∧
          d.cad.s0 = h.s0 ∧ d.num 0x1200 4 = h.period ∧ d.num 0x1200 3 = h.master ∧
          d.num 0x1200 1 = (if L.devNo = h.backup then 2 else 0) ∧ .verdict 0 L.devNo true ∈ d.out) := by
  refine completes_run_eq (c := .admissionDone f) (f := checkEnds f) (X := (s.dev.loadPlan (factsOf (s.dev.domOf 0x1300 1) f)).admitPlan
    (s.dev.domOf 0x1300 1) (planHdr (s.dev.domOf 0x1300 1)) (factsOf (s.dev.domOf 0x1300 1) f) sl) (fun _ => by unfold exec; exact rfl) ?_ ?_
  · unfold checkEnds
    rw [if_neg (not_not.2 ha), hsl]
    show admitNew .. = _
    unfold admitNew
    rw [hre]
  · exact admitPlan_spec _ _ _ _ ((congrArg AdmS.restoreS0 (adm_loadPlan ..)).trans hs0) hm

/-- Settles O39: each command by what its hook does; a refusal and an admission by what they settle. -/
theorem admissionAndRunControl : Obligations.AdmissionAndRunControl := by
  unfold Obligations.AdmissionAndRunControl
  intro s c im f pid code dev
  dsimp only
  exact ⟨completes_admPlan, completes_check, completes_discard,
    fun ha => ⟨fun _ hr => completes_admissionDone_error ha hr, fun _ hsl hre hs0 hm => completes_admissionDone_ok ha hsl hre hs0 hm⟩,
    completes_verdict_good, completes_verdict_bad, completes_verdict_down, completes_admittedTimeout, completes_stop, completes_abort⟩

end Sys2Proof.Machine

/-! PROOFS. Connections and sessions of the device access protocol (R429, R433 to R436, R438 to R440). -/

namespace Sys2Proof.Machine

/-! ### Sessions -/

theorem session_eq (d : Device) (k : Nat) : d.session k = d.mgmt.sessions.find? (fun s => s.sid == k) := rfl

theorem find_fresh {l : List Session} {k : Nat} (x : Session) (h : l.find? (fun s => s.sid == k) = none) (hx : x.sid = k) :
    (l ++ [x]).find? (fun s => s.sid == k) = some x := by
  rw [List.find?_append, h, Option.none_or]
  simp [hx]

/-- A closed session is gone, and no other. -/
theorem sessions_closeSession (d : Device) (k : Nat) : (d.closeSession k).mgmt.sessions = d.mgmt.sessions.filter (fun s => s.sid != k) := by
  unfold Device.closeSession
  split
  · rename_i h
    rw [session_eq, List.find?_eq_none] at h
    exact (List.filter_eq_self.2 fun z hz => by simpa using h z hz).symm
  · simp [apply_ite Device.mgmt]

theorem session_closeSession (d : Device) (k : Nat) : (d.closeSession k).session k = none := by
  rw [session_eq, sessions_closeSession, List.find?_eq_none]
  intro z hz
  simpa using (List.mem_filter.1 hz).2

theorem evt_closeSession (d : Device) (k : Nat) : (d.closeSession k).evt = d.evt := by
  unfold Device.closeSession
  split
  · rfl
  · simp [apply_ite Device.evt]

/-- R437: a session that closes gives its lease back. -/
theorem lease_closeSession {d : Device} {k : Nat} {x : Session} (hx : d.session k = some x) (hl : d.lease = k) :
    (d.closeSession k).lease = 0 := by
  unfold Device.closeSession
  rw [hx]
  dsimp only
  rw [if_pos hl]
  refine (Device.num_setNum_ne _ _ (okey_ne_sub (by decide) (by omega))).trans ?_
  exact (num_of_dict_eq (by exact rfl) ..).trans (Device.num_setNum_same ..)

/-- One of the ids 1 to 17 belongs to none of 16 sessions. -/
theorem exists_free_sid (l : List Session) (h : l.length < 17) :
    ∃ n ∈ List.range 18, (n != 0 && (l.find? (fun s => s.sid == n)).isNone) = true := by
  by_contra hc
  push Not at hc
  have hsub : List.range' 1 17 ⊆ l.map Session.sid := by
    intro n hn
    rw [List.mem_range'_1] at hn
    have h0 := hc n (List.mem_range.2 (by omega))
    have hsome : (l.find? (fun s => s.sid == n)).isNone ≠ true := fun hi => h0 (by rw [hi, Bool.and_true, bne_iff_ne]; omega)
    rw [ne_eq, Option.isNone_iff_eq_none, List.find?_eq_none] at hsome
    push Not at hsome
    obtain ⟨z, hz, hzn⟩ := hsome
    exact List.mem_map.2 ⟨z, hz, by simpa using hzn⟩
  have hlen := (List.subperm_of_subset List.nodup_range' hsub).length_le
  simp at hlen
  omega

/-- R436: the id drawn for a session is of no open session. -/
theorem drawSid_spec {d : Device} (h : d.mgmt.sessions.length < 16) :
    d.drawSid.1 ≠ 0 ∧ d.session d.drawSid.1 = none ∧ d.drawSid.2.mgmt = d.mgmt ∧ d.drawSid.2.dict = d.dict := by
  obtain ⟨n, hn, hok⟩ := exists_free_sid d.mgmt.sessions (by omega)
  obtain ⟨v, hv⟩ : ∃ v, d.drawSid.1 = if (v != 0 && (d.session v).isNone) = true then v
      else ((List.range 18).find? (fun n => n != 0 && (d.session n).isNone)).getD 0 := ⟨(Config.sessionId d.drawFree.1).toNat, rfl⟩
  have hgood : (d.drawSid.1 != 0 && (d.session d.drawSid.1).isNone) = true := by
    rw [hv]
    split
    · assumption
    · obtain ⟨m, hm⟩ := Option.isSome_iff_exists.1 ((List.find?_isSome (p := fun n => n != 0 && (d.session n).isNone)).2 ⟨n, hn, hok⟩)
      have hm' : (List.range 18).find? (fun n => n != 0 && (d.session n).isNone) = some m := hm
      rw [hm', Option.getD_some]
      exact List.find?_some (p := fun n => n != 0 && (d.session n).isNone) hm
  rw [Bool.and_eq_true, bne_iff_ne, Option.isNone_iff_eq_none] at hgood
  exact ⟨hgood.1, hgood.2, rfl, rfl⟩

/-! ### HELLO and malformed frames -/

section
variable {s : State}

theorem completes_hello {h : DapHdr} {role : Byte} {name : List Byte} (hloc : h.link = .loc) (hup : s.dev.serverUp = true)
    (hver : h.ver = 1) (hf : h.fstatus = 0) (hflags : h.flags.toNat < 8) (hs : h.session = 0) (hq : h.seq = 0) (ht : h.target = 0xFFFF)
    (hr : 1 ≤ role.toNat) (hr3 : role.toNat ≤ 3) (hname : name.length ≤ 16) (hlen : s.dev.mgmt.sessions.length < 16) :
    Completes (.hello h 1 role name) s (fun d => ∃ k z r, k ≠ 0 ∧ s.dev.session k = none ∧ d.session k = some z ∧
        z.ceil = min role.toNat (s.dev.num 0x1001 4) ∧ z.role = 1 ∧ z.link = .loc ∧
        d.num 0x1001 6 = s.dev.mgmt.sessions.length + 1 ∧ d.out.head? = some (.dapResp .loc r) ∧ r.session = k ∧
        r.fstatus = stOK ∧ r.op = 1) := by
  obtain ⟨hk0, hkn, hm, hdict⟩ := drawSid_spec hlen
  have hbad : (h.ver != 1 || h.fstatus != 0 || decide (8 ≤ h.flags.toNat) || h.session != 0 || h.seq != 0 ||
      h.target != 0xFFFF || role.toNat == 0 || decide (3 < role.toNat) || decide (16 < name.length)) = false := by
    rw [hver, hf, hs, hq, ht]
    simp
    omega
  let z : Session := { sid := s.dev.drawSid.1, link := .loc, ceil := min role.toNat (s.dev.num 0x1001 4) }
  obtain ⟨body, hX⟩ : ∃ body, s.dev.doHello h 1 role.toNat name = ((s.dev.drawSid.2.openSession z).addNum 0x1002 1 0 1).send
      (.dapResp .loc { Device.respOf h 1 stOK 0 body with session := s.dev.drawSid.1 }) := by
    unfold Device.doHello
    rw [hloc, hbad, if_neg (by simp [hup, Device.linkOpen])]
    dsimp only
    rw [if_neg Bool.false_ne_true, if_neg (by decide), if_neg (by omega)]
    exact ⟨_, rfl⟩
  refine completes_run_eq (c := .hello h 1 role name) (f := fun d => d.doHello h 1 role.toNat name) (fun _ => by unfold exec; exact rfl) hX ?_
  refine ⟨s.dev.drawSid.1, { z with lastNs := s.dev.drawSid.2.time.nowNs }, { Device.respOf h 1 stOK 0 body with session := s.dev.drawSid.1 },
    hk0, hkn, ?_, rfl, rfl, rfl, ?_, rfl, rfl, rfl, rfl⟩
  · have hs : ((s.dev.drawSid.2.openSession z).addNum 0x1002 1 0 1).mgmt.sessions =
        s.dev.mgmt.sessions ++ [{ z with lastNs := s.dev.drawSid.2.time.nowNs }] := by
      rw [Device.addNum_mgmt]
      unfold Device.openSession
      rw [Device.setNum_mgmt, hm]
    rw [session_eq]
    exact (congrArg (List.find? _) hs).trans (find_fresh _ hkn rfl)
  · rw [num_send, num_addNum_ne _ _ (okey_ne_idx (by decide) (by omega))]
    refine (Device.num_setNum_same ..).trans ?_
    rw [hm, List.length_append]
    rfl

theorem completes_malformedFrame {h : DapHdr} {op : Byte} (hloc : h.link = .loc) (hup : s.dev.serverUp = true) :
    Completes (.malformedFrame h op true) s (fun d =>
      d.out.head? = some (.dapResp .loc (Device.respOf h op.toNat stMalformed 0 [])) ∧ d.mgmt = s.dev.mgmt ∧
      (Map.get 0 s.dev.evt.last (0x7043 * 2 ^ 140) = 0 → Raised 0x7043 s.dev d)) := by
  have hX : (if s.dev.serverUp && s.dev.linkOpen h.link then s.dev.malformed h op.toNat true else s.dev) =
      (s.dev.raiseEvery 1000000000 0x7043 0 0 0 h.session.toNat 0).send (.dapResp .loc (Device.respOf h op.toNat stMalformed 0 [])) := by
    have hopen : s.dev.linkOpen .loc = true := rfl
    have hkey : s.dev.sourceKey .loc = (0, 0) := rfl
    unfold Device.malformed
    rw [hloc, hup, hopen, hkey]
    exact if_pos rfl
  refine completes_run_eq (c := .malformedFrame h op true)
    (f := fun d => if d.serverUp && d.linkOpen h.link then d.malformed h op.toNat true else d) (fun _ => by unfold exec; exact rfl) hX ?_
  refine ⟨rfl, ?_, fun hl => (raiseEvery_of_first (key := 0) (by rw [Nat.add_zero]; exact hl) (by decide)).1⟩
  show (s.dev.raiseEvery 1000000000 0x7043 0 0 0 h.session.toNat 0).mgmt = _
  unfold Device.raiseEvery
  dsimp only
  split
  · exact Device.countEvent_mgmt ..
  · exact Device.raise_mgmt ..

/-! ### Handshakes (R429) -/

theorem conns_closeAll (l : List Session) (d : Device) : (l.foldl (fun d s => d.closeSession s.sid) d).mgmt.conns = d.mgmt.conns :=
  Device.foldl_same (fun d : Device => d.mgmt.conns) _ (fun e z => (closeSession_spec e z.sid).2) l d

theorem sessions_closeAll (l : List Session) (d : Device) {z : Session}
    (h : z ∈ (l.foldl (fun d s => d.closeSession s.sid) d).mgmt.sessions) : z ∈ d.mgmt.sessions := by
  induction l generalizing d with
  | nil => exact h
  | cons x l ih =>
    have h' := ih (d.closeSession x.sid) h
    rw [sessions_closeSession] at h'
    exact (List.mem_filter.1 h').1

variable {port : Fin 2} {mac : BitVec 48} {udp : BitVec 16} {src : BitVec 128} {cn : Nat} {ident key : List Byte}

/-- R429, R441: what a handshake at the server's address does. -/
theorem completes_dtls {P : Device → Prop} (hmac : s.dev.steeredTo port.val mac.toNat false = true) (hudp : udp = 50210)
    (h : P (handshake s.dev port.val src.toNat cn ident key)) : Completes (.dtlsHandshake port mac udp src cn ident key) s P := by
  refine completes_run_eq (c := .dtlsHandshake port mac udp src cn ident key) (f := fun d =>
    if d.steeredTo port.val mac.toNat false && udp.toNat == dapUdpPort then handshake d port.val src.toNat cn ident key else d)
    (fun _ => by unfold exec; exact rfl) ?_ h
  rw [hmac, hudp]
  rfl

theorem handshake_fails (hup : s.dev.serverUp = true)
    (hign : (s.dev.mgmt.ignored.any (fun e => e.1 == 2 * src.toNat + port.val && decide (s.dev.time.nowNs < e.2))) = false)
    (hn : s.dev.creds.find? (fun e => Device.credIdent e == ident && e.drop 36 == key) = none) :
    Raised 0x7040 s.dev (handshake s.dev port.val src.toNat cn ident key) ∧
      (handshake s.dev port.val src.toNat cn ident key).mgmt.conns = s.dev.mgmt.conns ∧
      (handshake s.dev port.val src.toNat cn ident key).mgmt.sessions = s.dev.mgmt.sessions := by
  have hr : Raised 0x7040 s.dev (s.dev.raise 0x7040 0 0 0 (src.toNat % 2 ^ 64)) := s.dev.raise_raised _ _ _ _ (by decide)
  have hc : (s.dev.raise 0x7040 0 0 0 (src.toNat % 2 ^ 64)).mgmt.conns = s.dev.mgmt.conns := congrArg _ (Device.raise_mgmt ..)
  have hs : (s.dev.raise 0x7040 0 0 0 (src.toNat % 2 ^ 64)).mgmt.sessions = s.dev.mgmt.sessions := congrArg _ (Device.raise_mgmt ..)
  unfold handshake
  dsimp only
  rw [if_neg (by rw [hup, hign]; exact Bool.false_ne_true), hn]
  dsimp only
  split
  · exact ⟨hr, hc, hs⟩
  · exact ⟨hr, hc, hs⟩

theorem handshake_opens {e : List Byte} (hup : s.dev.serverUp = true)
    (hign : (s.dev.mgmt.ignored.any (fun e => e.1 == 2 * src.toNat + port.val && decide (s.dev.time.nowNs < e.2))) = false)
    (he : s.dev.creds.find? (fun e => Device.credIdent e == ident && e.drop 36 == key) = some e) :
    (cn, src.toNat % 2 ^ 64, fieldB e 0 1, ident) ∈ (handshake s.dev port.val src.toNat cn ident key).mgmt.conns ∧
      (∀ x ∈ (handshake s.dev port.val src.toNat cn ident key).mgmt.conns, x.1 = cn → x = (cn, src.toNat % 2 ^ 64, fieldB e 0 1, ident)) ∧
      ∀ z ∈ (handshake s.dev port.val src.toNat cn ident key).mgmt.sessions, z ∈ s.dev.mgmt.sessions := by
  obtain ⟨l, hc, hs⟩ : ∃ l : List Session,
      (handshake s.dev port.val src.toNat cn ident key).mgmt.conns = (l.foldl (fun d s => d.closeSession s.sid) s.dev).mgmt.conns.filter
        (fun c => c.1 != cn) ++ [(cn, src.toNat % 2 ^ 64, fieldB e 0 1, ident)] ∧
      (handshake s.dev port.val src.toNat cn ident key).mgmt.sessions = (l.foldl (fun d s => d.closeSession s.sid) s.dev).mgmt.sessions := by
    unfold handshake
    dsimp only
    rw [if_neg (by rw [hup, hign]; exact Bool.false_ne_true), he]
    exact ⟨_, rfl, rfl⟩
  rw [hc, hs, conns_closeAll]
  refine ⟨List.mem_append_right _ (List.mem_singleton.2 rfl), fun x hx hcn => ?_, fun z hz => sessions_closeAll l _ hz⟩
  rcases List.mem_append.1 hx with hx | hx
  · have h := (List.mem_filter.1 hx).2
    simp [hcn] at h
  · exact List.mem_singleton.1 hx

/-! ### What is too late, and EVENT frames -/

variable {sid sq : BitVec 32} {x : Session}

theorem completes_sessionTimeout (hx : s.dev.session sid.toNat = some x)
    (hlate : x.lastNs + s.dev.num 0x1001 8 * 1000000000 ≤ s.dev.time.nowNs) :
    Completes (.sessionTimeout sid) s (fun d =>
      d.session sid.toNat = none ∧ (s.dev.lease = sid.toNat → Raised 0x7042 s.dev d ∧ d.num 0x1001 7 = 0)) := by
  have hX : sessionEnds s.dev sid.toNat = if s.dev.lease = sid.toNat then (s.dev.closeSession sid.toNat).raise 0x7042 0 0 sid.toNat
      else s.dev.closeSession sid.toNat := by
    unfold sessionEnds
    rw [hx]
    exact if_neg (by omega)
  refine completes_run_eq (c := .sessionTimeout sid) (f := fun d => sessionEnds d sid.toNat) (fun _ => by unfold exec; exact rfl) hX ?_
  by_cases hl : s.dev.lease = sid.toNat
  · rw [if_pos hl]
    refine ⟨(session_of_mgmt_eq (Device.raise_mgmt ..) _).trans (session_closeSession ..), fun _ => ⟨?_, ?_⟩⟩
    · exact raised_after _ _ _ _ (by decide) (by rw [evt_closeSession])
    · exact (num_raise_of_keeps _ (by with_unfolding_all rfl) (by omega)).trans (lease_closeSession hx hl)
  · rw [if_neg hl]
    exact ⟨session_closeSession .., fun h => absurd h hl⟩

theorem completes_heldFrameTimeout (hx : s.dev.session sid.toNat = some x) :
    Completes (.heldFrameTimeout sid sq) s (fun d => d = { s.dev with mgmt := d.mgmt } ∧
      d.session sid.toNat = some { x with
        heldF := x.heldF.filter (fun f => !(f.hdr.seq == sq && decide (f.ns + 200000000 ≤ s.dev.time.nowNs))) }) := by
  have hX : s.dev.modSession sid.toNat (fun x => { x with
      heldF := x.heldF.filter (fun f => !(f.hdr.seq == sq && decide (f.ns + 200000000 ≤ s.dev.time.nowNs))) }) =
      s.dev.setSession { x with
        heldF := x.heldF.filter (fun f => !(f.hdr.seq == sq && decide (f.ns + 200000000 ≤ s.dev.time.nowNs))) } := by
    unfold Device.modSession
    rw [hx]
  refine completes_run_eq (c := .heldFrameTimeout sid sq) (f := fun d => d.modSession sid.toNat (fun x => { x with
    heldF := x.heldF.filter (fun f => !(f.hdr.seq == sq && decide (f.ns + 200000000 ≤ d.time.nowNs))) }))
    (fun _ => by unfold exec; exact rfl) hX ?_
  have hsid := sid_of_session hx
  exact ⟨rfl, session_setSession_same hx hsid⟩

theorem completes_eventFrameSend {b : Subscr} (hx : s.dev.session sid.toNat = some x) (hb : x.sub = some b) (hw : waiting s.dev b ≠ [])
    (hsent : b.secStart ≠ s.dev.time.nowNs / 1000000000 ∨ b.sent < 100) :
    Completes (.eventFrameSend sid) s (fun d => d.out = .eventFrame sid.toNat b.frameSeq
      (decide (28 < (waiting s.dev b).length)) ((waiting s.dev b).take 28) :: s.dev.out) := by
  refine completes_run_eq (c := .eventFrameSend sid) (f := fun d => eventFrame d sid.toNat) (X := eventFrame s.dev sid.toNat)
    (fun _ => by unfold exec; exact rfl) rfl ?_
  have hno : ¬ (waiting s.dev b = [] ∨ 100 ≤ (if b.secStart = s.dev.time.nowNs / 1000000000 then b.sent else 0)) := by
    rintro (h | h)
    · exact hw h
    · split at h <;> omega
  unfold eventFrame
  rw [hx]
  dsimp only
  rw [hb]
  dsimp only
  rw [if_neg hno]
  exact congrArg _ (Device.foldl_same Device.out (fun (d : Device) (r : EvRec) => { d with evt := { d.evt with
    log := Map.upd {} d.evt.log (r.seq % 4096) (fun e => { e with read := true }) } }) (fun _ _ => rfl) _ _)

theorem completes_forwardTimeout {e : Nat × Nat × Nat × Nat × Nat} (hx : s.dev.session sid.toNat = some x) (hf : s.dev.mgmt.fwd = [e])
    (h1 : e.1 = sid.toNat) (h2 : e.2.1 = sq.toNat) (hlate : e.2.2.2.2 + 100000000 ≤ s.dev.time.nowNs) (hloc : x.link = .loc) :
    Completes (.forwardResponseTimeout sid sq) s (fun d => d.mgmt = { s.dev.mgmt with fwd := [] } ∧
      ∃ r, d.out = .dapResp .loc r :: s.dev.out ∧ r.fstatus = stUnreachable ∧ r.seq = sq.toNat ∧ r.op = e.2.2.1) := by
  have hhit : (e.1 == sid.toNat && e.2.1 == sq.toNat && decide (e.2.2.2.2 + 100000000 ≤ s.dev.time.nowNs)) = true := by
    simp [h1, h2, hlate]
  obtain ⟨r, hr1, hr2, hr3, hX⟩ : ∃ r : DapResp, r.fstatus = stUnreachable ∧ r.seq = sq.toNat ∧ r.op = e.2.2.1 ∧
      execForwardResponseTimeout sid sq s = .next { s with dev :=
        ({ s.dev with mgmt := { s.dev.mgmt with fwd := [] } } : Device).send (.dapResp .loc r) } := by
    refine ⟨⟨e.2.2.1, stUnreachable, sq.toNat, sid.toNat, e.2.2.2.1, 0, []⟩, rfl, rfl, rfl, ?_⟩
    have hx' : ({ s.dev with mgmt := { s.dev.mgmt with fwd := [] } } : Device).session sid.toNat = some x := hx
    unfold execForwardResponseTimeout State.run
    simp only [hf, List.find?_cons, hhit, List.filter_cons, Bool.not_true, Bool.false_eq_true, if_false, List.filter_nil, hx', hloc]
    rfl
  exact ⟨_, hX, rfl, rfl, r, rfl, hr1, hr2, hr3⟩

end

/-! ### Fragments (R440) -/

section
variable {s : State}

theorem completes_fragment {p : Port} {sd : BitVec 12} {n : Byte} {first : Bool} {ceil : BitVec 3} {body : List Byte} {P : Device → Prop}
    (hp : s.dev.num 0x70B0 1 (p.val + 1) = 2) (hup : s.dev.serverUp = true) (hdev : s.dev.devNo < 4096) (hn : n.toNat < 140)
    (h : P (fragment s.dev sd.toNat n.toNat first false ceil body)) :
    Completes (.dapFragmentReceive p (BitVec.ofNat 12 s.dev.devNo) sd n first false ceil body) s P := by
  refine completes_run_eq (c := .dapFragmentReceive p (BitVec.ofNat 12 s.dev.devNo) sd n first false ceil body) (f := fun d =>
    if d.num 0x70B0 1 (p.val + 1) = 2 ∧ (BitVec.ofNat 12 s.dev.devNo).toNat = d.devNo ∧ d.serverUp ∧ n.toNat < 140 then
      fragment d sd.toNat n.toNat first false ceil body else d) (fun _ => by unfold exec; exact rfl) ?_ h
  exact if_pos ⟨hp, by rw [BitVec.toNat_ofNat]; exact Nat.mod_eq_of_lt hdev, hup, hn⟩

theorem fragment_first (d : Device) (src : Nat) (ceil : BitVec 3) (body : List Byte) :
    (fragment d src 0 true false ceil body).mgmt.frags = d.mgmt.frags.filter (fun f => f.src != src) ++
      [{ src := src, next := 1, ceiling := ceil.toNat, data := body, ns := d.time.nowNs }] ∧
    (fragment d src 0 true false ceil body).out = d.out := by
  obtain ⟨e, he, hX⟩ : ∃ e : Device, (e.out = d.out ∧ e.time = d.time) ∧ fragment d src 0 true false ceil body = { e with mgmt := { e.mgmt with
      frags := d.mgmt.frags.filter (fun f => f.src != src) ++
        [{ src := src, next := 1, ceiling := ceil.toNat, data := body, ns := e.time.nowNs }] } } := by
    unfold fragment
    cases d.mgmt.frags.find? (fun f => f.src == src) with
    | none => exact ⟨d, ⟨rfl, rfl⟩, rfl⟩
    | some f =>
      by_cases hdead : f.next = deadFrag
      · exact ⟨d, ⟨rfl, rfl⟩, by dsimp only; rw [if_pos hdead]; rfl⟩
      · exact ⟨d.addNum 0x1002 5 0 1, ⟨Device.addNum_out .., Device.addNum_time ..⟩, by dsimp only; rw [if_neg hdead]; rfl⟩
  rw [hX]
  exact ⟨by rw [he.2], he.1⟩

theorem fragment_next {d : Device} {src n : Nat} {ceil : BitVec 3} {body : List Byte} {f : FragBuf}
    (hf : d.mgmt.frags.find? (fun f => f.src == src) = some f) (hn : n = f.next) (hc : f.ceiling = ceil.toNat) (hlt : n < 140) :
    fragment d src n false false ceil body = { d with mgmt := { d.mgmt with
      frags := d.mgmt.frags.filter (fun f => f.src != src) ++ [{ f with next := n + 1, data := f.data ++ body }] } } := by
  have hdead : f.next ≠ deadFrag := by
    unfold deadFrag
    omega
  unfold fragment
  rw [hf]
  dsimp only
  rw [Bool.false_and, if_neg Bool.false_ne_true, if_neg hdead, if_neg (by simp [hn, hc]), if_neg Bool.false_ne_true]

set_option maxRecDepth 3000 in
theorem numBits_gaps : numBits 0x1002 5 = 64 := by with_unfolding_all decide

theorem completes_fragmentTimeout {sd : BitVec 12} {f : FragBuf} (hf : s.dev.mgmt.frags = [f]) (hsrc : f.src = sd.toNat)
    (hlate : f.ns + 100000000 ≤ s.dev.time.nowNs) (hnext : f.next ≠ 256) :
    Completes (.fragmentTimeout sd) s (fun d => d.mgmt = { s.dev.mgmt with frags := [] } ∧
      d.num 0x1002 5 = (s.dev.num 0x1002 5 + 1) % 2 ^ 64) := by
  have hhit : (f.src == sd.toNat && decide (f.ns + 100000000 ≤ s.dev.time.nowNs)) = true := by simp [hsrc, hlate]
  have hX : execFragmentTimeout sd s = .next { s with dev :=
      ({ s.dev with mgmt := { s.dev.mgmt with frags := [] } } : Device).addNum 0x1002 5 0 1 } := by
    unfold execFragmentTimeout State.run
    simp only [hf, List.find?_cons, hhit, List.filter_cons, Bool.not_true, Bool.false_eq_true, if_false, List.filter_nil]
    rw [show (if f.next = deadFrag then _ else _) = _ from if_neg hnext]
  refine ⟨_, hX, rfl, Device.addNum_mgmt .., ?_⟩
  rw [num_addNum_same, numBits_gaps]
  exact congrArg (fun v => (v + 1) % 2 ^ 64) (num_of_dict_eq (by exact rfl) ..)

end

/-- Settles O42: each clause by what its command does to the connections and sessions. -/
theorem dapSessions : Obligations.DapSessions := by
  unfold Obligations.DapSessions
  intro s h op role name port mac udp src cn ident key sid sq n sd ceil p body
  dsimp only
  refine ⟨completes_hello, completes_malformedFrame, fun hup hmac hudp hign => ⟨fun hn => ?_, fun e he => ?_⟩, fun x hx => ?_,
    fun hp hup hdev => ⟨?_, fun f hf hn hc hlt => ?_⟩, fun f hf hsrc hlate hnext => completes_fragmentTimeout hf hsrc hlate hnext⟩
  · exact completes_dtls hmac hudp (handshake_fails hup hign hn)
  · exact completes_dtls hmac hudp (handshake_opens hup hign he)
  · exact ⟨completes_sessionTimeout hx, completes_heldFrameTimeout hx, fun b => completes_eventFrameSend hx,
      fun e => completes_forwardTimeout hx⟩
  · exact completes_fragment hp hup hdev (by decide) (fragment_first ..)
  · exact completes_fragment hp hup hdev hlt (fragment_next hf hn hc hlt)

end Sys2Proof.Machine

/-! PROOFS. Requests of an open session (R430 to R437, R440). -/

namespace Sys2Proof.Machine

/-! ### Writes end no session's order -/

/-- No session of `e` is new: those of `d` are still there, or have closed. -/
def Closes (d e : Device) : Prop := ∀ z ∈ e.mgmt.sessions, z ∈ d.mgmt.sessions

namespace Closes

theorem of_mgmt {d e : Device} (h : e.mgmt = d.mgmt) : Closes d e := fun z hz => by rwa [h] at hz

theorem haltRun (d : Device) : d.haltRun.mgmt = d.mgmt :=
  congrArg (fun v => v.2.1) (OutsideRun.haltRun d)

theorem emptyQueues (n m k : Nat) (d : Device) : (emptied n m k d).mgmt = d.mgmt := by
  have hctx (e : Device) : e.loseContexts.mgmt = e.mgmt := rfl
  unfold emptied
  exact (forN_same Device.mgmt (f := fun d q => d.setSq _ _) (fun _ _ => rfl) k _).trans ((hctx _).trans
    ((forN_same Device.mgmt (f := fun d k => d.modClu _ _) (fun _ _ => rfl) m _).trans
      (forN_same Device.mgmt (f := fun d g => d.modCore _ _) (fun _ _ => rfl) n d)))

theorem abortRun (d : Device) (c : Nat) : (d.abortRun c).mgmt = d.mgmt := by
  unfold Device.abortRun
  rw [haltRun, Device.taint_mgmt, emptyQueues_eq, emptyQueues]

theorem finishHold (d : Device) : d.finishHold.mgmt = d.mgmt := congrArg (fun v => v.2.1) (OutsideRun.finishHold d)

theorem setRun (d : Device) (v : Nat) : (d.setRun v).mgmt = d.mgmt := congrArg (fun v => v.2.1) (OutsideRun.setRun d v)

theorem emptyPlan (d : Device) : (Machine.emptyPlan d).mgmt = d.mgmt := (Device.setNum_mgmt ..).trans rfl

theorem discardHook (d : Device) : (Machine.discardHook d).1.mgmt = d.mgmt := by
  unfold Machine.discardHook
  split
  · rfl
  · split
    · rfl
    · split
      · exact (Device.setNum_mgmt ..).trans ((setRun ..).trans ((emptyPlan ..).trans (finishHold d)))
      · exact emptyPlan d

theorem stopHook (d : Device) : (Machine.stopHook d).1.mgmt = d.mgmt := by
  unfold Machine.stopHook
  dsimp only
  split
  · rfl
  · split
    · exact haltRun d
    · exact setRun ..

theorem setFreq (d : Device) (die f : Nat) : (d.setFreq die f).mgmt = d.mgmt :=
  (Device.setNum_mgmt ..).trans (Device.setNum_mgmt ..)

theorem dvKick (d : Device) (die : Nat) : (d.dvKick die).mgmt = d.mgmt := by
  have hseq (e : Device) (x : DvSeq) : (e.setDvSeq die x).mgmt = e.mgmt := rfl
  have hstart : (d.dvStart die).mgmt = d.mgmt :=
    view_ite ((hseq ..).trans (setFreq ..)) (view_ite (hseq ..) (view_ite (hseq ..) (hseq ..)))
  unfold Device.dvKick
  split
  · exact hstart
  · rfl

theorem endSequence (d : Device) (die : Nat) : (Machine.endSequence d die).mgmt = d.mgmt := (Device.setNum_mgmt ..).trans rfl

theorem targetHook (die v : Nat) (d : Device) : (Machine.targetHook die v d).1.mgmt = d.mgmt := by
  unfold Machine.targetHook
  split
  · rfl
  · split
    · exact Device.raise_mgmt ..
    · exact (dvKick ..).trans (Device.setNum_mgmt ..)

theorem freqHook (die v : Nat) (d : Device) : (Machine.freqHook die v d).1.mgmt = d.mgmt := by
  unfold Machine.freqHook
  split
  · rfl
  · split
    · exact Device.raise_mgmt ..
    · split
      · exact Device.raise_mgmt ..
      · exact (endSequence ..).trans (setFreq ..)

theorem vcoreHook (die v : Nat) (d : Device) : (Machine.vcoreHook die v d).1.mgmt = d.mgmt := by
  unfold Machine.vcoreHook
  split
  · rfl
  · split
    · exact Device.raise_mgmt ..
    · exact (endSequence ..).trans (Device.setNum_mgmt ..)

theorem eraseBlock (d : Device) (b : Nat) : (d.eraseBlock b).mgmt = d.mgmt :=
  (view_ite (v := Device.mgmt) (Device.raise_mgmt ..) rfl).trans (view_ite (v := Device.mgmt) (Device.setNum_mgmt ..) rfl)

theorem writeRec (d : Device) (r : FlashRec) (b : List Byte) (ok : Bool) : (d.writeRec r b ok).mgmt = d.mgmt := eraseBlock ..

theorem pdRequest (d : Device) (i v src : Nat) : (d.pdRequest i v src).1.mgmt = d.mgmt :=
  congrArg (fun v => v.2.1) (OutsideRun.pdRequest d i v src)

theorem firmwareStates (v : Nat) (d : Device) :
    (if v = 1 then fwVerifyHook d else if v = 2 then fwActivateHook d else fwCommitHook d).1.mgmt = d.mgmt := by
  have hverify : (fwVerifyHook d).1.mgmt = d.mgmt := by
    unfold fwVerifyHook
    split <;> rfl
  have hactivate : (fwActivateHook d).1.mgmt = d.mgmt := by
    unfold fwActivateHook
    split
    · rfl
    · exact Device.setNum_mgmt ..
  have hcommit : (fwCommitHook d).1.mgmt = d.mgmt := by
    unfold fwCommitHook
    split
    · rfl
    · exact (Device.raise_mgmt ..).trans ((Device.setNum_mgmt ..).trans (writeRec ..))
  split
  · exact hverify
  · split
    · exact hactivate
    · exact hcommit

theorem credDeleteHook (b : List Byte) (d : Device) : Closes d (Machine.credDeleteHook b d).1 := by
  unfold Machine.credDeleteHook
  split
  · intro z hz
    have h := sessions_closeAll _ _ hz
    exact of_mgmt (writeRec ..) z h
  · exact of_mgmt rfl

theorem lossHook (b : Bool) (v : Nat) (d : Device) : (Machine.lossHook b v d).1.mgmt = d.mgmt := by
  unfold Machine.lossHook
  split
  · exact Device.addNum_mgmt ..
  · cases b <;> rfl

theorem replanHook (v : Nat) (d : Device) : (Machine.replanHook v d).1.mgmt = d.mgmt := by
  unfold Machine.replanHook
  split
  · exact forN_same Device.mgmt (f := fun d i => d.planDue i) (fun _ _ => rfl) 4 d
  · rfl

/-- What a session writes closes sessions at most. -/
theorem scalarHook (k : W32) (i sub inst : Nat) (b : List Byte) (d : Device) :
    Closes d (Machine.scalarHook (.session k) i sub inst b d).1 := by
  unfold Machine.scalarHook
  split
  · refine of_mgmt ?_
    dsimp only
    split
    · unfold checkHook
      split
      · exact Device.setNum_mgmt ..
      · rfl
    · split
      · exact discardHook d
      · rfl
  · refine of_mgmt ?_
    split
    · exact Device.setNum_mgmt ..
    · dsimp only
      split
      · exact stopHook d
      · split
        · unfold abortHook
          split
          · rfl
          · exact abortRun ..
        · rfl
  · exact of_mgmt (Device.taint_mgmt ..)
  · exact of_mgmt (lossHook ..)
  · exact of_mgmt rfl
  · exact of_mgmt (replanHook ..)
  · exact of_mgmt (targetHook ..)
  · refine of_mgmt ?_
    split
    · exact freqHook ..
    · exact vcoreHook ..
  · exact of_mgmt (pdRequest ..)
  · refine of_mgmt ?_
    unfold hvCommandHook
    split <;> rfl
  · exact of_mgmt (firmwareStates ..)
  · exact credDeleteHook b d
  · exact of_mgmt ((writeRec ..).trans (Device.setNum_mgmt ..))
  · exact of_mgmt rfl
  · exact of_mgmt (Device.setNum_mgmt ..)

theorem writeItem (k : W32) (w : WriteItem) (d : Device) : Closes d (Machine.writeItem (.session k) w d).1 := by
  unfold Machine.writeItem
  dsimp only
  split
  · exact of_mgmt rfl
  · exact scalarHook k _ _ _ _ d

end Closes

/-! ### A frame in its turn (R434) -/

/-- A session after its next frame came in its turn. -/
def moved (d : Device) (x : Session) : Session := { x with lastNs := d.time.nowNs, next := (x.next + 1) % 2 ^ 32 }

/-- The device with that session. -/
def withMoved (d : Device) (x : Session) : Device :=
  { d with mgmt := { d.mgmt with sessions := d.mgmt.sessions.map (fun z => if z.sid = x.sid then moved d x else z) } }

/-- The device that runs the request: the frame is counted. -/
def counted (d : Device) (x : Session) : Device := (withMoved d x).addNum 0x1002 1 0 1

/-- The request answered at the local endpoint, and its response kept. -/
def servedBy (d : Device) (k : Nat) (r : DapResp) : Device := (d.send (.dapResp .loc r)).keep k r

theorem session_setSession_ne {d : Device} {k : Nat} {x : Session} (h : x.sid ≠ k) : (d.setSession x).session k = d.session k := by
  show (d.mgmt.sessions.map (fun s => if s.sid = x.sid then x else s)).find? (fun s => s.sid == k) = _
  rw [session_eq]
  generalize d.mgmt.sessions = l
  induction l with
  | nil => rfl
  | cons z l ih =>
    rw [List.map_cons, List.find?_cons, List.find?_cons, ih]
    by_cases hz : z.sid = x.sid
    · rw [if_pos hz, beq_eq_false_iff_ne.2 h, beq_eq_false_iff_ne.2 (hz ▸ h)]
    · rw [if_neg hz]

theorem setSession_setSession (d : Device) {x y : Session} (h : y.sid = x.sid) : (d.setSession x).setSession y = d.setSession y := by
  have hmap : (d.mgmt.sessions.map (fun s => if s.sid = x.sid then x else s)).map (fun s => if s.sid = y.sid then y else s) =
      d.mgmt.sessions.map (fun s => if s.sid = y.sid then y else s) := by
    rw [List.map_map]
    refine List.map_congr_left fun z _ => ?_
    by_cases hz : z.sid = x.sid
    · simp [hz, h]
    · simp [hz, h]
  unfold Device.setSession
  dsimp only
  rw [hmap]

/-- What a kept response leaves. -/
theorem servedBy_spec (d : Device) (k : Nat) (r : DapResp) :
    (servedBy d k r).dict = d.dict ∧ (servedBy d k r).mem = d.mem ∧ (servedBy d k r).out = .dapResp .loc r :: d.out ∧
      (∀ z, d.session k = some z → ∃ c, (servedBy d k r).session k = some { z with cache := c }) ∧
      (d.session k = none → (servedBy d k r).session k = none) := by
  have hs : (d.send (.dapResp .loc r)).session k = d.session k := rfl
  unfold servedBy Device.keep Device.modSession
  rw [hs]
  cases hz : d.session k with
  | none => exact ⟨rfl, rfl, rfl, nofun, fun _ => hs.trans hz⟩
  | some z =>
    have hsid := sid_of_session hz
    refine ⟨rfl, rfl, rfl, fun z' h => ?_, nofun⟩
    cases h
    exact ⟨_, session_setSession_same (hs.trans hz) hsid⟩

theorem drain_idle {d : Device} {k : Nat} (h : ∀ z, d.session k = some z → z.heldF = []) (n : Nat) : Device.drain n d k = d := by
  cases n with
  | zero => rfl
  | succ n =>
    unfold Device.drain
    split
    · rfl
    · rename_i z hz
      rw [h z hz]
      rfl

theorem connOf_local {x : Session} (h : x.src = none) : Device.connOf x = .session (BitVec.ofNat 32 x.sid) := by
  unfold Device.connOf
  rw [h]

theorem mine_withMoved (d : Device) (x : Session) (h : DapHdr) : (withMoved d x).mine h = d.mine h := by
  have hdev : (withMoved d x).devNo = d.devNo := num_of_dict_eq (by exact rfl) ..
  unfold Device.mine
  rw [hdev]

/-- R434: the frame is the next in the window of an open session of the local endpoint, and none is held behind it. -/
structure NextFrame (s : State) (h : DapHdr) (x : Session) : Prop where
  loc : h.link = .loc
  up : s.dev.serverUp = true
  found : s.dev.session h.session.toNat = some x
  link : x.link = .loc
  own : x.src = none
  alone : x.heldF = []
  next : h.seq.toNat = x.next
  fresh : x.cache.find? (fun e => e.1 == x.next) = none

namespace NextFrame
variable {s : State} {h : DapHdr} {x : Session} (hn : NextFrame s h x)
include hn

theorem session : s.dev.session x.sid = some x := by
  rw [sid_of_session hn.found]
  exact hn.found

/-- R434: the next frame of a session. -/
theorem dapFrame {req : DapReq} (hgood : hdrBad h req = false) :
    s.dev.dapFrame h req = Device.drain 16 ((withMoved s.dev x).turn (moved s.dev x) h req) x.sid := by
  obtain ⟨hloc, hup, hx, hlink, hsrc, -, hseq, hcache⟩ := id hn
  have hframe : s.dev.dapFrame h req = s.dev.window x h req := by
    have hopen : s.dev.linkOpen .loc = true := rfl
    unfold Device.dapFrame
    rw [hloc, hup, hopen, hgood, hx]
    exact if_pos (c := x.link = .loc ∧ x.src = none) ⟨hlink, hsrc⟩
  have hmod : s.dev.modSession x.sid (fun y => { y with lastNs := s.dev.time.nowNs }) = s.dev.setSession { x with lastNs := s.dev.time.nowNs } := by
    unfold Device.modSession
    rw [hn.session]
  have hset : (s.dev.setSession { x with lastNs := s.dev.time.nowNs }).setSession (moved s.dev x) = withMoved s.dev x :=
    setSession_setSession _ rfl
  rw [hframe]
  unfold Device.window
  dsimp only
  rw [hseq, hcache, hmod]
  dsimp only
  rw [if_pos (by omega)]
  show Device.drain 16 (((s.dev.setSession { x with lastNs := s.dev.time.nowNs }).setSession (moved s.dev x)).turn (moved s.dev x) h req) x.sid = _
  rw [hset]

theorem session_moved : (withMoved s.dev x).session x.sid = some (moved s.dev x) :=
  session_setSession_same (y := moved s.dev x) hn.session rfl

theorem session_counted : (counted s.dev x).session x.sid = some (moved s.dev x) :=
  (session_of_mgmt_eq (Device.addNum_mgmt ..) _).trans hn.session_moved

theorem heldF_counted : ∀ z, (counted s.dev x).session x.sid = some z → z.heldF = [] := by
  intro z hz
  rw [hn.session_counted] at hz
  cases hz
  exact hn.alone

/-- R434: a request of this device runs once, is counted and answered. -/
theorem completes {c : Instr} {req : DapReq} {P : Device → Prop} {e : Device} {st n : Nat} {b : List Byte}
    (he : ∀ u : State, exec c u = u.run (fun d => d.dapFrame h req)) (hmine : s.dev.mine h = true) (hgood : hdrBad h req = false)
    (hrun : (counted s.dev x).runReq (moved s.dev x) h req = (e, Device.respOf h (reqOp req) st n b)) (hbye : req ≠ .bye)
    (hidle : ∀ z, e.session x.sid = some z → z.heldF = [])
    (hP : P (servedBy e x.sid (Device.respOf h (reqOp req) st n b))) :
    Completes c s (fun d => (∃ n, d.out.head? = some (.dapResp .loc (Device.respOf h (reqOp req) st n b))) ∧ P d) := by
  obtain ⟨hdict, hmem, hout, hsome, hnone⟩ := servedBy_spec e x.sid (Device.respOf h (reqOp req) st n b)
  have hturn : (withMoved s.dev x).turn (moved s.dev x) h req = servedBy e x.sid (Device.respOf h (reqOp req) st n b) := by
    have hm : (withMoved s.dev x).mine h = true := (mine_withMoved ..).trans hmine
    have hrun' : ((withMoved s.dev x).addNum 0x1002 1 0 1).runReq (moved s.dev x) h req = (e, Device.respOf h (reqOp req) st n b) := hrun
    unfold Device.turn Device.execReq
    rw [if_pos hm, hrun', hn.loc]
    exact if_neg hbye
  refine completes_run_eq (X := servedBy e x.sid (Device.respOf h (reqOp req) st n b)) (f := fun d => d.dapFrame h req) he
    ((hn.dapFrame hgood).trans ?_) ⟨⟨n, by rw [hout]; rfl⟩, hP⟩
  rw [hturn, drain_idle]
  intro z hz
  cases hs : e.session x.sid with
  | none => rw [hnone hs] at hz; cases hz
  | some w =>
    obtain ⟨c, hc⟩ := hsome w hs
    rw [hc] at hz
    cases hz
    exact hidle w hs

end NextFrame

theorem mem_counted (d : Device) (x : Session) : (counted d x).mem = d.mem := (Device.addNum_mem ..).trans rfl

theorem num_counted (d : Device) (x : Session) {i s : Nat} (h : homeIdx 0x1002 ≠ homeIdx i) (hs : s < 256) :
    (counted d x).num i s = d.num i s :=
  (num_addNum_ne _ _ (okey_ne_idx h (by omega))).trans (num_of_dict_eq (by exact rfl) ..)

/-- What may be written hangs on the session's ceiling, the lease and the state of the run. -/
theorem accessStatus_congr {d e : Device} {k : W32} {y z : Session} (hd : d.session k.toNat = some y) (he : e.session k.toNat = some z)
    (hceil : z.ceil = y.ceil) (hl : e.lease = d.lease) (hr : e.runState = d.runState) (ha : e.admState = d.admState) (i sub inst : Nat) :
    e.accessStatus (.session k) i sub inst = d.accessStatus (.session k) i sub inst := by
  have hstop : e.isStopped = d.isStopped := by
    unfold Device.isStopped
    rw [hr, ha]
  have hclass (r : ObjRow) : e.classStatus (.session k) r i sub = d.classStatus (.session k) r i sub := by
    unfold Device.classStatus
    simp only [hd, he, hceil, hl, hstop, ha]
  unfold Device.accessStatus
  simp only [hclass]

theorem domStatus_congr {d e : Device} {k : W32} {y z : Session} (hd : d.session k.toNat = some y) (he : e.session k.toNat = some z)
    (hceil : z.ceil = y.ceil) (hl : e.lease = d.lease) (hr : e.runState = d.runState) (ha : e.admState = d.admState) (i sub inst : Nat) :
    domStatus e (.session k) i sub inst = domStatus d (.session k) i sub inst := by
  unfold domStatus
  simp only [hd, he, accessStatus_congr hd he hceil hl hr ha, Option.isSome_some]

/-- The commit of a DOMAIN object with no rule of its own keeps its value. -/
theorem domHook_plain {c : Conn} {i sub inst : Nat} {b : List Byte} {d : Device} (hi : i ∉ ownDomain) (hlen : (domLimit i sub).1 = b.length) :
    domHook c i sub inst b d = ((d.setDom i sub inst (Device.storedBytes i sub b)).touched i sub inst, stOK) := by
  have hlim : ¬ (decide ((domLimit i sub).1 < b.length) || (domLimit i sub).2 && b.length != (domLimit i sub).1) = true := by
    simp [hlen]
  simp only [ownDomain, List.mem_cons, List.not_mem_nil, or_false, not_or] at hi
  obtain ⟨h1, h2, h3, h4, h5, -⟩ := hi
  unfold domHook
  dsimp only
  rw [if_neg hlim]
  split
  all_goals first | omega | rfl

/-! ### What each request does (R431 to R437) -/

section
variable (d : Device) (x : Session) (h : DapHdr)

theorem runReq_read (l : List ObjAddr) : d.runReq x h (.read l) = (d, Device.respOf h (reqOp (.read l)) (d.doRead x l).1
    (if (d.doRead x l).1 = stOK then h.count.toNat else 0) (d.doRead x l).2) := rfl

theorem runReq_write (l : List WriteItem) : d.runReq x h (.write l) =
    ((d.doWrite (Device.connOf x) (bitOf h.flags.toNat 0) l).1, Device.respOf h (reqOp (.write l)) stOK h.count.toNat
      (d.doWrite (Device.connOf x) (bitOf h.flags.toNat 0) l).2) := rfl

theorem runReq_dread (a : ObjAddr) (off len : Nat) : d.runReq x h (.dread a off len) =
    ((d.doDread x a off len).1, Device.respOf h (reqOp (.dread a off len)) stOK h.count.toNat (d.doDread x a off len).2) := rfl

theorem runReq_dwrite (a : ObjAddr) (b e : Bool) (off total : Nat) (data : List Byte) :
    d.runReq x h (.dwrite a b e off total data) = ((d.doDwrite x (Device.connOf x) a b e off total data).1,
      Device.respOf h (reqOp (.dwrite a b e off total data)) stOK h.count.toNat
        (writeResult (d.doDwrite x (Device.connOf x) a b e off total data).2)) := rfl

theorem runReq_claim (role : Nat) (force : Bool) : d.runReq x h (.claim role force) = ((d.doClaim x role force).1,
    Device.respOf h (reqOp (.claim role force)) stOK h.count.toNat
      (leBytes 1 (d.doClaim x role force).2.1 ++ leBytes 1 (d.doClaim x role force).2.2 ++ leBytes 2 0)) := rfl

theorem runReq_subscribe (m k : Nat) : d.runReq x h (.subscribe m k) = (d.modSession x.sid (fun y => { y with
    sub := if k = 0 then none else some { minsev := m, mask := k, recSeq := d.num 0x1E00 2 } }),
    Device.respOf h (reqOp (.subscribe m k)) stOK 0 []) := rfl

theorem runReq_keepalive : d.runReq x h .keepalive = (d, Device.respOf h (reqOp .keepalive) stOK 0 []) := rfl

end

namespace NextFrame
variable {s : State} {h : DapHdr} {x : Session} (hn : NextFrame s h x) (hmine : s.dev.mine h = true)
include hn hmine

/-- R432. -/
theorem completes_read {items : List ObjAddr} {st : Nat} {b : List Byte}
    (hread : (counted s.dev x).doRead (moved s.dev x) items = (st, b)) (hgood : hdrBad h (.read items) = false) :
    Completes (.read h items) s (fun d => (∃ n, d.out.head? = some (.dapResp .loc (Device.respOf h (reqOp (.read items)) st n b))) ∧
      d.dict = (counted s.dev x).dict ∧ d.mem = s.dev.mem) := by
  refine hn.completes (e := counted s.dev x) (n := if st = stOK then h.count.toNat else 0) (fun _ => by unfold exec; exact rfl)
    hmine hgood ?_ (by simp) hn.heldF_counted ?_
  · rw [runReq_read, hread]
  · obtain ⟨hdict, hmem, -⟩ := servedBy_spec (counted s.dev x) x.sid (Device.respOf h (reqOp (.read items)) st
      (if st = stOK then h.count.toNat else 0) b)
    exact ⟨hdict, hmem.trans (mem_counted ..)⟩

/-- R434. -/
theorem completes_write {w : WriteItem} {aw : Device × Nat} (haw : writeItem (Device.connOf x) w (counted s.dev x) = aw)
    (hok : bitOf h.flags.toNat 0 = false ∨ aw.2 = stOK) (hgood : hdrBad h (.write [w]) = false) :
    Completes (.write h [w]) s (fun d => (∃ n, d.out.head? = some (.dapResp .loc (Device.respOf h (reqOp (.write [w])) stOK n
      (writeResult aw.2)))) ∧ d.dict = aw.1.dict ∧ d.mem = aw.1.mem) := by
  have hconn : Device.connOf (moved s.dev x) = Device.connOf x := (connOf_local hn.own).trans (connOf_local hn.own).symm
  have hwrite : (counted s.dev x).doWrite (Device.connOf (moved s.dev x)) (bitOf h.flags.toNat 0) [w] = (aw.1, writeResult aw.2) := by
    have hany : ¬ (bitOf h.flags.toNat 0 && ([aw.2].any (· != stOK))) = true := by
      rcases hok with hok | hok
      · simp [hok]
      · simp [hok]
    unfold Device.doWrite
    rw [hconn]
    simp only [List.map_cons, List.map_nil, haw, List.foldl_cons, List.foldl_nil, List.nil_append]
    exact if_neg hany
  refine hn.completes (e := aw.1) (n := h.count.toNat) (fun _ => by unfold exec; exact rfl) hmine hgood ?_ (by simp) (fun z hz => ?_) ?_
  · rw [runReq_write, hwrite]
  · have hcl : Closes (counted s.dev x) aw.1 := by
      rw [← haw, connOf_local hn.own]
      exact Closes.writeItem _ w _
    have hz' := hcl z (List.mem_of_find?_eq_some hz)
    have hm : (counted s.dev x).mgmt = (withMoved s.dev x).mgmt := Device.addNum_mgmt ..
    rw [hm] at hz'
    obtain ⟨u, -, hu⟩ := List.mem_map.1 hz'
    by_cases hsid : u.sid = x.sid
    · rw [if_pos hsid] at hu
      rw [← hu]
      exact hn.alone
    · rw [if_neg hsid] at hu
      exact absurd (hu ▸ sid_of_session hz) hsid
  · obtain ⟨hdict, hmem, -⟩ := servedBy_spec aw.1 x.sid (Device.respOf h (reqOp (.write [w])) stOK h.count.toNat (writeResult aw.2))
    exact ⟨hdict, hmem⟩

/-- R435: a DOMAIN object that has no rule of its own for reads. -/
theorem completes_dread {a : ObjAddr} {off len : BitVec 32} (hst : s.dev.readStatus x.ceil a.idx.toNat a.sub.toNat a.inst.toNat = stOK)
    (hsub : a.sub.toNat ≠ 0) (hdom : (objRow a.idx.toNat a.sub.toNat).any (fun r => r.ty == .dom) = true) (h1 : a.idx.toNat ≠ 0x1D02)
    (h2 : a.idx.toNat ≠ 0x1E00) (hgood : hdrBad h (.dread a off.toNat len.toNat) = false) :
    let b := (counted s.dev x).domSlice (some (moved s.dev x)) a.idx.toNat a.sub.toNat a.inst.toNat off.toNat (min len.toNat 1360)
    Completes (.dread h a off len) s (fun d => (∃ n, d.out.head? = some (.dapResp .loc (Device.respOf h
      (reqOp (.dread a off.toNat len.toNat)) stOK n (leBytes 1 0 ++ leBytes 1 0 ++ leBytes 2 b.length ++
        leBytes 4 ((counted s.dev x).domLen (some (moved s.dev x)) a.idx.toNat a.sub.toNat a.inst.toNat) ++ b)))) ∧
      d.dict = (counted s.dev x).dict ∧ d.mem = s.dev.mem) := by
  intro b
  obtain ⟨r, hr, hty⟩ := (Option.any_eq_true ..).1 hdom
  have hread : (counted s.dev x).doDread (moved s.dev x) a off.toNat len.toNat = (counted s.dev x, leBytes 1 0 ++ leBytes 1 0 ++
      leBytes 2 b.length ++ leBytes 4 ((counted s.dev x).domLen (some (moved s.dev x)) a.idx.toNat a.sub.toNat a.inst.toNat) ++ b) := by
    have hst' : (counted s.dev x).readStatus (moved s.dev x).ceil a.idx.toNat a.sub.toNat a.inst.toNat = stOK := hst
    have hok : (if a.sub.toNat = 0 || r.ty != .dom then stType
        else if a.idx.toNat = 0x1D02 ∧ a.sub.toNat = 4 ∧ (moved s.dev x).nonce.isSome ∧ (moved s.dev x).quote = [] then stBusy else stOK) = stOK := by
      rw [if_neg (by simp [hsub, beq_iff_eq.1 hty]), if_neg fun hc => h1 hc.1]
    unfold Device.doDread
    dsimp only
    rw [hst', if_neg (not_not.2 rfl), hr]
    dsimp only
    refine (if_neg (not_not.2 hok)).trans ?_
    rw [if_neg fun hc => h2 hc.1]
  refine hn.completes (e := counted s.dev x) (n := h.count.toNat) (fun _ => by unfold exec; exact rfl) hmine hgood ?_ (by simp)
    hn.heldF_counted ?_
  · rw [runReq_dread, hread]
  · obtain ⟨hdict, hmem, -⟩ := servedBy_spec (counted s.dev x) x.sid (Device.respOf h (reqOp (.dread a off.toNat len.toNat)) stOK
      h.count.toNat (leBytes 1 0 ++ leBytes 1 0 ++ leBytes 2 b.length ++
        leBytes 4 ((counted s.dev x).domLen (some (moved s.dev x)) a.idx.toNat a.sub.toNat a.inst.toNat) ++ b))
    exact ⟨hdict, hmem.trans (mem_counted ..)⟩

omit hmine in
/-- R435: one segment writes a whole DOMAIN object. -/
theorem doDwrite_whole {i sub inst : Nat} {a : ObjAddr} {data : List Byte} (hi : a.idx.toNat = i) (hsub : a.sub.toNat = sub)
    (hinst : a.inst.toNat = inst) (hst : domStatus s.dev (.session (BitVec.ofNat 32 x.sid)) i sub inst = stOK) (hown : i ∉ ownDomain)
    (hlen : (domLimit i sub).1 = data.length) :
    (counted s.dev x).doDwrite (moved s.dev x) (Device.connOf (moved s.dev x)) a true true 0 data.length data =
      (((((counted s.dev x).modSession x.sid (fun y => { y with staging := none })).setDom i sub inst
        (Device.storedBytes i sub data)).touched i sub inst), stOK) := by
  have hsid : (BitVec.ofNat 32 x.sid).toNat = x.sid := by
    rw [sid_of_session hn.found, BitVec.toNat_ofNat]
    exact Nat.mod_eq_of_lt h.session.isLt
  let e : Device := (counted s.dev x).modSession x.sid (fun y => { y with staging := none })
  have he : e = (counted s.dev x).setSession { moved s.dev x with staging := none } := by
    show (counted s.dev x).modSession x.sid _ = _
    unfold Device.modSession
    rw [hn.session_counted]
  have hes : e.session x.sid = some { moved s.dev x with staging := none } := by
    rw [he]
    exact session_setSession_same hn.session_counted rfl
  have hnum {i s' : Nat} (h : homeIdx 0x1002 ≠ homeIdx i) (hs : s' < 256) : e.num i s' = s.dev.num i s' := by
    rw [he, num_setSession]
    exact num_counted _ _ h hs
  have h0 := hn.session
  rw [← hsid] at h0 hes
  have hc0 : (counted s.dev x).session (BitVec.ofNat 32 x.sid).toNat = some (moved s.dev x) := by
    rw [hsid]
    exact hn.session_counted
  have hst1 : domStatus (counted s.dev x) (.session (BitVec.ofNat 32 x.sid)) i sub inst = stOK :=
    (domStatus_congr h0 hc0 (by exact rfl) (num_counted _ _ (by decide) (by decide)) (num_counted _ _ (by decide) (by decide))
      (num_counted _ _ (by decide) (by decide)) ..).trans hst
  have hst2 : domStatus e (.session (BitVec.ofNat 32 x.sid)) i sub inst = stOK :=
    (domStatus_congr h0 hes (by exact rfl) (hnum (by decide) (by decide)) (hnum (by decide) (by decide))
      (hnum (by decide) (by decide)) ..).trans hst
  have hconn : Device.connOf (moved s.dev x) = .session (BitVec.ofNat 32 x.sid) := connOf_local hn.own
  have hchg : e.mgmt.changes = (counted s.dev x).mgmt.changes := by rw [he]; rfl
  unfold Device.doDwrite
  dsimp only
  rw [hconn, hi, hsub, hinst, hst1, if_pos rfl, if_neg (not_not.2 rfl), if_neg (by omega)]
  unfold Device.segment
  dsimp only
  rw [if_neg (by simp), if_pos rfl]
  unfold Device.commit
  dsimp only
  show (if Map.get 0 e.mgmt.changes (okey i sub inst) ≠ Map.get 0 (counted s.dev x).mgmt.changes (okey i sub inst) ||
    domStatus e (.session (BitVec.ofNat 32 x.sid)) i sub inst ≠ stOK then _ else domHook (.session (BitVec.ofNat 32 x.sid)) i sub inst ([] ++ data) e) = _
  rw [hchg, hst2, if_neg (by simp), List.nil_append]
  exact domHook_plain hown hlen

/-- R435. -/
theorem completes_dwrite {a : ObjAddr} {len : BitVec 32} {data : List Byte}
    (hst : domStatus s.dev (.session (BitVec.ofNat 32 x.sid)) a.idx.toNat a.sub.toNat a.inst.toNat = stOK) (hown : a.idx.toNat ∉ ownDomain)
    (hl : len.toNat = data.length) (hlen : (domLimit a.idx.toNat a.sub.toNat).1 = data.length)
    (hgood : hdrBad h (.dwrite a true true 0 len.toNat data) = false) :
    Completes (.dwrite h a true true 0 len data) s (fun d => (∃ n, d.out.head? = some (.dapResp .loc (Device.respOf h
      (reqOp (.dwrite a true true 0 len.toNat data)) stOK n (writeResult stOK)))) ∧
      d.domOf a.idx.toNat a.sub.toNat a.inst.toNat = Device.storedBytes a.idx.toNat a.sub.toNat data ∧ d.mem = s.dev.mem) := by
  let e : Device := (counted s.dev x).modSession x.sid (fun y => { y with staging := none })
  let e' : Device := (e.setDom a.idx.toNat a.sub.toNat a.inst.toNat (Device.storedBytes a.idx.toNat a.sub.toNat data)).touched
    a.idx.toNat a.sub.toNat a.inst.toNat
  have he : e = (counted s.dev x).setSession { moved s.dev x with staging := none } := by
    show (counted s.dev x).modSession x.sid _ = _
    unfold Device.modSession
    rw [hn.session_counted]
  have hes : e'.session x.sid = some { moved s.dev x with staging := none } := by
    show e.session x.sid = _
    rw [he]
    exact session_setSession_same hn.session_counted rfl
  have hmem : e'.mem = s.dev.mem := by
    show e.mem = _
    rw [he]
    exact mem_counted ..
  refine hn.completes (e := e') (n := h.count.toNat) (fun _ => by unfold exec; exact rfl) hmine hgood ?_ (by simp) (fun z hz => ?_) ?_
  · rw [runReq_dwrite, hl, hn.doDwrite_whole rfl rfl rfl hst hown hlen]
  · rw [hes] at hz
    cases hz
    exact hn.alone
  · obtain ⟨hdict, hm, -⟩ := servedBy_spec e' x.sid (Device.respOf h (reqOp (.dwrite a true true 0 len.toNat data)) stOK
      h.count.toNat (writeResult stOK))
    exact ⟨(domOf_eq (congrArg DictS.dom hdict) _ _ _).trans (Device.domOf_setDom_same ..), hm.trans hmem⟩

omit hmine in
/-- R437: the lease is taken where nobody else holds it. -/
theorem doClaim_free {role : Nat} (force : Bool) (h2 : 2 ≤ role) (h3 : role ≤ 3) (hceil : role ≤ x.ceil) (h4 : x.ceil ≠ 4)
    (hl : s.dev.lease = 0 ∨ s.dev.lease = x.sid) :
    ∃ e, (counted s.dev x).doClaim (moved s.dev x) role force = (e, stOK, role) ∧ e.lease = x.sid ∧
      ∃ z, e.session x.sid = some z ∧ z.next = (moved s.dev x).next ∧ z.lastNs = (moved s.dev x).lastNs ∧ z.role = role ∧ z.heldF = [] := by
  have hlease : (counted s.dev x).lease = s.dev.lease := num_counted _ _ (by decide) (by decide)
  have hclaim : (counted s.dev x).doClaim (moved s.dev x) role force =
      (((counted s.dev x).setLease x.sid).modSession x.sid (fun y => { y with role := role }), stOK, role) := by
    unfold Device.doClaim
    rw [if_neg (by omega), if_neg (by rintro (hc | hc); exacts [absurd hceil (Nat.not_le.2 hc), h4 hc])]
    exact if_pos (by rw [hlease]; exact hl)
  obtain ⟨g, hg, hgl, hgs⟩ : ∃ g, (counted s.dev x).setLease x.sid = g ∧ g.lease = x.sid ∧ g.session x.sid = some (moved s.dev x) := by
    refine ⟨_, rfl, ?_, ?_⟩
    · unfold Device.setLease
      dsimp only
      split
      · exact Device.num_setNum_same ..
      · split
        · exact (num_setSession ..).trans (Device.num_setNum_same ..)
        · exact Device.num_setNum_same ..
    · have hset : ((counted s.dev x).setNum 0x1001 7 0 x.sid).session x.sid = some (moved s.dev x) :=
        (session_of_mgmt_eq (Device.setNum_mgmt ..) _).trans hn.session_counted
      unfold Device.setLease
      dsimp only
      split
      · exact hset
      · rename_i hne
        split
        · rename_i w hw
          refine (session_setSession_ne ?_).trans hset
          rw [← sid_of_session hw] at hne
          exact hne
        · exact hset
  refine ⟨_, hclaim, ?_⟩
  rw [hg]
  unfold Device.modSession
  rw [hgs]
  refine ⟨(num_setSession ..).trans hgl, { moved s.dev x with role := role }, session_setSession_same hgs rfl, rfl, rfl, rfl, hn.alone⟩

theorem completes_claim {role : Byte} {force : Bool} (h2 : 2 ≤ role.toNat) (h3 : role.toNat ≤ 3) (hceil : role.toNat ≤ x.ceil)
    (h4 : x.ceil ≠ 4) (hl : s.dev.lease = 0 ∨ s.dev.lease = x.sid) (hgood : hdrBad h (.claim role.toNat force) = false) :
    Completes (.claim h role force) s (fun d => (∃ n, d.out.head? = some (.dapResp .loc (Device.respOf h
      (reqOp (.claim role.toNat force)) stOK n (leBytes 1 0 ++ leBytes 1 role.toNat ++ leBytes 2 0)))) ∧ d.lease = x.sid ∧
      ∃ z, d.session x.sid = some z ∧ z.next = (moved s.dev x).next ∧ z.lastNs = (moved s.dev x).lastNs ∧ z.role = role.toNat) := by
  obtain ⟨e, he, hlease, z, hz, hnext, hlast, hrole, hheld⟩ := hn.doClaim_free force h2 h3 hceil h4 hl
  refine hn.completes (e := e) (n := h.count.toNat) (fun _ => by unfold exec; exact rfl) hmine hgood ?_ (by simp) (fun w hw => ?_) ?_
  · rw [runReq_claim, he]
    rfl
  · rw [hz] at hw
    cases hw
    exact hheld
  · obtain ⟨hdict, -, -, hsome, -⟩ := servedBy_spec e x.sid (Device.respOf h (reqOp (.claim role.toNat force)) stOK h.count.toNat
      (leBytes 1 0 ++ leBytes 1 role.toNat ++ leBytes 2 0))
    obtain ⟨c, hc⟩ := hsome z hz
    exact ⟨(num_of_dict_eq hdict ..).trans hlease, _, hc, hnext, hlast, hrole⟩

/-- R439. -/
theorem completes_subscribe {minsev : Byte} {mask : BitVec 16} (hmask : mask.toNat ≠ 0)
    (hgood : hdrBad h (.subscribe minsev.toNat mask.toNat) = false) :
    Completes (.subscribe h minsev mask) s (fun d => (∃ n, d.out.head? = some (.dapResp .loc (Device.respOf h
      (reqOp (.subscribe minsev.toNat mask.toNat)) stOK n []))) ∧
      ∃ z, d.session x.sid = some z ∧ z.next = (moved s.dev x).next ∧ z.lastNs = (moved s.dev x).lastNs ∧
        z.sub = some { minsev := minsev.toNat, mask := mask.toNat, recSeq := s.dev.num 0x1E00 2 }) := by
  let sub : Subscr := { minsev := minsev.toNat, mask := mask.toNat, recSeq := s.dev.num 0x1E00 2 }
  have hmod : (counted s.dev x).modSession (moved s.dev x).sid (fun y => { y with
      sub := if mask.toNat = 0 then none else some { minsev := minsev.toNat, mask := mask.toNat, recSeq := (counted s.dev x).num 0x1E00 2 } }) =
      (counted s.dev x).setSession { moved s.dev x with sub := some sub } := by
    unfold Device.modSession
    rw [show (counted s.dev x).session (moved s.dev x).sid = some (moved s.dev x) from hn.session_counted, if_neg hmask,
      num_counted _ _ (by decide) (by decide)]
  have hz : ((counted s.dev x).setSession { moved s.dev x with sub := some sub }).session x.sid = some { moved s.dev x with sub := some sub } :=
    session_setSession_same hn.session_counted rfl
  refine hn.completes (e := (counted s.dev x).setSession { moved s.dev x with sub := some sub }) (n := 0)
    (fun _ => by unfold exec; exact rfl) hmine hgood ?_ (by simp) (fun w hw => ?_) ?_
  · rw [runReq_subscribe, hmod]
  · rw [hz] at hw
    cases hw
    exact hn.alone
  · obtain ⟨-, -, -, hsome, -⟩ := servedBy_spec ((counted s.dev x).setSession { moved s.dev x with sub := some sub }) x.sid
      (Device.respOf h (reqOp (.subscribe minsev.toNat mask.toNat)) stOK 0 [])
    obtain ⟨c, hc⟩ := hsome _ hz
    exact ⟨_, hc, rfl, rfl, rfl⟩

/-- R438. -/
theorem completes_keepalive (hgood : hdrBad h .keepalive = false) :
    Completes (.keepalive h) s (fun d => (∃ n, d.out.head? = some (.dapResp .loc (Device.respOf h (reqOp .keepalive) stOK n []))) ∧
      d.dict = (counted s.dev x).dict ∧
      ∃ z, d.session x.sid = some z ∧ z.next = (moved s.dev x).next ∧ z.lastNs = (moved s.dev x).lastNs ∧ z.sub = x.sub) := by
  refine hn.completes (e := counted s.dev x) (n := 0) (fun _ => by unfold exec; exact rfl) hmine hgood rfl (by simp) hn.heldF_counted ?_
  obtain ⟨hdict, -, -, hsome, -⟩ := servedBy_spec (counted s.dev x) x.sid (Device.respOf h (reqOp .keepalive) stOK 0 [])
  obtain ⟨c, hc⟩ := hsome _ hn.session_counted
  exact ⟨hdict, _, hc, rfl, rfl, rfl⟩

/-- R431: BYE closes the session after its answer. -/
theorem completes_bye (hgood : hdrBad h .bye = false) :
    Completes (.bye h) s (fun d => (∃ n, d.out.head? = some (.dapResp .loc (Device.respOf h (reqOp .bye) stOK n []))) ∧
      d.session x.sid = none ∧ (s.dev.lease = x.sid → x.sid ≠ 0 → d.lease = 0)) := by
  let r : DapResp := Device.respOf h (reqOp .bye) stOK 0 []
  let e : Device := servedBy (counted s.dev x) x.sid r
  obtain ⟨hdict, -, hout, hsome, -⟩ := servedBy_spec (counted s.dev x) x.sid r
  obtain ⟨c, hc⟩ := hsome _ hn.session_counted
  have hturn : (withMoved s.dev x).turn (moved s.dev x) h .bye = e.closeSession x.sid := by
    have hm : (withMoved s.dev x).mine h = true := (mine_withMoved ..).trans hmine
    unfold Device.turn Device.execReq
    rw [if_pos hm, hn.loc]
    exact if_pos rfl
  refine completes_run_eq (c := .bye h) (X := e.closeSession x.sid) (f := fun d => d.dapFrame h .bye) (fun _ => by unfold exec; exact rfl)
    ((hn.dapFrame hgood).trans ?_) ⟨⟨0, ?_⟩, session_closeSession .., fun hl _ => ?_⟩
  · rw [hturn, drain_idle]
    intro z hz
    rw [session_closeSession] at hz
    cases hz
  · have hclose : (e.closeSession x.sid).out = e.out := by
      unfold Device.closeSession
      split
      · rfl
      · simp [apply_ite Device.out]
    rw [hclose, hout]
    rfl
  · refine lease_closeSession hc ?_
    have hcount : (counted s.dev x).lease = s.dev.lease := num_counted _ _ (by decide) (by decide)
    exact (num_of_dict_eq hdict ..).trans (hcount.trans hl)

omit hmine in
/-- R440: a frame for another device goes out as fragments. -/
theorem completes_forward {f : List Byte} (hother : s.dev.mine h = false) (hgood : hdrBad h (.forward f) = false) :
    Completes (.dapForward h f) s (fun d =>
      d.out = .dapFrag h.target.toNat x.ceil (forwardBytes h (.forward f)) :: s.dev.out ∧ d.dict = s.dev.dict ∧
      (x.sid, h.seq.toNat, fieldB f 1 1, h.target.toNat, s.dev.time.nowNs) ∈ d.mgmt.fwd ∧
      ∃ z, d.session x.sid = some z ∧ z.next = (moved s.dev x).next ∧ z.lastNs = (moved s.dev x).lastNs ∧ True) := by
  let e : Device := (withMoved s.dev x).forwardReq (moved s.dev x) h (.forward f)
  have hes : e.session x.sid = some (moved s.dev x) := hn.session_moved
  have hturn : (withMoved s.dev x).turn (moved s.dev x) h (.forward f) = e := by
    have hm : (withMoved s.dev x).mine h = false := (mine_withMoved ..).trans hother
    unfold Device.turn
    rw [hm]
    rfl
  refine completes_run_eq (c := .dapForward h f) (X := e) (f := fun d => if d.mine h then d.frameBytes h.link f else d.dapFrame h (.forward f))
    (fun _ => by unfold exec; exact rfl) ?_ ⟨rfl, rfl, List.mem_append_right _ (List.mem_singleton.2 rfl), _, hes, rfl, rfl, trivial⟩
  rw [hother]
  refine (hn.dapFrame hgood).trans ?_
  rw [hturn, drain_idle]
  intro z hz
  rw [hes] at hz
  cases hz
  exact hn.alone

end NextFrame

/-- Settles O43: the next frame of the window runs once; each request by what it does. -/
theorem dapRequests : Obligations.DapRequests := by
  unfold Obligations.DapRequests
  intro s h x a w items off len data f role minsev mask force
  dsimp only
  intro hloc hup hx hlink hsrc hheld hseq hcache
  have hn : NextFrame s h x := ⟨hloc, hup, hx, hlink, hsrc, hheld, hseq, hcache⟩
  refine ⟨fun hmine => ⟨fun hfit hgood => ?_, fun hbig hgood => ?_, fun hok hgood => ?_, fun hst hsub hdom h1 h2 hgood => ?_,
    fun hst hown hl hlen hgood => ?_, fun h2 h3 hceil h4 hl hgood => ?_, fun hmask hgood => ?_, fun hgood => ?_, fun hgood => ?_⟩,
    fun hother hgood => ?_⟩
  · exact hn.completes_read hmine (if_neg (Nat.not_lt.2 hfit)) hgood
  · exact hn.completes_read hmine (if_pos hbig) hgood
  · exact hn.completes_write hmine rfl hok hgood
  · exact hn.completes_dread hmine hst hsub hdom h1 h2 hgood
  · exact hn.completes_dwrite hmine hst hown hl hlen hgood
  · exact hn.completes_claim hmine h2 h3 hceil h4 hl hgood
  · exact hn.completes_subscribe hmine hmask hgood
  · exact hn.completes_keepalive hmine hgood
  · exact hn.completes_bye hmine hgood
  · exact hn.completes_forward hother hgood

end Sys2Proof.Machine

/-! PROOFS. Training and codewords of a port (R387 to R389, R394 to R398). -/

namespace Sys2Proof.Machine

/-! ### Ports -/

theorem port_modPort (d : Device) (p q : Nat) (f : PortS → PortS) : (d.modPort p f).port q = if q = p then f (d.port p) else d.port q := by
  by_cases h : q = p
  · rw [if_pos h, h]
    exact Map.get_upd_same ..
  · rw [if_neg h]
    exact Map.get_upd_ne _ _ _ (Ne.symm h)

theorem port_modPort_same (d : Device) (p : Nat) (f : PortS → PortS) : (d.modPort p f).port p = f (d.port p) :=
  (port_modPort ..).trans (if_pos rfl)

theorem port_of_link_eq {d e : Device} (h : e.link = d.link) (q : Nat) : e.port q = d.port q :=
  congrArg (fun l : LinkS => Map.get ({} : PortS) l.ports q) h

theorem num_modPort (d : Device) (p : Nat) (f : PortS → PortS) (i s k : Nat) : (d.modPort p f).num i s k = d.num i s k :=
  num_of_dict_eq (d := d) (e := d.modPort p f) rfl i s k

/-- What the events of ports leave: the objects of the port but its count of retrains. -/
theorem num_raise_port (d : Device) {c : Nat} (hc : c ∈ [0x5001, 0x5002, 0x5003, 0x5004, 0x5005, 0x5006]) (ua ui a b : Nat) {s k : Nat}
    (h6 : s ≠ 6) (h7 : s ≠ 7) (hs : s < 256) (hk : k < 65536) (hui : ui < 65536) :
    (d.raise c ua ui a b).num 0x70B0 s k = d.num 0x70B0 s k := by
  refine (keeps_raise d c ua ui a b).num _ _ _ fun hm => ?_
  have hctr : ∀ c ∈ [0x5001, 0x5002, 0x5003, 0x5004, 0x5005, 0x5006], ∀ x ∈ (evRow c).ctr ++ (evRow 0x2207).ctr,
      homeIdx x.1 ≠ 0x70B0 ∨ x.2 = 6 ∨ x.2 = 7 := by with_unfolding_all decide
  have hraw : ∀ c ∈ [0x5001, 0x5002, 0x5003, 0x5004, 0x5005, 0x5006], c / 4096 < 256 := by decide
  have h0 : homeIdx 0x70B0 = 0x70B0 := rfl
  obtain ⟨o, ho, hkey⟩ := List.mem_map.1 hm
  rcases List.mem_append.1 ho with ho | ho
  · have h11 : homeIdx 0x1100 = 0x1100 := rfl
    have h14 : homeIdx 0x1401 = 0x1401 := rfl
    have h1e : homeIdx 0x1E00 = 0x1E00 := rfl
    have h1f : homeIdx 0x1E01 = 0x1E01 := rfl
    have hcl := hraw c hc
    simp only [List.mem_cons, List.not_mem_nil, or_false] at ho
    unfold okey at hkey
    rcases ho with rfl | rfl | rfl | rfl | rfl | rfl | rfl | rfl | rfl | rfl | rfl | rfl | rfl <;>
      · dsimp only at hkey
        omega
  · obtain ⟨x, hx, rfl⟩ := List.mem_map.1 ho
    have hlt : x.2 < 256 := (List.mem_append.1 hx).elim (ctr_sub_lt _) (ctr_sub_lt _)
    have hinst : (if objInsts x.1 = 0 then 0 else ui) < 65536 := by split <;> omega
    have hne := hctr c hc x hx
    unfold okey at hkey
    dsimp only at hkey
    omega

theorem link_recomputeTree (d : Device) : d.recomputeTree.link = d.link := by
  have hsend (e : Device) (n : Nat) : (e.sendPathlat n).link = e.link := by
    unfold Device.sendPathlat
    exact forN_same Device.link (fun _ _ => by exact view_ite rfl rfl) 12 e
  exact view_ite (v := Device.link)
    ((hsend ..).trans ((Device.setNum_link ..).trans ((Device.setNum_link ..).trans (Device.setNum_link ..))))
    ((Device.setNum_link ..).trans (Device.setNum_link ..))

theorem mem_recomputeTree (d : Device) : d.recomputeTree.mem = d.mem := by
  have hsend (e : Device) (n : Nat) : (e.sendPathlat n).mem = e.mem := by
    unfold Device.sendPathlat
    exact forN_same Device.mem (fun _ _ => by exact view_ite rfl rfl) 12 e
  exact view_ite (v := Device.mem)
    ((hsend ..).trans ((Device.setNum_mem ..).trans ((Device.setNum_mem ..).trans (Device.setNum_mem ..))))
    ((Device.setNum_mem ..).trans (Device.setNum_mem ..))

/-- Marking links changes no port, no event, no byte, and of the dictionary only the tree and the down-set. -/
theorem markLinks_spec (d : Device) (l : List Nat) (b : Bool) :
    (∀ q, (d.markLinks l b).port q = d.port q) ∧ (d.markLinks l b).mem = d.mem ∧ (d.markLinks l b).evt = d.evt ∧
      ∀ s k, s < 256 → k < 65536 → (d.markLinks l b).num 0x70B0 s k = d.num 0x70B0 s k := by
  obtain ⟨x, hx, hm, he, hn, hX⟩ : ∃ x : Device, (∀ q, x.port q = d.port q) ∧ x.mem = d.mem ∧ x.evt = d.evt ∧
      (∀ i s k, x.num i s k = d.num i s k) ∧ d.markLinks l b = x.recomputeTree := by
    refine ⟨_, ?_, ?_, ?_, ?_, rfl⟩
    · exact fun q => rfl
    · rfl
    · rfl
    · exact fun i s k => (num_of_dict_eq (d := d.setDom _ _ _ _) (by exact rfl) ..).trans (Device.num_setDom ..)
  rw [hX]
  exact ⟨fun q => (port_of_link_eq (link_recomputeTree x) q).trans (hx q), (mem_recomputeTree x).trans hm,
    (cad_recomputeTree x).2.trans he, fun s k hs hk => (num_recomputeTree x (by decide) hs hk).trans (hn _ s k)⟩

/-! ### A port that is marked down (R397, R398) -/

theorem dropPackets_spec (d : Device) (p : Nat) : (d.dropPackets p).dict = d.dict ∧ (d.dropPackets p).mem = d.mem ∧
    (d.dropPackets p).evt = d.evt ∧ ((d.dropPackets p).port p).step = (d.port p).step := by
  have hdict : (d.dropPackets p).dict = d.dict :=
    Device.foldl_same Device.dict (fun d (t : Transit) => d.freeSlots t.inPort t.cls (packetSlots t.hdr)) (fun _ _ => rfl) _ _
  have hmem : (d.dropPackets p).mem = d.mem :=
    Device.foldl_same Device.mem (fun d (t : Transit) => d.freeSlots t.inPort t.cls (packetSlots t.hdr)) (fun _ _ => rfl) _ _
  have hevt : (d.dropPackets p).evt = d.evt :=
    Device.foldl_same Device.evt (fun d (t : Transit) => d.freeSlots t.inPort t.cls (packetSlots t.hdr)) (fun _ _ => rfl) _ _
  have hfree (e : Device) (q c n : Nat) : ((e.freeSlots q c n).port p).step = (e.port p).step := by
    refine (congrArg PortS.step (port_modPort e q p _)).trans ?_
    split
    · rename_i h
      rw [h]
    · rfl
  refine ⟨hdict, hmem, hevt, ?_⟩
  refine (Device.foldl_same (fun d : Device => (d.port p).step) (fun d (t : Transit) => d.freeSlots t.inPort t.cls (packetSlots t.hdr))
    (fun e t => hfree e _ _ _) _ _).trans ?_
  rw [port_modPort_same]

theorem portDown_spec (d : Device) {p : Nat} (hp : p < 12) : (∀ q, (d.portDown p).port q = d.port q) ∧ (d.portDown p).mem = d.mem ∧
    (d.portDown p).evt = d.evt ∧ (d.portDown p).num 0x70B0 1 (p + 1) = 0 ∧
    ∀ s, s ≠ 1 → s < 256 → (d.portDown p).num 0x70B0 s (p + 1) = d.num 0x70B0 s (p + 1) := by
  let x : Device := (d.setNum 0x70B0 1 (p + 1) 0).setNum 0x1700 6 0 (d.num 0x1700 6 &&& (0xFFFF - 2 ^ p))
  have hport (q : Nat) : x.port q = d.port q := port_of_link_eq ((Device.setNum_link ..).trans (Device.setNum_link ..)) q
  have hmem : x.mem = d.mem := (Device.setNum_mem ..).trans (Device.setNum_mem ..)
  have hevt : x.evt = d.evt := (Device.setNum_evt ..).trans (Device.setNum_evt ..)
  have hone : x.num 0x70B0 1 (p + 1) = 0 :=
    (Device.num_setNum_ne _ _ (okey_ne_idx (by decide) (by omega))).trans (Device.num_setNum_same ..)
  have hsub (s : Nat) (h : s ≠ 1) (hs : s < 256) : x.num 0x70B0 s (p + 1) = d.num 0x70B0 s (p + 1) :=
    (Device.num_setNum_ne _ _ (okey_ne_idx (by decide) (by omega))).trans (Device.num_setNum_ne _ _ (okey_ne_sub h.symm (by omega)))
  obtain ⟨m1, m2, m3, m4⟩ := markLinks_spec x [d.position + 4096 * p] true
  have hX : d.portDown p = if x.downEntries.contains (x.position + 4096 * p) then x
      else (x.markLinks [x.position + 4096 * p] true).send (.downset x.position p true) := rfl
  rw [hX]
  obtain ⟨m1, m2, m3, m4⟩ := markLinks_spec x [x.position + 4096 * p] true
  split
  · exact ⟨hport, hmem, hevt, hone, hsub⟩
  · refine ⟨fun q => (m1 q).trans (hport q), m2.trans hmem, m3.trans hevt, ?_, fun s h hs => ?_⟩
    · rw [num_send, m4 _ _ (by decide) (by omega), hone]
    · rw [num_send, m4 _ _ hs (by omega), hsub s h hs]

theorem portLost_spec (d : Device) {p : Nat} (hp : p < 12) : ((d.portLost p).port p).step = 0 ∧ (d.portLost p).mem = d.mem ∧
    (d.portLost p).evt = d.evt ∧ (d.portLost p).num 0x70B0 1 (p + 1) = 0 ∧
    ∀ s, s ≠ 1 → s < 256 → (d.portLost p).num 0x70B0 s (p + 1) = d.num 0x70B0 s (p + 1) := by
  let x : Device := d.modPort p (fun x => { x with
    step := 0, attempt := 0, unacked := x.txNext, nak := false, nakDue := false, slots := [], kept := [], ctlq := [] })
  have hstep : (x.port p).step = 0 := congrArg PortS.step (port_modPort_same d p _)
  obtain ⟨d1, d2, d3, d4⟩ := dropPackets_spec x p
  obtain ⟨h1, h2, h3, h4, h5⟩ := portDown_spec (x.dropPackets p) hp
  have hX : d.portLost p = (x.dropPackets p).portDown p := rfl
  rw [hX]
  exact ⟨by rw [h1, d4, hstep], h2.trans d2, h3.trans d3, h4, fun s h hs => (h5 s h hs).trans (num_of_dict_eq (by exact d1) ..)⟩

theorem trainMiswired_spec (d : Device) {p : Nat} (hp : p < 12) : (d.trainMiswired p).num 0x70B0 1 (p + 1) = 5 ∧
    Raised 0x5006 d (d.trainMiswired p) ∧ (d.trainMiswired p).num 0x70B0 2 (p + 1) = d.num 0x70B0 2 (p + 1) := by
  obtain ⟨-, -, he, -, hsub⟩ := portLost_spec (d.raise 0x5006 0x70B0 (p + 1) p) hp
  refine ⟨Device.num_setNum_same .., ?_, ?_⟩
  · exact (d.raise_raised _ _ _ _ (by decide)).of_evt_eq rfl ((Device.setNum_evt ..).trans he)
  · refine (Device.num_setNum_ne _ _ (okey_ne_sub (by decide) (by omega))).trans ((hsub 2 (by decide) (by decide)).trans ?_)
    exact num_raise_port d (by decide) _ _ _ _ (by decide) (by decide) (by decide) (by omega) (by omega)

/-- R397: what a failed attempt leaves. -/
theorem trainFail_spec (d : Device) {p : Nat} (hp : p < 12) : Raised 0x5004 d (d.trainFail p) ∧ (d.trainFail p).mem = d.mem ∧
    ((d.port p).attempt < 4 → ((d.trainFail p).port p).attempt = (d.port p).attempt + 1 ∧
      (d.trainFail p).num 0x70B0 1 (p + 1) = d.num 0x70B0 1 (p + 1)) ∧
    (4 ≤ (d.port p).attempt → (d.trainFail p).num 0x70B0 1 (p + 1) = 0 ∧ Raised 0x5003 d (d.trainFail p) ∧
      ((d.trainFail p).port p).step = 0) := by
  let x : Device := d.raise 0x5004 0x70B0 (p + 1) p
  have hport : x.port p = d.port p := port_of_link_eq (Device.raise_link ..) p
  have hr : Raised 0x5004 d x := d.raise_raised _ _ _ _ (by decide)
  have hm : x.mem = d.mem := Device.raise_mem ..
  by_cases h : 4 ≤ (d.port p).attempt
  · let y : Device := x.raise 0x5003 0x70B0 (p + 1) p (x.num 0x70B0 4 (p + 1))
    have hX : d.trainFail p = y.portLost p := if_pos (by rw [show (x.port p).attempt = _ from congrArg PortS.attempt hport]; exact h)
    obtain ⟨h1, h2, h3, h4, -⟩ := portLost_spec y hp
    have hy : Raised 0x5004 d y := (raised_raise_ne x _ _ _ _ (by decide) (by decide)).trans hr
    rw [hX]
    refine ⟨hy.of_evt_eq rfl h3, h2.trans ((Device.raise_mem ..).trans hm), fun hl => absurd hl (by omega), fun _ => ⟨h4, ?_, h1⟩⟩
    refine Raised.of_evt_eq (e := y) (d := d) ?_ rfl h3
    exact raised_after _ _ _ _ (by decide) (raised_raise_ne d _ _ _ _ (by decide) (by decide))
  · have hX : ∃ f : PortS → PortS, (∀ z, (f z).attempt = z.attempt + 1) ∧ d.trainFail p = x.modPort p f := by
      unfold Device.trainFail
      dsimp only
      rw [if_neg (by rw [show (x.port p).attempt = _ from congrArg PortS.attempt hport]; exact h)]
      exact ⟨_, fun _ => rfl, rfl⟩
    obtain ⟨f, hf, hX⟩ := hX
    rw [hX]
    refine ⟨hr, hm, fun _ => ⟨?_, ?_⟩, fun hl => absurd hl h⟩
    · rw [port_modPort_same, hf, hport]
    · rw [num_modPort]
      exact num_raise_port d (by decide) _ _ _ _ (by decide) (by decide) (by decide) (by omega) (by omega)

/-! ### The steps of training (R396) -/

theorem trainNext_spec (d : Device) (p : Nat) : ((d.trainNext p).port p).step = (d.port p).step + 1 ∧ (d.trainNext p).mem = d.mem ∧
    ∀ i s k, (d.trainNext p).num i s k = d.num i s k := by
  let x : Device := d.modPort p (fun x => { x with step := (d.port p).step + 1, stepNs := d.time.nowNs })
  have hx : (x.port p).step = (d.port p).step + 1 := congrArg PortS.step (port_modPort_same d p _)
  obtain ⟨a, ha⟩ : ∃ a : List OutMsg, d.trainNext p = { x with out := a } := by
    unfold Device.trainNext
    dsimp only
    split
    · exact ⟨_, rfl⟩
    · split
      · exact ⟨_, rfl⟩
      · exact ⟨_, rfl⟩
  rw [ha]
  exact ⟨hx, rfl, fun i s k => (num_of_dict_eq (d := x) (e := { x with out := a }) rfl ..).trans (num_modPort ..)⟩

theorem trainStep_spec {d : Device} {p : Nat} {res : TrainRes} (ht : d.portTrains p = true) (hok : res.ok = true) (hlt : (d.port p).step < 4) :
    ((d.trainStep p res).port p).step = (d.port p).step + 1 ∧
      (d.trainStep p res).num 0x70B0 1 (p + 1) = d.num 0x70B0 1 (p + 1) ∧ (d.trainStep p res).mem = d.mem := by
  let x : Device := d.modPort p (fun x => { x with precoded := res.precodeHere &&& res.precodeThere, coeffs := res.coeffs })
  have hx : (x.port p).step = (d.port p).step := (congrArg PortS.step (port_modPort_same d p _)).trans rfl
  have hX : d.trainStep p res = if (d.port p).step = 2 then x.trainNext p else d.trainNext p := by
    unfold Device.trainStep
    dsimp only
    rw [if_neg (by simp [ht]), if_neg (by simp [hok]), if_neg (by omega), if_neg (by omega), if_neg (by omega)]
  rw [hX]
  split
  · obtain ⟨h1, h2, h3⟩ := trainNext_spec x p
    exact ⟨h1.trans (by rw [hx]), (h3 ..).trans (num_modPort ..), h2⟩
  · obtain ⟨h1, h2, h3⟩ := trainNext_spec d p
    exact ⟨h1, h3 .., h2⟩

/-- R396 step 7: a port that comes up for the first time. -/
theorem trainUp_spec {d : Device} {p : Nat} (hp : p < 12) (h : d.num 0x70B0 1 (p + 1) ≠ 3) :
    (d.trainUp p).num 0x70B0 1 (p + 1) = 2 ∧ ((d.trainUp p).port p).cred = fullCredits ∧ ((d.trainUp p).port p).txNext = 0 ∧
      ((d.trainUp p).port p).rxNext = 0 ∧ Raised 0x5001 d (d.trainUp p) := by
  let x : Device := (d.setNum 0x70B0 1 (p + 1) 2).setNum 0x1700 6 0 (d.num 0x1700 6 ||| 2 ^ p)
  obtain ⟨f, hc, ht, hr, y, hy, hX⟩ : ∃ f : PortS → PortS, (∀ z, (f z).cred = fullCredits) ∧ (∀ z, (f z).txNext = 0) ∧
      (∀ z, (f z).rxNext = 0) ∧ ∃ y, y = (x.modPort p f).raise 0x5001 0x70B0 (p + 1) p ∧
        d.trainUp p = if y.downEntries.contains (y.position + 4096 * p)
          then (y.markLinks [y.position + 4096 * p] false).send (.downset y.position p false) else y := by
    unfold Device.trainUp
    dsimp only
    rw [if_neg h]
    exact ⟨_, fun _ => rfl, fun _ => rfl, fun _ => rfl, _, rfl, rfl⟩
  have hxs : x.num 0x70B0 1 (p + 1) = 2 := (Device.num_setNum_ne _ _ (okey_ne_idx (by decide) (by omega))).trans (Device.num_setNum_same ..)
  have hyn : y.num 0x70B0 1 (p + 1) = 2 := by
    rw [hy, num_raise_port _ (by decide) _ _ _ _ (by decide) (by decide) (by decide) (by omega) (by omega), num_modPort, hxs]
  have hyp : y.port p = f (x.port p) := by
    rw [hy]
    exact (port_of_link_eq (Device.raise_link ..) p).trans (port_modPort_same ..)
  have hyr : Raised 0x5001 d y := by
    rw [hy]
    refine raised_after _ _ _ _ (by decide) ?_
    show Map.get 0 x.evt.raised _ = _
    rw [show x.evt = d.evt from (Device.setNum_evt ..).trans (Device.setNum_evt ..)]
  clear_value x
  rw [hX]
  obtain ⟨m1, -, m3, m4⟩ := markLinks_spec y [y.position + 4096 * p] false
  split
  · refine ⟨?_, ?_, ?_, ?_, hyr.of_evt_eq rfl m3⟩
    · rw [num_send, m4 _ _ (by decide) (by omega), hyn]
    · exact (congrArg PortS.cred ((m1 p).trans hyp)).trans (hc _)
    · exact (congrArg PortS.txNext ((m1 p).trans hyp)).trans (ht _)
    · exact (congrArg PortS.rxNext ((m1 p).trans hyp)).trans (hr _)
  · rw [hyp]
    exact ⟨hyn, hc _, ht _, hr _, hyr⟩

/-! ### Commands of a port that trains -/

section
variable {s : State} {p : Port}

/-- What a failed attempt shows. -/
def AttemptFails (d : Device) (p : Port) (e : Device) : Prop :=
  Raised 0x5004 d e ∧ e.mem = d.mem ∧
    ((d.port p).attempt < 4 → (e.port p).attempt = (d.port p).attempt + 1 ∧ e.num 0x70B0 1 (p + 1) = d.num 0x70B0 1 (p + 1)) ∧
    (4 ≤ (d.port p).attempt → e.num 0x70B0 1 (p + 1) = 0 ∧ Raised 0x5003 d e ∧ (e.port p).step = 0)

theorem completes_stepDone {res : TrainRes} {P : Device → Prop} (h : P (s.dev.trainStep p.val res)) :
    Completes (.portTrainingStepDone p res) s P :=
  completes_run_eq (c := .portTrainingStepDone p res) (f := fun d => d.trainStep p.val res) (fun _ => by unfold exec; exact rfl) rfl h

theorem completes_stepFails {res : TrainRes} (ht : s.dev.portTrains p.val = true) (hok : res.ok = false) :
    Completes (.portTrainingStepDone p res) s (AttemptFails s.dev p) := by
  have hX : s.dev.trainStep p.val res = s.dev.trainFail p.val := by
    unfold Device.trainStep
    dsimp only
    rw [if_neg (by simp [ht]), if_pos (by simp [hok])]
  refine completes_stepDone ?_
  rw [hX]
  exact trainFail_spec s.dev p.isLt

theorem completes_timeout {P : Device → Prop} {X : Device} (hX : (if s.dev.trainLate p.val then s.dev.trainFail p.val else s.dev) = X)
    (h : P X) : Completes (.portTrainingTimeout p) s P :=
  completes_run_eq (c := .portTrainingTimeout p) (f := fun d => if d.trainLate p.val then d.trainFail p.val else d)
    (fun _ => by unfold exec; exact rfl) hX h

theorem completes_gate {res : TrainRes} (ht : s.dev.portTrains p.val = true) (hok : res.ok = true) (h6 : (s.dev.port p.val).step = 6)
    (hber : res.ber.toNat ≤ berGate) (hun : res.uncorr = 0) (hst : s.dev.num 0x70B0 1 (p.val + 1) = 1) (hms : 1000 ≤ res.gateMs) :
    Completes (.portTrainingStepDone p res) s (fun d => d.num 0x70B0 1 (p.val + 1) = 2 ∧ (d.port p.val).cred = fullCredits ∧
      (d.port p.val).txNext = 0 ∧ (d.port p.val).rxNext = 0 ∧ Raised 0x5001 s.dev d) := by
  let x : Device := (s.dev.setNum 0x70B0 4 (p.val + 1) res.ber.toNat).addNum 0x70B0 5 (p.val + 1) res.uncorr
  have hlt := p.isLt
  have hneed : s.dev.gateNeed p.val = 1000 := if_neg (by omega)
  have hX : s.dev.trainStep p.val res = x.trainUp p.val := by
    unfold Device.trainStep
    dsimp only
    rw [if_neg (by simp [ht]), if_neg (by simp [hok]), if_neg (by omega), if_neg (by omega), if_pos h6, if_neg (by omega),
      if_pos ⟨hber, hun⟩]
  have hx : x.num 0x70B0 1 (p.val + 1) = 1 := by
    show ((s.dev.setNum 0x70B0 4 (p.val + 1) res.ber.toNat).addNum 0x70B0 5 (p.val + 1) res.uncorr).num 0x70B0 1 (p.val + 1) = 1
    rw [num_addNum_ne _ _ (okey_ne_sub (by decide) (by omega)), Device.num_setNum_ne _ _ (okey_ne_sub (by decide) (by omega)), hst]
  have hev : x.evt = s.dev.evt := (Device.addNum_evt ..).trans (Device.setNum_evt ..)
  obtain ⟨h1, h2, h3, h4, h5⟩ := trainUp_spec (d := x) hlt (by omega)
  refine completes_stepDone ?_
  rw [hX]
  exact ⟨h1, h2, h3, h4, h5.of_evt_eq hev.symm rfl⟩

variable {pos shape : BitVec 12} {rail : Fin 2} {port : BitVec 4} {gen : BitVec 3}

theorem identRight_setNum (d : Device) (n x y p a b c e g : Nat) :
    (d.setNum 0x70B0 n x y).identRight p a b c e g = d.identRight p a b c e g := by
  have hshape : (d.setNum 0x70B0 n x y).shape = d.shape := by
    unfold Device.shape
    rw [Device.setNum_link]
  have hpos : (d.setNum 0x70B0 n x y).position = d.position := by
    unfold Device.position
    rw [Device.setNum_link]
  unfold Device.identRight
  rw [hshape, hpos]

theorem completes_ident (ht : s.dev.portTrains p.val = true) (h4 : (s.dev.port p.val).step = 4) :
    Completes (.ident p pos shape rail port gen) s (fun d => d.num 0x70B0 2 (p.val + 1) = pos.toNat ∧
      if s.dev.identRight p.val pos.toNat shape.toNat rail.val port.toNat gen.toNat then
        (d.port p.val).identOk = true ∧ d.num 0x70B0 1 (p.val + 1) = s.dev.num 0x70B0 1 (p.val + 1)
      else d.num 0x70B0 1 (p.val + 1) = 5 ∧ Raised 0x5006 s.dev d) := by
  have hlt := p.isLt
  let x : Device := s.dev.setNum 0x70B0 2 (p.val + 1) pos.toNat
  have hx2 : x.num 0x70B0 2 (p.val + 1) = pos.toNat := Device.num_setNum_same ..
  have hx1 : x.num 0x70B0 1 (p.val + 1) = s.dev.num 0x70B0 1 (p.val + 1) := Device.num_setNum_ne _ _ (okey_ne_sub (by decide) (by omega))
  have hev : x.evt = s.dev.evt := Device.setNum_evt ..
  have hX : (if s.dev.portTrains p.val ∧ (s.dev.port p.val).step = 4 then
      if x.identRight p.val pos.toNat shape.toNat rail.val port.toNat gen.toNat then x.modPort p.val (fun x => { x with identOk := true })
      else x.trainMiswired p.val else s.dev) =
      if s.dev.identRight p.val pos.toNat shape.toNat rail.val port.toNat gen.toNat then x.modPort p.val (fun x => { x with identOk := true })
      else x.trainMiswired p.val := by
    rw [if_pos ⟨ht, h4⟩, identRight_setNum]
  refine completes_run_eq (c := .ident p pos shape rail port gen) (f := fun d =>
    if d.portTrains p.val ∧ (d.port p.val).step = 4 then
      let d := d.setNum 0x70B0 2 (p.val + 1) pos.toNat
      if d.identRight p.val pos.toNat shape.toNat rail.val port.toNat gen.toNat then d.modPort p.val (fun x => { x with identOk := true })
      else d.trainMiswired p.val
    else d) (fun _ => by unfold exec; exact rfl) hX ?_
  by_cases h : s.dev.identRight p.val pos.toNat shape.toNat rail.val port.toNat gen.toNat = true
  · rw [if_pos h, if_pos h]
    refine ⟨(num_modPort ..).trans hx2, ?_, (num_modPort ..).trans hx1⟩
    exact congrArg PortS.identOk (port_modPort_same x p.val (fun x => { x with identOk := true }))
  · rw [if_neg h, if_neg h]
    obtain ⟨h1, h2, h3⟩ := trainMiswired_spec x hlt
    exact ⟨h3.trans hx2, h1, h2.of_evt_eq hev.symm rfl⟩

/-- R396 step 5: the shortest round trip so far. -/
def nearest (best : Option Nat) (rt : Nat) : Nat :=
  match best with
  | some l => min l rt
  | none => rt

theorem completes_lat {st ec now : Nat} (ht : s.dev.portTrains p.val = true) (h5 : (s.dev.port p.val).step = 5)
    (hn : (s.dev.port p.val).latN < 64) (hstale : (s.dev.port p.val).stale = false) :
    Completes (.lat p st ec now) s (fun d =>
      d.port p.val = (if ec = 0 then s.dev.port p.val else { s.dev.port p.val with latN := (s.dev.port p.val).latN + 1, latPs := some (nearest (s.dev.port p.val).latPs (now - ec)) }) ∧
      d.out = .control p.val 9 (BitVec.ofNat 128 (now % 2 ^ 64 + st % 2 ^ 64 * 2 ^ 64)) :: s.dev.out) := by
  have hX : execLat p st ec now s = .next { s with dev := (if ec = 0 then s.dev else s.dev.modPort p.val (fun x => { x with
      latN := x.latN + 1
      latPs := some (nearest (s.dev.port p.val).latPs (now - ec)) })).send (.control p.val 9 (BitVec.ofNat 128 (now % 2 ^ 64 + st % 2 ^ 64 * 2 ^ 64))) } := by
    unfold execLat State.run
    dsimp only
    rw [if_pos ⟨ht, h5, hn, by rw [hstale]; exact Bool.false_ne_true⟩]
    rfl
  refine ⟨_, hX, rfl, ?_⟩
  by_cases h0 : ec = 0
  · rw [if_pos h0, if_pos h0]
    exact ⟨rfl, rfl⟩
  · rw [if_neg h0, if_neg h0]
    exact ⟨port_modPort_same .., rfl⟩

end

/-! ### Errors and eyes (R398) -/

theorem trainStart_spec (d : Device) {p : Nat} (hp : p < 12) : (d.trainStart p true).num 0x70B0 1 (p + 1) = 3 ∧
    ((d.trainStart p true).port p).step = 2 ∧ (d.trainStart p true).evt = d.evt ∧
    ∀ s, s ≠ 1 → s < 256 → (d.trainStart p true).num 0x70B0 s (p + 1) = d.num 0x70B0 s (p + 1) := by
  let x : Device := d.setNum 0x70B0 1 (p + 1) 3
  have hnum (s : Nat) (hs : s < 256) : (x.moveParent p).num 0x70B0 s (p + 1) = x.num 0x70B0 s (p + 1) := by
    unfold Device.moveParent
    split
    · exact Device.num_setNum_ne _ _ (okey_ne_idx (by decide) (by omega))
    · rfl
  have hev : (x.moveParent p).evt = d.evt := by
    unfold Device.moveParent
    split
    · exact (Device.setNum_evt ..).trans (Device.setNum_evt ..)
    · exact Device.setNum_evt ..
  obtain ⟨f, hf, hX⟩ : ∃ f : PortS → PortS, (∀ z, (f z).step = 2) ∧ d.trainStart p true = (x.moveParent p).modPort p f :=
    ⟨_, fun _ => rfl, rfl⟩
  rw [hX]
  refine ⟨?_, ?_, hev, fun s h1 hs => ?_⟩
  · rw [num_modPort, hnum 1 (by decide)]
    exact Device.num_setNum_same ..
  · rw [port_modPort_same, hf]
  · rw [num_modPort, hnum s hs]
    exact Device.num_setNum_ne _ _ (okey_ne_sub h1.symm (by omega))

/-- R398: a run-time retrain. -/
theorem retrain_spec (d : Device) {p : Nat} (hp : p < 12) (b : Nat) :
    ((d.raise 0x5002 0x70B0 (p + 1) p b).trainStart p true).num 0x70B0 1 (p + 1) = 3 ∧
    Raised 0x5002 d ((d.raise 0x5002 0x70B0 (p + 1) p b).trainStart p true) ∧
    (((d.raise 0x5002 0x70B0 (p + 1) p b).trainStart p true).port p).step = 2 ∧
    ((d.raise 0x5002 0x70B0 (p + 1) p b).trainStart p true).num 0x70B0 4 (p + 1) = d.num 0x70B0 4 (p + 1) := by
  obtain ⟨h1, h2, h3, h4⟩ := trainStart_spec (d.raise 0x5002 0x70B0 (p + 1) p b) hp
  refine ⟨h1, (d.raise_raised _ _ _ _ (by decide)).of_evt_eq rfl h3, h2, (h4 4 (by decide) (by decide)).trans ?_⟩
  exact num_raise_port d (by decide) _ _ _ _ (by decide) (by decide) (by decide) (by omega) (by omega)

theorem state_of_up {d : Device} {p : Nat} (h : d.portUp p = true) : d.num 0x70B0 1 (p + 1) = 2 := beq_iff_eq.1 h

section
variable {s : State} {p : Port}

theorem completes_berWindow {ber : BitVec 32} {un : Nat} (hup : s.dev.portUp p.val = true) :
    Completes (.berWindowCheck p ber un) s (fun d => d.num 0x70B0 4 (p.val + 1) = ber.toNat ∧
      if berLimit < ber.toNat ∨ 16 ≤ un then d.num 0x70B0 1 (p.val + 1) = 3 ∧ Raised 0x5002 s.dev d ∧ (d.port p.val).step = 2
      else d.num 0x70B0 1 (p.val + 1) = 2 ∧ d.port p.val = s.dev.port p.val) := by
  have hlt := p.isLt
  let x : Device := s.dev.setNum 0x70B0 4 (p.val + 1) ber.toNat
  have hx4 : x.num 0x70B0 4 (p.val + 1) = ber.toNat := Device.num_setNum_same ..
  refine completes_run_eq (c := .berWindowCheck p ber un) (f := fun d => if d.portUp p.val then
      let d := d.setNum 0x70B0 4 (p.val + 1) ber.toNat
      if berLimit < ber.toNat ∨ 16 ≤ un then (d.raise 0x5002 0x70B0 (p.val + 1) p.val ber.toNat).trainStart p.val true else d
    else d) (X := if berLimit < ber.toNat ∨ 16 ≤ un then (x.raise 0x5002 0x70B0 (p.val + 1) p.val ber.toNat).trainStart p.val true else x)
    (fun _ => by unfold exec; exact rfl) (if_pos hup) ?_
  by_cases h : berLimit < ber.toNat ∨ 16 ≤ un
  · rw [if_pos h, if_pos h]
    obtain ⟨h1, h2, h3, h4⟩ := retrain_spec x hlt ber.toNat
    exact ⟨h4.trans hx4, h1, h2.of_evt_eq (Device.setNum_evt ..).symm rfl, h3⟩
  · rw [if_neg h, if_neg h]
    refine ⟨hx4, ?_, port_of_link_eq (Device.setNum_link ..) _⟩
    exact (Device.num_setNum_ne _ _ (okey_ne_sub (by decide) (by omega))).trans (state_of_up hup)

/-- R398: what an eye monitor's reading does. -/
def eyeRead (u : EyeUnit) (d : Device) : Device :=
  match u with
  | .hbm h ch => d.hbmCalibrate h ch
  | .lane p _ =>
    if d.num 0x70B0 1 (p + 1) = 2 then (d.raise 0x5002 0x70B0 (p + 1) p (d.num 0x70B0 4 (p + 1))).trainStart p true else d

theorem completes_eye {lane : Fin 8} (hup : s.dev.portUp p.val = true) :
    Completes (.eyeMonitorReading (.lane p lane) true) s (fun d => d.num 0x70B0 1 (p.val + 1) = 3 ∧ Raised 0x5002 s.dev d) := by
  obtain ⟨h1, h2, -, -⟩ := retrain_spec s.dev p.isLt (s.dev.num 0x70B0 4 (p.val + 1))
  exact completes_run_eq (c := .eyeMonitorReading (.lane p lane) true) (f := eyeRead (.lane p lane))
    (X := (s.dev.raise 0x5002 0x70B0 (p.val + 1) p.val (s.dev.num 0x70B0 4 (p.val + 1))).trainStart p.val true)
    (fun _ => by unfold exec; exact rfl) (if_pos (state_of_up hup)) ⟨h1, h2⟩

end

/-! ### Codewords that arrive (R388, R389, R394) -/

/-- What the slots and the ACK of a message leave of a port. -/
def orderOf (x : PortS) : Nat × Bool × Bool × Nat × List Nat := (x.rxNext, x.nak, x.stale, x.rxPos, x.levels)

theorem orderOf_holdSlots (x : PortS) (m : Nat) : orderOf (Device.holdSlots x m) = orderOf x := by
  unfold Device.holdSlots
  refine forN_same orderOf (fun y k => ?_) 5 x
  dsimp only
  split
  · rfl
  · split <;> rfl

theorem orderOf_takeAck (x : PortS) (a : Nat) : orderOf (Device.takeAck x a) = orderOf x := by
  unfold Device.takeAck
  dsimp only
  split <;> rfl

section
variable {s : State} {p : Port} {seq : Fin 512} {rp : Bool} {rx : Levels}

/-- The port after one more codeword position. -/
def nextPosition (x : PortS) (rx : Levels) : PortS := { x with rxPos := (x.rxPos + 1) % 4096, levels := lastLevels rx }

/-- The device with that port. -/
def withPosition (d : Device) (p : Nat) (rx : Levels) : Device := d.modPort p (fun x => nextPosition x rx)

theorem port_withPosition (d : Device) (p : Nat) (rx : Levels) : (withPosition d p rx).port p = nextPosition (d.port p) rx :=
  port_modPort_same ..

theorem completes_codeword {P : Device → Prop} (hup : s.dev.portUp p.val = true) (h : P (s.dev.receive p.val seq.val rp rx)) :
    Completes (.codewordReceive p seq rp rx) s P :=
  completes_run_eq (c := .codewordReceive p seq rp rx) (f := fun d => if d.portUp p.val then d.receive p.val seq.val rp rx else d)
    (fun _ => by unfold exec; exact rfl) (if_pos hup) h

theorem receive_align (h : alignPosition (s.dev.port p.val).rxPos = true) :
    s.dev.receive p.val seq.val rp rx = withPosition s.dev p.val rx := if_pos h

theorem receive_data (h : alignPosition (s.dev.port p.val).rxPos = false) :
    s.dev.receive p.val seq.val rp rx = (withPosition s.dev p.val rx).codeword p.val seq.val rp
      (rsDecode (receiveLanes (s.dev.port p.val).precoded (s.dev.port p.val).levels rx)) := if_neg (by rw [h]; exact Bool.false_ne_true)

/-- The next codeword in order is taken. -/
theorem codeword_next (d : Device) {p seq : Nat} {rp : Bool} {w : List Nat × Nat} (h : seq = (d.port p).rxNext) :
    ∃ f, d.codeword p seq rp (some w) = d.modPort p f ∧
      orderOf (f (d.port p)) = ((seq + 1) % 512, false, rp, (d.port p).rxPos, (d.port p).levels) := by
  refine ⟨_, if_pos h, ?_⟩
  dsimp only
  rw [h]
  split
  · exact orderOf_holdSlots ..
  · exact (orderOf_takeAck ..).trans (orderOf_holdSlots ..)

/-- A codeword that cannot be corrected is counted. -/
theorem codeword_none (d : Device) {p seq : Nat} {rp : Bool} :
    d.codeword p seq rp none = if (d.port p).nak && seq != (d.port p).rxNext then d.addNum 0x70B0 5 (p + 1) 1
      else ((d.addNum 0x70B0 5 (p + 1) 1).modPort p (fun x => { x with nak := true, nakDue := true })).send
        (.nak p (((d.port p).rxNext + 511) % 512)) := rfl

set_option maxRecDepth 3000 in
theorem numBits_uncorr : numBits 0x70B0 5 = 64 := by with_unfolding_all decide

variable (hup : s.dev.portUp p.val = true)
include hup

theorem completes_align (h : alignPosition (s.dev.port p.val).rxPos = true) :
    Completes (.codewordReceive p seq rp rx) s (fun d => (d.port p.val).rxPos = (nextPosition (s.dev.port p.val) rx).rxPos ∧
      (d.port p.val).levels = (nextPosition (s.dev.port p.val) rx).levels ∧ d.mem = s.dev.mem ∧
      d.port p.val = nextPosition (s.dev.port p.val) rx ∧ d = { s.dev with link := d.link }) := by
  refine completes_codeword hup ?_
  have hp := port_withPosition s.dev p.val rx
  rw [receive_align h]
  exact ⟨congrArg PortS.rxPos hp, congrArg PortS.levels hp, rfl, hp, rfl⟩

variable (h : alignPosition (s.dev.port p.val).rxPos = false)
include h

theorem completes_inOrder {w : List Nat × Nat}
    (hw : rsDecode (receiveLanes (s.dev.port p.val).precoded (s.dev.port p.val).levels rx) = some w) (hseq : seq.val = (s.dev.port p.val).rxNext) :
    Completes (.codewordReceive p seq rp rx) s (fun d => (d.port p.val).rxPos = (nextPosition (s.dev.port p.val) rx).rxPos ∧
      (d.port p.val).levels = (nextPosition (s.dev.port p.val) rx).levels ∧ d.mem = s.dev.mem ∧
      (d.port p.val).rxNext = ((s.dev.port p.val).rxNext + 1) % 512 ∧ (d.port p.val).nak = false ∧ (d.port p.val).stale = rp ∧
      d.out = s.dev.out) := by
  refine completes_codeword hup ?_
  have hp := port_withPosition s.dev p.val rx
  have hnext : seq.val = ((withPosition s.dev p.val rx).port p.val).rxNext := hseq.trans (congrArg PortS.rxNext hp).symm
  obtain ⟨f, hX, ho⟩ := codeword_next (withPosition s.dev p.val rx) (rp := rp) (w := w) hnext
  rw [receive_data h, hw, hX, port_modPort_same]
  rw [hp, hseq] at ho
  rw [hp]
  simp only [orderOf, Prod.mk.injEq] at ho
  obtain ⟨h1, h2, h3, h4, h5⟩ := ho
  exact ⟨h4, h5, rfl, h1, h2, h3, rfl⟩

theorem completes_outOfOrder {w : List Nat × Nat}
    (hw : rsDecode (receiveLanes (s.dev.port p.val).precoded (s.dev.port p.val).levels rx) = some w) (hseq : seq.val ≠ (s.dev.port p.val).rxNext) :
    Completes (.codewordReceive p seq rp rx) s (fun d => (d.port p.val).rxPos = (nextPosition (s.dev.port p.val) rx).rxPos ∧
      (d.port p.val).levels = (nextPosition (s.dev.port p.val) rx).levels ∧ d.mem = s.dev.mem ∧
      d.port p.val = nextPosition (s.dev.port p.val) rx ∧ d.out = s.dev.out) := by
  refine completes_codeword hup ?_
  have hp := port_withPosition s.dev p.val rx
  have hX : (withPosition s.dev p.val rx).codeword p.val seq.val rp (some w) = withPosition s.dev p.val rx :=
    if_neg fun hc => hseq (hc.trans ((congrArg PortS.rxNext hp).trans rfl))
  rw [receive_data h, hw, hX]
  exact ⟨congrArg PortS.rxPos hp, congrArg PortS.levels hp, rfl, hp, rfl⟩

theorem completes_discarded (hw : rsDecode (receiveLanes (s.dev.port p.val).precoded (s.dev.port p.val).levels rx) = none)
    (hnak : (s.dev.port p.val).nak = true) (hseq : seq.val ≠ (s.dev.port p.val).rxNext) :
    Completes (.codewordReceive p seq rp rx) s (fun d => (d.port p.val).rxPos = (nextPosition (s.dev.port p.val) rx).rxPos ∧
      (d.port p.val).levels = (nextPosition (s.dev.port p.val) rx).levels ∧ d.mem = s.dev.mem ∧
      d.port p.val = nextPosition (s.dev.port p.val) rx ∧ d.out = s.dev.out) := by
  refine completes_codeword hup ?_
  have hp := port_withPosition s.dev p.val rx
  have hq := (port_of_link_eq (Device.addNum_link (withPosition s.dev p.val rx) 0x70B0 5 (p.val + 1) 1) p.val).trans hp
  have hc : (((withPosition s.dev p.val rx).port p.val).nak && seq.val != ((withPosition s.dev p.val rx).port p.val).rxNext) = true := by
    rw [hp]
    simp [nextPosition, hnak, hseq]
  rw [receive_data h, hw, codeword_none, if_pos hc]
  exact ⟨congrArg PortS.rxPos hq, congrArg PortS.levels hq, Device.addNum_mem .., hq, Device.addNum_out ..⟩

theorem completes_nak (hw : rsDecode (receiveLanes (s.dev.port p.val).precoded (s.dev.port p.val).levels rx) = none)
    (hnak : (s.dev.port p.val).nak = false ∨ seq.val = (s.dev.port p.val).rxNext) :
    Completes (.codewordReceive p seq rp rx) s (fun d => (d.port p.val).rxPos = (nextPosition (s.dev.port p.val) rx).rxPos ∧
      (d.port p.val).levels = (nextPosition (s.dev.port p.val) rx).levels ∧ d.mem = s.dev.mem ∧
      d.port p.val = { nextPosition (s.dev.port p.val) rx with nak := true, nakDue := true } ∧
      d.num 0x70B0 5 (p.val + 1) = (s.dev.num 0x70B0 5 (p.val + 1) + 1) % 2 ^ 64 ∧
      d.out = .nak p.val (((s.dev.port p.val).rxNext + 511) % 512) :: s.dev.out) := by
  refine completes_codeword hup ?_
  have hp := port_withPosition s.dev p.val rx
  have hc : ¬ (((withPosition s.dev p.val rx).port p.val).nak && seq.val != ((withPosition s.dev p.val rx).port p.val).rxNext) = true := by
    rw [hp]
    rcases hnak with hnak | hnak <;> simp [nextPosition, hnak]
  have hq : ((((withPosition s.dev p.val rx).addNum 0x70B0 5 (p.val + 1) 1).modPort p.val (fun x => { x with nak := true, nakDue := true })).port p.val) =
      { nextPosition (s.dev.port p.val) rx with nak := true, nakDue := true } := by
    rw [port_modPort_same, port_of_link_eq (Device.addNum_link ..), hp]
  rw [receive_data h, hw, codeword_none, if_neg hc]
  refine ⟨(congrArg PortS.rxPos hq).trans rfl, (congrArg PortS.levels hq).trans rfl, Device.addNum_mem .., hq, ?_, ?_⟩
  · rw [num_send, num_modPort, num_addNum_same, numBits_uncorr]
    exact congrArg (fun v => (v + 1) % 2 ^ 64) (num_modPort ..)
  · have hrx : (nextPosition (s.dev.port p.val) rx).rxNext = (s.dev.port p.val).rxNext := rfl
    have hout : (((withPosition s.dev p.val rx).addNum 0x70B0 5 (p.val + 1) 1).modPort p.val (fun x => { x with nak := true, nakDue := true })).out =
        s.dev.out := Device.addNum_out ..
    rw [out_send, hp, hrx, hout]

end

/-! ### NAKs and credits (R394, R395) -/

theorem evt_sendCodeword (d : Device) (p m : Nat) : (d.sendCodeword p m).evt = d.evt := by
  have hs (e : Device) (ss : List Nat) : (e.sendSymbols p ss).evt = e.evt := rfl
  unfold Device.sendCodeword
  exact (hs ..).trans (view_ite (v := Device.evt) (hs ..) rfl)

theorem evt_replayFrom (d : Device) (p n : Nat) : (d.replayFrom p n).evt = d.evt :=
  view_ite (v := Device.evt) (Device.foldl_same Device.evt (fun d m => d.sendCodeword p m) (fun _ _ => evt_sendCodeword ..) _ d) rfl

section
variable {s : State} {p : Port} (hup : s.dev.portUp p.val = true)
include hup

theorem completes_nakReceive {ack : BitVec 9} : Completes (.nakReceive p ack) s (fun d =>
    d.out.head? = some (.replay p.val ((ack.toNat + 1) % 512)) ∧
      (Map.get 0 s.dev.evt.last (0x5005 * 2 ^ 140 + p.val) = 0 → Raised 0x5005 s.dev d)) := by
  let x : Device := s.dev.modPort p.val (fun x => Device.takeAck x ack.toNat)
  refine completes_run_eq (c := .nakReceive p ack)
    (X := (x.raiseEvery 1000000 0x5005 p.val 0x70B0 (p.val + 1) p.val).replayFrom p.val ((ack.toNat + 1) % 512))
    (f := fun d => if d.portUp p.val then
      let d := d.modPort p.val (fun x => Device.takeAck x ack.toNat)
      (d.raiseEvery 1000000 0x5005 p.val 0x70B0 (p.val + 1) p.val).replayFrom p.val ((ack.toNat + 1) % 512)
    else d) (fun _ => by unfold exec; exact rfl) (if_pos hup) ⟨rfl, fun hl => ?_⟩
  have hr := (raiseEvery_of_first (d := x) (ns := 1000000) (ua := 0x70B0) (ui := p.val + 1) (a0 := p.val) (a1 := 0) hl (by decide)).1
  exact hr.of_evt_eq rfl (evt_replayFrom ..)

theorem completes_credit {fr : List (BitVec 16)} {ctl : List (BitVec 8)} : Completes (.credit p fr ctl) s (fun d =>
    d = { s.dev with link := d.link } ∧
      ∀ i, i < 4 → Map.get 0 (d.port p.val).cred i = min 640 (Map.get 0 (s.dev.port p.val).cred i + (fr.getD i 0).toNat)) := by
  refine completes_run_eq (c := .credit p fr ctl) (f := fun d => if d.portUp p.val then
      d.modPort p.val (fun x => { x with
        cred := forN 4 x.cred (fun m i => Map.set 0 m i (min 640 (Map.get 0 m i + (fr.getD i 0).toNat)))
        ctl := forN 3 x.ctl (fun m i => Map.set 0 m i (min 64 (Map.get 0 m i + (ctl.getD i 0).toNat))) })
    else d) (fun _ => by unfold exec; exact rfl) (if_pos hup) ⟨rfl, fun i hi => ?_⟩
  rw [port_modPort_same]
  exact (get_forN_set (fun i v => min 640 (v + (fr.getD i 0).toNat)) 4 _ i).trans (if_pos hi)

end

/-- Settles O50: each command of a port by what training, the lanes and the sequence make of it. -/
theorem linkTraining : Obligations.LinkTraining := by
  unfold Obligations.LinkTraining
  intro s p res pos shape rail port gen st ec now ber un seq rp rx ack fr ctl lane
  dsimp only
  refine ⟨fun ht => ⟨completes_stepFails ht, fun hl => ?_, fun hl => ?_, fun hok hlt => ?_, fun hok h6 hber hun hst hms => ?_,
    fun h4 => completes_ident ht h4, fun h5 hn hst => completes_lat ht h5 hn hst⟩,
    fun hup => ⟨completes_berWindow hup, completes_eye hup, ⟨completes_align hup, fun h => ⟨fun w hw hs => ?_, fun w hw hs => ?_,
      fun hw hnak hs => ?_, fun hw hnak => ?_⟩⟩, completes_nakReceive hup, completes_credit hup⟩⟩
  · exact completes_timeout (if_pos hl) (trainFail_spec s.dev p.isLt)
  · exact completes_timeout (if_neg (by rw [hl]; exact Bool.false_ne_true)) rfl
  · exact completes_stepDone (trainStep_spec ht hok hlt)
  · exact completes_gate ht hok h6 hber hun hst hms
  · exact completes_inOrder hup h hw hs
  · exact completes_outOfOrder hup h hw hs
  · exact completes_discarded hup h hw hnak hs
  · exact completes_nak hup h hw hnak

end Sys2Proof.Machine

/-! PROOFS. Packets and control messages of a port (R390 to R393, R395, R399, R405, R407 to R411). -/

namespace Sys2Proof.Machine

/-! ### Buffers and injection points -/

theorem loc_freed (d : Device) (p q : Nat) (h : PktHdr) : ((d.freed p h).port q).loc = (d.port q).loc := by
  refine (congrArg PortS.loc (port_modPort d p q _)).trans ?_
  split
  · rename_i hq
    rw [hq]
  · rfl

/-- A packet that was handled leaves its buffer, and nothing else changes. -/
theorem freed_eq (d : Device) (p : Nat) (h : PktHdr) : d.freed p h =
    { d with link := { d.link with ports := (d.freed p h).link.ports }, out := .creditReturn p (packetCls h) (packetSlots h) :: d.out } := rfl

/-- R401: the rail on which a packet leaves by the mode of its route. -/
def railBy (mode r : Nat) : Nat := if mode = 3 ∨ mode = 1 then 0 else if mode = 2 then 1 else r

/-- R399: an injected packet waits at the port of its first hop. -/
theorem inject_waits {d : Device} {h : PktHdr} {data : List Byte} {r : Nat} {i : Nat} {plus : Bool}
    (hno : (d.routeMode h.dest.toNat).2.1 = false)
    (hdir : nextDir d.shape d.position (if (d.routeMode h.dest.toNat).1 = 3 then (d.routeMode h.dest.toNat).2.2 else h.dest.toNat) = some (i, plus))
    (htake : d.takesPackets (portOf (railBy (d.routeMode h.dest.toNat).1 r) i plus) = true) :
    ∃ k, (k, data) ∈ ((d.inject h data (some r)).port (portOf (railBy (d.routeMode h.dest.toNat).1 r) i plus)).loc ∧
      k.typ = h.typ ∧ k.tag = h.tag ∧ k.tclass = h.tclass ∧ k.dest = h.dest ∧ k.err = h.err ∧ k.last = h.last := by
  have hrail : (if (decide ((d.routeMode h.dest.toNat).1 = 3) || decide ((d.routeMode h.dest.toNat).1 = 1)) = true then 0
      else if (d.routeMode h.dest.toNat).1 = 2 then 1 else (some r).getD (b2n (bitOf h.addr.toNat 12))) =
      railBy (d.routeMode h.dest.toNat).1 r := by
    unfold railBy
    simp only [Bool.or_eq_true, decide_eq_true_eq, Option.getD_some]
  unfold Device.inject
  dsimp only
  rw [if_neg (by rw [hno]; exact Bool.false_ne_true)]
  simp only [hdir, hrail, if_pos htake]
  rw [port_modPort_same]
  exact ⟨_, List.mem_append_right _ (List.mem_singleton.2 rfl), rfl, rfl, rfl, rfl, rfl, rfl⟩

/-- An injected packet changes the ports at most. -/
theorem inject_eq (d : Device) (h : PktHdr) (data : List Byte) (r : Option Nat) :
    ∃ l, d.inject h data r = { d with link := { d.link with ports := l } } := by
  have hself : ∃ l, d = { d with link := { d.link with ports := l } } := ⟨_, rfl⟩
  have hmod (o : Nat) (f : PortS → PortS) : ∃ l, (if d.takesPackets o then d.modPort o f else d) = { d with link := { d.link with ports := l } } := by
    split
    · exact ⟨_, rfl⟩
    · exact hself
  unfold Device.inject
  dsimp only
  split
  · exact hself
  · split
    · exact hself
    · exact hmod ..

theorem reply_eq (d : Device) (p : Nat) (h : PktHdr) (ty len : Nat) (err last : Bool) (addr : Nat) (data : List Byte) :
    ∃ l, d.reply p h ty len err last addr data = { d with link := { d.link with ports := l } } := inject_eq ..

/-! ### Packets that arrive (R391, R392) -/

section
variable {d : Device} {p ty : Nat} {h : PktHdr} {data : List Byte} {f : Device → Device}

theorem arrives_room (hup : d.portUp p = true) (hgood : badPacket h data = false) (hty : h.typ.toNat = ty)
    (hdest : h.dest.toNat = d.position) (hroom : ty < 2 → d.responseRoom (Device.responseSlots h) = true) :
    d.arrives p ty h data f = (f d).freed p h := by
  unfold Device.arrives
  rw [if_neg (by simp [hup]), if_neg (by rw [hgood]; exact Bool.false_ne_true), if_neg (by simp [hty, hdest]), if_neg]
  rw [hty]
  by_cases h2 : ty < 2
  · simp [hroom h2]
  · simp [h2]

theorem arrives_full (hup : d.portUp p = true) (hgood : badPacket h data = false) (hty : h.typ.toNat = ty)
    (hdest : h.dest.toNat = d.position) (h2 : ty < 2) (hroom : ¬ d.responseRoom (Device.responseSlots h) = true) :
    d.arrives p ty h data f = d := by
  unfold Device.arrives
  rw [if_neg (by simp [hup]), if_neg (by rw [hgood]; exact Bool.false_ne_true), if_neg (by simp [hty, hdest]), if_pos]
  rw [hty]
  simp [h2, hroom]

end

theorem pieces_one {b : List Byte} (h0 : b.length ≠ 0) (h : b.length ≤ 512) : Device.pieces 8 b = [b] := by
  have hne : b.isEmpty = false := by
    cases b
    · exact absurd rfl h0
    · rfl
  have htake : b.take 512 = b := List.take_of_length_le h
  have hdrop : b.drop 512 = [] := List.drop_eq_nil_of_le h
  unfold Device.pieces
  rw [hne, htake, hdrop]
  rfl

section
variable {s : State} {p : Port} {h : PktHdr} {data : List Byte}

/-- Where the answer to a request waits, when its route is open. -/
def Replied (s : State) (p : Port) (h : PktHdr) (d : Device) (ty : Nat) (err : Bool) (b : List Byte) : Prop :=
  (s.dev.routeMode h.src.toNat).2.1 = false → ∀ i plus, nextDir s.dev.shape s.dev.position
    (if (s.dev.routeMode h.src.toNat).1 = 3 then (s.dev.routeMode h.src.toNat).2.2 else h.src.toNat) = some (i, plus) →
    s.dev.takesPackets (portOf (railBy (s.dev.routeMode h.src.toNat).1 (portRail p.val)) i plus) = true →
    ∃ k, (k, b) ∈ (d.port (portOf (railBy (s.dev.routeMode h.src.toNat).1 (portRail p.val)) i plus)).loc ∧ k.typ.toNat = ty ∧
      k.tag = h.tag ∧ k.tclass = h.tclass ∧ k.dest = h.src ∧ k.err = err ∧ k.last = true

theorem replied_freed {x : Device} {ty len : Nat} {err : Bool} {addr : Nat} {b : List Byte} (hty : ty < 256)
    (hroute : ∀ k, x.routeMode k = s.dev.routeMode k) (hshape : x.shape = s.dev.shape) (hpos : x.position = s.dev.position)
    (htakes : ∀ q, x.takesPackets q = s.dev.takesPackets q) :
    Replied s p h ((x.reply p.val h ty len err true addr b).freed p.val h) ty err b := by
  intro hno i plus hdir htake
  let k : PktHdr := { typ := BitVec.ofNat 8 ty, tclass := h.tclass, err := err, last := true, dest := h.src, src := BitVec.ofNat 12 x.position,
                      len := BitVec.ofNat 16 len, tag := h.tag, addr := BitVec.ofNat 43 addr }
  have hX : x.reply p.val h ty len err true addr b = x.inject k b (some (portRail p.val)) := rfl
  have hk : k.dest = h.src := rfl
  rw [← hroute] at hno hdir htake
  rw [← hshape, ← hpos] at hdir
  rw [← htakes] at htake
  obtain ⟨y, hy, h1, h2, h3, h4, h5, h6⟩ := inject_waits (h := k) (data := b) hno hdir htake
  refine ⟨y, ?_, ?_, h2, h3, h4, h5, h6⟩
  · rw [loc_freed, hX, ← hroute]
    exact hy
  · rw [h1, BitVec.toNat_ofNat]
    exact Nat.mod_eq_of_lt hty

theorem completes_rd (hup : s.dev.portUp p.val = true) (hgood : badPacket h [] = false) (hty : h.typ.toNat = 0)
    (hdest : h.dest.toNat = s.dev.position) (hlen : h.len.toNat ≤ 512) (hreach : s.dev.peerReach h.addr.toNat h.len.toNat = true)
    (hroom : s.dev.responseRoom (Device.responseSlots h) = true) :
    Completes (.rd p h []) s (fun d => d.out.head? = some (.creditReturn p.val (packetCls h) (packetSlots h)) ∧
      d = { s.dev with link := d.link, out := d.out } ∧
      Replied s p h d 3 (s.dev.poorIn h.addr.toNat h.len.toNat) (s.dev.bytes h.addr.toNat h.len.toNat)) := by
  have hpos : h.len.toNat ≠ 0 := by
    intro h0
    simp [badPacket, hty, h0] at hgood
  have hb : (s.dev.bytes h.addr.toNat h.len.toNat).length = h.len.toNat := length_bytes ..
  have hX : s.dev.answerRead p.val h = s.dev.reply p.val h 3 (s.dev.bytes h.addr.toNat h.len.toNat).length
      (s.dev.poorIn h.addr.toNat h.len.toNat) true (h.addr.toNat + 512 * 0) (s.dev.bytes h.addr.toNat h.len.toNat) := by
    unfold Device.answerRead
    dsimp only
    simp only [hreach, if_true, Bool.not_true, Bool.false_or]
    rw [pieces_one (by rw [hb]; exact hpos) (by rw [hb]; exact hlen)]
    rfl
  refine completes_runHits (c := fun l => .rd p h l) (f := fun d => d.arrives p.val 0 h [] (fun d => d.answerRead p.val h))
    (X := (s.dev.answerRead p.val h).freed p.val h) (fun _ _ => by unfold exec; exact rfl) (arrives_room hup hgood hty hdest fun _ => hroom) ?_
  rw [hX]
  refine ⟨rfl, ?_, replied_freed (by decide) (fun _ => rfl) rfl rfl (fun _ => rfl)⟩
  obtain ⟨l, hl⟩ := reply_eq s.dev p.val h 3 (s.dev.bytes h.addr.toNat h.len.toNat).length (s.dev.poorIn h.addr.toNat h.len.toNat) true
    (h.addr.toNat + 512 * 0) (s.dev.bytes h.addr.toNat h.len.toNat)
  rw [hl]
  rfl

theorem completes_rd_full (hup : s.dev.portUp p.val = true) (hgood : badPacket h [] = false) (hty : h.typ.toNat = 0)
    (hdest : h.dest.toNat = s.dev.position) (hroom : ¬ s.dev.responseRoom (Device.responseSlots h) = true) :
    Completes (.rd p h []) s (fun d => d = s.dev) :=
  completes_runHits (c := fun l => .rd p h l) (f := fun d => d.arrives p.val 0 h [] (fun d => d.answerRead p.val h))
    (fun _ _ => by unfold exec; exact rfl) (arrives_full hup hgood hty hdest (by decide) hroom) rfl

theorem completes_wr_full (hup : s.dev.portUp p.val = true) (hgood : badPacket h data = false) (hty : h.typ.toNat = 1)
    (hdest : h.dest.toNat = s.dev.position) (hroom : ¬ s.dev.responseRoom (Device.responseSlots h) = true) :
    Completes (.wr p h data) s (fun d => d = s.dev) :=
  completes_run_eq (c := .wr p h data) (f := fun d => d.arrives p.val 1 h data (fun d => d.answerWrite p.val h data))
    (fun _ => by unfold exec; exact rfl) (arrives_full hup hgood hty hdest (by decide) hroom) rfl

theorem completes_wr (hup : s.dev.portUp p.val = true) (hgood : badPacket h data = false) (hty : h.typ.toNat = 1)
    (hdest : h.dest.toNat = s.dev.position) (hreach : s.dev.peerReach h.addr.toNat data.length = true)
    (hroom : s.dev.responseRoom (Device.responseSlots h) = true) :
    Completes (.wr p h data) s (fun d => d.out.head? = some (.creditReturn p.val (packetCls h) (packetSlots h)) ∧
      d.bytes h.addr.toNat data.length = data ∧
      (∀ y, y < h.addr.toNat ∨ h.addr.toNat + data.length ≤ y → d.byteAt y = s.dev.byteAt y) ∧
      d = { stored s.dev d with link := d.link, out := d.out } ∧ Replied s p h d 2 false []) := by
  let x : Device := s.dev.putW h.addr.toNat data
  have hX : s.dev.answerWrite p.val h data = x.reply p.val h 2 0 false true h.addr.toNat [] := by
    unfold Device.answerWrite
    dsimp only
    rw [hreach]
    rfl
  obtain ⟨l, hl⟩ := reply_eq x p.val h 2 0 false true h.addr.toNat []
  have hmem : ((x.reply p.val h 2 0 false true h.addr.toNat []).freed p.val h).mem = (s.dev.put h.addr.toNat data).mem := by
    rw [hl]
    rfl
  refine completes_run_eq (c := .wr p h data) (X := (x.reply p.val h 2 0 false true h.addr.toNat []).freed p.val h)
    (f := fun d => d.arrives p.val 1 h data (fun d => d.answerWrite p.val h data)) (fun _ => by unfold exec; exact rfl)
    ((arrives_room hup hgood hty hdest fun _ => hroom).trans (by rw [hX])) ⟨rfl, ?_, fun y hy => ?_, ?_, ?_⟩
  · exact (bytes_of_mem_eq hmem ..).trans (bytes_put_same ..)
  · have hy' : (s.dev.put h.addr.toNat data).byteAt y = s.dev.byteAt y := byteAt_put_ne _ hy
    rw [← hy']
    exact congrArg (fun m => Map.get 0 m y) hmem
  · rw [hl]
    rfl
  · refine replied_freed (by decide) (fun _ => rfl) rfl rfl (fun q => ?_)
    unfold Device.takesPackets
    rw [show x.num 0x70B0 1 (q + 1) = s.dev.num 0x70B0 1 (q + 1) from num_of_dict_eq (by exact rfl) ..]

/-! ### Completions (R392, R393) -/

set_option maxRecDepth 3000 in
theorem numBits_lateCompletions : numBits 0x1702 12 = 64 := by with_unfolding_all decide

/-- A completion without a request is counted. -/
theorem late_counted (d : Device) (p : Nat) (h : PktHdr) : (d.lateCompletion.freed p h).mem = d.mem ∧
    (d.lateCompletion.freed p h).num 0x1702 12 = (d.num 0x1702 12 + 1) % 2 ^ 64 := by
  refine ⟨Device.addNum_mem .., ?_⟩
  rw [← numBits_lateCompletions]
  exact (num_of_dict_eq (d := d.addNum 0x1702 12 0 1) (by exact rfl) ..).trans (num_addNum_same ..)

/-- R392: what a write's completion does. -/
def cplTaken (h : PktHdr) (d : Device) : Device :=
  match Map.get none d.link.tags h.tag.toNat with
  | some r => if r.isWrite then d.writeDone h.tag.toNat r h.err else d
  | none => d.lateCompletion

/-- R392: what a read's completion does. -/
def cpldTaken (h : PktHdr) (data : List Byte) (d : Device) : Device :=
  match Map.get none d.link.tags h.tag.toNat with
  | some r => if r.isWrite then d else d.arriveBytes h.tag.toNat r data h.last h.err
  | none => d.lateCompletion

theorem completes_cpl {P : Device → Prop} (hup : s.dev.portUp p.val = true) (hgood : badPacket h [] = false) (hty : h.typ.toNat = 2)
    (hdest : h.dest.toNat = s.dev.position) (hP : P ((cplTaken h s.dev).freed p.val h)) : Completes (.cpl p h) s P :=
  completes_run_eq (c := .cpl p h) (f := fun d => d.arrives p.val 2 h [] (cplTaken h)) (fun _ => by unfold exec; exact rfl)
    (arrives_room hup hgood hty hdest fun h2 => absurd h2 (by decide)) hP

theorem completes_cpld {P : Device → Prop} (hup : s.dev.portUp p.val = true) (hgood : badPacket h data = false) (hty : h.typ.toNat = 3)
    (hdest : h.dest.toNat = s.dev.position) (hP : P ((cpldTaken h data s.dev).freed p.val h)) : Completes (.cpld p h data) s P :=
  completes_run_eq (c := .cpld p h data) (f := fun d => d.arrives p.val 3 h data (cpldTaken h data)) (fun _ => by unfold exec; exact rfl)
    (arrives_room hup hgood hty hdest fun h2 => absurd h2 (by decide)) hP

end

/-! ### What waits for a request (R252, R393) -/

/-- No byte of memory changes, no completion runs out of time. -/
def Quietly (d e : Device) : Prop := e.mem = d.mem ∧ Map.get 0 e.evt.raised 0x5009 = Map.get 0 d.evt.raised 0x5009

namespace Quietly

theorem refl (d : Device) : Quietly d d := ⟨rfl, rfl⟩

theorem trans {d e f : Device} (h : Quietly d e) (h' : Quietly e f) : Quietly d f := ⟨h'.1.trans h.1, h'.2.trans h.2⟩

theorem same {d e : Device} (hm : e.mem = d.mem) (he : e.evt = d.evt) : Quietly d e := ⟨hm, by rw [he]⟩

theorem raise (d : Device) {c : Nat} (hc : c ≠ 0x5009) (ua ui a b : Nat) : Quietly d (d.raise c ua ui a b) :=
  ⟨Device.raise_mem .., raised_raise_ne _ _ _ _ _ hc (by decide)⟩

theorem moverMiss (d : Device) (m : Mover) (a : Nat) : Quietly d (d.moverMiss m a) := by
  unfold Device.moverMiss Device.reachNothing
  split
  · exact ⟨Device.taint_mem .., Device.taint_raised _ _ (by decide)⟩
  · exact raise d (by decide) ..

theorem request (d : Device) (p a : Nat) (r : Req) (b : List Byte) : Quietly d (d.request p a r b) := by
  obtain ⟨l, hl⟩ : ∃ l, d.request p a r b = { d with link := l } := by
    unfold Device.request
    dsimp only
    obtain ⟨l, hl⟩ := inject_eq { d with link := { d.link with
      tags := Map.set none d.link.tags d.newTag (some { r with pos := p, addr := a, sent := d.time.nowNs }) } }
      { typ := if r.isWrite then 1 else 0, dest := BitVec.ofNat 12 p, src := BitVec.ofNat 12 d.position, len := BitVec.ofNat 16 (if r.isWrite then b.length else r.left), tag := BitVec.ofNat 16 d.newTag, addr := BitVec.ofNat 43 a } b none
    exact ⟨_, hl⟩
  rw [hl]
  exact same rfl rfl

theorem fetch (d : Device) (m : Mover) (a n : Nat) (b : Bool) : Quietly d (d.fetch m a n b).1 := by
  unfold Device.fetch
  split
  · split
    · exact refl d
    · exact moverMiss ..
  · split
    · exact moverMiss ..
    · exact request ..
  · exact raise d (by decide) ..
  · exact moverMiss ..

theorem askRest (d : Device) (m : Mover) (e : MoveEnt) (fl : InFlight) : Quietly d (d.askRest m e fl).1 := by
  unfold Device.askRest
  split
  · exact refl d
  · split
    · dsimp only
      split
      · exact refl d
      · exact fetch ..
    · exact refl d

theorem setMq (d : Device) (m : Mover) (q : List MoveEnt) : Quietly d (d.setMq m q) := by
  cases m <;> exact same rfl rfl

theorem askRests (d : Device) (m : Mover) : Quietly d (d.askRests m) := by
  unfold Device.askRests
  split
  · exact refl d
  · refine trans ?_ (setMq ..)
    exact foldl_rel (R := fun (x y : Device × List InFlight) => Quietly x.1 y.1) (fun x => refl x.1) (fun _ _ _ => trans)
      (fun x fl => by exact askRest ..) _ _

theorem answerTag (d : Device) (t : Nat) (r : Req) (left : Nat) (fin err : Bool) (f : List Byte → List Byte) :
    Quietly d (d.answerTag t r left fin err f) := by
  unfold Device.answerTag
  extract_lets l d1 add d2
  have h2 : Quietly d d2 := trans (e := d1) (same rfl rfl) (setMq ..)
  split
  · exact trans h2 (askRests ..)
  · exact h2

end Quietly

/-- No tile at the head of the mover's queue has more to ask for. -/
def Whole (d : Device) (m : Mover) : Prop := ∀ e, (d.mq m).head? = some e → ∀ fl ∈ e.flight, fl.more = false

theorem link_setMq (d : Device) (m : Mover) (q : List MoveEnt) : (d.setMq m q).link = d.link := by cases m <;> rfl

theorem askRest_whole (d : Device) (m : Mover) (e : MoveEnt) {fl : InFlight} (h : fl.more = false) : (d.askRest m e fl).1 = d := by
  unfold Device.askRest
  rw [h]
  split
  · rfl
  · rfl

/-- R252: what a mover asks for when nothing is left to ask for. -/
theorem link_askRests {d : Device} {m : Mover} (h : Whole d m) : (d.askRests m).link = d.link := by
  have key (e : MoveEnt) : ∀ (l : List InFlight) (acc : Device × List InFlight), (∀ fl ∈ l, fl.more = false) →
      (l.foldl (fun (acc : Device × List InFlight) fl =>
        let y := acc.1.askRest m e fl
        (y.1, acc.2 ++ [y.2])) acc).1 = acc.1 := by
    intro l
    induction l with
    | nil => exact fun _ _ => rfl
    | cons fl l ih =>
      intro acc hl
      rw [List.foldl_cons, ih _ fun x hx => hl x (List.mem_cons_of_mem _ hx)]
      exact askRest_whole _ _ _ (hl fl (List.mem_cons_self ..))
  unfold Device.askRests
  split
  · rfl
  · rename_i e es hq
    refine (link_setMq ..).trans (congrArg Device.link (key e _ _ fun fl hfl => h e ?_ fl hfl))
    rw [hq]
    rfl

/-- R393: the TAG of a request that was answered. -/
theorem tag_answerTag {d : Device} {r : Req} (t left : Nat) (fin err : Bool) (f : List Byte → List Byte) (h : Whole d r.mover) :
    Map.get none (d.answerTag t r left fin err f).link.tags t = if fin then none else some { r with left := left } := by
  unfold Device.answerTag
  extract_lets l d1 add d2
  have hlink : d2.link = d1.link := link_setMq ..
  have hmq : d1.mq r.mover = d.mq r.mover := by cases r.mover <;> rfl
  have hget : Map.get none d2.link.tags t = if fin then none else some { r with left := left } := by
    rw [hlink]
    exact Map.get_set_same ..
  have hadd (fl : InFlight) : (add fl).more = fl.more := by
    show (if fl.await.contains t then _ else fl : InFlight).more = fl.more
    split <;> rfl
  have hwhole : Whole d2 r.mover := by
    intro e he fl hfl
    have hq : d2.mq r.mover = (d.mq r.mover).map (fun e => { e with flight := e.flight.map add }) := by
      refine (mq_setMq_same ..).trans ?_
      show (d1.mq r.mover).map _ = _
      rw [hmq]
    rw [hq, List.head?_map] at he
    obtain ⟨e0, he0, rfl⟩ := Option.map_eq_some_iff.1 he
    obtain ⟨fl0, hfl0, rfl⟩ := List.mem_map.1 hfl
    rw [hadd]
    exact h e0 he0 fl0 hfl0
  by_cases hf : fin = true
  · rw [if_pos hf, link_askRests hwhole, hget, if_pos hf]
  · rw [if_neg hf, hget, if_neg hf]

end Sys2Proof.Machine

/-! PROOFS. Requests that are answered or time out, and packets that start (R393, R395, R405, R407 to R411). -/

namespace Sys2Proof.Machine

/-! ### Answers to the requests of movers (R392, R393) -/

theorem quietly_modEnt (d : Device) (m : Mover) (i : Nat) (f : MoveEnt → MoveEnt) : Quietly d (d.modEnt m i f) := Quietly.setMq ..

theorem tag_freed (d : Device) (p : Nat) (h : PktHdr) : (d.freed p h).link.tags = d.link.tags := rfl

theorem tag_writeDone (d : Device) (t : Nat) (r : Req) (err : Bool) : Map.get none (d.writeDone t r err).link.tags t = none := by
  have hl : (d.writeDone t r err).link.tags = Map.set none d.link.tags t none := congrArg LinkS.tags (link_setMq ..)
  rw [hl]
  exact Map.get_set_same ..

theorem quietly_writeDone (d : Device) (t : Nat) (r : Req) (err : Bool) : Quietly d (d.writeDone t r err) :=
  Quietly.trans (e := { d with link := { d.link with tags := Map.set none d.link.tags t none } }) (.same rfl rfl) (quietly_modEnt ..)

section
variable {s : State} {p : Port} {h : PktHdr} {data : List Byte} {r : Req}

theorem completes_cpl_held (hup : s.dev.portUp p.val = true) (hgood : badPacket h [] = false) (hty : h.typ.toNat = 2)
    (hdest : h.dest.toNat = s.dev.position) (hheld : Map.get none s.dev.link.tags h.tag.toNat = some r) (hw : r.isWrite = true) :
    Completes (.cpl p h) s (fun d => d.out.head? = some (.creditReturn p.val (packetCls h) (packetSlots h)) ∧
      Map.get none d.link.tags h.tag.toNat = none ∧ d.mem = s.dev.mem) := by
  have hX : cplTaken h s.dev = s.dev.writeDone h.tag.toNat r h.err := by
    unfold cplTaken
    rw [hheld]
    exact if_pos hw
  refine completes_cpl hup hgood hty hdest ?_
  rw [hX]
  exact ⟨rfl, tag_writeDone .., (quietly_writeDone ..).1⟩

theorem completes_cpl_late (hup : s.dev.portUp p.val = true) (hgood : badPacket h [] = false) (hty : h.typ.toNat = 2)
    (hdest : h.dest.toNat = s.dev.position) (hheld : Map.get none s.dev.link.tags h.tag.toNat = none) :
    Completes (.cpl p h) s (fun d => d.out.head? = some (.creditReturn p.val (packetCls h) (packetSlots h)) ∧ d.mem = s.dev.mem ∧
      d.num 0x1702 12 = (s.dev.num 0x1702 12 + 1) % 2 ^ 64) := by
  have hX : cplTaken h s.dev = s.dev.lateCompletion := by
    unfold cplTaken
    rw [hheld]
  refine completes_cpl hup hgood hty hdest ?_
  rw [hX]
  exact ⟨rfl, late_counted ..⟩

theorem completes_cpld_late (hup : s.dev.portUp p.val = true) (hgood : badPacket h data = false) (hty : h.typ.toNat = 3)
    (hdest : h.dest.toNat = s.dev.position) (hheld : Map.get none s.dev.link.tags h.tag.toNat = none) :
    Completes (.cpld p h data) s (fun d => d.out.head? = some (.creditReturn p.val (packetCls h) (packetSlots h)) ∧ d.mem = s.dev.mem ∧
      d.num 0x1702 12 = (s.dev.num 0x1702 12 + 1) % 2 ^ 64) := by
  have hX : cpldTaken h data s.dev = s.dev.lateCompletion := by
    unfold cpldTaken
    rw [hheld]
  refine completes_cpld hup hgood hty hdest ?_
  rw [hX]
  exact ⟨rfl, late_counted ..⟩

theorem completes_cpld_held (hup : s.dev.portUp p.val = true) (hgood : badPacket h data = false) (hty : h.typ.toNat = 3)
    (hdest : h.dest.toNat = s.dev.position) (hheld : Map.get none s.dev.link.tags h.tag.toNat = some r) (hw : r.isWrite = false) :
    Completes (.cpld p h data) s (fun d => d.out.head? = some (.creditReturn p.val (packetCls h) (packetSlots h)) ∧ d.mem = s.dev.mem ∧
      (Whole s.dev r.mover → Map.get none d.link.tags h.tag.toNat =
        if h.last = true ∨ r.left ≤ data.length then none else some { r with left := r.left - data.length })) := by
  have hX : cpldTaken h data s.dev = s.dev.arriveBytes h.tag.toNat r data h.last h.err := by
    unfold cpldTaken
    rw [hheld]
    exact if_neg (by rw [hw]; exact Bool.false_ne_true)
  refine completes_cpld hup hgood hty hdest ?_
  rw [hX]
  refine ⟨rfl, (Quietly.answerTag ..).1, fun hwhole => ?_⟩
  have hlen : (data.take r.left).length = min r.left data.length := List.length_take ..
  rw [tag_freed]
  refine (tag_answerTag _ _ _ _ _ hwhole).trans ?_
  by_cases hle : r.left ≤ data.length
  · rw [if_pos, if_pos (.inr hle)]
    simp [hlen, hle]
  · have hlt : r.left - data.length ≠ 0 := by omega
    have hmin : min r.left data.length = data.length := by omega
    simp [hlen, hle, hmin, hlt]

/-- R393: how a request whose time is over ends, before the event. -/
def timedOut (t : Nat) (r : Req) (d : Device) : Device := if r.isWrite then d.writeDone t r true else d.failBytes t r

theorem quietly_timedOut (t : Nat) (r : Req) (d : Device) : Quietly d (timedOut t r d) := by
  unfold timedOut
  split
  · exact quietly_writeDone ..
  · exact Quietly.answerTag ..

theorem tag_timedOut {d : Device} (t : Nat) (r : Req) (h : Whole d r.mover) : Map.get none (timedOut t r d).link.tags t = none := by
  unfold timedOut
  split
  · exact tag_writeDone ..
  · exact tag_answerTag _ _ _ _ _ h

theorem raise_of_taint (d : Device) {c : Nat} (h : (evRow c).taint = true) (ua ui a b : Nat) :
    d.raise c ua ui a b = ((d.countEvent c ui).raiseRaw c ua ui a b).taint c := if_pos h

/-- R393: what passing FL_CPL_TIMEOUT_US does. -/
def timeoutOf (t : Nat) (d : Device) : Device :=
  match Map.get none d.link.tags t with
  | none => d
  | some r =>
    if d.time.nowNs < r.sent + 1000 * d.force 0x1700 4 then d else
    (timedOut t r d).raise 0x5009 (moverUnit r.mover).1 (moverUnit r.mover).2.1 (0xF + r.pos * 2 ^ 16)
      (2 ^ 55 + devAt (timedOut t r d) r.pos * 2 ^ 43 + r.addr)

theorem timeoutOf_early {d : Device} {t : Nat} (hheld : Map.get none d.link.tags t = some r)
    (h : d.time.nowNs < r.sent + 1000 * d.force 0x1700 4) : timeoutOf t d = d := by
  unfold timeoutOf
  rw [hheld]
  exact if_pos h

theorem timeoutOf_late {d : Device} {t : Nat} (hheld : Map.get none d.link.tags t = some r)
    (h : ¬ d.time.nowNs < r.sent + 1000 * d.force 0x1700 4) :
    ∃ ua ui a b, timeoutOf t d = (timedOut t r d).raise 0x5009 ua ui a b := by
  unfold timeoutOf
  rw [hheld]
  exact ⟨_, _, _, _, if_neg h⟩

theorem completes_completionTimeout {tag : BitVec 16} (hheld : Map.get none s.dev.link.tags tag.toNat = some r) :
    Completes (.completionTimeout tag) s (fun d => d.mem = s.dev.mem ∧
      if s.dev.time.nowNs < r.sent + 1000 * s.dev.force 0x1700 4 then d = s.dev
      else Raised 0x5009 s.dev d ∧ d.num 0x1401 1 = 1 ∧ (Whole s.dev r.mover → Map.get none d.link.tags tag.toNat = none)) := by
  refine completes_run_eq (c := .completionTimeout tag) (f := timeoutOf tag.toNat) (fun _ => by unfold exec; exact rfl) rfl ?_
  by_cases hin : s.dev.time.nowNs < r.sent + 1000 * s.dev.force 0x1700 4
  · rw [if_pos hin, timeoutOf_early hheld hin]
    exact ⟨rfl, rfl⟩
  · have hrow : (evRow 0x5009).taint = true := by with_unfolding_all rfl
    obtain ⟨hm, he⟩ := quietly_timedOut tag.toNat r s.dev
    obtain ⟨ua, ui, a, b, hX⟩ := timeoutOf_late hheld hin
    rw [if_neg hin, hX]
    refine ⟨(Device.raise_mem ..).trans hm, raised_after _ _ _ _ (by decide) he, ?_, fun hw => ?_⟩
    · rw [raise_of_taint _ hrow]
      exact num_taint_one ..
    · rw [Device.raise_link]
      exact tag_timedOut _ _ hw

end

/-! ### Packets on their way and packets that start (R390, R395, R399, R405, R407) -/

section
variable {s : State} {p : Port} {h : PktHdr} {data : List Byte}

theorem completes_packetForward {o : Nat} {vc : Bool} (hup : s.dev.portUp p.val = true) (hgood : badPacket h data = false)
    (hvia : h.via = h.dest) (htakes : s.dev.takesPackets o = true)
    (hhop : s.dev.nextHop (portRail p.val) (some (portDim p.val)) h.vc h.dest.toNat = some (o, vc)) :
    Completes (.packetForward p h data) s (fun d => d = { s.dev with link := d.link } ∧
      (d.port o).fwd = (s.dev.port o).fwd ++ [{ hdr := { h with vc := vc }, data := data, inPort := p.val, cls := packetCls h }] ∧
      ∀ q, q ≠ o → d.port q = s.dev.port q) := by
  refine completes_run_eq (c := .packetForward p h data) (f := fun d => d.forward p.val h data) (fun _ => by unfold exec; exact rfl)
    (X := s.dev.modPort o (fun x => { x with
      fwd := x.fwd ++ [{ hdr := { h with vc := vc }, data := data, inPort := p.val, cls := packetCls h }] })) ?_ ⟨rfl, ?_, fun q hq => ?_⟩
  · unfold Device.forward
    rw [if_neg (by simp [hup]), if_neg (by rw [hgood]; exact Bool.false_ne_true)]
    have hdetour : (!h.leg && h.via != h.dest && portRail p.val == 0) = false := by simp [hvia]
    simp only [hdetour, Bool.false_and, Bool.false_eq_true, if_false, hhop, if_pos htakes]
  · rw [port_modPort_same]
  · rw [port_modPort, if_neg hq]

/-- Slots leave by a port: memory and the dictionary stay, nothing sent is taken back, the credits stay. -/
def Emits (p : Nat) (d e : Device) : Prop :=
  e.mem = d.mem ∧ e.dict = d.dict ∧ (∀ m ∈ d.out, m ∈ e.out) ∧ (e.port p).cred = (d.port p).cred

namespace Emits
variable {d e f : Device} {p : Nat}

theorem refl : Emits p d d := ⟨rfl, rfl, fun _ h => h, rfl⟩

theorem trans (h : Emits p d e) (h' : Emits p e f) : Emits p d f :=
  ⟨h'.1.trans h.1, h'.2.1.trans h.2.1, fun m hm => h'.2.2.1 m (h.2.2.1 m hm), h'.2.2.2.trans h.2.2.2⟩

theorem modPort {g : PortS → PortS} (h : (g (d.port p)).cred = (d.port p).cred) : Emits p d (d.modPort p g) :=
  ⟨rfl, rfl, fun _ h => h, (congrArg PortS.cred (port_modPort_same ..)).trans h⟩

theorem send (m : OutMsg) : Emits p d (d.send m) := ⟨rfl, rfl, fun _ h => List.mem_cons_of_mem _ h, rfl⟩

theorem sendSymbols (ss : List Nat) : Emits p d (d.sendSymbols p ss) := (modPort rfl).trans (send _)

theorem sendCodeword (m : Nat) : Emits p d (d.sendCodeword p m) := by
  unfold Device.sendCodeword
  dsimp only
  split
  · exact (sendSymbols _).trans (sendSymbols _)
  · exact sendSymbols _

theorem closeWord : Emits p d (d.closeWord p) := (modPort rfl).trans (sendCodeword _)

theorem pushSlots (ss : List (Nat × List Byte)) : Emits p d (d.pushSlots p ss) :=
  (modPort rfl).trans (foldl_rel (R := Emits p) (fun _ => refl) (fun _ _ _ => trans) (fun _ _ => by exact closeWord) _ _)

theorem unnumbered (ss : List (Nat × List Byte)) : Emits p d (d.unnumbered p ss) := (modPort rfl).trans (sendCodeword _)

end Emits

/-- Messages that take their places change the queues of the ports' control slots alone. -/
def Seated (d e : Device) : Prop :=
  (∃ l, e = { d with link := { d.link with ports := l, placed := e.link.placed } }) ∧
    ∀ q, ∃ l, e.port q = { d.port q with ctlq := l }

namespace Seated
variable {d e f : Device}

theorem refl : Seated d d := ⟨⟨_, rfl⟩, fun _ => ⟨_, rfl⟩⟩

theorem trans (h : Seated d e) (h' : Seated e f) : Seated d f := by
  obtain ⟨⟨l, hl⟩, hq⟩ := h
  obtain ⟨⟨k, hk⟩, hr⟩ := h'
  refine ⟨⟨k, ?_⟩, fun q => ?_⟩
  · rw [hk, hl]
  · obtain ⟨l1, h1⟩ := hq q
    obtain ⟨l2, h2⟩ := hr q
    exact ⟨l2, by rw [h2, h1]⟩

theorem enqueue (p ty : Nat) (body : BitVec 128) : Seated d (d.modPort p (fun x => Device.enqueue x ty body)) := by
  refine ⟨⟨_, rfl⟩, fun q => ?_⟩
  rw [port_modPort]
  split
  · rename_i h
    rw [h]
    unfold Device.enqueue
    split
    · exact ⟨_, rfl⟩
    · exact ⟨_, rfl⟩
  · exact ⟨_, rfl⟩

theorem placeMessages (d : Device) : Seated d d.placeMessages := by
  unfold Device.placeMessages
  extract_lets ms x
  have hx : Seated d x := foldl_rel (R := Seated) (fun _ => refl) (fun _ _ _ => trans) (fun e m => by
    split
    · exact enqueue ..
    · exact refl) ms d
  exact hx.trans ⟨⟨_, rfl⟩, fun q => ⟨_, rfl⟩⟩

end Seated

/-- R407: a control slot is eight slots' bytes, whatever it carries. -/
theorem length_controlSlotBytes (ms : List (Nat × BitVec 128)) : (controlSlotBytes ms).length = 128 := by
  have hlen : ((ms ++ List.replicate 7 (0, 0)).take 7).length = 7 := by simp
  unfold controlSlotBytes
  have hbodies (l : List (Nat × BitVec 128)) : (l.flatMap (fun m => leBytes 16 m.2.toNat)).length = 16 * l.length := by
    simp [List.length_flatMap, length_leBytes, Nat.mul_comm]
  simp only [List.length_append, List.length_map, hbodies, List.length_replicate, List.length_cons, List.length_nil, hlen]

set_option maxRecDepth 3000 in
theorem numBits_packets : numBits 0x70B0 9 = 64 := by with_unfolding_all decide

/-- R390, R395: what a packet of this device that starts leaves. -/
theorem startPacket_spec (d : Device) (p : Nat) (h : PktHdr) (data : List Byte) : (d.startPacket p false h data).mem = d.mem ∧
    (∀ m ∈ .packet p h data :: d.out, m ∈ (d.startPacket p false h data).out) ∧
    Map.get 0 ((d.startPacket p false h data).port p).cred (packetCls h) = Map.get 0 (d.port p).cred (packetCls h) - packetSlots h ∧
    (d.startPacket p false h data).num 0x70B0 9 (p + 1) = (d.num 0x70B0 9 (p + 1) + packetSlots h) % 2 ^ 64 := by
  let share : Int := d.force 0x1700 3
  let x : Device := d.modPort p (fun x => { x with
    cred := Map.set 0 x.cred (packetCls h) (Map.get 0 x.cred (packetCls h) - packetSlots h)
    balance := max (-256) (min 256 (x.balance + packetSlots h * -share)), ctlGap := min 15 (x.ctlGap + packetSlots h) })
  let y : Device := (x.addNum 0x70B0 9 (p + 1) (packetSlots h)).send (.packet p h data)
  have hX : d.startPacket p false h data = y.pushSlots p (slotsOf h data) := rfl
  obtain ⟨hm, hd, ho, hc⟩ := Emits.pushSlots (d := y) (p := p) (slotsOf h data)
  rw [hX]
  refine ⟨hm.trans (Device.addNum_mem ..), fun m hm => ho m ?_, ?_, ?_⟩
  · have hout : y.out = .packet p h data :: d.out := congrArg (_ :: ·) (Device.addNum_out ..)
    rwa [hout]
  · have hport : y.port p = x.port p := port_of_link_eq (Device.addNum_link ..) p
    rw [hc, hport, port_modPort_same]
    exact Map.get_set_same ..
  · rw [num_of_dict_eq hd]
    refine (num_send ..).trans ((num_addNum_same ..).trans ?_)
    rw [numBits_packets]
    exact congrArg (fun v => (v + packetSlots h) % 2 ^ 64) (num_modPort ..)

/-- R405: the packet that find names is the one that leaves. -/
theorem takeLocal_of_find {d : Device} {p n c : Nat} {y : PktHdr × List Byte}
    (h : (d.port p).loc.find? (fun z => packetSlots z.1 == n && packetCls z.1 == c) = some y) :
    ∃ l, d.takeLocal p n c = some (d.modPort p (fun x => { x with loc := l }), y) := by
  rw [List.find?_eq_bind_findIdx?_getElem?] at h
  obtain ⟨i, hi, hy⟩ := Option.bind_eq_some_iff.1 h
  refine ⟨(d.port p).loc.eraseIdx i, ?_⟩
  unfold Device.takeLocal Device.fits
  dsimp only
  rw [hi, Option.bind_some, hy]
  rfl

theorem completes_packetStart {n : Nat} {cl : Fin 4} {y : PktHdr × List Byte} (hup : s.dev.portUp p.val = true)
    (hgap : (s.dev.port p.val).ctlGap < 15)
    (hy : (s.dev.port p.val).loc.find? (fun z => packetSlots z.1 == n && packetCls z.1 == cl.val) = some y) :
    Completes (.packetStart p none (some (n, cl))) s (fun d => d.mem = s.dev.mem ∧
      if n ≤ Map.get 0 (s.dev.port p.val).cred cl.val ∧ ((s.dev.port p.val).txNext + 512 - (s.dev.port p.val).unacked) % 512 < 256 then
        .packet p.val y.1 y.2 ∈ d.out ∧ Map.get 0 (d.port p.val).cred cl.val = Map.get 0 (s.dev.port p.val).cred cl.val - n ∧
        d.num 0x70B0 9 (p.val + 1) = (s.dev.num 0x70B0 9 (p.val + 1) + n) % 2 ^ 64
      else d.out = s.dev.out ∧ (d.port p.val).loc = (s.dev.port p.val).loc ∧ (d.port p.val).cred = (s.dev.port p.val).cred) := by
  obtain ⟨⟨l, hl⟩, hports⟩ := Seated.placeMessages s.dev
  obtain ⟨w, hw⟩ := hports p.val
  generalize hx : s.dev.placeMessages = x at hl hw
  have hmem : x.mem = s.dev.mem := by rw [hl]
  have hout : x.out = s.dev.out := by rw [hl]
  have hdict : x.dict = s.dev.dict := by rw [hl]
  have hbusy : s.dev.busyBoundary p.val = x := by
    unfold Device.busyBoundary
    rw [hx]
    refine if_neg ?_
    rw [hw]
    exact Nat.not_le.2 hgap
  have hfwd : x.ready p.val true none = none := rfl
  refine completes_run_eq (c := .packetStart p none (some (n, cl)))
    (f := fun d => if d.portUp p.val then d.pickPacket p.val none (some (n, cl)) else d) (fun _ => by unfold exec; exact rfl)
    ((if_pos hup).trans rfl) ?_
  obtain ⟨hn, hcl⟩ : packetSlots y.1 = n ∧ packetCls y.1 = cl.val := by
    simpa using List.find?_some hy
  by_cases hmay : n ≤ Map.get 0 (s.dev.port p.val).cred cl.val ∧ ((s.dev.port p.val).txNext + 512 - (s.dev.port p.val).unacked) % 512 < 256
  · obtain ⟨k, hk⟩ := takeLocal_of_find (d := x) (p := p.val) (n := n) (c := cl.val) (y := y) (by rw [hw]; exact hy)
    have hready : x.ready p.val false (some (n, cl)) = some (x.modPort p.val (fun x => { x with loc := k }), y) := by
      have hstart : Device.mayStart (x.port p.val) n cl.val = true := by
        rw [hw]
        unfold Device.mayStart Device.windowFull
        simp only [Bool.and_eq_true, decide_eq_true_eq, Bool.not_eq_true', decide_eq_false_iff_not, Nat.not_le]
        exact hmay
      unfold Device.ready
      rw [Option.bind_some]
      dsimp only
      rw [if_neg (by rw [hstart]; decide), if_neg Bool.false_ne_true, hk]
    have hX : s.dev.pickPacket p.val none (some (n, cl)) = (x.modPort p.val (fun x => { x with loc := k })).startPacket p.val false y.1 y.2 := by
      unfold Device.pickPacket
      simp only [hbusy, hfwd, hready]
    obtain ⟨h1, h2, h3, h4⟩ := startPacket_spec (x.modPort p.val (fun x => { x with loc := k })) p.val y.1 y.2
    rw [hX, if_pos hmay]
    refine ⟨h1.trans hmem, h2 _ (List.mem_cons_self ..), ?_, ?_⟩
    · rw [hcl, hn, port_modPort_same, hw] at h3
      exact h3
    · rw [h4, hn, num_modPort, num_of_dict_eq hdict]
  · have hready : x.ready p.val false (some (n, cl)) = none := by
      have hstart : Device.mayStart (x.port p.val) n cl.val = false := by
        rw [hw, Bool.eq_false_iff]
        unfold Device.mayStart Device.windowFull
        simp only [ne_eq, Bool.and_eq_true, decide_eq_true_eq, Bool.not_eq_true', decide_eq_false_iff_not, Nat.not_le]
        exact hmay
      unfold Device.ready
      rw [Option.bind_some]
      dsimp only
      rw [if_pos (by rw [hstart]; decide)]
    have hX : s.dev.pickPacket p.val none (some (n, cl)) = x := by
      unfold Device.pickPacket
      simp only [hbusy, hfwd, hready]
    rw [hX, if_neg hmay, hw]
    exact ⟨hmem, hout, rfl, rfl⟩

/-- R407: a control slot that is due leaves. -/
theorem controlSlot_spec {d : Device} {p : Nat} (hq : (d.port p).ctlq ≠ []) (hfree : Device.windowFull (d.port p) = false)
    (hup : d.portUp p = true) : (d.controlSlot p).mem = d.mem ∧ ∃ b, .controlSlot p b ∈ (d.controlSlot p).out ∧ b.length = 128 := by
  unfold Device.controlSlot
  extract_lets x ms b y
  have hms : ms.isEmpty = false := by
    obtain ⟨m, hm⟩ := List.exists_mem_of_ne_nil _ hq
    rw [List.isEmpty_eq_false_iff_exists_mem]
    exact ⟨m, (mem_sortBy ..).2 hm⟩
  have hy : y.portUp p = true := by
    unfold Device.portUp
    exact (congrArg (· == 2) (num_of_dict_eq (d := d) (e := y) rfl 0x70B0 1 (p + 1))).trans hup
  obtain ⟨hm, -, ho, -⟩ := Emits.pushSlots (d := y) (p := p) [(3, b)]
  rw [if_neg (by rw [hms, hfree]; simp), if_pos hy]
  exact ⟨hm, b, ho _ (List.mem_cons_self ..), length_controlSlotBytes _⟩

/-- A packet of this device that starts, or none, changes no byte and takes back nothing that was sent. -/
theorem pickPacket_local (d : Device) (p : Nat) (r : Option (Nat × Fin 4)) : (d.pickPacket p none r).mem = (d.busyBoundary p).mem ∧
    ∀ m ∈ (d.busyBoundary p).out, m ∈ (d.pickPacket p none r).out := by
  generalize hx : d.busyBoundary p = x
  have hfwd : x.ready p true none = none := rfl
  cases hready : x.ready p false r with
  | none =>
    have hX : d.pickPacket p none r = x := by
      unfold Device.pickPacket
      simp only [hx, hfwd, hready]
    rw [hX]
    exact ⟨rfl, fun m hm => hm⟩
  | some l =>
    have hX : d.pickPacket p none r = l.1.startPacket p false l.2.1 l.2.2 := by
      unfold Device.pickPacket
      simp only [hx, hfwd, hready]
    have hl : ∃ f, l.1 = x.modPort p f := by
      unfold Device.ready at hready
      obtain ⟨g, -, hg⟩ := Option.bind_eq_some_iff.1 hready
      rw [if_neg Bool.false_ne_true] at hg
      split at hg
      · cases hg
      · unfold Device.takeLocal at hg
        obtain ⟨i, -, hi⟩ := Option.bind_eq_some_iff.1 hg
        obtain ⟨y, -, rfl⟩ := Option.map_eq_some_iff.1 hi
        exact ⟨_, rfl⟩
    obtain ⟨f, hf⟩ := hl
    obtain ⟨h1, h2, -, -⟩ := startPacket_spec l.1 p l.2.1 l.2.2
    rw [hX]
    refine ⟨h1.trans (by rw [hf]; rfl), fun m hm => h2 m (List.mem_cons_of_mem _ ?_)⟩
    rw [hf]
    exact hm

theorem completes_packetStart_due {r : Option (Nat × Fin 4)} (hup : s.dev.portUp p.val = true) (hgap : 15 ≤ (s.dev.port p.val).ctlGap)
    (hq : (s.dev.placeMessages.port p.val).ctlq ≠ []) (hfree : Device.windowFull (s.dev.placeMessages.port p.val) = false) :
    Completes (.packetStart p none r) s (fun d => d.mem = s.dev.mem ∧ ∃ b, .controlSlot p.val b ∈ d.out ∧ b.length = 128) := by
  obtain ⟨⟨l, hl⟩, hports⟩ := Seated.placeMessages s.dev
  obtain ⟨w, hw⟩ := hports p.val
  generalize hx : s.dev.placeMessages = x at hl hw hq hfree
  have hmem : x.mem = s.dev.mem := by rw [hl]
  have hxup : x.portUp p.val = true := by
    unfold Device.portUp
    rw [num_of_dict_eq (show x.dict = s.dev.dict by rw [hl])]
    exact hup
  have hbusy : s.dev.busyBoundary p.val = x.controlSlot p.val := by
    unfold Device.busyBoundary
    rw [hx]
    refine if_pos ?_
    rw [hw]
    exact hgap
  obtain ⟨h1, b, hb, hlen⟩ := controlSlot_spec hq hfree hxup
  obtain ⟨h2, h3⟩ := pickPacket_local s.dev p.val r
  rw [hbusy] at h2 h3
  exact completes_run_eq (c := .packetStart p none r)
    (f := fun d => if d.portUp p.val then d.pickPacket p.val none r else d) (fun _ => by unfold exec; exact rfl)
    ((if_pos hup).trans rfl) ⟨h2.trans (h1.trans hmem), b, h3 _ hb, hlen⟩

/-! ### Messages of the control channel (R408 to R411) -/

theorem fieldB_two_lt (m : List Byte) (i : Nat) : fieldB m i 2 < 65536 :=
  lt_of_lt_of_le (leNat_lt _) (Nat.pow_le_pow_right (n := 256) (by decide) (List.length_take_le ..))

/-- The down-set is read as it was written. -/
theorem downEntries_of_dom {d : Device} {l : List Nat} (hv : ∀ v ∈ l, v < 65536) (hd : d.domOf 0x1701 2 = l.flatMap (leBytes 2)) :
    d.downEntries = l := by
  have hlen : (d.domOf 0x1701 2).length / 2 = l.length := by
    rw [hd, length_flatMap_leBytes]
    omega
  unfold Device.downEntries
  dsimp only
  rw [hlen, hd]
  refine List.ext_getElem (by simp) fun i h1 h2 => ?_
  rw [List.getElem_map, List.getElem_range, fieldB_flatMap_leBytes 2 l h2, List.getD_eq_getElem _ _ h2]
  exact Nat.mod_eq_of_lt (hv _ (List.getElem_mem h2))

theorem dom_recomputeTree (d : Device) : d.recomputeTree.dict.dom = d.dict.dom := by
  have hsend (e : Device) (n : Nat) : (e.sendPathlat n).dict.dom = e.dict.dom := by
    unfold Device.sendPathlat
    refine forN_same (fun d : Device => d.dict.dom) (fun x a => ?_) 12 e
    exact view_ite (v := fun d : Device => d.dict.dom) rfl rfl
  have hset (e : Device) (i s v : Nat) : (e.setNum i s 0 v).dict.dom = e.dict.dom := by
    simp only [Device.setNum]
  unfold Device.recomputeTree
  extract_lets m x depth y
  have hy : y.dict.dom = d.dict.dom := (hset ..).trans (hset ..)
  split
  · exact (hsend ..).trans ((hset ..).trans hy)
  · exact hy

/-- R411: the entries of the down-set after a port was marked. -/
theorem contains_markLinks (d : Device) {e : Nat} (he : e < 65536) (down : Bool) :
    (d.markLinks [e] down).downEntries.contains e = down := by
  let new := if down then d.downEntries ++ (dedupNat [e]).filter (fun e => !d.downEntries.contains e)
    else d.downEntries.filter (fun x => !([e].contains x))
  let x : Device := d.setDom 0x1701 2 0 (new.flatMap (leBytes 2))
  have hold (v : Nat) (hv : v ∈ d.downEntries) : v < 65536 := by
    obtain ⟨i, -, rfl⟩ := List.mem_map.1 hv
    exact fieldB_two_lt ..
  have hnew (v : Nat) (hv : v ∈ new) : v < 65536 := by
    cases down with
    | true =>
      rcases List.mem_append.1 hv with h | h
      · exact hold v h
      · obtain ⟨h, -⟩ := List.mem_filter.1 h
        simp [dedupNat] at h
        omega
    | false => exact hold v (List.mem_filter.1 hv).1
  have hdom : (d.markLinks [e] down).domOf 0x1701 2 = new.flatMap (leBytes 2) := by
    have h1 : (d.markLinks [e] down).dict.dom = x.dict.dom := dom_recomputeTree { x with link := { x.link with routesPend := true } }
    unfold Device.domOf
    rw [h1]
    exact Map.get_set_same ..
  rw [downEntries_of_dom hnew hdom]
  cases down with
  | true =>
    rw [List.contains_iff_mem]
    by_cases h : e ∈ d.downEntries
    · exact List.mem_append_left _ h
    · refine List.mem_append_right _ (List.mem_filter.2 ⟨?_, ?_⟩)
      · simp [dedupNat]
      · simp [h]
  | false =>
    rw [List.contains_eq_mem, decide_eq_false_iff_not]
    intro h
    have := (List.mem_filter.1 h).2
    simp at this

theorem completes_downset {pos : BitVec 12} {port : BitVec 4} {down : Bool} :
    Completes (.downset pos port down) s (fun d => Raised 0x5007 s.dev d ∧
      d.downEntries.contains (pos.toNat + 4096 * port.toNat) = down ∧ d.mem = s.dev.mem) := by
  obtain ⟨x, hm, he, hx⟩ : ∃ x : Device, x.mem = s.dev.mem ∧ x.evt = s.dev.evt ∧
      (if s.dev.isMaster then s.dev.send (.downset pos.toNat port.toNat down) else s.dev) = x := by
    refine ⟨_, ?_, ?_, rfl⟩
    · exact view_ite (v := Device.mem) rfl rfl
    · exact view_ite (v := Device.evt) rfl rfl
  have hlt : pos.toNat + 4096 * port.toNat < 65536 := by
    have := pos.isLt
    have := port.isLt
    omega
  obtain ⟨-, hmm, hme, -⟩ := markLinks_spec x [pos.toNat + 4096 * port.toNat] down
  refine completes_run_eq (c := .downset pos port down) (f := fun d =>
      ((if d.isMaster then d.send (.downset pos.toNat port.toNat down) else d).markLinks [pos.toNat + 4096 * port.toNat] down).raise
        0x5007 0 0 (port.toNat + pos.toNat * 2 ^ 16))
    (fun _ => by unfold exec; exact rfl)
    (X := (x.markLinks [pos.toNat + 4096 * port.toNat] down).raise 0x5007 0 0 (port.toNat + pos.toNat * 2 ^ 16)) (by rw [← hx])
    ⟨raised_after _ _ _ _ (by decide) (by rw [hme, he]), ?_, (Device.raise_mem ..).trans (hmm.trans hm)⟩
  have hdom : ((x.markLinks [pos.toNat + 4096 * port.toNat] down).raise 0x5007 0 0 (port.toNat + pos.toNat * 2 ^ 16)).downEntries =
      (x.markLinks [pos.toNat + 4096 * port.toNat] down).downEntries := by
    unfold Device.downEntries Device.domOf
    rw [dom_raise]
  rw [hdom]
  exact contains_markLinks _ hlt down

theorem completes_pathlat {ns : BitVec 32} (hp : s.dev.num 0x1700 7 = p.val) : Completes (.pathlat p ns) s (fun d =>
    d.num 0x1700 8 = (ns.toNat + s.dev.num 0x70B0 3 (p.val + 1) + 60) % 2 ^ 32 ∧ d.mem = s.dev.mem) := by
  have hsend (e : Device) (n : Nat) : (e.sendPathlat n).dict = e.dict ∧ (e.sendPathlat n).mem = e.mem := by
    unfold Device.sendPathlat
    constructor
    · exact forN_same Device.dict (fun _ _ => by exact view_ite rfl rfl) 12 e
    · exact forN_same Device.mem (fun _ _ => by exact view_ite rfl rfl) 12 e
  let l : Nat := (ns.toNat + s.dev.num 0x70B0 3 (p.val + 1) + 60) % 2 ^ 32
  obtain ⟨hd, hm⟩ := hsend (s.dev.setNum 0x1700 8 0 l) l
  refine completes_run_eq (c := .pathlat p ns) (X := (s.dev.setNum 0x1700 8 0 l).sendPathlat l)
    (f := fun d => if d.num 0x1700 7 = p.val then
      (d.setNum 0x1700 8 0 ((ns.toNat + d.num 0x70B0 3 (p.val + 1) + 60) % 2 ^ 32)).sendPathlat
        ((ns.toNat + d.num 0x70B0 3 (p.val + 1) + 60) % 2 ^ 32) else d)
    (fun _ => by unfold exec; exact rfl) (if_pos hp) ⟨?_, hm.trans (Device.setNum_mem ..)⟩
  rw [num_of_dict_eq hd]
  exact Device.num_setNum_same ..

theorem completes_doneMessageForward {body : BitVec 128} {q : Port} (hup : s.dev.portUp p.val = true)
    (hroot : s.dev.mapPos (s.dev.num 0x1200 3) ≠ s.dev.position) (hpar : s.dev.num 0x1700 7 = q.val) (hqp : q ≠ p)
    (hq : s.dev.portUp q.val = true) (hroom : 0 < Map.get 0 (s.dev.port q.val).ctl 1) :
    Completes (.doneMessageForward p 2 body) s (fun d =>
      d.out = .creditReturn p.val 5 1 :: .control q.val 2 body :: s.dev.out ∧
      Map.get 0 (d.port q.val).ctl 1 = Map.get 0 (s.dev.port q.val).ctl 1 - 1) := by
  have hne : q.val ≠ p.val := fun h => hqp (Fin.ext h)
  have hff : q.val ≠ 0xFF := by
    have := q.isLt
    omega
  refine completes_run_eq (c := .doneMessageForward p 2 body) (f := fun d => d.passControl p.val 2 body) (fun _ => by unfold exec; exact rfl)
    (X := (s.dev.sendControl q.val 1 2 body).send (.creditReturn p.val 5 1)) ?_ ⟨rfl, ?_⟩
  · unfold Device.passControl
    extract_lets parent root others room down turns
    have hparent : parent = q.val := hpar
    have hr : root = false := by simpa [root] using hroot
    rw [if_neg (by simp [hup]), if_neg (by rw [hr]; exact Bool.false_ne_true), if_neg (by rw [hparent]; exact hne),
      if_neg (by rw [hparent]; simp [hff, hq]), if_pos (by rw [hparent]; exact decide_eq_true hroom), hparent]
  · refine (congrArg (fun x : PortS => Map.get 0 x.ctl 1) (port_modPort_same s.dev q.val _)).trans ?_
    exact Map.get_set_same ..

end

/-- Settles O51. -/
theorem linkPackets : Obligations.LinkPackets := by
  unfold Obligations.LinkPackets
  intro s p h data tag r n cl pos port down ns body a mine room frees way replied whole held counted
  refine ⟨?_, ?_, ?_, ?_, ?_, ?_, ?_, ?_, ?_, ?_, ?_, ?_, ?_⟩
  · rintro ⟨hup, hgood, hty, hdest⟩ hlen hreach hroom
    exact completes_rd hup hgood hty hdest hlen hreach hroom
  · rintro ⟨hup, hgood, hty, hdest⟩ hroom
    exact completes_rd_full hup hgood hty hdest hroom
  · rintro ⟨hup, hgood, hty, hdest⟩ hroom
    exact completes_wr_full hup hgood hty hdest hroom
  · rintro ⟨hup, hgood, hty, hdest⟩ hreach hroom
    exact completes_wr hup hgood hty hdest hreach hroom
  · rintro ⟨hup, hgood, hty, hdest⟩
    exact ⟨completes_cpl_late hup hgood hty hdest, completes_cpl_held hup hgood hty hdest⟩
  · rintro ⟨hup, hgood, hty, hdest⟩
    exact ⟨completes_cpld_late hup hgood hty hdest, completes_cpld_held hup hgood hty hdest⟩
  · exact completes_completionTimeout
  · exact fun o vc => completes_packetForward
  · exact fun y => completes_packetStart
  · exact completes_packetStart_due
  · exact completes_downset
  · exact completes_pathlat
  · exact fun q => completes_doneMessageForward

end Sys2Proof.Machine

/-! PROOFS. Polls of work lists, launch groups and the hang limit (R132 to R137, R141). -/

namespace Sys2Proof.Machine

/-! ### A poll that is due (R135, R136) -/

theorem thread_pollBegin (d : Device) (g l hdr u : Nat) : (d.pollBegin g l hdr).thread g u = d.thread g u := by
  unfold Device.pollBegin Device.thread
  rw [Device.core_modCore_same]
  rfl

theorem freeThreads_of_thread {d e : Device} {g : Nat} (h : ∀ u, e.thread g u = d.thread g u) : e.freeThreads g = d.freeThreads g := by
  unfold Device.freeThreads
  simp only [h]

theorem liveGroups_pollBegin (d : Device) (g l hdr : Nat) : (d.pollBegin g l hdr).liveGroups g = d.liveGroups g := by
  unfold Device.pollBegin Device.liveGroups
  rw [Device.core_modCore_same]

/-- R136: the first list that is due claims what was published since the last poll. -/
theorem pollList_claims {d : Device} {g l : Nat} (hatt : d.num 0x7021 (l + 1) (g + 1) ≠ 0xFFFFFFFF) (hplan : d.planRuns = true)
    (hgood : (d.core g).failed = false) (hup : d.coreUp g = true) (hin : d.num 0x7021 (l + 1) (g + 1) + 128 ≤ 0x1000000)
    (hcl : bitOf (listHdr d (g / 16) (d.num 0x7021 (l + 1) (g + 1))).claimers (g % 16) = true) (hdue : d.pollDue g l = true)
    (hfirst : ∀ i, i < l → d.pollDue g i = false) :
    d.pollList g l = Device.pollLoop g l (d.num 0x7021 (l + 1) (g + 1))
      (((listHdr d (g / 16) (d.num 0x7021 (l + 1) (g + 1))).tail + 2 ^ 32 - (listHdr d (g / 16) (d.num 0x7021 (l + 1) (g + 1))).head) % 2 ^ 32)
      (d.pollBegin g l (d.num 0x7021 (l + 1) (g + 1))) := by
  generalize hhdr : d.num 0x7021 (l + 1) (g + 1) = hdr at *
  have hany : (List.range l).any (fun i => d.pollDue g i) = false := by
    rw [List.any_eq_false]
    exact fun i hi => by rw [hfirst i (List.mem_range.1 hi)]; exact Bool.false_ne_true
  have hat : d.listAt g l = some hdr := by
    unfold Device.listAt
    rw [hhdr]
    exact if_neg hatt
  unfold Device.pollList
  rw [hplan, hgood, hup, hdue, hany, hat, if_neg (by decide)]
  dsimp only
  rw [if_neg (by omega)]
  exact if_pos hcl

/-- R136, R137: a published record whose time has come is claimed. -/
theorem pollLoop_one {d : Device} {g l hdr : Nat} {h : ListHdr} {o : Nat} (hh : listHdr d (g / 16) hdr = h)
    (ho : h.base + h.head % h.cap * 64 = o) (hne : h.head ≠ h.tail) (hin : o + 64 ≤ 0x1000000)
    (hthr : (parseRec (d.bytes (Device.storeAddr (g / 16) o) 64)).nthr ≤ (d.freeThreads g).length)
    (hlive : (d.liveGroups g).length ≠ 64)
    (htime : 0 ≤ (d.stamp - (parseRec (d.bytes (Device.storeAddr (g / 16) o) 64)).notBefore).toInt) :
    Device.pollLoop g l hdr 1 d =
      (d.store (Device.storeAddr (g / 16) (hdr + 0x40)) 4 ((h.head + 1) % 2 ^ 32)).launchOrRefuse g hdr o h.head := by
  have hb : d.recBytes (g / 16) o = d.bytes (Device.storeAddr (g / 16) o) 64 := if_pos hin
  have hmiss : (if 0x1000000 < o + 64 then d.storeMiss g o else d) = d := if_neg (by omega)
  have htime' : stampReached d.stamp (BitVec.ofNat 32 (fieldB (d.bytes (Device.storeAddr (g / 16) o) 64) 0xC 4)) = true :=
    (stampReached_iff ..).2 htime
  unfold Device.pollLoop Device.clusterOf
  dsimp only
  rw [hh, ho, if_neg hne, hmiss, hb, if_neg, if_neg]
  · rfl
  · rw [htime']
    decide
  · simp only [Bool.or_eq_true, decide_eq_true_eq, not_or]
    exact ⟨Nat.not_lt.2 hthr, hlive⟩

/-- R137: a record that is well formed and claimed starts its threads. -/
theorem launchOrRefuse_launches {d : Device} {g hdr o h : Nat} {r : WorkRec} (hin : o + 64 ≤ 0x1000000)
    (hr : parseRec (d.bytes (Device.storeAddr (g / 16) o) 64) = r) (hgood : recBad r h = false) (hk : r.kind = 0) :
    d.launchOrRefuse g hdr o h =
      ((((d.addNum 0x7020 3 (g + 1) 1).store (Device.storeAddr (g / 16) (o + 4)) 1 2).store (Device.storeAddr (g / 16) (o + 0x38)) 2
        (g % 16)).launch g hdr o r) := by
  have hb : d.recBytes (g / 16) o = d.bytes (Device.storeAddr (g / 16) o) 64 := if_pos hin
  unfold Device.launchOrRefuse Device.clusterOf Device.recStore
  dsimp only
  rw [hb, hr, if_neg (by rw [hgood]; exact Bool.false_ne_true), if_neg (by omega), if_pos hin, if_pos hin]

/-- Threads that start, one after the other. -/
theorem foldl_setThread_starts {g : Nat} {pc : BitVec 13} {F : Device → Nat × Nat → Thread} (hF : ∀ e ti, (F e ti).st = .ready ∧ (F e ti).pc = pc)
    (l : List (Nat × Nat)) (e : Device) :
    (l.foldl (fun d ti => d.setThread g ti.1 (F d ti)) e).mem = e.mem ∧
    (∀ u ∈ l.map Prod.fst, ((l.foldl (fun d ti => d.setThread g ti.1 (F d ti)) e).thread g u).st = .ready ∧
      ((l.foldl (fun d ti => d.setThread g ti.1 (F d ti)) e).thread g u).pc = pc) ∧
    ∀ u, u ∉ l.map Prod.fst → (l.foldl (fun d ti => d.setThread g ti.1 (F d ti)) e).thread g u = e.thread g u := by
  induction l generalizing e with
  | nil => exact ⟨rfl, fun u hu => absurd hu List.not_mem_nil, fun u _ => rfl⟩
  | cons ti l ih =>
    obtain ⟨h1, h2, h3⟩ := ih (e.setThread g ti.1 (F e ti))
    refine ⟨h1, fun u hu => ?_, fun u hu => ?_⟩
    · by_cases hl : u ∈ l.map Prod.fst
      · exact h2 u hl
      · have hu' : u = ti.1 := (List.mem_cons.1 hu).resolve_right hl
        rw [List.foldl_cons, h3 u hl, hu', Device.thread_setThread_same]
        exact hF e ti
    · obtain ⟨hne, hl⟩ := not_or.1 fun h => hu (List.mem_cons.2 h)
      rw [List.foldl_cons, h3 u hl, Device.thread_setThread_ne _ _ (fun e => hne (congrArg Prod.snd e).symm)]

/-- R134: the registers of the `n`-th thread of a launch group. -/
def launchRegs (r : WorkRec) (n : Nat) : Map W64 :=
  Map.set 0 (Map.set 0 (Map.set 0 ((r.args.zipIdx).foldl (fun m a => Map.set 0 m (a.2 + 1) a.1) []) 5 (BitVec.ofNat 64 n)) 6
    (BitVec.ofNat 64 r.nthr)) 7 (BitVec.ofNat 64 r.seq)

/-- The threads of a launch group begin at ENTRY; no other thread and no byte changes. -/
theorem launch_spec (d : Device) (g hdr o : Nat) (r : WorkRec) : (d.launch g hdr o r).mem = d.mem ∧
    (∀ u ∈ (d.freeThreads g).take r.nthr, ((d.launch g hdr o r).thread g u).st = .ready ∧
      ((d.launch g hdr o r).thread g u).pc = BitVec.ofNat 13 r.entry) ∧
    ∀ u, u ∉ (d.freeThreads g).take r.nthr → (d.launch g hdr o r).thread g u = d.thread g u := by
  unfold Device.launch
  extract_lets ts gi y x regs
  have hx (u : Nat) : x.thread g u = d.thread g u := by
    show (x.core g).thread u = _
    rw [Device.core_modCore_same]
    rfl
  have hts : ts.zipIdx.map Prod.fst = ts := List.zipIdx_map_fst ..
  obtain ⟨h1, h2, h3⟩ := foldl_setThread_starts (F := fun e ti => { pc := BitVec.ofNat 13 r.entry, st := .ready, handle := 0, group := gi, regs := launchRegs r ti.2, sinceNs := e.time.nowNs })
    (fun _ _ => ⟨rfl, rfl⟩) ts.zipIdx x
  rw [hts] at h2 h3
  exact ⟨h1, h2, fun u hu => (h3 u hu).trans (hx u)⟩

theorem completes_poll_empty {s : State} {g : CoreN} {l : Fin 4} {n : Nat}
    (hpoll : s.dev.pollList g.val l.val = Device.pollLoop g.val l.val (s.dev.num 0x7021 (l.val + 1) (g.val + 1)) n
      (s.dev.pollBegin g.val l.val (s.dev.num 0x7021 (l.val + 1) (g.val + 1)))) (hn : n = 0) :
    Completes (.workListPoll g l []) s (fun d => d.mem = s.dev.mem ∧ (∀ u, d.thread g.val u = s.dev.thread g.val u) ∧
      Map.get none (d.core g.val).armed l.val = none ∧ Map.get false (d.core g.val).lack l.val = false) := by
  rw [hn] at hpoll
  refine completes_runHits (c := fun h => .workListPoll g l h) (f := fun d => d.pollList g.val l.val) (fun _ _ => by unfold exec; exact rfl)
    hpoll ⟨rfl, fun u => thread_pollBegin .., ?_, ?_⟩
  · show Map.get none ((s.dev.pollBegin g.val l.val _).core g.val).armed l.val = none
    unfold Device.pollBegin
    rw [Device.core_modCore_same]
    exact Map.get_set_same ..
  · show Map.get false ((s.dev.pollBegin g.val l.val _).core g.val).lack l.val = false
    unfold Device.pollBegin
    rw [Device.core_modCore_same]
    exact Map.get_set_same ..

/-- What claims and starts one record leaves: HEAD, the record's STATE and CORE, the threads. -/
theorem claimed_spec {d : Device} {g l hdr : Nat} {h : ListHdr} {o : Nat} (hh : listHdr d (g / 16) hdr = h)
    (ho : h.base + h.head % h.cap * 64 = o) (hne : h.head ≠ h.tail) (hin : o + 64 ≤ 0x1000000) (hapart : o + 64 ≤ hdr ∨ hdr + 128 ≤ o)
    (hgood : recBad (parseRec (d.bytes (Device.storeAddr (g / 16) o) 64)) h.head = false)
    (hkind : (parseRec (d.bytes (Device.storeAddr (g / 16) o) 64)).kind = 0)
    (hthr : (parseRec (d.bytes (Device.storeAddr (g / 16) o) 64)).nthr ≤ (d.freeThreads g).length)
    (hlive : (d.liveGroups g).length ≠ 64)
    (htime : 0 ≤ (d.stamp - (parseRec (d.bytes (Device.storeAddr (g / 16) o) 64)).notBefore).toInt) :
    let r := parseRec (d.bytes (Device.storeAddr (g / 16) o) 64)
    let e := Device.pollLoop g l hdr 1 d
    e.load (Device.storeAddr (g / 16) hdr + 0x40) 4 = (h.head + 1) % 2 ^ 32 ∧ e.byteAt (Device.storeAddr (g / 16) o + 4) = 2 ∧
      e.load (Device.storeAddr (g / 16) o + 0x38) 2 = g % 16 ∧
      (∀ u ∈ (d.freeThreads g).take r.nthr, (e.thread g u).st = .ready ∧ (e.thread g u).pc = BitVec.ofNat 13 r.entry) ∧
      ∀ u, u ∉ (d.freeThreads g).take r.nthr → e.thread g u = d.thread g u := by
  intro r e
  let a := Device.storeAddr (g / 16) o
  let ha := Device.storeAddr (g / 16) hdr
  have haddr : a + 64 ≤ ha ∨ ha + 128 ≤ a := by
    simp only [a, ha, Device.storeAddr]
    omega
  let d1 := d.store (ha + 0x40) 4 ((h.head + 1) % 2 ^ 32)
  let d2 := ((d1.addNum 0x7020 3 (g + 1) 1).store (a + 4) 1 2).store (a + 0x38) 2 (g % 16)
  have hbytes : d1.bytes a 64 = d.bytes a 64 := bytes_store_ne d (by omega)
  have he : e = d2.launch g hdr o r :=
    (pollLoop_one hh ho hne hin hthr hlive htime).trans (launchOrRefuse_launches (d := d1) hin (congrArg parseRec hbytes) hgood hkind)
  have hm1 : (d1.addNum 0x7020 3 (g + 1) 1).mem = d1.mem := Device.addNum_mem ..
  have hth (u : Nat) : d2.thread g u = d.thread g u := congrArg (CoreS.thread · u) (core_of_cores_eq (Device.addNum_cores d1 ..) g)
  obtain ⟨hmem, h1, h2⟩ := launch_spec d2 g hdr o r
  rw [freeThreads_of_thread hth] at h1 h2
  rw [he]
  refine ⟨?_, ?_, ?_, h1, fun u hu => (h2 u hu).trans (hth u)⟩
  · rw [load_of_mem_eq hmem, load_store_ne _ (by omega), load_store_ne _ (by omega), load_of_mem_eq hm1, load_store_same]
    omega
  · have hb : (d2.launch g hdr o r).load (a + 4) 1 = 2 := by
      rw [load_of_mem_eq hmem, load_store_ne _ (by omega), load_store_same]
      rfl
    have hlt := ((d2.launch g hdr o r).byteAt (a + 4)).isLt
    have hload : (d2.launch g hdr o r).load (a + 4) 1 = ((d2.launch g hdr o r).byteAt (a + 4)).toNat := by
      simp [Device.load, Device.bytes, leNat]
    exact BitVec.eq_of_toNat_eq (hload.symm.trans hb)
  · rw [load_of_mem_eq hmem, load_store_same]
    omega

/-! ### The end of a launch group (R137) -/

/-- R137, R139: what the end of a record writes. -/
theorem endRecord_spec {d : Device} (g hdr o st sc : Nat) :
    let ra := Device.storeAddr (g / 16) o
    let da := Device.storeAddr (g / 16) (hdr + 0x44)
    let e := d.endRecord g hdr o st sc
    (o + 64 ≤ 0x1000000 → da + 4 ≤ ra + 4 ∨ ra + 5 ≤ da → e.byteAt (ra + 4) = BitVec.ofNat 8 st) ∧
    (ra + 4 < da ∨ da + 4 ≤ ra + 4 → e.load da 4 = (d.load da 4 + 1) % 2 ^ 32) ∧
    (∀ a, a ≠ ra + 4 → (a < da ∨ da + 4 ≤ a) → e.byteAt a = d.byteAt a) ∧
    (∀ u, e.thread g u = d.thread g u) ∧ (e.core g).groups = (d.core g).groups ∧
    ∀ i, i < 64 → (e.core g).counter i = if i = sc % 64 ∧ i ≠ 0 then (d.core g).counter i + 1 else (d.core g).counter i := by
  intro ra da e
  let x := d.recStore (g / 16) o 4 1 st
  let y := x.store da 4 ((x.load da 4 + 1) % 2 ^ 32)
  have he : e = y.addSync g sc 1 := rfl
  have hm : e.mem = y.mem := addSync_mem ..
  have hbyte (a : Nat) : e.byteAt a = y.byteAt a := congrArg (Map.get 0 · a) hm
  have hx : x = if o + 64 ≤ 0x1000000 then d.store (ra + 4) 1 st else d := rfl
  have hxne (a : Nat) (ha : a ≠ ra + 4) : x.byteAt a = d.byteAt a := by
    rw [hx]
    split
    · exact byteAt_put_ne d (by rw [length_leBytes]; omega)
    · rfl
  have hcores : y.cores = d.cores := view_ite (v := Device.cores) rfl rfl
  refine ⟨fun hin hd => ?_, fun hd => ?_, fun a h1 h2 => ?_, fun u => ?_, ?_, fun i hi => ?_⟩
  · have hb := bytes_put_same d (ra + 4) (leBytes 1 st)
    have hst : x.byteAt (ra + 4) = BitVec.ofNat 8 st := by
      rw [hx, if_pos hin]
      simpa [Device.store, Device.bytes, leBytes] using hb
    rw [hbyte]
    exact (byteAt_put_ne x (by rw [length_leBytes]; omega)).trans hst
  · have hld : x.load da 4 = d.load da 4 := by
      rw [hx]
      split
      · exact load_store_ne d (a := ra + 4) (m := 1) (by omega)
      · rfl
    rw [load_of_mem_eq hm, load_store_same, hld]
    omega
  · rw [hbyte]
    exact (byteAt_put_ne x (by rw [length_leBytes]; omega)).trans (hxne a h1)
  · rw [he, thread_addSync]
    exact congrArg (CoreS.thread · u) (core_of_cores_eq hcores g)
  · rw [he]
    have hg : ((y.addSync g sc 1).core g).groups = (y.core g).groups := by
      refine view_ite (v := fun d : Device => (d.core g).groups) rfl ?_
      rw [Device.core_modCore_same]
    rw [hg, core_of_cores_eq hcores]
  · have hsc : y.addSync g sc 1 = y.addSync g (sc % 64) 1 := by
      unfold Device.addSync
      rw [Nat.mod_mod]
    rw [he, hsc, counter_addSync _ _ _ _ _ (Nat.mod_lt _ (by decide)), core_of_cores_eq hcores]
    refine if_congr ⟨fun h => ⟨h.1, h.1 ▸ h.2⟩, fun h => ⟨h.1, h.1 ▸ h.2⟩⟩ rfl rfl

/-- The event of a missed deadline leaves the cores and memory. -/
theorem pastDeadline_aside (d : Device) (g n : Nat) : Aside d (d.pastDeadline g n) := .ite (.raise ..) (.refl d)

theorem completes_launchGroupComplete {s : State} {g : CoreN} {grp : Grp} {y : Group}
    (hy : Map.get {} (s.dev.core g.val).groups grp.val = y) (hlive : y.live = true) (hdone : unhalted (s.dev.core g.val) grp.val = []) :
    let ra := Device.storeAddr (g.val / 16) y.recOff
    let da := Device.storeAddr (g.val / 16) (y.header + 0x44)
    Completes (.launchGroupComplete g grp []) s (fun d => (Map.get {} (d.core g.val).groups grp.val).live = false ∧
      (∀ u, d.thread g.val u = s.dev.thread g.val u) ∧
      (y.recOff + 64 ≤ 0x1000000 → da + 4 ≤ ra + 4 ∨ ra + 5 ≤ da → d.byteAt (ra + 4) = if y.faulted then 5 else 3) ∧
      (ra + 4 < da ∨ da + 4 ≤ ra + 4 → d.load da 4 = (s.dev.load da 4 + 1) % 2 ^ 32) ∧
      (∀ a, a ≠ ra + 4 → (a < da ∨ da + 4 ≤ a) → d.byteAt a = s.dev.byteAt a) ∧
      (∀ i, i < 64 → (d.core g.val).counter i =
        if i = y.doneCnt % 64 ∧ i ≠ 0 then (s.dev.core g.val).counter i + 1 else (s.dev.core g.val).counter i)) := by
  intro ra da
  let x := (s.dev.modCore g.val (fun c => { c with groups := Map.set {} c.groups grp.val {} })).pollAgain g.val
  let e := x.endRecord g.val y.header y.recOff (if y.faulted then 5 else 3) y.doneCnt
  have hcore : x.core g.val = { s.dev.core g.val with
      groups := Map.set {} (s.dev.core g.val).groups grp.val {}
      again := (x.core g.val).again
      lack := [] } := by
    simp only [x, Device.pollAgain, Device.core_modCore_same]
  obtain ⟨h1, h2, h3, h4, h5, h6⟩ := endRecord_spec (d := x) g.val y.header y.recOff (if y.faulted then 5 else 3) y.doneCnt
  have hlast := pastDeadline_aside e g.val y.deadline
  have hbyte (a : Nat) : (e.pastDeadline g.val y.deadline).byteAt a = e.byteAt a := congrArg (Map.get 0 · a) hlast.mem
  refine completes_runHits (c := fun h => .launchGroupComplete g grp h) (f := fun d =>
      if !(Map.get {} (d.core g.val).groups grp.val).live || !(unhalted (d.core g.val) grp.val).isEmpty then d
      else (((d.modCore g.val (fun c => { c with groups := Map.set {} c.groups grp.val {} })).pollAgain g.val).endRecord g.val
        (Map.get {} (d.core g.val).groups grp.val).header (Map.get {} (d.core g.val).groups grp.val).recOff
        (if (Map.get {} (d.core g.val).groups grp.val).faulted then 5 else 3)
        (Map.get {} (d.core g.val).groups grp.val).doneCnt).pastDeadline g.val (Map.get {} (d.core g.val).groups grp.val).deadline)
    (fun _ _ => by unfold exec; exact rfl) (X := e.pastDeadline g.val y.deadline) ?_ ⟨?_, fun u => ?_, fun hin hd => ?_, fun hd => ?_, fun a ha hb => ?_, fun i hi => ?_⟩
  · rw [hy, hlive, hdone]
    rfl
  · rw [hlast.core, h5, hcore]
    exact congrArg Group.live (Map.get_set_same ..)
  · rw [hlast.thread, h4]
    exact (congrArg (CoreS.thread · u) hcore).trans rfl
  · rw [hbyte, h1 hin hd]
    split <;> rfl
  · rw [load_of_mem_eq hlast.mem, h2 hd]
    rfl
  · rw [hbyte, h3 a ha hb]
    rfl
  · rw [hlast.core, h6 i hi, hcore]
    rfl

/-! ### The hang limit (R141) -/

theorem failCore_core {d : Device} {g : Nat} (hf : (d.core g).failed = false) : ((d.failCore g).core g).slots = [] ∧
    (d.failCore g).mem = d.mem := by
  let c0 (c : CoreS) : CoreS := { c with
    thr := [], slots := [], engq := [], moveq := [], watch := [], groups := [], armed := [], lack := [], again := [], failed := true }
  let x : Device := { d.modCore g c0 with hv := { d.hv with failed := d.hv.failed ++ [(false, g)] } }
  have hX : d.failCore g = (x.raise 0x8010 0x7020 (g + 1) 0 (x.survArg x.devNo)).askRestore 0x8010 := by
    unfold Device.failCore
    rw [hf]
    rfl
  have hcore : (d.failCore g).core g = (d.modCore g c0).core g := by
    rw [hX]
    exact core_of_cores_eq (Device.raise_cores x ..) g
  refine ⟨?_, ?_⟩
  · rw [hcore, Device.core_modCore_same]
  · rw [hX]
    exact Device.raise_mem x ..

theorem completes_coreHangLimit {s : State} {g : CoreN} {t : Thr} (hh : s.dev.hangs g.val t.val = true)
    (hf : (s.dev.core g.val).failed = false) : Completes (.coreHangLimit g t) s (fun d => (d.core g.val).failed = true ∧
      Raised 0x8010 s.dev d ∧ d.mem = s.dev.mem ∧ (∀ u, (d.thread g.val u).st = .free) ∧
      (∀ q i, ((d.core g.val).slot q i).valid = false) ∧ ∀ h, h ≠ g.val → d.core h = s.dev.core h) := by
  obtain ⟨⟨h1, -⟩, h2, h3, h4⟩ := failCore_spec hf g.isLt
  obtain ⟨h5, h6⟩ := failCore_core hf
  refine completes_run_eq (c := .coreHangLimit g t) (f := fun d => if d.hangs g.val t.val then d.failCore g.val else d)
    (fun _ => by unfold exec; exact rfl) (if_pos hh) ⟨h2, h1, h6, fun u => ?_, fun q i => ?_, h4⟩
  · show (Map.get ({} : Thread) ((s.dev.failCore g.val).core g.val).thr u).st = .free
    rw [h3, Map.get_nil]
  · unfold CoreS.slot
    rw [h5, Map.get_nil]

/-- Settles O20. -/
theorem workLists : Obligations.WorkLists := by
  unfold Obligations.WorkLists
  intro s g t l grp hdr ha y ra da h o a r
  refine ⟨fun hatt hplan hgood hup hin hcl hdue hfirst => ?_, fun hlive hdone => ?_, completes_coreHangLimit⟩
  · have hpoll := pollList_claims hatt hplan hgood hup hin hcl hdue hfirst
    refine ⟨fun he => completes_poll_empty hpoll ?_, fun htail hrec hapart hbad hkind hthr hlive htime => ?_⟩
    · have := load_lt s.dev (ha + 0x40) 4
      change (h.tail + 2 ^ 32 - h.head) % 2 ^ 32 = 0
      omega
    · have hhead : h.head < 256 ^ 4 := load_lt s.dev (ha + 0x40) 4
      have hn : (h.tail + 2 ^ 32 - h.head) % 2 ^ 32 = 1 := by omega
      have hne : h.head ≠ h.tail := by omega
      let x := s.dev.pollBegin g.val l.val hdr
      have hth (u : Nat) : x.thread g.val u = s.dev.thread g.val u := thread_pollBegin ..
      have hfree : x.freeThreads g.val = s.dev.freeThreads g.val := freeThreads_of_thread hth
      have hgroups : x.liveGroups g.val = s.dev.liveGroups g.val := liveGroups_pollBegin ..
      obtain ⟨h1, h2, h3, h4, h5⟩ := claimed_spec (d := x) (g := g.val) (l := l.val) (hdr := hdr) (h := h) (o := o) rfl rfl hne hrec hapart hbad hkind
        (by rw [hfree]; exact hthr) (by rw [hgroups]; exact Nat.ne_of_lt hlive) htime
      rw [hfree] at h4 h5
      exact completes_runHits (c := fun h => .workListPoll g l h) (f := fun d => d.pollList g.val l.val) (fun _ _ => by unfold exec; exact rfl)
        (hpoll.trans (by exact congrArg (Device.pollLoop g.val l.val hdr · x) hn)) ⟨h1, h2, h3, h4, fun u hu => (h5 u hu).trans (hth u)⟩
  · exact completes_launchGroupComplete rfl hlive hdone

end Sys2Proof.Machine

/-! PROOFS. Table loads, frame releases, scale waits and scale reports (R94 to R96, R106, R189, R191). -/

namespace Sys2Proof.Machine

/-! ### An operation leaves its engine's queue (R78, R191) -/

theorem reportLine_eq (d : Device) (k t m n : Nat) : ∃ x, d.reportLine k t m n = { d with mem := x } := by
  unfold Device.reportLine
  split
  · exact ⟨_, rfl⟩
  · exact ⟨d.mem, rfl⟩

theorem flushReports_eq (d : Device) (g e : Nat) : ∃ x, d.flushReports g e =
    { d with mem := x, cores := (d.modCore g (fun c => { c with reports := Map.set [] c.reports e [] })).cores } := by
  have hfold (l : List Report) (y : Device) : ∃ x, l.foldl (fun d r => d.reportLine (Device.clusterOf g) r.tsid r.smax r.sats) y =
      { y with mem := x } := by
    induction l generalizing y with
    | nil => exact ⟨y.mem, rfl⟩
    | cons r l ih =>
      obtain ⟨x, hx⟩ := reportLine_eq y (Device.clusterOf g) r.tsid r.smax r.sats
      obtain ⟨z, hz⟩ := ih (y.reportLine (Device.clusterOf g) r.tsid r.smax r.sats)
      exact ⟨z, by rw [List.foldl_cons, hz, hx]⟩
  obtain ⟨x, hx⟩ := hfold (Map.get [] (d.core g).reports e) d
  refine ⟨x, ?_⟩
  unfold Device.flushReports
  dsimp only
  rw [hx]
  rfl

/-- What an operation that leaves its queue changes: the queue, and the reports that go out when it empties. -/
theorem popEng_spec (d : Device) (g e i : Nat) : let q := ((d.core g).queue e).eraseIdx i
    (∃ rs, (d.popEng g e i).core g = { (d.core g).setQueue e q with reports := rs }) ∧
      (q ≠ [] → (d.popEng g e i).mem = d.mem) ∧ (d.popEng g e i).evt = d.evt ∧ (d.popEng g e i).dict = d.dict := by
  intro q
  let x := d.modCore g (fun c => c.setQueue e q)
  have hx : x.core g = (d.core g).setQueue e q := Device.core_modCore_same ..
  by_cases hq : q.isEmpty = true
  · obtain ⟨m, hm⟩ := flushReports_eq x g e
    have hX : d.popEng g e i = x.flushReports g e := if_pos hq
    rw [hX, hm]
    refine ⟨⟨Map.set [] (x.core g).reports e [], ?_⟩, fun h => absurd (List.isEmpty_iff.1 hq) h, rfl, rfl⟩
    have h := Device.core_modCore_same x g (fun c => { c with reports := Map.set [] c.reports e [] })
    exact h.trans (by rw [hx])
  · have hX : d.popEng g e i = x := if_neg hq
    rw [hX]
    exact ⟨⟨(d.core g).reports, hx⟩, fun _ => rfl, rfl, rfl⟩

theorem queue_popEng (d : Device) (g e i : Nat) : ((d.popEng g e i).core g).queue e = ((d.core g).queue e).eraseIdx i := by
  obtain ⟨⟨rs, hc⟩, -⟩ := popEng_spec d g e i
  rw [hc]
  exact Map.get_set_same ..

theorem thread_popEng (d : Device) (g e i u : Nat) : (d.popEng g e i).thread g u = d.thread g u := by
  obtain ⟨⟨rs, hc⟩, -⟩ := popEng_spec d g e i
  exact (congrArg (CoreS.thread · u) hc).trans rfl

theorem slots_popEng (d : Device) (g e i : Nat) : ((d.popEng g e i).core g).slots = (d.core g).slots := by
  obtain ⟨⟨rs, hc⟩, -⟩ := popEng_spec d g e i
  rw [hc]
  rfl

theorem table_popEng (d : Device) (g e i n t : Nat) : ((d.popEng g e i).core g).table n t = (d.core g).table n t := by
  obtain ⟨⟨rs, hc⟩, -⟩ := popEng_spec d g e i
  rw [hc]
  rfl

theorem counter_popEng (d : Device) (g e i n : Nat) : ((d.popEng g e i).core g).counter n = (d.core g).counter n := by
  obtain ⟨⟨rs, hc⟩, -⟩ := popEng_spec d g e i
  rw [hc]
  rfl

theorem frame_popEng (d : Device) (g e i f : Nat) : (d.popEng g e i).frame g f = d.frame g f := by
  obtain ⟨⟨rs, hc⟩, -⟩ := popEng_spec d g e i
  exact (congrArg (fun c : CoreS => Map.get ({} : Frame) c.frames f) hc).trans rfl

/-! ### What a sync counter's step leaves -/

/-- A counter's step changes its core's counters alone. -/
theorem core_addSync (d : Device) (g sc n : Nat) : ∃ m, (d.addSync g sc n).core g = { d.core g with sync := m } := by
  unfold Device.addSync
  split
  · exact ⟨_, rfl⟩
  · exact ⟨_, Device.core_modCore_same ..⟩

theorem evt_addSync (d : Device) (g sc n : Nat) : (d.addSync g sc n).evt = d.evt := view_ite (v := Device.evt) rfl rfl

/-! ### Table loads (R94 to R96) -/

/-- The sixteen bytes of a table load's record; beyond the store they read as zeros (R31). -/
theorem tableEntries_eq (d : Device) (k off : Nat) :
    tableEntries (if decide (0x1000000 ≤ off) then List.replicate 16 0 else d.bytes (Device.storeAddr k off) 16) =
      (List.range 8).map (fun n => if off < 0x1000000 then d.load (Device.storeAddr k off + 2 * n) 2 % 4096 else 0) := by
  unfold tableEntries
  refine List.map_congr_left fun n hn => ?_
  have hn8 : n < 8 := List.mem_range.1 hn
  by_cases h : off < 0x1000000
  · rw [if_neg (by simpa using h), if_pos h, fieldB_bytes d (by omega)]
  · rw [if_pos (by simpa using h), if_neg h]
    have hz : ∀ n < 8, fieldB (List.replicate 16 (0 : Byte)) (2 * n) 2 % 4096 = 0 := by decide
    exact hz n hn8

/-- What a table load puts into its slot, and the event of one that is no table. -/
def tableSet (d : Device) (g e : Nat) (f : TableFields) (off : Nat) (ts : List Nat) : Device :=
  if tableOk ts then d.modCore g (fun c => c.setTable e f.slot ts)
  else (d.modCore g (fun c => c.setTable e f.slot defaultTable)).raise 0x2021 0x7010 (g + 1) (Device.storeAddr (Device.clusterOf g) off) f.slot

theorem tableSet_spec (d : Device) (g e : Nat) (f : TableFields) (off : Nat) (ts : List Nat) :
    (tableSet d g e f off ts).core g = (d.core g).setTable e f.slot (if tableOk ts then ts else defaultTable) ∧
    (tableOk ts = false → Raised 0x2021 d (tableSet d g e f off ts)) ∧
    Map.get 0 (tableSet d g e f off ts).evt.raised 0x4008 = Map.get 0 d.evt.raised 0x4008 := by
  unfold tableSet
  by_cases h : tableOk ts = true
  · rw [if_pos h, if_pos h]
    exact ⟨Device.core_modCore_same .., fun hn => absurd h (by rw [hn]; exact Bool.false_ne_true), rfl⟩
  · rw [if_neg h, if_neg h]
    refine ⟨?_, fun _ => raised_after _ _ _ _ (by decide) rfl, raised_raise_ne _ _ _ _ _ (by decide) (by decide)⟩
    exact (core_of_cores_eq (Device.raise_cores ..) g).trans (Device.core_modCore_same ..)

/-- The first table load of an engine's queue. -/
def tableDone (g e : Nat) (d : Device) : Device :=
  match firstOp ((d.core g).queue e) EngOp.isTable with
  | some (i, .table f off) => runTable d g e i f off.toNat
  | _ => d

theorem completes_tableLoad {s : State} {g : CoreN} {e : Eng} {f : TableFields} {off : W64} {i : Nat}
    (hop : firstOp ((s.dev.core g.val).queue e.val) EngOp.isTable = some (i, .table f off))
    (hfree : ∀ x ra rb h, .acc x ra rb h ∈ ((s.dev.core g.val).queue e.val).take i → x.mode.toNat = 3 → x.table ≠ f.slot) :
    let ts := (List.range 8).map (fun n =>
      if off.toNat < 0x1000000 then s.dev.load (Device.storeAddr (g.val / 16) off.toNat + 2 * n) 2 % 4096 else 0)
    Completes (.tableLoadComplete g e []) s (fun d => (d.core g.val).queue e.val = ((s.dev.core g.val).queue e.val).eraseIdx i ∧
      (¬ off.toNat < 0x1000000 → Raised 0x4008 s.dev d) ∧
      (d.core g.val).table e.val f.slot = (if tableOk ts then ts else defaultTable) ∧
      (tableOk ts = false → Raised 0x2021 s.dev d) ∧
      (∀ i, i < 64 → (d.core g.val).counter i =
        if i = f.cnt.val ∧ i ≠ 0 then (s.dev.core g.val).counter i + 1 else (s.dev.core g.val).counter i)) := by
  intro ts
  let x : Device := if decide (0x1000000 ≤ off.toNat) then s.dev.storeMiss g.val off.toNat else s.dev
  let y := tableSet x g.val e.val f off.toNat ts
  let z := y.addSync g.val f.cnt.val 1
  have hx : Aside s.dev x := .ite (.raise ..) (.refl _)
  obtain ⟨hy, hbad, hmiss⟩ := tableSet_spec x g.val e.val f off.toNat ts
  obtain ⟨m, hz⟩ := core_addSync y g.val f.cnt.val 1
  obtain ⟨-, -, hevt, -⟩ := popEng_spec z g.val e.val i
  have hev : (z.popEng g.val e.val i).evt = y.evt := hevt.trans (evt_addSync ..)
  have hcore : y.core g.val = (s.dev.core g.val).setTable e.val f.slot (if tableOk ts then ts else defaultTable) := by
    rw [hy, hx.core]
  have hrun : runTable s.dev g.val e.val i f off.toNat = z.popEng g.val e.val i := by
    unfold runTable
    refine (if_neg ?_).trans ?_
    · rw [Bool.not_eq_true, List.any_eq_false]
      rintro (⟨x, ra, rb, h⟩ | _ | _) hop
      · simpa using hfree x ra rb h hop
      · exact Bool.false_ne_true
      · exact Bool.false_ne_true
    · dsimp only
      rw [tableEntries_eq]
      rfl
  refine completes_runHits (c := fun h => .tableLoadComplete g e h) (f := fun d => tableDone g.val e.val d) (X := z.popEng g.val e.val i)
    (fun _ _ => by unfold exec; exact rfl) ?_ ⟨?_, fun h => ?_, ?_, fun h => ?_, fun n hn => ?_⟩
  · unfold tableDone
    rw [hop]
    exact hrun
  · rw [queue_popEng, hz, hcore]
    rfl
  · have hm : x = s.dev.storeMiss g.val off.toNat := if_pos (by simpa using h)
    unfold Raised
    rw [hev, hmiss, hm]
    exact raised_raise ..
  · rw [table_popEng, hz, hcore]
    exact Map.get_set_same ..
  · have hr : Map.get 0 x.evt.raised 0x2021 = Map.get 0 s.dev.evt.raised 0x2021 :=
      view_ite (v := fun d : Device => Map.get 0 d.evt.raised 0x2021) (raised_raise_ne _ _ _ _ _ (by decide) (by decide)) rfl
    have := hbad h
    unfold Raised at this ⊢
    rw [hev, this, hr]
  · rw [counter_popEng, counter_addSync _ _ _ _ _ f.cnt.isLt, hcore]
    refine if_congr ⟨fun h => ⟨h.1, h.1 ▸ h.2⟩, fun h => ⟨h.1, h.1 ▸ h.2⟩⟩ rfl rfl

/-! ### Frames and written lines (R106, R189) -/

theorem frame_setFrame_ne (d : Device) (g : Nat) {f o : Nat} (x : Frame) (h : f ≠ o) : (d.setFrame g f x).frame g o = d.frame g o := by
  unfold Device.setFrame Device.frame
  rw [Device.core_modCore_same]
  exact Map.get_set_ne _ _ _ h

theorem completes_frameRelease {s : State} {g : CoreN} {fr : Fin 240} (hst : (s.dev.frame g.val fr.val).st = .full)
    (hrel : (s.dev.frame g.val fr.val).release = true) (hreads : (s.dev.frame g.val fr.val).reads = 0)
    (hcar : (s.dev.frame g.val fr.val).carousel = false) :
    Completes (.frameRelease g fr) s (fun d => d.frame g.val fr.val = {} ∧
      (∀ o, o ≠ fr.val → d.frame g.val o = s.dev.frame g.val o) ∧ d = { s.dev with cores := d.cores }) := by
  refine completes_run_eq (c := .frameRelease g fr) (f := fun d =>
      if (d.frame g.val fr.val).st == .full && (d.frame g.val fr.val).release && (d.frame g.val fr.val).reads == 0 &&
        !(d.frame g.val fr.val).carousel then d.emptyFrame g.val fr.val else d)
    (X := s.dev.emptyFrame g.val fr.val) (fun _ => by unfold exec; exact rfl) ?_ ⟨frame_setFrame_same .., fun o ho => ?_, rfl⟩
  · refine if_pos ?_
    rw [hst, hrel, hreads, hcar]
    decide
  · exact frame_setFrame_ne _ _ _ (Ne.symm ho)

theorem forN_induct {σ : Type} {f : σ → Nat → σ} {P : Nat → σ → Prop} {x : σ} (h0 : P 0 x)
    (hs : ∀ n y, P n y → P (n + 1) (f y n)) (n : Nat) : P n (forN n x f) := by
  induction n with
  | zero => exact h0
  | succ n ih =>
    rw [forN_succ]
    exact hs n _ ih

/-- R189: the waiting drains of one engine's queue read the written line again. -/
def rereadQueue (k t : Nat) (d : Device) (g e : Nat) : Device :=
  let q := (d.core g).queue e
  let q' := q.map (rereadOp d k t)
  if q' = q then d else d.modCore g (fun c => c.setQueue e q')

theorem rereadQueue_eq (k t : Nat) (d : Device) (g e : Nat) : rereadQueue k t d g e = { d with cores := (rereadQueue k t d g e).cores } := by
  unfold rereadQueue
  dsimp only
  split
  · rfl
  · rfl

theorem queue_rereadQueue (k t : Nat) (d : Device) (g e h q : Nat) : ((rereadQueue k t d g e).core h).queue q =
    if h = g ∧ q = e then ((d.core g).queue e).map (rereadOp d k t) else (d.core h).queue q := by
  unfold rereadQueue
  dsimp only
  split
  · next hsame =>
    split
    · next hq => rw [hsame, hq.1, hq.2]
    · rfl
  · by_cases hg : h = g
    · subst hg
      rw [Device.core_modCore_same]
      by_cases hq : q = e
      · rw [if_pos ⟨rfl, hq⟩, hq]
        exact Map.get_set_same ..
      · rw [if_neg fun h => hq h.2]
        exact Map.get_set_ne _ _ _ (Ne.symm hq)
    · rw [if_neg fun h => hg h.1, Device.core_modCore_ne _ _ (Ne.symm hg)]

/-- The cluster after `m` of its cores, and `n` engines of the next, have read the line again. -/
def Reread (d : Device) (k t m n : Nat) (x : Device) : Prop :=
  x = { d with cores := x.cores } ∧ ∀ l q, (x.core (16 * k + l)).queue q =
    if l < m ∧ q < 8 ∨ l = m ∧ q < n then ((d.core (16 * k + l)).queue q).map (rereadOp d k t) else (d.core (16 * k + l)).queue q

theorem reread_step {d : Device} {k t m n : Nat} {x : Device} (hn : n < 8) (h : Reread d k t m n x) :
    Reread d k t m (n + 1) (rereadQueue k t x (16 * k + m) n) := by
  obtain ⟨hx, hq⟩ := h
  have hop : rereadOp x k t = rereadOp d k t := by
    have hnum (i j n : Nat) : x.num i j n = d.num i j n := num_of_dict_eq (by rw [hx]) i j n
    have hline : x.line k t = d.line k t := line_of_eq (by rw [hx]) (by rw [hx]) k t
    have hwaits (l : Line) : x.lineWaits k t l = d.lineWaits k t l := by
      unfold Device.lineWaits
      rw [hnum, show x.cad = d.cad by rw [hx]]
    funext op
    cases op with
    | drain f o a h l since late => simp only [rereadOp, hline, hwaits]
    | acc => rfl
    | table => rfl
  refine ⟨?_, fun l q => ?_⟩
  · rw [rereadQueue_eq, hx]
  · rw [queue_rereadQueue, hop, hq, hq]
    by_cases hl : l = m ∧ q = n
    · obtain ⟨rfl, rfl⟩ := hl
      rw [if_pos ⟨rfl, rfl⟩, if_neg (by omega), if_pos (by omega)]
    · rw [if_neg (by omega)]
      exact if_congr (by omega) rfl rfl

theorem reread_all (d : Device) (k t : Nat) :
    Reread d k t 16 0 (forN 16 d (fun d l => forN 8 d (fun d e => rereadQueue k t d (16 * k + l) e))) := by
  refine forN_induct (P := fun m x => Reread d k t m 0 x) ⟨rfl, fun l q => (if_neg (by omega)).symm⟩ (fun m x hx => ?_) 16
  have h8 : Reread d k t m 8 (forN 8 x (fun d e => rereadQueue k t d (16 * k + m) e)) :=
    (forN_induct (P := fun n y => n ≤ 8 → Reread d k t m n y) (fun _ => hx) (fun n y hy hn => reread_step hn (hy (by omega))) 8) (le_refl 8)
  exact ⟨h8.1, fun l q => (h8.2 l q).trans (if_congr (by omega) rfl rfl)⟩

theorem completes_scaleLineWritten {s : State} {k : Cluster} {tsid : BitVec 16} :
    Completes (.scaleLineWritten k tsid []) s (fun d => d = { s.dev with cores := d.cores } ∧
      ∀ l q, l < 16 → q < 8 → (d.core (16 * k.val + l)).queue q =
        ((s.dev.core (16 * k.val + l)).queue q).map (rereadOp s.dev k.val tsid.toNat)) := by
  obtain ⟨h1, h2⟩ := reread_all s.dev k.val tsid.toNat
  exact completes_runHits (c := fun h => .scaleLineWritten k tsid h)
    (f := fun d => forN 16 d (fun d l => forN 8 d (fun d e => rereadQueue k.val tsid.toNat d (16 * k.val + l) e)))
    (fun _ _ => by unfold exec; exact rfl) rfl ⟨h1, fun l q hl hq => (h2 l q).trans (if_pos (.inl ⟨hl, hq⟩))⟩

/-! ### Limits and reports (R189, R191) -/

section
variable {s : State} {g : CoreN} {e : Eng} {k : Cluster} {tsid : BitVec 16}

/-- R189: the first drain of a queue has waited too long. -/
def drainLate (g e : Nat) (d : Device) : Device :=
  match firstOp ((d.core g).queue e) EngOp.isDrain with
  | some (i, .drain f o a h l since false) =>
    let ts := (outDesc o).tsid
    if d.lineWaits (Device.clusterOf g) ts l && d.scaleWaited since then
      (d.modCore g (fun c => c.setQueue e ((c.queue e).set i (.drain f o a h l since true)))).raise 0x2106 0x7010 (g + 1) 0 ts
    else d
  | _ => d

/-- R189: the conversion of a cluster has waited too long. -/
def convertLate (k : Nat) (d : Device) : Device :=
  match (d.clu k).cvt with
  | some j =>
    let ts := fieldB j.desc 0x30 2
    if !j.worked && !j.late && d.lineWaits k ts (d.line k ts) && d.scaleWaited j.since then
      (d.modClu k (fun c => { c with cvt := some { j with late := true } })).raise 0x2106 0x7050 (k + 1) 0 ts
    else d
  | none => d

/-- R191: one buffered report goes out. -/
def reportOut (g e t : Nat) (d : Device) : Device :=
  let rs := Map.get [] (d.core g).reports e
  match rs.find? (fun r => r.tsid == t) with
  | some r =>
    (d.modCore g (fun c => { c with reports := Map.set [] c.reports e (rs.filter (fun r => r.tsid != t)) })).reportLine
      (Device.clusterOf g) r.tsid r.smax r.sats
  | none => d

theorem completes_scaleWait_eng {f : DrainFields} {ro rd : W64} {h : W32} {l : Line} {since i : Nat}
    (hop : firstOp ((s.dev.core g.val).queue e.val) EngOp.isDrain = some (i, .drain f ro rd h l since false))
    (hw : s.dev.lineWaits (g.val / 16) (outDesc ro).tsid l = true) (ht : s.dev.scaleWaited since = true) :
    Completes (.scaleWaitLimit (.eng g e)) s (fun d =>
      (d.core g.val).queue e.val = ((s.dev.core g.val).queue e.val).set i (.drain f ro rd h l since true) ∧
      Raised 0x2106 s.dev d ∧ d.mem = s.dev.mem) := by
  let x := s.dev.modCore g.val (fun c => c.setQueue e.val ((c.queue e.val).set i (.drain f ro rd h l since true)))
  refine completes_run_eq (c := .scaleWaitLimit (.eng g e)) (f := drainLate g.val e.val)
    (X := x.raise 0x2106 0x7010 (g.val + 1) 0 (outDesc ro).tsid) (fun _ => by unfold exec; exact rfl) ?_
    ⟨?_, raised_after _ _ _ _ (by decide) rfl, Device.raise_mem ..⟩
  · unfold drainLate
    rw [hop]
    exact if_pos (by rw [Bool.and_eq_true]; exact ⟨hw, ht⟩)
  · rw [core_of_cores_eq (Device.raise_cores ..), Device.core_modCore_same]
    exact Map.get_set_same ..

theorem completes_scaleWait_cvt {j : Job} (hj : (s.dev.clu k.val).cvt = some j) (hwork : j.worked = false) (hlate : j.late = false)
    (hw : s.dev.lineWaits k.val (fieldB j.desc 0x30 2) (s.dev.line k.val (fieldB j.desc 0x30 2)) = true)
    (ht : s.dev.scaleWaited j.since = true) :
    Completes (.scaleWaitLimit (.cvt k)) s (fun d => (d.clu k.val).cvt = some { j with late := true } ∧ Raised 0x2106 s.dev d ∧
      d.mem = s.dev.mem) := by
  let x := s.dev.modClu k.val (fun c => { c with cvt := some { j with late := true } })
  refine completes_run_eq (c := .scaleWaitLimit (.cvt k)) (f := convertLate k.val)
    (X := x.raise 0x2106 0x7050 (k.val + 1) 0 (fieldB j.desc 0x30 2)) (fun _ => by unfold exec; exact rfl) ?_
    ⟨?_, raised_after _ _ _ _ (by decide) rfl, Device.raise_mem ..⟩
  · unfold convertLate
    rw [hj]
    exact if_pos (by rw [hwork, hlate, hw, ht]; decide)
  · have hc : (x.raise 0x2106 0x7050 (k.val + 1) 0 (fieldB j.desc 0x30 2)).clu k.val = x.clu k.val :=
      congrArg (Map.get ({} : ClusS) · k.val) (Device.raise_clus ..)
    rw [hc, Device.clu_modClu_same]

theorem completes_scaleReportFlush {r : Report}
    (hr : (Map.get [] (s.dev.core g.val).reports e.val).find? (fun r => r.tsid == tsid.toNat) = some r)
    (hin : tsid.toNat < s.dev.num 0x7050 2 (g.val / 16 + 1)) :
    let a := Device.storeAddr (g.val / 16) (s.dev.num 0x7050 1 (g.val / 16 + 1) + 128 * tsid.toNat + 64)
    Completes (.scaleReportFlush g e tsid) s (fun d => d.load a 4 = max (s.dev.load a 4) r.smax % 2 ^ 32 ∧
      d.load (a + 4) 4 = (s.dev.load (a + 4) 4 + r.sats) % 2 ^ 32 ∧
      (∀ x, x < a ∨ a + 8 ≤ x → d.byteAt x = s.dev.byteAt x)) := by
  intro a
  have ht : r.tsid = tsid.toNat := by simpa using List.find?_some hr
  let x := s.dev.modCore g.val (fun c => { c with
    reports := Map.set [] c.reports e.val ((Map.get [] (s.dev.core g.val).reports e.val).filter (fun r => r.tsid != tsid.toNat)) })
  let y := x.store a 4 (max (x.load a 4) r.smax)
  have hX : x.reportLine (Device.clusterOf g.val) r.tsid r.smax r.sats = y.store (a + 4) 4 ((y.load (a + 4) 4 + r.sats) % 2 ^ 32) := by
    have hnum (i j n : Nat) : x.num i j n = s.dev.num i j n := num_of_dict_eq (d := s.dev) (e := x) rfl i j n
    unfold Device.reportLine Device.lineOff Device.clusterOf
    rw [ht, hnum, hnum]
    exact if_pos hin
  have hload : y.load (a + 4) 4 = s.dev.load (a + 4) 4 := load_store_ne x (by omega)
  refine completes_run_eq (c := .scaleReportFlush g e tsid) (f := reportOut g.val e.val tsid.toNat) (fun _ => by unfold exec; exact rfl)
    (X := y.store (a + 4) 4 ((y.load (a + 4) 4 + r.sats) % 2 ^ 32)) ?_ ⟨?_, ?_, fun z hz => ?_⟩
  · unfold reportOut
    dsimp only
    rw [hr]
    exact hX
  · rw [load_store_ne _ (by omega), load_store_same]
    rfl
  · rw [load_store_same, hload]
    omega
  · exact (byteAt_put_ne y (by rw [length_leBytes]; omega)).trans (byteAt_put_ne x (by rw [length_leBytes]; omega))

end

/-- Settles O19. -/
theorem tablesFramesAndReports : Obligations.TablesFramesAndReports := by
  unfold Obligations.TablesFramesAndReports
  refine ⟨fun s g e f off i => completes_tableLoad, fun s g e fr k tsid => ⟨completes_frameRelease, ?_, ?_, completes_scaleLineWritten, ?_⟩⟩
  · exact fun f ro rd h l since i => completes_scaleWait_eng
  · exact fun j => completes_scaleWait_cvt
  · exact fun r => completes_scaleReportFlush

end Sys2Proof.Machine

/-! PROOFS. Completion of an accumulate (R77 to R79, R96, R99, R106). -/

namespace Sys2Proof.Machine

/-- What an accumulate leaves alone until it leaves the queue: threads, queues, slots, memory, and how often a CONT was refused. -/
def accView (g : Nat) (d : Device) : Map Thread × Map (List EngOp) × Map Slot × Map Byte × Nat :=
  ((d.core g).thr, (d.core g).engq, (d.core g).slots, d.mem, Map.get 0 d.evt.raised 0x2022)

theorem accView_of_aside {g : Nat} {d e : Device} (h : Aside d e) (hr : Map.get 0 e.evt.raised 0x2022 = Map.get 0 d.evt.raised 0x2022) :
    accView g e = accView g d := by
  unfold accView
  rw [h.core, h.mem, hr]

theorem accView_modCore {g : Nat} (d : Device) {F : CoreS → CoreS} (ht : (F (d.core g)).thr = (d.core g).thr)
    (hq : (F (d.core g)).engq = (d.core g).engq) (hs : (F (d.core g)).slots = (d.core g).slots) : accView g (d.modCore g F) = accView g d := by
  unfold accView
  rw [Device.core_modCore_same, ht, hq, hs]
  rfl

theorem accView_raise {g : Nat} (d : Device) {c : Nat} (hc : c ≠ 0x2022) (ua ui a b : Nat) : accView g (d.raise c ua ui a b) = accView g d :=
  accView_of_aside (.raise ..) (raised_raise_ne _ _ _ _ _ hc (by decide))

theorem accView_addNum {g : Nat} (d : Device) (i s k n : Nat) : accView g (d.addNum i s k n) = accView g d :=
  accView_of_aside (.addNum ..) (by rw [Device.addNum_evt])

theorem accView_addStall {g : Nat} (d : Device) (h c n : Nat) : accView g (d.addStall h c n) = accView g d := by
  unfold Device.addStall
  exact view_ite (v := accView g) rfl (accView_of_aside (.setNum ..) (by rw [Device.setNum_evt]))

theorem accView_foldl {g : Nat} {α : Type} {f : Device → α → Device} (h : ∀ x a, accView g (f x a) = accView g x) (l : List α) (d : Device) :
    accView g (l.foldl f d) = accView g d := Device.foldl_same (accView g) f h l d

theorem accView_badHeaders {g : Nat} (d : Device) (l : List (Nat × Hdr)) : accView g (d.badHeaders g l) = accView g d :=
  accView_foldl (fun x b => accView_raise (x.modClu _ _) (by decide) ..) l d

theorem aside_badHeaders (d : Device) (g : Nat) (l : List (Nat × Hdr)) : Aside d (d.badHeaders g l) :=
  .foldl (fun _ _ => (Aside.modClu ..).trans (.raise ..)) l d

theorem accView_taintedRead {g : Nat} (d : Device) (h : Hdr) (a : Nat) : accView g (d.taintedRead h a) = accView g d :=
  view_ite (v := accView g) (accView_addNum ..) rfl

theorem aside_taintedRead (d : Device) (h : Hdr) (a : Nat) : Aside d (d.taintedRead h a) := .ite (.addNum ..) (.refl d)

theorem accView_setFrame {g : Nat} (d : Device) (f : Nat) (x : Frame) : accView g (d.setFrame g f x) = accView g d :=
  accView_modCore d rfl rfl rfl

theorem accView_releaseFrame {g : Nat} (d : Device) (f : Nat) : accView g (d.releaseFrame g f) = accView g d := by
  unfold Device.releaseFrame
  exact view_ite (v := accView g) rfl (view_ite (v := accView g) (accView_setFrame ..) (accView_setFrame ..))

theorem accView_takeOperands {g : Nat} (d : Device) (e n : Nat) : accView g (d.takeOperands g e n) = accView g d :=
  (accView_addNum ..).trans (accView_modCore d rfl rfl rfl)

theorem accView_accCounters {g : Nat} (d : Device) (e : Nat) (f : AccFields) (a b : Feed) : accView g (d.accCounters g e f a b) = accView g d := by
  unfold Device.accCounters
  extract_lets mode ref len wins costs clk products d1 w d2 d3 d4 d5 d6
  have h3 : accView g d3 = accView g d := (accView_takeOperands d2 ..).trans (accView_addNum d ..)
  have h4 : accView g d4 = accView g d := (view_ite (v := accView g) (accView_addNum ..) rfl).trans h3
  have h5 : accView g d5 = accView g d := (view_ite (v := accView g) (accView_addNum ..) rfl).trans h4
  have h6 : accView g d6 = accView g d := (view_ite (v := accView g) (accView_addStall ..) rfl).trans h5
  exact (view_ite (v := accView g) rfl (accView_addStall ..)).trans h6

/-! ### The slot (R76 to R79, R99) -/

/-- What an accumulate does to its slot. -/
def accWrite (d : Device) (g e : Nat) (f : AccFields) (a b : Feed) (block : Bool) : Device :=
  match d.accSlot g f a b block with
  | none => d.raise 0x2022 0x7010 (g + 1) 0 f.slot
  | some sl =>
    let cells := d.accCells g e f a b block sl
    let ov := cells.any (·.ovf)
    let d := if !f.init && block then d.claimBlock g e f.slot else d
    let d := d.modCore g (fun c => c.setSlot e f.slot { sl with cells := cells, ovfRaised := sl.ovfRaised || ov })
    if ov && !sl.ovfRaised then d.raise 0x2020 0x7010 (g + 1) 0 f.slot else d

/-- Threads, queues and memory. -/
def accKept (g : Nat) (d : Device) : Map Thread × Map (List EngOp) × Map Byte := ((d.core g).thr, (d.core g).engq, d.mem)

theorem accKept_modCore {g : Nat} (d : Device) {F : CoreS → CoreS} (ht : (F (d.core g)).thr = (d.core g).thr)
    (hq : (F (d.core g)).engq = (d.core g).engq) : accKept g (d.modCore g F) = accKept g d := by
  unfold accKept
  rw [Device.core_modCore_same, ht, hq]
  rfl

theorem accKept_of_aside {g : Nat} {d e : Device} (h : Aside d e) : accKept g e = accKept g d := by
  unfold accKept
  rw [h.core, h.mem]

theorem accWrite_spec (d : Device) (g e : Nat) (f : AccFields) (a b : Feed) (block : Bool) :
    accKept g (accWrite d g e f a b block) = accKept g d ∧
    match d.accSlot g f a b block with
    | none => Raised 0x2022 d (accWrite d g e f a b block) ∧ ((accWrite d g e f a b block).core g).slots = (d.core g).slots
    | some sl => ∃ ov, ((accWrite d g e f a b block).core g).slot e f.slot = { sl with cells := d.accCells g e f a b block sl, ovfRaised := ov } := by
  unfold accWrite
  cases h : d.accSlot g f a b block with
  | none =>
    exact ⟨accKept_of_aside (.raise ..), raised_after _ _ _ _ (by decide) rfl, by rw [core_of_cores_eq (Device.raise_cores ..)]⟩
  | some sl =>
    dsimp only
    let cells := d.accCells g e f a b block sl
    let ov := cells.any (·.ovf)
    let x := if !f.init && block then d.claimBlock g e f.slot else d
    let y := x.modCore g (fun c => c.setSlot e f.slot { sl with cells := cells, ovfRaised := sl.ovfRaised || ov })
    have hx : accKept g x = accKept g d := by
      refine view_ite (v := accKept g) ?_ rfl
      exact forN_same (accKept g) (fun z i => accKept_modCore z rfl rfl) 3 d
    have hy : accKept g y = accKept g d := (accKept_modCore x rfl rfl).trans hx
    have hslot : (y.core g).slot e f.slot = { sl with cells := cells, ovfRaised := sl.ovfRaised || ov } := by
      rw [Device.core_modCore_same]
      exact Map.get_set_same ..
    refine ⟨(view_ite (v := accKept g) (accKept_of_aside (.raise ..)) rfl).trans hy, sl.ovfRaised || ov, ?_⟩
    exact (view_ite (v := fun d : Device => (d.core g).slot e f.slot) (by rw [core_of_cores_eq (Device.raise_cores ..)]) rfl).trans hslot

/-! ### The completion -/

/-- An accumulate that finds everything it needs, until it leaves the queue. -/
def accRun (d : Device) (g e : Nat) (f : AccFields) (da db : OpDesc) (a b : Feed) : Device :=
  let d := d.badHeaders g (a.bad ++ b.bad)
  let d := (dedupNat (a.frames ++ b.frames)).foldl (fun d fr => d.taintedRead (parseHdr (d.bytes (Device.localAddr g (hdrOff fr)) 16)) (Device.localAddr g (hdrOff fr))) d
  let d := accWrite d g e f a b (Device.accBlock f a b)
  let d := d.accCounters g e f a b
  let d := if da.rel then a.frames.foldl (fun d fr => d.releaseFrame g fr) d else d
  if db.rel then b.frames.foldl (fun d fr => d.releaseFrame g fr) d else d

section
variable {d : Device} {g e i : Nat} {f : AccFields} {da db : OpDesc} {a b : Feed}

theorem runAcc_eq (ha : d.gather g true da f.fmtA.toNat f.widthA.toNat f.mode.toNat f.len.toNat = a)
    (hb : d.gather g false db f.fmtB.toNat f.widthB.toNat f.mode.toNat f.len.toNat = b)
    (hfull : ∀ fr ∈ a.frames ++ b.frames, (d.frame g fr).st = .full)
    (hpa : d.unpublished (g / 16) a.tsid = false) (hpb : d.unpublished (g / 16) b.tsid = false)
    (htab : Device.tableAhead (((d.core g).queue e).take i) f = false)
    (hdr : d.drainAhead g e (((d.core g).queue e).take i) (Device.formSlots (Device.accBlock f a b) f.slot) = false) :
    d.runAcc g e i f da db = (accRun d g e f da db a b).popEng g e i := by
  have hfind : (a.frames ++ b.frames).find? (fun fr => (d.frame g fr).st != .full) = none := by
    rw [List.find?_eq_none]
    intro fr hfr
    rw [hfull fr hfr]
    decide
  unfold Device.runAcc Device.clusterOf
  dsimp only
  rw [ha, hb, hfind, hpa, hpb, htab, hdr]
  rfl

theorem accRun_spec : accKept g (accRun d g e f da db a b) = accKept g d ∧
    match d.accSlot g f a b (Device.accBlock f a b) with
    | none => Raised 0x2022 d (accRun d g e f da db a b) ∧ ((accRun d g e f da db a b).core g).slots = (d.core g).slots
    | some sl => ∃ ov, ((accRun d g e f da db a b).core g).slot e f.slot =
        { sl with cells := d.accCells g e f a b (Device.accBlock f a b) sl, ovfRaised := ov } := by
  unfold accRun
  extract_lets x y z u v
  have hyv : accView g y = accView g d := (accView_foldl (fun _ _ => accView_taintedRead ..) _ x).trans (accView_badHeaders ..)
  have hya : Aside d y := (aside_badHeaders ..).trans (.foldl (fun _ _ => aside_taintedRead ..) _ _)
  have hv : accView g (if db.rel then b.frames.foldl (fun d fr => d.releaseFrame g fr) v else v) = accView g z := by
    have hrel (w : Device) (l : List Nat) (c : Bool) : accView g (if c then l.foldl (fun d fr => d.releaseFrame g fr) w else w) = accView g w :=
      view_ite (v := accView g) (accView_foldl (fun _ _ => accView_releaseFrame ..) l w) rfl
    exact (hrel v b.frames db.rel).trans ((hrel u a.frames da.rel).trans (accView_accCounters ..))
  obtain ⟨hk, hz⟩ := accWrite_spec y g e f a b (Device.accBlock f a b)
  generalize (if db.rel then b.frames.foldl (fun d fr => d.releaseFrame g fr) v else v) = w at hv ⊢
  have hslot : y.accSlot g f a b (Device.accBlock f a b) = d.accSlot g f a b (Device.accBlock f a b) := by
    unfold Device.accSlot
    rw [hya.core]
  have hcells (sl : Slot) : y.accCells g e f a b (Device.accBlock f a b) sl = d.accCells g e f a b (Device.accBlock f a b) sl := by
    unfold Device.accCells
    rw [hya.core]
  unfold accView at hv hyv
  simp only [Prod.mk.injEq] at hv hyv
  obtain ⟨h1, h2, h3, h4, h5⟩ := hv
  obtain ⟨-, -, g3, -, g5⟩ := hyv
  rw [hslot] at hz
  refine ⟨?_, ?_⟩
  · rw [← accKept_of_aside hya, ← hk]
    unfold accKept
    rw [h1, h2, h4]
  · cases hs : d.accSlot g f a b (Device.accBlock f a b) with
    | none =>
      rw [hs] at hz
      obtain ⟨hr, hsl⟩ := hz
      unfold Raised at hr ⊢
      exact ⟨by rw [h5, hr, g5], by rw [h3, hsl, g3]⟩
    | some sl =>
      rw [hs] at hz
      obtain ⟨ov, hov⟩ := hz
      refine ⟨ov, ?_⟩
      rw [← hcells, ← hov]
      unfold CoreS.slot
      rw [h3]

end

/-- The first accumulate of an engine's queue. -/
def accDone (g e : Nat) (d : Device) : Device :=
  match firstOp ((d.core g).queue e) EngOp.isAcc with
  | some (i, .acc f a b _) => d.runAcc g e i f (opDesc a) (opDesc b)
  | _ => d

/-- Settles O17. -/
theorem accumulateCompletes : Obligations.AccumulateCompletes := by
  unfold Obligations.AccumulateCompletes
  intro s g e f ra rb h i a b block q rest hop htab hdr hfull hpa hpb
  let x := accRun s.dev g.val e.val f (opDesc ra) (opDesc rb) a b
  obtain ⟨hk, hslot⟩ := accRun_spec (d := s.dev) (g := g.val) (e := e.val) (f := f) (da := opDesc ra) (db := opDesc rb) (a := a) (b := b)
  obtain ⟨-, hmem, hevt, -⟩ := popEng_spec x g.val e.val i
  have hq : (x.core g.val).queue e.val = q := congrArg (fun m => Map.get [] m e.val) (congrArg (·.2.1) hk)
  have hx : s.dev.runAcc g.val e.val i f (opDesc ra) (opDesc rb) = x.popEng g.val e.val i := runAcc_eq rfl rfl hfull hpa hpb htab hdr
  refine completes_runHits (c := fun h => .accumulateComplete g e h) (f := accDone g.val e.val) (X := x.popEng g.val e.val i)
    (fun _ _ => by unfold exec; exact rfl) ?_ ⟨?_, fun u => ?_, fun hr => ?_, ?_⟩
  · unfold accDone
    rw [hop]
    exact hx
  · rw [queue_popEng, hq]
  · rw [thread_popEng]
    exact congrArg (fun m => Map.get ({} : Thread) m u) (congrArg (·.1) hk)
  · rw [hmem (by rw [hq]; exact hr)]
    exact congrArg (·.2.2) hk
  · cases hs : s.dev.accSlot g.val f a b block with
    | none =>
      rw [hs] at hslot
      obtain ⟨hr, hsl⟩ := hslot
      refine ⟨hr.of_evt_eq rfl hevt, ?_⟩
      rw [slots_popEng, hsl]
    | some sl =>
      rw [hs] at hslot
      obtain ⟨ov, hov⟩ := hslot
      have hsame : ((x.popEng g.val e.val i).core g.val).slot e.val f.slot = (x.core g.val).slot e.val f.slot := by
        unfold CoreS.slot
        rw [slots_popEng]
      dsimp only
      rw [hsame, hov]
      exact ⟨rfl, rfl, rfl⟩

end Sys2Proof.Machine

/-! PROOFS. Completion of a drain (R78, R85, R86, R99, R116, R119, R153, R189). -/

namespace Sys2Proof.Machine

/-! ### The elements of a sub-block -/

theorem length_packSmall {bits : Nat} (hb : 0 < 8 / bits) {m n : Nat} {xs : List Nat} (hx : xs.length = 8 / bits * m) (hn : m ≤ n) :
    (packSmall bits n xs).length = m := by
  induction m generalizing n xs with
  | zero =>
    obtain rfl := List.eq_nil_of_length_eq_zero (hx.trans (Nat.mul_zero _))
    cases n <;> rfl
  | succ m ih =>
    obtain ⟨n, rfl⟩ : ∃ k, n = k + 1 := ⟨n - 1, by omega⟩
    rw [Nat.mul_succ] at hx
    cases xs with
    | nil =>
      rw [List.length_nil] at hx
      omega
    | cons x xs =>
      have hdrop : ((x :: xs).drop (8 / bits)).length = 8 / bits * m := by
        rw [List.length_drop, hx]
        omega
      have hrec : (packSmall bits n ((x :: xs).drop (8 / bits))).length = m := ih hdrop (by omega)
      simp only [packSmall, List.length_cons, hrec]

/-- A sub-block of 256 elements takes 32 bytes for each bit of an element. -/
theorem length_packElems {cb : Nat} (h : cb ∈ [1, 2, 4, 8, 16]) {xs : List Nat} (hx : xs.length = 256) :
    (packElems cb xs).length = 32 * cb := by
  have hsmall (c : Nat) (hc : c < 8) (hp : 0 < 8 / c) (hm : 256 = 8 / c * (32 * c)) : (packElems c xs).length = 32 * c := by
    unfold packElems
    rw [if_pos hc]
    exact length_packSmall hp (hx.trans hm) (by omega)
  simp only [List.mem_cons, List.not_mem_nil, or_false] at h
  rcases h with rfl | rfl | rfl | rfl | rfl
  · exact hsmall 1 (by decide) (by decide) (by decide)
  · exact hsmall 2 (by decide) (by decide) (by decide)
  · exact hsmall 4 (by decide) (by decide) (by decide)
  · rw [length_packElems_8, hx]
  · rw [length_packElems_16, hx]

/-- The container of a format that a drain may name. -/
theorem contBits_drain {fmt width : Nat} (h1 : 1 ≤ fmt) (h8 : fmt < 8) : contBits fmt width ∈ [1, 2, 4, 8, 16] := by
  have hint : contBits 6 width ∈ [1, 2, 4, 8, 16] := by
    unfold contBits fmtBits
    dsimp only
    split_ifs <;> decide
  have hrest : ∀ n < 8, 1 ≤ n → n ≠ 6 → contBits n 0 ∈ [1, 2, 4, 8, 16] := by decide
  by_cases h6 : fmt = 6
  · rw [h6]
    exact hint
  · have hw : contBits fmt width = contBits fmt 0 := by
      interval_cases fmt
      · rfl
      · rfl
      · rfl
      · rfl
      · rfl
      · exact absurd rfl h6
      · rfl
    rw [hw]
    exact hrest fmt h8 h1 h6

/-! ### Rounding without random bits -/

theorem foldl_fst_append {α β γ : Type} {F : List β × γ → α → List β × γ} {G : α → β} (h : ∀ acc x, (F acc x).1 = acc.1 ++ [G x])
    (l : List α) (acc : List β × γ) : (l.foldl F acc).1 = acc.1 ++ l.map G := by
  induction l generalizing acc with
  | nil => simp
  | cons x l ih => rw [List.foldl_cons, ih, h, List.append_assoc]; rfl

/-- Under RNE and RTZ a drain rounds element by element and draws nothing. -/
theorem drainRound_of_ne_sr {d : Device} {g e : Nat} {f : DrainFields} {tg : Target} {hd : W32} {vs qs : List Num} {cells : List Cell}
    (hrm : rmodeOf f.rmode.toNat ≠ .sr) (hlen : qs.length ≤ vs.length) :
    ∃ tl, d.drainRound g e f tg hd vs qs cells =
      (d, some (qs.map (fun v => (roundTo tg (rmodeOf f.rmode.toNat) (d.force 0x1901 1) 0 v).bits), tl)) := by
  let F (acc : List Nat × Tally) (x : (Num × Num) × Nat) : List Nat × Tally :=
    let o := roundTo tg (rmodeOf f.rmode.toNat) (d.force 0x1901 1) (([] : List Nat).getD x.2 0) x.1.1
    (acc.1 ++ [o.bits], (acc.2.add tg x.1.1 (decide ((cells.getD x.2 {}).ovf)) o).report x.1.2)
  have hX : d.drainRound g e f tg hd vs qs cells = (d, some (((qs.zip vs).zipIdx).foldl F ([], {}))) := by
    unfold Device.drainRound
    exact if_pos (by simpa using hrm)
  have hes : (((qs.zip vs).zipIdx).foldl F ([], {})).1 =
      qs.map (fun v => (roundTo tg (rmodeOf f.rmode.toNat) (d.force 0x1901 1) 0 v).bits) := by
    rw [foldl_fst_append (G := fun x => (roundTo tg (rmodeOf f.rmode.toNat) (d.force 0x1901 1) 0 x.1.1).bits) (fun _ _ => rfl), List.nil_append]
    have hq : qs = ((qs.zip vs).zipIdx.map Prod.fst).map Prod.fst := by
      rw [List.zipIdx_map_fst, List.map_fst_zip hlen]
    conv_rhs => rw [hq, List.map_map, List.map_map]
    rfl
  exact ⟨_, hX.trans (by rw [← hes])⟩

/-! ### The header of a published tile (R153) -/

theorem length_sealHdr (p : List Byte) (h : Hdr) : (sealHdr p h).length = 16 := by
  unfold sealHdr hdrBytes
  rw [List.length_append, length_leBytes, length_leBytes]

theorem crcOk_sealHdr (p : List Byte) (h : Hdr) : crcOk p (sealHdr p h) = true := by
  have hl : (hdrBytes h).length = 12 := length_leBytes ..
  have htake : (sealHdr p h).take 12 = (hdrBytes h).take 12 := by
    unfold sealHdr
    rw [List.take_append_of_le_length hl.ge]
  have hcrc : tileCrc p (sealHdr p h) = tileCrc p (hdrBytes h) := by
    unfold tileCrc
    rw [htake]
  have hfield : fieldB (sealHdr p h) 12 4 = tileCrc p (hdrBytes h) % 256 ^ 4 := by
    have hskip : (sealHdr p h).drop 12 = leBytes 4 (tileCrc p (hdrBytes h)) := by
      unfold sealHdr
      exact List.drop_left' hl
    rw [fieldB, sliceB, hskip, List.take_of_length_le (by rw [length_leBytes]), leNat_leBytes]
  unfold crcOk
  have hlt : tileCrc p (hdrBytes h) < 256 ^ 4 := lt_of_lt_of_le (crc32c_lt _) (by norm_num)
  rw [hfield, hcrc, Nat.mod_eq_of_lt hlt]
  exact beq_self_eq_true _

/-! ### A drain goes out (R85, R86, R119, R153) -/

/-- The events of a slot that is not valid and of an addend that cannot be read. -/
def drainNotes (d : Device) (g e : Nat) (f : DrainFields) (add : OutDesc) : Device :=
  let d := if ((d.core g).slot e f.slot).valid then d else d.raise 0x2022 0x7010 (g + 1) 0 f.slot
  if f.add then (d.badAddend g add).taintedRead (d.addHdr g add) (Device.localAddr g (hdrOff add.frame)) else d

theorem aside_drainNotes (d : Device) (g e : Nat) (f : DrainFields) (add : OutDesc) : Aside d (drainNotes d g e f add) := by
  have hbad (x : Device) : Aside x (x.badAddend g add) := .ite (.refl x) (aside_badHeaders ..)
  unfold drainNotes
  exact (Aside.ite (.refl d) (.raise ..)).trans (.ite ((hbad _).trans (aside_taintedRead ..)) (.refl _))

/-- R191: a report that finds room changes its core's reports alone. -/
theorem bufferReport_spec (d : Device) (g e : Nat) (r : Report) : (∃ rs, (d.bufferReport g e r).core g = { d.core g with reports := rs }) ∧
    ((Map.get [] (d.core g).reports e).length < 4 → (d.bufferReport g e r).mem = d.mem) := by
  have hput (rs : List Report) : ∃ rs', (d.modCore g (fun c => { c with reports := Map.set [] c.reports e rs })).core g =
      { d.core g with reports := rs' } := ⟨_, Device.core_modCore_same ..⟩
  unfold Device.bufferReport
  extract_lets rs put o
  split
  · exact ⟨hput _, fun _ => rfl⟩
  · split
    · exact ⟨hput _, fun _ => rfl⟩
    · next hfull =>
      refine ⟨?_, fun h => absurd h hfull⟩
      obtain ⟨m, hm⟩ := reportLine_eq (put (rs.drop 1 ++ [r])) (Device.clusterOf g) o.tsid o.smax o.sats
      rw [hm]
      exact hput _

/-- The header of the tile that a drain publishes. -/
def drainHdr (d : Device) (o : OutDesc) (tg : Target) : Hdr :=
  { tsid := o.tsid, fmt := tg.fmt, width := if tg.fmt = fmtINT then tg.width else 0, signA := tg.fmt == fmtINT && tg.signed,
    taint := d.num 0x1401 1 == 1 }

/-- R119, R153: the output frame after a drain: published under PUB, open otherwise. -/
def drainPublish (d : Device) (g : Nat) (o : OutDesc) (fr : Frame) (tg : Target) : Device :=
  if o.pub then
    ((d.put (Device.localAddr g (hdrOff o.frame)) (sealHdr (d.bytes (Device.localAddr g (frameOff o.frame)) 4096) (drainHdr d o tg))).noteTaint
      (Device.localAddr g (hdrOff o.frame)) (drainHdr d o tg).taint).setFrame g o.frame { fr with st := .full }
  else d.setFrame g o.frame { fr with st := .opened }

theorem core_put (d : Device) (a : Nat) (bs : List Byte) (g : Nat) : (d.put a bs).core g = d.core g := rfl

theorem core_noteTaint (d : Device) (a : Nat) (b : Bool) (g : Nat) : (d.noteTaint a b).core g = d.core g :=
  view_ite (v := fun d : Device => d.core g) rfl rfl

theorem drainPublish_core (d : Device) (g : Nat) (o : OutDesc) (fr : Frame) (tg : Target) : (drainPublish d g o fr tg).core g =
    (d.core g).setFrame o.frame { fr with st := if o.pub then .full else .opened } := by
  unfold drainPublish
  by_cases h : o.pub = true
  · rw [if_pos h, if_pos h]
    refine (Device.core_modCore_same ..).trans ?_
    rw [core_noteTaint]
    exact congrArg (CoreS.setFrame · o.frame _) (core_put ..)
  · rw [if_neg h, if_neg h]
    exact Device.core_modCore_same ..

theorem drainPublish_mem (d : Device) (g : Nat) (o : OutDesc) (fr : Frame) (tg : Target) : (drainPublish d g o fr tg).mem =
    if o.pub then (d.put (Device.localAddr g (hdrOff o.frame))
      (sealHdr (d.bytes (Device.localAddr g (frameOff o.frame)) 4096) (drainHdr d o tg))).mem else d.mem := by
  unfold drainPublish
  by_cases h : o.pub = true
  · rw [if_pos h, if_pos h]
    exact view_ite (v := Device.mem) rfl rfl
  · rw [if_neg h, if_neg h]
    rfl

section
variable (d : Device) (g e i : Nat) (f : DrainFields) (o add : OutDesc) (es : List Nat) (tl : Tally)

/-- The sub-block written, its tally and report made. -/
def drainPut : Device :=
  let k := Device.clusterOf g
  let tg := d.drainTarget f o
  let cb := contBits tg.fmt tg.width
  let d := drainNotes d g e f add
  let d := d.put (Device.localAddr g (frameOff o.frame + o.sub * (32 * cb))) (packElems cb es)
  let d := d.tally k (d.classOf k (some o.tsid)) tl 0x7010 (g + 1) (Device.localAddr g (frameOff o.frame))
  d.bufferReport g e { tsid := o.tsid, smax := tl.smax, sats := tl.sat }

/-- The drain before it leaves its queue. -/
def drainOut : Device :=
  let x := drainPublish (drainPut d g e f o add es tl) g o (d.frame g o.frame) (d.drainTarget f o)
  (if f.clear then x.modCore g (fun c => c.setSlot e f.slot {}) else x).addSync g f.cnt 1

theorem writeDrain_eq : d.writeDrain g e i f o add es tl = (drainOut d g e f o add es tl).popEng g e i := rfl

theorem drainPut_spec : (∃ rs, (drainPut d g e f o add es tl).core g = { d.core g with reports := rs }) ∧
    ((Map.get [] (d.core g).reports e).length < 4 → (drainPut d g e f o add es tl).mem =
      (d.put (Device.localAddr g (frameOff o.frame + o.sub * (32 * contBits f.fmtOut.toNat f.widthOut.toNat)))
        (packElems (contBits f.fmtOut.toNat f.widthOut.toNat) es)).mem) := by
  unfold drainPut
  extract_lets k tg cb x y z
  have hx : Aside d x := aside_drainNotes ..
  have hz : Aside y z := .tally ..
  obtain ⟨⟨rs, hc⟩, hm⟩ := bufferReport_spec z g e { tsid := o.tsid, smax := tl.smax, sats := tl.sat }
  have hcore : z.core g = d.core g := (hz.core g).trans (hx.core g)
  refine ⟨⟨rs, by rw [hc, hcore]⟩, fun h => (hm (by rw [hcore]; exact h)).trans (hz.mem.trans ?_)⟩
  exact congrArg (Device.memWrite · (Device.localAddr g (frameOff o.frame + o.sub * (32 * cb))) (packElems cb es)) hx.mem

theorem drainOut_core : ∃ rs m, (drainOut d g e f o add es tl).core g = { d.core g with
    reports := rs
    sync := m
    frames := Map.set {} (d.core g).frames o.frame { d.frame g o.frame with st := if o.pub then .full else .opened }
    slots := if f.clear then Map.set {} (d.core g).slots (8 * e + f.slot) {} else (d.core g).slots } := by
  unfold drainOut
  extract_lets x
  obtain ⟨⟨rs, hp⟩, -⟩ := drainPut_spec d g e f o add es tl
  have hx := drainPublish_core (drainPut d g e f o add es tl) g o (d.frame g o.frame) (d.drainTarget f o)
  obtain ⟨m, hm⟩ := core_addSync (if f.clear then x.modCore g (fun c => c.setSlot e f.slot {}) else x) g f.cnt 1
  refine ⟨rs, m, ?_⟩
  rw [hm]
  by_cases hcl : f.clear = true
  · rw [if_pos hcl, if_pos hcl, Device.core_modCore_same, hx, hp]
    rfl
  · rw [if_neg hcl, if_neg hcl, hx, hp]
    rfl

theorem counter_drainOut (n : Nat) : ((drainOut d g e f o add es tl).core g).counter n =
    if n = f.cnt.val ∧ n ≠ 0 then (d.core g).counter n + 1 else (d.core g).counter n := by
  unfold drainOut
  extract_lets x
  obtain ⟨⟨rs, hp⟩, -⟩ := drainPut_spec d g e f o add es tl
  have hx := drainPublish_core (drainPut d g e f o add es tl) g o (d.frame g o.frame) (d.drainTarget f o)
  have hsync : ((if f.clear then x.modCore g (fun c => c.setSlot e f.slot {}) else x).core g).counter n = (d.core g).counter n := by
    refine (view_ite (v := fun d : Device => (d.core g).counter n) (by rw [Device.core_modCore_same]; rfl) rfl).trans ?_
    show (x.core g).counter n = _
    rw [hx, hp]
    rfl
  rw [counter_addSync _ _ _ _ _ f.cnt.isLt, hsync]
  exact if_congr ⟨fun h => ⟨h.1, h.1 ▸ h.2⟩, fun h => ⟨h.1, h.1 ▸ h.2⟩⟩ rfl rfl

theorem drainOut_mem : (drainOut d g e f o add es tl).mem =
    (drainPublish (drainPut d g e f o add es tl) g o (d.frame g o.frame) (d.drainTarget f o)).mem := by
  unfold drainOut
  exact (addSync_mem ..).trans (view_ite (v := Device.mem) rfl rfl)

end

theorem localAddr_add (g a b : Nat) : Device.localAddr g (a + b) = Device.localAddr g a + b := (Nat.add_assoc ..).symm

/-- A sub-block lies within its tile. -/
theorem sub_within {cb sub : Nat} (h : cb ∈ [1, 2, 4, 8, 16]) (hs : sub < subCount cb) : sub * (32 * cb) + 32 * cb ≤ 4096 := by
  unfold subCount subCols at hs
  simp only [List.mem_cons, List.not_mem_nil, or_false] at h
  rcases h with rfl | rfl | rfl | rfl | rfl <;> omega

/-- R85, R86, R119, R153: what a drain writes to memory. -/
theorem drainOut_writes {d : Device} {g e : Nat} {f : DrainFields} {o add : OutDesc} {es : List Nat} {tl : Tally}
    (hes : es.length = 256) (h1 : 1 ≤ f.fmtOut.toNat) (h8 : f.fmtOut.toNat < 8) (hfr : o.frame < 240)
    (hsub : o.sub < subCount (contBits f.fmtOut.toNat f.widthOut.toNat)) (hroom : (Map.get [] (d.core g).reports e).length < 4) :
    let cb := contBits f.fmtOut.toNat f.widthOut.toNat
    let fa := Device.localAddr g (4096 * o.frame)
    let pa := fa + o.sub * (32 * cb)
    let ha := Device.localAddr g (0xF0000 + 16 * o.frame)
    let x := drainOut d g e f o add es tl
    x.bytes pa (32 * cb) = packElems cb es ∧ (o.pub = true → crcOk (x.bytes fa 4096) (x.bytes ha 16) = true) ∧
      ∀ a, (a < pa ∨ pa + 32 * cb ≤ a) → (o.pub = false ∨ a < ha ∨ ha + 16 ≤ a) → x.byteAt a = d.byteAt a := by
  intro cb fa pa ha x
  have hcb := contBits_drain (width := f.widthOut.toNat) h1 h8
  have hlen : (packElems cb es).length = 32 * cb := length_packElems hcb hes
  have hin := sub_within hcb hsub
  have hapart : fa + 4096 ≤ ha := by
    simp only [fa, ha, Device.localAddr]
    omega
  let y := drainPut d g e f o add es tl
  let hdr := sealHdr (y.bytes fa 4096) (drainHdr y o (d.drainTarget f o))
  have hl16 : hdr.length = 16 := length_sealHdr ..
  have hy : y.mem = (d.put pa (packElems cb es)).mem := by
    have h := (drainPut_spec d g e f o add es tl).2 hroom
    rw [localAddr_add] at h
    exact h
  have hx : x.mem = if o.pub then (y.put ha hdr).mem else y.mem := (drainOut_mem ..).trans (drainPublish_mem ..)
  have hbytes (a n : Nat) (h : a + n ≤ ha) : x.bytes a n = y.bytes a n := by
    by_cases hp : o.pub = true
    · rw [if_pos hp] at hx
      rw [bytes_of_mem_eq hx]
      exact bytes_put_ne y (.inl h)
    · rw [if_neg hp] at hx
      exact bytes_of_mem_eq hx ..
  have hpa : pa + 32 * cb ≤ fa + 4096 := by
    show fa + o.sub * (32 * cb) + 32 * cb ≤ fa + 4096
    rw [Nat.add_assoc]
    exact Nat.add_le_add_left hin fa
  refine ⟨?_, fun hp => ?_, fun a ha1 ha2 => ?_⟩
  · rw [hbytes pa _ (hpa.trans hapart), bytes_of_mem_eq hy, ← hlen]
    exact bytes_put_same ..
  · have hha : x.bytes ha 16 = hdr := by
      rw [if_pos hp] at hx
      rw [bytes_of_mem_eq hx, ← hl16]
      exact bytes_put_same ..
    rw [hbytes fa 4096 hapart, hha]
    exact crcOk_sealHdr ..
  · have hby : y.byteAt a = d.byteAt a := by
      refine (congrArg (Map.get 0 · a) hy).trans (byteAt_put_ne d (by rw [hlen]; exact ha1))
    rw [← hby]
    by_cases hp : o.pub = true
    · rw [if_pos hp] at hx
      exact (congrArg (Map.get 0 · a) hx).trans (byteAt_put_ne y (by rw [hl16]; exact ha2.resolve_left (by rw [hp]; decide)))
    · rw [if_neg hp] at hx
      exact congrArg (Map.get 0 · a) hx

/-! ### The completion -/

/-- The first drain of an engine's queue. -/
def drainDone (g e : Nat) (d : Device) : Device :=
  match firstOp ((d.core g).queue e) EngOp.isDrain with
  | some (i, .drain f o a h l since late) => d.runDrain g e i f (outDesc o) (outDesc a) h l since late
  | _ => d

theorem length_drainValues (d : Device) (g : Nat) (sl : Slot) (f : DrainFields) (add : OutDesc) : (d.drainValues g sl f add).length = 256 := by
  unfold Device.drainValues
  rw [List.length_map, List.length_range]

/-- R78, R86, R189: a drain that finds everything it needs writes its rounded values. -/
theorem runDrain_eq {d : Device} {g e i : Nat} {f : DrainFields} {o add : OutDesc} {hd : W32} {l : Line} {since : Nat} {late : Bool}
    (hahead : d.accAhead g (((d.core g).queue e).take i) (Device.formSlots ((d.core g).slot e f.slot).block f.slot) = false)
    (hst : (d.frame g o.frame).st ≠ .full) (hfill : (d.frame g o.frame).fill = false)
    (hadd : f.add = true → (d.frame g add.frame).st = .full ∧ d.addendBad g add = false ∧
      d.unpublished (g / 16) (d.addHdr g add).tsid = false)
    (hline : d.lineWaits (g / 16) o.tsid l = false ∨ late = true) (hrm : f.rmode.toNat ≠ 1) :
    ∃ tl, d.runDrain g e i f o add hd l since late =
      d.writeDrain g e i f o add ((Device.drainScaled (d.drainValues g (d.drainSlot g e f.slot) f add) l).map (fun v =>
        (roundTo (d.drainTarget f o) (rmodeOf f.rmode.toNat) (d.force 0x1901 1) 0 v).bits)) tl := by
  have hsr : rmodeOf f.rmode.toNat ≠ .sr := rmodeOf_ne_sr (by have := f.rmode.isLt; omega)
  have hlen : (Device.drainScaled (d.drainValues g (d.drainSlot g e f.slot) f add) l).length ≤ (d.drainValues g (d.drainSlot g e f.slot) f add).length := by
    unfold Device.drainScaled
    rw [List.length_map]
  obtain ⟨tl, htl⟩ := drainRound_of_ne_sr (d := d) (g := g) (e := e) (f := f) (tg := d.drainTarget f o) (hd := hd)
    (cells := (d.drainSlot g e f.slot).cells) hsr hlen
  have hw : (d.lineWaits (g / 16) o.tsid l && !late) = false := by
    rcases hline with h | h <;> rw [h]
    · rfl
    · exact Bool.and_false _
  have hhere : (!(!f.add || (d.frame g add.frame).st == .full)) = false := by
    cases hf : f.add with
    | false => rfl
    | true => rw [(hadd hf).1]; decide
  have hbad : (f.add && d.addendBad g add) = false := by
    cases hf : f.add with
    | false => rfl
    | true => rw [(hadd hf).2.1]; rfl
  have hpub : (f.add && d.unpublished (g / 16) (d.addHdr g add).tsid) = false := by
    cases hf : f.add with
    | false => rfl
    | true => rw [(hadd hf).2.2]; rfl
  refine ⟨tl, ?_⟩
  unfold Device.runDrain Device.clusterOf
  dsimp only
  rw [hahead, if_neg Bool.false_ne_true, hw, if_neg Bool.false_ne_true, hhere, if_neg Bool.false_ne_true, hbad, if_neg Bool.false_ne_true,
    hpub, if_neg Bool.false_ne_true, htl]
  dsimp only
  rw [if_neg]
  simp [hst, hfill]

/-- Settles O18. -/
theorem drainCompletes : Obligations.DrainCompletes := by
  unfold Obligations.DrainCompletes
  intro s g e f ro rd h l since late i o fr sl0 sl tg q es cb fa pa ha qu rest hop hahead hst hfill hadd hline hrm
  obtain ⟨tl, hrun⟩ := runDrain_eq (hd := h) (since := since) (late := late) hahead hst hfill hadd hline hrm
  have hes : ((Device.drainScaled (s.dev.drainValues g.val (s.dev.drainSlot g.val e.val f.slot) f (outDesc rd)) l).map (fun v =>
      (roundTo (s.dev.drainTarget f o) (rmodeOf f.rmode.toNat) (s.dev.force 0x1901 1) 0 v).bits)) = es := by
    unfold Device.drainScaled
    rw [List.map_map]
    refine List.map_congr_left fun v _ => ?_
    cases v <;> rfl
  have hlen : es.length = 256 := (List.length_map _).trans (length_drainValues ..)
  rw [hes, writeDrain_eq] at hrun
  let x := drainOut s.dev g.val e.val f o (outDesc rd) es tl
  obtain ⟨rs, m, hx⟩ := drainOut_core s.dev g.val e.val f o (outDesc rd) es tl
  obtain ⟨-, hmem, -, -⟩ := popEng_spec x g.val e.val i
  have hq : (x.core g.val).queue e.val = qu := (congrArg (CoreS.queue · e.val) hx).trans rfl
  refine completes_runHits (c := fun h => .drainComplete g e h) (f := drainDone g.val e.val) (X := x.popEng g.val e.val i)
    (fun _ _ => by unfold exec; exact rfl) ?_ ⟨?_, fun u => ?_, ?_, fun h1 h8 _ hfr hsub hrest hroom => ?_, fun hcl => ?_, fun hcl => ?_, fun n _ => ?_⟩
  · unfold drainDone
    rw [hop]
    exact hrun
  · rw [queue_popEng, hq]
  · rw [thread_popEng]
    exact (congrArg (CoreS.thread · u) hx).trans rfl
  · rw [frame_popEng]
    refine (congrArg (CoreS.frame · o.frame) hx).trans ?_
    exact Map.get_set_same ..
  · have hm : (x.popEng g.val e.val i).mem = x.mem := hmem (by rw [hq]; exact hrest)
    obtain ⟨h2, h3, h4⟩ := drainOut_writes (add := outDesc rd) (tl := tl) hlen h1 h8 hfr hsub hroom
    refine ⟨(bytes_of_mem_eq hm ..).trans h2, fun hp => ?_, fun a ha1 ha2 => (congrArg (Map.get 0 · a) hm).trans (h4 a ha1 ha2)⟩
    rw [bytes_of_mem_eq hm, bytes_of_mem_eq hm]
    exact h3 hp
  · have hs : ((x.popEng g.val e.val i).core g.val).slot e.val f.slot = (x.core g.val).slot e.val f.slot := by
      unfold CoreS.slot
      rw [slots_popEng]
    rw [hs]
    refine (congrArg (CoreS.slot · e.val f.slot) hx).trans ?_
    unfold CoreS.slot
    rw [if_pos hcl]
    exact Map.get_set_same ..
  · rw [slots_popEng]
    exact (congrArg CoreS.slots hx).trans (if_neg (by rw [hcl]; exact Bool.false_ne_true))
  · rw [counter_popEng]
    exact counter_drainOut ..

end Sys2Proof.Machine

/-! PROOFS. Only the picked thread issues, and what a core instruction leaves alone (R110, R111). -/

namespace Sys2Proof.Machine

/-! ### What a core instruction may change -/

/-- The device without what core instructions may change. -/
def besideCore (d : Device) : Device :=
  { d with
    time := {}, mem := [], dict := {}, evt := {}, cores := [], clus := [], health := {}, alert := false, out := [], hv := {}
    work := { d.work with tails := [] } }

/-- What a step of core `g` leaves alone; one that does not store leaves memory and the work records too. -/
structure CoreFrame (g : Nat) (stores : Bool) (d e : Device) : Prop where
  beside : besideCore e = besideCore d
  others : ∀ h, h ≠ g → e.core h = d.core h
  kept : stores = false → e.mem = d.mem ∧ e.work = d.work

namespace CoreFrame
variable {g : Nat} {st : Bool} {d e f : Device}

theorem refl (d : Device) : CoreFrame g st d d := ⟨rfl, fun _ _ => rfl, fun _ => ⟨rfl, rfl⟩⟩

theorem trans (h : CoreFrame g st d e) (h' : CoreFrame g st e f) : CoreFrame g st d f :=
  ⟨h'.beside.trans h.beside, fun m hm => (h'.others m hm).trans (h.others m hm),
    fun hs => ⟨(h'.kept hs).1.trans (h.kept hs).1, (h'.kept hs).2.trans (h.kept hs).2⟩⟩

theorem ite {p : Prop} [Decidable p] (he : CoreFrame g st d e) (hf : CoreFrame g st d f) : CoreFrame g st d (if p then e else f) := by
  split
  · exact he
  · exact hf

theorem of_aside (h : Aside d e) : CoreFrame g st d e := by
  have hx : besideCore e = besideCore d := by
    have hb (x : Device) : besideCore x = besideCore x.apart := rfl
    rw [hb e, hb d, show e.apart = d.apart from h]
  exact ⟨hx, fun m _ => h.core m, fun _ => ⟨h.mem, h.work⟩⟩

theorem raise (d : Device) (c ua ui a b : Nat) : CoreFrame g st d (d.raise c ua ui a b) := of_aside (.raise ..)

theorem addNum (d : Device) (i s k n : Nat) : CoreFrame g st d (d.addNum i s k n) := of_aside (.addNum ..)

theorem modCore (d : Device) (F : CoreS → CoreS) : CoreFrame g st d (d.modCore g F) :=
  ⟨rfl, fun _ hm => Device.core_modCore_ne _ _ (Ne.symm hm), fun _ => ⟨rfl, rfl⟩⟩

theorem setThread (d : Device) (t : Nat) (x : Thread) : CoreFrame g st d (d.setThread g t x) := modCore ..

theorem faultThread (d : Device) (t c : Nat) : CoreFrame g st d (d.faultThread g t c) := by
  unfold Device.faultThread
  exact (raise ..).trans ((addNum ..).trans (modCore ..))

theorem advance (d : Device) (t : Nat) : CoreFrame g st d (d.advance g t) := ite (faultThread ..) (setThread ..)

theorem writeReg (d : Device) (t : Nat) (rd : Reg) (v : W64) : CoreFrame g st d (d.writeReg g t rd v) :=
  (setThread ..).trans (advance ..)

theorem waitIn (d : Device) (t : Nat) (x : ThState) : CoreFrame g st d (d.waitIn g t x) := setThread ..

theorem waitQueue (d : Device) (t : Nat) (q : QWait) : CoreFrame g st d (d.waitQueue g t q) := setThread ..

theorem badDesc (d : Device) (t : Nat) : CoreFrame g st d ((d.badDesc g).advance g t) := (raise ..).trans (advance ..)

theorem jump (d : Device) (t : Nat) (imm : BitVec 32) : CoreFrame g st d (Machine.jump d g t imm) := setThread ..

theorem addSync (d : Device) (sc n : Nat) : CoreFrame g st d (d.addSync g sc n) := ite (refl d) (modCore ..)

theorem drawFree (d : Device) : CoreFrame g st d d.drawFree.2 := ⟨rfl, fun _ _ => rfl, fun _ => ⟨rfl, rfl⟩⟩

theorem setFrame (d : Device) (f : Nat) (x : Frame) : CoreFrame g st d (d.setFrame g f x) := modCore ..

theorem releaseFrame (d : Device) (f : Nat) : CoreFrame g st d (d.releaseFrame g f) :=
  ite (refl d) (ite (setFrame ..) (setFrame ..))

theorem put (d : Device) (a : Nat) (bs : List Byte) : CoreFrame g true d (d.put a bs) :=
  ⟨rfl, fun _ _ => rfl, fun h => absurd h (by decide)⟩

theorem storeW (d : Device) (a n v : Nat) : CoreFrame g true d (d.storeW a n v) := by
  refine (put d a (leBytes n v)).trans ?_
  refine ⟨?_, fun _ _ => ?_, fun h => absurd h (by decide)⟩
  · rfl
  · rfl

theorem storeBad {off n : Nat} {x : Device} (h : Machine.storeBad d g off n = some x) : CoreFrame g st d x := by
  unfold Machine.storeBad at h
  split at h
  · obtain rfl := Option.some.inj h
    exact raise ..
  · split at h
    · obtain rfl := Option.some.inj h
      exact raise ..
    · cases h

theorem queueMove (d : Device) (t : Nat) (e : MoveEnt) : CoreFrame g st d (Machine.queueMove d g t e) :=
  ite (waitQueue ..) ((modCore ..).trans (advance ..))

theorem queueEng (d : Device) (t e : Nat) (op : EngOp) : CoreFrame g st d (Machine.queueEng d g t e op) :=
  ite (waitQueue ..) ((modCore ..).trans (advance ..))

theorem issue (d : Device) (t : Nat) {f : Device → Thread → Device} (h : ∀ d x, CoreFrame g st d (f d x)) :
    CoreFrame g st d (d.issue g t f) :=
  ite (((modCore ..).trans (addNum ..)).trans (h _ _)) (refl d)

/-! ### Loads, stores and atomics -/

theorem loadLocal (d : Device) (t : Nat) (rd : Reg) (off : Nat) : CoreFrame g st d (Machine.loadLocal d g t rd off .clean) := by
  unfold Machine.loadLocal
  dsimp only
  rw [sramHit_clean]
  exact ite (badDesc ..) (ite (refl d) (writeReg ..))

theorem loadStore (d : Device) (t : Nat) (rd : Reg) (off : Nat) : CoreFrame g st d (Machine.loadStore d g t rd off .clean) := by
  unfold Machine.loadStore
  split
  · next h => exact (storeBad h).trans (ite (advance ..) (writeReg ..))
  · dsimp only
    rw [sramHit_clean]
    exact writeReg ..

theorem atomic (d : Device) (t : Nat) (rd a : Reg) (imm : BitVec 32) (f : Thread → Nat → Nat) :
    CoreFrame g true d (Machine.atomic d g t rd a imm f) := by
  refine issue d t fun d x => ?_
  dsimp only
  split
  · next h => exact (storeBad h).trans (ite (advance ..) (writeReg ..))
  · exact (storeW ..).trans (writeReg ..)

/-! ### Vector operations -/

theorem vecWrite (d : Device) (cls : Nat) (hd : W32) (tg : Target) (rm : RMode) (off : Nat) (vs : List Num) :
    CoreFrame g true d (Machine.vecWrite d g cls hd tg rm off vs) := by
  unfold Machine.vecWrite
  extract_lets k x y z tl
  have hx : CoreFrame g true d x := ite (raise ..) (refl d)
  have hz : CoreFrame g true x z := (of_aside (.srRound ..)).trans (put ..)
  exact hx.trans (hz.trans (of_aside (.tally ..)))

theorem vecOp (d : Device) (t : Nat) (f : VecFields) (ny nw : Bool) (op : Num → Num → Num → Num) :
    CoreFrame g true d (Machine.vecOp d g t f ny nw op) := by
  unfold Machine.vecOp
  exact ite (of_aside (.holdDraw ..)) (issue d t fun _ _ => ite (faultThread ..) (ite (badDesc ..) ((vecWrite ..).trans (advance ..))))

theorem vecReduce (d : Device) (t : Nat) (f : VecFields) (op : List Num → Num) : CoreFrame g st d (Machine.vecReduce d g t f op) := by
  refine issue d t fun d x => ?_
  exact ite (faultThread ..) (ite (badDesc ..) ((drawFree ..).trans (writeReg ..)))

theorem wupdWrite (d : Device) (f : VecFields) (x : Thread) : CoreFrame g true d (Machine.wupdWrite d g f x) := by
  unfold Machine.wupdWrite
  extract_lets k rm wo ts y z ws cs u v w tl r
  have hy : CoreFrame g true d y := ite (raise ..) (refl d)
  have hu : CoreFrame g true y u := (of_aside (.srRound ..)).trans (put ..)
  have hr : CoreFrame g true u r := (put ..).trans ((addNum ..).trans ((addNum ..).trans (addNum ..)))
  exact hy.trans (hu.trans (hr.trans (of_aside (.tally ..))))

theorem wupdOp (d : Device) (t : Nat) (f : VecFields) : CoreFrame g true d (Machine.wupdOp d g t f) := by
  unfold Machine.wupdOp
  exact ite (of_aside (.holdDraw ..)) (issue d t fun _ _ => ite (faultThread ..) (ite (badDesc ..) ((wupdWrite ..).trans (advance ..))))

end CoreFrame

/-! ### Instructions of threads that are not picked -/

theorem issue_of_not_picked {d : Device} {g t : Nat} (h : d.picks g t = false) (f : Device → Thread → Device) : d.issue g t f = d := by
  unfold Device.issue
  rw [h]
  exact if_neg Bool.false_ne_true

theorem vecOp_of_not_picked {d : Device} {g t : Nat} (h : d.picks g t = false) (f : VecFields) (ny nw : Bool) (op : Num → Num → Num → Num) :
    vecOp d g t f ny nw op = d := by
  unfold vecOp
  dsimp only
  rw [h]
  exact (if_neg Bool.false_ne_true).trans (issue_of_not_picked h _)

theorem wupdOp_of_not_picked {d : Device} {g t : Nat} (h : d.picks g t = false) (f : VecFields) : wupdOp d g t f = d := by
  unfold wupdOp
  dsimp only
  rw [h]
  exact (if_neg Bool.false_ne_true).trans (issue_of_not_picked h _)

/-- A command is an instruction of a thread: what SECDED finds in the words it reads comes first; without errors it keeps to its
core. -/
def IssuedBy (c : Instr) (s : State) (g t : Nat) : Prop :=
  ∃ F : Device → Device, exec c s = s.issueHits g t (readHits c) F ∧ (∀ d, d.picks g t = false → F d = d) ∧
    (readsClean c = true → ∀ d, CoreFrame g (storesMem c) d (F d))

section
variable {c : Instr} {s : State} {g t : Nat}

/-- An instruction that reads no word of SRAM, or that its class of reads leaves to `readHits`. -/
theorem IssuedBy.of_issue {f : Device → Thread → Device} (he : exec c s = s.issueHits g t (readHits c) (fun d => d.issue g t f))
    (hf : readsClean c = true → ∀ d x, CoreFrame g (storesMem c) d (f d x)) : IssuedBy c s g t :=
  ⟨fun d => d.issue g t f, he, fun _ h => issue_of_not_picked h f, fun hc d => .issue d t (hf hc)⟩

theorem IssuedBy.of_run {f : Device → Thread → Device} (he : exec c s = s.run (fun d => d.issue g t f)) (hr : readHits c = [])
    (hf : readsClean c = true → ∀ d x, CoreFrame g (storesMem c) d (f d x)) : IssuedBy c s g t :=
  .of_issue (by rw [hr, issueHits_nil]; exact he) hf

theorem IssuedBy.writesReg {rd : Thread → Device → W64} {r : Reg}
    (he : exec c s = s.run (fun d => d.issue g t (fun d x => d.writeReg g t r (rd x d)))) (hr : readHits c = []) : IssuedBy c s g t :=
  .of_run he hr fun _ _ _ => .writeReg ..

theorem IssuedBy.branches {a b : Reg} {imm : BitVec 32} {cmp : W64 → W64 → Bool}
    (he : exec c s = s.run (fun d => branch d g t a b imm cmp)) (hr : readHits c = []) : IssuedBy c s g t :=
  .of_run he hr fun _ _ _ => .ite (.jump ..) (.advance ..)

theorem IssuedBy.vector {f : VecFields} {ny nw : Bool} {op : Num → Num → Num → Num}
    (he : exec c s = s.issueHits g t (readHits c) (fun d => vecOp d g t f ny nw op)) (hs : storesMem c = true) : IssuedBy c s g t :=
  ⟨_, he, fun _ h => vecOp_of_not_picked h f ny nw op, fun _ _ => hs ▸ .vecOp ..⟩

theorem IssuedBy.atomic {rd a : Reg} {imm : BitVec 32} {f : Thread → Nat → Nat}
    (he : exec c s = s.issueHits g t (readHits c) (fun d => Machine.atomic d g t rd a imm f)) (hs : storesMem c = true) : IssuedBy c s g t :=
  ⟨_, he, fun _ h => issue_of_not_picked h _, fun _ _ => hs ▸ .atomic ..⟩

theorem IssuedBy.reduces {f : VecFields} {op : List Num → Num}
    (he : exec c s = s.issueHits g t (readHits c) (fun d => vecReduce d g t f op)) : IssuedBy c s g t :=
  ⟨_, he, fun _ h => issue_of_not_picked h _, fun _ _ => .vecReduce ..⟩

end

theorem issuedBy_issuer {c : Instr} {g : CoreN} {t : Thr} (h : issuer c = some (g, t)) (s : State) : IssuedBy c s g.val t.val := by
  cases c <;> cases h
  case movi | movhi | add | sub | andB | orB | xorB | shl | shr | sra | mul | rdph => exact .writesReg rfl rfl
  case beq | bne | bltu | bgeu | blt | bge => exact .branches rfl rfl
  case vadd | vsub | vmul | vfma | vmax | vmin | vabs | vexp2 | vlog2 | vrcp | vrsq => exact .vector rfl rfl
  case aadd | acas | amax => exact .atomic rfl rfl
  case vrsum | vrmax => exact .reduces rfl
  case wupd f hits => exact ⟨fun d => wupdOp d g.val t.val f, rfl, fun _ h => wupdOp_of_not_picked h f, fun _ _ => .wupdOp ..⟩
  case setstr => exact .of_run rfl rfl fun _ _ _ => (CoreFrame.setThread ..).trans (.advance ..)
  case frel => exact .of_run rfl rfl fun _ _ _ => .ite (.badDesc ..) ((CoreFrame.releaseFrame ..).trans (.advance ..))
  case rdid => exact .of_run rfl rfl fun _ _ _ => (CoreFrame.drawFree ..).trans (.writeReg ..)
  case ldl e =>
    refine .of_run rfl rfl fun hc _ _ => ?_
    obtain rfl : e = .clean := eq_of_beq (Bool.and_eq_true_iff.1 hc).2
    exact .loadLocal ..
  case ldc e =>
    refine .of_run rfl rfl fun hc _ _ => ?_
    obtain rfl : e = .clean := eq_of_beq (Bool.and_eq_true_iff.1 hc).2
    exact .loadStore ..
  case stl => exact .of_run rfl rfl fun _ _ _ => .ite (.badDesc ..) ((CoreFrame.put ..).trans (.advance ..))
  case stc =>
    refine .of_run rfl rfl fun _ d x => ?_
    dsimp only
    split
    · next h => exact (CoreFrame.storeBad h).trans (.advance ..)
    · exact (CoreFrame.storeW ..).trans (.advance ..)
  case tld | tst => exact .of_run rfl rfl fun _ _ _ => .ite (.badDesc ..) (.queueMove ..)
  case j => exact .of_run rfl rfl fun _ _ _ => .jump ..
  case loop => exact .of_run rfl rfl fun _ _ _ => (CoreFrame.setThread ..).trans (.ite (.jump ..) (.advance ..))
  case halt => exact .of_run rfl rfl fun _ _ _ => .setThread ..
  case wait | waitph => exact .of_run rfl rfl fun _ _ _ => .ite (.advance ..) (.waitIn ..)
  case sig => exact .of_run rfl rfl fun _ _ _ => (CoreFrame.addSync ..).trans (.advance ..)
  case bar => exact .of_run rfl rfl fun _ _ _ => .waitIn ..
  case fence => exact .of_run rfl rfl fun _ _ _ => .ite (.waitIn ..) (.advance ..)
  case reservedInstruction => exact .of_run rfl rfl fun _ _ _ => .faultThread ..
  case watch =>
    refine .of_issue rfl fun _ d x => ?_
    dsimp only
    split
    · next h => exact (CoreFrame.storeBad h).trans (.advance ..)
    · exact .ite (.advance ..) (.ite (.waitQueue ..) ((CoreFrame.modCore ..).trans (.waitIn ..)))
  case accumulate => exact .of_run rfl rfl fun _ _ _ => .ite (.faultThread ..) (.ite (.badDesc ..) (.queueEng ..))
  case drain => exact .of_issue rfl fun _ _ _ => .ite (.faultThread ..) (.ite (.badDesc ..) (.queueEng ..))
  case tableLoad => exact .of_run rfl rfl fun _ _ _ => .ite (.badDesc ..) (.queueEng ..)

theorem exec_of_not_picked {c : Instr} {s : State} {g t : Nat} (h : IssuedBy c s g t) (hp : s.dev.picks g t = false) : exec c s = .next s := by
  obtain ⟨F, he, hF, -⟩ := h
  rw [he]
  unfold State.issueHits State.run
  dsimp only
  rw [hp, if_neg Bool.false_ne_true, hF _ hp]

theorem picks_of_not_ready {d : Device} {g t : Nat} (h : (d.thread g t).st ≠ .ready) : d.picks g t = false := by
  cases hp : d.picks g t with
  | false => rfl
  | true => exact absurd (Device.ready_of_picks _ _ _ hp) h

/-- What a core instruction that reads without errors leaves alone. -/
theorem frame_of_issuedBy {c : Instr} {s u : State} {g t : Nat} (h : IssuedBy c s g t) (hc : readsClean c = true) (he : exec c s = .next u) :
    CoreFrame g (storesMem c) s.dev u.dev := by
  obtain ⟨F, hF, -, hframe⟩ := h
  have hhits : readHits c = [] := by
    unfold readsClean at hc
    exact List.isEmpty_iff.1 (Bool.and_eq_true_iff.1 hc).1
  rw [hF, hhits, issueHits_nil] at he
  cases he
  exact hframe hc s.dev

/-- Settles O12. -/
theorem coreInstructionFrame : Obligations.CoreInstructionFrame := by
  unfold Obligations.CoreInstructionFrame
  refine ⟨fun c s g t h => ⟨exec_of_not_picked (issuedBy_issuer h s), fun hst => ?_⟩, fun c s u g t h hc he => ?_⟩
  · exact exec_of_not_picked (issuedBy_issuer h s) (picks_of_not_ready hst)
  · obtain ⟨hb, ho, hk⟩ := frame_of_issuedBy (issuedBy_issuer h s) hc he
    refine ⟨?_, fun hs => (hk hs).2, ho, fun hs => (hk hs).1⟩
    have hrest := congrArg (fun x : Device => { x with
      time := u.dev.time, mem := u.dev.mem, dict := u.dev.dict, evt := u.dev.evt, cores := u.dev.cores
      clus := u.dev.clus, health := u.dev.health, alert := u.dev.alert, out := u.dev.out, hv := u.dev.hv
      work := { x.work with tails := u.dev.work.tails } }) hb
    exact hrest

end Sys2Proof.Machine

/-! PROOFS. Memory keeps its canonical form: the rules of the form. -/

namespace Sys2Proof.Machine

/-- The canonical form of memory: rising addresses, and no byte listed that holds what an unlisted address reads as. -/
def CanonMem (m : Map Byte) : Prop := Map.wf 0 m = true

/-- One device has the other's memory. -/
def SameMem (d e : Device) : Prop := e.mem = d.mem

@[simp] theorem sameMem_iff (d e : Device) : SameMem d e ↔ e.mem = d.mem := Iff.rfl

namespace CanonMem

/-! ### Branches and loops that leave memory as it is -/

@[simp] theorem mem_ite {c : Prop} [Decidable c] (d e : Device) : (if c then d else e).mem = if c then d.mem else e.mem := apply_ite ..

@[simp] theorem mem_fst_ite {α : Type} {c : Prop} [Decidable c] (x y : Device × α) :
    (if c then x else y).1.mem = if c then x.1.mem else y.1.mem := apply_ite (fun x : Device × α => x.1.mem) ..

@[simp] theorem mem_snd_ite {α : Type} {c : Prop} [Decidable c] (x y : α × Device) :
    (if c then x else y).2.mem = if c then x.2.mem else y.2.mem := apply_ite (fun x : α × Device => x.2.mem) ..

section
variable {α β : Type}

@[simp] theorem mem_foldl (f : Device → α → Device) (h : ∀ x a, SameMem x (f x a)) (l : List α) (d : Device) :
    (l.foldl f d).mem = d.mem := Device.foldl_same Device.mem f h l d

@[simp] theorem mem_forN (f : Device → Nat → Device) (h : ∀ x a, SameMem x (f x a)) (n : Nat) (d : Device) :
    (forN n d f).mem = d.mem := Device.foldl_same Device.mem f h _ d

@[simp] theorem mem_foldl_fst (f : Device × β → α → Device × β) (h : ∀ x a, SameMem x.1 (f x a).1) (l : List α)
    (x : Device × β) : (l.foldl f x).1.mem = x.1.mem := Device.foldl_same (fun x : Device × β => x.1.mem) f h l x

@[simp] theorem mem_forN_fst (f : Device × β → Nat → Device × β) (h : ∀ x a, SameMem x.1 (f x a).1) (n : Nat) (x : Device × β) :
    (forN n x f).1.mem = x.1.mem := mem_foldl_fst f h _ x

theorem mem_of_pair {x : Device × β} {e : Device} {b : β} {m : Map Byte} (hx : x.1.mem = m) (h : x = (e, b)) : e.mem = m := by
  rw [h] at hx
  exact hx

/-! ### Branches and loops that keep the form -/

@[simp] theorem nil : CanonMem [] := rfl

@[simp] theorem filter {m : Map Byte} (hm : CanonMem m) (p : Nat × Byte → Bool) : CanonMem (m.filter p) := Map.wf_filter hm p

@[simp] theorem map_ite {c : Prop} [Decidable c] {m n : Map Byte} (hm : CanonMem m) (hn : CanonMem n) :
    CanonMem (if c then m else n) := by
  split
  · exact hm
  · exact hn

theorem ite {c : Prop} [Decidable c] {d e : Device} (hd : CanonMem d.mem) (he : CanonMem e.mem) :
    CanonMem (if c then d else e).mem := by
  split
  · exact hd
  · exact he

theorem same {d e : Device} (h : SameMem d e) (hd : CanonMem d.mem) : CanonMem e.mem := h.symm ▸ hd

theorem foldl_view {γ : Type} (v : γ → Map Byte) {f : γ → α → γ} (h : ∀ x a, CanonMem (v x) → CanonMem (v (f x a)))
    {l : List α} {x : γ} (hx : CanonMem (v x)) : CanonMem (v (l.foldl f x)) := by
  induction l generalizing x with
  | nil => exact hx
  | cons a l ih => exact ih (h x a hx)

theorem foldl {f : Device → α → Device} {l : List α} {d : Device} (h : ∀ x a, CanonMem x.mem → CanonMem (f x a).mem)
    (hd : CanonMem d.mem) : CanonMem (l.foldl f d).mem := foldl_view Device.mem h hd

theorem loop {f : Device → Nat → Device} {n : Nat} {d : Device} (h : ∀ x a, CanonMem x.mem → CanonMem (f x a).mem)
    (hd : CanonMem d.mem) : CanonMem (forN n d f).mem := foldl_view Device.mem h hd

theorem foldl_fst {f : Device × β → α → Device × β} {l : List α} {x : Device × β}
    (h : ∀ x a, CanonMem x.1.mem → CanonMem (f x a).1.mem) (hx : CanonMem x.1.mem) : CanonMem (l.foldl f x).1.mem :=
  foldl_view (fun x : Device × β => x.1.mem) h hx

theorem loop_fst {f : Device × β → Nat → Device × β} {n : Nat} {x : Device × β}
    (h : ∀ x a, CanonMem x.1.mem → CanonMem (f x a).1.mem) (hx : CanonMem x.1.mem) : CanonMem (forN n x f).1.mem := foldl_fst h hx

end

/-! ### The writes -/

section
variable {d : Device}

@[simp] theorem put {a bs} (hd : CanonMem d.mem) : CanonMem (d.put a bs).mem := d.wf_put hd a _
@[simp] theorem store {a n v} (hd : CanonMem d.mem) : CanonMem (d.store a n v).mem := d.wf_put hd a _
@[simp] theorem putW {a bs} (hd : CanonMem d.mem) : CanonMem (d.putW a bs).mem := d.wf_putW hd a _
@[simp] theorem storeW {a n v} (hd : CanonMem d.mem) : CanonMem (d.storeW a n v).mem := d.wf_putW hd a _
@[simp] theorem keepMem {p} (hd : CanonMem d.mem) : CanonMem (d.keepMem p).mem := d.wf_keepMem hd p

/-! ### Updates of another field -/

theorem withDict {x} (hd : CanonMem d.mem) : CanonMem ({ d with dict := x }).mem := hd
theorem withCad {x} (hd : CanonMem d.mem) : CanonMem ({ d with cad := x }).mem := hd
theorem withHv {x} (hd : CanonMem d.mem) : CanonMem ({ d with hv := x }).mem := hd

end

end CanonMem

end Sys2Proof.Machine

/-! PROOFS. What leaves memory as it is. -/

namespace Sys2Proof.Machine.CanonMem

section
variable (d : Device)

@[simp] theorem mem_noteFatal (code) : (d.noteFatal code).mem = d.mem := by simp [Device.noteFatal]

@[simp] theorem mem_toMaster (sub v) : (d.toMaster sub v).mem = d.mem := by rfl

@[simp] theorem mem_askRestore (cause) : (d.askRestore cause).mem = d.mem := by rfl

@[simp] theorem mem_addSync (g sc k) : (d.addSync g sc k).mem = d.mem := by simp [Device.addSync]

@[simp] theorem mem_addSyncs (k mask sc n) : (d.addSyncs k mask sc n).mem = d.mem := by simp [Device.addSyncs]

@[simp] theorem mem_addStall (g cause n) : (d.addStall g cause n).mem = d.mem := by simp [Device.addStall]

@[simp] theorem mem_drawFree : d.drawFree.2.mem = d.mem := by rfl

@[simp] theorem mem_standAt (p) : (d.standAt p).mem = d.mem := by rfl

@[simp] theorem mem_runClk : d.runClk.mem = d.mem := by rfl

@[simp] theorem mem_idleBegin (g) : (d.idleBegin g).mem = d.mem := by simp [Device.idleBegin]

@[simp] theorem mem_idleEnd (g) : (d.idleEnd g).mem = d.mem := by rfl

@[simp] theorem mem_holdStalls : d.holdStalls.mem = d.mem := by simp [Device.holdStalls]

@[simp] theorem mem_tick : d.tick.mem = d.mem := by
  unfold Device.tick
  dsimp only
  split <;> simp

@[simp] theorem mem_emptyFrame (g f) : (d.emptyFrame g f).mem = d.mem := by rfl

@[simp] theorem mem_releaseFrame (g f) : (d.releaseFrame g f).mem = d.mem := by simp [Device.releaseFrame]

@[simp] theorem mem_endRead (g f) : (d.endRead g f).mem = d.mem := by simp [Device.endRead]

@[simp] theorem mem_modPort (p f) : (d.modPort p f).mem = d.mem := by rfl

@[simp] theorem mem_freeSlots (p cls n) : (d.freeSlots p cls n).mem = d.mem := by rfl

@[simp] theorem mem_freed (p h) : (d.freed p h).mem = d.mem := by rfl

@[simp] theorem mem_dropPackets (p) : (d.dropPackets p).mem = d.mem := by simp [Device.dropPackets]

@[simp] theorem mem_inject (h data rail) : (d.inject h data rail).mem = d.mem := by
  unfold Device.inject
  dsimp only
  repeat' split
  all_goals simp

@[simp] theorem mem_request (pos a r data) : (d.request pos a r data).mem = d.mem := by simp [Device.request]

@[simp] theorem mem_sendPathlat (ns) : (d.sendPathlat ns).mem = d.mem := by simp [Device.sendPathlat]

@[simp] theorem mem_recomputeTree : d.recomputeTree.mem = d.mem := by simp [Device.recomputeTree]

@[simp] theorem mem_installRoutes : d.installRoutes.mem = d.mem := by simp [Device.installRoutes]

@[simp] theorem mem_markLinks (entries down) : (d.markLinks entries down).mem = d.mem := by simp [Device.markLinks]

@[simp] theorem mem_loseMember (dev) : (d.loseMember dev).mem = d.mem := by simp [Device.loseMember]

@[simp] theorem mem_setSession (x) : (d.setSession x).mem = d.mem := by rfl

@[simp] theorem mem_touched (idx sub a) : (d.touched idx sub a).mem = d.mem := by rfl

@[simp] theorem mem_count (k cls kind n) : (d.count k cls kind n).mem = d.mem := by simp [Device.count]

@[simp] theorem mem_countNonfinite (k cls kind n) : (d.countNonfinite k cls kind n).mem = d.mem := by simp [Device.countNonfinite]

@[simp] theorem mem_tally (k cls t ua ui a0) : (d.tally k cls t ua ui a0).mem = d.mem := by simp [Device.tally]

@[simp] theorem mem_taintedRead (h a) : (d.taintedRead h a).mem = d.mem := by simp [Device.taintedRead]

@[simp] theorem mem_noteTaint (a now) : (d.noteTaint a now).mem = d.mem := by simp [Device.noteTaint]

@[simp] theorem mem_copyTaint (a b) : (d.copyTaint a b).mem = d.mem := by simp [Device.copyTaint]

@[simp] theorem mem_faultThread (g t code) : (d.faultThread g t code).mem = d.mem := by simp [Device.faultThread]

@[simp] theorem mem_advance (g t) : (d.advance g t).mem = d.mem := by simp [Device.advance]

@[simp] theorem mem_writeReg (g t rd v) : (d.writeReg g t rd v).mem = d.mem := by simp [Device.writeReg]

@[simp] theorem mem_failCore (g) : (d.failCore g).mem = d.mem := by simp [Device.failCore]

@[simp] theorem mem_localEcc (g off ecc) : (d.localEcc g off ecc).mem = d.mem := by
  unfold Device.localEcc
  split <;> simp

@[simp] theorem mem_storeEcc (k off ecc) : (d.storeEcc k off ecc).mem = d.mem := by
  unfold Device.storeEcc
  split <;> simp

@[simp] theorem mem_storeMiss (g off) : (d.storeMiss g off).mem = d.mem := by simp [Device.storeMiss]

@[simp] theorem mem_badDesc (g) : (d.badDesc g).mem = d.mem := by simp [Device.badDesc]

@[simp] theorem mem_waitQueue (g t q) : (d.waitQueue g t q).mem = d.mem := by rfl

@[simp] theorem mem_setArb (key x) : (d.setArb key x).mem = d.mem := by rfl

@[simp] theorem mem_dropRequests (i) : (d.dropRequests i).mem = d.mem := by rfl

@[simp] theorem mem_seqWait (q st) : (d.seqWait q st).mem = d.mem := by rfl

@[simp] theorem mem_seqNext (q) : (d.seqNext q).mem = d.mem := by rfl

@[simp] theorem mem_seqWrite (q rd v) : (d.seqWrite q rd v).mem = d.mem := by rfl

@[simp] theorem mem_seqFault (q) : (d.seqFault q).mem = d.mem := by simp [Device.seqFault]

@[simp] theorem mem_fireEntry (q n) : (d.fireEntry q n).mem = d.mem := by simp [Device.fireEntry]

@[simp] theorem mem_seqLoaded (q program) : (d.seqLoaded q program).mem = d.mem := by rfl

@[simp] theorem mem_setMq (m q) : (d.setMq m q).mem = d.mem := by
  unfold Device.setMq
  split <;> simp

@[simp] theorem mem_modEnt (m i f) : (d.modEnt m i f).mem = d.mem := by simp [Device.modEnt]

@[simp] theorem mem_moverMiss (m a) : (d.moverMiss m a).mem = d.mem := by simp [Device.moverMiss]

@[simp] theorem mem_fetch (m a n isHdr) : (d.fetch m a n isHdr).1.mem = d.mem := by
  unfold Device.fetch
  split <;> simp

@[simp] theorem mem_askRest (m e fl) : (d.askRest m e fl).1.mem = d.mem := by simp [Device.askRest]

@[simp] theorem mem_readTile (m e j refetch) : (d.readTile m e j refetch).1.mem = d.mem := by
  unfold Device.readTile
  split
  · exact mem_fetch ..
  · split
    · rfl
    · split
      · exact mem_moverMiss ..
      · exact (mem_fetch ..).trans (mem_fetch ..)

@[simp] theorem mem_sideBytes (m a n) : (d.sideBytes m a n).1.mem = d.mem := by simp [Device.sideBytes]

@[simp] theorem mem_endTile (m e j wr) : (d.endTile m e j wr).mem = d.mem := by
  unfold Device.endTile
  split <;> simp

@[simp] theorem mem_queueSe (se e) : (queueSe d se e).mem = d.mem := by simp [queueSe]

@[simp] theorem mem_seRead (se off n) : (seRead d se off n).1.mem = d.mem := by simp [seRead]

@[simp] theorem mem_sourceRead (m) : (sourceRead d m).mem = d.mem := by
  unfold sourceRead
  dsimp only
  repeat' split
  all_goals simp

@[simp] theorem mem_idleOn (i on) : (d.idleOn i on).mem = d.mem := by
  unfold Device.idleOn
  split <;> simp

@[simp] theorem mem_pdPut (i st) : (d.pdPut i st).mem = d.mem := by simp [Device.pdPut]

@[simp] theorem mem_pdBegin (i st src) : (d.pdBegin i st src).mem = d.mem := by simp [Device.pdBegin]

@[simp] theorem mem_pdStart (i st src) : (d.pdStart i st src).mem = d.mem := by simp [Device.pdStart]

@[simp] theorem mem_recordWake (i src) : (d.recordWake i src).mem = d.mem := by simp [Device.recordWake]

@[simp] theorem mem_failCluster (k) : (d.failCluster k).mem = d.mem := by simp [Device.failCluster]

@[simp] theorem mem_portDown (p) : (d.portDown p).mem = d.mem := by simp [Device.portDown]

@[simp] theorem mem_sendSymbols (p ss) : (d.sendSymbols p ss).mem = d.mem := by rfl

@[simp] theorem mem_sendCodeword (p m) : (d.sendCodeword p m).mem = d.mem := by simp [Device.sendCodeword]

@[simp] theorem mem_closeWord (p) : (d.closeWord p).mem = d.mem := by simp [Device.closeWord]

@[simp] theorem mem_pushSlots (p ss) : (d.pushSlots p ss).mem = d.mem := by simp [Device.pushSlots]

@[simp] theorem mem_unnumbered (p ss) : (d.unnumbered p ss).mem = d.mem := by simp [Device.unnumbered]

@[simp] theorem mem_idleWord (p) : (d.idleWord p).mem = d.mem := by simp [Device.idleWord]

@[simp] theorem mem_replayFrom (p n) : (d.replayFrom p n).mem = d.mem := by simp [Device.replayFrom]

@[simp] theorem mem_moveParent (p) : (d.moveParent p).mem = d.mem := by simp [Device.moveParent]

@[simp] theorem mem_trainStart (p retrain) : (d.trainStart p retrain).mem = d.mem := by simp [Device.trainStart]

@[simp] theorem mem_portLost (p) : (d.portLost p).mem = d.mem := by simp [Device.portLost]

@[simp] theorem mem_trainMiswired (p) : (d.trainMiswired p).mem = d.mem := by simp [Device.trainMiswired]

@[simp] theorem mem_trainFail (p) : (d.trainFail p).mem = d.mem := by simp [Device.trainFail]

@[simp] theorem mem_trainUp (p) : (d.trainUp p).mem = d.mem := by simp [Device.trainUp]

@[simp] theorem mem_placeMessages : d.placeMessages.mem = d.mem := by simp [Device.placeMessages]

@[simp] theorem mem_controlSlot (p) : (d.controlSlot p).mem = d.mem := by simp [Device.controlSlot]

@[simp] theorem mem_busyBoundary (p) : (d.busyBoundary p).mem = d.mem := by simp [Device.busyBoundary]

@[simp] theorem mem_idleBoundaries : d.idleBoundaries.mem = d.mem := by simp [Device.idleBoundaries]

@[simp] theorem mem_eraseBlock (b) : (d.eraseBlock b).mem = d.mem := by simp [Device.eraseBlock]

@[simp] theorem mem_writeRec (r data complete) : (d.writeRec r data complete).mem = d.mem := by simp [Device.writeRec]

@[simp] theorem mem_setDvSeq (die x) : (d.setDvSeq die x).mem = d.mem := by rfl

@[simp] theorem mem_refreshThrottle : d.refreshThrottle.mem = d.mem := by simp [Device.refreshThrottle]

@[simp] theorem mem_setFreq (die f) : (d.setFreq die f).mem = d.mem := by simp [Device.setFreq]

@[simp] theorem mem_dvStart (die) : (d.dvStart die).mem = d.mem := by simp [Device.dvStart]

@[simp] theorem mem_dvKick (die) : (d.dvKick die).mem = d.mem := by
  unfold Device.dvKick
  split <;> simp

@[simp] theorem mem_targetHook (die mhz) : (targetHook die mhz d).1.mem = d.mem := by simp [targetHook]

@[simp] theorem mem_endSequence (die) : (endSequence d die).mem = d.mem := by simp [endSequence]

@[simp] theorem mem_freqHook (die mhz) : (freqHook die mhz d).1.mem = d.mem := by simp [freqHook]

@[simp] theorem mem_vcoreHook (die v) : (vcoreHook die v d).1.mem = d.mem := by simp [vcoreHook]

@[simp] theorem mem_thermalDie (die) : (d.thermalDie die).mem = d.mem := by simp [Device.thermalDie]

@[simp] theorem mem_refreshTj : d.refreshTj.mem = d.mem := by simp [Device.refreshTj]

@[simp] theorem mem_inputReading (ms sec) : (d.inputReading ms sec).mem = d.mem := by
  unfold Device.inputReading
  dsimp only
  repeat' split
  all_goals simp

@[simp] theorem mem_updateDelta (die pt cls) : (d.updateDelta die pt cls).mem = d.mem := by
  unfold Device.updateDelta
  split <;> simp

@[simp] theorem mem_showDelta (die) : (d.showDelta die).mem = d.mem := by simp [Device.showDelta]

@[simp] theorem mem_loadAge : d.loadAge.mem = d.mem := by simp [Device.loadAge]

@[simp] theorem mem_setVplans (die l) : (d.setVplans die l).mem = d.mem := by rfl

@[simp] theorem mem_applyFmax (die) : (d.applyFmax die).mem = d.mem := by simp [Device.applyFmax]

@[simp] theorem mem_applyMargin (die full) : (d.applyMargin die full).mem = d.mem := by
  unfold Device.applyMargin
  split <;> simp

@[simp] theorem mem_bumpVplan (die) : (d.bumpVplan die).mem = d.mem := by simp [Device.bumpVplan]

@[simp] theorem mem_planDue (die) : (d.planDue die).mem = d.mem := by rfl

@[simp] theorem mem_setUnitCtx (k u x) : (d.setUnitCtx k u x).mem = d.mem := by rfl

@[simp] theorem mem_openCtx (k u handle e) : (d.openCtx k u handle e).mem = d.mem := by simp [Device.openCtx]

@[simp] theorem mem_currentCtx (k u handle) : (d.currentCtx k u handle).1.mem = d.mem := by
  unfold Device.currentCtx
  dsimp only
  repeat' split
  all_goals simp

@[simp] theorem mem_starve (k) : (d.starve k).mem = d.mem := by simp [Device.starve]

@[simp] theorem mem_holdDraw (k u handle) : (d.holdDraw k u handle).mem = d.mem := by simp [Device.holdDraw]

@[simp] theorem mem_loseContexts : d.loseContexts.mem = d.mem := by rfl

@[simp] theorem mem_forgetOpens : d.forgetOpens.mem = d.mem := by rfl

@[simp] theorem mem_endDraw (k u w) : (d.endDraw k u w).mem = d.mem := by simp [Device.endDraw]

@[simp] theorem mem_frameStall (g f) : (d.frameStall g f).mem = d.mem := by simp [Device.frameStall]

@[simp] theorem mem_queueEng (g t e op) : (queueEng d g t e op).mem = d.mem := by simp [queueEng]

@[simp] theorem mem_badHeaders (g bad) : (d.badHeaders g bad).mem = d.mem := by simp [Device.badHeaders]

@[simp] theorem mem_takeOperands (g e n) : (d.takeOperands g e n).mem = d.mem := by simp [Device.takeOperands]

@[simp] theorem mem_accCounters (g e f a b) : (d.accCounters g e f a b).mem = d.mem := by simp [Device.accCounters]

@[simp] theorem mem_claimBlock (g e s) : (d.claimBlock g e s).mem = d.mem := by rfl

@[simp] theorem mem_drainRound (g e f tg handle vs qs cells) : (d.drainRound g e f tg handle vs qs cells).1.mem = d.mem := by
  unfold Device.drainRound
  dsimp only
  repeat' split
  all_goals simp

@[simp] theorem mem_badAddend (g add) : (d.badAddend g add).mem = d.mem := by simp [Device.badAddend]

@[simp] theorem mem_noteSince (g e i since) : (d.noteSince g e i since).mem = d.mem := by simp [Device.noteSince]

@[simp] theorem mem_seqMiss (q off) : (d.seqMiss q off).mem = d.mem := by simp [Device.seqMiss]

@[simp] theorem mem_seqRead (q off) : (d.seqRead q off).1.mem = d.mem := by simp [Device.seqRead]

@[simp] theorem mem_seqJump (q imm) : (seqJump d q imm).mem = d.mem := by rfl

@[simp] theorem mem_fireOnce (q n) : (d.fireOnce q n).mem = d.mem := by simp [Device.fireOnce]

@[simp] theorem mem_fireSeason : d.fireSeason.mem = d.mem := by simp [Device.fireSeason]

@[simp] theorem mem_sendWord (bnd) : (d.sendWord bnd).mem = d.mem := by rfl

@[simp] theorem mem_shiftBases (ns) : (d.shiftBases ns).mem = d.mem := by rfl

@[simp] theorem mem_finishHold : d.finishHold.mem = d.mem := by
  unfold Device.finishHold
  split <;> simp

@[simp] theorem mem_startHold : d.startHold.mem = d.mem := by simp [Device.startHold]

@[simp] theorem mem_haltRun : d.haltRun.mem = d.mem := by simp [Device.haltRun]

@[simp] theorem mem_fireStamps (lo hi) : (d.fireStamps lo hi).mem = d.mem := by simp [Device.fireStamps]

@[simp] theorem mem_restoreDone : d.restoreDone.mem = d.mem := by
  unfold Device.restoreDone
  split <;> simp

@[simp] theorem mem_countStep (ended) : (d.countStep ended).mem = d.mem := by simp [Device.countStep]

@[simp] theorem mem_declareLost (ms cause) : (d.declareLost ms cause).mem = d.mem := by simp [Device.declareLost]

@[simp] theorem mem_newRoutes : d.newRoutes.mem = d.mem := by simp [Device.newRoutes]

@[simp] theorem mem_openTaint (step) : (d.openTaint step).mem = d.mem := by simp [Device.openTaint]

@[simp] theorem mem_ownMiss (k port a) : (d.ownMiss k port a).mem = d.mem := by simp [Device.ownMiss]

@[simp] theorem mem_ownBytes (k port a n) : (d.ownBytes k port a n).1.mem = d.mem := by simp [Device.ownBytes]

@[simp] theorem mem_endReads (k tiles) : (d.endReads k tiles).mem = d.mem := by rfl

@[simp] theorem mem_engTile (k ok p h ua) : (d.engTile k ok p h ua).1.mem = d.mem := by
  unfold Device.engTile
  split <;> simp

@[simp] theorem mem_maskIllegal (k mask) : (d.maskIllegal k mask).mem = d.mem := by simp [Device.maskIllegal]

@[simp] theorem mem_mcheck (k c) : (d.mcheck k c).mem = d.mem := by simp [Device.mcheck]

@[simp] theorem mem_predRefuse (k j c) : (d.predRefuse k j c).mem = d.mem := by simp [Device.predRefuse]

@[simp] theorem mem_signsGiven (k c sign k0) : (d.signsGiven k c sign k0).mem = d.mem := by
  unfold Device.signsGiven
  split <;> simp

@[simp] theorem mem_cvtWaits (k j) : (cvtWaits d k j).mem = d.mem := by simp [cvtWaits]

@[simp] theorem mem_prepare (k u) : (d.prepare k u).mem = d.mem := by
  unfold Device.prepare
  dsimp only
  repeat' split
  all_goals simp

@[simp] theorem mem_queueMove (g t e) : (queueMove d g t e).mem = d.mem := by simp [queueMove]

@[simp] theorem mem_waitIn (g t st) : (d.waitIn g t st).mem = d.mem := by rfl

@[simp] theorem mem_wake (g t) : (d.wake g t).mem = d.mem := by simp [Device.wake]

@[simp] theorem mem_setSlot (s b) : (d.setSlot s b).mem = d.mem := by simp [Device.setSlot]

@[simp] theorem mem_setThawStep (n) : (d.setThawStep n).mem = d.mem := by simp [Device.setThawStep]

@[simp] theorem mem_startFirmware (s boot) : (d.startFirmware s boot).mem = d.mem := by simp [Device.startFirmware]

@[simp] theorem mem_enterRecovery (firstBad) : (d.enterRecovery firstBad).mem = d.mem := by simp [Device.enterRecovery]

@[simp] theorem mem_selectSlot (boot) : (d.selectSlot boot).mem = d.mem := by simp [Device.selectSlot]

@[simp] theorem mem_startThaw (boot) : (d.startThaw boot).mem = d.mem := by simp [Device.startThaw]

@[simp] theorem mem_acceptRepair (boot) : (d.acceptRepair boot).mem = d.mem := by
  unfold Device.acceptRepair
  dsimp only
  split <;> simp

@[simp] theorem mem_startFabric (boot) : (d.startFabric boot).mem = d.mem := by simp [Device.startFabric]

@[simp] theorem mem_memTrained (boot) : (d.memTrained boot).mem = d.mem := by simp [Device.memTrained]

@[simp] theorem mem_holdOff (cores) : (d.holdOff cores).mem = d.mem := by simp [Device.holdOff]

@[simp] theorem mem_setImg (x i) : (d.setImg x i).mem = d.mem := by rfl

@[simp] theorem mem_failPos (x) : (d.failPos x).mem = d.mem := by simp [Device.failPos]

@[simp] theorem mem_testFails (cores clusters) : (d.testFails cores clusters).mem = d.mem := by rfl

@[simp] theorem mem_recountUnits : d.recountUnits.mem = d.mem := by simp [Device.recountUnits]

@[simp] theorem mem_settleSpares : d.settleSpares.mem = d.mem := by simp [Device.settleSpares]

@[simp] theorem mem_thawReady : d.thawReady.mem = d.mem := by simp [Device.thawReady]

@[simp] theorem mem_pastDeadline (g deadline) : (d.pastDeadline g deadline).mem = d.mem := by simp [Device.pastDeadline]

@[simp] theorem mem_pollBegin (g l hdr) : (d.pollBegin g l hdr).mem = d.mem := by rfl

@[simp] theorem mem_pollAgain (g) : (d.pollAgain g).mem = d.mem := by rfl

@[simp] theorem mem_setRun (v) : (d.setRun v).mem = d.mem := by simp [Device.setRun]

@[simp] theorem mem_refuse (r) : (d.refuse r).mem = d.mem := by simp [Device.refuse]

@[simp] theorem mem_refuseOwn (r) : (d.refuseOwn r).mem = d.mem := by simp [Device.refuseOwn]

@[simp] theorem mem_refuseByOther (code dev) : (d.refuseByOther code dev).mem = d.mem := by simp [Device.refuseByOther]

@[simp] theorem mem_loadObject (o) : (d.loadObject o).mem = d.mem := by simp [Device.loadObject]

@[simp] theorem mem_loadProgram (p) : (d.loadProgram p).mem = d.mem := by simp [Device.loadProgram]

@[simp] theorem mem_resetLists : d.resetLists.mem = d.mem := by rfl

@[simp] theorem mem_reportBackward (v) : (d.reportBackward v).mem = d.mem := by simp [Device.reportBackward]

@[simp] theorem mem_loadDefault (f q) : (d.loadDefault f q).mem = d.mem := by simp [Device.loadDefault]

@[simp] theorem mem_raiseFloor (die) : (d.raiseFloor die).mem = d.mem := by simp [Device.raiseFloor]

@[simp] theorem mem_setSlotImg (slot x) : (d.setSlotImg slot x).mem = d.mem := by simp [Device.setSlotImg]

@[simp] theorem mem_setKeepImg (slot x) : (d.setKeepImg slot x).mem = d.mem := by simp [Device.setKeepImg]

@[simp] theorem mem_freeRun : d.freeRun.mem = d.mem := by
  unfold Device.freeRun
  split <;> simp

@[simp] theorem mem_spreadWork : d.spreadWork.mem = d.mem := by simp [Device.spreadWork]

@[simp] theorem mem_takeNumber : d.takeNumber.mem = d.mem := by
  unfold Device.takeNumber
  dsimp only
  repeat' split
  all_goals simp

@[simp] theorem mem_repeatSteps (step) : (d.repeatSteps step).mem = d.mem := by rfl

@[simp] theorem mem_rebase (step) : (d.rebase step).mem = d.mem := by simp [Device.rebase]

@[simp] theorem mem_loadMonitor (i) : (d.loadMonitor i).mem = d.mem := by simp [Device.loadMonitor]

@[simp] theorem mem_replaceMember (point m) : (d.replaceMember point m).mem = d.mem := by
  unfold Device.replaceMember
  dsimp only
  repeat' split
  all_goals simp

@[simp] theorem mem_planHook (image) : (planHook image d).1.mem = d.mem := by simp [planHook]

@[simp] theorem mem_checkHook : (checkHook d).1.mem = d.mem := by simp [checkHook]

@[simp] theorem mem_emptyPlan : (emptyPlan d).mem = d.mem := by simp [emptyPlan]

@[simp] theorem mem_discardHook : (discardHook d).1.mem = d.mem := by simp [discardHook]

@[simp] theorem mem_stopHook : (stopHook d).1.mem = d.mem := by simp [stopHook]

@[simp] theorem mem_binHour (die) : (binHour d die).mem = d.mem := by simp [binHour]

@[simp] theorem mem_replanHook (v) : (replanHook v d).1.mem = d.mem := by simp [replanHook]

@[simp] theorem mem_bgRenew : d.bgRenew.mem = d.mem := by simp [Device.bgRenew]

@[simp] theorem mem_bgTake (key num den n) : (d.bgTake key num den n).1.mem = d.mem := by simp [Device.bgTake]

@[simp] theorem mem_hbmCorrected (h ch a) : (d.hbmCorrected h ch a).mem = d.mem := by simp [Device.hbmCorrected]

@[simp] theorem mem_hbmUncorrectable (h a) : (d.hbmUncorrectable h a).mem = d.mem := by simp [Device.hbmUncorrectable]

@[simp] theorem mem_ddrCorrected (c a) : (d.ddrCorrected c a).mem = d.mem := by simp [Device.ddrCorrected]

@[simp] theorem mem_setScrub (key n) : (d.setScrub key n).mem = d.mem := by rfl

@[simp] theorem mem_setWriteBack (key x) : (d.setWriteBack key x).mem = d.mem := by rfl

@[simp] theorem mem_calibrate (key num den n period ua ui) : (d.calibrate key num den n period ua ui).mem = d.mem := by
  simp [Device.calibrate]

@[simp] theorem mem_hbmCalibrate (h ch) : (d.hbmCalibrate h ch).mem = d.mem := by simp [Device.hbmCalibrate]

@[simp] theorem mem_zqCalibrate (c) : (d.zqCalibrate c).mem = d.mem := by simp [Device.zqCalibrate]

@[simp] theorem mem_snapshot : d.snapshot.mem = d.mem := by rfl

@[simp] theorem mem_setStorePort (k p x) : (d.setStorePort k p x).mem = d.mem := by rfl

@[simp] theorem mem_presentPort (k p) : (d.presentPort k p).mem = d.mem := by
  unfold Device.presentPort
  split <;> simp

@[simp] theorem mem_portRequests (k b qs) : (d.portRequests k b qs).mem = d.mem := by simp [Device.portRequests]

@[simp] theorem mem_arbAges (a n) : (d.arbAges a n).mem = d.mem := by simp [Device.arbAges]

@[simp] theorem mem_bankStalls (a) : (d.bankStalls a).mem = d.mem := by
  unfold Device.bankStalls
  split <;> simp

@[simp] theorem mem_arbOffers (a reqs blocks) : (d.arbOffers a reqs blocks).mem = d.mem := by
  unfold Device.arbOffers
  split <;> simp

@[simp] theorem mem_withhold : (withhold d).mem = d.mem := by simp [withhold]

@[simp] theorem mem_discardWord : (discardWord d).mem = d.mem := by simp [discardWord]

@[simp] theorem mem_followMaster (m) : (followMaster d m).mem = d.mem := by simp [followMaster]

@[simp] theorem mem_leavePair : (leavePair d).mem = d.mem := by simp [leavePair]

@[simp] theorem mem_steer (off) : (steer d off).mem = d.mem := by simp [steer]

@[simp] theorem mem_jump (g t imm) : (jump d g t imm).mem = d.mem := by rfl

@[simp] theorem mem_setLease (sid) : (d.setLease sid).mem = d.mem := by
  unfold Device.setLease
  dsimp only
  repeat' split
  all_goals simp

@[simp] theorem mem_closeSession (sid) : (d.closeSession sid).mem = d.mem := by
  unfold Device.closeSession
  split <;> simp

@[simp] theorem mem_fwImageHook (data) : (fwImageHook data d).1.mem = d.mem := by simp [fwImageHook]

@[simp] theorem mem_fwVerifyHook : (fwVerifyHook d).1.mem = d.mem := by simp [fwVerifyHook]

@[simp] theorem mem_fwActivateHook : (fwActivateHook d).1.mem = d.mem := by simp [fwActivateHook]

@[simp] theorem mem_fwCommitHook : (fwCommitHook d).1.mem = d.mem := by simp [fwCommitHook]

@[simp] theorem mem_nonceHook (sid nonce) : (nonceHook sid nonce d).1.mem = d.mem := by
  unfold nonceHook
  split <;> simp

@[simp] theorem mem_disableSigning : (disableSigning d).mem = d.mem := by simp [disableSigning]

@[simp] theorem mem_storeCreds (l ident) : (d.storeCreds l ident).mem = d.mem := by simp [Device.storeCreds]

@[simp] theorem mem_credWriteHook (c raw) : (credWriteHook c raw d).1.mem = d.mem := by simp [credWriteHook]

@[simp] theorem mem_credDeleteHook (ident) : (credDeleteHook ident d).1.mem = d.mem := by simp [credDeleteHook]

@[simp] theorem mem_hvCommandHook : (hvCommandHook d).1.mem = d.mem := by simp [hvCommandHook]

@[simp] theorem mem_hvNext (v) : (hvNext v d).mem = d.mem := by simp [hvNext]

@[simp] theorem mem_hvKeepSealed (n) : (hvKeepSealed n d).mem = d.mem := by simp [hvKeepSealed]

@[simp] theorem mem_moveCounters (k) : (d.moveCounters k).mem = d.mem := by simp [Device.moveCounters]

@[simp] theorem mem_inputsCounted : d.inputsCounted.mem = d.mem := by rfl

@[simp] theorem mem_taintAction (step) : (d.taintAction step).mem = d.mem := by simp [Device.taintAction]

@[simp] theorem mem_taintHook : (taintHook d).1.mem = d.mem := by simp [taintHook]

@[simp] theorem mem_recalHook (tsid) : (recalHook tsid d).1.mem = d.mem := by rfl

@[simp] theorem mem_lossHook (eval v) : (lossHook eval v d).1.mem = d.mem := by simp [lossHook]

@[simp] theorem mem_shapeHook (sub v) : (shapeHook sub v d).1.mem = d.mem := by simp [shapeHook]

@[simp] theorem mem_programHook (sub a data) : (programHook sub a data d).1.mem = d.mem := by rfl

@[simp] theorem mem_domHook (c idx sub a data) : (domHook c idx sub a data d).1.mem = d.mem := by
  unfold domHook
  dsimp only
  repeat' split
  all_goals simp

@[simp] theorem mem_markRead (off n) : (d.markRead off n).mem = d.mem := by simp [Device.markRead]

@[simp] theorem mem_respond (link r) : (d.respond link r).mem = d.mem := by
  unfold Device.respond
  split <;> simp

@[simp] theorem mem_malformed (h op readable) : (d.malformed h op readable).mem = d.mem := by simp [Device.malformed]

@[simp] theorem mem_drawSid : d.drawSid.2.mem = d.mem := by rfl

@[simp] theorem mem_openSession (x) : (d.openSession x).mem = d.mem := by simp [Device.openSession]

@[simp] theorem mem_modSession (sid f) : (d.modSession sid f).mem = d.mem := by
  unfold Device.modSession
  split <;> simp

@[simp] theorem mem_keep (sid r) : (d.keep sid r).mem = d.mem := by simp [Device.keep]

@[simp] theorem mem_doDread (x a off len) : (d.doDread x a off len).1.mem = d.mem := by simp [Device.doDread]

@[simp] theorem mem_commit (c sid g) : (d.commit c sid g).1.mem = d.mem := by simp [Device.commit]

@[simp] theorem mem_segment (c sid g a off data) : (d.segment c sid g a off data).1.mem = d.mem := by simp [Device.segment]

@[simp] theorem mem_doDwrite (x c a b i off total data) : (d.doDwrite x c a b i off total data).1.mem = d.mem := by
  unfold Device.doDwrite
  dsimp only
  repeat' split
  all_goals simp

@[simp] theorem mem_doClaim (x role force) : (d.doClaim x role force).1.mem = d.mem := by
  unfold Device.doClaim
  dsimp only
  repeat' split
  all_goals simp

@[simp] theorem mem_forwardReq (x h req) : (d.forwardReq x h req).mem = d.mem := by rfl

@[simp] theorem mem_doHello (h gens role name) : (d.doHello h gens role name).mem = d.mem := by
  unfold Device.doHello
  dsimp only
  repeat' split
  all_goals simp

@[simp] theorem mem_returned (r) : (d.returned r).mem = d.mem := by
  unfold Device.returned
  dsimp only
  repeat' split
  all_goals simp

@[simp] theorem mem_handshake (port src conn ident key) : (handshake d port src conn ident key).mem = d.mem := by
  unfold handshake
  split <;> simp

@[simp] theorem mem_sessionEnds (sid) : (sessionEnds d sid).mem = d.mem := by
  unfold sessionEnds
  split <;> simp

@[simp] theorem mem_eventFrame (sid) : (eventFrame d sid).mem = d.mem := by
  unfold eventFrame
  dsimp only
  repeat' split
  all_goals simp

@[simp] theorem mem_onIsland (f) : (d.onIsland f).mem = d.mem := by simp [Device.onIsland]

@[simp] theorem mem_startPulse : (startPulse d).mem = d.mem := by simp [startPulse]

@[simp] theorem mem_signRecord (flashOk) : (signRecord d flashOk).mem = d.mem := by
  unfold signRecord
  dsimp only
  split <;> simp

@[simp] theorem mem_sendWork : (sendWork d).mem = d.mem := by
  unfold sendWork
  dsimp only
  repeat' split
  all_goals simp

@[simp] theorem mem_heardIsland : (heardIsland d).mem = d.mem := by rfl

@[simp] theorem mem_storeRecord (r sigOk) : (storeRecord d r sigOk).mem = d.mem := by simp [storeRecord]

@[simp] theorem mem_trainNext (p) : (d.trainNext p).mem = d.mem := by simp [Device.trainNext]

@[simp] theorem mem_trainStep (p res) : (d.trainStep p res).mem = d.mem := by
  unfold Device.trainStep
  dsimp only
  repeat' split
  all_goals simp

@[simp] theorem mem_codeword (p seq replayed word) : (d.codeword p seq replayed word).mem = d.mem := by
  unfold Device.codeword
  split <;> simp

@[simp] theorem mem_receive (p seq replayed rx) : (d.receive p seq replayed rx).mem = d.mem := by simp [Device.receive]

@[simp] theorem mem_reply (p h typ len err last addr data) : (d.reply p h typ len err last addr data).mem = d.mem := by
  simp [Device.reply]

@[simp] theorem mem_answerRead (p h) : (d.answerRead p h).mem = d.mem := by simp [Device.answerRead]

@[simp] theorem mem_writeDone (t r err) : (d.writeDone t r err).mem = d.mem := by simp [Device.writeDone]

@[simp] theorem mem_lateCompletion : d.lateCompletion.mem = d.mem := by simp [Device.lateCompletion]

@[simp] theorem mem_forward (p h data) : (d.forward p h data).mem = d.mem := by
  unfold Device.forward
  dsimp only
  repeat' split
  all_goals simp

@[simp] theorem mem_startPacket (p fwd h data) : (d.startPacket p fwd h data).mem = d.mem := by simp [Device.startPacket]

@[simp] theorem mem_sendControl (p route typ body) : (d.sendControl p route typ body).mem = d.mem := by rfl

@[simp] theorem mem_passControl (p typ body) : (d.passControl p typ body).mem = d.mem := by simp [Device.passControl]

@[simp] theorem mem_startGroup (n) : (startGroup d n).mem = d.mem := by simp [startGroup]

@[simp] theorem mem_askChunks (x mask) : (askChunks d x mask).mem = d.mem := by simp [askChunks]

@[simp] theorem mem_inRecovery (f) : (d.inRecovery f).mem = d.mem := by simp [Device.inRecovery]

@[simp] theorem mem_bankFault (g off) : (bankFault d g off).mem = d.mem := by simp [bankFault]

end

end Sys2Proof.Machine.CanonMem

/-! PROOFS. What writes memory and keeps its form. -/

namespace Sys2Proof.Machine.CanonMem

section
variable {d : Device}

@[simp] theorem reportLine {k tsid smax sats} (hd : CanonMem d.mem) : CanonMem (d.reportLine k tsid smax sats).mem := by
  unfold Device.reportLine
  split <;> simp [hd]

@[simp] theorem sramHit {a ecc} (hd : CanonMem d.mem) : CanonMem (d.sramHit a ecc).mem := by
  unfold Device.sramHit
  dsimp only
  split <;> simp [hd]

@[simp] theorem sramHits {hits} (hd : CanonMem d.mem) : CanonMem (d.sramHits hits).mem := foldl (fun _ _ hx => .sramHit hx) hd

@[simp] theorem flushReports {g e} (hd : CanonMem d.mem) : CanonMem (d.flushReports g e).mem := foldl (fun _ _ hx => .reportLine hx) hd

@[simp] theorem seqHits {q hits} (hd : CanonMem d.mem) : CanonMem (d.seqHits q hits).mem := by simp [Device.seqHits, hd]

@[simp] theorem emit {m a bs isHdr} (hd : CanonMem d.mem) : CanonMem (d.emit m a bs isHdr).1.mem := by
  unfold Device.emit
  split <;> simp [hd]

@[simp] theorem clearMem {lo hi} (hd : CanonMem d.mem) : CanonMem (d.clearMem lo hi).mem := by simp [Device.clearMem, hd]

@[simp] theorem loseDdr {c} (hd : CanonMem d.mem) : CanonMem (d.loseDdr c).mem := by simp [Device.loseDdr, hd]

@[simp] theorem wipe : CanonMem d.wipe.mem := by simp [Device.wipe]

@[simp] theorem domainsOff : CanonMem d.domainsOff.mem := by simp [Device.domainsOff]

@[simp] theorem seqPut {q off bs} (hd : CanonMem d.mem) : CanonMem (d.seqPut q off bs).mem := by simp [Device.seqPut, hd]

@[simp] theorem seqStore {q off v} (hd : CanonMem d.mem) : CanonMem (d.seqStore q off v).mem := by simp [Device.seqStore, hd]

@[simp] theorem recalLine {k t} (hd : CanonMem d.mem) : CanonMem (d.recalLine k t).mem := by
  unfold Device.recalLine
  dsimp only
  split <;> simp [hd]

@[simp] theorem ownPut {k port a bs} (hd : CanonMem d.mem) : CanonMem (d.ownPut k port a bs).mem := by simp [Device.ownPut, hd]

@[simp] theorem ringDone {k h0 r cnt cores} (hd : CanonMem d.mem) : CanonMem (d.ringDone k h0 r cnt cores).mem := by
  simp [Device.ringDone, hd]

@[simp] theorem putMask {k mask t s new} (hd : CanonMem d.mem) : CanonMem (d.putMask k mask t s new).mem := by
  simp [Device.putMask, hd]

@[simp] theorem placeHeaders {f p} (hd : CanonMem d.mem) : CanonMem (d.placeHeaders f p).mem := by
  unfold Device.placeHeaders
  split
  · dsimp only
    split
    · exact loop (fun _ _ hx => .put hx) hd
    · exact hd
  · exact hd

@[simp] theorem takeZero {a} (hd : CanonMem d.mem) : CanonMem (d.takeZero a).2.mem := by simp [Device.takeZero, hd]

@[simp] theorem takeSlot {k off} (hd : CanonMem d.mem) : CanonMem (d.takeSlot k off).2.mem := by simp [Device.takeSlot, hd]

@[simp] theorem clampSub {k t loc storm} (hd : CanonMem d.mem) : CanonMem (d.clampSub k t loc storm).mem := by
  simp [Device.clampSub, hd]

@[simp] theorem escSub {k t loc mm me x s} (hd : CanonMem d.mem) : CanonMem (d.escSub k t loc mm me x s).1.mem := by
  unfold Device.escSub
  dsimp only
  repeat' split
  all_goals simp [hd]

@[simp] theorem ltbRun {k op table} (hd : CanonMem d.mem) : CanonMem (Machine.ltbRun d k op table).mem := by
  unfold Machine.ltbRun
  dsimp only
  repeat' split
  all_goals simp [hd]

@[simp] theorem loadLocal {g t rd off ecc} (hd : CanonMem d.mem) : CanonMem (Machine.loadLocal d g t rd off ecc).mem := by
  simp [Machine.loadLocal, hd]

@[simp] theorem slotFails {boot} : CanonMem (d.slotFails boot).mem := by simp [Device.slotFails]

@[simp] theorem recStore {k a b n v} (hd : CanonMem d.mem) : CanonMem (d.recStore k a b n v).mem := by simp [Device.recStore, hd]

@[simp] theorem endRecord {g hdr a st donecnt} (hd : CanonMem d.mem) : CanonMem (d.endRecord g hdr a st donecnt).mem := by
  simp [Device.endRecord, hd]

@[simp] theorem setReserve {f r} (hd : CanonMem d.mem) : CanonMem (d.setReserve f r).mem := by simp [Device.setReserve, hd]

@[simp] theorem loadSpread {f base} (hd : CanonMem d.mem) : CanonMem (Machine.loadSpread d f base).mem := foldl (fun _ _ hx => .put hx) hd

@[simp] theorem ddrUncorrectable {c a} (hd : CanonMem d.mem) : CanonMem (d.ddrUncorrectable c a).mem := by
  simp [Device.ddrUncorrectable, hd]

@[simp] theorem doWriteBack {key} (hd : CanonMem d.mem) : CanonMem (d.doWriteBack key).mem := by
  unfold Device.doWriteBack
  split <;> simp [hd]

@[simp] theorem moveGranule {k x g} (hd : CanonMem d.mem) : CanonMem (d.moveGranule k x g).1.mem := by
  unfold Device.moveGranule
  split <;> simp [hd]

@[simp] theorem summaryArrives {k} (hd : CanonMem d.mem) : CanonMem (d.summaryArrives k).mem := by
  unfold Device.summaryArrives
  split <;> simp [hd]

@[simp] theorem loseBurst {a n} (hd : CanonMem d.mem) : CanonMem (d.loseBurst a n).mem := by simp [Device.loseBurst, hd]

@[simp] theorem writeChunk {x k b} (hd : CanonMem d.mem) : CanonMem (Machine.writeChunk d x k b).mem := by
  unfold Machine.writeChunk
  split
  · split
    · exact .put hd
    · exact hd
  · exact hd

@[simp] theorem restartThaw {boot} : CanonMem (d.restartThaw boot).mem := by simp [Device.restartThaw]

end

end Sys2Proof.Machine.CanonMem

/-! PROOFS. Memory keeps its canonical form: the longer operations of the units, each after those it uses. -/

namespace Sys2Proof.Machine.CanonMem

section
variable {d : Device}

@[simp] theorem mem_announce (d : Device) (n) : (Machine.announce d n).mem = d.mem := by simp [Machine.announce]

@[simp] theorem mem_answer (r idx sub inst) : (Device.answer r idx sub inst).mem = r.1.mem := by simp [Device.answer]

@[simp] theorem mem_decideHarvest (d : Device) (ended) : (d.decideHarvest ended).mem = d.mem := by
  unfold Device.decideHarvest
  split <;> simp

theorem mem_of_takeBounce {p n c x} (h : d.takeBounce p n c = some x) : x.1.mem = d.mem := by
  unfold Device.takeBounce at h
  obtain ⟨i, -, h⟩ := Option.bind_eq_some_iff.1 h
  obtain ⟨y, -, rfl⟩ := Option.map_eq_some_iff.1 h
  rfl

@[simp] theorem mem_streamOut (d : Device) (k) : (d.streamOut k).mem = d.mem := by
  unfold Device.streamOut
  split <;> simp

@[simp] theorem mem_reExport (d : Device) : d.reExport.mem = d.mem := by
  unfold Device.reExport
  dsimp only
  repeat' split
  all_goals simp

@[simp] theorem mem_hvRequest (d : Device) (dev) : (Machine.hvRequest dev d).mem = d.mem := by simp [Machine.hvRequest]

@[simp] theorem mem_startExport (d : Device) : d.startExport.mem = d.mem := by
  unfold Device.startExport
  dsimp only
  repeat' split
  all_goals simp

@[simp] theorem engPut {k p h payload x} (hd : CanonMem d.mem) : CanonMem (d.engPut k p h payload x).mem := by
  simp [Device.engPut, hd]

@[simp] theorem deferScale {kt} (hd : CanonMem d.mem) : CanonMem (d.deferScale kt).mem :=
  .store (.ite (.store (.ite (.store hd) hd)) (.ite (.store hd) hd))

theorem seqIssue {q} {f : Device → SqS → Device} (hf : ∀ x y, CanonMem x.mem → CanonMem (f x y).mem) (hd : CanonMem d.mem) :
    CanonMem (d.seqIssue q f).mem := by
  unfold Device.seqIssue
  split
  · split
    · exact hf _ _ hd
    · simp [hd]
  · exact hd

@[simp] theorem planned {f} (hd : CanonMem d.mem) : CanonMem (d.planned f).mem :=
  foldl (fun _ _ hx => .placeHeaders hx) (foldl (fun _ _ hx => .put hx) (.same (d := d) (by simp) hd))

theorem viaDomain {c idx sub} {hook : Device → Device × Nat} (hf : CanonMem (hook d).1.mem) (hd : CanonMem d.mem) :
    CanonMem (d.viaDomain c idx sub hook).mem := by
  simp [Device.viaDomain, hd, hf]

@[simp] theorem recalibrate (hd : CanonMem d.mem) : CanonMem d.recalibrate.mem := by
  unfold Device.recalibrate
  split
  · exact hd
  · exact loop (fun _ _ hx => .ite (loop (fun _ _ hy => .recalLine hy) hx) (foldl (fun _ _ hy => .recalLine hy) hx)) hd

@[simp] theorem seqAlu {q rd ra rb imm op} (hd : CanonMem d.mem) : CanonMem (Machine.seqAlu d q rd ra rb imm op).mem :=
  seqIssue (fun _ _ hx => by simp [hx]) hd

@[simp] theorem bankGranted {k b p eng} (hd : CanonMem d.mem) : CanonMem (d.bankGranted k b p eng).mem := by
  unfold Device.bankGranted
  dsimp only
  split
  · exact hd
  · have hy (x : StorePortS) (l : List Granule) : CanonMem (l.foldl (fun y g => y.1.moveGranule k y.2 g) (d, x)).1.mem :=
      foldl_fst (fun _ _ hx => .moveGranule hx) hd
    split <;> simp [hy]

@[simp] theorem mem_numberUnits (d : Device) : d.numberUnits.mem = d.mem := by
  refine mem_forN _ (fun x k => ?_) _ _
  split
  · simp
  · refine (mem_forN _ (fun y l => ?_) _ _).trans (by simp)
    dsimp only
    split <;> simp

@[simp] theorem seqBranch {q ra rb imm cmp} (hd : CanonMem d.mem) : CanonMem (Machine.seqBranch d q ra rb imm cmp).mem :=
  seqIssue (fun _ _ hx => by simp [hx]) hd

theorem mem_of_takeLocal {p n c x} (h : d.takeLocal p n c = some x) : x.1.mem = d.mem := by
  unfold Device.takeLocal at h
  obtain ⟨i, -, h⟩ := Option.bind_eq_some_iff.1 h
  obtain ⟨y, -, rfl⟩ := Option.map_eq_some_iff.1 h
  rfl

@[simp] theorem mem_pdRaise (n i st src) : (d.pdRaise n i st src).mem = d.mem := by
  induction n generalizing i st src with
  | zero => simp [Device.pdRaise]
  | succ n ih =>
    unfold Device.pdRaise
    split
    · simp
    · split <;> simp [ih]

@[simp] theorem mem_settleEvents (d : Device) : d.settleEvents.mem = d.mem := by
  refine (mem_forN _ (fun x k => ?_) _ _).trans (mem_forN _ (fun x die => ?_) _ _)
  · dsimp only
    split <;> simp
  · simp

theorem mem_of_takeTransit {p n c x} (h : d.takeTransit p n c = some x) : x.1.mem = d.mem := by
  unfold Device.takeTransit at h
  obtain ⟨i, -, h⟩ := Option.bind_eq_some_iff.1 h
  obtain ⟨y, -, rfl⟩ := Option.map_eq_some_iff.1 h
  exact (mem_freeSlots ..).trans (mem_modPort ..)

@[simp] theorem mem_hvCommit (d : Device) (hnum) : (Machine.hvCommit hnum d).mem = d.mem := by
  unfold Machine.hvCommit
  dsimp only
  repeat' split
  all_goals simp

theorem viaObject {c idx sub inst v} {hook : Device → Device × Nat} (hf : CanonMem (hook d).1.mem) (hd : CanonMem d.mem) :
    CanonMem (d.viaObject c idx sub inst v hook).mem := by
  simp [Device.viaObject, hd, hf]

@[simp] theorem mem_predTile (d : Device) (k c t) : (d.predTile k c t).1.mem = d.mem := by
  unfold Device.predTile
  split <;> exact mem_of_pair (mem_engTile ..) ‹_›

@[simp] theorem mem_maskData (d : Device) (k c t) : (d.maskData k c t).1.mem = d.mem := by
  unfold Device.maskData
  split <;> exact mem_of_pair (mem_engTile ..) ‹_›

@[simp] theorem answerWrite {p h data} (hd : CanonMem d.mem) : CanonMem (d.answerWrite p h data).mem := by
  simp [Device.answerWrite, hd]

@[simp] theorem loseAll {i} (hd : CanonMem d.mem) : CanonMem (d.loseAll i).mem := by
  unfold Device.loseAll
  split
  · exact .clearMem hd
  · dsimp only
    rw [mem_foldl _ (by simp), mem_forN _ (by simp)]
    exact .clearMem hd
  · exact .clearMem hd
  · simp [hd]
  · exact .keepMem hd
  · exact hd

theorem mem_of_storeBad {e : Device} {g off n} (h : storeBad d g off n = some e) : e.mem = d.mem := by
  unfold storeBad at h
  split at h
  · cases h
    simp
  · split at h <;> cases h
    simp

theorem arrives {p ty x data} {f : Device → Device} (hf : CanonMem (f d).mem) (hd : CanonMem d.mem) :
    CanonMem (d.arrives p ty x data f).mem := by
  unfold Device.arrives
  refine .ite hd (.ite ?_ (.ite hd (.ite hd ?_)))
  · simp [hd]
  · simp [hf]

theorem mem_of_ready {p fwd r x} (h : d.ready p fwd r = some x) : x.1.mem = d.mem := by
  unfold Device.ready at h
  obtain ⟨g, -, h⟩ := Option.bind_eq_some_iff.1 h
  split at h
  · cases h
  · split at h
    · rcases Option.or_eq_some_iff.1 h with h | ⟨-, h⟩
      · exact mem_of_takeTransit h
      · split at h
        · exact mem_of_takeBounce h
        · cases h
    · exact mem_of_takeLocal h

@[simp] theorem hubMove {h src dst n} (hd : CanonMem d.mem) : CanonMem (Device.hubMove h d src dst n).mem := by
  simp [Device.hubMove, hd]

theorem issue {g t} {f : Device → Thread → Device} (hf : ∀ x y, CanonMem x.mem → CanonMem (f x y).mem) (hd : CanonMem d.mem) :
    CanonMem (d.issue g t f).mem := by
  unfold Device.issue
  split
  · exact hf _ _ (by simp [hd])
  · exact hd

@[simp] theorem bufferReport {g e r} (hd : CanonMem d.mem) : CanonMem (d.bufferReport g e r).mem := by
  unfold Device.bufferReport
  dsimp only
  split
  · simp [hd]
  · split
    · simp [hd]
    · exact .reportLine (by simp [hd])

@[simp] theorem mcapt {k c} (hd : CanonMem d.mem) : CanonMem (d.mcapt k c).mem :=
  loop (fun _ _ hx => loop (fun _ _ hy => .put hy) (.same (mem_maskData ..) hx)) hd

@[simp] theorem mem_loseRetention (d : Device) (i) : (d.loseRetention i).mem = d.mem := by
  unfold Device.loseRetention
  split <;> simp

theorem mem_of_firstReads {e : Device} {k ok ts} (h : d.firstReads k ok ts = some e) : e.mem = d.mem := by
  unfold Device.firstReads at h
  dsimp only at h
  split at h
  · cases h
  · cases h
    refine mem_foldl _ (fun x t => ?_) _ _
    split <;> simp

@[simp] theorem mupd {k c} (hd : CanonMem d.mem) : CanonMem (d.mupd k c).mem := by
  refine loop (fun x t hx => loop (fun y s hy => ?_) (.same (mem_maskData ..) hx)) (.ite (by simp [hd]) hd)
  simp [hy]

@[simp] theorem mapply {k c} (hd : CanonMem d.mem) : CanonMem (d.mapply k c).mem := loop (fun _ _ hx => .engPut (by simp [hx])) hd

@[simp] theorem mem_startRun (d : Device) : d.startRun.mem = d.mem := by simp [Device.startRun]

@[simp] theorem mem_ringLook (d : Device) (k h0 n first port) : (d.ringLook k h0 n first port).1.mem = d.mem := by
  simp [Device.ringLook]

@[simp] theorem mem_planDie (d : Device) (die) : (d.planDie die).mem = d.mem := by
  refine (Device.setNum_mem ..).trans ((mem_forN _ (fun x pt => ?_) _ _).trans (by simp))
  split <;> simp

@[simp] theorem cpack {k c} (hd : CanonMem d.mem) : CanonMem (d.cpack k c).mem := by
  refine loop (fun x t hx => ?_) (.ite (by simp [hd]) hd)
  dsimp only
  split <;> exact .engPut (by simp [hx])

@[simp] theorem mem_predScores (d : Device) (k c par) : (d.predScores k c par).1.mem = d.mem := by simp [Device.predScores]

@[simp] theorem mem_emptyQueues (d : Device) : d.emptyQueues.mem = d.mem := by simp [Device.emptyQueues]

@[simp] theorem engineFill {c n bs dst} (hd : CanonMem d.mem) : CanonMem (Device.engineFill c n bs dst d).mem := by
  induction n generalizing bs dst d with
  | zero => exact hd
  | succ n ih =>
    unfold Device.engineFill
    split
    · exact hd
    · exact ih (.ite hd (.ite (.put hd) (by simp [hd])))

@[simp] theorem mem_launch (d : Device) (g hdr n r) : (d.launch g hdr n r).mem = d.mem := by simp [Device.launch]

@[simp] theorem pdTimeout {i} (hd : CanonMem d.mem) : CanonMem (d.pdTimeout i).mem := by
  have hl : CanonMem ((d.setNum 0x70C0 1 i 2).loseAll i).mem := .loseAll (by simp [hd])
  unfold Device.pdTimeout
  refine .ite hd (.ite (by simp [hl]) ?_)
  split
  case h_4 => exact loop (fun _ _ hx => .loseDdr hx) (by simp [hl])
  all_goals simp [hl]

@[simp] theorem takeMaxima {k loc} (hd : CanonMem d.mem) : CanonMem (d.takeMaxima k loc).2.2.mem :=
  foldl_view (fun x : Nat × Nat × Device => x.2.2.mem) (fun _ _ hx => .takeSlot (.takeSlot hx)) (.takeZero (.takeZero hd))

@[simp] theorem mem_readFalls (d : Device) (k port esc) : (d.readFalls k port esc).1.mem = d.mem := by
  have h (x : Device × List (Nat × List Byte)) (f : Nat × Nat) (n : Nat) :
      SameMem x.1 (let y := x.1.ownBytes k port f.2 n; (y.1, x.2 ++ [(f.1, y.2)])).1 := mem_ownBytes ..
  exact mem_foldl_fst _ (fun x f => h x f 512) _ _

@[simp] theorem mem_abortRun (d : Device) (cause) : (d.abortRun cause).mem = d.mem := by
  unfold Device.abortRun
  rw [mem_haltRun, Device.taint_mem, mem_emptyQueues]

@[simp] theorem popEng {g e i} (hd : CanonMem d.mem) : CanonMem (d.popEng g e i).mem := .ite (.flushReports (by simp [hd])) (by simp [hd])

@[simp] theorem mem_ringTake (d : Device) (k h0 n first size port) : (d.ringTake k h0 n first size port).1.mem = d.mem := by
  unfold Device.ringTake
  split
  · exact mem_of_pair (mem_ringLook ..) ‹_›
  · next h => simp [mem_of_pair (mem_ringLook ..) h]

theorem redRun {k op} {f : Device → RedDesc → Device} (hf : ∀ c, CanonMem (f d c).mem) (hd : CanonMem d.mem) :
    CanonMem (Machine.redRun d k op f).mem := by
  unfold Machine.redRun
  split
  · exact hd
  · dsimp only
    split
    · exact hd
    · split
      · next he => exact .same (mem_of_firstReads he) hd
      · simp [hf]

theorem maskOp {k rd ra op} {f : Device → MaskJobDesc → Device} (hf : ∀ x c, CanonMem x.mem → CanonMem (f x c).mem)
    (hd : CanonMem d.mem) : CanonMem (d.maskOp k rd ra op f).mem := by
  refine seqIssue (fun x _ hx => ?_) hd
  dsimp only
  split
  · simp [hx]
  · split
    · next he => exact .same (mem_of_firstReads he) hx
    · simp [hf _ _ hx]

@[simp] theorem mem_predRun (d : Device) (k j c) : (d.predRun k j c).mem = d.mem := by
  unfold Device.predRun
  extract_lets reuse par
  split
  · simp
  · split
    · exact mem_of_firstReads ‹_›
    · next d1 d2 d3 r a d4 d5 _ _ _ => simp [d5, d4, r, d3, d2, d1]

@[simp] theorem engineCopy {c toTier m src dst n} (hd : CanonMem d.mem) :
    CanonMem (Device.engineCopy c toTier m src dst n d).mem := by
  induction m generalizing src dst n d with
  | zero => exact hd
  | succ m ih =>
    unfold Device.engineCopy
    split
    · exact hd
    · exact ih (.ite (.hubMove hd) hd)

@[simp] theorem mem_loseDevice (d : Device) : d.loseDevice.mem = d.mem := by simp [Device.loseDevice]

@[simp] theorem flushAllReports (hd : CanonMem d.mem) : CanonMem d.flushAllReports.mem :=
  foldl (fun _ _ hx => foldl (fun _ _ hy => .flushReports hy) hx) hd

@[simp] theorem harvestFill {bs dst} (hd : CanonMem d.mem) : CanonMem (d.harvestFill bs dst).mem := by
  simp [Device.harvestFill, hd]

@[simp] theorem pdGood {i} (hd : CanonMem d.mem) : CanonMem (d.pdGood i).mem := by
  unfold Device.pdGood
  dsimp only
  split <;> simp [hd]

@[simp] theorem mem_markCarousel (d : Device) (p) : (d.markCarousel p).mem = d.mem := by simp [Device.markCarousel]

@[simp] theorem enterBoundary {p} (hd : CanonMem d.mem) : CanonMem (d.enterBoundary p).mem := by
  unfold Device.enterBoundary
  dsimp only
  repeat' split
  all_goals simp [hd]

@[simp] theorem mem_abortHook (d : Device) : (Machine.abortHook d).1.mem = d.mem := by simp [Machine.abortHook]

@[simp] theorem runTable {g e i f off} (hd : CanonMem d.mem) : CanonMem (Machine.runTable d g e i f off).mem := by
  simp [Machine.runTable, hd]

@[simp] theorem launchOrRefuse {g hdr n h} (hd : CanonMem d.mem) : CanonMem (d.launchOrRefuse g hdr n h).mem := by
  have h1 (x : Nat) : CanonMem (d.addNum 0x7020 3 x 1).mem := by simp [hd]
  unfold Device.launchOrRefuse
  refine .ite (.same (Device.raise_mem ..) (.endRecord (h1 _))) (.ite ?_ ?_)
  · exact .same (mem_pastDeadline ..) (.endRecord (.recStore (.recStore (h1 _))))
  · exact .same (mem_launch ..) (.recStore (.recStore (h1 _)))

@[simp] theorem mem_redTile (d : Device) (k c i t) : (d.redTile k c i t).1.mem = d.mem := by
  unfold Device.redTile
  split
  · exact mem_of_pair (mem_engTile ..) ‹_›
  · next h => simp [mem_of_pair (mem_engTile ..) h]

@[simp] theorem mem_askRests (d : Device) (m) : (d.askRests m).mem = d.mem := by
  unfold Device.askRests
  split <;> simp

@[simp] theorem writeCodes {m g f h l} (hd : CanonMem d.mem) : CanonMem (d.writeCodes m g f h l).mem := by
  simp [Device.writeCodes, hd]

@[simp] theorem mem_pdRequest (d : Device) (i v src) : (d.pdRequest i v src).1.mem = d.mem := by simp [Device.pdRequest]

theorem writeEscapes {e : Device} {m g f x l r} (he : d.writeEscapes m g f x l = some (e, r)) (hd : CanonMem d.mem) : CanonMem e.mem := by
  unfold Device.writeEscapes at he
  extract_lets cb n t y es words falls need free d1 ow d2 fu d3 at he
  have h1 : CanonMem d1.mem := .ite (by simp [y, hd]) (by simp [y, hd])
  have h2 : CanonMem d2.mem := .ite h1 (.put h1)
  have h3 : CanonMem d3.mem := foldl (fun _ _ hx => .put (by simp [hx])) h2
  split at he
  · cases he
  · obtain ⟨rfl, -⟩ := Prod.mk.inj (Option.some.inj he)
    exact h3

@[simp] theorem mem_noRestorePoint (d : Device) (cause) : (d.noRestorePoint cause).mem = d.mem := by simp [Device.noRestorePoint]

@[simp] theorem mem_loadCarousels (d : Device) (cs) : (d.loadCarousels cs).mem = d.mem := by simp [Device.loadCarousels]

@[simp] theorem mem_hbmLost (d : Device) (h a) : (d.hbmLost h a).mem = d.mem := by simp [Device.hbmLost]

@[simp] theorem mem_pdApplyWaiting (d : Device) (i) : (d.pdApplyWaiting i).mem = d.mem := by
  unfold Device.pdApplyWaiting
  dsimp only
  repeat' split
  all_goals simp

@[simp] theorem harvestCopy {toTier src dst n} (hd : CanonMem d.mem) : CanonMem (d.harvestCopy toTier src dst n).mem := by
  simp [Device.harvestCopy, hd]

@[simp] theorem branch {g t a b imm cmp} (hd : CanonMem d.mem) : CanonMem (Machine.branch d g t a b imm cmp).mem :=
  issue (fun _ _ hx => by simp [hx]) hd

@[simp] theorem mem_cvtTile (d : Device) (k p h codes escs t cb) : (d.cvtTile k p h codes escs t cb).1.mem = d.mem := by
  unfold Device.cvtTile
  dsimp only
  split
  · exact mem_of_pair (mem_engTile ..) ‹_›
  · next h => simp [mem_of_pair (mem_engTile ..) h]

@[simp] theorem publish {k t step l} (hd : CanonMem d.mem) : CanonMem (d.publish k t step l).mem := by
  unfold Device.publish
  extract_lets off a x m sat d1 hist d2 d3 moving mn w e ec d4 win live d5 d6 d7 d8
  have h1 : CanonMem d1.mem := .takeMaxima hd
  have h2 : CanonMem d2.mem := .put h1
  have h3 : CanonMem d3.mem := .ite (by simp [h2]) h2
  have h4 : CanonMem d4.mem := .ite (by simp [h3]) h3
  have h5 : CanonMem d5.mem := .ite (.store (.store h4)) h4
  exact .store (.store (.store (.store h5)))

@[simp] theorem loadImage {base im f} (hd : CanonMem d.mem) : CanonMem (d.loadImage base im f).mem :=
  foldl (fun _ _ hx => .harvestCopy hx) hd

@[simp] theorem atomic {g t rd rs1 imm f} (hd : CanonMem d.mem) : CanonMem (Machine.atomic d g t rd rs1 imm f).mem := by
  refine issue (fun x y hx => ?_) hd
  dsimp only
  split
  · next he => split <;> simp [mem_of_storeBad he, hx]
  · simp [hx]

@[simp] theorem pdCommand {src i v} (hd : CanonMem d.mem) : CanonMem (Machine.pdCommand d src i v).mem := by
  unfold Machine.pdCommand
  split
  · exact viaObject (by simp [hd]) hd
  · simp [hd]

@[simp] theorem mem_wakeUsed (d : Device) : d.wakeUsed.mem = d.mem := by simp [Device.wakeUsed]

@[simp] theorem mem_rotSigns (d : Device) (k handle) : (d.rotSigns k handle).1.mem = d.mem := by
  unfold Device.rotSigns
  split <;> exact mem_of_pair (mem_currentCtx ..) ‹_›

@[simp] theorem loadPlan {f} (hd : CanonMem d.mem) : CanonMem (d.loadPlan f).mem := by
  unfold Device.loadPlan
  dsimp only
  rw [mem_forN _ (by simp), mem_loadCarousels]
  exact foldl (fun _ _ hx => .deferScale hx) (foldl (fun _ _ hx => .setReserve hx)
    (foldl (fun _ _ hx => .put hx) (.same (d := d) (by simp) hd)))

@[simp] theorem mem_readUnit (d : Device) (k c p h codes escs ts) : (d.readUnit k c p h codes escs ts).1.mem = d.mem := by
  simp [Device.readUnit]

@[simp] theorem writeDrain {g e i f o add es tl} (hd : CanonMem d.mem) : CanonMem (d.writeDrain g e i f o add es tl).mem := by
  unfold Device.writeDrain
  extract_lets k fr tg cb d1 d2 d3 d4 d5 p h d6 d7
  have h1 : CanonMem d1.mem := .ite hd (by simp [hd])
  have h2 : CanonMem d2.mem := .ite (by simp [h1]) h1
  have h3 : CanonMem d3.mem := .put h2
  have h4 : CanonMem d4.mem := by simp [d4, h3]
  have h5 : CanonMem d5.mem := .bufferReport h4
  have h6 : CanonMem d6.mem := .ite (by simp [h5]) (by simp [h5])
  have h7 : CanonMem d7.mem := .ite (by simp [h6]) h6
  exact .popEng (by simp [h7])

@[simp] theorem alu {g t rd a b imm op} (hd : CanonMem d.mem) : CanonMem (Machine.alu d g t rd a b imm op).mem :=
  issue (fun _ _ hx => by simp [hx]) hd

@[simp] theorem mem_redInput (d : Device) (k c i) : (d.redInput k c i).1.mem = d.mem := by simp [Device.redInput]

@[simp] theorem maskRun {k c} (hd : CanonMem d.mem) : CanonMem (Machine.maskRun d k c).mem := by
  unfold Machine.maskRun
  dsimp only
  split
  · next h => exact loop (fun _ _ hx => .engPut hx) (.same (mem_of_pair (mem_currentCtx ..) h) hd)
  · next h =>
    rw [mem_endDraw]
    exact loop_fst (fun _ _ hx => .engPut hx) (.same (mem_of_pair (mem_currentCtx ..) h) hd)

@[simp] theorem wakeSpare {i} (hd : CanonMem d.mem) : CanonMem (d.wakeSpare i).mem := by simp [Device.wakeSpare, hd]

@[simp] theorem mem_pickPacket (d : Device) (p fwd loc) : (d.pickPacket p fwd loc).mem = d.mem := by
  unfold Device.pickPacket
  dsimp only
  have hx {x : Device × PktHdr × List Byte} {fwd r f} (h : (d.busyBoundary p).ready p fwd r = some x) :
      (x.1.startPacket p f x.2.1 x.2.2).mem = d.mem :=
    ((mem_startPacket ..).trans (mem_of_ready h)).trans (mem_busyBoundary ..)
  split
  · next hf hl =>
    split
    · exact hx hf
    · exact hx hl
  · next hf _ => exact hx hf
  · next _ hl => exact hx hl
  · exact mem_busyBoundary ..

theorem fillFrame {e : Device} {m g f p hb poison} (he : d.fillFrame m g f p hb poison = some e) (hd : CanonMem d.mem) :
    CanonMem e.mem := by
  unfold Device.fillFrame at he
  extract_lets h d1 fr full l d2 d3 at he
  have h1 : CanonMem d1.mem := .put (.put hd)
  have h2 : CanonMem d2.mem := .ite h1 (by simp [h1])
  have h3 : CanonMem d3.mem := .writeCodes h2
  split at he
  · cases he
    exact h1
  · split at he
    · split at he
      · next hw =>
        cases he
        exact .same (by simp) (.writeEscapes hw h3)
      · cases he
    · cases he
      exact .same (by simp) h3

@[simp] theorem mem_srRound (d : Device) (k u handle tg rm r lane vs) : (d.srRound k u handle tg rm r lane vs).1.mem = d.mem := by
  unfold Device.srRound
  dsimp only
  split
  · rfl
  · split
    · rfl
    · split
      · exact mem_of_pair (mem_currentCtx ..) ‹_›
      · next h => exact (mem_endDraw ..).trans (mem_of_pair (mem_currentCtx ..) h)

@[simp] theorem mem_answerTag (d : Device) (t r left fin err f) : (d.answerTag t r left fin err f).mem = d.mem := by
  simp [Device.answerTag]

@[simp] theorem tryRelease (hd : CanonMem d.mem) : CanonMem d.tryRelease.mem := by
  unfold Device.tryRelease
  split <;> simp [hd]

@[simp] theorem runAcc {g e i f da db} (hd : CanonMem d.mem) : CanonMem (d.runAcc g e i f da db).mem := by
  unfold Device.runAcc
  dsimp only
  repeat' split
  all_goals simp [hd]

@[simp] theorem vecReduce {g t f op} (hd : CanonMem d.mem) : CanonMem (Machine.vecReduce d g t f op).mem := by
  refine issue (fun x y hx => ?_) hd
  dsimp only
  split
  · simp [hx]
  · split <;> simp [hx]

@[simp] theorem copyImage {base im f} (hd : CanonMem d.mem) : CanonMem (d.copyImage base im f).mem :=
  foldl (fun _ _ hx => .harvestCopy hx) (.harvestFill hd)

@[simp] theorem loadStore {g t rd off ecc} (hd : CanonMem d.mem) : CanonMem (Machine.loadStore d g t rd off ecc).mem := by
  unfold Machine.loadStore
  split
  · next he => split <;> simp [mem_of_storeBad he, hd]
  · simp [hd]

@[simp] theorem mem_loadFailed (d : Device) (r) : (Machine.loadFailed d r).mem = d.mem := by
  unfold Machine.loadFailed
  dsimp only
  repeat' split
  all_goals simp

@[simp] theorem substCore {g} (hd : CanonMem d.mem) : CanonMem (d.substCore g).mem := by
  unfold Device.substCore
  dsimp only
  split <;> simp [hd]

@[simp] theorem settleVerdicts (hd : CanonMem d.mem) : CanonMem d.settleVerdicts.mem := by
  unfold Device.settleVerdicts
  split
  · split
    · simp [hd]
    · exact .ite hd (.ite (by simp [hd]) (.tryRelease hd))
  · exact hd

@[simp] theorem vecWrite {g cls handle tg rm off vs} (hd : CanonMem d.mem) :
    CanonMem (Machine.vecWrite d g cls handle tg rm off vs).mem := by
  simp [Machine.vecWrite, hd]

@[simp] theorem pollLoop {g l hdr n} (hd : CanonMem d.mem) : CanonMem (Device.pollLoop g l hdr n d).mem := by
  induction n generalizing d with
  | zero => exact hd
  | succ n ih =>
    unfold Device.pollLoop
    extract_lets k x r e b nb
    have he : CanonMem e.mem := .ite (by simp [hd]) hd
    exact .ite hd (.ite (by simp [he]) (.ite (by simp [he]) (ih (.launchOrRefuse (.store he)))))

@[simp] theorem mem_arriveBytes (d : Device) (t r data last err) : (d.arriveBytes t r data last err).mem = d.mem := by
  simp [Device.arriveBytes]

@[simp] theorem mem_redFinite (d : Device) (k c) : (d.redFinite k c).1.mem = d.mem := by simp [Device.redFinite]

@[simp] theorem substCluster {k} (hd : CanonMem d.mem) : CanonMem (d.substCluster k).mem := by
  unfold Device.substCluster
  dsimp only
  split
  · rw [Device.raise_mem, mem_recountUnits, Device.setNum_mem]
    exact foldl (fun _ _ hx => by simp [hx]) (.wakeSpare (foldl (fun _ _ hx => .loseAll (by simp [hx])) (by simp [hd])))
  · rw [mem_spreadWork]
    refine .loseAll ?_
    rw [mem_pdPut, Device.setNum_mem]
    exact foldl (fun _ _ hx => .loseAll (by simp [hx])) hd

@[simp] theorem encodeTile {k c l t r} (hd : CanonMem d.mem) : CanonMem (d.encodeTile k c l t r).1.mem := by
  unfold Device.encodeTile
  extract_lets width cb n uns tg q mx loc y e0 x d1 enc isFall nC bOf maxima ebs zp sh vs rm rb subs tl d2 pl blk h d3 d4 d5 d6
  have h1 : CanonMem d1.mem := by
    dsimp only [d1, x]
    split
    · exact loop_fst (fun _ _ hx => .escSub hx) hd
    · exact hd
  have h2 : CanonMem d2.mem := by
    refine loop_fst (fun x s hx => ?_) h1
    dsimp only
    split
    · exact .ownPut (by simp [hx])
    · simp [hx]
  have h3 : CanonMem d3.mem := .engPut h2
  have h4 : CanonMem d4.mem := .ite (.put h3) h3
  have h5 : CanonMem d5.mem := .ite (.put h4) h4
  show CanonMem d6.mem
  dsimp only [d6]
  split
  · split <;> simp [h5]
  · exact h5

@[simp] theorem runDrain {g e i f o add handle l since late} (hd : CanonMem d.mem) :
    CanonMem (d.runDrain g e i f o add handle l since late).mem := by
  unfold Device.runDrain
  refine .ite hd (.ite (by simp [hd]) (.ite (.ite (by simp [hd]) (by simp [hd])) (.ite (.popEng (by simp [hd])) (.ite (by simp [hd]) ?_))))
  dsimp only
  split
  · next h => exact .same (mem_of_pair (mem_drainRound ..) h) hd
  · next h => exact .ite (by simp [hd]) (.writeDrain (.same (mem_of_pair (mem_drainRound ..) h) hd))

@[simp] theorem mem_failBytes (d : Device) (t r) : (d.failBytes t r).mem = d.mem := by simp [Device.failBytes]

@[simp] theorem wupdWrite {g f x} (hd : CanonMem d.mem) : CanonMem (Machine.wupdWrite d g f x).mem := by
  simp [Machine.wupdWrite, hd]

@[simp] theorem redSum {k c} (hd : CanonMem d.mem) : CanonMem (d.redSum k c).mem := by
  unfold Device.redSum
  extract_lets r d1 sc lz n us vs tg pair os tl tl' cb eo d2
  have h1 : CanonMem d1.mem := .same (mem_forN_fst _ (by simp) _ _) hd
  have h2 : CanonMem d2.mem := loop (fun _ _ hx => .engPut hx) h1
  exact .reportLine (by simp [h2])

theorem settleTile {e : Device} {m x fl g f} (he : d.settleTile m x fl g f = some e) (hd : CanonMem d.mem) : CanonMem e.mem := by
  unfold Device.settleTile at he
  dsimp only at he
  have hmap {o : Option Device} {c ua ui} {a b : Device → Nat} (h : o.map (fun d => d.raise c ua ui (a d) (b d)) = some e)
      (ho : ∀ y, o = some y → CanonMem y.mem) : CanonMem e.mem := by
    obtain ⟨y, hy, rfl⟩ := Option.map_eq_some_iff.1 h
    simp [ho y hy]
  split at he
  · split at he <;> exact .fillFrame he hd
  all_goals exact hmap he fun _ hy => .fillFrame hy hd

@[simp] theorem admitPlan {im h f slack} (hd : CanonMem d.mem) : CanonMem (d.admitPlan im h f slack).mem := by
  have h1 {x : Device} (hx : CanonMem x.mem) : CanonMem (forN 4 x fun x i => x.applyMargin i true).mem :=
    loop (fun _ _ hx => by simp [hx]) hx
  have h2 {x : Device} {b} (hx : CanonMem x.mem) :
      CanonMem (((((x.startRun).setNum 0x1300 3 0 3).setRun 2).addNum 0x1303 1 0 1).setDom 0x1300 6 0 b).mem := by simp [hx]
  have h3 {x : Device} (hx : CanonMem x.mem) : CanonMem (forN 4 x fun x s => x.setNum 0x1302 (s + 1) 0 (slack.getD s 0)).mem :=
    loop (fun _ _ hx => by simp [hx]) hx
  have h4 {x : Device} {a v} (hx : CanonMem x.mem) : CanonMem (Device.reportBackward (x.setNum 0x1302 5 0 a) v).mem := by simp [hx]
  have h5 {x : Device} {a b c e} (hx : CanonMem x.mem) :
      CanonMem ((((x.setNum 0x1210 1 0 a).setNum 0x1210 2 0 b).setNum 0x1210 3 0 c).setNum 0x1210 4 0 e).mem := by simp [hx]
  have h6 {x : Device} {a b c e} (hx : CanonMem x.mem) :
      CanonMem ((((x.setNum 0x1200 4 0 a).setNum 0x1200 1 0 b).setNum 0x1200 3 0 c).setNum 0x1B00 2 0 e).mem := by simp [hx]
  have h7 {x : Device} {a b} (hx : CanonMem x.mem) : CanonMem ({ x with adm := a, cad := b }).mem := hx
  have h8 {x : Device} (hx : CanonMem x.mem) : CanonMem (forN 4 x.recomputeTree.wakeUsed Device.raiseFloor).mem :=
    loop (fun _ _ hx => by simp [hx]) (by simp [hx])
  have h9 {x : Device} {v} (hx : CanonMem x.mem) : CanonMem (x.send v).mem := by simp [hx]
  exact .ite (.settleVerdicts (h8 (withCad (h7 (h6 (h5 (h4 (h3 (h2 (h1 (withDict hd)))))))))))
    (h9 (h8 (withCad (h7 (h6 (h5 (h4 (h3 (h2 (h1 (withDict hd)))))))))))

theorem passTile {se e g f g' f'} {fin : Device → Device} (hf : ∀ x, CanonMem x.mem → CanonMem (fin x).mem) (hd : CanonMem d.mem) :
    CanonMem (Machine.passTile d se e g f g' f' fin).mem := by
  unfold Machine.passTile
  dsimp only
  split
  · simp only [Device.modClu_mem]
    split <;> simp [hd]
  · split
    · simp [hd]
    · next y he =>
      have hy : CanonMem y.mem := by
        split at he
        · exact .fillFrame he hd
        · exact .settleTile he hd
      exact hf _ (by simp [hy])

@[simp] theorem substitute (hd : CanonMem d.mem) : CanonMem d.substitute.mem :=
  foldl (fun _ _ hx => .ite (.substCluster hx) (.substCore hx)) hd

@[simp] theorem encodeUnit {k c l ts r tl} (hd : CanonMem d.mem) : CanonMem (d.encodeUnit k c l ts r tl).1.mem :=
  foldl_fst (fun _ _ hx => .encodeTile hx) hd

@[simp] theorem pollList {g l} (hd : CanonMem d.mem) : CanonMem (d.pollList g l).mem := by
  unfold Device.pollList
  dsimp only
  repeat' split
  all_goals simp [hd]

@[simp] theorem redSumsq {k c} (hd : CanonMem d.mem) : CanonMem (d.redSumsq k c).mem := by simp [Device.redSumsq, hd]

@[simp] theorem vecOp {g t f ny nw op} (hd : CanonMem d.mem) : CanonMem (Machine.vecOp d g t f ny nw op).mem :=
  .ite (by simp [hd]) (issue (fun _ _ hx => .ite (by simp [hx]) (.ite (by simp [hx]) (by simp [hx]))) hd)

@[simp] theorem wupdOp {g t f} (hd : CanonMem d.mem) : CanonMem (Machine.wupdOp d g t f).mem :=
  .ite (by simp [hd]) (issue (fun _ _ hx => .ite (by simp [hx]) (.ite (by simp [hx]) (by simp [hx]))) hd)

@[simp] theorem deliver {m refetch} (hd : CanonMem d.mem) : CanonMem (d.deliver m refetch).mem := by
  unfold Device.deliver
  split
  · exact hd
  · split
    · exact hd
    · split
      · exact hd
      · split
        · simp [hd]
        · exact hd
        · split
          · exact .ite (by simp [hd]) (by simp [hd])
          · dsimp only
            split
            · simp only [Device.modClu_mem]
              split <;> simp [hd]
            · split
              · next he => simp [settleTile he hd]
              · simp [hd]

@[simp] theorem redMaxabs {k c} (hd : CanonMem d.mem) : CanonMem (d.redMaxabs k c).mem := by simp [Device.redMaxabs, hd]

@[simp] theorem carouselPass {se} (hd : CanonMem d.mem) : CanonMem (Machine.carouselPass d se).mem := by
  unfold Machine.carouselPass
  split
  · split
    · dsimp only
      split
      · exact hd
      · split
        · refine .ite hd (.ite (by simp [hd]) (.ite hd (.passTile (fun x hx => ?_) hd)))
          simp [hx]
        · simp [hd]
    · exact hd
  · exact hd

@[simp] theorem convert {k c l} (hd : CanonMem d.mem) : CanonMem (d.convert k c l).mem := by
  unfold Device.convert
  extract_lets loc inTab d1 sg d2 xs ys zs r d3 d4
  have h1 : CanonMem d1.mem := .ite (.store (.store hd)) hd
  have hs : CanonMem sg.1.mem := by
    dsimp only [sg]
    split
    · exact h1
    · simp [h1]
  have h2 : CanonMem d2.mem := .ite (by simp [hs]) hs
  have hr : CanonMem r.1.mem := by
    refine loop_fst (fun x u hx => .encodeUnit ?_) h2
    split <;> split <;> simp [hx]
  have h4 : CanonMem d4.mem := .reportLine (by simp [d3, hr])
  exact .ite h4 (by simp [h4])

@[simp] theorem passStamps {lo hi} (hd : CanonMem d.mem) : CanonMem (d.passStamps lo hi).mem := by
  refine .ite hd (foldl (fun x y hx => ?_) hd)
  split <;> simp [hx]

@[simp] theorem admitNew {im f slack} (hd : CanonMem d.mem) : CanonMem (Machine.admitNew d im f slack).mem := by
  unfold Machine.admitNew
  split
  · exact .admitPlan (.loadPlan hd)
  · split
    · rw [mem_reExport]
      exact .admitPlan (.loadSpread (.loadPlan (by simp [hd])))
    · exact .admitPlan (.loadPlan hd)

@[simp] theorem beginRestore {point cause} (hd : CanonMem d.mem) : CanonMem (d.beginRestore point cause).mem := by
  have h1 {x : Device} {y} (hx : CanonMem x.mem) : CanonMem ((x.freeRun.loseContexts).setNum 0x1502 5 0 y).mem := by simp [hx]
  have h2 {x : Device} (hx : CanonMem x.mem) : CanonMem (if x.runState = 2 ∨ x.runState = 3 then x.abortRun 0x8006 else x).mem :=
    .ite (by simp [hx]) hx
  have h3 {x : Device} (hx : CanonMem x.mem) : CanonMem x.takeNumber.mem := by simp [hx]
  have h4 {x : Device} (hx : CanonMem x.mem) : CanonMem (if x.memberGone then x.setNum 0x1500 6 0 1 else x).mem :=
    .ite (by simp [hx]) hx
  exact withHv (.substitute (h4 (h3 (h2 (h1 hd)))))

@[simp] theorem masterRestore {limit cause} (hd : CanonMem d.mem) : CanonMem (d.masterRestore limit cause).mem := by
  unfold Device.masterRestore
  split <;> simp [hd]

@[simp] theorem cvtRun {k op} (hd : CanonMem d.mem) : CanonMem (Machine.cvtRun d k op).mem := by
  unfold Machine.cvtRun
  split
  · exact hd
  · refine .ite hd (.ite (by simp [hd]) (.ite hd (.ite (by simp [hd]) (.ite (by simp [hd]) ?_))))
    dsimp only
    split
    · exact .same (mem_of_firstReads ‹_›) hd
    · simp [hd]

@[simp] theorem passOn {n a} (hd : CanonMem d.mem) : CanonMem (Device.passOn n d a).mem := by
  induction n generalizing d a with
  | zero => exact hd
  | succ n ih =>
    have h1 {b c} : CanonMem (d.passStamps b c).mem := .passStamps hd
    exact .ite (.ite (withCad h1) (withCad h1)) (.ite (ih (.passStamps (.enterBoundary h1))) (.enterBoundary h1))

@[simp] theorem hvRestore {v dev} (hd : CanonMem d.mem) : CanonMem (Machine.hvRestore v dev d).mem := by
  unfold Machine.hvRestore
  dsimp only
  repeat' split
  all_goals simp [hd]

@[simp] theorem firmwareHook {dev sub v} (hd : CanonMem d.mem) : CanonMem (Machine.firmwareHook dev sub v d).1.mem := by
  unfold Machine.firmwareHook
  repeat' split
  all_goals simp [hd]

@[simp] theorem moveOn {r} (hd : CanonMem d.mem) : CanonMem (d.moveOn r).mem := by simp [Device.moveOn, hd]

@[simp] theorem correct {step phase} (hd : CanonMem d.mem) : CanonMem (Machine.correct d step phase).mem := by
  unfold Machine.correct
  dsimp only
  repeat' split
  all_goals simp [hd]

@[simp] theorem scalarHook {c idx sub inst data} (hd : CanonMem d.mem) : CanonMem (Machine.scalarHook c idx sub inst data d).1.mem := by
  unfold Machine.scalarHook
  dsimp only
  repeat' split
  all_goals simp [hd]

@[simp] theorem writeItem {c w} (hd : CanonMem d.mem) : CanonMem (Machine.writeItem c w d).1.mem := by
  simp [Machine.writeItem, hd]

@[simp] theorem receiveWord {port bits} (hd : CanonMem d.mem) : CanonMem (Machine.receiveWord d port bits).mem := by
  unfold Machine.receiveWord
  refine .ite hd ?_
  extract_lets w m parent d1 first cad d2 d3 d4 off d5 d6
  have h1 : CanonMem d1.mem := by simp [d1, hd]
  have h2 : CanonMem d2.mem := h1
  have h4 : CanonMem d4.mem := by simp [d4, d3, h2]
  have h5 : CanonMem d5.mem := .ite (by simp [h4]) h4
  have h6 : CanonMem d6.mem := .ite (by simp [h4]) h4
  exact .ite hd (.ite (by simp [hd]) (.ite (.ite h4 (.moveOn h5)) (.correct h6)))

@[simp] theorem doWrite {c atomic items} (hd : CanonMem d.mem) : CanonMem (d.doWrite c atomic items).1.mem := by
  unfold Device.doWrite
  dsimp only
  split
  · exact hd
  · exact foldl_fst (fun _ _ hx => .writeItem hx) hd

theorem readmit {im f} {load : Device → Device} (hf : ∀ x, CanonMem x.mem → CanonMem (load x).mem) (hd : CanonMem d.mem) :
    CanonMem (d.readmit im f load).mem := by
  unfold Device.readmit
  split
  · simp [hd]
  · rw [mem_reExport]
    exact .admitPlan (hf _ (.loadPlan hd))

@[simp] theorem runReq {x h req} (hd : CanonMem d.mem) : CanonMem (d.runReq x h req).1.mem := by
  unfold Device.runReq
  split <;> simp [hd]

@[simp] theorem execReq {x h req} (hd : CanonMem d.mem) : CanonMem (d.execReq x h req).mem := by simp [Device.execReq, hd]

@[simp] theorem proxyWindow {x h req} (hd : CanonMem d.mem) : CanonMem (d.proxyWindow x h req).mem := by
  unfold Device.proxyWindow
  dsimp only
  split <;> simp [hd]

@[simp] theorem turn {x h req} (hd : CanonMem d.mem) : CanonMem (d.turn x h req).mem := by simp [Device.turn, hd]

@[simp] theorem peerFrame {src ceiling h req} (hd : CanonMem d.mem) : CanonMem (d.peerFrame src ceiling h req).mem := by
  unfold Device.peerFrame
  dsimp only
  repeat' split
  all_goals simp [hd]

@[simp] theorem drain {n a} (hd : CanonMem d.mem) : CanonMem (Device.drain n d a).mem := by
  induction n generalizing d with
  | zero => exact hd
  | succ n ih =>
    unfold Device.drain
    split
    · exact hd
    · split
      · exact hd
      · exact ih (.turn (by simp [hd]))

@[simp] theorem window {x h req} (hd : CanonMem d.mem) : CanonMem (d.window x h req).mem := by
  unfold Device.window
  dsimp only
  repeat' split
  all_goals simp [hd]

@[simp] theorem dapFrame {h req} (hd : CanonMem d.mem) : CanonMem (d.dapFrame h req).mem := by
  unfold Device.dapFrame
  refine .ite hd (.ite (by simp [hd]) ?_)
  split
  · simp [hd]
  · split
    · exact .ite (.window hd) (by simp [hd])
    · simp [hd]

@[simp] theorem frameBytes {link b} (hd : CanonMem d.mem) : CanonMem (d.frameBytes link b).mem := by
  unfold Device.frameBytes
  dsimp only
  repeat' split
  all_goals simp [hd]

@[simp] theorem fragment {src n first last ceiling body} (hd : CanonMem d.mem) :
    CanonMem (Machine.fragment d src n first last ceiling body).mem := by
  unfold Machine.fragment
  dsimp only
  repeat' split
  all_goals simp [hd]

end

end Sys2Proof.Machine.CanonMem

/-! PROOFS. Memory keeps its canonical form: the commands. -/

namespace Sys2Proof.Machine

/-- The canonical form as a fact about the whole device. -/
def HasForm (d : Device) : Prop := CanonMem d.mem

@[simp] theorem hasForm_iff (d : Device) : HasForm d ↔ CanonMem d.mem := Iff.rfl

namespace HasForm

variable {d e : Device}

theorem ite {c : Prop} [Decidable c] (hd : HasForm d) (he : HasForm e) : HasForm (if c then d else e) := CanonMem.ite hd he

theorem loop {f : Device → Nat → Device} {n : Nat} (h : ∀ x a, CanonMem x.mem → HasForm (f x a)) (hd : CanonMem d.mem) :
    HasForm (forN n d f) := CanonMem.loop h hd

end HasForm

/-- What a state becomes keeps the canonical form of its memory. -/
def KeepsForm (s : State) (o : Out) : Prop := CanonMem s.dev.mem → ∀ t, o = .next t → CanonMem t.dev.mem

namespace KeepsForm

variable {s : State} {hits : Hits}

section
variable {f : Device → Device}

theorem run (h : ∀ d, CanonMem d.mem → HasForm (f d)) : KeepsForm s (s.run f) := fun hs t ht => by
  cases ht
  exact h _ hs

theorem runHits (h : ∀ d, CanonMem d.mem → HasForm (f d)) : KeepsForm s (s.runHits hits f) := run fun _ hd => h _ (.sramHits hd)

theorem issueHits {g t : Nat} (h : ∀ d, CanonMem d.mem → HasForm (f d)) : KeepsForm s (s.issueHits g t hits f) :=
  run fun _ hd => h _ (.ite (.sramHits hd) hd)

end

section
variable {f : Device → Thread → Device} {g t : Nat}

theorem thread (h : ∀ d x, CanonMem d.mem → HasForm (f d x)) : KeepsForm s (s.run fun d => d.issue g t f) := run fun _ hd => .issue h hd

theorem threadHits (h : ∀ d x, CanonMem d.mem → HasForm (f d x)) : KeepsForm s (s.issueHits g t hits fun d => d.issue g t f) :=
  issueHits fun _ hd => .issue h hd

end

section
variable {f : Device → SqS → Device} {q : Nat}

theorem seq (h : ∀ d x, CanonMem d.mem → HasForm (f d x)) : KeepsForm s (s.run fun d => d.seqIssue q f) :=
  run fun _ hd => .seqIssue h hd

theorem seqHits (h : ∀ d x, CanonMem d.mem → HasForm (f d x)) : KeepsForm s (s.run fun d => (d.seqHits q hits).seqIssue q f) :=
  run fun _ hd => .seqIssue h (.seqHits hd)

end

theorem mask {k : Cluster} {rd ra : Reg} {op : MaskOp} {f : Device → MaskJobDesc → Device}
    (h : ∀ d c, CanonMem d.mem → HasForm (f d c)) :
    KeepsForm s (s.run fun d => (d.seqHits (maskSq k) hits).maskOp k rd ra op f) := run fun _ hd => .maskOp h (.seqHits hd)

section
variable {c : Conn} {idx sub inst v : Nat} {hook : Device → Device × Nat}

theorem object (h : ∀ d, CanonMem d.mem → HasForm (hook d).1) : KeepsForm s (s.run fun d => d.viaObject c idx sub inst v hook) :=
  run fun _ hd => .viaObject (h _ hd) hd

theorem domain (h : ∀ d, CanonMem d.mem → HasForm (hook d).1) : KeepsForm s (s.run fun d => d.viaDomain c idx sub hook) :=
  run fun _ hd => .viaDomain (h _ hd) hd

end

end KeepsForm

end Sys2Proof.Machine

/-! PROOFS. Memory keeps its canonical form: every command and every step. -/

namespace Sys2Proof.Machine

namespace KeepsForm

open CanonMem

variable {s : State}

/-! ### Scalar commands -/

theorem execMovi {g t rd imm} : KeepsForm s (Machine.execMovi g t rd imm s) := .thread fun _ _ hd => by simp [hd]

theorem execMovhi {g t rd imm} : KeepsForm s (Machine.execMovhi g t rd imm s) := .thread fun _ _ hd => by simp [hd]

theorem execAdd {g t rd rs1 rs2 imm} : KeepsForm s (Machine.execAdd g t rd rs1 rs2 imm s) := .run fun _ hd => by simp [hd]

theorem execSub {g t rd rs1 rs2 imm} : KeepsForm s (Machine.execSub g t rd rs1 rs2 imm s) := .run fun _ hd => by simp [hd]

theorem execAndB {g t rd rs1 rs2 imm} : KeepsForm s (Machine.execAndB g t rd rs1 rs2 imm s) := .run fun _ hd => by simp [hd]

theorem execOrB {g t rd rs1 rs2 imm} : KeepsForm s (Machine.execOrB g t rd rs1 rs2 imm s) := .run fun _ hd => by simp [hd]

theorem execXorB {g t rd rs1 rs2 imm} : KeepsForm s (Machine.execXorB g t rd rs1 rs2 imm s) := .run fun _ hd => by simp [hd]

theorem execShl {g t rd rs1 rs2 imm} : KeepsForm s (Machine.execShl g t rd rs1 rs2 imm s) := .run fun _ hd => by simp [hd]

theorem execShr {g t rd rs1 rs2 imm} : KeepsForm s (Machine.execShr g t rd rs1 rs2 imm s) := .run fun _ hd => by simp [hd]

theorem execSra {g t rd rs1 rs2 imm} : KeepsForm s (Machine.execSra g t rd rs1 rs2 imm s) := .run fun _ hd => by simp [hd]

theorem execMul {g t rd rs1 rs2 imm} : KeepsForm s (Machine.execMul g t rd rs1 rs2 imm s) := .thread fun _ _ hd => by simp [hd]

theorem execLdl {g t rd rs1 imm ecc} : KeepsForm s (Machine.execLdl g t rd rs1 imm ecc s) := .thread fun _ _ hd => by simp [hd]

theorem execStl {g t rs1 rs2 imm} : KeepsForm s (Machine.execStl g t rs1 rs2 imm s) := .thread fun _ _ hd => by simp [hd]

theorem execLdc {g t rd rs1 imm ecc} : KeepsForm s (Machine.execLdc g t rd rs1 imm ecc s) := .thread fun _ _ hd => by simp [hd]

theorem execStc {g t rs1 rs2 imm} : KeepsForm s (Machine.execStc g t rs1 rs2 imm s) := .thread fun _ _ hd => by
  dsimp only
  split
  · next h => simp [mem_of_storeBad h, hd]
  · simp [hd]

theorem execTld {g t rs1 rs2 imm} : KeepsForm s (Machine.execTld g t rs1 rs2 imm s) := .thread fun _ _ hd => by simp [hd]

theorem execTst {g t rs1 rs2 imm} : KeepsForm s (Machine.execTst g t rs1 rs2 imm s) := .thread fun _ _ hd => by simp [hd]

theorem execFrel {g t rs1 imm} : KeepsForm s (Machine.execFrel g t rs1 imm s) := .thread fun _ _ hd => by simp [hd]

theorem execSetstr {g t rs1} : KeepsForm s (Machine.execSetstr g t rs1 s) := .thread fun _ _ hd => by simp [hd]

theorem execRdph {g t rd} : KeepsForm s (Machine.execRdph g t rd s) := .thread fun _ _ hd => by simp [hd]

theorem execRdid {g t rd} : KeepsForm s (Machine.execRdid g t rd s) := .thread fun _ _ hd => by simp [hd]

/-! ### Jumps and the end of a thread -/

theorem execJ {g t imm} : KeepsForm s (Machine.execJ g t imm s) := .thread fun _ _ hd => by simp [hd]

theorem execBeq {g t rs1 rs2 imm} : KeepsForm s (Machine.execBeq g t rs1 rs2 imm s) := .run fun _ hd => by simp [hd]

theorem execBne {g t rs1 rs2 imm} : KeepsForm s (Machine.execBne g t rs1 rs2 imm s) := .run fun _ hd => by simp [hd]

theorem execBltu {g t rs1 rs2 imm} : KeepsForm s (Machine.execBltu g t rs1 rs2 imm s) := .run fun _ hd => by simp [hd]

theorem execBgeu {g t rs1 rs2 imm} : KeepsForm s (Machine.execBgeu g t rs1 rs2 imm s) := .run fun _ hd => by simp [hd]

theorem execBlt {g t rs1 rs2 imm} : KeepsForm s (Machine.execBlt g t rs1 rs2 imm s) := .run fun _ hd => by simp [hd]

theorem execBge {g t rs1 rs2 imm} : KeepsForm s (Machine.execBge g t rs1 rs2 imm s) := .run fun _ hd => by simp [hd]

theorem execLoop {g t rd imm} : KeepsForm s (Machine.execLoop g t rd imm s) := .thread fun _ _ hd => by simp [hd]

theorem execHalt {g t} : KeepsForm s (Machine.execHalt g t s) := .thread fun _ _ hd => by simp [hd]

/-! ### Sync commands and atomics -/

theorem execWait {g t rs1 imm} : KeepsForm s (Machine.execWait g t rs1 imm s) := .thread fun _ _ hd => by simp [hd]

theorem execSig {g t imm} : KeepsForm s (Machine.execSig g t imm s) := .thread fun _ _ hd => by simp [hd]

theorem execBar {g t} : KeepsForm s (Machine.execBar g t s) := .thread fun _ _ hd => by simp [hd]

theorem execFence {g t} : KeepsForm s (Machine.execFence g t s) := .thread fun _ _ hd => by simp [hd]

theorem execAadd {g t rd rs1 rs2 imm hits} : KeepsForm s (Machine.execAadd g t rd rs1 rs2 imm hits s) := .issueHits fun _ hd => by simp [hd]

theorem execAcas {g t rd rs1 rs2 imm hits} : KeepsForm s (Machine.execAcas g t rd rs1 rs2 imm hits s) := .issueHits fun _ hd => by simp [hd]

theorem execAmax {g t rd rs1 rs2 imm hits} : KeepsForm s (Machine.execAmax g t rd rs1 rs2 imm hits s) := .issueHits fun _ hd => by simp [hd]

theorem execWatch {g t rs1 rs2 hits} : KeepsForm s (Machine.execWatch g t rs1 rs2 hits s) := .threadHits fun _ _ hd => by
  dsimp only
  split
  · next h => simp [mem_of_storeBad h, hd]
  · simp [hd]

theorem execWaitph {g t rs1} : KeepsForm s (Machine.execWaitph g t rs1 s) := .thread fun _ _ hd => by simp [hd]

theorem execReservedInstruction {g t} : KeepsForm s (Machine.execReservedInstruction g t s) := .thread fun _ _ hd => by simp [hd]

/-! ### Matrix engine commands -/

theorem execAccumulate {g t f} : KeepsForm s (Machine.execAccumulate g t f s) := .thread fun _ _ hd => by simp [hd]

theorem execDrain {g t f hits} : KeepsForm s (Machine.execDrain g t f hits s) := .threadHits fun _ _ hd => by simp [hd]

theorem execTableLoad {g t f} : KeepsForm s (Machine.execTableLoad g t f s) := .thread fun _ _ hd => by simp [hd]

/-! ### Vector commands -/

theorem execVadd {g t f hits} : KeepsForm s (Machine.execVadd g t f hits s) := .issueHits fun _ hd => by simp [hd]

theorem execVsub {g t f hits} : KeepsForm s (Machine.execVsub g t f hits s) := .issueHits fun _ hd => by simp [hd]

theorem execVmul {g t f hits} : KeepsForm s (Machine.execVmul g t f hits s) := .issueHits fun _ hd => by simp [hd]

theorem execVfma {g t f hits} : KeepsForm s (Machine.execVfma g t f hits s) := .issueHits fun _ hd => by simp [hd]

theorem execVmax {g t f hits} : KeepsForm s (Machine.execVmax g t f hits s) := .issueHits fun _ hd => by simp [hd]

theorem execVmin {g t f hits} : KeepsForm s (Machine.execVmin g t f hits s) := .issueHits fun _ hd => by simp [hd]

theorem execVabs {g t f hits} : KeepsForm s (Machine.execVabs g t f hits s) := .issueHits fun _ hd => by simp [hd]

theorem execVexp2 {g t f hits} : KeepsForm s (Machine.execVexp2 g t f hits s) := .issueHits fun _ hd => by simp [hd]

theorem execVlog2 {g t f hits} : KeepsForm s (Machine.execVlog2 g t f hits s) := .issueHits fun _ hd => by simp [hd]

theorem execVrcp {g t f hits} : KeepsForm s (Machine.execVrcp g t f hits s) := .issueHits fun _ hd => by simp [hd]

theorem execVrsq {g t f hits} : KeepsForm s (Machine.execVrsq g t f hits s) := .issueHits fun _ hd => by simp [hd]

theorem execVrsum {g t f hits} : KeepsForm s (Machine.execVrsum g t f hits s) := .issueHits fun _ hd => by simp [hd]

theorem execVrmax {g t f hits} : KeepsForm s (Machine.execVrmax g t f hits s) := .issueHits fun _ hd => by simp [hd]

theorem execWupd {g t f hits} : KeepsForm s (Machine.execWupd g t f hits s) := .issueHits fun _ hd => by simp [hd]

/-! ### Events of the cores -/

theorem execQueueEntryFreed {g t} : KeepsForm s (Machine.execQueueEntryFreed g t s) := .run fun _ hd => by
  split <;> simp [hd]

theorem execWaitSyncSatisfied {g t} : KeepsForm s (Machine.execWaitSyncSatisfied g t s) := .run fun _ hd => by
  split <;> simp [hd]

theorem execFenceComplete {g t} : KeepsForm s (Machine.execFenceComplete g t s) := .run fun _ hd => by
  split <;> simp [hd]

theorem execBarrierRelease {g grp} : KeepsForm s (Machine.execBarrierRelease g grp s) := .run fun _ hd => by simp [hd]

theorem execPhaseStampReached {g} : KeepsForm s (Machine.execPhaseStampReached g s) := .run fun _ hd => .loop (fun _ _ hx => by
  split
  · exact .ite (by simp [hx]) hx
  · exact hx) hd

theorem execWatchWake {g t hits} : KeepsForm s (Machine.execWatchWake g t hits s) := .runHits fun _ hd => by
  split <;> simp [hd]

theorem execAccumulateComplete {g e hits} : KeepsForm s (Machine.execAccumulateComplete g e hits s) := .runHits fun _ hd => by
  split <;> simp [hd]

theorem execDrainComplete {g e hits} : KeepsForm s (Machine.execDrainComplete g e hits s) := .runHits fun _ hd => by
  split <;> simp [hd]

theorem execTableLoadComplete {g e hits} : KeepsForm s (Machine.execTableLoadComplete g e hits s) := .runHits fun _ hd => by
  split <;> simp [hd]

theorem execScaleLineWritten {k tsid hits} : KeepsForm s (Machine.execScaleLineWritten k tsid hits s) := .runHits fun _ hd => by simp [hd]

theorem execScaleWaitLimit {w} : KeepsForm s (Machine.execScaleWaitLimit w s) := .run fun _ hd => by
  split
  · split
    · exact .ite (by simp [hd]) hd
    · exact hd
  · split
    · exact .ite (by simp [hd]) hd
    · exact hd

theorem execScaleReportFlush {g e tsid} : KeepsForm s (Machine.execScaleReportFlush g e tsid s) := .run fun _ hd => by
  dsimp only
  split
  · exact .reportLine hd
  · exact hd

theorem execWorkListPoll {g l hits} : KeepsForm s (Machine.execWorkListPoll g l hits s) := .runHits fun _ hd => by simp [hd]

theorem execLaunchGroupComplete {g grp hits} : KeepsForm s (Machine.execLaunchGroupComplete g grp hits s) :=
  .runHits fun _ hd => by simp [hd]

theorem execCoreHangLimit {g t} : KeepsForm s (Machine.execCoreHangLimit g t s) := .run fun _ hd => by simp [hd]

theorem execFrameRelease {g f} : KeepsForm s (Machine.execFrameRelease g f s) := .run fun _ hd => by simp [hd]

/-! ### Stream engines and movers -/

theorem execTmove {se ra hits} : KeepsForm s (Machine.execTmove se ra hits s) := .seqHits fun _ _ hd => by simp [hd]

theorem execBmove {se ra rb hits} : KeepsForm s (Machine.execBmove se ra rb hits s) := .seqHits fun _ _ hd => by simp [hd]

theorem execQwait {se} : KeepsForm s (Machine.execQwait se s) := .seq fun _ _ hd => by simp [hd]

theorem execPass {se ra rb drop} : KeepsForm s (Machine.execPass se ra rb drop s) := .seq fun _ _ hd => by simp [hd]

theorem execMoverSourceRead {m hits} : KeepsForm s (Machine.execMoverSourceRead m hits s) := .runHits fun _ hd => by simp [hd]

theorem execTileDeliveryComplete {m hits} : KeepsForm s (Machine.execTileDeliveryComplete m hits s) := .runHits fun _ hd => by simp [hd]

theorem execTileRefetchComplete {m hits} : KeepsForm s (Machine.execTileRefetchComplete m hits s) := .runHits fun _ hd => by simp [hd]

theorem execCarouselPassExecute {se hits} : KeepsForm s (Machine.execCarouselPassExecute se hits s) := .runHits fun _ hd => by simp [hd]

theorem execMoveDone {m} : KeepsForm s (Machine.execMoveDone m s) := .run fun _ hd => by
  split <;> simp [hd]

/-! ### Micro-sequencers -/

theorem execSeqNop {q} : KeepsForm s (Machine.execSeqNop q s) := .seq fun _ _ hd => by simp [hd]

theorem execSeqMovi {q rd imm} : KeepsForm s (Machine.execSeqMovi q rd imm s) := .seq fun _ _ hd => by simp [hd]

theorem execSeqMovhi {q rd imm} : KeepsForm s (Machine.execSeqMovhi q rd imm s) := .seq fun _ _ hd => by simp [hd]

theorem execSeqAdd {q rd ra rb imm} : KeepsForm s (Machine.execSeqAdd q rd ra rb imm s) := .run fun _ hd => by simp [hd]

theorem execSeqSub {q rd ra rb imm} : KeepsForm s (Machine.execSeqSub q rd ra rb imm s) := .run fun _ hd => by simp [hd]

theorem execSeqAnd {q rd ra rb imm} : KeepsForm s (Machine.execSeqAnd q rd ra rb imm s) := .run fun _ hd => by simp [hd]

theorem execSeqOr {q rd ra rb imm} : KeepsForm s (Machine.execSeqOr q rd ra rb imm s) := .run fun _ hd => by simp [hd]

theorem execSeqXor {q rd ra rb imm} : KeepsForm s (Machine.execSeqXor q rd ra rb imm s) := .run fun _ hd => by simp [hd]

theorem execSeqShl {q rd ra rb imm} : KeepsForm s (Machine.execSeqShl q rd ra rb imm s) := .run fun _ hd => by simp [hd]

theorem execSeqShr {q rd ra rb imm} : KeepsForm s (Machine.execSeqShr q rd ra rb imm s) := .run fun _ hd => by simp [hd]

theorem execSltu {q rd ra rb imm} : KeepsForm s (Machine.execSltu q rd ra rb imm s) := .run fun _ hd => by simp [hd]

theorem execSeqLd {q rd ra imm hits} : KeepsForm s (Machine.execSeqLd q rd ra imm hits s) := .seqHits fun _ _ hd => by simp [hd]

theorem execSeqSt {q ra rb imm} : KeepsForm s (Machine.execSeqSt q ra rb imm s) := .seq fun _ _ hd => by simp [hd]

theorem execSeqAadd {q rd ra rb hits} : KeepsForm s (Machine.execSeqAadd q rd ra rb hits s) := .seqHits fun _ _ hd => by simp [hd]

theorem execSeqJ {q imm} : KeepsForm s (Machine.execSeqJ q imm s) := .seq fun _ _ hd => by simp [hd]

theorem execSeqBeq {q ra rb imm} : KeepsForm s (Machine.execSeqBeq q ra rb imm s) := .run fun _ hd => by simp [hd]

theorem execSeqBne {q ra rb imm} : KeepsForm s (Machine.execSeqBne q ra rb imm s) := .run fun _ hd => by simp [hd]

theorem execSeqBltu {q ra rb imm} : KeepsForm s (Machine.execSeqBltu q ra rb imm s) := .run fun _ hd => by simp [hd]

theorem execWaitw {q ra rb imm hits} : KeepsForm s (Machine.execWaitw q ra rb imm hits s) := .seqHits fun _ _ hd => by simp [hd]

theorem execSeqWaitph {q ra} : KeepsForm s (Machine.execSeqWaitph q ra s) := .seq fun _ _ hd => by simp [hd]

theorem execSeqSig {q ra imm} : KeepsForm s (Machine.execSeqSig q ra imm s) := .seq fun _ _ hd => by simp [hd]

theorem execSeqRdph {q rd} : KeepsForm s (Machine.execSeqRdph q rd s) := .seq fun _ _ hd => by simp [hd]

theorem execSeqDone {q} : KeepsForm s (Machine.execSeqDone q s) := .seq fun _ _ hd => by simp [hd]

theorem execSeqFault {q} : KeepsForm s (Machine.execSeqFault q s) := .seq fun _ _ hd => by simp [hd]

theorem execSeqWaitSatisfied {q hits} : KeepsForm s (Machine.execSeqWaitSatisfied q hits s) := .runHits fun d hd => by
  have h (c : Bool) : HasForm (if c then (d.seqWait q .running).seqNext q else d) := .ite (by simp [hd]) hd
  generalize (d.sq q).st = st
  cases st
  case waitWord => exact h _
  case waitPhase => exact h _
  case waitQueue => exact h _
  case waitRoom => exact .ite (by simp [hd]) hd
  all_goals exact hd

theorem execSeasonTrigger {q n} : KeepsForm s (Machine.execSeasonTrigger q n s) := .run fun _ hd => by simp [hd]

theorem execStampTrigger {q n} : KeepsForm s (Machine.execStampTrigger q n s) := .run fun _ hd => by simp [hd]

theorem execEventTrigger {q n} : KeepsForm s (Machine.execEventTrigger q n s) := .run fun _ hd => by simp [hd]

theorem execSeqRunStart {q} : KeepsForm s (Machine.execSeqRunStart q s) := .run fun d hd => by
  have h (x) : HasForm (d.setSq q x) := by simp [hd]
  dsimp only
  generalize (d.sq q).st = st
  generalize (List.range 8).find? _ = o
  split
  · exact h _
  · exact hd

/-! ### Scales, converters and reductions -/

theorem execSpub {k rd ra rb hits} : KeepsForm s (Machine.execSpub k rd ra rb hits s) := .seqHits fun _ _ hd => by
  dsimp only
  split <;> simp [hd]

theorem execSrst {k ra hits} : KeepsForm s (Machine.execSrst k ra hits s) := .seqHits fun _ _ hd => by simp [hd]

theorem execConverterTake {k hits} : KeepsForm s (Machine.execConverterTake k hits s) := .runHits fun _ hd => .ite hd (by
  dsimp only
  split
  · next h => exact .same (mem_of_pair (mem_ringTake ..) h) hd
  · next e r j h =>
    have he : CanonMem e.mem := .same (mem_of_pair (mem_ringTake ..) h) hd
    exact .ite (.same (Device.raise_mem ..) (.ringDone (.same (Device.modClu_mem ..) he))) (by simp [he]))

theorem execCvt {k hits} : KeepsForm s (Machine.execCvt k hits s) := .runHits fun _ hd => by simp [hd]

theorem execAxpby {k hits} : KeepsForm s (Machine.execAxpby k hits s) := .runHits fun _ hd => by simp [hd]

theorem execAxpbySq {k hits} : KeepsForm s (Machine.execAxpbySq k hits s) := .runHits fun _ hd => by simp [hd]

theorem execCvtDescriptorDone {k} : KeepsForm s (Machine.execCvtDescriptorDone k s) := .run fun _ hd => by
  dsimp only
  split <;> simp [hd]

theorem execReductionTake {k hits} : KeepsForm s (Machine.execReductionTake k hits s) := .runHits fun _ hd => .ite hd (by
  dsimp only
  split
  · next h => exact .same (mem_of_pair (mem_ringTake ..) h) hd
  · next e r j h =>
    have he : CanonMem e.mem := .same (mem_of_pair (mem_ringTake ..) h) hd
    exact .ite (.same (Device.raise_mem ..) (.ringDone (.same (Device.modClu_mem ..) he))) (by simp [he]))

theorem execSum {k hits} : KeepsForm s (Machine.execSum k hits s) := .runHits fun _ hd => .redRun (fun _ => by simp [hd]) hd

theorem execSumsq {k hits} : KeepsForm s (Machine.execSumsq k hits s) := .runHits fun _ hd => .redRun (fun _ => by simp [hd]) hd

theorem execMaxabs {k hits} : KeepsForm s (Machine.execMaxabs k hits s) := .runHits fun _ hd => .redRun (fun _ => by simp [hd]) hd

theorem execRedDescriptorDone {k} : KeepsForm s (Machine.execRedDescriptorDone k s) := .run fun _ hd => by
  dsimp only
  split <;> simp [hd]

theorem execTableRingTake {k hits} : KeepsForm s (Machine.execTableRingTake k hits s) := .runHits fun _ hd => .ite hd (by
  dsimp only
  split
  · next h => exact .same (mem_of_pair (mem_ringTake ..) h) hd
  · next e r j h =>
    have he : CanonMem e.mem := .same (mem_of_pair (mem_ringTake ..) h) hd
    exact .ite (.same (Device.raise_mem ..) (.ringDone (.ite (by simp [he]) he))) (by simp [he]))

theorem execLtbDefault {k} : KeepsForm s (Machine.execLtbDefault k s) := .run fun _ hd => by simp [hd]

theorem execLtbCopy {k hits} : KeepsForm s (Machine.execLtbCopy k hits s) := .runHits fun _ hd => by simp [hd]

theorem execLtbScaled {k hits} : KeepsForm s (Machine.execLtbScaled k hits s) := .runHits fun _ hd => by simp [hd]

/-! ### Random bits -/

theorem execMaskJob {k hits} : KeepsForm s (Machine.execMaskJob k hits s) := .runHits fun _ hd => .ite hd (by
  dsimp only
  split
  · next h => exact .same (mem_of_pair (mem_ringTake ..) h) hd
  · next e r j h =>
    have he : CanonMem e.mem := .same (mem_of_pair (mem_ringTake ..) h) hd
    exact .ite (by simp [he]) (.ite (by simp [he]) (by simp [he])))

theorem execMaskJobDone {k} : KeepsForm s (Machine.execMaskJobDone k s) := .run fun _ hd => by
  dsimp only
  split <;> simp [hd]

theorem execContextPrepared {k u} : KeepsForm s (Machine.execContextPrepared k u s) := .run fun _ hd => by simp [hd]

theorem execRngRefillGrant {k u row} : KeepsForm s (Machine.execRngRefillGrant k u row s) := .run fun _ hd => by
  dsimp only
  split <;> simp [hd]

/-! ### Sparse training -/

theorem execMcapt {k rd ra hits} : KeepsForm s (Machine.execMcapt k rd ra hits s) := .mask fun _ _ hd => by simp [hd]

theorem execMupd {k rd ra hits} : KeepsForm s (Machine.execMupd k rd ra hits s) := .mask fun _ _ hd => by simp [hd]

theorem execMapply {k rd ra hits} : KeepsForm s (Machine.execMapply k rd ra hits s) := .mask fun _ _ hd => by simp [hd]

theorem execCpack {k rd ra hits} : KeepsForm s (Machine.execCpack k rd ra hits s) := .mask fun _ _ hd => by simp [hd]

theorem execMcheck {k rd ra hits} : KeepsForm s (Machine.execMcheck k rd ra hits s) := .mask fun _ _ hd => by simp [hd]

theorem execPredictorTake {k hits} : KeepsForm s (Machine.execPredictorTake k hits s) := .runHits fun _ hd => .ite hd (by
  dsimp only
  split
  · next h => exact .same (mem_of_pair (mem_ringTake ..) h) hd
  · next e r j h =>
    have he : CanonMem e.mem := .same (mem_of_pair (mem_ringTake ..) h) hd
    exact .ite (by simp [he]) (by simp [he]))

theorem execPredictorDone {k hits} : KeepsForm s (Machine.execPredictorDone k hits s) := .runHits fun _ hd => by
  split
  · simp [CanonMem.ringDone (.ite (.put hd) hd)]
  · exact hd

/-! ### Numeric health -/

theorem execHclose {k ra hits} : KeepsForm s (Machine.execHclose k ra hits s) := .seqHits fun _ _ hd => by simp [hd]

theorem execNchk {k rd ra hits} : KeepsForm s (Machine.execNchk k rd ra hits s) := .seqHits fun _ _ hd => .ite (by simp [hd]) (by
  dsimp only
  split <;> simp [hd])

theorem execHpost {k ra hits} : KeepsForm s (Machine.execHpost k ra hits s) := .seqHits fun _ _ hd => by simp [hd]

theorem execHcollect {rd rb} : KeepsForm s (Machine.execHcollect rd rb s) := .seq fun _ _ hd => by
  dsimp only
  split <;> simp [hd]

theorem execLchk {rd ra} : KeepsForm s (Machine.execLchk rd ra s) := .seq fun _ _ hd => by
  dsimp only
  split <;> simp [hd]

theorem execRisk {rd rb} : KeepsForm s (Machine.execRisk rd rb s) := .seq fun _ _ hd => by simp [hd]

theorem execHealthSummaryArrival {k} : KeepsForm s (Machine.execHealthSummaryArrival k s) := .run fun _ hd => by simp [hd]

theorem execTaintNoticeReceive {step dev cause} : KeepsForm s (Machine.execTaintNoticeReceive step dev cause s) :=
  .run fun _ hd => by simp [hd]

/-! ### Cadence -/

theorem execGateWordWrite {k off val} : KeepsForm s (Machine.execGateWordWrite k off val s) := .run fun _ hd => by simp [hd]

theorem execDoneReport : KeepsForm s (Machine.execDoneReport s) := .run fun _ hd => by
  dsimp only
  split <;> simp [hd]

theorem execDoneReceive {step season dev} : KeepsForm s (Machine.execDoneReceive step season dev s) := .run fun _ hd => by
  dsimp only
  split <;> simp [hd]

theorem execCadenceWordSend : KeepsForm s (Machine.execCadenceWordSend s) := .run fun _ hd => by simp [hd]

theorem execCadenceWordReceive {p w} : KeepsForm s (Machine.execCadenceWordReceive p w s) := .run fun _ hd => by simp [hd]

theorem execBoundaryReached : KeepsForm s (Machine.execBoundaryReached s) := .run fun _ hd => by simp [hd]

theorem execBoundaryRelease : KeepsForm s (Machine.execBoundaryRelease s) := .run fun _ hd => by simp [hd]

theorem execBoundaryWordReceive {p w} : KeepsForm s (Machine.execBoundaryWordReceive p w s) := .run fun _ hd => by simp [hd]

theorem execHoldLimit : KeepsForm s (Machine.execHoldLimit s) := .run fun _ hd => by simp [hd]

theorem execCadenceLoss : KeepsForm s (Machine.execCadenceLoss s) := .run fun _ hd => by simp [hd]

theorem execBackupTakeover : KeepsForm s (Machine.execBackupTakeover s) := .run fun _ hd => by simp [hd]

theorem execCutOff : KeepsForm s (Machine.execCutOff s) := .run fun _ hd => by simp [hd]

theorem execCadenceInWord {w periodNs} : KeepsForm s (Machine.execCadenceInWord w periodNs s) := .run fun _ hd => by
  dsimp only
  repeat' split
  all_goals simp [hd]

theorem execCadenceOutFrame : KeepsForm s (Machine.execCadenceOutFrame s) := .run fun _ hd => .ite (by simp [hd]) (by
  dsimp only
  split <;> simp [hd])

/-! ### Admission -/

theorem execAdmPlan {c image} : KeepsForm s (Machine.execAdmPlan c image s) := .domain fun _ hd => by simp [hd]

theorem execCheck {c} : KeepsForm s (Machine.execCheck c s) := .object fun _ hd => by simp [hd]

theorem execDiscard {c} : KeepsForm s (Machine.execDiscard c s) := .object fun _ hd => by simp [hd]

theorem execAdmissionDone {facts} : KeepsForm s (Machine.execAdmissionDone facts s) := .run fun _ hd => .ite (by simp [hd]) (by
  dsimp only
  split <;> simp [hd])

theorem execVerdictReceive {planId code dev fromMaster} : KeepsForm s (Machine.execVerdictReceive planId code dev fromMaster s) :=
  .run fun _ hd => by
  dsimp only
  repeat' split
  all_goals simp [hd]

theorem execAdmittedTimeout : KeepsForm s (Machine.execAdmittedTimeout s) := .run fun _ hd => .ite hd (by split <;> simp [hd])

theorem execStop {c} : KeepsForm s (Machine.execStop c s) := .object fun _ hd => by simp [hd]

theorem execAbort {c} : KeepsForm s (Machine.execAbort c s) := .object fun _ hd => by simp [hd]

/-! ### Device access protocol -/

theorem execHello {h gens role name} : KeepsForm s (Machine.execHello h gens role name s) := .run fun _ hd => by simp [hd]

theorem execRead {h items} : KeepsForm s (Machine.execRead h items s) := .run fun _ hd => by simp [hd]

theorem execWrite {h items} : KeepsForm s (Machine.execWrite h items s) := .run fun _ hd => by simp [hd]

theorem execDread {h a off len} : KeepsForm s (Machine.execDread h a off len s) := .run fun _ hd => by simp [hd]

theorem execDwrite {h a begin_ end_ off total data} : KeepsForm s (Machine.execDwrite h a begin_ end_ off total data s) :=
  .run fun _ hd => by simp [hd]

theorem execClaim {h role force} : KeepsForm s (Machine.execClaim h role force s) := .run fun _ hd => by simp [hd]

theorem execSubscribe {h minsev classmask} : KeepsForm s (Machine.execSubscribe h minsev classmask s) := .run fun _ hd => by simp [hd]

theorem execKeepalive {h} : KeepsForm s (Machine.execKeepalive h s) := .run fun _ hd => by simp [hd]

theorem execBye {h} : KeepsForm s (Machine.execBye h s) := .run fun _ hd => by simp [hd]

theorem execMalformedFrame {h op readable} : KeepsForm s (Machine.execMalformedFrame h op readable s) := .run fun _ hd => by simp [hd]

theorem execDtlsHandshake {port mac udp src conn ident key} : KeepsForm s (Machine.execDtlsHandshake port mac udp src conn ident key s) :=
  .run fun _ hd => by simp [hd]

theorem execSessionTimeout {sid} : KeepsForm s (Machine.execSessionTimeout sid s) := .run fun _ hd => by simp [hd]

theorem execHeldFrameTimeout {sid seq} : KeepsForm s (Machine.execHeldFrameTimeout sid seq s) := .run fun _ hd => by simp [hd]

theorem execEventFrameSend {sid} : KeepsForm s (Machine.execEventFrameSend sid s) := .run fun _ hd => by simp [hd]

theorem execDapForward {h frame} : KeepsForm s (Machine.execDapForward h frame s) := .run fun _ hd => by simp [hd]

theorem execDapFragmentReceive {p target src n first last ceiling body} :
    KeepsForm s (Machine.execDapFragmentReceive p target src n first last ceiling body s) :=
  .run fun _ hd => by simp [hd]

theorem execFragmentTimeout {src} : KeepsForm s (Machine.execFragmentTimeout src s) := .run fun _ hd => by
  dsimp only
  split <;> simp [hd]

theorem execForwardResponseTimeout {sid seq} : KeepsForm s (Machine.execForwardResponseTimeout sid seq s) := .run fun _ hd => by
  dsimp only
  repeat' split
  all_goals simp [hd]

theorem execObjectWrite {c w} : KeepsForm s (Machine.execObjectWrite c w s) := .run fun _ hd => by simp [hd]

/-! ### Objects -/

theorem execHlthTaintReq {c v} : KeepsForm s (Machine.execHlthTaintReq c v s) := .object fun _ hd => by simp [hd]

theorem execScaleRecal {c tsid} : KeepsForm s (Machine.execScaleRecal c tsid s) := .object fun _ hd => by simp [hd]

theorem execHlthLoss {c v} : KeepsForm s (Machine.execHlthLoss c v s) := .object fun _ hd => by simp [hd]

theorem execHlthEvalLoss {c v} : KeepsForm s (Machine.execHlthEvalLoss c v s) := .object fun _ hd => by simp [hd]

theorem execAgeReplan {c v} : KeepsForm s (Machine.execAgeReplan c v s) := .object fun _ hd => by simp [hd]

/-! ### Power -/

theorem execPdRequestOn {src d} : KeepsForm s (Machine.execPdRequestOn src d s) := .run fun _ hd => by simp [hd]

theorem execPdRequestRetention {src d} : KeepsForm s (Machine.execPdRequestRetention src d s) := .run fun _ hd => by simp [hd]

theorem execPdRequestOff {src d} : KeepsForm s (Machine.execPdRequestOff src d s) := .run fun _ hd => by simp [hd]

theorem execOffLocked {src d} : KeepsForm s (Machine.execOffLocked src d s) := .run fun _ hd => by simp [hd]

theorem execPdRequestApply {d} : KeepsForm s (Machine.execPdRequestApply d s) := .run fun _ hd => by simp [hd]

theorem execDomainGood {d} : KeepsForm s (Machine.execDomainGood d s) := .run fun _ hd => by simp [hd]

theorem execDomainTransitionTimeout {d} : KeepsForm s (Machine.execDomainTransitionTimeout d s) := .run fun _ hd => by
  dsimp only
  repeat' split
  all_goals simp [hd]

theorem execPwrDieTargetMhz {c die mhz} : KeepsForm s (Machine.execPwrDieTargetMhz c die mhz s) := .object fun _ hd => by simp [hd]

theorem execPwrDieFreqMhz {c die mhz} : KeepsForm s (Machine.execPwrDieFreqMhz c die mhz s) := .object fun _ hd => by simp [hd]

theorem execPwrDieVcore {c die v} : KeepsForm s (Machine.execPwrDieVcore c die v s) := .object fun _ hd => by simp [hd]

theorem execVcoreSlewStep {die} : KeepsForm s (Machine.execVcoreSlewStep die s) := .run fun _ hd => by
  dsimp only
  split <;> simp [hd]

theorem execSettleDone {die} : KeepsForm s (Machine.execSettleDone die s) := .run fun _ hd => by
  split <;> simp [hd]

theorem execThermalSensorRead {r} : KeepsForm s (Machine.execThermalSensorRead r s) := .run fun _ hd => by
  dsimp only
  split <;> simp [hd]

theorem execThrottleStep {die} : KeepsForm s (Machine.execThrottleStep die s) := .run fun _ hd => by simp [hd]

theorem execHbmTempReport {h tempC} : KeepsForm s (Machine.execHbmTempReport h tempC s) := .run fun _ hd => by simp [hd]

theorem execHardwareTrip {cause die value} : KeepsForm s (Machine.execHardwareTrip cause die value s) := .run fun _ hd => by simp [hd]

theorem execInputUndervoltage {mv} : KeepsForm s (Machine.execInputUndervoltage mv s) := .run fun _ hd => by simp [hd]

theorem execResetNLow : KeepsForm s (Machine.execResetNLow s) := .run fun _ _ => by simp

theorem execPwrgoodLow : KeepsForm s (Machine.execPwrgoodLow s) := .run fun _ _ => by simp

/-! ### Thaw -/

theorem execResetNRise {straps vinMv boot} : KeepsForm s (Machine.execResetNRise straps vinMv boot s) := .run fun _ hd => by simp [hd]

theorem execThawStepLimit {step boot unfinished} : KeepsForm s (Machine.execThawStepLimit step boot unfinished s) := .run fun _ hd => by
  dsimp only
  repeat' split
  all_goals simp [hd]

theorem execThawStepDone {boot} : KeepsForm s (Machine.execThawStepDone boot s) := .run fun _ hd => .ite (by simp [hd]) (by
  dsimp only
  split <;> simp [hd])

theorem execClusterStoreGroup {n} : KeepsForm s (Machine.execClusterStoreGroup n s) := .run fun _ hd => by simp [hd]

theorem execThawWave {w railInWindow} : KeepsForm s (Machine.execThawWave w railInWindow s) := .run fun _ hd => by simp [hd]

theorem execChunkReceive {cp chunk} : KeepsForm s (Machine.execChunkReceive cp chunk s) := .run fun _ hd => by simp [hd]

theorem execChunkEnd {cp chunk} : KeepsForm s (Machine.execChunkEnd cp chunk s) := .run fun _ hd => by simp [hd]

theorem execChunkRepairRequest {cp mask} : KeepsForm s (Machine.execChunkRepairRequest cp mask s) := .run fun _ hd => by simp [hd]

theorem execImageHashDone {cp} : KeepsForm s (Machine.execImageHashDone cp s) := .run fun _ hd => by
  dsimp only
  repeat' split
  all_goals simp [hd]

theorem execStartUpTestDone {failedCores failedClusters} : KeepsForm s (Machine.execStartUpTestDone failedCores failedClusters s) :=
  .run fun _ hd => by simp [hd]

theorem execThawReady : KeepsForm s (Machine.execThawReady s) := .run fun _ hd => by simp [hd]

theorem execFwImage {c data} : KeepsForm s (Machine.execFwImage c data s) := .domain fun _ hd => by simp [hd]

theorem execFwVerify {c} : KeepsForm s (Machine.execFwVerify c s) := .object fun _ hd => by simp [hd]

theorem execFwActivate {c} : KeepsForm s (Machine.execFwActivate c s) := .object fun _ hd => by simp [hd]

theorem execFwCommit {c} : KeepsForm s (Machine.execFwCommit c s) := .object fun _ hd => by simp [hd]

theorem execAttNonce {sid nonce} : KeepsForm s (Machine.execAttNonce sid nonce s) := .run fun _ hd => by simp [hd]

theorem execQuoteSigned {recordWriteOk} : KeepsForm s (Machine.execQuoteSigned recordWriteOk s) := .run fun _ hd => by
  dsimp only
  repeat' split
  all_goals simp [hd]

theorem execSecCredWrite {c data} : KeepsForm s (Machine.execSecCredWrite c data s) := .domain fun _ hd => by simp [hd]

theorem execSecCredDelete {c ident} : KeepsForm s (Machine.execSecCredDelete c ident s) := .domain fun _ hd => by simp [hd]

theorem execFlashRecordWrite {r data complete} : KeepsForm s (Machine.execFlashRecordWrite r data complete s) :=
  .run fun _ hd => by simp [hd]

/-! ### Arbiters -/

theorem execArbPrio {c cls v} : KeepsForm s (Machine.execArbPrio c cls v s) := .object fun _ hd => by simp [hd]

theorem execArbiterGrant {a reqs blocks} : KeepsForm s (Machine.execArbiterGrant a reqs blocks s) := .run fun _ hd => by
  extract_lets d1 key n ok d2 r d3
  have h3 : CanonMem d3.mem := by simp [d3, d2, d1, hd]
  split
  · exact h3
  · extract_lets counted d4 d5
    have h5 : CanonMem d5.mem := by simp [d5, d4, h3]
    rw [hasForm_iff, mem_arbAges]
    split
    · exact .bankGranted h5
    · exact h5

/-! ### Sideband -/

theorem execSbStatus : KeepsForm s (Machine.execSbStatus s) := .run fun _ hd => by simp [hd]

theorem execSbRecovLen {v} : KeepsForm s (Machine.execSbRecovLen v s) := .run fun _ hd => by simp [hd]

theorem execSbRecovData {v} : KeepsForm s (Machine.execSbRecovData v s) := .run fun _ hd => by simp [hd]

theorem execSbBegin : KeepsForm s (Machine.execSbBegin s) := .run fun _ hd => by simp [hd]

theorem execRecoveryCommit : KeepsForm s (Machine.execRecoveryCommit s) := .run fun _ hd => by simp [hd]

theorem execRecoveryVerifyDone {boot} : KeepsForm s (Machine.execRecoveryVerifyDone boot s) := .run fun _ hd => by simp [hd]

/-! ### Links -/

theorem execPortTrainingStepDone {p res} : KeepsForm s (Machine.execPortTrainingStepDone p res s) := .run fun _ hd => by simp [hd]

theorem execPortTrainingTimeout {p} : KeepsForm s (Machine.execPortTrainingTimeout p s) := .run fun _ hd => by simp [hd]

theorem execIdent {p pos shape rail port gen} : KeepsForm s (Machine.execIdent p pos shape rail port gen s) := .run fun _ hd => by simp [hd]

theorem execLat {p stampPs echoPs nowPs} : KeepsForm s (Machine.execLat p stampPs echoPs nowPs s) := .run fun _ hd => by simp [hd]

theorem execBerWindowCheck {p berF32 uncorr} : KeepsForm s (Machine.execBerWindowCheck p berF32 uncorr s) := .run fun _ hd => by simp [hd]

theorem execCodewordReceive {p seq replayed rx} : KeepsForm s (Machine.execCodewordReceive p seq replayed rx s) :=
  .run fun _ hd => by simp [hd]

theorem execNakReceive {p ack} : KeepsForm s (Machine.execNakReceive p ack s) := .run fun _ hd => by simp [hd]

theorem execCredit {p freed ctl} : KeepsForm s (Machine.execCredit p freed ctl s) := .run fun _ hd => by simp [hd]

theorem execRd {p h hits} : KeepsForm s (Machine.execRd p h hits s) := .runHits fun _ hd => .ite (by simp [hd]) (by
  dsimp only
  split <;> simp [hd])

theorem execWr {p h data} : KeepsForm s (Machine.execWr p h data s) := .run fun _ hd => .arrives (by simp [hd]) hd

theorem execCpl {p h} : KeepsForm s (Machine.execCpl p h s) := .run fun _ hd => .arrives (by
  split
  · exact .ite (by simp [hd]) hd
  · simp [hd]) hd

theorem execCpld {p h data} : KeepsForm s (Machine.execCpld p h data s) := .run fun _ hd => .arrives (by
  split
  · exact .ite hd (by simp [hd])
  · simp [hd]) hd

theorem execPacketForward {p h data} : KeepsForm s (Machine.execPacketForward p h data s) := .run fun _ hd => by simp [hd]

theorem execPacketStart {p fwd loc} : KeepsForm s (Machine.execPacketStart p fwd loc s) := .run fun _ hd => by simp [hd]

theorem execCompletionTimeout {tag} : KeepsForm s (Machine.execCompletionTimeout tag s) := .run fun _ hd => by
  dsimp only
  split <;> simp [hd]

theorem execDownset {pos port down} : KeepsForm s (Machine.execDownset pos port down s) := .run fun _ hd => by simp [hd]

theorem execPathlat {p ns} : KeepsForm s (Machine.execPathlat p ns s) := .run fun _ hd => by simp [hd]

theorem execDoneMessageForward {p typ body} : KeepsForm s (Machine.execDoneMessageForward p typ body s) := .run fun _ hd => by simp [hd]

/-! ### Memory errors and background work -/

theorem execD2dLaneFail {edge spareLeft} : KeepsForm s (Machine.execD2dLaneFail edge spareLeft s) := .run fun _ hd => by simp [hd]

theorem execHbmErrorReport {h ch kind addr} : KeepsForm s (Machine.execHbmErrorReport h ch kind addr s) := .run fun _ hd => by
  dsimp only
  split <;> simp [hd]

theorem execDdrUncorrectable {addr} : KeepsForm s (Machine.execDdrUncorrectable addr s) := .run fun _ hd => by
  split <;> simp [hd]

theorem execDdrChannelLoss {d} : KeepsForm s (Machine.execDdrChannelLoss d s) := .run fun _ hd => by simp [hd]

theorem execCsScrubSlot {k bank ecc} : KeepsForm s (Machine.execCsScrubSlot k bank ecc s) := .run fun _ hd => by simp [hd]

theorem execHbmScrubRead {h ch ecc} : KeepsForm s (Machine.execHbmScrubRead h ch ecc s) := .run fun _ hd => by
  split <;> simp [hd]

theorem execDdrScrubRead {d ecc} : KeepsForm s (Machine.execDdrScrubRead d ecc s) := .run fun _ hd => by
  dsimp only
  repeat' split
  all_goals simp [hd]

theorem execScrubWriteBack {u} : KeepsForm s (Machine.execScrubWriteBack u s) := .run fun _ hd => .ite (by simp [hd]) (by
  dsimp only
  split <;> simp [hd])

theorem execScrubPassDue {u} : KeepsForm s (Machine.execScrubPassDue u s) := .run fun _ hd => by
  dsimp only
  split <;> simp [hd]

theorem execHbmCalibration {h ch} : KeepsForm s (Machine.execHbmCalibration h ch s) := .run fun _ hd => by simp [hd]

theorem execZqCalibration {d} : KeepsForm s (Machine.execZqCalibration d s) := .run fun _ hd => by simp [hd]

theorem execTelemetrySnapshot {granted} : KeepsForm s (Machine.execTelemetrySnapshot granted s) := .run fun _ hd => by simp [hd]

theorem execWearLevelMove : KeepsForm s (Machine.execWearLevelMove s) := .run fun _ hd => by simp [hd]

/-! ### Ageing -/

theorem execCanaryReading {die slackPs meanMa minMa maxMa} : KeepsForm s (Machine.execCanaryReading die slackPs meanMa minMa maxMa s) :=
  .run fun _ hd => by simp [hd]

theorem execRingOscReading {die driftPpm} : KeepsForm s (Machine.execRingOscReading die driftPpm s) := .run fun _ hd => by simp [hd]

theorem execPowerOnHour : KeepsForm s (Machine.execPowerOnHour s) := .run fun _ hd => by simp [hd]

theorem execPlannerRun {die} : KeepsForm s (Machine.execPlannerRun die s) := .run fun _ hd => by simp [hd]

theorem execMarginPlanApply {die} : KeepsForm s (Machine.execMarginPlanApply die s) := .run fun _ hd => by simp [hd]

/-! ### Harvest and restore -/

theorem execHvCommand {c v} : KeepsForm s (Machine.execHvCommand c v s) := .object fun _ hd => by simp [hd]

theorem execHvRequest {dev} : KeepsForm s (Machine.execHvRequest dev s) := .run fun _ hd => by simp [hd]

theorem execHvNext {v} : KeepsForm s (Machine.execHvNext v s) := .run fun _ hd => by simp [hd]

theorem execAnnounceAckTimeout : KeepsForm s (Machine.execAnnounceAckTimeout s) := .run fun _ hd => by
  split <;> simp [hd]

theorem execHarvestStop : KeepsForm s (Machine.execHarvestStop s) := .run fun _ hd => by
  dsimp only
  split <;> simp [hd]

theorem execHarvestCopyDone {stopMs hits} : KeepsForm s (Machine.execHarvestCopyDone stopMs hits s) := .runHits fun _ hd => by
  dsimp only
  repeat' split
  all_goals simp [hd]

theorem execHvCommit {hnum} : KeepsForm s (Machine.execHvCommit hnum s) := .run fun _ hd => by simp [hd]

theorem execExportRegionReceive {region data tileCrcOk lastRegion} :
    KeepsForm s (Machine.execExportRegionReceive region data tileCrcOk lastRegion s) :=
  .run fun _ hd => by
  dsimp only
  repeat' split
  all_goals simp [hd]

theorem execHvKeepSealed {hnum} : KeepsForm s (Machine.execHvKeepSealed hnum s) := .run fun _ hd => by simp [hd]

theorem execHvRestore {v dev} : KeepsForm s (Machine.execHvRestore v dev s) := .run fun _ hd => by simp [hd]

theorem execRestoreLoadDone {crcOk taken} : KeepsForm s (Machine.execRestoreLoadDone crcOk taken s) := .run fun _ hd => by
  split
  · exact hd
  · refine .ite hd (.ite (by simp [hd]) ?_)
    split
    · exact .ite hd (.readmit (fun _ hx => foldl (fun _ _ hy => .put hy) hx) (by simp [hd]))
    · refine .ite hd ?_
      split
      · exact .ite (by simp [hd]) (.readmit (fun _ hx => by simp [hx]) (by simp [hd]))
      · exact hd

/-! ### Metrology island -/

theorem execIslandReset {pufReads calEn} : KeepsForm s (Machine.execIslandReset pufReads calEn s) := .run fun _ hd => by simp [hd]

theorem execAdcSample {v amp} : KeepsForm s (Machine.execAdcSample v amp s) := .run fun _ hd => by simp [hd]

theorem execPulseEnd : KeepsForm s (Machine.execPulseEnd s) := .run fun _ hd => by simp [hd]

theorem execIslandSelfCheck {adcDevPpm clkDevPpm} : KeepsForm s (Machine.execIslandSelfCheck adcDevPpm clkDevPpm s) :=
  .run fun _ hd => by simp [hd]

theorem execWorkFrameSend : KeepsForm s (Machine.execWorkFrameSend s) := .run fun _ hd => by simp [hd]

theorem execWorkFrameReceive {frame} : KeepsForm s (Machine.execWorkFrameReceive frame s) := .run fun _ hd => by simp [hd]

theorem execNoworkTimeout : KeepsForm s (Machine.execNoworkTimeout s) := .run fun _ hd => by simp [hd]

theorem execRecordMoment {hour} : KeepsForm s (Machine.execRecordMoment hour s) := .run fun _ hd => by simp [hd]

theorem execRecordSigned {flashOk} : KeepsForm s (Machine.execRecordSigned flashOk s) := .run fun _ hd => by simp [hd]

theorem execRecordRotationSend : KeepsForm s (Machine.execRecordRotationSend s) := .run fun _ hd => by simp [hd]

theorem execStatusFrameSend : KeepsForm s (Machine.execStatusFrameSend s) := .run fun _ hd => by simp [hd]

theorem execIslandCheckpoint : KeepsForm s (Machine.execIslandCheckpoint s) := .run fun _ hd => by simp [hd]

theorem execCalibrationSession {flashOk write} : KeepsForm s (Machine.execCalibrationSession flashOk write s) :=
  .run fun _ hd => by simp [hd]

theorem execHubRecordReceive {rec sigOk} : KeepsForm s (Machine.execHubRecordReceive rec sigOk s) := .run fun _ hd => by simp [hd]

theorem execRecordLinkSilent : KeepsForm s (Machine.execRecordLinkSilent s) := .run fun _ hd => by simp [hd]

/-! ### Late commands -/

theorem execUnitFailureDetected {u} : KeepsForm s (Machine.execUnitFailureDetected u s) := .run fun _ hd => by
  split <;> simp [hd]

theorem execDdrCorrectedError {d} : KeepsForm s (Machine.execDdrCorrectedError d s) := .run fun _ hd => by simp [hd]

theorem execCadenceInSilence : KeepsForm s (Machine.execCadenceInSilence s) := .run fun _ hd => by simp [hd]

theorem execNeighbourDetect {p} : KeepsForm s (Machine.execNeighbourDetect p s) := .run fun _ hd => by simp [hd]

theorem execFwVerifyDone {boot} : KeepsForm s (Machine.execFwVerifyDone boot s) := .run fun _ hd => by simp [hd]

theorem execSigningTreeRebuilt : KeepsForm s (Machine.execSigningTreeRebuilt s) := .run fun _ hd => by simp [hd]

theorem execEyeMonitorReading {u falling} : KeepsForm s (Machine.execEyeMonitorReading u falling s) := .run fun _ hd => .ite hd (by
  split
  · simp [hd]
  · exact .ite (by simp [hd]) hd)

theorem execStatusFrameReceive {frame} : KeepsForm s (Machine.execStatusFrameReceive frame s) := .run fun _ hd => by simp [hd]

theorem execIslandSupplyLoss : KeepsForm s (Machine.execIslandSupplyLoss s) := .run fun _ hd => by simp [hd]

end KeepsForm

/-- Every command keeps the canonical form, whatever its device and the rest of the queue. -/
theorem keepsForm_exec (c : Instr) (s : State) : KeepsForm s (exec c s) :=
  match c with
  | .movi .. => .execMovi | .movhi .. => .execMovhi | .add .. => .execAdd | .sub .. => .execSub | .andB .. => .execAndB
  | .orB .. => .execOrB | .xorB .. => .execXorB | .shl .. => .execShl | .shr .. => .execShr | .sra .. => .execSra
  | .mul _ _ _ _ _ imm => .execMul (imm := imm) | .ldl .. => .execLdl | .stl .. => .execStl | .ldc .. => .execLdc | .stc .. => .execStc
  | .tld .. => .execTld | .tst .. => .execTst | .frel .. => .execFrel | .setstr .. => .execSetstr | .rdph .. => .execRdph
  | .rdid .. => .execRdid | .j .. => .execJ | .beq .. => .execBeq | .bne .. => .execBne | .bltu .. => .execBltu | .bgeu .. => .execBgeu
  | .blt .. => .execBlt | .bge .. => .execBge | .loop .. => .execLoop | .halt .. => .execHalt | .wait .. => .execWait
  | .sig .. => .execSig | .bar .. => .execBar | .fence .. => .execFence | .aadd .. => .execAadd | .acas .. => .execAcas
  | .amax .. => .execAmax | .watch .. => .execWatch | .waitph .. => .execWaitph | .reservedInstruction .. => .execReservedInstruction
  | .accumulate .. => .execAccumulate | .drain .. => .execDrain | .tableLoad .. => .execTableLoad | .vadd .. => .execVadd
  | .vsub .. => .execVsub | .vmul .. => .execVmul | .vfma .. => .execVfma | .vmax .. => .execVmax | .vmin .. => .execVmin
  | .vabs .. => .execVabs | .vexp2 .. => .execVexp2 | .vlog2 .. => .execVlog2 | .vrcp .. => .execVrcp | .vrsq .. => .execVrsq
  | .vrsum .. => .execVrsum | .vrmax .. => .execVrmax | .wupd .. => .execWupd | .queueEntryFreed .. => .execQueueEntryFreed
  | .waitSyncSatisfied .. => .execWaitSyncSatisfied | .fenceComplete .. => .execFenceComplete | .barrierRelease .. => .execBarrierRelease
  | .phaseStampReached .. => .execPhaseStampReached | .watchWake .. => .execWatchWake | .accumulateComplete .. => .execAccumulateComplete
  | .drainComplete .. => .execDrainComplete | .tableLoadComplete .. => .execTableLoadComplete
  | .scaleLineWritten .. => .execScaleLineWritten | .scaleWaitLimit .. => .execScaleWaitLimit
  | .scaleReportFlush .. => .execScaleReportFlush | .workListPoll .. => .execWorkListPoll
  | .launchGroupComplete .. => .execLaunchGroupComplete | .coreHangLimit .. => .execCoreHangLimit | .frameRelease .. => .execFrameRelease
  | .tmove .. => .execTmove | .bmove .. => .execBmove | .qwait .. => .execQwait | .pass .. => .execPass
  | .moverSourceRead .. => .execMoverSourceRead | .tileDeliveryComplete .. => .execTileDeliveryComplete
  | .tileRefetchComplete .. => .execTileRefetchComplete | .carouselPassExecute .. => .execCarouselPassExecute
  | .moveDone .. => .execMoveDone | .seqNop .. => .execSeqNop | .seqMovi .. => .execSeqMovi | .seqMovhi .. => .execSeqMovhi
  | .seqAdd .. => .execSeqAdd | .seqSub .. => .execSeqSub | .seqAnd .. => .execSeqAnd | .seqOr .. => .execSeqOr
  | .seqXor .. => .execSeqXor | .seqShl .. => .execSeqShl | .seqShr .. => .execSeqShr | .sltu .. => .execSltu | .seqLd .. => .execSeqLd
  | .seqSt .. => .execSeqSt | .seqAadd .. => .execSeqAadd | .seqJ .. => .execSeqJ | .seqBeq .. => .execSeqBeq | .seqBne .. => .execSeqBne
  | .seqBltu .. => .execSeqBltu | .waitw _ _ _ imm _ => .execWaitw (imm := imm) | .seqWaitph .. => .execSeqWaitph
  | .seqSig .. => .execSeqSig | .seqRdph .. => .execSeqRdph | .seqDone .. => .execSeqDone | .seqFault .. => .execSeqFault
  | .seqWaitSatisfied .. => .execSeqWaitSatisfied | .seasonTrigger .. => .execSeasonTrigger | .stampTrigger .. => .execStampTrigger
  | .eventTrigger .. => .execEventTrigger | .seqRunStart .. => .execSeqRunStart | .spub .. => .execSpub | .srst .. => .execSrst
  | .converterTake .. => .execConverterTake | .cvt .. => .execCvt | .axpby .. => .execAxpby | .axpbySq .. => .execAxpbySq
  | .cvtDescriptorDone .. => .execCvtDescriptorDone | .reductionTake .. => .execReductionTake | .sum .. => .execSum
  | .sumsq .. => .execSumsq | .maxabs .. => .execMaxabs | .redDescriptorDone .. => .execRedDescriptorDone
  | .tableRingTake .. => .execTableRingTake | .ltbDefault .. => .execLtbDefault | .ltbCopy .. => .execLtbCopy
  | .ltbScaled .. => .execLtbScaled | .maskJob .. => .execMaskJob | .maskJobDone .. => .execMaskJobDone
  | .contextPrepared .. => .execContextPrepared | .rngRefillGrant .. => .execRngRefillGrant | .mcapt .. => .execMcapt
  | .mupd .. => .execMupd | .mapply .. => .execMapply | .cpack .. => .execCpack | .mcheck .. => .execMcheck
  | .predictorTake .. => .execPredictorTake | .predictorDone .. => .execPredictorDone | .hclose .. => .execHclose | .nchk .. => .execNchk
  | .hpost .. => .execHpost | .hcollect .. => .execHcollect | .lchk .. => .execLchk | .risk .. => .execRisk
  | .healthSummaryArrival .. => .execHealthSummaryArrival | .taintNoticeReceive .. => .execTaintNoticeReceive
  | .gateWordWrite .. => .execGateWordWrite | .doneReport => .execDoneReport | .doneReceive .. => .execDoneReceive
  | .cadenceWordSend => .execCadenceWordSend | .cadenceWordReceive .. => .execCadenceWordReceive
  | .boundaryReached => .execBoundaryReached | .boundaryRelease => .execBoundaryRelease
  | .boundaryWordReceive .. => .execBoundaryWordReceive | .holdLimit => .execHoldLimit | .cadenceLoss => .execCadenceLoss
  | .backupTakeover => .execBackupTakeover | .cutOff => .execCutOff | .cadenceInWord .. => .execCadenceInWord
  | .cadenceOutFrame => .execCadenceOutFrame | .admPlan .. => .execAdmPlan | .check .. => .execCheck | .discard .. => .execDiscard
  | .admissionDone .. => .execAdmissionDone | .verdictReceive planId _ _ _ => .execVerdictReceive (planId := planId)
  | .admittedTimeout => .execAdmittedTimeout | .stop .. => .execStop | .abort .. => .execAbort | .hello .. => .execHello
  | .read .. => .execRead | .write .. => .execWrite | .dread .. => .execDread | .dwrite .. => .execDwrite | .claim .. => .execClaim
  | .subscribe .. => .execSubscribe | .keepalive .. => .execKeepalive | .bye .. => .execBye | .malformedFrame .. => .execMalformedFrame
  | .dtlsHandshake .. => .execDtlsHandshake | .sessionTimeout .. => .execSessionTimeout | .heldFrameTimeout .. => .execHeldFrameTimeout
  | .eventFrameSend .. => .execEventFrameSend | .dapForward .. => .execDapForward | .dapFragmentReceive .. => .execDapFragmentReceive
  | .fragmentTimeout .. => .execFragmentTimeout | .forwardResponseTimeout .. => .execForwardResponseTimeout
  | .objectWrite .. => .execObjectWrite | .hlthTaintReq .. => .execHlthTaintReq | .scaleRecal .. => .execScaleRecal
  | .hlthLoss .. => .execHlthLoss | .hlthEvalLoss .. => .execHlthEvalLoss | .ageReplan .. => .execAgeReplan
  | .pdRequestOn .. => .execPdRequestOn | .pdRequestRetention .. => .execPdRequestRetention | .pdRequestOff .. => .execPdRequestOff
  | .offLocked .. => .execOffLocked | .pdRequestApply .. => .execPdRequestApply | .domainGood .. => .execDomainGood
  | .domainTransitionTimeout .. => .execDomainTransitionTimeout | .pwrDieTargetMhz .. => .execPwrDieTargetMhz
  | .pwrDieFreqMhz .. => .execPwrDieFreqMhz | .pwrDieVcore .. => .execPwrDieVcore | .vcoreSlewStep .. => .execVcoreSlewStep
  | .settleDone .. => .execSettleDone | .thermalSensorRead .. => .execThermalSensorRead | .throttleStep .. => .execThrottleStep
  | .hbmTempReport .. => .execHbmTempReport | .hardwareTrip .. => .execHardwareTrip | .inputUndervoltage .. => .execInputUndervoltage
  | .resetNLow => .execResetNLow | .pwrgoodLow => .execPwrgoodLow | .resetNRise .. => .execResetNRise
  | .thawStepLimit .. => .execThawStepLimit | .thawStepDone .. => .execThawStepDone | .clusterStoreGroup .. => .execClusterStoreGroup
  | .thawWave .. => .execThawWave | .chunkReceive .. => .execChunkReceive | .chunkEnd .. => .execChunkEnd
  | .chunkRepairRequest .. => .execChunkRepairRequest | .imageHashDone .. => .execImageHashDone
  | .startUpTestDone .. => .execStartUpTestDone | .thawReady => .execThawReady | .fwImage .. => .execFwImage
  | .fwVerify .. => .execFwVerify | .fwActivate .. => .execFwActivate | .fwCommit .. => .execFwCommit | .attNonce .. => .execAttNonce
  | .quoteSigned .. => .execQuoteSigned | .secCredWrite .. => .execSecCredWrite | .secCredDelete .. => .execSecCredDelete
  | .flashRecordWrite .. => .execFlashRecordWrite | .arbPrio .. => .execArbPrio | .arbiterGrant .. => .execArbiterGrant
  | .sbStatus => .execSbStatus | .sbRecovLen .. => .execSbRecovLen | .sbRecovData .. => .execSbRecovData | .sbBegin => .execSbBegin
  | .recoveryCommit => .execRecoveryCommit | .recoveryVerifyDone .. => .execRecoveryVerifyDone
  | .portTrainingStepDone .. => .execPortTrainingStepDone | .portTrainingTimeout .. => .execPortTrainingTimeout | .ident .. => .execIdent
  | .lat .. => .execLat | .berWindowCheck .. => .execBerWindowCheck | .codewordReceive .. => .execCodewordReceive
  | .nakReceive .. => .execNakReceive | .credit .. => .execCredit | .rd .. => .execRd | .wr .. => .execWr | .cpl .. => .execCpl
  | .cpld .. => .execCpld | .packetForward .. => .execPacketForward | .packetStart .. => .execPacketStart
  | .completionTimeout .. => .execCompletionTimeout | .downset .. => .execDownset | .pathlat .. => .execPathlat
  | .doneMessageForward .. => .execDoneMessageForward | .d2dLaneFail .. => .execD2dLaneFail | .hbmErrorReport .. => .execHbmErrorReport
  | .ddrUncorrectable .. => .execDdrUncorrectable | .ddrChannelLoss .. => .execDdrChannelLoss | .csScrubSlot .. => .execCsScrubSlot
  | .hbmScrubRead .. => .execHbmScrubRead | .ddrScrubRead .. => .execDdrScrubRead | .scrubWriteBack .. => .execScrubWriteBack
  | .scrubPassDue .. => .execScrubPassDue | .hbmCalibration .. => .execHbmCalibration | .zqCalibration .. => .execZqCalibration
  | .telemetrySnapshot .. => .execTelemetrySnapshot | .wearLevelMove => .execWearLevelMove | .canaryReading .. => .execCanaryReading
  | .ringOscReading .. => .execRingOscReading | .powerOnHour => .execPowerOnHour | .plannerRun .. => .execPlannerRun
  | .marginPlanApply .. => .execMarginPlanApply | .hvCommand .. => .execHvCommand | .hvRequest .. => .execHvRequest
  | .hvNext .. => .execHvNext | .announceAckTimeout => .execAnnounceAckTimeout | .harvestStop => .execHarvestStop
  | .harvestCopyDone .. => .execHarvestCopyDone | .hvCommit .. => .execHvCommit | .exportRegionReceive .. => .execExportRegionReceive
  | .hvKeepSealed .. => .execHvKeepSealed | .hvRestore .. => .execHvRestore | .restoreLoadDone .. => .execRestoreLoadDone
  | .islandReset .. => .execIslandReset | .adcSample .. => .execAdcSample | .pulseEnd => .execPulseEnd
  | .islandSelfCheck .. => .execIslandSelfCheck | .workFrameSend => .execWorkFrameSend | .workFrameReceive .. => .execWorkFrameReceive
  | .noworkTimeout => .execNoworkTimeout | .recordMoment .. => .execRecordMoment | .recordSigned .. => .execRecordSigned
  | .recordRotationSend => .execRecordRotationSend | .statusFrameSend => .execStatusFrameSend | .islandCheckpoint => .execIslandCheckpoint
  | .calibrationSession .. => .execCalibrationSession | .hubRecordReceive .. => .execHubRecordReceive
  | .recordLinkSilent => .execRecordLinkSilent | .unitFailureDetected .. => .execUnitFailureDetected
  | .ddrCorrectedError .. => .execDdrCorrectedError | .cadenceInSilence => .execCadenceInSilence
  | .neighbourDetect .. => .execNeighbourDetect | .fwVerifyDone boot => .execFwVerifyDone (boot := boot)
  | .signingTreeRebuilt => .execSigningTreeRebuilt | .eyeMonitorReading .. => .execEyeMonitorReading
  | .statusFrameReceive .. => .execStatusFrameReceive | .islandSupplyLoss => .execIslandSupplyLoss

/-- An idle microsecond writes no byte. -/
theorem mem_idle (s : State) : s.idle.dev.mem = s.dev.mem := by simp [State.idle]

/-- Settles O3: each command keeps the form, and an idle microsecond writes no byte. -/
theorem stepKeepsMemoryCanonical : Obligations.StepKeepsMemoryCanonical := fun s t hs ht => by
  unfold step at ht
  split at ht
  · cases ht
    exact (mem_idle s).symm ▸ hs
  · next c rest _ => exact keepsForm_exec c { s with pending := rest } hs t ht

end Sys2Proof.Machine
